-- ==== Sys2Proof/Word.lean ====
section
/-!
DEFINITION. Word.lean: the words the module moves and the plainest operations on them.
Registers are 32 bits wide (R10), bytes are little-endian in memory and in registers (R9), an FET value is an unsigned
64-bit count of nanoseconds (R8), kept here as a Nat below 2^64.
-/
namespace Sys2Proof

/-- One byte. -/
abbrev Byte := BitVec 8

/-- One register (R10). -/
abbrev Word := BitVec 32

/-- A FET value in nanoseconds (R8); `Fet.wrap` keeps it below 2^64. -/
abbrev Fet := Nat

/-- FET arithmetic wraps at 2^64 (R8). -/
def Fet.wrap (n : Nat) : Fet := n % 18446744073709551616

end Sys2Proof
end

