-- ==== Sys2Proof/Syntax.lean ====
section
/-!
DEFINITION. Syntax.lean: the commands of the block, one constructor of `Instr` for each row of the table of operations
and events, with the operands each carries: a request packet, a register write, a frame, a measurement made at the
module's boundary. What a physical check answered (a CRC, a signature, an ECC syndrome, a voltage) is an operand.
-/
namespace Sys2Proof

/-- The path a register access arrives on (18_address_map, "Access paths"); `vf k` is virtual function k. -/
inductive Path where
  | pf (ep : Fin 2)
  | vf (ep : Fin 2) (k : Fin 8)
  | datagram (ip : Word) (port : BitVec 16)
  | snl (coord : BitVec 17)
  | rackBus
  deriving DecidableEq, Repr

/-- The carrier and queue an SCP request arrives on (Table 12.1). `fn` 0 is the PF, k is VF k. -/
inductive Source where
  | pcie (ep : Fin 2) (q : Fin 8) (fn : Fin 8)
  | mgmt (ip : Word) (port : BitVec 16)
  | snl (coord : BitVec 17) (port : Fin 64)
  deriving DecidableEq, Repr

/-- An SCP request: the 32-byte header of Table 12.2 less OPCODE (the constructor names it), and the bytes received
after the header; the UDP port a management datagram went to (R371); whether the writes of its PCI Express queue's completion
ring succeed from now on (R370). -/
structure Request where
  src : Source
  version : BitVec 8 := 1
  flags : BitVec 8 := 0
  part : BitVec 8 := 0
  seq : BitVec 32
  token : BitVec 64 := 0
  plen : BitVec 32 := 0
  status : BitVec 16 := 0
  sqh : BitVec 16 := 0
  rfet : BitVec 64 := 0
  params : List Byte := []
  udpPort : BitVec 16 := 17520
  ringOk : Bool := true
  deriving DecidableEq, Repr

/-- A fault as its checker raises it: the fields of a record (Table 15.3) that the checker knows, and the router input
of a mesh fault (`port`, no part of the record). -/
structure FaultEvent where
  code : Nat
  part : Nat := 0
  lanes : Nat := 0
  collector : Nat := 108
  unitType : Nat := 19
  inst : Nat := 0
  access : Nat := 0
  addr : Nat := 0
  master : Nat := 0
  op0 : Nat := 0
  op1 : Nat := 0
  link : Nat := 0
  injected : Bool := false
  port : Nat := 4
  detail : List Nat := []
  deriving DecidableEq, Repr

/-- Levels of the control and strap pins (Table 17.2). -/
structure Pins where
  rstL : Bool := true
  pwrEn : Bool := false
  coolantOk : Bool := false
  leakDet : Bool := false
  perst0 : Bool := true
  perst1 : Bool := true
  refClkOk : Bool := false
  refPps : Bool := false
  role : Fin 4 := 3
  slotId : Fin 64 := 63
  deriving DecidableEq, Repr

/-- A defect entry (R443). -/
structure DefectEntry where
  type : Nat
  origin : Nat
  loc : Nat
  time : Nat
  deriving DecidableEq, Repr

/-- What the running bring-up step or warm phase measured when it ended (R434, R435, R439, R440). -/
structure StepReport where
  pins : Pins := {}
  vin : Nat := 5400
  converters : Nat := 281474976710655
  railsOk : Bool := true
  carrierOk : Bool := true
  defects : List DefectEntry := []
  bankAOk : Bool := true
  bankBOk : Bool := true
  hostOk : Bool := true
  hostVersion : Nat := 0
  hostBundle : List Byte := []
  fwMismatch : List Nat := []
  auxOk : Bool := true
  scanOk : Bool := true
  align : Nat := 0
  seed : Word := 1
  silent : List (Nat × Nat × Nat) := []
  residueCells : List Nat := []
  mismatches : List (Nat × Nat) := []
  ms : Nat := 0
  deriving DecidableEq, Repr

/-- The payload of a Cicada frame (Table 02.4). -/
structure CicadaFrame where
  txFetPs : Nat
  lastRxFetPs : Nat
  seq : Nat
  lastRxSeq : Nat
  steps : Nat
  state : Nat
  ref : Nat
  estErr : Nat
  utcOffset : Nat := 0
  gmCoord : Nat := 0
  deriving DecidableEq, Repr

/-- A PTP event at the management port (R57): an Announce, or a Sync and Delay_Resp exchange with its offset. -/
inductive PtpEvent where
  | announce (gm : Nat) (logInterval : Int)
  | exchange (gm : Nat) (offsetPs : Int) (spacingNs : Nat)
  deriving DecidableEq, Repr

/-- A temperature sensor (R429): a cluster or uncore domain, a Tier N stack, a Vault, a Port die, a stage converter. -/
inductive Sensor where
  | domain (d : Fin 792)
  | stack (f : Fin 88)
  | vault (v : Fin 12)
  | portDie (k : Fin 8)
  | converter (c : Fin 48)
  deriving DecidableEq, Repr

/-- The readings of one 1 ms thermal window (R429): temperatures in °C of the domains and of the other sensors, coolant in
1/16 °C. -/
structure ThermReport where
  domains : List (Nat × Nat) := []
  others : List (Sensor × Nat) := []
  inlet : Nat := 512
  outTop : Nat := 512
  outBottom : Nat := 512
  inletHotSecond : Bool := false
  deriving DecidableEq, Repr

/-- A quench or generation notice (R471). -/
structure Notice where
  kind : Nat
  part : Nat
  origin : Nat
  index : Nat
  fet : Nat
  gen : Nat := 0
  deriving DecidableEq, Repr

/-- What one member answered to the manager: its position, and the registers read. -/
structure MemberReply where
  t : Fin 8
  chtStatus : Word := 0
  chtStrap : Word := 0
  fltStatus : Word := 0
  pwrDraw : Word := 0
  pwrAlarm : Word := 0
  cfgStatus0 : Word := 0
  tenantRunning : Bool := false
  stageStatus : Nat := 0
  stageEpoch : Nat := 0
  stageDigest : List Byte := []
  standby : List Nat := []
  deriving DecidableEq, Repr

/-- A reply packet, or a later completion, that a member sent the manager: position, status, result. -/
structure ScpReply where
  t : Fin 8
  status : Nat
  result : List Byte := []
  rfet : Nat := 0
  more : Bool := false
  deriving DecidableEq, Repr

/-- The prefix of a proxy datagram (Table 16.3). -/
structure ProxyPrefix where
  target : Nat
  mode : Nat
  pseq : Nat
  c : Nat := 0
  reservedZero : Bool := true
  deriving DecidableEq, Repr

/-- The instructions of the IEEE 1149.1 TAP (R532). -/
inductive TapIr where
  | bypass | idcode | samplePreload | extest | clamp | highz
  deriving DecidableEq, Repr
/-- A word with its poison mark (R119). -/
structure PWord where
  w : Word := 0
  bad : Bool := false
  deriving DecidableEq, Repr

/-- A Synael Link frame: the header of Table 09.3, its payload without the authentication unit, the frame counter of that
unit (R298), the trailer's tag and CRC-32 (R296), the link sequence number (SOF_SEQ). `authOk`: the AES-GMAC tag
verifies. -/
structure Frame where
  ver : Nat := 1
  cls : Nat
  part : Nat := 0
  gen : Nat := 0
  epoch : Nat := 0
  digest : Nat := 0
  tag : Nat := 0
  dst : Nat := 0
  src : Nat := 0
  auth : Bool := false
  poison : Bool := false
  dl : Bool := false
  payload : List Byte := []
  seq : Nat := 0
  counter : Nat := 0
  mac : List Byte := []
  crc : Nat := 0
  authOk : Bool := true
  deriving DecidableEq, Repr

/-- A received block's link control word (Table 09.2; LINKMSG as its slot number and code), and the bytes of the block that
the channel changed, by their place in it. -/
structure Lcw where
  btype : Nat := 0
  sof : Bool := false
  sofPos : Nat := 0
  sofSeq : Nat := 0
  ackSeq : Nat := 0
  nak : Bool := false
  crSel : Nat := 0
  crCount : Nat := 0
  slot : Nat := 0
  code : Nat := 0
  errs : List (Fin 896) := []
  deriving DecidableEq, Repr

/-- What an ERU takes in (R262, R271): a frame from its port, or the next packet of a field's port sub-channel; `outbound`: that
packet leaves the module as a data frame instead, for a module and a place there that the spec lets no header name. `ecc`:
0 none, 1 corrected, 2 uncorrectable in the window buffers (R274). -/
inductive EruIn where
  | frame (fr : Frame)
  | mesh (f : Fin 88)
  | outbound (f : Fin 88) (coord : BitVec 17) (dst : BitVec 13) (addr : BitVec 15)
  deriving DecidableEq, Repr

/-- What SECDED found in one flit at a router input (R215): flit 0 is the header; a single-bit error in a quarter, or one
that it cannot correct. -/
structure FlitErr where
  flit : Nat
  quarter : Fin 8
  double : Bool
  deriving DecidableEq, Repr

/-- The version masks and coordinate a partner sent in NEGOTIATE (R321), the equaliser coefficients adapted in training, lane
by lane (R322, Table 09.1), and the length of the training. -/
structure Negotiation where
  snl : Nat := 2
  ver : Nat := 2
  scp : Nat := 2
  fwi : Nat := 2
  plan : Nat := 4
  peerPort : Nat := 0
  peerCoord : Nat := 0
  eq : List (List Nat) := []
  ms : Nat := 0
  deriving DecidableEq, Repr

/-- A Firefly payload (Table 09.6). -/
structure FireflyFrame where
  coord : Nat
  role : Nat := 0
  slot : Nat := 0
  quenched : Nat := 0
  worst : Nat := 0
  seq : Nat := 0
  txFet : Nat := 0
  mgr : Nat := 0
  port : Nat := 0
  deriving DecidableEq, Repr

/-- What a register read asks for: byte offset in BAR0 and width in bytes (R15). -/
structure RegRead where
  off : Nat
  bytes : Nat
  deriving DecidableEq, Repr

/-- The end of a sentinel tile: the uncore cycle, and the local index of the cell that compares (R179). -/
structure TileEnd where
  cyc : Nat
  cell : Fin 64
  deriving DecidableEq, Repr

/-- How micro-operations issue: results whose residue fails (R122), and which accesses take columns (R109). -/
structure MicroOp where
  resErr : Nat
  col : BitVec 3
  deriving DecidableEq, Repr

/-- A node's packet as it enters the mesh: the node, and the errors its flits meet at the local input (R215). -/
structure NodeFlits where
  node : Fin 78
  errs : List FlitErr
  deriving DecidableEq, Repr

/-- How an input reaches an ERU: its first flit alone, or all of it (R271); the check of its window write (R274), and how many
of its flits are early (R77). -/
structure EruArrival where
  first : Bool := false
  ecc : Fin 3
  early : Nat
  deriving DecidableEq, Repr

/-- A rate-change LINKMSG: the port it reaches and the slot it names (R323). -/
structure RateProposal where
  port : Fin 64
  slot : Nat
  deriving DecidableEq, Repr

/-- The commands of the block: one constructor per row of the table of operations and events. -/
inductive Instr where
  /-- NOP (R385): SCP opcode 00: completes OK, and with FENCE shows that every earlier request of the queue has completed. -/
  | nop (r : Request)
  /-- IDENTIFY (R385): SCP opcode 01: returns the 64-byte identity result. -/
  | identify (r : Request)
  /-- NEGOTIATE (R386): SCP opcode 02: settles the SCP, firmware-interface and plan-format versions for the queue. -/
  | negotiate (r : Request)
  /-- TIME_QUERY (R385): SCP opcode 08: returns FET, TIM_STATUS, TIM_ALIGN_FET and the partition's step base. -/
  | timeQuery (r : Request)
  /-- PART_CREATE (R345): SCP opcode 10: applies the checks of Table 11.3 in order and creates a tenant partition under R349. -/
  | partCreate (r : Request)
  /-- PART_DESTROY (R350): SCP opcode 11: stops, erases and zeroes the partition, then returns its fields to partition 0. -/
  | partDestroy (r : Request)
  /-- PART_QUERY (R387): SCP opcode 12: returns the PRT_ registers of the partition and clears PEAK as a read would. -/
  | partQuery (r : Request)
  /-- KEY_INSTALL (R387): SCP opcode 18: loads the selected Tier C, Tier P or link keys into every Vault or Port die. -/
  | keyInstall (r : Request)
  /-- PLAN_LOAD (R154): SCP opcode 20: checks a plan image whole, then stores it under a handle or frees the handle. -/
  | planLoad (r : Request) (data : List Byte)
  /-- PLAN_BIND (R182): SCP opcode 21: binds one resident image to every field of the partition, or binds none. -/
  | planBind (r : Request)
  /-- PLAN_START (R183): SCP opcode 22: starts every bound field at bundle 0, clears the tag tables and sets the state to RUNNING. -/
  | planStart (r : Request)
  /-- PLAN_STOP_GRACEFUL (R184): SCP opcode 23 with MODE 0: the stop takes effect when each sequencer next reaches bundle 0. -/
  | planStopGraceful (r : Request)
  /-- PLAN_STOP_IMMEDIATE (R184): SCP opcode 23 with MODE 1: sequencers stop issuing, and cells abandon their queues and parked slots. -/
  | planStopImmediate (r : Request)
  /-- STEP_ARM (R389): SCP opcode 28: arms a step boundary FET on every unit of the partition. -/
  | stepArm (r : Request)
  /-- STEP_COMMIT (R390): SCP opcode 29: completes once the step that began at S meets every commit condition. -/
  | stepCommit (r : Request)
  /-- MOVE_INTO_TIER (R391): SCP opcode 30 with DIR 0: moves host or inline data into Tier N or Tier C through the fences. -/
  | moveIntoTier (r : Request) (data : List Byte)
  /-- MOVE_OUT_OF_TIER (R391): SCP opcode 30 with DIR 1: moves data out of Tier N or Tier C to the host or as the result. -/
  | moveOutOfTier (r : Request)
  /-- QUEUE_CONFIG (R238): SCP opcode 31: sets DEPTH, OUT_LIMIT and PRIO of a mover queue in every named field, or in none. -/
  | queueConfig (r : Request)
  /-- CKPT_WRITE (R230): SCP opcode 38: arms a checkpoint of the named Tier C regions at epoch E. -/
  | ckptWrite (r : Request)
  /-- CKPT_RESTORE (R233): SCP opcode 39: restores the partition from a Tier P checkpoint slot named by a completion record. -/
  | ckptRestore (r : Request)
  /-- MIGRATE (R392): SCP opcode 40: withdraws one or two fields by binding a family variant and updating the map at boundary S. -/
  | migrate (r : Request)
  /-- MAP_UPDATE (R212): SCP opcode 41: writes the shadow L2P, MSH_FIELD_OK and GEN copies of every NI and names an activation FET. -/
  | mapUpdate (r : Request)
  /-- CFG_STAGE (R396): SCP opcode 48: places entries in the partition's staging area and returns the staged epoch and digest. -/
  | cfgStage (r : Request)
  /-- CFG_COMMIT (R397): SCP opcode 49: checks and accepts a commit of the staged area at step boundary C and freezes the area. -/
  | cfgCommit (r : Request)
  /-- ENVELOPE_SET (R415): SCP opcode 50 with KIND 0: replaces pending envelope breakpoints with new ceiling, floor and ramp breakpoints. -/
  | envelopeSet (r : Request)
  /-- ENVELOPE_SET_BUDGET (R358): SCP opcode 50 with KIND 1: grants a new power budget to a tenant partition if it fits the pool. -/
  | envelopeSetBudget (r : Request)
  /-- FAULT_QUERY (R465): SCP opcode 58: returns the fault summary or a fault record, filtered to the VF's partition. -/
  | faultQuery (r : Request)
  /-- FAULT_INJECT (R393): SCP opcode 59: writes an inject register at once, or arms the write for an FET. -/
  | faultInject (r : Request)
  /-- FAULT_CLEAR (R466): SCP opcode 5A: marks a record CLEARED unless its cause persists, and can return a partition to READY. -/
  | faultClear (r : Request)
  /-- SENTINEL_RUN (R393): SCP opcode 60: runs sentinel tiles on the named fields and reports the mismatching cells. -/
  | sentinelRun (r : Request)
  /-- QUENCH_PARTITION (R394): Chitin opcode 70 with SCOPE 0: quenches partition PART and raises a class 3 QUENCH_CMD record. -/
  | quenchPartition (r : Request)
  /-- QUENCH_MODULE (R394): Chitin opcode 70 with SCOPE 1: quenches the module and raises a class 4 QUENCH_CMD record. -/
  | quenchModule (r : Request)
  /-- POWER_DOMAIN_OFF (R414): Chitin opcode 71 with ACTION 0: turns a domain off and ends any on-request for it that is queued or in progress. -/
  | powerDomainOff (r : Request)
  /-- POWER_DOMAIN_ON (R413): Chitin opcode 71 with ACTION 1: queues a domain wake for admission by the token bucket. -/
  | powerDomainOn (r : Request)
  /-- POWER_DOMAIN_MODULE_OFF (R394): Chitin opcode 71 with ACTION 2: turns the whole module off within 20 ms. -/
  | powerDomainModuleOff (r : Request)
  /-- RESET_WARM_REINIT (R447): Chitin opcode 7F with KIND 0: runs the warm re-initialisation phases W1 to W6. -/
  | resetWarmReinit (r : Request)
  /-- RESET_MODULE (R446): Chitin opcode 7F with KIND 1: turns every converter and regulator off, disables every queue, and leaves the module needing a cold bring-up. -/
  | resetModule (r : Request)
  /-- RESET_PIN_SAFE (R394): Chitin opcode 7F with KIND 2: makes the pins safe within 1 ms until a module reset or power cycle. -/
  | resetPinSafe (r : Request)
  /-- COMMAND_COMPLETION (R379): An asynchronous command finishes, and its completion with the same SEQ and TOKEN is posted. -/
  | commandCompletion (src : Source) (seq : BitVec 32)
  /-- SYSTEM_SCARAB_FAILOVER (R366): The field of the system or lead Scarab fails, and the next field takes the role within 1 ms. -/
  | systemScarabFailover (f : Fin 88)
  /-- SQ_TAIL_DOORBELL (R370): A write of CHT_SQ_TAIL makes the module read posted submission entries in ring order. -/
  | sqTailDoorbell (via : Path) (ep : Fin 2) (q : Fin 8) (value : Word) (ringOk : Bool)
  /-- CQ_HEAD_DOORBELL (R370): A write of CHT_CQ_HEAD frees completion entries, so waiting replies can be written. -/
  | cqHeadDoorbell (via : Path) (ep : Fin 2) (q : Fin 8) (value : Word) (ringOk : Bool)
  /-- QUEUE_ENABLE (R370): Setting CHT_Q_CFG.EN resets NEXT, the heads, the tails and the phase of a PCI Express queue. -/
  | queueEnable (via : Path) (ep : Fin 2) (q : Fin 8) (value : Word)
  /-- MGMT_QUEUE_EXPIRY (R371): A management-port queue is freed after 60 s without a datagram. -/
  | mgmtQueueExpiry (ip : Word) (port : BitVec 16)
  /-- CHITIN_POWER_UP (R434): Chitin powers up and runs bring-up step 1 by itself: self-check, measurement, strap sampling and start of the OCXO. -/
  | chitinPowerUp (pins : Pins) (lockstepOk : Bool) (measured : Bool)
  /-- BU_GO (R432): A write of CHT_BU_CTRL.GO runs bring-up steps STEP_DONE + 1 through TARGET. -/
  | buGo (via : Path) (value : Word)
  /-- BU_ABORT (R432): A write of CHT_BU_CTRL.ABORT ends the bring-up run when the current step completes. -/
  | buAbort (via : Path) (value : Word)
  /-- BU_STEP_COMPLETE (R432): A bring-up step meets its completion condition or fails, and the next step starts or the run ends. -/
  | buStepComplete (rep : StepReport)
  /-- RST_L_ASSERT (R433): RST_L is asserted, so every block except Chitin and time is held in reset, or a module reset follows if after step 2. -/
  | rstLAssert 
  /-- RST_L_RELEASE (R517): RST_L is released, which freezes the straps and releases the reset hold. -/
  | rstLRelease 
  /-- RESET_STUCK (R433): RST_L has been held for 30,000 ms, so RESET_STUCK is set, ALERT_L is asserted and a note is recorded. -/
  | resetStuck 
  /-- RST_PIN_MASK_SET (R433): A write of 1 to CHT_RST_PIN_MASK.MASK while RESET_STUCK = 1 makes the module ignore RST_L. -/
  | rstPinMaskSet (via : Path) (value : Word)
  /-- STRAP_SAMPLE (R517): While RST_L is held, Chitin samples ROLE and SLOT_ID every 1 ms. -/
  | strapSample (role : Fin 4) (slot : Fin 64)
  /-- PWR_EN_DEASSERT (R519): PWR_EN is deasserted after step 2, so the module quenches and then powers off, or the running step fails with code 3. -/
  | pwrEnDeassert (rstToo : Bool)
  /-- DEFECT_ADD (R444): A write of CHT_DEFECT_CTRL.ADD appends an operator defect entry, or sets FULL when the map is full. -/
  | defectAdd (via : Path) (value : Word)
  /-- DEFECT_PURGE (R444): A write of CHT_DEFECT_CTRL.PURGE removes every entry of origin 1 to 3 at the next cold bring-up. -/
  | defectPurge (via : Path) (value : Word)
  /-- REF_PPS_EDGE (R58): A rising edge of REF_PPS is time-stamped, corrected by TIM_PPS_DELAY and used for qualification and sampling. -/
  | refPpsEdge (stampPs : Nat) (refClkOk : Bool)
  /-- PTP_EXCHANGE (R57): A PTP Sync and Delay_Resp exchange or an Announce message is received on the management port. -/
  | ptpExchange (ev : PtpEvent)
  /-- PTP_MESSAGE_TIMEOUT (R57): Announce or Sync intervals pass without a message, so the PTP reference is lost. -/
  | ptpMessageTimeout 
  /-- REF_QUALIFIED (R55): A reference meets its qualification criteria, or is provisionally qualified in FREE, and selection runs. -/
  | refQualified (code : Fin 5) (port : Fin 64)
  /-- REF_LOST (R61): The selected reference meets a loss criterion, so the loop moves to SWITCH or HOLDOVER. -/
  | refLost (code : Fin 5) (port : Fin 64) (clkLost : Bool)
  /-- PROVISIONAL_TIMEOUT (R56): A provisional reference is not confirmed within 3 s, so it fails. -/
  | provisionalTimeout (code : Fin 5)
  /-- DISCIPLINE_SAMPLE (R62): An offset sample drives the disciplining loop, and the 100th consecutive good sample reaches LOCKED. -/
  | disciplineSample (offsetPs : Int)
  /-- SWITCH_COMPLETE (R63): The slew of a switch brings the residual offset to 2 ns or less, so the loop returns to LOCKED. -/
  | switchComplete (residualPs : Int)
  /-- REVERT_TIMER (R65): A higher-priority reference has stayed qualified for REVERT_MS, so a switch to it begins. -/
  | revertTimer (code : Fin 5) (port : Fin 64)
  /-- OVEN_STABLE (R66): The OCXO oven has held its temperature for 60 s, so OVEN_OK is set. -/
  | ovenStable 
  /-- HOLDOVER_LEARNED (R66): OVEN_OK and LOCKED have held together for 15 minutes, so LEARNED is set. -/
  | holdoverLearned 
  /-- HOLD_LIMIT_EXCEEDED (R66): EST_ERR in holdover exceeds HOLD_LIMIT_NS, so TIM_ALARM.HOLD_LIMIT is set and a note is recorded. -/
  | holdLimitExceeded 
  /-- CICADA_SEND (R69): Each trained port sends a Cicada frame every PERIOD_US, with TX_FET inserted in flight. -/
  | cicadaSend (port : Fin 64)
  /-- CICADA_RECEIVE (R67): A received Cicada frame yields delay and offset samples for the port and possibly for the loop. -/
  | cicadaReceive (port : Fin 64) (hdr : Frame) (frame : CicadaFrame) (rxFetPs : Nat)
  /-- CLK_CTRL_ARM (R54): A write of CLK_CTRL.ARM arms an operating-point change at CLK_OP_FET, and the regulators start toward the new set point. -/
  | clkCtrlArm (via : Path) (f : Fin 88) (value : Word)
  /-- OP_CHANGE_DUE (R54): An armed operating-point change takes effect at the first FET multiple of 20 ns at or after its FET. -/
  | opChangeDue (f : Fin 88)
  /-- OP_VOLTAGE_READY (R405): The regulator reaches the higher set point, and a delayed upward change takes effect. -/
  | opVoltageReady (f : Fin 88)
  /-- TIM_FET_LO_READ (R81): A read of a _LO register of an RO pair latches the upper half for that requester. -/
  | timFetLoRead (via : Path) (read : RegRead)
  /-- DRAW_PEAK_READ (R545): A read of PWR_DRAW or PRT_DRAW by any path clears PEAK. -/
  | drawPeakRead (via : Path) (read : RegRead)
  /-- BUNDLE_ISSUE (R163): The Plan Sequencer processes one bundle and broadcasts it to the cell queues when each has room. -/
  | bundleIssue (f : Fin 88) (cyc : Nat)
  /-- STEP_BUNDLE (R167): The STEP bundle issues at an armed step boundary: it sets the step base, takes lane enables, counts the step and applies staged configuration. -/
  | stepBundle (f : Fin 88) (cyc : Nat)
  /-- GATE_DUE (R168): The FET gate of a WORK or MOVE bundle falls due, and the bundle issues or is counted late. -/
  | gateDue (f : Fin 88) (cyc : Nat)
  /-- LOOP_END (R174): A LOOP_END bundle increments its level counter and branches back, or resets the counter and falls through. -/
  | loopEnd (f : Fin 88) (cyc : Nat)
  /-- END_BUNDLE (R156): The END bundle returns the sequencer to bundle 0. -/
  | endBundle (f : Fin 88) (cyc : Nat)
  /-- MOVE_BUNDLE (R177): A MOVE bundle posts its valid slots to their mover queues once every post fits. -/
  | moveBundle (f : Fin 88) (cyc : Nat)
  /-- SENTINEL_BUNDLE (R178): A SENTINEL bundle runs one 512-cycle sentinel tile in every in-service cell. -/
  | sentinelBundle (f : Fin 88) (cyc : Nat)
  /-- SENT_SIG_COMPARE (R179): A cell compares its partner's sentinel signature with its own and raises a class 2 fault on a mismatch. -/
  | sentSigCompare (f : Fin 88) (ended : TileEnd)
  /-- RESERVE_SENTINEL_TILE (R181): An idle reserve cell completes a sentinel tile and compares it with its reserve partner. -/
  | reserveSentinelTile (f : Fin 88) (pos : Fin 72) (sigErr : Word)
  /-- CELL_REPETITION_BEGIN (R164): A cell begins a repetition of an in-order bundle, arming guards and parking guarded slots. -/
  | cellRepetitionBegin (f : Fin 88) (pos : Fin 72) (cyc : Nat) (sigErr : Word)
  /-- SLOT_BEGIN (R165): A slot begins once its units are free and its order group allows. -/
  | slotBegin (f : Fin 88) (pos : Fin 72) (cyc : Nat) (id : Nat)
  /-- SLOT_END (R173): A slot issues its last micro-operation, releasing its units and letting later slots of its order group begin. -/
  | slotEnd (f : Fin 88) (pos : Fin 72) (cyc : Nat) (id : Nat)
  /-- MICRO_OP_ISSUE (R84): The micro-sequencer issues micro-operations of a running slot, or stalls. -/
  | microOpIssue (f : Fin 88) (pos : Fin 72) (cyc : Nat) (id : Nat) (op : MicroOp) (upset : BitVec 128)
  /-- SCRATCHPAD_ACCESS_GRANT (R113): A shared scratchpad port grants a queued request by the 8-cycle wheel. -/
  | scratchpadAccessGrant (f : Fin 88) (pos : Fin 72) (cyc : Nat) (wport : Bool) (upset : BitVec 128)
  /-- ARRIVAL_RECORD (R102): The firing unit records the arrival of a tagged packet or mover completion. -/
  | arrivalRecord (f : Fin 88) (pos : Fin 72) (cyc : Nat)
  /-- GUARD_EXPIRY (R105): A guard's window passes without enough arrivals, a slot miss that poisons the slot's results. -/
  | guardExpiry (f : Fin 88) (pos : Fin 72) (cyc : Nat)
  /-- SCRATCHPAD_ZERO_DONE (R117): Scratchpad zeroing ends after 32,768 write cycles, and held requests proceed. -/
  | scratchpadZeroDone (f : Fin 88) (pos : Fin 72)
  /-- CEL_FU_CLEAR (R107): A write of CEL_CTRL.FU_CLEAR clears the tag table while no plan of the partition is started. -/
  | celFuClear (via : Path) (f : Fin 88) (pos : Fin 72) (value : Word)
  /-- CEL_SP_ZERO (R117): A write of CEL_CTRL.SP_ZERO starts zeroing the scratchpad while no plan of the partition is started. -/
  | celSpZero (via : Path) (f : Fin 88) (pos : Fin 72) (value : Word)
  /-- CEL_CNT_CLEAR (R125): A write of CEL_CTRL.CNT_CLEAR clears the cell's error and stall counters. -/
  | celCntClear (via : Path) (f : Fin 88) (pos : Fin 72) (value : Word)
  /-- CEL_SP_ARM (R124): A write of CEL_INJECT.SP_ARM stores the next datapath write with inverted parity. -/
  | celSpArm (via : Path) (f : Fin 88) (pos : Fin 72) (value : Word)
  /-- CEL_RES_ARM (R124): A write of CEL_INJECT.RES_ARM inverts the residue of the next operation of the chosen unit. -/
  | celResArm (via : Path) (f : Fin 88) (pos : Fin 72) (value : Word)
  /-- FLD_CNT_CLEAR (R186): A write of FLD_CTRL.CNT_CLEAR clears QMAX and the field's gate, back-pressure, hold and sentinel counts. -/
  | fldCntClear (via : Path) (f : Fin 88) (value : Word)
  /-- PACKET_INJECT (R203): A sending NI computes the route and injects a packet, waiting for buffer and retry-record room. -/
  | packetInject (f : Fin 88) (sent : NodeFlits)
  /-- PACKET_HOP (R189): A router or express channel forwards a packet one hop by wormhole. -/
  | packetHop (id : Nat) (errs : List FlitErr)
  /-- PACKET_RECEIVE (R205): A receiving NI applies its checks to a packet's header, grants a context or returns BUSY, and commits the accesses. -/
  | packetReceive (id : Nat)
  /-- BUSY_RECEIVE (R208): A sender receives BUSY for a packet and schedules a resend after backoff. -/
  | busyReceive (id : Nat)
  /-- RETRY_BACKOFF_EXPIRY (R208): The backoff of a refused packet ends, and the whole packet is resent from its retry record. -/
  | retryBackoffExpiry (f : Fin 88) (node : Fin 78) (k : Nat)
  /-- RETRY_RECORD_LAPSE (R204): A retry record lapses after 2,048 cycles without a resend or BUSY. -/
  | retryRecordLapse (f : Fin 88) (node : Fin 78) (k : Nat)
  /-- MAP_ACTIVATION (R212): At the activation FET every NI swaps its map copies, and changed partitions increment GEN. -/
  | mapActivation 
  /-- DRAIN_WINDOW_END (R213): The 200 µs drain window after activation closes, and old-GEN headers no longer pass. -/
  | drainWindowEnd 
  /-- MSH_INJECT_ARM (R217): A write of MSH_INJECT.ARM inverts check bits of the next flit on the chosen output. -/
  | mshInjectArm (via : Path) (f : Fin 88) (value : Word)
  /-- MSH_CNT_CLEAR (R218): A write of MSH_FCTRL.CNT_CLEAR clears the field's mesh counts and high-water marks. -/
  | mshCntClear (via : Path) (f : Fin 88) (value : Word)
  /-- DESCRIPTOR_START (R239): A mover queue starts a descriptor under its post order and OUT_LIMIT, after checking it. -/
  | descriptorStart (f : Fin 88) (q : Fin 32)
  /-- MOVER_ACCESS_START (R240): The mover engine starts one access of a running descriptor when the cell's queue has room. -/
  | moverAccessStart (f : Fin 88) (branch : Fin 9)
  /-- MOVER_ACCESS_COMPLETE (R241): A mover access commits in a scratchpad or is acknowledged by a tier. -/
  | moverAccessComplete (f : Fin 88) (acc : Nat) (ecc : Fin 3)
  /-- DESCRIPTOR_COMPLETE (R241): A descriptor completes for a cell or as a whole, recording TAGGED arrivals and freeing its queue entry. -/
  | descriptorComplete (f : Fin 88) (q : Fin 32)
  /-- TIER_ACK_ARRIVAL (R242): A queued tier-acknowledgement arrival is recorded in the first cycle without a commit arrival. -/
  | tierAckArrival (f : Fin 88) (pos : Fin 72) (cyc : Nat)
  /-- TIER_N_ZERO_DONE (R220): Zeroing of a Tier N stack ends, and the field may join a partition. -/
  | tierNZeroDone (f : Fin 88)
  /-- PATROL_SCRUB (R221): The controller scrubs the whole stack once per PERIOD_H hours. -/
  | patrolScrub (x : Fin 100) (corrected : List Nat) (uncorrectable : List Nat)
  /-- VLT_N_INJECT (R253): A write of VLT_N_CTRL.INJECT stores the next Tier N write with two inverted check bits. -/
  | vltNInject (via : Path) (f : Fin 88) (value : Word)
  /-- VLT_C_INJECT (R253): A write of VLT_CTRL.INJECT stores the next Tier C write with two inverted check bits. -/
  | vltCInject (via : Path) (v : Fin 12) (value : Word)
  /-- VLT_N_CNT_CLEAR (R254): A write of VLT_N_CTRL.CNT_CLEAR clears the field's Tier N and mover counts. -/
  | vltNCntClear (via : Path) (f : Fin 88) (value : Word)
  /-- VLT_CNT_CLEAR (R254): A write of VLT_CTRL.CNT_CLEAR clears VLT_C_ECC_CNT and UE_WAITS. -/
  | vltCntClear (via : Path) (v : Fin 12) (value : Word)
  /-- CKPT_EPOCH (R230): At checkpoint epoch E, each Vault marks every segment of the named regions unsaved. -/
  | ckptEpoch (p : Fin 8)
  /-- SEGMENT_SAVE (R230): The Vault's checkpoint writer copies the next unsaved segment to Tier P. -/
  | segmentSave (v : Fin 12)
  /-- COPY_ON_WRITE (R231): An Update Engine write to an unsaved segment first copies the segment to the snapshot reserve, waiting for a free segment. -/
  | copyOnWrite (v : Fin 12) (addr : Nat) (ok : Bool)
  /-- CKPT_COMPLETION_RECORD (R233): Every segment is saved, so Vault 0 writes the completion record and CKPT_WRITE completes. -/
  | ckptCompletionRecord (p : Fin 8)
  /-- JOURNAL_STAGING_FLUSH (R234): Vault 0 writes the journal staging buffer to Tier P when it holds 8 MiB or 10 ms have passed. -/
  | journalStagingFlush 
  /-- ERU_INPUT_ARRIVAL (R271): A gradient, abstain or relayed input enters an ERU reorder window, or is refused or dropped. -/
  | eruInputArrival (n : Fin 64) (inp : EruIn) (arrival : EruArrival)
  /-- ERU_BUSY_RESEND (R271): After the backoff of a link BUSY, the sending ERU resends from its replay copy. -/
  | eruBusyResend (n : Fin 64) (tag : BitVec 24)
  /-- ERU_SLOT_DEADLINE (R264): At deadline D the ERU forms and transmits its outgoing partial, abstaining late inputs. -/
  | eruSlotDeadline (n : Fin 64) (e : Fin 128) (c : Nat)
  /-- ERU_RESULT_DEADLINE (R268): At its result deadline an index forwards the result and delivers it, or raises RESULT_MISSING. -/
  | eruResultDeadline (n : Fin 64) (e : Fin 128) (c : Nat)
  /-- VERDICT_TIME (R257): At V the Port die sends the sending cell its verdict access, −1.0 if abstained. -/
  | verdictTime (n : Fin 64) (e : Fin 128) (c : Nat)
  /-- ABSTAIN_NOTICE_RECEIVE (R266): A source receives an abstain notice, relays it to the chunk's Port die and counts its abstaining step. -/
  | abstainNoticeReceive (n : Fin 64) (fr : Frame)
  /-- ERU_SCHED_WRITE (R288): A write to an ERU schedule entry, discarded while the partition's plan is started and left invalid with CODE 5 when malformed. -/
  | eruSchedWrite (via : Path) (n : Fin 64) (e : Fin 128) (k : Fin 4) (value : Word)
  /-- ERU_CNT_CLEAR (R288): A write of ERU_CTRL.CNT_CLEAR clears the ERU's counts and window high-water mark. -/
  | eruCntClear (via : Path) (n : Fin 64) (value : Word)
  /-- ERU_INJECT_ARM (R274): A write of ERU_INJECT.ARM inverts two check bits of the next window write. -/
  | eruInjectArm (via : Path) (n : Fin 64) (value : Word)
  /-- RESULT_DELIVERY (R277): A result reaches a Vault and is taken by the matching group's Update Engines. -/
  | resultDelivery (v : Fin 12)
  /-- GROUP_UPDATE (R280): The Update Engines apply the optimizer to a group's elements and write the group record. -/
  | groupUpdate (v : Fin 12) (g : Fin 16)
  /-- CLIP_PHASE2 (R283): The global norm total arrives, so Vault 0 computes the clip factor and the groups update from GBUF. -/
  | clipPhase2 (p : Fin 8)
  /-- STATE_DIGEST (R276): Every group of the partition has finished its update, so the state digest is formed and sent. -/
  | stateDigest (p : Fin 8)
  /-- STATE_DIGEST_RECEIVE (R276): A state digest frame is compared with the module's own digest of the same step. -/
  | stateDigestReceive (n : Fin 64) (fr : Frame)
  /-- DIGEST_TIMEOUT (R276): No peer digest arrives within one step, so a class 0 note is raised. -/
  | digestTimeout (p : Fin 8)
  /-- UPD_G_CFG_WRITE (R286): A write of UPD_G_CFG makes a group valid and loads STEP, P1 and P2, or is refused. -/
  | updGCfgWrite (via : Path) (v : Fin 12) (g : Fin 16) (value : Word)
  /-- UPD_CNT_CLEAR (R289): A write of UPD_CTRL.CNT_CLEAR clears the hold, skip and UE-wait counts. -/
  | updCntClear (via : Path) (v : Fin 12) (value : Word)
  /-- LCW_RECEIVE (R294): A decoded block's link control word returns credits and acknowledgements or carries a link message. -/
  | lcwReceive (n : Fin 64) (lcw : Lcw)
  /-- BLOCK_TRANSMIT (R307): At a block boundary the port chooses the first eligible frame under the slot guard. -/
  | blockTransmit (n : Fin 64)
  /-- DATA_FRAME_RECEIVE (R299): A received data frame is checked and delivered into the wafer through a chosen field's sub-channel. -/
  | dataFrameReceive (n : Fin 64) (fr : Frame)
  /-- FRAME_FORWARD (R311): A forwarded-class frame addressed elsewhere leaves by dimension-order routing, cut-through or stored. -/
  | frameForward (n : Fin 64) (fr : Frame)
  /-- BUSY_FRAME_RECEIVE (R271): A link BUSY frame refuses a frame at a reorder window, and the sender schedules a resend. -/
  | busyFrameReceive (n : Fin 64) (fr : Frame)
  /-- FIREFLY_RECEIVE (R300): A Firefly frame is received and refreshes partner liveness. -/
  | fireflyReceive (n : Fin 64) (hdr : Frame) (fr : FireflyFrame)
  /-- FIREFLY_SEND (R300): Each port in STANDBY or ACTIVE sends a Firefly frame every 100 µs. -/
  | fireflySend (n : Fin 64)
  /-- CONFIG_DIGEST_SEND (R304): Every 1 ms each port sends configuration digest frames for partition 0 and its partitions. -/
  | configDigestSend (n : Fin 64)
  /-- CONFIG_DIGEST_RECEIVE (R304): A configuration digest frame is compared with the receiver's digest at equal epochs. -/
  | configDigestReceive (n : Fin 64) (fr : Frame)
  /-- MANAGEMENT_FRAME_RECEIVE (R539): A management-class frame from the followed manager or standby reads or writes registers. -/
  | managementFrameReceive (n : Fin 64) (fr : Frame)
  /-- PARTNER_LOST (R301): No good frame for 300 µs or no signal lock for 1 µs, so the port goes DARK. -/
  | partnerLost (n : Fin 64)
  /-- WAKE_BURST (R314): A DARK port sends a 1 µs wake burst every 100 ms. -/
  | wakeBurst (n : Fin 64)
  /-- PORT_ENABLE (R318): SNL_CTRL.EN is set with the Port die powered, so the port leaves OFF for DARK. -/
  | portEnable (via : Path) (n : Fin 64) (value : Word)
  /-- PARTNER_SIGNAL_DETECT (R318): Partner signal is detected on 16 lanes, so the port enters DETECT. -/
  | partnerSignalDetect (n : Fin 64)
  /-- BLOCK_LOCK (R318): Block lock on all lanes takes the port from DETECT to TRAIN. -/
  | blockLock (n : Fin 64)
  /-- DETECT_TIMEOUT (R318): No block lock within 50 ms returns the port to DARK. -/
  | detectTimeout (n : Fin 64)
  /-- TRAIN_CONVERGED (R318): Equaliser adaptation converges, so the port enters QUALIFY. -/
  | trainConverged (n : Fin 64)
  /-- QUALIFY_WINDOW_END (R320): The 1.0 s error count ends, and the port passes, retrains, drops to reduced rate or fails. -/
  | qualifyWindowEnd (n : Fin 64) (errors : List Nat) (uncorrectable : Bool)
  /-- NEGOTIATE_COMPLETE (R321): Version negotiation, coordinate exchange and calibration finish, so the port enters STANDBY or FAILED. -/
  | negotiateComplete (n : Fin 64) (neg : Negotiation)
  /-- PORT_RETRY (R318): A write of SNL_CTRL.RETRY takes a FAILED port to DETECT. -/
  | portRetry (via : Path) (n : Fin 64) (value : Word)
  /-- SNL_RETRAIN_REQUEST (R324): A write of SNL_CTRL.RETRAIN requests a retrain window search. -/
  | snlRetrainRequest (via : Path) (n : Fin 64) (value : Word)
  /-- RETRAIN_LINKMSG (R324): A retrain proposal or acceptance is received, and the ends agree on an idle window or propose the next. -/
  | retrainLinkmsg (n : Fin 64) (accept : Bool) (slot : Nat)
  /-- RETRAIN_WINDOW_START (R324): The agreed idle window begins, so the port leaves the live set and retrains. -/
  | retrainWindowStart (n : Fin 64)
  /-- RETRAIN_COMPLETE (R318): A retrain completes with margin restored, or block lock is lost. -/
  | retrainComplete (n : Fin 64) (lockLost : Bool) (restored : Bool) (eq : List (List Nat))
  /-- RETRAIN_SEARCH_TIMEOUT (R324): No retrain window is agreed within 10 s, so a note is raised and the search continues. -/
  | retrainSearchTimeout (n : Fin 64)
  /-- MARGIN_MONITOR_ARM (R323): The margin monitors of a port are armed at their first trigger. -/
  | marginMonitorArm (n : Fin 64)
  /-- MARGIN_WINDOW (R323): A 1 ms margin window ends, and low margin proposes a rate change. -/
  | marginWindow (n : Fin 64) (lanes : List (Nat × Nat))
  /-- RATE_CHANGE_PROPOSAL (R323): A rate-change LINKMSG schedules both ends to change rate at a later slot. -/
  | rateChangeProposal (msg : RateProposal)
  /-- RATE_CHANGE (R323): At the agreed slot both ends change line rate and relock. -/
  | rateChange (n : Fin 64)
  /-- SNL_INJECT_ARM (R489): A write of SNL_INJECT.ARM inverts the chosen FEC, CRC or GMAC bits once. -/
  | snlInjectArm (via : Path) (n : Fin 64) (value : Word)
  /-- CONFIG_COMMIT_DUE (R398): At commit FET C, staged values, epochs and digests take effect in the order of R453. -/
  | configCommitDue (p : Fin 8)
  /-- PARTITION_POWER_WINDOW (R359): Each 1 ms window the power block compares a partition's draw with its effective budget and adjusts its operating point. -/
  | partitionPowerWindow (p : Fin 8) (draw : BitVec 16)
  /-- MODULE_POWER_WINDOW (R417): Each 1 ms window the module's draw is checked against the ceiling and the ramp limit. -/
  | modulePowerWindow (draw : BitVec 16)
  /-- ENVELOPE_BREAKPOINT (R415): An envelope breakpoint FET is reached, so the ceiling and floor targets change. -/
  | envelopeBreakpoint 
  /-- BALLAST_DUTY_UPDATE (R419): Every 1 µs the power block sets each cluster's ballast duty toward the hold level. -/
  | ballastDutyUpdate (draw : BitVec 16) (cap : BitVec 16)
  /-- QUENCH_REACHED (R421): The quench ramp ends with every cluster of the scope in RETENTION, GATED or OFF. -/
  | quenchReached (scope : Fin 8)
  /-- MAIN_INPUT_CONDITION (R400): The busbar voltage enters a condition of Table 13.1 for its time, causing derating, a quench or a trip. -/
  | mainInputCondition (vin : BitVec 16)
  /-- INPUT_LOSS (R427): V_in below 42 V for 20 µs starts the loss-of-input sequence and journal flush. -/
  | inputLoss (vin : BitVec 16)
  /-- JOURNAL_FLUSH_COMPLETE (R427): The loss-of-input journal flush ends, and the Vault 0 rail is turned off. -/
  | journalFlushComplete 
  /-- AUX_12V_LOSS (R401): AUX_12V is lost with main input present, so Chitin runs from the reserve. -/
  | aux12vLoss 
  /-- CONVERTER_FAULT (R402): A stage converter cuts itself off, lowering the ceiling or quenching the module. -/
  | converterFault (c : Fin 48)
  /-- VOLTAGE_SAMPLE (R406): A 10 ns voltage sample updates VMIN and raises a droop if 50 mV low. -/
  | voltageSample (d : Fin 792) (v : BitVec 9)
  /-- VMIN_CLEAR (R407): A write of PWR_CTRL.VMIN_CLEAR clears every domain's minimum-voltage record. -/
  | vminClear (via : Path) (value : Word)
  /-- PWR_CNT_CLEAR (R430): A write of PWR_CTRL.CNT_CLEAR clears PWR_RAMP_CNT and PWR_TOKEN_DEFER. -/
  | pwrCntClear (via : Path) (value : Word)
  /-- TOKEN_ADMISSION (R413): The head request of the wake queue is admitted once the token bucket holds its cost. -/
  | tokenAdmission 
  /-- SOFT_START_CHECK (R409): 1 ms after admission a soft start succeeds or fails, failing the domain after three retries. -/
  | softStartCheck (d : Fin 792) (ok : Bool)
  /-- SOFT_START_RETRY (R409): 50 ms after a failed soft start, the regulator is retried without a token charge. -/
  | softStartRetry (d : Fin 792)
  /-- CURRENT_LIMIT_TRIP (R410): A domain held at its 36 A limit for 100 µs is turned off, raising a class 3 fault. -/
  | currentLimitTrip (d : Fin 792)
  /-- HOLDUP_STATE_CHANGE (R424): The 100 ms average of usable energy crosses a threshold, changing the reserve state. -/
  | holdupStateChange (vbank : BitVec 16) (dq : Int) (current : BitVec 16)
  /-- ESTIMATOR_DISAGREE (R425): The two energy estimates disagree, so Chitin acts on the lower and schedules recalibration. -/
  | estimatorDisagree (vbank : BitVec 16) (dq : Int)
  /-- HOLDUP_CALIBRATION (R425): At full charge Chitin resets Q and re-measures C_cal by a test discharge. -/
  | holdupCalibration (vbank : BitVec 16) (dq : BitVec 32)
  /-- THERMAL_WINDOW (R429): Each 1 ms window the thermal readings throttle, restore or quench under Table 13.7. -/
  | thermalWindow (rep : ThermReport)
  /-- OVERTEMP_TRIP (R429): A junction reaches 105 °C, so Chitin's comparator trips the module to power-off. -/
  | overtempTrip (at_ : Sensor)
  /-- COOLANT_OK_DEASSERT (R429): COOLANT_OK is deasserted for 100 ms, so the module quenches. -/
  | coolantOkDeassert 
  /-- LEAK_DET_ASSERT (R429): LEAK_DET is asserted for 10 ms, which is a class 5 leak and a power-off. -/
  | leakDetAssert 
  /-- FAULT_CAPTURE (R461): A collector captures a fault into a record, which is logged and triggers its class reaction. -/
  | faultCapture (ev : FaultEvent)
  /-- QUENCH_NOTICE_RECEIVE (R471): A received quench notice quenches the partition once and is forwarded. -/
  | quenchNoticeReceive (port : Fin 64) (hdr : Frame) (n : Notice)
  /-- GEN_NOTICE_RECEIVE (R487): A KIND 1 notice sets the partition's GEN at its FET and opens the drain window. -/
  | genNoticeReceive (port : Fin 64) (hdr : Frame) (n : Notice)
  /-- RERUN (R477): When every field's pass reaches bundle 0 after a class 2 fault, the repair and repeat checks run. -/
  | rerun (p : Fin 8)
  /-- REPEAT_CHECK_COMPLETE (R478): A repeat check ends, and its fault is classified transient or permanent. -/
  | repeatCheckComplete (index : Nat) (again : Bool)
  /-- FLT_INJECT_ARM (R489): A write of FLT_INJECT.ARM injects at the chosen target, or records a note if the target names nothing. -/
  | fltInjectArm (via : Path) (value : Word)
  /-- FLT_CNT_CLEAR (R490): A write of FLT_CTRL.CNT_CLEAR clears the collectors' class counts and the partition counts. -/
  | fltCntClear (via : Path) (value : Word)
  /-- FAULT_INJECT_DUE (R393): A FAULT_INJECT write armed for an FET falls due and is written. -/
  | faultInjectDue 
  /-- BRING_UP_DRIVE (R496): The manager starts the bring-up drive of its ring automatically or on a CHT_MGR_CTRL.DRIVE write. -/
  | bringUpDrive (via : Path) (value : Word)
  /-- DRIVE_PHASE_COMPLETE (R496): A drive phase ends on its condition, and the next phase starts. -/
  | drivePhaseComplete (members : List MemberReply) (expired : Bool)
  /-- MGR_DRIVE_ABORT (R496): A write of CHT_MGR_CTRL.ABORT ends the drive after the current phase. -/
  | mgrDriveAbort (via : Path) (value : Word)
  /-- HEALTH_POLL (R503): Every HEALTH_MS the manager polls each member and updates the health registers. -/
  | healthPoll (members : List MemberReply)
  /-- PROXY_FORWARD (R500): A MODE 0 proxy datagram's SCP packet is forwarded to its targets and the replies returned. -/
  | proxyForward (ip : Word) (port : BitVec 16) (pre : ProxyPrefix) (opcode : BitVec 8) (r : Request) (replies : List ScpReply)
  /-- PROXY_RING_COMMIT (R502): A MODE 1 proxy datagram runs the two-phase configuration commit for the ring. -/
  | proxyRingCommit (ip : Word) (port : BitVec 16) (pre : ProxyPrefix) (opcode : BitVec 8) (r : Request) (members : List MemberReply)
  /-- FIREFLY_MISS (R504): An expected manager Firefly fails to arrive, and after 3 misses the standby reads the manager's status. -/
  | fireflyMiss 
  /-- STANDBY_TAKEOVER (R505): A non-ACT-1 reply or no reply starts the standby's takeover of the manager duties. -/
  | standbyTakeover (reply : Option (Fin 8)) (members : List MemberReply)
  /-- MANAGER_YIELD (R494): A strapped manager meets a yield condition and takes ACT 5. -/
  | managerYield (standbyAct : Option (Fin 8)) (rivalSlot : Option (Fin 64)) (portsLost : Bool)
  /-- HANDBACK (R506): A write of CHT_MGR_CTRL.HANDBACK returns the manager duties to the strapped manager. -/
  | handback (via : Path) (value : Word) (strappedAct : Option (Fin 8)) (yieldCond : Bool) (members : List MemberReply)
  /-- MGMT_BASE_WRITE (R507): A write of CHT_MGMT_BASE is stored in flash and takes effect after its reply. -/
  | mgmtBaseWrite (via : Path) (value : Word)
  /-- REG_ACCESS_DATAGRAM (R431): A register-access datagram on the management port reads or writes registers. -/
  | regAccessDatagram (ip : Word) (port : BitVec 16) (payload : List Byte)
  /-- ARP_ICMP_REQUEST (R525): The management port answers an ARP or ICMP echo request. -/
  | arpIcmpRequest (icmp : Bool) (addr : Word) (tagged : Bool)
  /-- PERST_ASSERT (R527): PEe_PERST_L resets an endpoint and disables its SCP queues. -/
  | perstAssert (ep : Fin 2)
  /-- FUNCTION_LEVEL_RESET (R527): A PCIe function-level reset disables that function's queue pages. -/
  | functionLevelReset (ep : Fin 2) (fn : Fin 8)
  /-- REG_READ (R529): Rack-bus command 0x10 reads a register and returns status and value. -/
  | regRead (off : Word)
  /-- REG_WRITE (R529): Rack-bus command 0x11 writes a register. -/
  | regWrite (off : Word) (value : Word) (pecOk : Bool)
  /-- SUMMARY (R529): Rack-bus command 0x12 returns CHT_STATUS, FLT_STATUS, PWR_DRAW and FLT_LOCK. -/
  | summary 
  /-- LAST_STATUS (R529): Rack-bus command 0x13 returns the status of the last REG_WRITE. -/
  | lastStatus 
  /-- ALERT_RESPONSE (R530): The module answers the SMBus Alert Response Address with its own address. -/
  | alertResponse 
  /-- SMBUS_TIMEOUT (R528): SCL stays low beyond 25 ms, so the module releases the bus and resets its interface. -/
  | smbusTimeout 
  /-- TAP_INSTRUCTION (R532): The TAP loads an IEEE 1149.1 instruction, substituting BYPASS outside the Chitin-only state. -/
  | tapInstruction (ir : TapIr)
  /-- TAP_RESET (R532): TRST_L low or five TMS-high cycles return the TAP to Test-Logic-Reset. -/
  | tapReset 
  /-- REGISTER_WRITE (R11): A write to a register with no behaviour of its own applies its access type, width and filter rules. -/
  | registerWrite (via : Path) (off : Nat) (bytes : Nat) (value : BitVec 64)
  /-- CHITIN_RAIL_LOSS (R474): Chitin's rail falls below its reset level (AUX_12V below 8 V with V_in below 42 V, or the reserve spent at its 24 V cutoff), so Chitin stops, the lock latch clears and CHT_RST_PIN_MASK.MASK clears. -/
  | chitinRailLoss 
  /-- PERST_RELEASE (R527): PEe_PERST_L is released, so the endpoint trains once step 2 is complete and its configuration space answers within 100 ms. -/
  | perstRelease (ep : Fin 2)
  /-- BAD_OPCODE_REQUEST (R382): An SCP request carrying an opcode not defined in the chapter is taken and answered with BAD_OPCODE. -/
  | badOpcodeRequest (r : Request) (opcode : BitVec 8)
  deriving DecidableEq, Repr

end Sys2Proof
end

