-- ==== Sys2Proof/Decode.lean ====
section
/-!
DEFINITION. Decode.lean: commands spelled as words. The table of operations and events gives no row any bits: commands
reach the module as request packets, register accesses, frames and pin events, whose fields are the operands of the
constructors. No word spells a command.
-/
namespace Sys2Proof

/-- The command a word spells by the table's bits: none, since no row has bits. [log 12 DEDUCED] -/
def decodeTableWord (_nbits _w : Nat) : Option Instr := none

end Sys2Proof
end

