-- ==== Sys2Proof/Config.lean ====
section
/-!
DEFINITION. Config.lean: what the spec leaves open. Each constant here has no body: nothing can evaluate it, so a
statement that holds, holds for every value of it. Each is named in the assumption log.
-/
namespace Sys2Proof

/-- A value the spec does not fix, fresh for each number drawn. [log 7 DESIGN CHOICE] -/
opaque Config.freeWord : Nat → Word

/-- No other module of the rack drives FAULT_L low at a FET (CHT_PIN_STATUS.FAULT_LINE). [log 55 DESIGN CHOICE] -/
opaque Config.faultLineFree : Nat → Bool

/-- Byte k of the management MAC address in the identity store (R547). [log 6 DESIGN CHOICE] -/
opaque Config.mac : Nat → Byte

/-- Device identity: byte k of the serial number (R547). [log 6 DESIGN CHOICE] -/
opaque Config.serial : Nat → Byte

/-- Firmware version words reported by IDENTIFY (Chitin's own). [log 6 DESIGN CHOICE] -/
opaque Config.chitinVersion : Word

/-- Fused regulator trim of a domain, in 5 mV units (R403, R547). [log 6 DESIGN CHOICE] -/
opaque Config.trim : Nat → BitVec 5

/-- The nearest temperature sensor (°C) and rail voltage (2.5 mV) of a unit outside the power domains (Table 15.3).
[log 6 DESIGN CHOICE, 102 DESIGN CHOICE] -/
opaque Config.sensorTemp : Nat → Nat → Byte
/-- [log 6 DESIGN CHOICE, 102 DESIGN CHOICE] -/
opaque Config.sensorVolt : Nat → Nat → BitVec 16

/-- Port asymmetry measured at link training, ps (R547, TIM_PORT_ASYM). [log 6 DESIGN CHOICE] -/
opaque Config.portAsym : Nat → Word

/-- Wear and spare percentage of a Vault's flash (R547). [log 6 DESIGN CHOICE] -/
opaque Config.wear : Nat → Byte
/-- [log 6 DESIGN CHOICE] -/
opaque Config.spare : Nat → Byte

/-- The partition 0 Tier P key, generated at manufacture (R229): byte k. [log 40 DESIGN CHOICE] -/
opaque Config.tierPKey : Nat → Byte

/-- The first 4 KiB unit of Tier P of a flash Vault in which a checkpoint slot's segment lies: Vault, Vault of the
segment, partition, slot, segment. [log 41 DESIGN CHOICE] -/
opaque Config.slotPlace : Nat → Nat → Nat → Nat → Nat → Nat

/-- The erased state of the flash of a Vault, byte by byte (R228). [log 153 DESIGN CHOICE] -/
opaque Config.erased : Nat → Nat → Byte

/-- Where within its error bound (Table 03.5) a transcendental function's result lies: function code, argument.
[log 73 DESIGN CHOICE] -/
opaque Config.ulp : Nat → Nat → Nat

/-- The operand elements a vector operation would need and the plan did not give it (a second operand that is absent or
shorter, the lanes beside a cross-lane sum): index to code. -/
opaque Config.unpaired : Nat → Nat

/-- Block scale of a staged activation column in a sparse pass, whose place the spec does not give: row, block. -/
opaque Config.smuScale : Nat → Nat → Nat

/-- The nine SECDED check bits of a 128-bit quarter of a mesh flit, whose code the spec does not give (R187).
[log 138 DESIGN CHOICE] -/
opaque Config.secded : Nat → Nat

/-- The AES-GMAC tag of a frame's header and payload under a link key, whose initialisation vector the spec does not give
(R296). [log 141 DESIGN CHOICE] -/
opaque Config.gmac : List Byte → List Byte → List Byte

/-- Where in its sequence a port's PRBS31 pattern begins (R319). [log 142 PRESUMED] -/
opaque Config.prbsStart : Nat → Nat

/-- The sentinel signature of a seed and a slot index (R123). [log 74 DESIGN CHOICE] -/
opaque Config.sentinel : Word → Nat → Word

end Sys2Proof
end

