-- ==== Sys2Proof/Machine/Maps.lean ====
section
/-!
DEFINITION. Machine/Maps.lean: sparse storage. A register file, a memory or a table of units is a list of (key, value)
pairs in one canonical form: keys strictly rising, and no entry equal to what an unlisted key reads as (`d`). Equal
contents are therefore equal lists.
-/
namespace Sys2Proof.Machine

/-- A sparse table from Nat keys. -/
abbrev AMap (α : Type) := List (Nat × α)

/-- What key `k` holds; `d k` where it is not listed. [log 1 DESIGN CHOICE, 11 DESIGN CHOICE] -/
def AMap.get {α : Type} (d : Nat → α) : AMap α → Nat → α
  | [], k => d k
  | (j, v) :: m, k => if k = j then v else AMap.get d m k

/-- The tail of a table after key `k` has been given value `v` in front of it, dropping `v` where it is the default. -/
def AMap.cons {α : Type} [DecidableEq α] (d : Nat → α) (k : Nat) (v : α) (m : AMap α) : AMap α :=
  if v = d k then m else (k, v) :: m

/-- The table with key `k` holding `v`, in canonical form. [log 11 DESIGN CHOICE] -/
def AMap.put {α : Type} [DecidableEq α] (d : Nat → α) : AMap α → Nat → α → AMap α
  | [], k, v => AMap.cons d k v []
  | (j, w) :: m, k, v =>
    if k < j then AMap.cons d k v ((j, w) :: m)
    else if k = j then AMap.cons d k v m
    else (j, w) :: AMap.put d m k v

/-- Every key of the table is above `k`. -/
def AMap.above {α : Type} (k : Nat) : AMap α → Bool
  | [] => true
  | (j, _) :: m => decide (k < j) && AMap.above k m

/-- The canonical form: keys strictly rising, no entry equal to the default. [log 11 DESIGN CHOICE] -/
def AMap.wf {α : Type} [DecidableEq α] (d : Nat → α) : AMap α → Bool
  | [] => true
  | (j, v) :: m => decide (v ≠ d j) && AMap.above j m && AMap.wf d m

/-- Memory of a unit: sparse bytes; a byte nothing has written reads as zero (see the log: power-on RAM contents). -/
abbrev Mem := List Host.Cell

/-- What an unlisted byte of a memory reads as. [log 1 DESIGN CHOICE] -/
def Mem.dflt (_ : Nat) : Byte := 0

/-- One byte of a memory. [log 1 DESIGN CHOICE] -/
def Mem.rd (m : Mem) (a : Nat) : Byte := AMap.get Mem.dflt m a

/-- One byte stored. -/
def Mem.wr (m : Mem) (a : Nat) (b : Byte) : Mem := AMap.put Mem.dflt m a b

/-- `n` bytes from address `a`, lowest address first. -/
def Mem.rdN (m : Mem) (a : Nat) : Nat → List Byte
  | 0 => []
  | n + 1 => Mem.rd m a :: Mem.rdN m (a + 1) n

/-- Bytes stored from address `a`, lowest address first. -/
def Mem.wrN (m : Mem) (a : Nat) : List Byte → Mem
  | [] => m
  | b :: bs => Mem.wrN (Mem.wr m a b) (a + 1) bs

/-- A memory without the bytes of [lo, hi): zeroing a range (R117, R220). -/
def Mem.clear (m : Mem) (lo hi : Nat) : Mem := m.filter (fun c => decide (c.1 < lo) || decide (hi ≤ c.1))

/-- The canonical form of a memory. -/
def Mem.wf (m : Mem) : Bool := AMap.wf Mem.dflt m

/-- Little-endian value of `n` bytes of a list from index `i` (R9). -/
def leAt (l : List Byte) (i n : Nat) : Nat :=
  match n with
  | 0 => 0
  | n + 1 => (l.getD i 0).toNat + 256 * leAt l (i + 1) n

/-- The `n` little-endian bytes of a number (R9). -/
def leBytes (v : Nat) : Nat → List Byte
  | 0 => []
  | n + 1 => BitVec.ofNat 8 v :: leBytes (v / 256) n

/-- The `n` little-endian bytes of a number, as numbers. -/
def leNats (v n : Nat) : List Nat := (leBytes v n).map (·.toNat)

/-- Every byte of a list is zero. -/
def zeroBytes (l : List Byte) : Bool := l.all (· == 0)

/-- A sorted set of numbers with a member added. -/
def setAdd (k : Nat) : List Nat → List Nat
  | [] => [k]
  | j :: m => if k < j then k :: j :: m else if k = j then j :: m else j :: setAdd k m

/-- A set of numbers without a member. -/
def setDel (k : Nat) (l : List Nat) : List Nat := l.filter (· != k)

/-- Bit `i` of a number. -/
def bitOf (v i : Nat) : Nat := v / 2 ^ i % 2

/-- Bits [hi:lo] of a number (R9). -/
def bitsOf (v hi lo : Nat) : Nat := v / 2 ^ lo % 2 ^ (hi + 1 - lo)

/-- Saturating addition: counters that "saturate at" a limit stop there. -/
def satAdd (lim a b : Nat) : Nat := if lim < a + b then lim else a + b

/-- Ceiling division. -/
def cdiv (a b : Nat) : Nat := (a + b - 1) / b

/-- A table whose entries all change, in canonical form. -/
def AMap.mapVals {α : Type} [DecidableEq α] (d : Nat → α) (f : α → α) (m : AMap α) : AMap α :=
  m.foldl (fun a e => AMap.put d a e.1 (f e.2)) []

end Sys2Proof.Machine
end

