-- ==== Sys2Proof/Machine/Formats.lean ====
section
/-!
DEFINITION. Machine/Formats.lean: the eight number formats and their arithmetic (04_number_formats). Values are exact:
a signed Nat times a power of two; each operation is computed exactly and narrowed once at the end.
-/
namespace Sys2Proof.Machine

/-- A value: NaN, an infinity, or (−1)^neg × m × 2^e. -/
inductive Num where
  | nan
  | inf (neg : Bool)
  | fin (neg : Bool) (m : Nat) (e : Int)
  deriving DecidableEq, Repr

/-- Format codes (R159): 0 Z4, 1 Z8e, 2 Z8w, 3 G8, 4 I8, 5 W16, 6 H16, 7 binary32. -/
def fmtWidth (f : Nat) : Nat := [4, 8, 8, 8, 8, 16, 16, 32].getD f 32

/-- Exponent bits, fraction bits, bias (Table 04.1); I8 has none. -/
def fmtLayout (f : Nat) : Nat × Nat × Nat :=
  [(2, 1, 1), (4, 3, 7), (5, 2, 15), (4, 3, 7), (0, 7, 0), (8, 7, 127), (5, 10, 15), (8, 23, 127)].getD f (8, 23, 127)

/-- Code of the largest finite magnitude (Table 04.2). -/
def fmtMax (f : Nat) : Nat := [0x7, 0x7e, 0x7b, 0x7e, 127, 0x7f7f, 0x7bff, 0x7f7fffff].getD f 0x7f7fffff

/-- Canonical NaN (Table 04.2, R128); Z4 and I8 have none and give element code 0 (R139, R146). -/
def fmtNan (f : Nat) : Nat := [0, 0x7f, 0x7e, 0x7f, 0, 0x7fc0, 0x7e00, 0x7fc00000].getD f 0x7fc00000

/-- Code of positive infinity; Z8e has none and gives its NaN (R135). -/
def fmtInf (f : Nat) : Nat := [0x7, 0x7f, 0x7c, 0x7e, 127, 0x7f80, 0x7c00, 0x7f800000].getD f 0x7f800000

/-- Zero of a sign. -/
def Num.zero (neg : Bool) : Num := .fin neg 0 0

/-- A code holds NaN or infinity. -/
def specialOf (f ex fr : Nat) (neg : Bool) : Option Num :=
  match f with
  | 0 | 4 => none
  | 1 | 3 => if ex = 15 ∧ fr = 7 then some .nan else none
  | 2 | 6 => if ex = 31 then some (if fr = 0 then .inf neg else .nan) else none
  | _ => if ex = 255 then some (if fr = 0 then .inf neg else .nan) else none

/-- What an element code stands for; subnormals are read as zero of their sign (R126, R127, R129). -/
def decodeNum (f c : Nat) : Num :=
  if f = 4 then (if 128 ≤ c % 256 then .fin true (256 - c % 256) 0 else .fin false (c % 256) 0)
  else
    let (eb, fb, bias) := fmtLayout f
    let neg := bitOf c (eb + fb) == 1
    let ex := bitsOf c (eb + fb - 1) fb
    let fr := bitsOf c (fb - 1) 0
    match specialOf f ex fr neg with
    | some v => v
    | none => if ex = 0 then .zero neg else .fin neg (2 ^ fb + fr) ((ex : Int) - bias - fb)

/-- A magnitude without its last `n` bits, rounded to nearest even or to odd (R132). -/
def roundShift (rto : Bool) (m n : Nat) : Nat :=
  let q := m / 2 ^ n
  let r := m % 2 ^ n
  if r = 0 then q
  else if rto then q / 2 * 2 + 1
  else if 2 ^ n < 2 * r ∨ (2 * r = 2 ^ n ∧ q % 2 = 1) then q + 1 else q

/-- The magnitude m × 2^e rounded to an integer by RNE. -/
def roundInt (m : Nat) (e : Int) : Nat := if 0 ≤ e then m * 2 ^ e.toNat else roundShift false m (-e).toNat

/-- The code of a finite value in a floating format: rounded with subnormals included, then flushed, then the overflow
rule (R130, R132, R135). [log 149 DESIGN CHOICE] -/
def encodeFin (f : Nat) (rto neg : Bool) (m : Nat) (e : Int) : Nat :=
  let (eb, fb, bias) := fmtLayout f
  let sign := if neg then 2 ^ (eb + fb) else 0
  if m = 0 then sign
  else
    let low : Int := 1 - bias - fb
    let q := max ((Nat.log2 m : Int) + e - fb) low
    let r := if q ≤ e then m * 2 ^ (e - q).toNat else roundShift rto m (q - e).toNat
    if r < 2 ^ fb then sign
    else
      let code := ((q - low).toNat + 1) * 2 ^ fb + (r - 2 ^ fb)
      if code ≤ fmtMax f then sign + code
      else if 5 ≤ f ∧ !rto then sign + fmtInf f
      else sign + fmtMax f

/-- Conversion to I8: RNE, saturating to ±127; NaN gives 0 (R135, R146). -/
def encodeI8 : Num → Nat
  | .nan => 0
  | .inf neg => if neg then 129 else 127
  | .fin neg m e =>
    let v := min 127 (roundInt m e)
    if neg then (256 - v) % 256 else v

/-- The element code of a value in a format (R133, R135). -/
def encodeNum (f : Nat) (rto : Bool) (v : Num) : Nat :=
  if f = 4 then encodeI8 v
  else match v with
  | .nan => fmtNan f
  | .inf neg =>
    if f = 1 then fmtNan 1
    else (if neg then 2 ^ ((fmtLayout f).1 + (fmtLayout f).2.1) else 0) + fmtInf f
  | .fin neg m e => encodeFin f rto neg m e

/-- A value rounded once to a format by RNE. -/
def roundTo (f : Nat) (v : Num) : Num := decodeNum f (encodeNum f false v)

/-! ### Exact arithmetic -/

/-- The value negated. -/
def Num.negate : Num → Num
  | .nan => .nan
  | .inf n => .inf (!n)
  | .fin n m e => .fin (!n) m e

/-- Exact sum; a zero sum is +0 unless both are −0; opposite infinities give NaN (R142). -/
def Num.add : Num → Num → Num
  | .nan, _ => .nan
  | _, .nan => .nan
  | .inf a, .inf b => if a = b then .inf a else .nan
  | .inf a, _ => .inf a
  | _, .inf b => .inf b
  | .fin a m e, .fin b n f =>
    let g := min e f
    let x : Int := (m * 2 ^ (e - g).toNat : Nat)
    let y : Int := (n * 2 ^ (f - g).toNat : Nat)
    let z := (if a then -x else x) + (if b then -y else y)
    if z = 0 then .zero (a && b) else .fin (decide (z < 0)) z.natAbs g

/-- Exact product; infinity times zero gives NaN (R142). [log 150 DESIGN CHOICE] -/
def Num.mul : Num → Num → Num
  | .nan, _ => .nan
  | _, .nan => .nan
  | .inf a, .inf b => .inf (a != b)
  | .inf a, .fin b n _ => if n = 0 then .nan else .inf (a != b)
  | .fin a m _, .inf b => if m = 0 then .nan else .inf (a != b)
  | .fin a m e, .fin b n f => .fin (a != b) (m * n) (e + f)

/-- The value times a power of two. -/
def Num.scale (k : Int) : Num → Num
  | .fin a m e => .fin a m (e + k)
  | v => v

/-- Less than; false with a NaN (R146). Zeros are equal. -/
def Num.lt : Num → Num → Bool
  | .nan, _ => false
  | _, .nan => false
  | .inf a, .inf b => a && !b
  | .inf a, _ => a
  | _, .inf b => !b
  | .fin a m e, .fin b n f => match Num.add (.fin a m e) (.fin (!b) n f) with
    | .fin neg k _ => neg && k != 0
    | _ => false

/-- A NaN. -/
def Num.isNan : Num → Bool
  | .nan => true
  | _ => false

/-- Finite. -/
def Num.isFin : Num → Bool
  | .fin .. => true
  | _ => false

/-- The sign bit. -/
def Num.sign : Num → Bool
  | .nan => false
  | .inf n => n
  | .fin n _ _ => n

/-- Minimum: NaN if either is, −0 below +0 (R146). -/
def Num.min (a b : Num) : Num :=
  if a.isNan || b.isNan then .nan
  else if a.lt b then a else if b.lt a then b else if a.sign then a else b

/-- Maximum: NaN if either is, −0 below +0 (R146). -/
def Num.max (a b : Num) : Num :=
  if a.isNan || b.isNan then .nan
  else if b.lt a then a else if a.lt b then b else if a.sign then b else a

/-- Magnitude of the first is greater. -/
def Num.absLt (a b : Num) : Bool :=
  match a, b with
  | .fin _ m e, .fin _ n f => Num.lt (.fin false m e) (.fin false n f)
  | _, _ => false

/-! ### Block scales (R136-R140, R546) -/

/-- e_max of a block format (R139). -/
def fmtEmax (f : Nat) : Int := [2, 8, 15, 8, 6].getD f 0

/-- Block conversion (R139): the scale and the element codes of one block. [log 149 DESIGN CHOICE] -/
def quantBlock (f : Nat) (vs : List Num) : Nat × List Nat :=
  if vs.any (fun v => !v.isFin) then (255, vs.map (fun _ => 0))
  else
    let top := vs.foldl (fun a v => if a.absLt v then v else a) (.zero false)
    let s : Nat := match top with
      | .fin _ m e => if m = 0 then 0 else
          (max (-127) (min 127 ((Nat.log2 m : Int) + e - fmtEmax f)) + 127).toNat
      | _ => 0
    (s, vs.map (fun v => encodeNum f false (v.scale (127 - s))))

/-- Dequantization (R137, R140): an element under a block scale, as a binary32 value. -/
def dequant (f s c : Nat) : Num :=
  if s = 255 then .nan else roundTo 7 ((decodeNum f c).scale ((s : Int) - 127))

/-- A list cut into blocks of `n`, the last one short; `k` bounds their number. -/
def chunksOf {α : Type} (n : Nat) : Nat → List α → List (List α)
  | 0, _ => []
  | _, [] => []
  | k + 1, l => l.take n :: chunksOf n k (l.drop n)

/-- Block conversion of a list in write order: element codes, scales (R546). -/
def quantAll (f : Nat) (vs : List Num) : List Nat × List Nat :=
  let bs := (chunksOf 32 (vs.length / 32 + 1) vs).map (quantBlock f)
  ((bs.map (·.2)).flatten, bs.map (·.1))

/-- binary32 sum, rounded once. -/
def add32 (a b : Nat) : Nat := encodeNum 7 false ((decodeNum 7 a).add (decodeNum 7 b))

/-! ### Packing (R110) -/

/-- The elements of width `w` of a word, lowest bits first. -/
def unpackWord (w : Nat) (x : Nat) : List Nat := (List.range (32 / w)).map (fun i => bitsOf x (w * i + w - 1) (w * i))

/-- The word that holds some elements of width `w`, lowest bits first. -/
def packWord (w : Nat) : List Nat → Nat
  | [] => 0
  | c :: cs => c % 2 ^ w + 2 ^ w * packWord w cs

/-! ### Transcendental functions (R100, R147)

The algorithm is not given, only its error bound: the value is a free one (Config.ulp) within the bound of Table 03.5 of
the exact value, which is computed to well beyond binary32, in fixed point of 2^-120 where no closer form is used. -/

/-- Fixed-point one. -/
def fpOne : Int := 2 ^ 120

/-- ln 2, π in fixed point. -/
def fpLn2 : Int := 921350637599661305226344307672478454
def fpPi : Int := 4175892906503776358826876457663557747

/-- e^x of a fixed-point x in [0, 1). -/
def fpExp (x : Int) : Int :=
  ((List.range 40).map Int.ofNat |>.foldl (fun (a : Int × Int) i => (a.1 + a.2, a.2 * x / fpOne / (i + 1))) (0, fpOne)).1

/-- 2^y of a fixed-point y, as a value. -/
def fpExp2 (y : Int) : Num := .fin false (fpExp ((y % fpOne) * fpLn2 / fpOne)).toNat (y / fpOne - 120)

/-- A finite value in fixed point. -/
def toFp : Num → Int
  | .fin n m e =>
    let v : Int := if 0 ≤ e + 120 then (m * 2 ^ (e + 120).toNat : Nat) else (m / 2 ^ (-(e + 120)).toNat : Nat)
    if n then -v else v
  | _ => 0

/-- A fixed-point number as a value. -/
def ofFp (x : Int) : Num := .fin (decide (x < 0)) x.natAbs (-120)

/-- Natural logarithm of a fixed-point number in [1, 2): 2 atanh((x − 1) / (x + 1)). -/
def fpLn (x : Int) : Int :=
  let z := (x - fpOne) * fpOne / (x + fpOne)
  let z2 := z * z / fpOne
  2 * ((List.range 45).map Int.ofNat |>.foldl (fun (a : Int × Int) i => (a.1 + a.2 / (2 * i + 1), a.2 * z2 / fpOne)) (0, z)).1

/-- log2 of a positive finite value, fixed point. -/
def fpLog2 (m : Nat) (e : Int) : Int :=
  let k := Nat.log2 m
  ((k : Int) + e) * fpOne + fpLn (toFp (.fin false m (-k))) * fpOne / fpLn2

/-- Alternating series of sine (k = 1) and cosine (k = 0) of a fixed-point x in [−π/2, π/2]. -/
def fpSeries (k : Nat) (x : Int) : Int :=
  let x2 := x * x / fpOne
  ((List.range 30).map Int.ofNat |>.foldl (fun (a : Int × Int) i =>
    (a.1 + a.2, -(a.2 * x2 / fpOne) / ((2 * i + k + 1) * (2 * i + k + 2)))) (0, if k = 0 then fpOne else x)).1

/-- Sine or cosine of a fixed-point x: reduction by multiples of π. -/
def fpTrig (k : Nat) (x : Int) : Int :=
  let n := (2 * x + fpPi) / (2 * fpPi)
  let r := fpSeries k (x - n * fpPi)
  if n % 2 = 0 then r else -r

/-- Integer square root, bit by bit. -/
def isqrt (n : Nat) : Nat :=
  (List.range (Nat.log2 n / 2 + 1)).reverse.foldl (fun r i => if (r + 2 ^ i) * (r + 2 ^ i) ≤ n then r + 2 ^ i else r) 0

/-- Square root of m × 2^e to 60 bits, its last bit set where inexact. -/
def numSqrt (m : Nat) (e : Int) : Num :=
  let m2 := if e % 2 = 0 then m * 2 ^ 80 else m * 2 ^ 81
  let e2 := if e % 2 = 0 then e - 80 else e - 81
  let r := isqrt m2
  .fin false (2 * r + (if r * r = m2 then 0 else 1)) (e2 / 2 - 1)

/-- Reciprocal of m × 2^e to 60 bits, its last bit set where inexact. -/
def numRecip (neg : Bool) (m : Nat) (e : Int) : Num :=
  let k := Nat.log2 m + 70
  let q := 2 ^ k / m
  .fin neg (2 * q + (if q * m = 2 ^ k then 0 else 1)) (-e - k - 1)

/-- The exact value of a function at a finite, non-zero argument, to well beyond binary32; none outside the domain.
[log 73 DESIGN CHOICE] -/
def transcExact (code : Nat) (neg : Bool) (m : Nat) (e : Int) : Option Num :=
  let x : Num := .fin neg m e
  match code with
  | 0 =>
    if (Num.fin false 256 0).absLt x then some (if neg then .zero false else .inf false) else some (fpExp2 (toFp x))
  | 1 => if neg then none else some (ofFp (fpLog2 m e))
  | 2 => some (numRecip neg m e)
  | 3 => if neg then none else match numSqrt m e with
    | .fin _ r k => some (numRecip false r k)
    | v => some v
  | 4 => if neg then none else some (numSqrt m e)
  | 5 =>
    if x.absLt (.fin false 1 (-40)) then some x
    else if (Num.fin false 45 0).absLt x then some (.fin neg (2 ^ 100 - 1) (-100))
    else
      match fpExp2 (2 * toFp x * fpOne / fpLn2) with
      | .fin _ k g =>
        let t := toFp (.fin false k g)
        some (ofFp ((t - fpOne) * fpOne / (t + fpOne)))
      | v => some v
  | 6 =>
    if (Num.fin false 128 0).absLt x then some (if neg then .zero false else .fin false 1 0)
    else match Num.add (.fin false 1 0) (fpExp2 (-(toFp x * fpOne / fpLn2))) with
      | .fin _ k g => some (numRecip false k g)
      | v => some v
  | _ =>
    if (Num.fin false (2 ^ 20) 0).absLt x then none
    else if code = 7 ∧ x.absLt (.fin false 1 (-40)) then some x
    else some (ofFp (fpTrig (8 - code) (toFp x)))

/-- Special arguments of Table 04.5. [log 73 DESIGN CHOICE] -/
def transcSpecial (code : Nat) (x : Num) : Option Num :=
  match x with
  | .nan => some .nan
  | .inf neg =>
    some (match code with
      | 0 => if neg then .zero false else .inf false
      | 1 | 4 => if neg then .nan else .inf false
      | 2 => .zero neg
      | 3 => if neg then .nan else .zero false
      | 5 => .fin neg 1 0
      | 6 => if neg then .zero false else .fin false 1 0
      | _ => .nan)
  | .fin neg 0 _ =>
    some (match code with
      | 0 => .fin false 1 0
      | 1 => .inf true
      | 2 => .inf neg
      | 3 => .inf neg
      | 4 | 5 | 7 => .zero neg
      | 6 => .fin false 1 (-1)
      | _ => .fin false 1 0)
  | _ => none

/-- Error bound in ulp (Table 03.5). -/
def transcBound (code : Nat) : Nat := if code ≤ 4 then 1 else 2

/-- The code of a normal binary32 number. -/
def normal32 (c : Nat) : Bool := decide (0x800000 ≤ c % 2 ^ 31) && decide (c % 2 ^ 31 < 0x7f800000)

/-- A value lies within m × 2^e of an exact one. -/
def within (m : Nat) (e : Int) (v w : Num) : Bool := (v.add w.negate).isFin && !(Num.fin false m e).absLt (v.add w.negate)

/-- A binary32 ulp of a value: the weight of the last fraction bit at its exponent. -/
def ulpExp : Num → Int
  | .fin _ m e => max (-126) ((Nat.log2 m : Int) + e) - 23
  | _ => -149

/-- A binary32 code no further than the bound of Table 03.5 from the exact value, freely chosen among those there are; an
overflow and a flushed result are those of the correctly rounded value (R130, R135). [log 73 DESIGN CHOICE] -/
def freeUlp (code arg : Nat) (v : Num) : Nat :=
  let b := transcBound code
  let c := encodeNum 7 false v
  let c' := c + Config.ulp code arg % (2 * b + 1) - b
  if normal32 c && normal32 c' && within b (ulpExp v) v (decodeNum 7 c') then c' else c

/-- log2 in [0.5, 2]: a binary32 code within 2^-22 of the exact value, freely chosen. [log 73 DESIGN CHOICE] -/
def freeLog (code arg : Nat) (v : Num) : Nat :=
  let o : Int := (Config.ulp code arg % (2 ^ 41 + 1) : Nat)
  let c' := encodeNum 7 false (v.add (ofFp ((o - 2 ^ 40) * 2 ^ 58)))
  if within 1 (-22) v (decodeNum 7 c') then c' else encodeNum 7 false v

/-- A transcendental function of a binary32 code (R100, R101, R147). log2 in [0.5, 2] is free within 2^-22.
[log 73 DESIGN CHOICE] -/
def transc (code arg : Nat) : Nat :=
  let x := decodeNum 7 arg
  match transcSpecial code x with
  | some v => encodeNum 7 false v
  | none => match x with
    | .fin neg m e =>
      match transcExact code neg m e with
      | none => fmtNan 7
      | some v =>
        if code = 1 ∧ !(x.lt (.fin false 1 (-1))) ∧ !((Num.fin false 2 0).lt x) then freeLog code arg v
        else freeUlp code arg v
    | _ => fmtNan 7

end Sys2Proof.Machine
end

