-- ==== Sys2Proof/Machine/Crypto.lean ====
section
/-!
DEFINITION. Machine/Crypto.lean: the digests the module computes: SHA-256 (plan images, configurations, state digests)
and CRC-64 of ECMA-182 (R276), and the cipher of Tier C and Tier P, AES-256-XTS (R228). Words are BitVec, so the
arithmetic wraps.
-/
namespace Sys2Proof.Machine

/-- The largest r below `r + 2 ^ bits` with `r ^ k` at most n, found one bit at a time from the top. -/
def floorRoot (k n : Nat) : Nat → Nat → Nat
  | 0, r => r
  | bits + 1, r => floorRoot k n bits (if (r + 2 ^ bits) ^ k ≤ n then r + 2 ^ bits else r)

/-- The primes below n, in order. -/
def primesBelow (n : Nat) : List Nat :=
  (List.range n).filter fun p => 2 ≤ p && (List.range (Nat.sqrt p + 1)).all fun d => d < 2 || p % d != 0

/-- The first 32 fraction bits of the k-th root of p (the roots taken here are below 8). -/
def rootFraction (k p : Nat) : Word := BitVec.ofNat 32 (floorRoot k (p * 2 ^ (32 * k)) 35 0)

/-- SHA-256's initial hash: the fraction bits of the square roots of the first 8 primes (FIPS 180-4). -/
def shaInit : List Word := (primesBelow 20).map (rootFraction 2)

/-- SHA-256's round constants: the fraction bits of the cube roots of the first 64 primes (FIPS 180-4). -/
def shaK : List Word := (primesBelow 312).map (rootFraction 3)

/-- Big-endian word of four bytes. -/
def beWord (l : List Byte) (i : Nat) : Word :=
  l.getD i 0 ++ l.getD (i + 1) 0 ++ l.getD (i + 2) 0 ++ l.getD (i + 3) 0

/-- The four bytes of a word, most significant first. -/
def wordBe (w : Word) : List Byte :=
  [w.extractLsb' 24 8, w.extractLsb' 16 8, w.extractLsb' 8 8, w.extractLsb' 0 8]

/-- One more word of the message schedule, newest first. -/
def shaExtend (w : List Word) : List Word :=
  let a := w.getD 14 0
  let b := w.getD 1 0
  let s0 := a.rotateRight 7 ^^^ a.rotateRight 18 ^^^ (a >>> 3)
  let s1 := b.rotateRight 17 ^^^ b.rotateRight 19 ^^^ (b >>> 10)
  (w.getD 15 0 + s0 + w.getD 6 0 + s1) :: w

/-- One round over the eight working words. -/
def shaRound (h : List Word) (kw : Word) : List Word :=
  match h with
  | [a, b, c, d, e, f, g, hh] =>
    let s1 := e.rotateRight 6 ^^^ e.rotateRight 11 ^^^ e.rotateRight 25
    let ch := (e &&& f) ^^^ (~~~e &&& g)
    let t1 := hh + s1 + ch + kw
    let s0 := a.rotateRight 2 ^^^ a.rotateRight 13 ^^^ a.rotateRight 22
    let mj := (a &&& b) ^^^ (a &&& c) ^^^ (b &&& c)
    [t1 + (s0 + mj), a, b, c, d + t1, e, f, g]
  | _ => h

/-- One 64-byte block. -/
def shaBlock (h : List Word) (blk : List Byte) : List Word :=
  let w := ((List.range 16).map (fun i => beWord blk (4 * i))).reverse
  let w := ((List.range 48).foldl (fun w _ => shaExtend w) w).reverse
  let r := (List.zipWith (· + ·) shaK w).foldl shaRound h
  List.zipWith (· + ·) h r

/-- The blocks of a padded message. -/
def shaBlocks (h : List Word) : Nat → List Byte → List Word
  | 0, _ => h
  | n + 1, l => shaBlocks (shaBlock h (l.take 64)) n (l.drop 64)

/-- SHA-256 of a byte string. -/
def sha256 (l : List Byte) : List Byte :=
  let bits := 8 * l.length
  let pad := (119 - l.length % 64) % 64
  let m := l ++ (0x80 :: List.replicate pad 0) ++ (leBytes bits 8).reverse
  ((shaBlocks shaInit (m.length / 64) m).map wordBe).flatten

/-- One bit of the CRC-64 register. -/
def crcBit (c : BitVec 64) : BitVec 64 := if c.msb then (c <<< (1 : Nat)) ^^^ 0x42F0E1EBA9EA3693#64 else c <<< (1 : Nat)

/-- One byte taken into the CRC-64 register. -/
def crcByte (c : BitVec 64) (b : Byte) : BitVec 64 :=
  (List.range 8).foldl (fun c _ => crcBit c) (c ^^^ ((b.setWidth 64 : BitVec 64) <<< (56 : Nat)))

/-- CRC-64, polynomial 0x42F0E1EBA9EA3693, most significant bit first, initial value 0. -/
def crc64 (l : List Byte) : BitVec 64 := l.foldl crcByte 0

/-! ### CRC-32 and SFEC-L (R293, R296) -/

/-- One bit, one byte of the CRC-32 register. -/
def crc32Bit (c : Nat) : Nat := if c < 2 ^ 31 then 2 * c else (2 * c - 2 ^ 32) ^^^ 0x04c11db7
def crc32Byte (c : Nat) (b : Byte) : Nat := (List.range 8).foldl (fun c _ => crc32Bit c) (c ^^^ (2 ^ 24 * b.toNat))

/-- CRC-32 of a byte string, most significant bit first, complemented at the end. [log 140 DEDUCED] -/
def crc32 (l : List Byte) : Nat := (2 ^ 32 - 1) ^^^ l.foldl crc32Byte (2 ^ 32 - 1)

/-- Twice an element of the SFEC-L field; a product in it. -/
def fecDouble (a : Nat) : Nat := if a < 128 then 2 * a else (2 * a - 256) ^^^ 0x1d
def fecMul (a b : Nat) : Nat := (List.range 8).foldr (fun i r => fecDouble r ^^^ (if b.testBit i then a else 0)) 0

/-- The generator polynomial but for its leading 1, highest power first: roots α⁰ to α¹⁹, α = 2. -/
def fecGenerator : List Nat :=
  let step := fun (g : List Nat × Nat) (_ : Nat) =>
    (List.zipWith (· ^^^ ·) (g.1 ++ [0]) (0 :: g.1.map (fecMul g.2)), fecDouble g.2)
  (((List.range 20).foldl step ([1], 1)).1).drop 1

/-- The remainder after one more byte of a codeword. -/
def fecStep (r : List Nat) (b : Byte) : List Nat :=
  let q := r.headD 0 ^^^ b.toNat
  List.zipWith (fun x g => x ^^^ fecMul q g) (r.drop 1 ++ [0]) fecGenerator

/-- The 20 parity bytes of a codeword's 204 data bytes, its first byte the highest power. [log 140 DEDUCED] -/
def fecParity (l : List Byte) : List Byte := (l.foldl fecStep (List.replicate 20 0)).map (BitVec.ofNat 8)

/-- Every fourth byte from byte i on: a codeword's share of a block. -/
def everyFourth (i : Nat) (l : List Byte) : List Byte := (l.zipIdx.filter (fun e => e.2 % 4 == i)).map (·.1)

/-- A block of 896 bytes: 816 bytes of frame area and link control word, and the parity of their four codewords,
interleaved (R292, R293). [log 140 DEDUCED] -/
def fecBlock (l : List Byte) : List Byte :=
  let par := (List.range 4).map (fun i => fecParity (everyFourth i l))
  l ++ (List.range 80).map (fun k => (par.getD (k % 4) []).getD (k / 4) 0)

/-! ### AES-256-XTS (R228; IEEE 1619 over FIPS 197) -/

/-- Twice an element of the byte field. -/
def gfDouble (b : Byte) : Byte := if b.msb then (b <<< (1 : Nat)) ^^^ 0x1b else b <<< (1 : Nat)

/-- A product in the byte field. -/
def gfMul (a b : Byte) : Byte := (List.range 8).foldr (fun i r => gfDouble r ^^^ (if b.getLsbD i then a else 0)) 0

/-- The inverse in the byte field, 0 for 0: the product of b², b⁴, …, b¹²⁸. -/
def gfInv (b : Byte) : Byte := ((List.range 7).foldl (fun (r : Byte × Byte) _ => (gfMul r.1 r.1, gfMul r.2 (gfMul r.1 r.1))) (b, 1)).2

/-- The substitution of a byte: its inverse under the affine map. -/
def aesSub (b : Byte) : Byte :=
  let i := gfInv b
  i ^^^ i.rotateLeft 1 ^^^ i.rotateLeft 2 ^^^ i.rotateLeft 3 ^^^ i.rotateLeft 4 ^^^ 0x63

/-- The substitution of every byte, in order; and its inverse. -/
def aesBox : List Byte := (List.range 256).map (fun k => aesSub (BitVec.ofNat 8 k))
def aesUnbox : List Byte := (List.range 256).map (fun k => BitVec.ofNat 8 (aesBox.idxOf (BitVec.ofNat 8 k)))

/-- Exclusive or of two byte strings. -/
def xorBytes (a b : List Byte) : List Byte := List.zipWith (· ^^^ ·) a b

/-- The next four bytes of the key schedule: `w` holds the schedule so far, of i + 8 words. -/
def aesNextWord (w : List Byte) (i : Nat) (rcon : Byte) : List Byte :=
  let last := w.drop (4 * (i + 7))
  let sub := fun (l : List Byte) => l.map (fun b => aesBox.getD b.toNat 0)
  let t := if i % 8 = 0 then xorBytes (sub (last.drop 1 ++ last.take 1)) [rcon, 0, 0, 0] else if i % 8 = 4 then sub last else last
  w ++ xorBytes ((w.drop (4 * i)).take 4) t

/-- The 15 round keys of a 32-byte key. -/
def aesKeys (key : List Byte) : List (List Byte) :=
  let w := ((List.range 52).foldl (fun (r : List Byte × Byte) i =>
    (aesNextWord r.1 i r.2, if i % 8 = 0 then gfDouble r.2 else r.2)) (key, 1)).1
  (List.range 15).map (fun k => (w.drop (16 * k)).take 16)

/-- Row r of every column moves r columns left, or right. -/
def aesRows (left : Bool) (b : List Byte) : List Byte :=
  (List.range 16).map (fun k => b.getD ((if left then k + 4 * (k % 4) else k + 16 - 4 * (k % 4)) % 16) 0)

/-- Every column multiplied by the circulant matrix of a first row. -/
def aesColumns (m : List Byte) (b : List Byte) : List Byte :=
  (List.range 16).map (fun k => (List.range 4).foldl (fun r j =>
    r ^^^ gfMul (m.getD ((j + 4 - k % 4) % 4) 0) (b.getD (k / 4 * 4 + j) 0)) 0)

/-- A block encrypted under round keys. -/
def aesBlock (ks : List (List Byte)) (b : List Byte) : List Byte :=
  let sub := fun (b : List Byte) => aesRows true (b.map (fun x => aesBox.getD x.toNat 0))
  let b := ((ks.drop 1).take 13).foldl (fun b k => xorBytes k (aesColumns [2, 3, 1, 1] (sub b))) (xorBytes (ks.getD 0 []) b)
  xorBytes (ks.getD 14 []) (sub b)

/-- A block decrypted under round keys. -/
def aesUnblock (ks : List (List Byte)) (b : List Byte) : List Byte :=
  let unsub := fun (b : List Byte) => (aesRows false b).map (fun x => aesUnbox.getD x.toNat 0)
  let b := ((ks.drop 1).take 13).foldr (fun k b => aesColumns [14, 11, 13, 9] (xorBytes k (unsub b))) (xorBytes (ks.getD 14 []) b)
  xorBytes (ks.getD 0 []) (unsub b)

/-- The tweak of the next block: times α in the field of 128 bits, little-endian. -/
def xtsNext (t : Nat) : Nat := if t < 2 ^ 127 then 2 * t else (2 * t - 2 ^ 128) ^^^ 0x87

/-- The blocks of a data unit from tweak t on, each through the cipher between two exclusive ors. -/
def xtsBlocks (cipher : List Byte → List Byte) : Nat → Nat → List Byte → List Byte
  | 0, _, _ => []
  | n + 1, t, l =>
    let m := leBytes t 16
    xorBytes m (cipher (xorBytes m (l.take 16))) ++ xtsBlocks cipher n (xtsNext t) (l.drop 16)

/-- A data unit encrypted, or decrypted, under a 64-byte key (data key, then tweak key) and a tweak. Under no key the
bytes stand as they are. -/
def xts (decrypt : Bool) (key : List Byte) (tweak : Nat) (l : List Byte) : List Byte :=
  if key.isEmpty then l else
  let ks := aesKeys (key.take 32)
  let t := leAt (aesBlock (aesKeys (key.drop 32)) (leBytes tweak 16)) 0 16
  xtsBlocks (if decrypt then aesUnblock ks else aesBlock ks) (l.length / 16) t l

end Sys2Proof.Machine
end

