-- ==== Sys2Proof/Machine/Image.lean ====
section
/-!
DEFINITION. Machine/Image.lean: plan images, bundles, templates, and the checks of PLAN_LOAD (05_cycle_plans
R151-R162, R174, R180, R549).
-/
namespace Sys2Proof.Machine

/-! ### Parts of an image (R151, R152) -/

/-- Rounded up to 64 bytes. -/
def up64 (n : Nat) : Nat := (n + 63) / 64 * 64

/-- Header fields (Table 05.2). -/
def imgFormat (l : List Byte) : Nat := leAt l 0 2
def imgPart (l : List Byte) : Nat := leAt l 2 1
def imgField (l : List Byte) : Nat := leAt l 3 1
def imgFamily (l : List Byte) : Nat := leAt l 4 4
def imgFieldSet (l : List Byte) : Nat := leAt l 8 11
def imgTemplates (l : List Byte) : Nat := leAt l 20 2
def imgMoves (l : List Byte) : Nat := leAt l 22 2
def imgBundles (l : List Byte) : Nat := leAt l 24 4

/-- Where the mover table and the bundle stream begin. -/
def imgMoveAt (l : List Byte) : Nat := 256 + up64 (32 * imgTemplates l)
def imgBundleAt (l : List Byte) : Nat := imgMoveAt l + 64 * imgMoves l

/-- Entry k of each table. -/
def imgTemplate (l : List Byte) (k : Nat) : Nat := leAt (l.drop (256 + 32 * k)) 0 32
def imgDesc (l : List Byte) (k : Nat) : Nat := leAt (l.drop (imgMoveAt l + 64 * k)) 0 64
def imgBundle (l : List Byte) (k : Nat) : Nat := leAt (l.drop (imgBundleAt l + 64 * k)) 0 64

/-! ### Bundles (R155, R156) -/

def bKind (w : Nat) : Nat := bitsOf w 95 92
def bLaneAll (w : Nat) : Bool := bitOf w 91 == 1
def bLane (w : Nat) : Nat := bitsOf w 90 89
def bSpan (w : Nat) : Nat := bitsOf w 88 77 + 1
def bRepeat (w : Nat) : Nat := bitsOf w 76 61
def bCond (w : Nat) : Nat := bitsOf w 60 59
def bGate (w : Nat) : Nat := bitsOf w 58 27 * (if bitOf w 26 = 1 then 256 else 1)
def bTag (w : Nat) : Nat := bitsOf w 58 35
def bCount (w : Nat) : Nat := bitsOf w 34 27
def bWindow (w : Nat) : Nat := if bitsOf w 26 15 = 0 then 64 else bitsOf w 26 15
def bGmask (w : Nat) : Nat := bitsOf w 14 7
def bBack (w : Nat) : Nat := bitsOf w 58 39
def bTrips (w : Nat) : Nat := bitsOf w 38 23
def bLevel (w : Nat) : Nat := bitsOf w 22 21
def bSlot (w c : Nat) : Nat := bitsOf w (96 + 52 * c + 51) (96 + 52 * c)

/-- Slot fields (R158) and the fields of a MOVE slot (R177). -/
def sTidx (x : Nat) : Nat := bitsOf x 51 44
def sAddr0 (x : Nat) : Nat := bitsOf x 43 29
def sAddr1 (x : Nat) : Nat := bitsOf x 28 14
def sImm (x : Nat) : Nat := bitsOf x 13 0
def mValid (x : Nat) : Bool := bitOf x 51 == 1
def mQueue (x : Nat) : Nat := bitsOf x 50 46
def mDesc (x : Nat) : Nat := bitsOf x 45 34

/-! ### Templates (R159, R161, R549) -/

def tClass (t : Nat) : Nat := bitsOf t 255 248
def tFmtA (t : Nat) : Nat := bitsOf t 247 245
def tFmtB (t : Nat) : Nat := bitsOf t 244 242
def tFmtOut (t : Nat) : Nat := bitsOf t 241 239
def tRto (t : Nat) : Bool := bitOf t 238 == 1
def tOrder (t : Nat) : Nat := bitsOf t 237 234
def tCount (t : Nat) : Nat := bitsOf t 63 48
def tAux (t : Nat) : Nat := bitsOf t 47 32
def tScalar (t : Nat) : Nat := bitsOf t 31 0

/-- A signed 16-bit field. -/
def signed16 (v : Nat) : Int := if v < 32768 then v else (v : Int) - 65536

/-- A format code with its SCALED bit carries block scales (R549). -/
def scaledFmt (f bit : Nat) : Bool := f == 0 || f == 3 || f == 4 || ((f == 1 || f == 2) && bit == 1)
def scaledA (t : Nat) : Bool := scaledFmt (tFmtA t) (bitOf t 233)
def scaledB (t : Nat) : Bool := scaledFmt (tFmtB t) (bitOf t 232)
def scaledOut (t : Nat) : Bool := scaledFmt (tFmtOut t) (bitOf t 231)

/-- Weight-scale accesses of a block; activation-scale bytes per row (R161). -/
def sW (t : Nat) : Nat := if tFmtA t = 0 then 4 else if scaledA t then 2 else 0
def sA (t : Nat) : Nat := if tFmtB t = 0 then 8 else if scaledB t then 4 else 0

/-- Width of a format, bits. -/
def wdt (f : Nat) : Nat := [4, 8, 8, 8, 8, 16, 16, 32].getD f 32

/-- Reduction depth of a pass: that of its wider operand (Table 03.2). -/
def passK (t : Nat) : Nat := let w := max (wdt (tFmtA t)) (wdt (tFmtB t)); if w = 4 then 256 else if w = 8 then 128 else 64

/-- Rows of a sparse pass (R92). -/
def smuRows (t : Nat) : Nat := let w := max (wdt (tFmtA t)) (wdt (tFmtB t)); if w = 4 then 512 else if w = 8 then 256 else 128

/-- Parts of an encoded sparse tile in accesses after the header: values, indices, scales (Table 04.6). -/
def smuParts (t imm : Nat) : Nat × Nat × Nat :=
  let c := 64 * tCount t
  let k := bitsOf imm 13 5 + 1
  (cdiv (c * wdt (tFmtA t)) 2048, cdiv (2 * c) 256, if scaledA t then cdiv (cdiv k 32 * 128) 256 else 0)

/-- Cycles of a sparse pass (R95). -/
def smuCycles (t imm : Nat) : Nat :=
  let c := 64 * tCount t
  let k := bitsOf imm 13 5 + 1
  let w := max (wdt (tFmtA t)) (wdt (tFmtB t))
  let d := if w = 4 then 11 else if w = 8 then 13 else 17
  if c ≤ 16 * k then cdiv k 2 else cdiv (64 * d * k + 60 * (c - 16 * k)) (128 * d)

/-- Port A, port B and write-port accesses, unit cycles, latency of a slot (Table 05.7). -/
def slotTerms (t imm : Nat) : Nat × Nat × Nat × Nat × Nat :=
  let n := tCount t
  match tClass t with
  | 1 => (64, sW t, 0, 0, 6)
  | 2 =>
    let pre := bitOf imm 12
    (pre * 64, cdiv n 2 + cdiv (n * sA t) 256 + pre * sW t, 0, if bitOf imm 13 = 1 then max n 64 else n, 0)
  | 3 => (n, 0, 0, 0, 6)
  | 4 => let p := smuParts t imm; (0, 1 + p.1 + p.2.1 + p.2.2, 0, smuCycles t imm, 0)
  | 5 => (0, 0, cdiv (n * 16 * wdt (tFmtOut t)) 256 + (if scaledOut t then cdiv n 64 else 0), 0, 5)
  | 6 =>
    (n, n * bitOf (tAux t) 0,
     cdiv (n * wdt (tFmtOut t)) (wdt (tFmtA t)) + (if scaledOut t && tFmtOut t != 4 then cdiv (8 * n) (32 * wdt (tFmtA t)) else 0),
     cdiv n 4, 10)
  | 7 => (2 * n, cdiv (n * wdt (tFmtB t)) 16, 2 * n, cdiv n 2, 10)
  | 8 => (n, 0, n, n, 16)
  | 9 => (0, n, 0, 0, 0)
  | 10 => (n, cdiv n 2, cdiv n 4 + cdiv n 128 + cdiv n 2, cdiv n 4, 12)
  | _ => (0, 0, 0, 0, 0)

/-- Planned length L (R161). -/
def slotLen (t imm : Nat) : Nat :=
  if tClass t = 0 then 0 else
  let (a, b, w, u, l) := slotTerms t imm
  max (max a (cdiv (8 * b) 6)) (max (cdiv (8 * w) 6) u) + l

/-- Units a class holds (Table 05.7): bit 0 array, 1 vector, 2 transcendental, 3 port A, 4 port B, 5 write port,
6 router injection. -/
def slotUnits (t imm : Nat) : Nat :=
  match tClass t with
  | 1 => 24
  | 2 => 17 + 8 * bitOf imm 12
  | 3 => 8
  | 4 => 17
  | 5 => 34
  | 6 => 42 + 16 * bitOf (tAux t) 0
  | 7 => 58
  | 8 => 44
  | 9 => 80
  | 10 => 58
  | _ => 0

/-- Effective addresses (R160): repetition i, loop counters. -/
def effAddr (base : Nat) (rep : Int) (strides : List Int) (i : Nat) (iters : List Nat) : Nat :=
  (((base : Int) + rep * i + (List.zipWith (fun s (k : Nat) => s * (k : Int)) strides iters).sum) % 32768).toNat

/-- Strides of ADDR0 (side 0) and ADDR1 (side 1) for loop levels 0 to 3. -/
def tStrides (t side : Nat) : List Int :=
  (List.range 4).map (fun l => signed16 (bitsOf t (143 - 64 * side + 16 * l) (128 - 64 * side + 16 * l)))

/-- Stride per repetition. -/
def tStrideRep (t side : Nat) : Int := signed16 (bitsOf t (223 - 16 * side) (208 - 16 * side))

/-! ### PLAN_LOAD checks (Table 05.3) -/

/-- Table entry k fails check 4. [log 169 DESIGN CHOICE] -/
def templateBad (k t : Nat) : Bool :=
  let c := tClass t
  let a := tFmtA t
  let b := tFmtB t
  let mx := c == 2 || c == 4
  decide (10 < c) || (k == 0 && c != 0)
    || ((mx || c == 1) && a == 7) || (mx && b == 7)
    || (mx && ((a == 4) != (b == 4)))
    || (tRto t && !([1, 2, 5, 6].contains (tFmtOut t)))
    || (c == 8 && decide (8 < bitsOf (tAux t) 3 0))
    || (bitOf t 233 == 1 && a != 1 && a != 2) || (bitOf t 232 == 1 && b != 1 && b != 2)
    || (bitOf t 231 == 1 && tFmtOut t != 1 && tFmtOut t != 2)

/-- Bundle k fails check 5. -/
def slotsBad (l : List Byte) (w : Nat) : Bool :=
  match bKind w with
  | 0 => (List.range 8).any (fun c =>
      let x := bSlot w c
      decide (imgTemplates l ≤ sTidx x) ||
        (let n := slotLen (imgTemplate l (sTidx x)) (sImm x)
         decide (4096 < n) ||
          (!(bCond w == 2 && bitOf (bGmask w) c == 1) && decide (bSpan w < n))))
  | 5 => (List.range 8).any (fun c => mValid (bSlot w c) && decide (imgMoves l ≤ mDesc (bSlot w c)))
  | _ => false

/-- The header bits a kind leaves at zero besides KIND and LANE_ALL (R155, R156, R177). -/
def mustBeZero (w : Nat) : Bool :=
  match bKind w with
  | 0 => (bCond w != 0 || bitsOf w 58 0 == 0) && (bCond w != 1 || bitsOf w 25 0 == 0) && (bCond w != 2 || bitsOf w 6 0 == 0)
  | 3 => bitsOf w 88 59 == 0 && bitsOf w 20 0 == 0 && w / 2 ^ 96 == 0
  | 5 =>
    bitsOf w 88 61 == 0 && (bCond w != 0 || bitsOf w 58 0 == 0) && (bCond w != 1 || bitsOf w 25 0 == 0)
      && (List.range 8).all (fun c => bitsOf (bSlot w c) 33 0 == 0)
  | _ => bitsOf w 88 0 == 0 && w / 2 ^ 96 == 0

/-- Bundle fails check 6. [log 133 DEDUCED] -/
def bundleBad (w : Nat) : Bool :=
  let k := bKind w
  decide (5 < k) || (k == 0 && bCond w == 3) || (k == 5 && decide (2 ≤ bCond w))
    || (k != 0 && k != 5 && !(bLaneAll w && bLane w == 0))
    || !mustBeZero w

/-- First index of a list that fails. -/
def firstBad (l : List Nat) (p : Nat → Nat → Bool) : Option Nat :=
  ((l.zipIdx).find? (fun e => p e.2 e.1)).map (·.2)

/-- The loops of a stream: first bundle of the body, LOOP_END index, level. -/
def loopsOf (bs : List Nat) : List (Nat × Nat × Nat) :=
  (bs.zipIdx.filter (fun e => bKind e.1 == 3)).map (fun e => (e.2 - bBack e.1, e.2, bLevel e.1))

/-- LOOP_END bundle j fails check 8. -/
def loopBad (bs : List Nat) (j w : Nat) : Bool :=
  let ls := loopsOf bs
  let lo := j - bBack w
  bKind w == 3 && (bBack w == 0 || decide (j ≤ bBack w)
    || ls.any (fun m => m.2.1 != j &&
        ((decide (lo ≤ m.1 ∧ m.2.1 < j) && decide (m.2.2 ≤ bLevel w))
          || (decide (m.1 < lo ∧ lo ≤ m.2.1 ∧ m.2.1 < j))))
    || decide (4 < (ls.filter (fun m => decide (m.1 ≤ lo ∧ j ≤ m.2.1))).length))

/-- Gated bundle j fails check 9: inside a loop body, or earlier than a gate before it. -/
def gateBad (bs : List Nat) (j w : Nat) : Bool :=
  (bKind w == 0 || bKind w == 5) && bCond w == 1 &&
    ((loopsOf bs).any (fun m => decide (m.1 ≤ j ∧ j < m.2.1))
      || (bs.take j).any (fun v => (bKind v == 0 || bKind v == 5) && bCond v == 1 && decide (bGate w < bGate v)))

/-- A run of bundles: cycles, start of its first sentinel, start of its last, largest gap between sentinel starts. -/
structure SpanSum where
  len : Nat := 0
  first : Option Nat := none
  last : Nat := 0
  gap : Nat := 0
  deriving DecidableEq, Repr

/-- Two runs one after the other. -/
def SpanSum.cat (a b : SpanSum) : SpanSum :=
  match a.first, b.first with
  | none, none => { len := a.len + b.len }
  | some x, none => { a with len := a.len + b.len, first := some x }
  | none, some y => { len := a.len + b.len, first := some (a.len + y), last := a.len + b.last, gap := b.gap }
  | some x, some y =>
    { len := a.len + b.len, first := some x, last := a.len + b.last, gap := max (max a.gap b.gap) (a.len - a.last + y) }

/-- A run n times over. -/
def SpanSum.times (n : Nat) (a : SpanSum) : SpanSum :=
  match a.first with
  | none => { len := n * a.len }
  | some x =>
    { len := n * a.len, first := some x, last := (n - 1) * a.len + a.last
      gap := if n ≤ 1 then a.gap else max a.gap (a.len - a.last + x) }

/-- The run of one bundle (R166). -/
def SpanSum.one (w : Nat) : SpanSum :=
  match bKind w with
  | 0 => { len := bSpan w * (bRepeat w + 1) }
  | 1 => { len := 1 }
  | 2 => { len := 512, first := some 0, last := 0 }
  | _ => {}

/-- The runs of a stream, newest first, loop bodies folded at their LOOP_END: (first bundle, run). -/
def foldRuns (st : List (Nat × SpanSum)) (e : Nat × Nat) : List (Nat × SpanSum) :=
  if bKind e.1 = 3 then
    let lo := e.2 - bBack e.1
    let body := (st.filter (fun r => decide (lo ≤ r.1))).foldl (fun a r => r.2.cat a) {}
    (lo, body.times (bTrips e.1 + 1)) :: st.filter (fun r => decide (r.1 < lo))
  else (e.2, SpanSum.one e.1) :: st

/-- The whole pass, up to END. -/
def passRun (bs : List Nat) : SpanSum :=
  ((bs.takeWhile (fun w => bKind w != 4)).zipIdx.foldl foldRuns []).foldl (fun a r => r.2.cat a) {}

/-- Sentinel spacing is broken (R180): wrapped, some run between sentinel starts exceeds 102,400 cycles. -/
def spacingBad (bs : List Nat) : Bool :=
  let r := passRun bs
  match r.first with
  | none => true
  | some x => decide (102400 < r.gap) || decide (102400 < r.len - r.last + x)

/-- The image with its DIGEST taken as zero (Table 05.2). -/
def digestOf (l : List Byte) : List Byte := sha256 (l.take 64 ++ List.replicate 32 0 ++ l.drop 96)

/-- Checks 1 to 11 of Table 05.3 on an image for field f of partition p whose field mask is `mask`: the code and index
of the first failure. A template count outside Table 05.1 is taken as code 4, other sizes as code 7.
[log 22 DEDUCED, 170 DESIGN CHOICE] -/
def imageFault (p f mask : Nat) (l : List Byte) : Option (Nat × Nat) :=
  let ts := (List.range (imgTemplates l)).map (imgTemplate l)
  let bs := (List.range (imgBundles l)).map (imgBundle l)
  if imgFormat l ≠ 2 then some (1, 0)
  else if digestOf l ≠ (l.drop 64).take 32 then some (2, 0)
  else if imgPart l ≠ p ∨ imgField l ≠ f ∨ bitOf mask f = 0 then some (3, 0)
  else if ts.length = 0 ∨ 256 < ts.length then some (4, 0)
  else if 4096 < imgMoves l ∨ 2 ^ 24 < l.length ∨ l.length < imgBundleAt l + 64 * bs.length then some (7, 0)
  else
    let find := fun (code : Nat) (l : List Nat) (q : Nat → Nat → Bool) => (firstBad l q).map (fun k => (code, k))
    (find 4 ts templateBad).orElse fun _ =>
    (find 5 bs (fun _ w => slotsBad l w)).orElse fun _ =>
    (find 6 bs (fun _ w => bundleBad w)).orElse fun _ =>
    (find 7 bs (fun k w => (k == 0) != (bKind w == 1))).orElse fun _ =>
    (if bs.any (fun w => bKind w == 4) then none else some (7, bs.length)).orElse fun _ =>
    (find 8 bs (loopBad bs)).orElse fun _ =>
    (find 9 bs (gateBad bs)).orElse fun _ =>
    (find 10 bs (fun _ w => bKind w == 0 && bCond w == 2 && (bCount w == 0 || bGmask w == 0))).orElse fun _ =>
    (if spacingBad bs then some (11, 0) else none)

/-- Pages of 64 KiB an image takes (R153). -/
def imgPages (n : Nat) : Nat := cdiv n 65536

end Sys2Proof.Machine
end

