-- ==== Sys2Proof/Machine/Regs.lean ====
section
/-!
DEFINITION. Machine/Regs.lean: the register map of the module (18_address_map R534-R543 and the register tables of
every chapter). `R.X` is the BAR0 offset of register X (the same on every path that reaches it), `F.X_Y` its field Y,
and `regRow` finds the row of the register tables an offset falls in: the fields it holds, their access types (Table
00.5) and their values when the module leaves reset (R16; "fw" and "strap" fields read zero until loaded or sampled).
Above the 16 MiB of BAR0 lie endpoint 1's queue pages (R534: each endpoint has its own), at 0x0100_0000, and the MSI-X
window of each function of each endpoint, at 0x0110_0000 + 0x2000 × (8 × endpoint + function).
-/
namespace Sys2Proof.Machine

/-- Register access types (Table 00.5, R11). -/
inductive Access where
  | rw | ro | w1c | w1s | wo | rwl
  deriving DecidableEq, Repr

/-- One field of a register table row: bits [hi:lo], access, value at reset (R16). -/
structure FieldSpec where
  hi : Nat
  lo : Nat
  acc : Access
  reset : Nat
  deriving DecidableEq, Repr

/-- One row of a register window table: the offset of instance 0 in its window, how many instances, their stride. -/
structure RegRow where
  off : Nat
  count : Nat
  stride : Nat
  fields : List FieldSpec
  deriving DecidableEq, Repr

/-- A named field: a register's offset and the bits it occupies. -/
structure Fld where
  reg : Nat
  hi : Nat
  lo : Nat
  deriving DecidableEq, Repr

/-- How many bits a field holds. -/
def Fld.width (f : Fld) : Nat := f.hi + 1 - f.lo

def R.TIM_FET_LO : Nat := 0x20000
def F.TIM_FET_LO_FET_LO : Fld := ⟨R.TIM_FET_LO, 31, 0⟩
def R.TIM_FET_HI : Nat := 0x20004
def F.TIM_FET_HI_FET_HI : Fld := ⟨R.TIM_FET_HI, 31, 0⟩
def R.TIM_STATUS : Nat := 0x20008
def F.TIM_STATUS_EST_ERR : Fld := ⟨R.TIM_STATUS, 31, 16⟩
def F.TIM_STATUS_VALID : Fld := ⟨R.TIM_STATUS, 15, 15⟩
def F.TIM_STATUS_LEARNED : Fld := ⟨R.TIM_STATUS, 14, 14⟩
def F.TIM_STATUS_OVEN_OK : Fld := ⟨R.TIM_STATUS, 13, 13⟩
def F.TIM_STATUS_FAR : Fld := ⟨R.TIM_STATUS, 12, 12⟩
def F.TIM_STATUS_STEPS : Fld := ⟨R.TIM_STATUS, 11, 8⟩
def F.TIM_STATUS_REF : Fld := ⟨R.TIM_STATUS, 7, 4⟩
def F.TIM_STATUS_STATE : Fld := ⟨R.TIM_STATUS, 2, 0⟩
def R.TIM_CTRL : Nat := 0x2000c
def F.TIM_CTRL_FORCE_REF : Fld := ⟨R.TIM_CTRL, 7, 4⟩
def F.TIM_CTRL_STEP_EN : Fld := ⟨R.TIM_CTRL, 3, 3⟩
def F.TIM_CTRL_PTP_EN : Fld := ⟨R.TIM_CTRL, 2, 2⟩
def F.TIM_CTRL_CICADA_TX_EN : Fld := ⟨R.TIM_CTRL, 1, 1⟩
def F.TIM_CTRL_ENABLE : Fld := ⟨R.TIM_CTRL, 0, 0⟩
def R.TIM_REF_PRIO : Nat := 0x20010
def F.TIM_REF_PRIO_PRIO3 : Fld := ⟨R.TIM_REF_PRIO, 15, 12⟩
def F.TIM_REF_PRIO_PRIO2 : Fld := ⟨R.TIM_REF_PRIO, 11, 8⟩
def F.TIM_REF_PRIO_PRIO1 : Fld := ⟨R.TIM_REF_PRIO, 7, 4⟩
def F.TIM_REF_PRIO_PRIO0 : Fld := ⟨R.TIM_REF_PRIO, 3, 0⟩
def R.TIM_REF_QUAL : Nat := 0x20014
def F.TIM_REF_QUAL_SEL_PORT : Fld := ⟨R.TIM_REF_QUAL, 29, 24⟩
def F.TIM_REF_QUAL_FAR : Fld := ⟨R.TIM_REF_QUAL, 11, 8⟩
def F.TIM_REF_QUAL_PRESENT : Fld := ⟨R.TIM_REF_QUAL, 7, 4⟩
def F.TIM_REF_QUAL_QUALIFIED : Fld := ⟨R.TIM_REF_QUAL, 3, 0⟩
def R.TIM_QUAL_CFG : Nat := 0x20018
def F.TIM_QUAL_CFG_REVERT_MS : Fld := ⟨R.TIM_QUAL_CFG, 31, 16⟩
def R.TIM_SLEW_CFG : Nat := 0x2001c
def F.TIM_SLEW_CFG_STEP_LIMIT_NS : Fld := ⟨R.TIM_SLEW_CFG, 31, 16⟩
def F.TIM_SLEW_CFG_SLEW_PPB : Fld := ⟨R.TIM_SLEW_CFG, 7, 0⟩
def R.TIM_HOLD_CFG : Nat := 0x20020
def F.TIM_HOLD_CFG_HOLD_LIMIT_NS : Fld := ⟨R.TIM_HOLD_CFG, 15, 0⟩
def R.TIM_CICADA_CFG : Nat := 0x20024
def F.TIM_CICADA_CFG_PERIOD_US : Fld := ⟨R.TIM_CICADA_CFG, 9, 0⟩
def R.TIM_PPS_DELAY : Nat := 0x20028
def F.TIM_PPS_DELAY_DELAY_PS : Fld := ⟨R.TIM_PPS_DELAY, 31, 0⟩
def R.TIM_ALARM : Nat := 0x2002c
def F.TIM_ALARM_STEPPED : Fld := ⟨R.TIM_ALARM, 7, 7⟩
def F.TIM_ALARM_NBR_OFFSET : Fld := ⟨R.TIM_ALARM, 6, 6⟩
def F.TIM_ALARM_FAR : Fld := ⟨R.TIM_ALARM, 5, 5⟩
def F.TIM_ALARM_HOLD_LIMIT : Fld := ⟨R.TIM_ALARM, 4, 4⟩
def F.TIM_ALARM_HOLD_ENTER : Fld := ⟨R.TIM_ALARM, 3, 3⟩
def F.TIM_ALARM_SWITCH_DONE : Fld := ⟨R.TIM_ALARM, 2, 2⟩
def F.TIM_ALARM_REF_LOST : Fld := ⟨R.TIM_ALARM, 1, 1⟩
def F.TIM_ALARM_PPS_BAD : Fld := ⟨R.TIM_ALARM, 0, 0⟩
def R.TIM_ALARM_EN : Nat := 0x20030
def F.TIM_ALARM_EN_EN : Fld := ⟨R.TIM_ALARM_EN, 7, 0⟩
def R.TIM_NBR_LIMIT : Nat := 0x20034
def F.TIM_NBR_LIMIT_LIMIT_NS : Fld := ⟨R.TIM_NBR_LIMIT, 15, 0⟩
def R.TIM_ALIGN_FET_LO : Nat := 0x20038
def F.TIM_ALIGN_FET_LO_ALIGN : Fld := ⟨R.TIM_ALIGN_FET_LO, 31, 0⟩
def R.TIM_ALIGN_FET_HI : Nat := 0x2003c
def F.TIM_ALIGN_FET_HI_ALIGN : Fld := ⟨R.TIM_ALIGN_FET_HI, 31, 0⟩
def R.TIM_ABST_CFG (p : Nat) : Nat := 0x20040 + 4 * p
def F.TIM_ABST_CFG_LIMIT (p : Nat) : Fld := ⟨R.TIM_ABST_CFG p, 2, 0⟩
def R.TIM_PORT_ASYM (n : Nat) : Nat := 0x21000 + 16 * n
def F.TIM_PORT_ASYM_ASYM_PS (n : Nat) : Fld := ⟨R.TIM_PORT_ASYM n, 31, 0⟩
def R.TIM_PORT_OFFSET (n : Nat) : Nat := 0x21004 + 16 * n
def F.TIM_PORT_OFFSET_OFFSET_PS (n : Nat) : Fld := ⟨R.TIM_PORT_OFFSET n, 31, 0⟩
def R.TIM_PORT_DELAY (n : Nat) : Nat := 0x21008 + 16 * n
def F.TIM_PORT_DELAY_DELAY_PS (n : Nat) : Fld := ⟨R.TIM_PORT_DELAY n, 31, 0⟩
def R.TIM_PORT_STATUS (n : Nat) : Nat := 0x2100c + 16 * n
def F.TIM_PORT_STATUS_VALID (n : Nat) : Fld := ⟨R.TIM_PORT_STATUS n, 16, 16⟩
def F.TIM_PORT_STATUS_PEER_STEPS (n : Nat) : Fld := ⟨R.TIM_PORT_STATUS n, 15, 12⟩
def F.TIM_PORT_STATUS_PEER_STATE (n : Nat) : Fld := ⟨R.TIM_PORT_STATUS n, 11, 8⟩
def F.TIM_PORT_STATUS_MISSED (n : Nat) : Fld := ⟨R.TIM_PORT_STATUS n, 7, 0⟩
def R.CLK_CTRL (f : Nat) : Nat := 0x28000 + 16 * f
def F.CLK_CTRL_ARM (f : Nat) : Fld := ⟨R.CLK_CTRL f, 8, 8⟩
def F.CLK_CTRL_OP_NEXT (f : Nat) : Fld := ⟨R.CLK_CTRL f, 4, 0⟩
def R.CLK_OP_FET_LO (f : Nat) : Nat := 0x28004 + 16 * f
def F.CLK_OP_FET_LO_OP_FET (f : Nat) : Fld := ⟨R.CLK_OP_FET_LO f, 31, 0⟩
def R.CLK_OP_FET_HI (f : Nat) : Nat := 0x28008 + 16 * f
def F.CLK_OP_FET_HI_OP_FET (f : Nat) : Fld := ⟨R.CLK_OP_FET_HI f, 31, 0⟩
def R.CLK_STATUS (f : Nat) : Nat := 0x2800c + 16 * f
def F.CLK_STATUS_SKEW_PS (f : Nat) : Fld := ⟨R.CLK_STATUS f, 31, 16⟩
def F.CLK_STATUS_LOCKED (f : Nat) : Fld := ⟨R.CLK_STATUS f, 8, 8⟩
def F.CLK_STATUS_OP_NOW (f : Nat) : Fld := ⟨R.CLK_STATUS f, 4, 0⟩
def R.CEL_STATUS (f c : Nat) : Nat := 0x808000 + 0x10000 * f + 0x100 * c + 0x0
def F.CEL_STATUS_LOCAL_LOGICAL (f c : Nat) : Fld := ⟨R.CEL_STATUS f c, 15, 10⟩
def F.CEL_STATUS_ROLE (f c : Nat) : Fld := ⟨R.CEL_STATUS f c, 9, 8⟩
def F.CEL_STATUS_SENTINEL (f c : Nat) : Fld := ⟨R.CEL_STATUS f c, 7, 7⟩
def F.CEL_STATUS_FU_FULL (f c : Nat) : Fld := ⟨R.CEL_STATUS f c, 6, 6⟩
def F.CEL_STATUS_SP_ZEROING (f c : Nat) : Fld := ⟨R.CEL_STATUS f c, 5, 5⟩
def F.CEL_STATUS_STALLED (f c : Nat) : Fld := ⟨R.CEL_STATUS f c, 4, 4⟩
def F.CEL_STATUS_PARKED (f c : Nat) : Fld := ⟨R.CEL_STATUS f c, 3, 0⟩
def R.CEL_CTRL (f c : Nat) : Nat := 0x808000 + 0x10000 * f + 0x100 * c + 0x4
def F.CEL_CTRL_CNT_CLEAR (f c : Nat) : Fld := ⟨R.CEL_CTRL f c, 3, 3⟩
def F.CEL_CTRL_FU_CLEAR (f c : Nat) : Fld := ⟨R.CEL_CTRL f c, 2, 2⟩
def F.CEL_CTRL_SP_ZERO (f c : Nat) : Fld := ⟨R.CEL_CTRL f c, 1, 1⟩
def R.CEL_SP_ERR (f c : Nat) : Nat := 0x808000 + 0x10000 * f + 0x100 * c + 0x8
def F.CEL_SP_ERR_VALID (f c : Nat) : Fld := ⟨R.CEL_SP_ERR f c, 31, 31⟩
def F.CEL_SP_ERR_PORT (f c : Nat) : Fld := ⟨R.CEL_SP_ERR f c, 30, 29⟩
def F.CEL_SP_ERR_REQ (f c : Nat) : Fld := ⟨R.CEL_SP_ERR f c, 28, 27⟩
def F.CEL_SP_ERR_LANE (f c : Nat) : Fld := ⟨R.CEL_SP_ERR f c, 26, 25⟩
def F.CEL_SP_ERR_BANK (f c : Nat) : Fld := ⟨R.CEL_SP_ERR f c, 22, 17⟩
def F.CEL_SP_ERR_HALF (f c : Nat) : Fld := ⟨R.CEL_SP_ERR f c, 16, 15⟩
def F.CEL_SP_ERR_OFFSET (f c : Nat) : Fld := ⟨R.CEL_SP_ERR f c, 14, 0⟩
def R.CEL_SP_ERR_CNT (f c : Nat) : Nat := 0x808000 + 0x10000 * f + 0x100 * c + 0xc
def F.CEL_SP_ERR_CNT_COUNT (f c : Nat) : Fld := ⟨R.CEL_SP_ERR_CNT f c, 15, 0⟩
def R.CEL_FU_STATUS (f c : Nat) : Nat := 0x808000 + 0x10000 * f + 0x100 * c + 0x10
def F.CEL_FU_STATUS_MISS_CNT (f c : Nat) : Fld := ⟨R.CEL_FU_STATUS f c, 31, 24⟩
def F.CEL_FU_STATUS_OVF_CNT (f c : Nat) : Fld := ⟨R.CEL_FU_STATUS f c, 23, 16⟩
def F.CEL_FU_STATUS_STALE_CNT (f c : Nat) : Fld := ⟨R.CEL_FU_STATUS f c, 15, 8⟩
def F.CEL_FU_STATUS_HIGH_WATER (f c : Nat) : Fld := ⟨R.CEL_FU_STATUS f c, 6, 0⟩
def R.CEL_FU_MISS (f c : Nat) : Nat := 0x808000 + 0x10000 * f + 0x100 * c + 0x14
def F.CEL_FU_MISS_VALID (f c : Nat) : Fld := ⟨R.CEL_FU_MISS f c, 31, 31⟩
def F.CEL_FU_MISS_TAG (f c : Nat) : Fld := ⟨R.CEL_FU_MISS f c, 23, 0⟩
def R.CEL_RES_ERR (f c : Nat) : Nat := 0x808000 + 0x10000 * f + 0x100 * c + 0x18
def F.CEL_RES_ERR_VALID (f c : Nat) : Fld := ⟨R.CEL_RES_ERR f c, 31, 31⟩
def F.CEL_RES_ERR_UNIT (f c : Nat) : Fld := ⟨R.CEL_RES_ERR f c, 30, 29⟩
def F.CEL_RES_ERR_LANE (f c : Nat) : Fld := ⟨R.CEL_RES_ERR f c, 28, 27⟩
def F.CEL_RES_ERR_COUNT (f c : Nat) : Fld := ⟨R.CEL_RES_ERR f c, 15, 0⟩
def R.CEL_SP_WAIT (f c : Nat) : Nat := 0x808000 + 0x10000 * f + 0x100 * c + 0x1c
def F.CEL_SP_WAIT_MAX_MOVER (f c : Nat) : Fld := ⟨R.CEL_SP_WAIT f c, 31, 24⟩
def F.CEL_SP_WAIT_MAX_ROUTER (f c : Nat) : Fld := ⟨R.CEL_SP_WAIT f c, 23, 16⟩
def F.CEL_SP_WAIT_MAX_DATAPATH (f c : Nat) : Fld := ⟨R.CEL_SP_WAIT f c, 15, 8⟩
def R.CEL_STALL (f c : Nat) : Nat := 0x808000 + 0x10000 * f + 0x100 * c + 0x20
def F.CEL_STALL_CYCLES (f c : Nat) : Fld := ⟨R.CEL_STALL f c, 31, 0⟩
def R.CEL_SMU_CAP (f c : Nat) : Nat := 0x808000 + 0x10000 * f + 0x100 * c + 0x24
def F.CEL_SMU_CAP_CAP_FAULT (f c : Nat) : Fld := ⟨R.CEL_SMU_CAP f c, 31, 31⟩
def F.CEL_SMU_CAP_COUNT (f c : Nat) : Fld := ⟨R.CEL_SMU_CAP f c, 15, 0⟩
def R.CEL_INJECT (f c : Nat) : Nat := 0x808000 + 0x10000 * f + 0x100 * c + 0x28
def F.CEL_INJECT_RES_UNIT (f c : Nat) : Fld := ⟨R.CEL_INJECT f c, 3, 2⟩
def F.CEL_INJECT_RES_ARM (f c : Nat) : Fld := ⟨R.CEL_INJECT f c, 1, 1⟩
def F.CEL_INJECT_SP_ARM (f c : Nat) : Fld := ⟨R.CEL_INJECT f c, 0, 0⟩
def R.CEL_SENT_SEED (f c : Nat) : Nat := 0x808000 + 0x10000 * f + 0x100 * c + 0x2c
def F.CEL_SENT_SEED_SEED (f c : Nat) : Fld := ⟨R.CEL_SENT_SEED f c, 31, 0⟩
def R.CEL_SENT_SIG (f c : Nat) : Nat := 0x808000 + 0x10000 * f + 0x100 * c + 0x30
def F.CEL_SENT_SIG_SIG (f c : Nat) : Fld := ⟨R.CEL_SENT_SIG f c, 31, 0⟩
def R.FLD_STATUS (f : Nat) : Nat := 0x800000 + 0x10000 * f + 0x0
def F.FLD_STATUS_IMAGE (f : Nat) : Fld := ⟨R.FLD_STATUS f, 23, 20⟩
def F.FLD_STATUS_PART (f : Nat) : Fld := ⟨R.FLD_STATUS f, 19, 17⟩
def F.FLD_STATUS_BOUND (f : Nat) : Fld := ⟨R.FLD_STATUS f, 16, 16⟩
def F.FLD_STATUS_STARTED (f : Nat) : Fld := ⟨R.FLD_STATUS f, 15, 15⟩
def F.FLD_STATUS_STOP_PENDING (f : Nat) : Fld := ⟨R.FLD_STATUS f, 14, 14⟩
def F.FLD_STATUS_WAIT_STEP (f : Nat) : Fld := ⟨R.FLD_STATUS f, 13, 13⟩
def F.FLD_STATUS_WAIT_GATE (f : Nat) : Fld := ⟨R.FLD_STATUS f, 12, 12⟩
def F.FLD_STATUS_BP (f : Nat) : Fld := ⟨R.FLD_STATUS f, 11, 11⟩
def F.FLD_STATUS_QMAX (f : Nat) : Fld := ⟨R.FLD_STATUS f, 4, 0⟩
def R.FLD_CTRL (f : Nat) : Nat := 0x800000 + 0x10000 * f + 0x4
def F.FLD_CTRL_CNT_CLEAR (f : Nat) : Fld := ⟨R.FLD_CTRL f, 0, 0⟩
def R.FLD_PC (f : Nat) : Nat := 0x800000 + 0x10000 * f + 0x8
def F.FLD_PC_PC (f : Nat) : Fld := ⟨R.FLD_PC f, 17, 0⟩
def R.FLD_LOOP01 (f : Nat) : Nat := 0x800000 + 0x10000 * f + 0xc
def F.FLD_LOOP01_ITER1 (f : Nat) : Fld := ⟨R.FLD_LOOP01 f, 31, 16⟩
def F.FLD_LOOP01_ITER0 (f : Nat) : Fld := ⟨R.FLD_LOOP01 f, 15, 0⟩
def R.FLD_LOOP23 (f : Nat) : Nat := 0x800000 + 0x10000 * f + 0x10
def F.FLD_LOOP23_ITER3 (f : Nat) : Fld := ⟨R.FLD_LOOP23 f, 31, 16⟩
def F.FLD_LOOP23_ITER2 (f : Nat) : Fld := ⟨R.FLD_LOOP23 f, 15, 0⟩
def R.FLD_LANE_EN (f : Nat) : Nat := 0x800000 + 0x10000 * f + 0x14
def F.FLD_LANE_EN_NEXT (f : Nat) : Fld := ⟨R.FLD_LANE_EN f, 7, 4⟩
def F.FLD_LANE_EN_NOW (f : Nat) : Fld := ⟨R.FLD_LANE_EN f, 3, 0⟩
def R.FLD_STEP_CNT (f : Nat) : Nat := 0x800000 + 0x10000 * f + 0x18
def F.FLD_STEP_CNT_COUNT (f : Nat) : Fld := ⟨R.FLD_STEP_CNT f, 31, 0⟩
def R.FLD_LATE_GATE (f : Nat) : Nat := 0x800000 + 0x10000 * f + 0x1c
def F.FLD_LATE_GATE_LAST_NS (f : Nat) : Fld := ⟨R.FLD_LATE_GATE f, 31, 16⟩
def F.FLD_LATE_GATE_COUNT (f : Nat) : Fld := ⟨R.FLD_LATE_GATE f, 15, 0⟩
def R.FLD_BP_CYCLES (f : Nat) : Nat := 0x800000 + 0x10000 * f + 0x20
def F.FLD_BP_CYCLES_CYCLES (f : Nat) : Fld := ⟨R.FLD_BP_CYCLES f, 31, 0⟩
def R.FLD_HOLD_CYCLES (f : Nat) : Nat := 0x800000 + 0x10000 * f + 0x24
def F.FLD_HOLD_CYCLES_CYCLES (f : Nat) : Fld := ⟨R.FLD_HOLD_CYCLES f, 31, 0⟩
def R.FLD_SENT_IDX (f : Nat) : Nat := 0x800000 + 0x10000 * f + 0x28
def F.FLD_SENT_IDX_INDEX (f : Nat) : Fld := ⟨R.FLD_SENT_IDX f, 31, 0⟩
def R.FLD_SENT_ERR (f : Nat) : Nat := 0x800000 + 0x10000 * f + 0x2c
def F.FLD_SENT_ERR_VALID (f : Nat) : Fld := ⟨R.FLD_SENT_ERR f, 31, 31⟩
def F.FLD_SENT_ERR_RESERVE (f : Nat) : Fld := ⟨R.FLD_SENT_ERR f, 30, 30⟩
def F.FLD_SENT_ERR_CELL_A (f : Nat) : Fld := ⟨R.FLD_SENT_ERR f, 23, 18⟩
def F.FLD_SENT_ERR_CELL_B (f : Nat) : Fld := ⟨R.FLD_SENT_ERR f, 17, 12⟩
def F.FLD_SENT_ERR_COUNT (f : Nat) : Fld := ⟨R.FLD_SENT_ERR f, 7, 0⟩
def R.FLD_STORE (f : Nat) : Nat := 0x800000 + 0x10000 * f + 0x30
def F.FLD_STORE_FREE_PAGES (f : Nat) : Fld := ⟨R.FLD_STORE f, 24, 16⟩
def F.FLD_STORE_RESIDENT (f : Nat) : Fld := ⟨R.FLD_STORE f, 15, 0⟩
def R.FLD_LOAD_ERR (f : Nat) : Nat := 0x800000 + 0x10000 * f + 0x34
def F.FLD_LOAD_ERR_VALID (f : Nat) : Fld := ⟨R.FLD_LOAD_ERR f, 31, 31⟩
def F.FLD_LOAD_ERR_CODE (f : Nat) : Fld := ⟨R.FLD_LOAD_ERR f, 25, 22⟩
def F.FLD_LOAD_ERR_HANDLE (f : Nat) : Fld := ⟨R.FLD_LOAD_ERR f, 21, 18⟩
def F.FLD_LOAD_ERR_INDEX (f : Nat) : Fld := ⟨R.FLD_LOAD_ERR f, 17, 0⟩
def R.MSH_MODE : Nat := 0x50000
def F.MSH_MODE_SEAM_ALLOW : Fld := ⟨R.MSH_MODE, 15, 8⟩
def F.MSH_MODE_MODE : Fld := ⟨R.MSH_MODE, 0, 0⟩
def R.MSH_ROUTE_CFG : Nat := 0x50004
def F.MSH_ROUTE_CFG_EXP_EN : Fld := ⟨R.MSH_ROUTE_CFG, 8, 8⟩
def F.MSH_ROUTE_CFG_EXP_MIN : Fld := ⟨R.MSH_ROUTE_CFG, 3, 0⟩
def R.MSH_MAP_STATUS : Nat := 0x50008
def F.MSH_MAP_STATUS_FENCE_PART : Fld := ⟨R.MSH_MAP_STATUS, 7, 5⟩
def F.MSH_MAP_STATUS_FENCE : Fld := ⟨R.MSH_MAP_STATUS, 4, 4⟩
def F.MSH_MAP_STATUS_PENDING : Fld := ⟨R.MSH_MAP_STATUS, 3, 3⟩
def R.MSH_FIELD_OK0 : Nat := 0x5000c
def F.MSH_FIELD_OK0_OK : Fld := ⟨R.MSH_FIELD_OK0, 31, 0⟩
def R.MSH_FIELD_OK1 : Nat := 0x50010
def F.MSH_FIELD_OK1_OK : Fld := ⟨R.MSH_FIELD_OK1, 31, 0⟩
def R.MSH_FIELD_OK2 : Nat := 0x50014
def F.MSH_FIELD_OK2_OK : Fld := ⟨R.MSH_FIELD_OK2, 31, 0⟩
def R.MSH_GEN (p : Nat) : Nat := 0x50020 + 4 * p
def F.MSH_GEN_GEN (p : Nat) : Fld := ⟨R.MSH_GEN p, 7, 0⟩
def R.MSH_SEAM_DROP : Nat := 0x50040
def F.MSH_SEAM_DROP_COUNT : Fld := ⟨R.MSH_SEAM_DROP, 31, 0⟩
def R.MSH_L2P (i : Nat) : Nat := 0x51000 + 4 * i
def F.MSH_L2P_POS (i : Nat) : Fld := ⟨R.MSH_L2P i, 6, 0⟩
def R.MSH_FSTATUS (f : Nat) : Nat := 0x800000 + 0x10000 * f + 0x1000
def F.MSH_FSTATUS_EP_CTX_HW (f : Nat) : Fld := ⟨R.MSH_FSTATUS f, 12, 8⟩
def F.MSH_FSTATUS_CTX_HW (f : Nat) : Fld := ⟨R.MSH_FSTATUS f, 3, 0⟩
def R.MSH_FCTRL (f : Nat) : Nat := 0x800000 + 0x10000 * f + 0x1004
def F.MSH_FCTRL_CNT_CLEAR (f : Nat) : Fld := ⟨R.MSH_FCTRL f, 0, 0⟩
def R.MSH_ECC_CNT (f : Nat) : Nat := 0x800000 + 0x10000 * f + 0x1008
def F.MSH_ECC_CNT_CORR (f : Nat) : Fld := ⟨R.MSH_ECC_CNT f, 31, 16⟩
def F.MSH_ECC_CNT_UNCORR (f : Nat) : Fld := ⟨R.MSH_ECC_CNT f, 15, 0⟩
def R.MSH_ECC_ERR (f : Nat) : Nat := 0x800000 + 0x10000 * f + 0x100c
def F.MSH_ECC_ERR_VALID (f : Nat) : Fld := ⟨R.MSH_ECC_ERR f, 31, 31⟩
def F.MSH_ECC_ERR_UNCORR (f : Nat) : Fld := ⟨R.MSH_ECC_ERR f, 30, 30⟩
def F.MSH_ECC_ERR_PORT (f : Nat) : Fld := ⟨R.MSH_ECC_ERR f, 29, 27⟩
def F.MSH_ECC_ERR_QUARTER (f : Nat) : Fld := ⟨R.MSH_ECC_ERR f, 26, 24⟩
def F.MSH_ECC_ERR_POS (f : Nat) : Fld := ⟨R.MSH_ECC_ERR f, 6, 0⟩
def R.MSH_DROP_CNT (f : Nat) : Nat := 0x800000 + 0x10000 * f + 0x1010
def F.MSH_DROP_CNT_MISROUTE (f : Nat) : Fld := ⟨R.MSH_DROP_CNT f, 31, 24⟩
def F.MSH_DROP_CNT_PART (f : Nat) : Fld := ⟨R.MSH_DROP_CNT f, 23, 16⟩
def F.MSH_DROP_CNT_GEN (f : Nat) : Fld := ⟨R.MSH_DROP_CNT f, 15, 8⟩
def F.MSH_DROP_CNT_UNREACH (f : Nat) : Fld := ⟨R.MSH_DROP_CNT f, 7, 0⟩
def R.MSH_FENCE_CNT (f : Nat) : Nat := 0x800000 + 0x10000 * f + 0x1014
def F.MSH_FENCE_CNT_ACCEPTED (f : Nat) : Fld := ⟨R.MSH_FENCE_CNT f, 31, 16⟩
def F.MSH_FENCE_CNT_DROPPED (f : Nat) : Fld := ⟨R.MSH_FENCE_CNT f, 15, 0⟩
def R.MSH_BUSY_CNT (f : Nat) : Nat := 0x800000 + 0x10000 * f + 0x1018
def F.MSH_BUSY_CNT_SENT (f : Nat) : Fld := ⟨R.MSH_BUSY_CNT f, 31, 16⟩
def F.MSH_BUSY_CNT_RETRIED (f : Nat) : Fld := ⟨R.MSH_BUSY_CNT f, 15, 0⟩
def R.MSH_ABANDON (f : Nat) : Nat := 0x800000 + 0x10000 * f + 0x101c
def F.MSH_ABANDON_VALID (f : Nat) : Fld := ⟨R.MSH_ABANDON f, 31, 31⟩
def F.MSH_ABANDON_COUNT (f : Nat) : Fld := ⟨R.MSH_ABANDON f, 30, 26⟩
def F.MSH_ABANDON_DST (f : Nat) : Fld := ⟨R.MSH_ABANDON f, 25, 13⟩
def F.MSH_ABANDON_SRC (f : Nat) : Fld := ⟨R.MSH_ABANDON f, 12, 0⟩
def R.MSH_INJECT (f : Nat) : Nat := 0x800000 + 0x10000 * f + 0x1020
def F.MSH_INJECT_POS (f : Nat) : Fld := ⟨R.MSH_INJECT f, 15, 9⟩
def F.MSH_INJECT_PORT (f : Nat) : Fld := ⟨R.MSH_INJECT f, 8, 6⟩
def F.MSH_INJECT_DOUBLE (f : Nat) : Fld := ⟨R.MSH_INJECT f, 1, 1⟩
def F.MSH_INJECT_ARM (f : Nat) : Fld := ⟨R.MSH_INJECT f, 0, 0⟩
def R.VLT_N_STATUS (f : Nat) : Nat := 0x800000 + 0x10000 * f + 0x2000
def F.VLT_N_STATUS_ZEROING (f : Nat) : Fld := ⟨R.VLT_N_STATUS f, 3, 3⟩
def F.VLT_N_STATUS_SCRUBBING (f : Nat) : Fld := ⟨R.VLT_N_STATUS f, 2, 2⟩
def F.VLT_N_STATUS_TRAINED (f : Nat) : Fld := ⟨R.VLT_N_STATUS f, 1, 1⟩
def F.VLT_N_STATUS_PRESENT (f : Nat) : Fld := ⟨R.VLT_N_STATUS f, 0, 0⟩
def R.VLT_N_CTRL (f : Nat) : Nat := 0x800000 + 0x10000 * f + 0x2004
def F.VLT_N_CTRL_INJECT (f : Nat) : Fld := ⟨R.VLT_N_CTRL f, 1, 1⟩
def F.VLT_N_CTRL_CNT_CLEAR (f : Nat) : Fld := ⟨R.VLT_N_CTRL f, 0, 0⟩
def R.VLT_N_ECC_CNT (f : Nat) : Nat := 0x800000 + 0x10000 * f + 0x2008
def F.VLT_N_ECC_CNT_CORR (f : Nat) : Fld := ⟨R.VLT_N_ECC_CNT f, 31, 16⟩
def F.VLT_N_ECC_CNT_UNCORR (f : Nat) : Fld := ⟨R.VLT_N_ECC_CNT f, 15, 0⟩
def R.VLT_N_ECC_ERR (f : Nat) : Nat := 0x800000 + 0x10000 * f + 0x200c
def F.VLT_N_ECC_ERR_VALID (f : Nat) : Fld := ⟨R.VLT_N_ECC_ERR f, 31, 31⟩
def F.VLT_N_ECC_ERR_UNCORR (f : Nat) : Fld := ⟨R.VLT_N_ECC_ERR f, 30, 30⟩
def F.VLT_N_ECC_ERR_CHANNEL (f : Nat) : Fld := ⟨R.VLT_N_ECC_ERR f, 29, 26⟩
def F.VLT_N_ECC_ERR_UNIT (f : Nat) : Fld := ⟨R.VLT_N_ECC_ERR f, 25, 0⟩
def R.VLT_MV_STATUS (f : Nat) : Nat := 0x800000 + 0x10000 * f + 0x2010
def F.VLT_MV_STATUS_HW_INFLIGHT (f : Nat) : Fld := ⟨R.VLT_MV_STATUS f, 31, 21⟩
def F.VLT_MV_STATUS_ERR_COUNT (f : Nat) : Fld := ⟨R.VLT_MV_STATUS f, 15, 0⟩
def R.VLT_MV_ERR (f : Nat) : Nat := 0x800000 + 0x10000 * f + 0x2014
def F.VLT_MV_ERR_VALID (f : Nat) : Fld := ⟨R.VLT_MV_ERR f, 31, 31⟩
def F.VLT_MV_ERR_CODE (f : Nat) : Fld := ⟨R.VLT_MV_ERR f, 30, 28⟩
def F.VLT_MV_ERR_QUEUE (f : Nat) : Fld := ⟨R.VLT_MV_ERR f, 27, 23⟩
def F.VLT_MV_ERR_DESC (f : Nat) : Fld := ⟨R.VLT_MV_ERR f, 22, 11⟩
def F.VLT_MV_ERR_CELL (f : Nat) : Fld := ⟨R.VLT_MV_ERR f, 10, 5⟩
def R.VLT_MQ_CFG (f q : Nat) : Nat := 0x800000 + 0x10000 * f + 0x2100 + 4 * q
def F.VLT_MQ_CFG_PRIO (f q : Nat) : Fld := ⟨R.VLT_MQ_CFG f q, 24, 24⟩
def F.VLT_MQ_CFG_OUT_LIMIT (f q : Nat) : Fld := ⟨R.VLT_MQ_CFG f q, 22, 16⟩
def F.VLT_MQ_CFG_DEPTH (f q : Nat) : Fld := ⟨R.VLT_MQ_CFG f q, 9, 0⟩
def R.VLT_MQ_STATUS (f q : Nat) : Nat := 0x800000 + 0x10000 * f + 0x2180 + 4 * q
def F.VLT_MQ_STATUS_POSTED (f q : Nat) : Fld := ⟨R.VLT_MQ_STATUS f q, 31, 22⟩
def F.VLT_MQ_STATUS_RUNNING (f q : Nat) : Fld := ⟨R.VLT_MQ_STATUS f q, 21, 15⟩
def F.VLT_MQ_STATUS_HOLD_HW (f q : Nat) : Fld := ⟨R.VLT_MQ_STATUS f q, 14, 0⟩
def R.VLT_STATUS (v : Nat) : Nat := 0x200000 + 0x10000 * v + 0x0
def F.VLT_STATUS_CH_OK (v : Nat) : Fld := ⟨R.VLT_STATUS v, 15, 8⟩
def F.VLT_STATUS_SCRUBBING (v : Nat) : Fld := ⟨R.VLT_STATUS v, 2, 2⟩
def F.VLT_STATUS_RING_OK (v : Nat) : Fld := ⟨R.VLT_STATUS v, 1, 1⟩
def F.VLT_STATUS_TRAINED (v : Nat) : Fld := ⟨R.VLT_STATUS v, 0, 0⟩
def R.VLT_CTRL (v : Nat) : Nat := 0x200000 + 0x10000 * v + 0x4
def F.VLT_CTRL_INJ_CH (v : Nat) : Fld := ⟨R.VLT_CTRL v, 4, 2⟩
def F.VLT_CTRL_INJECT (v : Nat) : Fld := ⟨R.VLT_CTRL v, 1, 1⟩
def F.VLT_CTRL_CNT_CLEAR (v : Nat) : Fld := ⟨R.VLT_CTRL v, 0, 0⟩
def R.VLT_C_ECC_CNT (v : Nat) : Nat := 0x200000 + 0x10000 * v + 0x8
def F.VLT_C_ECC_CNT_CORR (v : Nat) : Fld := ⟨R.VLT_C_ECC_CNT v, 31, 16⟩
def F.VLT_C_ECC_CNT_UNCORR (v : Nat) : Fld := ⟨R.VLT_C_ECC_CNT v, 15, 0⟩
def R.VLT_C_ECC_ERR (v : Nat) : Nat := 0x200000 + 0x10000 * v + 0xc
def F.VLT_C_ECC_ERR_VALID (v : Nat) : Fld := ⟨R.VLT_C_ECC_ERR v, 31, 31⟩
def F.VLT_C_ECC_ERR_UNCORR (v : Nat) : Fld := ⟨R.VLT_C_ECC_ERR v, 30, 30⟩
def F.VLT_C_ECC_ERR_UNIT (v : Nat) : Fld := ⟨R.VLT_C_ECC_ERR v, 29, 0⟩
def R.VLT_KEY_STATUS (v : Nat) : Nat := 0x200000 + 0x10000 * v + 0x10
def F.VLT_KEY_STATUS_P_KEY (v : Nat) : Fld := ⟨R.VLT_KEY_STATUS v, 15, 8⟩
def F.VLT_KEY_STATUS_C_KEY (v : Nat) : Fld := ⟨R.VLT_KEY_STATUS v, 7, 0⟩
def R.VLT_P_STATUS (v : Nat) : Nat := 0x200000 + 0x10000 * v + 0x14
def F.VLT_P_STATUS_WEAR (v : Nat) : Fld := ⟨R.VLT_P_STATUS v, 31, 24⟩
def F.VLT_P_STATUS_SPARE (v : Nat) : Fld := ⟨R.VLT_P_STATUS v, 23, 16⟩
def F.VLT_P_STATUS_WRITING (v : Nat) : Fld := ⟨R.VLT_P_STATUS v, 1, 1⟩
def F.VLT_P_STATUS_PRESENT (v : Nat) : Fld := ⟨R.VLT_P_STATUS v, 0, 0⟩
def R.VLT_CKPT_STATUS (v : Nat) : Nat := 0x200000 + 0x10000 * v + 0x18
def F.VLT_CKPT_STATUS_ACTIVE (v : Nat) : Fld := ⟨R.VLT_CKPT_STATUS v, 31, 31⟩
def F.VLT_CKPT_STATUS_PART (v : Nat) : Fld := ⟨R.VLT_CKPT_STATUS v, 30, 28⟩
def F.VLT_CKPT_STATUS_SLOT (v : Nat) : Fld := ⟨R.VLT_CKPT_STATUS v, 27, 27⟩
def F.VLT_CKPT_STATUS_UNSAVED (v : Nat) : Fld := ⟨R.VLT_CKPT_STATUS v, 17, 0⟩
def R.VLT_COW_STATUS (v : Nat) : Nat := 0x200000 + 0x10000 * v + 0x1c
def F.VLT_COW_STATUS_UE_WAITS (v : Nat) : Fld := ⟨R.VLT_COW_STATUS v, 31, 16⟩
def F.VLT_COW_STATUS_RESERVE_FREE (v : Nat) : Fld := ⟨R.VLT_COW_STATUS v, 15, 0⟩
def R.VLT_SCRUB_CFG (v : Nat) : Nat := 0x200000 + 0x10000 * v + 0x20
def F.VLT_SCRUB_CFG_PERIOD_H (v : Nat) : Fld := ⟨R.VLT_SCRUB_CFG v, 15, 0⟩
def R.VLT_FENCE_BASE (v r : Nat) : Nat := 0x200000 + 0x10000 * v + 0x100 + 16 * r
def F.VLT_FENCE_BASE_BASE (v r : Nat) : Fld := ⟨R.VLT_FENCE_BASE v r, 13, 0⟩
def R.VLT_FENCE_LIMIT (v r : Nat) : Nat := 0x200000 + 0x10000 * v + 0x104 + 16 * r
def F.VLT_FENCE_LIMIT_LIMIT (v r : Nat) : Fld := ⟨R.VLT_FENCE_LIMIT v r, 13, 0⟩
def R.VLT_FENCE_ATTR (v r : Nat) : Nat := 0x200000 + 0x10000 * v + 0x108 + 16 * r
def F.VLT_FENCE_ATTR_VALID (v r : Nat) : Fld := ⟨R.VLT_FENCE_ATTR v r, 15, 15⟩
def F.VLT_FENCE_ATTR_PART (v r : Nat) : Fld := ⟨R.VLT_FENCE_ATTR v r, 14, 12⟩
def F.VLT_FENCE_ATTR_KIND (v r : Nat) : Fld := ⟨R.VLT_FENCE_ATTR v r, 11, 10⟩
def F.VLT_FENCE_ATTR_MOVER (v r : Nat) : Fld := ⟨R.VLT_FENCE_ATTR v r, 9, 9⟩
def F.VLT_FENCE_ATTR_UE (v r : Nat) : Fld := ⟨R.VLT_FENCE_ATTR v r, 8, 8⟩
def R.VLT_PFENCE_BASE (v r : Nat) : Nat := 0x200000 + 0x10000 * v + 0x200 + 16 * r
def F.VLT_PFENCE_BASE_BASE (v r : Nat) : Fld := ⟨R.VLT_PFENCE_BASE v r, 10, 0⟩
def R.VLT_PFENCE_LIMIT (v r : Nat) : Nat := 0x200000 + 0x10000 * v + 0x204 + 16 * r
def F.VLT_PFENCE_LIMIT_LIMIT (v r : Nat) : Fld := ⟨R.VLT_PFENCE_LIMIT v r, 10, 0⟩
def R.VLT_PFENCE_ATTR (v r : Nat) : Nat := 0x200000 + 0x10000 * v + 0x208 + 16 * r
def F.VLT_PFENCE_ATTR_VALID (v r : Nat) : Fld := ⟨R.VLT_PFENCE_ATTR v r, 15, 15⟩
def F.VLT_PFENCE_ATTR_PART (v r : Nat) : Fld := ⟨R.VLT_PFENCE_ATTR v r, 14, 12⟩
def R.ERU_STATUS (n : Nat) : Nat := 0x140000 + 0x1000 * n + 0x0
def F.ERU_STATUS_LINK_UP (n : Nat) : Fld := ⟨R.ERU_STATUS n, 2, 2⟩
def F.ERU_STATUS_ACTIVE (n : Nat) : Fld := ⟨R.ERU_STATUS n, 1, 1⟩
def F.ERU_STATUS_ENABLED (n : Nat) : Fld := ⟨R.ERU_STATUS n, 0, 0⟩
def R.ERU_CTRL (n : Nat) : Nat := 0x140000 + 0x1000 * n + 0x4
def F.ERU_CTRL_CNT_CLEAR (n : Nat) : Fld := ⟨R.ERU_CTRL n, 1, 1⟩
def F.ERU_CTRL_ENABLE (n : Nat) : Fld := ⟨R.ERU_CTRL n, 0, 0⟩
def R.ERU_WIN (n : Nat) : Nat := 0x140000 + 0x1000 * n + 0x8
def F.ERU_WIN_HIGH_WATER (n : Nat) : Fld := ⟨R.ERU_WIN n, 27, 16⟩
def F.ERU_WIN_USED (n : Nat) : Fld := ⟨R.ERU_WIN n, 11, 0⟩
def R.ERU_ABST_CNT (n : Nat) : Nat := 0x140000 + 0x1000 * n + 0xc
def F.ERU_ABST_CNT_PARTIAL (n : Nat) : Fld := ⟨R.ERU_ABST_CNT n, 31, 16⟩
def F.ERU_ABST_CNT_LOCAL (n : Nat) : Fld := ⟨R.ERU_ABST_CNT n, 15, 0⟩
def R.ERU_LATE_CNT (n : Nat) : Nat := 0x140000 + 0x1000 * n + 0x10
def F.ERU_LATE_CNT_FLITS (n : Nat) : Fld := ⟨R.ERU_LATE_CNT n, 31, 0⟩
def R.ERU_BUSY_CNT (n : Nat) : Nat := 0x140000 + 0x1000 * n + 0x14
def F.ERU_BUSY_CNT_SENT (n : Nat) : Fld := ⟨R.ERU_BUSY_CNT n, 31, 16⟩
def F.ERU_BUSY_CNT_RETRIED (n : Nat) : Fld := ⟨R.ERU_BUSY_CNT n, 15, 0⟩
def R.ERU_ERR (n : Nat) : Nat := 0x140000 + 0x1000 * n + 0x18
def F.ERU_ERR_VALID (n : Nat) : Fld := ⟨R.ERU_ERR n, 31, 31⟩
def F.ERU_ERR_CODE (n : Nat) : Fld := ⟨R.ERU_ERR n, 30, 28⟩
def F.ERU_ERR_PART (n : Nat) : Fld := ⟨R.ERU_ERR n, 27, 25⟩
def F.ERU_ERR_TAG (n : Nat) : Fld := ⟨R.ERU_ERR n, 23, 0⟩
def R.ERU_INJECT (n : Nat) : Nat := 0x140000 + 0x1000 * n + 0x1c
def F.ERU_INJECT_ARM (n : Nat) : Fld := ⟨R.ERU_INJECT n, 0, 0⟩
def R.ERU_SCHED0 (n i : Nat) : Nat := 0x140000 + 0x1000 * n + 0x800 + 16 * i
def F.ERU_SCHED0_VALID (n i : Nat) : Fld := ⟨R.ERU_SCHED0 n i, 31, 31⟩
def F.ERU_SCHED0_PART (n i : Nat) : Fld := ⟨R.ERU_SCHED0 n i, 30, 28⟩
def F.ERU_SCHED0_OP (n i : Nat) : Fld := ⟨R.ERU_SCHED0 n i, 27, 26⟩
def F.ERU_SCHED0_PFMT (n i : Nat) : Fld := ⟨R.ERU_SCHED0 n i, 25, 25⟩
def F.ERU_SCHED0_CHAIN (n i : Nat) : Fld := ⟨R.ERU_SCHED0 n i, 24, 24⟩
def F.ERU_SCHED0_TAG_BASE (n i : Nat) : Fld := ⟨R.ERU_SCHED0 n i, 23, 0⟩
def R.ERU_SCHED1 (n i : Nat) : Nat := 0x140000 + 0x1000 * n + 0x804 + 16 * i
def F.ERU_SCHED1_POS (n i : Nat) : Fld := ⟨R.ERU_SCHED1 n i, 31, 25⟩
def F.ERU_SCHED1_NM1 (n i : Nat) : Fld := ⟨R.ERU_SCHED1 n i, 24, 18⟩
def F.ERU_SCHED1_OWNER (n i : Nat) : Fld := ⟨R.ERU_SCHED1 n i, 17, 11⟩
def F.ERU_SCHED1_HOP (n i : Nat) : Fld := ⟨R.ERU_SCHED1 n i, 10, 9⟩
def F.ERU_SCHED1_VAULT (n i : Nat) : Fld := ⟨R.ERU_SCHED1 n i, 8, 5⟩
def R.ERU_SCHED2 (n i : Nat) : Nat := 0x140000 + 0x1000 * n + 0x808 + 16 * i
def F.ERU_SCHED2_CHUNKS (n i : Nat) : Fld := ⟨R.ERU_SCHED2 n i, 31, 20⟩
def F.ERU_SCHED2_FIRST_SLOT (n i : Nat) : Fld := ⟨R.ERU_SCHED2 n i, 19, 0⟩
def R.ERU_SCHED3 (n i : Nat) : Nat := 0x140000 + 0x1000 * n + 0x80c + 16 * i
def F.ERU_SCHED3_DSTF (n i : Nat) : Fld := ⟨R.ERU_SCHED3 n i, 31, 25⟩
def F.ERU_SCHED3_SRCF (n i : Nat) : Fld := ⟨R.ERU_SCHED3 n i, 24, 18⟩
def F.ERU_SCHED3_STRIDE (n i : Nat) : Fld := ⟨R.ERU_SCHED3 n i, 17, 10⟩
def F.ERU_SCHED3_VERDICT (n i : Nat) : Fld := ⟨R.ERU_SCHED3 n i, 9, 0⟩
def R.UPD_STATUS (v : Nat) : Nat := 0x200000 + 0x10000 * v + 0x8000
def F.UPD_STATUS_UPDATING (v : Nat) : Fld := ⟨R.UPD_STATUS v, 31, 16⟩
def F.UPD_STATUS_NONFINITE (v : Nat) : Fld := ⟨R.UPD_STATUS v, 2, 2⟩
def F.UPD_STATUS_PHASE2 (v : Nat) : Fld := ⟨R.UPD_STATUS v, 1, 1⟩
def F.UPD_STATUS_PHASE1 (v : Nat) : Fld := ⟨R.UPD_STATUS v, 0, 0⟩
def R.UPD_CTRL (v : Nat) : Nat := 0x200000 + 0x10000 * v + 0x8004
def F.UPD_CTRL_CNT_CLEAR (v : Nat) : Fld := ⟨R.UPD_CTRL v, 0, 0⟩
def R.UPD_HOLD_CNT (v : Nat) : Nat := 0x200000 + 0x10000 * v + 0x8008
def F.UPD_HOLD_CNT_READS (v : Nat) : Fld := ⟨R.UPD_HOLD_CNT v, 31, 0⟩
def R.UPD_SKIP_CNT (v : Nat) : Nat := 0x200000 + 0x10000 * v + 0x800c
def F.UPD_SKIP_CNT_STEPS (v : Nat) : Fld := ⟨R.UPD_SKIP_CNT v, 31, 16⟩
def F.UPD_SKIP_CNT_ELEMS (v : Nat) : Fld := ⟨R.UPD_SKIP_CNT v, 15, 0⟩
def R.UPD_NORM_SQ (v : Nat) : Nat := 0x200000 + 0x10000 * v + 0x8010
def F.UPD_NORM_SQ_TOTAL (v : Nat) : Fld := ⟨R.UPD_NORM_SQ v, 31, 0⟩
def R.UPD_CLIP (v : Nat) : Nat := 0x200000 + 0x10000 * v + 0x8014
def F.UPD_CLIP_FACTOR (v : Nat) : Fld := ⟨R.UPD_CLIP v, 31, 0⟩
def R.UPD_CLIP_MAX (v p : Nat) : Nat := 0x200000 + 0x10000 * v + 0x8020 + 4 * p
def F.UPD_CLIP_MAX_MAX (v p : Nat) : Fld := ⟨R.UPD_CLIP_MAX v p, 31, 0⟩
def R.UPD_NORM_CFG (v p : Nat) : Nat := 0x200000 + 0x10000 * v + 0x8040 + 4 * p
def F.UPD_NORM_CFG_STAGES (v p : Nat) : Fld := ⟨R.UPD_NORM_CFG v p, 26, 24⟩
def F.UPD_NORM_CFG_TAG (v p : Nat) : Fld := ⟨R.UPD_NORM_CFG v p, 23, 0⟩
def R.UPD_DIGEST_CFG (v p : Nat) : Nat := 0x200000 + 0x10000 * v + 0x8060 + 4 * p
def F.UPD_DIGEST_CFG_EN (v p : Nat) : Fld := ⟨R.UPD_DIGEST_CFG v p, 31, 31⟩
def F.UPD_DIGEST_CFG_PORT (v p : Nat) : Fld := ⟨R.UPD_DIGEST_CFG v p, 5, 0⟩
def R.UPD_DIGEST (v k : Nat) : Nat := 0x200000 + 0x10000 * v + 0x8080 + 4 * k
def F.UPD_DIGEST_DIGEST (v k : Nat) : Fld := ⟨R.UPD_DIGEST v k, 31, 0⟩
def R.UPD_G_CFG (v g : Nat) : Nat := 0x200000 + 0x10000 * v + 0x8100 + 64 * g
def F.UPD_G_CFG_VALID (v g : Nat) : Fld := ⟨R.UPD_G_CFG v g, 31, 31⟩
def F.UPD_G_CFG_PART (v g : Nat) : Fld := ⟨R.UPD_G_CFG v g, 30, 28⟩
def F.UPD_G_CFG_OPT (v g : Nat) : Fld := ⟨R.UPD_G_CFG v g, 27, 26⟩
def F.UPD_G_CFG_NESTEROV (v g : Nat) : Fld := ⟨R.UPD_G_CFG v g, 25, 25⟩
def F.UPD_G_CFG_CLIP (v g : Nat) : Fld := ⟨R.UPD_G_CFG v g, 24, 24⟩
def F.UPD_G_CFG_LR_FIRST (v g : Nat) : Fld := ⟨R.UPD_G_CFG v g, 23, 18⟩
def F.UPD_G_CFG_LR_LAST (v g : Nat) : Fld := ⟨R.UPD_G_CFG v g, 17, 12⟩
def R.UPD_G_TAG (v g : Nat) : Nat := 0x200000 + 0x10000 * v + 0x8104 + 64 * g
def F.UPD_G_TAG_TAG_BASE (v g : Nat) : Fld := ⟨R.UPD_G_TAG v g, 23, 0⟩
def R.UPD_G_SIZE (v g : Nat) : Nat := 0x200000 + 0x10000 * v + 0x8108 + 64 * g
def F.UPD_G_SIZE_CHUNKS (v g : Nat) : Fld := ⟨R.UPD_G_SIZE v g, 31, 20⟩
def F.UPD_G_SIZE_E256 (v g : Nat) : Fld := ⟨R.UPD_G_SIZE v g, 7, 0⟩
def R.UPD_G_SHAPE (v g : Nat) : Nat := 0x200000 + 0x10000 * v + 0x810c + 64 * g
def F.UPD_G_SHAPE_COLS (v g : Nat) : Fld := ⟨R.UPD_G_SHAPE v g, 15, 0⟩
def R.UPD_G_HI (v g : Nat) : Nat := 0x200000 + 0x10000 * v + 0x8110 + 64 * g
def F.UPD_G_HI_UNIT (v g : Nat) : Fld := ⟨R.UPD_G_HI v g, 29, 0⟩
def R.UPD_G_LO (v g : Nat) : Nat := 0x200000 + 0x10000 * v + 0x8114 + 64 * g
def F.UPD_G_LO_UNIT (v g : Nat) : Fld := ⟨R.UPD_G_LO v g, 29, 0⟩
def R.UPD_G_M (v g : Nat) : Nat := 0x200000 + 0x10000 * v + 0x8118 + 64 * g
def F.UPD_G_M_UNIT (v g : Nat) : Fld := ⟨R.UPD_G_M v g, 29, 0⟩
def R.UPD_G_V (v g : Nat) : Nat := 0x200000 + 0x10000 * v + 0x811c + 64 * g
def F.UPD_G_V_UNIT (v g : Nat) : Fld := ⟨R.UPD_G_V v g, 29, 0⟩
def R.UPD_G_GBUF (v g : Nat) : Nat := 0x200000 + 0x10000 * v + 0x8120 + 64 * g
def F.UPD_G_GBUF_UNIT (v g : Nat) : Fld := ⟨R.UPD_G_GBUF v g, 29, 0⟩
def R.UPD_G_BETA1 (v g : Nat) : Nat := 0x200000 + 0x10000 * v + 0x8124 + 64 * g
def F.UPD_G_BETA1_VALUE (v g : Nat) : Fld := ⟨R.UPD_G_BETA1 v g, 31, 0⟩
def R.UPD_G_BETA2 (v g : Nat) : Nat := 0x200000 + 0x10000 * v + 0x8128 + 64 * g
def F.UPD_G_BETA2_VALUE (v g : Nat) : Fld := ⟨R.UPD_G_BETA2 v g, 31, 0⟩
def R.UPD_G_EPS (v g : Nat) : Nat := 0x200000 + 0x10000 * v + 0x812c + 64 * g
def F.UPD_G_EPS_VALUE (v g : Nat) : Fld := ⟨R.UPD_G_EPS v g, 31, 0⟩
def R.UPD_G_WD (v g : Nat) : Nat := 0x200000 + 0x10000 * v + 0x8130 + 64 * g
def F.UPD_G_WD_VALUE (v g : Nat) : Fld := ⟨R.UPD_G_WD v g, 31, 0⟩
def R.UPD_G_STEP (v g : Nat) : Nat := 0x200000 + 0x10000 * v + 0x8134 + 64 * g
def F.UPD_G_STEP_STEP (v g : Nat) : Fld := ⟨R.UPD_G_STEP v g, 31, 0⟩
def R.UPD_G_P1 (v g : Nat) : Nat := 0x200000 + 0x10000 * v + 0x8138 + 64 * g
def F.UPD_G_P1_VALUE (v g : Nat) : Fld := ⟨R.UPD_G_P1 v g, 31, 0⟩
def R.UPD_G_P2 (v g : Nat) : Nat := 0x200000 + 0x10000 * v + 0x813c + 64 * g
def F.UPD_G_P2_VALUE (v g : Nat) : Fld := ⟨R.UPD_G_P2 v g, 31, 0⟩
def R.UPD_LR_STEP (v i : Nat) : Nat := 0x200000 + 0x10000 * v + 0x8800 + 8 * i
def F.UPD_LR_STEP_MODE (v i : Nat) : Fld := ⟨R.UPD_LR_STEP v i, 31, 31⟩
def F.UPD_LR_STEP_STEP (v i : Nat) : Fld := ⟨R.UPD_LR_STEP v i, 30, 0⟩
def R.UPD_LR_VAL (v i : Nat) : Nat := 0x200000 + 0x10000 * v + 0x8804 + 8 * i
def F.UPD_LR_VAL_LR (v i : Nat) : Fld := ⟨R.UPD_LR_VAL v i, 31, 0⟩
def R.SNL_STATUS (n : Nat) : Nat := 0x100000 + 0x1000 * n + 0x0
def F.SNL_STATUS_STATE (n : Nat) : Fld := ⟨R.SNL_STATUS n, 31, 28⟩
def F.SNL_STATUS_REDUCED (n : Nat) : Fld := ⟨R.SNL_STATUS n, 27, 27⟩
def F.SNL_STATUS_LIVE (n : Nat) : Fld := ⟨R.SNL_STATUS n, 26, 26⟩
def F.SNL_STATUS_MARGIN_ARMED (n : Nat) : Fld := ⟨R.SNL_STATUS n, 25, 25⟩
def F.SNL_STATUS_RETRAIN_PEND (n : Nat) : Fld := ⟨R.SNL_STATUS n, 24, 24⟩
def R.SNL_CTRL (n : Nat) : Nat := 0x100000 + 0x1000 * n + 0x4
def F.SNL_CTRL_RETRY (n : Nat) : Fld := ⟨R.SNL_CTRL n, 3, 3⟩
def F.SNL_CTRL_RETRAIN (n : Nat) : Fld := ⟨R.SNL_CTRL n, 2, 2⟩
def F.SNL_CTRL_HOLD_DARK (n : Nat) : Fld := ⟨R.SNL_CTRL n, 1, 1⟩
def F.SNL_CTRL_EN (n : Nat) : Fld := ⟨R.SNL_CTRL n, 0, 0⟩
def R.SNL_PEER (n : Nat) : Nat := 0x100000 + 0x1000 * n + 0x8
def F.SNL_PEER_PEER_PORT (n : Nat) : Fld := ⟨R.SNL_PEER n, 25, 20⟩
def F.SNL_PEER_PEER_COORD (n : Nat) : Fld := ⟨R.SNL_PEER n, 16, 0⟩
def R.SNL_NEG (n : Nat) : Nat := 0x100000 + 0x1000 * n + 0xc
def F.SNL_NEG_SNL (n : Nat) : Fld := ⟨R.SNL_NEG n, 31, 28⟩
def F.SNL_NEG_VER (n : Nat) : Fld := ⟨R.SNL_NEG n, 27, 24⟩
def F.SNL_NEG_SCP (n : Nat) : Fld := ⟨R.SNL_NEG n, 23, 16⟩
def F.SNL_NEG_FWI (n : Nat) : Fld := ⟨R.SNL_NEG n, 15, 8⟩
def F.SNL_NEG_PLAN (n : Nat) : Fld := ⟨R.SNL_NEG n, 7, 0⟩
def R.SNL_CAP0 (n : Nat) : Nat := 0x100000 + 0x1000 * n + 0x10
def F.SNL_CAP0_SNL_MASK (n : Nat) : Fld := ⟨R.SNL_CAP0 n, 31, 16⟩
def F.SNL_CAP0_VER_MASK (n : Nat) : Fld := ⟨R.SNL_CAP0 n, 15, 0⟩
def R.SNL_CAP1 (n : Nat) : Nat := 0x100000 + 0x1000 * n + 0x14
def F.SNL_CAP1_SCP_MASK (n : Nat) : Fld := ⟨R.SNL_CAP1 n, 31, 16⟩
def F.SNL_CAP1_FWI_MASK (n : Nat) : Fld := ⟨R.SNL_CAP1 n, 15, 0⟩
def R.SNL_CAP2 (n : Nat) : Nat := 0x100000 + 0x1000 * n + 0x18
def F.SNL_CAP2_PLAN_MASK (n : Nat) : Fld := ⟨R.SNL_CAP2 n, 15, 0⟩
def R.SNL_COORD (n : Nat) : Nat := 0x100000 + 0x1000 * n + 0x1c
def F.SNL_COORD_COORD (n : Nat) : Fld := ⟨R.SNL_COORD n, 16, 0⟩
def R.SNL_TORUS (n : Nat) : Nat := 0x100000 + 0x1000 * n + 0x20
def F.SNL_TORUS_DM1 (n : Nat) : Fld := ⟨R.SNL_TORUS n, 16, 10⟩
def F.SNL_TORUS_SM1 (n : Nat) : Fld := ⟨R.SNL_TORUS n, 9, 7⟩
def F.SNL_TORUS_PM1 (n : Nat) : Fld := ⟨R.SNL_TORUS n, 6, 3⟩
def F.SNL_TORUS_TM1 (n : Nat) : Fld := ⟨R.SNL_TORUS n, 2, 0⟩
def R.SNL_DETOUR (n : Nat) : Nat := 0x100000 + 0x1000 * n + 0x24
def F.SNL_DETOUR_ALT (n k : Nat) : Fld := ⟨R.SNL_DETOUR n, 4 * k + 3, 4 * k⟩
def R.SNL_VC_SHARE0 (n : Nat) : Nat := 0x100000 + 0x1000 * n + 0x28
def F.SNL_VC_SHARE0_SHARE3 (n : Nat) : Fld := ⟨R.SNL_VC_SHARE0 n, 31, 24⟩
def F.SNL_VC_SHARE0_SHARE2 (n : Nat) : Fld := ⟨R.SNL_VC_SHARE0 n, 23, 16⟩
def F.SNL_VC_SHARE0_SHARE1 (n : Nat) : Fld := ⟨R.SNL_VC_SHARE0 n, 15, 8⟩
def F.SNL_VC_SHARE0_SHARE0 (n : Nat) : Fld := ⟨R.SNL_VC_SHARE0 n, 7, 0⟩
def R.SNL_VC_SHARE1 (n : Nat) : Nat := 0x100000 + 0x1000 * n + 0x2c
def F.SNL_VC_SHARE1_SHARE7 (n : Nat) : Fld := ⟨R.SNL_VC_SHARE1 n, 31, 24⟩
def F.SNL_VC_SHARE1_SHARE6 (n : Nat) : Fld := ⟨R.SNL_VC_SHARE1 n, 23, 16⟩
def F.SNL_VC_SHARE1_SHARE5 (n : Nat) : Fld := ⟨R.SNL_VC_SHARE1 n, 15, 8⟩
def F.SNL_VC_SHARE1_SHARE4 (n : Nat) : Fld := ⟨R.SNL_VC_SHARE1 n, 7, 0⟩
def R.SNL_AUTH (n : Nat) : Nat := 0x100000 + 0x1000 * n + 0x30
def F.SNL_AUTH_EN (n : Nat) : Fld := ⟨R.SNL_AUTH n, 7, 1⟩
def R.SNL_MARGIN_CFG (n : Nat) : Nat := 0x100000 + 0x1000 * n + 0x34
def F.SNL_MARGIN_CFG_BER_CNT (n : Nat) : Fld := ⟨R.SNL_MARGIN_CFG n, 31, 16⟩
def F.SNL_MARGIN_CFG_EYE_MIN (n : Nat) : Fld := ⟨R.SNL_MARGIN_CFG n, 15, 8⟩
def F.SNL_MARGIN_CFG_AUTO (n : Nat) : Fld := ⟨R.SNL_MARGIN_CFG n, 0, 0⟩
def R.SNL_MARGIN (n : Nat) : Nat := 0x100000 + 0x1000 * n + 0x38
def F.SNL_MARGIN_EYE_WORST (n : Nat) : Fld := ⟨R.SNL_MARGIN n, 31, 24⟩
def F.SNL_MARGIN_LANE_EYE (n : Nat) : Fld := ⟨R.SNL_MARGIN n, 23, 20⟩
def F.SNL_MARGIN_LANE_BER (n : Nat) : Fld := ⟨R.SNL_MARGIN n, 19, 16⟩
def F.SNL_MARGIN_BER_WORST (n : Nat) : Fld := ⟨R.SNL_MARGIN n, 15, 0⟩
def R.SNL_CAL (n : Nat) : Nat := 0x100000 + 0x1000 * n + 0x3c
def F.SNL_CAL_LOAD_PCT (n : Nat) : Fld := ⟨R.SNL_CAL n, 31, 24⟩
def F.SNL_CAL_STALE (n : Nat) : Fld := ⟨R.SNL_CAL n, 23, 23⟩
def F.SNL_CAL_AGE_S (n : Nat) : Fld := ⟨R.SNL_CAL n, 15, 0⟩
def R.SNL_FEC_CNT (n : Nat) : Nat := 0x100000 + 0x1000 * n + 0x40
def F.SNL_FEC_CNT_CORR (n : Nat) : Fld := ⟨R.SNL_FEC_CNT n, 31, 0⟩
def R.SNL_FEC_UNCORR (n : Nat) : Nat := 0x100000 + 0x1000 * n + 0x44
def F.SNL_FEC_UNCORR_BLOCKS (n : Nat) : Fld := ⟨R.SNL_FEC_UNCORR n, 31, 0⟩
def R.SNL_RETRY_CNT (n : Nat) : Nat := 0x100000 + 0x1000 * n + 0x48
def F.SNL_RETRY_CNT_NAKS (n : Nat) : Fld := ⟨R.SNL_RETRY_CNT n, 31, 16⟩
def F.SNL_RETRY_CNT_REPLAYS (n : Nat) : Fld := ⟨R.SNL_RETRY_CNT n, 15, 0⟩
def R.SNL_DROP_CNT0 (n : Nat) : Nat := 0x100000 + 0x1000 * n + 0x4c
def F.SNL_DROP_CNT0_VER (n : Nat) : Fld := ⟨R.SNL_DROP_CNT0 n, 31, 24⟩
def F.SNL_DROP_CNT0_CFG (n : Nat) : Fld := ⟨R.SNL_DROP_CNT0 n, 23, 16⟩
def F.SNL_DROP_CNT0_AUTH (n : Nat) : Fld := ⟨R.SNL_DROP_CNT0 n, 15, 8⟩
def F.SNL_DROP_CNT0_PART (n : Nat) : Fld := ⟨R.SNL_DROP_CNT0 n, 7, 0⟩
def R.SNL_DROP_CNT1 (n : Nat) : Nat := 0x100000 + 0x1000 * n + 0x50
def F.SNL_DROP_CNT1_CLASS (n : Nat) : Fld := ⟨R.SNL_DROP_CNT1 n, 31, 24⟩
def F.SNL_DROP_CNT1_ROUTE (n : Nat) : Fld := ⟨R.SNL_DROP_CNT1 n, 23, 16⟩
def F.SNL_DROP_CNT1_SLOT (n : Nat) : Fld := ⟨R.SNL_DROP_CNT1 n, 15, 8⟩
def F.SNL_DROP_CNT1_DARK (n : Nat) : Fld := ⟨R.SNL_DROP_CNT1 n, 7, 0⟩
def R.SNL_ERR (n : Nat) : Nat := 0x100000 + 0x1000 * n + 0x54
def F.SNL_ERR_VALID (n : Nat) : Fld := ⟨R.SNL_ERR n, 31, 31⟩
def F.SNL_ERR_CODE (n : Nat) : Fld := ⟨R.SNL_ERR n, 30, 27⟩
def F.SNL_ERR_PART (n : Nat) : Fld := ⟨R.SNL_ERR n, 26, 24⟩
def F.SNL_ERR_TAG (n : Nat) : Fld := ⟨R.SNL_ERR n, 23, 0⟩
def R.SNL_INJECT (n : Nat) : Nat := 0x100000 + 0x1000 * n + 0x58
def F.SNL_INJECT_KIND (n : Nat) : Fld := ⟨R.SNL_INJECT n, 2, 1⟩
def F.SNL_INJECT_ARM (n : Nat) : Fld := ⟨R.SNL_INJECT n, 0, 0⟩
def R.SNL_TRAIN (n : Nat) : Nat := 0x100000 + 0x1000 * n + 0x5c
def F.SNL_TRAIN_TRAINS (n : Nat) : Fld := ⟨R.SNL_TRAIN n, 31, 24⟩
def F.SNL_TRAIN_RETRAINS (n : Nat) : Fld := ⟨R.SNL_TRAIN n, 23, 16⟩
def F.SNL_TRAIN_LAST_MS (n : Nat) : Fld := ⟨R.SNL_TRAIN n, 15, 0⟩
def R.SNL_RETRAIN_LO (n : Nat) : Nat := 0x100000 + 0x1000 * n + 0x60
def F.SNL_RETRAIN_LO_FET (n : Nat) : Fld := ⟨R.SNL_RETRAIN_LO n, 31, 0⟩
def R.SNL_RETRAIN_HI (n : Nat) : Nat := 0x100000 + 0x1000 * n + 0x64
def F.SNL_RETRAIN_HI_FET (n : Nat) : Fld := ⟨R.SNL_RETRAIN_HI n, 31, 0⟩
def R.SNL_SLOT_TBL (n i : Nat) : Nat := 0x100000 + 0x1000 * n + 0x100 + 4 * i
def F.SNL_SLOT_TBL_ENT (n i k : Nat) : Fld := ⟨R.SNL_SLOT_TBL n i, 4 * k + 3, 4 * k⟩
def R.SNL_LANE (n l : Nat) : Nat := 0x100000 + 0x1000 * n + 0x200 + 4 * l
def F.SNL_LANE_EYE (n l : Nat) : Fld := ⟨R.SNL_LANE n l, 31, 24⟩
def F.SNL_LANE_CORR (n l : Nat) : Fld := ⟨R.SNL_LANE n l, 15, 0⟩
def R.PRT_WHOAMI : Nat := 0x40000
def F.PRT_WHOAMI_VF : Fld := ⟨R.PRT_WHOAMI, 3, 3⟩
def F.PRT_WHOAMI_PART : Fld := ⟨R.PRT_WHOAMI, 2, 0⟩
def R.PRT_SYS_RESERVE : Nat := 0x40004
def F.PRT_SYS_RESERVE_RESERVE : Fld := ⟨R.PRT_SYS_RESERVE, 15, 0⟩
def R.PRT_BUDGET_SUM : Nat := 0x40008
def F.PRT_BUDGET_SUM_POOL : Fld := ⟨R.PRT_BUDGET_SUM, 31, 16⟩
def F.PRT_BUDGET_SUM_SUM : Fld := ⟨R.PRT_BUDGET_SUM, 15, 0⟩
def R.PRT_BUSY : Nat := 0x4000c
def F.PRT_BUSY_ACTIVE : Fld := ⟨R.PRT_BUSY, 3, 3⟩
def F.PRT_BUSY_PART : Fld := ⟨R.PRT_BUSY, 2, 0⟩
def R.PRT_STATUS (p : Nat) : Nat := 0x40100 + 64 * p
def F.PRT_STATUS_FIELDS (p : Nat) : Fld := ⟨R.PRT_STATUS p, 18, 12⟩
def F.PRT_STATUS_FAILED (p : Nat) : Fld := ⟨R.PRT_STATUS p, 11, 5⟩
def F.PRT_STATUS_HALF (p : Nat) : Fld := ⟨R.PRT_STATUS p, 4, 3⟩
def F.PRT_STATUS_STATE (p : Nat) : Fld := ⟨R.PRT_STATUS p, 2, 0⟩
def R.PRT_FIELDS0 (p : Nat) : Nat := 0x40104 + 64 * p
def F.PRT_FIELDS0_MASK (p : Nat) : Fld := ⟨R.PRT_FIELDS0 p, 31, 0⟩
def R.PRT_FIELDS1 (p : Nat) : Nat := 0x40108 + 64 * p
def F.PRT_FIELDS1_MASK (p : Nat) : Fld := ⟨R.PRT_FIELDS1 p, 31, 0⟩
def R.PRT_FIELDS2 (p : Nat) : Nat := 0x4010c + 64 * p
def F.PRT_FIELDS2_MASK (p : Nat) : Fld := ⟨R.PRT_FIELDS2 p, 31, 0⟩
def R.PRT_CFG (p : Nat) : Nat := 0x40110 + 64 * p
def F.PRT_CFG_OP_MAX (p : Nat) : Fld := ⟨R.PRT_CFG p, 7, 4⟩
def F.PRT_CFG_STRICT (p : Nat) : Fld := ⟨R.PRT_CFG p, 3, 3⟩
def F.PRT_CFG_HOST (p : Nat) : Fld := ⟨R.PRT_CFG p, 1, 0⟩
def R.PRT_POWER (p : Nat) : Nat := 0x40114 + 64 * p
def F.PRT_POWER_EFFECTIVE (p : Nat) : Fld := ⟨R.PRT_POWER p, 31, 16⟩
def F.PRT_POWER_GRANTED (p : Nat) : Fld := ⟨R.PRT_POWER p, 15, 0⟩
def R.PRT_DRAW (p : Nat) : Nat := 0x40118 + 64 * p
def F.PRT_DRAW_PEAK (p : Nat) : Fld := ⟨R.PRT_DRAW p, 31, 16⟩
def F.PRT_DRAW_LAST (p : Nat) : Fld := ⟨R.PRT_DRAW p, 15, 0⟩
def R.PRT_LIMIT (p : Nat) : Nat := 0x4011c + 64 * p
def F.PRT_LIMIT_EVENTS (p : Nat) : Fld := ⟨R.PRT_LIMIT p, 31, 16⟩
def F.PRT_LIMIT_OP_NOW (p : Nat) : Fld := ⟨R.PRT_LIMIT p, 3, 0⟩
def R.CHT_SQ_BASE_LO (e q : Nat) : Nat := 0x8000 + 0x1000000 * e + 0x1000 * q + 0x0
def F.CHT_SQ_BASE_LO_ADDR (e q : Nat) : Fld := ⟨R.CHT_SQ_BASE_LO e q, 31, 8⟩
def R.CHT_SQ_BASE_HI (e q : Nat) : Nat := 0x8000 + 0x1000000 * e + 0x1000 * q + 0x4
def F.CHT_SQ_BASE_HI_ADDR (e q : Nat) : Fld := ⟨R.CHT_SQ_BASE_HI e q, 31, 0⟩
def R.CHT_CQ_BASE_LO (e q : Nat) : Nat := 0x8000 + 0x1000000 * e + 0x1000 * q + 0x8
def F.CHT_CQ_BASE_LO_ADDR (e q : Nat) : Fld := ⟨R.CHT_CQ_BASE_LO e q, 31, 8⟩
def R.CHT_CQ_BASE_HI (e q : Nat) : Nat := 0x8000 + 0x1000000 * e + 0x1000 * q + 0xc
def F.CHT_CQ_BASE_HI_ADDR (e q : Nat) : Fld := ⟨R.CHT_CQ_BASE_HI e q, 31, 0⟩
def R.CHT_Q_CFG (e q : Nat) : Nat := 0x8000 + 0x1000000 * e + 0x1000 * q + 0x10
def F.CHT_Q_CFG_CQ_SIZE (e q : Nat) : Fld := ⟨R.CHT_Q_CFG e q, 15, 12⟩
def F.CHT_Q_CFG_SQ_SIZE (e q : Nat) : Fld := ⟨R.CHT_Q_CFG e q, 11, 8⟩
def F.CHT_Q_CFG_INT_EN (e q : Nat) : Fld := ⟨R.CHT_Q_CFG e q, 1, 1⟩
def F.CHT_Q_CFG_EN (e q : Nat) : Fld := ⟨R.CHT_Q_CFG e q, 0, 0⟩
def R.CHT_SQ_TAIL (e q : Nat) : Nat := 0x8000 + 0x1000000 * e + 0x1000 * q + 0x14
def F.CHT_SQ_TAIL_TAIL (e q : Nat) : Fld := ⟨R.CHT_SQ_TAIL e q, 11, 0⟩
def R.CHT_SQ_HEAD (e q : Nat) : Nat := 0x8000 + 0x1000000 * e + 0x1000 * q + 0x18
def F.CHT_SQ_HEAD_HEAD (e q : Nat) : Fld := ⟨R.CHT_SQ_HEAD e q, 11, 0⟩
def R.CHT_CQ_HEAD (e q : Nat) : Nat := 0x8000 + 0x1000000 * e + 0x1000 * q + 0x1c
def F.CHT_CQ_HEAD_HEAD (e q : Nat) : Fld := ⟨R.CHT_CQ_HEAD e q, 11, 0⟩
def R.CHT_Q_STATUS (e q : Nat) : Nat := 0x8000 + 0x1000000 * e + 0x1000 * q + 0x20
def F.CHT_Q_STATUS_VER (e q : Nat) : Fld := ⟨R.CHT_Q_STATUS e q, 31, 24⟩
def F.CHT_Q_STATUS_INFLIGHT (e q : Nat) : Fld := ⟨R.CHT_Q_STATUS e q, 23, 17⟩
def F.CHT_Q_STATUS_CQ_FULL (e q : Nat) : Fld := ⟨R.CHT_Q_STATUS e q, 1, 1⟩
def F.CHT_Q_STATUS_ERR (e q : Nat) : Fld := ⟨R.CHT_Q_STATUS e q, 0, 0⟩
def R.CHT_Q_SEQ (e q : Nat) : Nat := 0x8000 + 0x1000000 * e + 0x1000 * q + 0x24
def F.CHT_Q_SEQ_NEXT (e q : Nat) : Fld := ⟨R.CHT_Q_SEQ e q, 31, 0⟩
def R.CHT_MGMT_CFG : Nat := 0x7f00
def F.CHT_MGMT_CFG_UDP_PORT : Fld := ⟨R.CHT_MGMT_CFG, 31, 16⟩
def F.CHT_MGMT_CFG_SCP_EN : Fld := ⟨R.CHT_MGMT_CFG, 0, 0⟩
def R.PWR_STATUS : Nat := 0x10000
def F.PWR_STATUS_QUENCH : Fld := ⟨R.PWR_STATUS, 7, 7⟩
def F.PWR_STATUS_RAMP_DOWN : Fld := ⟨R.PWR_STATUS, 6, 6⟩
def F.PWR_STATUS_FLOOR_SHORT : Fld := ⟨R.PWR_STATUS, 5, 5⟩
def F.PWR_STATUS_CEIL_LIMIT : Fld := ⟨R.PWR_STATUS, 4, 4⟩
def F.PWR_STATUS_THROTTLE : Fld := ⟨R.PWR_STATUS, 3, 3⟩
def F.PWR_STATUS_UV_DERATE : Fld := ⟨R.PWR_STATUS, 2, 2⟩
def F.PWR_STATUS_AUX_OK : Fld := ⟨R.PWR_STATUS, 1, 1⟩
def F.PWR_STATUS_MAIN_OK : Fld := ⟨R.PWR_STATUS, 0, 0⟩
def R.PWR_CTRL : Nat := 0x10004
def F.PWR_CTRL_VMIN_CLEAR : Fld := ⟨R.PWR_CTRL, 1, 1⟩
def F.PWR_CTRL_CNT_CLEAR : Fld := ⟨R.PWR_CTRL, 0, 0⟩
def R.PWR_ALARM : Nat := 0x10008
def F.PWR_ALARM_ESTIMATOR_DISAGREE : Fld := ⟨R.PWR_ALARM, 15, 15⟩
def F.PWR_ALARM_HOLDUP_EMPTY : Fld := ⟨R.PWR_ALARM, 14, 14⟩
def F.PWR_ALARM_HOLDUP_LOW : Fld := ⟨R.PWR_ALARM, 13, 13⟩
def F.PWR_ALARM_AUX_LOST : Fld := ⟨R.PWR_ALARM, 12, 12⟩
def F.PWR_ALARM_CONV_FAIL : Fld := ⟨R.PWR_ALARM, 11, 11⟩
def F.PWR_ALARM_UV_DERATE : Fld := ⟨R.PWR_ALARM, 10, 10⟩
def F.PWR_ALARM_OV_QUENCH : Fld := ⟨R.PWR_ALARM, 9, 9⟩
def F.PWR_ALARM_CEILING : Fld := ⟨R.PWR_ALARM, 8, 8⟩
def F.PWR_ALARM_FLOOR_SHORT : Fld := ⟨R.PWR_ALARM, 7, 7⟩
def F.PWR_ALARM_RAMP_RISE : Fld := ⟨R.PWR_ALARM, 6, 6⟩
def F.PWR_ALARM_THROTTLE : Fld := ⟨R.PWR_ALARM, 5, 5⟩
def F.PWR_ALARM_INLET_HIGH : Fld := ⟨R.PWR_ALARM, 4, 4⟩
def F.PWR_ALARM_FLOW_LOW : Fld := ⟨R.PWR_ALARM, 3, 3⟩
def F.PWR_ALARM_COOLANT_NOT_OK : Fld := ⟨R.PWR_ALARM, 2, 2⟩
def F.PWR_ALARM_DROOP : Fld := ⟨R.PWR_ALARM, 1, 1⟩
def F.PWR_ALARM_SOFT_FAIL : Fld := ⟨R.PWR_ALARM, 0, 0⟩
def R.PWR_ALARM_EN : Nat := 0x1000c
def F.PWR_ALARM_EN_EN : Fld := ⟨R.PWR_ALARM_EN, 15, 0⟩
def R.PWR_INPUT : Nat := 0x10010
def F.PWR_INPUT_VIN : Fld := ⟨R.PWR_INPUT, 31, 16⟩
def F.PWR_INPUT_IIN : Fld := ⟨R.PWR_INPUT, 15, 0⟩
def R.PWR_DRAW : Nat := 0x10014
def F.PWR_DRAW_PEAK : Fld := ⟨R.PWR_DRAW, 31, 16⟩
def F.PWR_DRAW_LAST : Fld := ⟨R.PWR_DRAW, 15, 0⟩
def R.PWR_ENV_NOW : Nat := 0x10018
def F.PWR_ENV_NOW_CEILING : Fld := ⟨R.PWR_ENV_NOW, 31, 16⟩
def F.PWR_ENV_NOW_FLOOR : Fld := ⟨R.PWR_ENV_NOW, 15, 0⟩
def R.PWR_ENV_RAMP : Nat := 0x1001c
def F.PWR_ENV_RAMP_PENDING : Fld := ⟨R.PWR_ENV_RAMP, 19, 16⟩
def F.PWR_ENV_RAMP_RAMP : Fld := ⟨R.PWR_ENV_RAMP, 15, 0⟩
def R.PWR_BALLAST : Nat := 0x10020
def F.PWR_BALLAST_CAP : Fld := ⟨R.PWR_BALLAST, 31, 16⟩
def F.PWR_BALLAST_NOW : Fld := ⟨R.PWR_BALLAST, 15, 0⟩
def R.PWR_RAMP_CNT : Nat := 0x10024
def F.PWR_RAMP_CNT_RISE : Fld := ⟨R.PWR_RAMP_CNT, 31, 16⟩
def F.PWR_RAMP_CNT_CEIL : Fld := ⟨R.PWR_RAMP_CNT, 15, 0⟩
def R.PWR_TOKEN : Nat := 0x10028
def F.PWR_TOKEN_LEVEL : Fld := ⟨R.PWR_TOKEN, 31, 16⟩
def F.PWR_TOKEN_QUEUED : Fld := ⟨R.PWR_TOKEN, 10, 0⟩
def R.PWR_TOKEN_DEFER : Nat := 0x1002c
def F.PWR_TOKEN_DEFER_MAX_US : Fld := ⟨R.PWR_TOKEN_DEFER, 31, 16⟩
def F.PWR_TOKEN_DEFER_LAST_US : Fld := ⟨R.PWR_TOKEN_DEFER, 15, 0⟩
def R.PWR_HOLDUP : Nat := 0x10030
def F.PWR_HOLDUP_USABLE : Fld := ⟨R.PWR_HOLDUP, 31, 16⟩
def F.PWR_HOLDUP_ON_HOLDUP : Fld := ⟨R.PWR_HOLDUP, 4, 4⟩
def F.PWR_HOLDUP_CAL_PENDING : Fld := ⟨R.PWR_HOLDUP, 3, 3⟩
def F.PWR_HOLDUP_STATE : Fld := ⟨R.PWR_HOLDUP, 2, 0⟩
def R.PWR_HOLDUP_EST : Nat := 0x10034
def F.PWR_HOLDUP_EST_E_V : Fld := ⟨R.PWR_HOLDUP_EST, 31, 16⟩
def F.PWR_HOLDUP_EST_E_Q : Fld := ⟨R.PWR_HOLDUP_EST, 15, 0⟩
def R.PWR_HOLDUP_CAL : Nat := 0x10038
def F.PWR_HOLDUP_CAL_C_CAL : Fld := ⟨R.PWR_HOLDUP_CAL, 31, 16⟩
def F.PWR_HOLDUP_CAL_VBANK : Fld := ⟨R.PWR_HOLDUP_CAL, 15, 0⟩
def R.PWR_CONV0 : Nat := 0x1003c
def F.PWR_CONV0_OK : Fld := ⟨R.PWR_CONV0, 31, 0⟩
def R.PWR_CONV1 : Nat := 0x10040
def F.PWR_CONV1_N_OK : Fld := ⟨R.PWR_CONV1, 21, 16⟩
def F.PWR_CONV1_OK : Fld := ⟨R.PWR_CONV1, 15, 0⟩
def R.PWR_THERM_CFG : Nat := 0x10044
def F.PWR_THERM_CFG_THROTTLE_C : Fld := ⟨R.PWR_THERM_CFG, 15, 8⟩
def R.PWR_THERM : Nat := 0x10048
def F.PWR_THERM_HOT_C : Fld := ⟨R.PWR_THERM, 31, 24⟩
def F.PWR_THERM_HOT_DOM : Fld := ⟨R.PWR_THERM, 23, 14⟩
def R.PWR_COOLANT0 : Nat := 0x1004c
def F.PWR_COOLANT0_INLET : Fld := ⟨R.PWR_COOLANT0, 31, 16⟩
def F.PWR_COOLANT0_OUT_TOP : Fld := ⟨R.PWR_COOLANT0, 15, 0⟩
def R.PWR_COOLANT1 : Nat := 0x10050
def F.PWR_COOLANT1_OUT_BOTTOM : Fld := ⟨R.PWR_COOLANT1, 31, 16⟩
def R.PWR_ENV_BP_FET_LO (i : Nat) : Nat := 0x10100 + 16 * i
def F.PWR_ENV_BP_FET_LO_FET (i : Nat) : Fld := ⟨R.PWR_ENV_BP_FET_LO i, 31, 0⟩
def R.PWR_ENV_BP_FET_HI (i : Nat) : Nat := 0x10104 + 16 * i
def F.PWR_ENV_BP_FET_HI_FET (i : Nat) : Fld := ⟨R.PWR_ENV_BP_FET_HI i, 31, 0⟩
def R.PWR_ENV_BP_LIM (i : Nat) : Nat := 0x10108 + 16 * i
def F.PWR_ENV_BP_LIM_CEILING (i : Nat) : Fld := ⟨R.PWR_ENV_BP_LIM i, 31, 16⟩
def F.PWR_ENV_BP_LIM_FLOOR (i : Nat) : Fld := ⟨R.PWR_ENV_BP_LIM i, 15, 0⟩
def R.PWR_ENV_BP_RAMP (i : Nat) : Nat := 0x1010c + 16 * i
def F.PWR_ENV_BP_RAMP_VALID (i : Nat) : Fld := ⟨R.PWR_ENV_BP_RAMP i, 31, 31⟩
def F.PWR_ENV_BP_RAMP_RAMP (i : Nat) : Fld := ⟨R.PWR_ENV_BP_RAMP i, 15, 0⟩
def R.PWR_DOM_STATUS (d : Nat) : Nat := 0x11000 + 32 * d
def F.PWR_DOM_STATUS_STATE (d : Nat) : Fld := ⟨R.PWR_DOM_STATUS d, 31, 29⟩
def F.PWR_DOM_STATUS_RETRIES (d : Nat) : Fld := ⟨R.PWR_DOM_STATUS d, 28, 27⟩
def F.PWR_DOM_STATUS_TEMP (d : Nat) : Fld := ⟨R.PWR_DOM_STATUS d, 23, 16⟩
def F.PWR_DOM_STATUS_VNOW (d : Nat) : Fld := ⟨R.PWR_DOM_STATUS d, 8, 0⟩
def R.PWR_DOM_CFG (d : Nat) : Nat := 0x11004 + 32 * d
def F.PWR_DOM_CFG_TRIM (d : Nat) : Fld := ⟨R.PWR_DOM_CFG d, 23, 19⟩
def F.PWR_DOM_CFG_OP_THERM (d : Nat) : Fld := ⟨R.PWR_DOM_CFG d, 15, 12⟩
def F.PWR_DOM_CFG_VSET (d : Nat) : Fld := ⟨R.PWR_DOM_CFG d, 8, 0⟩
def R.PWR_DOM_VMIN (d : Nat) : Nat := 0x11008 + 32 * d
def F.PWR_DOM_VMIN_VALID (d : Nat) : Fld := ⟨R.PWR_DOM_VMIN d, 31, 31⟩
def F.PWR_DOM_VMIN_VMIN (d : Nat) : Fld := ⟨R.PWR_DOM_VMIN d, 8, 0⟩
def R.PWR_DOM_VMIN_FET_LO (d : Nat) : Nat := 0x1100c + 32 * d
def F.PWR_DOM_VMIN_FET_LO_FET (d : Nat) : Fld := ⟨R.PWR_DOM_VMIN_FET_LO d, 31, 0⟩
def R.PWR_DOM_VMIN_FET_HI (d : Nat) : Nat := 0x11010 + 32 * d
def F.PWR_DOM_VMIN_FET_HI_FET (d : Nat) : Fld := ⟨R.PWR_DOM_VMIN_FET_HI d, 31, 0⟩
def R.CHT_STATUS : Nat := 0x0
def F.CHT_STATUS_STEP_DONE : Fld := ⟨R.CHT_STATUS, 31, 28⟩
def F.CHT_STATUS_RUNNING : Fld := ⟨R.CHT_STATUS, 27, 27⟩
def F.CHT_STATUS_FAIL : Fld := ⟨R.CHT_STATUS, 26, 26⟩
def F.CHT_STATUS_FAIL_CODE : Fld := ⟨R.CHT_STATUS, 25, 20⟩
def F.CHT_STATUS_WARM : Fld := ⟨R.CHT_STATUS, 19, 19⟩
def F.CHT_STATUS_LOCKSTEP_OK : Fld := ⟨R.CHT_STATUS, 18, 18⟩
def F.CHT_STATUS_FW_MEASURED : Fld := ⟨R.CHT_STATUS, 17, 17⟩
def F.CHT_STATUS_SCARAB_UP : Fld := ⟨R.CHT_STATUS, 16, 16⟩
def R.CHT_BU_CTRL : Nat := 0x4
def F.CHT_BU_CTRL_ABORT : Fld := ⟨R.CHT_BU_CTRL, 9, 9⟩
def F.CHT_BU_CTRL_GO : Fld := ⟨R.CHT_BU_CTRL, 8, 8⟩
def F.CHT_BU_CTRL_TARGET : Fld := ⟨R.CHT_BU_CTRL, 3, 0⟩
def R.CHT_BU_CFG : Nat := 0x8
def F.CHT_BU_CFG_LINK_WAIT_MS : Fld := ⟨R.CHT_BU_CFG, 31, 16⟩
def F.CHT_BU_CFG_MIN_FIELDS : Fld := ⟨R.CHT_BU_CFG, 15, 9⟩
def F.CHT_BU_CFG_FW_SRC : Fld := ⟨R.CHT_BU_CFG, 8, 7⟩
def F.CHT_BU_CFG_FW_COMMIT : Fld := ⟨R.CHT_BU_CFG, 6, 6⟩
def F.CHT_BU_CFG_CFG_SRC : Fld := ⟨R.CHT_BU_CFG, 5, 5⟩
def R.CHT_RST_STATUS : Nat := 0xc
def F.CHT_RST_STATUS_HELD : Fld := ⟨R.CHT_RST_STATUS, 31, 31⟩
def F.CHT_RST_STATUS_RESET_STUCK : Fld := ⟨R.CHT_RST_STATUS, 30, 30⟩
def F.CHT_RST_STATUS_HOLD_MS : Fld := ⟨R.CHT_RST_STATUS, 29, 0⟩
def R.CHT_RST_PIN_MASK : Nat := 0x10
def F.CHT_RST_PIN_MASK_MASK : Fld := ⟨R.CHT_RST_PIN_MASK, 0, 0⟩
def R.CHT_FW_ADDR_LO : Nat := 0x14
def F.CHT_FW_ADDR_LO_ADDR : Fld := ⟨R.CHT_FW_ADDR_LO, 31, 8⟩
def R.CHT_FW_ADDR_HI : Nat := 0x18
def F.CHT_FW_ADDR_HI_ADDR : Fld := ⟨R.CHT_FW_ADDR_HI, 31, 0⟩
def R.CHT_FW_LEN : Nat := 0x1c
def F.CHT_FW_LEN_LEN : Fld := ⟨R.CHT_FW_LEN, 25, 0⟩
def R.CHT_FW_STATUS : Nat := 0x20
def F.CHT_FW_STATUS_VERSION : Fld := ⟨R.CHT_FW_STATUS, 31, 16⟩
def F.CHT_FW_STATUS_A_OK : Fld := ⟨R.CHT_FW_STATUS, 7, 7⟩
def F.CHT_FW_STATUS_B_OK : Fld := ⟨R.CHT_FW_STATUS, 6, 6⟩
def F.CHT_FW_STATUS_ACTIVE : Fld := ⟨R.CHT_FW_STATUS, 5, 5⟩
def F.CHT_FW_STATUS_HOST_OK : Fld := ⟨R.CHT_FW_STATUS, 4, 4⟩
def R.CHT_DEFECT_STATUS : Nat := 0x24
def F.CHT_DEFECT_STATUS_FULL : Fld := ⟨R.CHT_DEFECT_STATUS, 31, 31⟩
def F.CHT_DEFECT_STATUS_ENTRIES : Fld := ⟨R.CHT_DEFECT_STATUS, 26, 16⟩
def R.CHT_DEFECT_CTRL : Nat := 0x28
def F.CHT_DEFECT_CTRL_PURGE : Fld := ⟨R.CHT_DEFECT_CTRL, 13, 13⟩
def F.CHT_DEFECT_CTRL_ADD : Fld := ⟨R.CHT_DEFECT_CTRL, 12, 12⟩
def F.CHT_DEFECT_CTRL_INDEX : Fld := ⟨R.CHT_DEFECT_CTRL, 10, 0⟩
def R.CHT_DEFECT_LO : Nat := 0x2c
def F.CHT_DEFECT_LO_LOC : Fld := ⟨R.CHT_DEFECT_LO, 31, 16⟩
def F.CHT_DEFECT_LO_ORIGIN : Fld := ⟨R.CHT_DEFECT_LO, 15, 8⟩
def F.CHT_DEFECT_LO_TYPE : Fld := ⟨R.CHT_DEFECT_LO, 7, 0⟩
def R.CHT_DEFECT_HI : Nat := 0x30
def F.CHT_DEFECT_HI_TIME : Fld := ⟨R.CHT_DEFECT_HI, 31, 0⟩
def R.CHT_STRAP : Nat := 0x34
def F.CHT_STRAP_ROLE : Fld := ⟨R.CHT_STRAP, 7, 6⟩
def F.CHT_STRAP_SLOT_ID : Fld := ⟨R.CHT_STRAP, 5, 0⟩
def R.CHT_PIN_STATUS : Nat := 0x38
def F.CHT_PIN_STATUS_REF_CLK_OK : Fld := ⟨R.CHT_PIN_STATUS, 15, 15⟩
def F.CHT_PIN_STATUS_REF_PPS : Fld := ⟨R.CHT_PIN_STATUS, 14, 14⟩
def F.CHT_PIN_STATUS_COOLANT_OK : Fld := ⟨R.CHT_PIN_STATUS, 13, 13⟩
def F.CHT_PIN_STATUS_LEAK_DET : Fld := ⟨R.CHT_PIN_STATUS, 12, 12⟩
def F.CHT_PIN_STATUS_ALERT_DRIVEN : Fld := ⟨R.CHT_PIN_STATUS, 11, 11⟩
def F.CHT_PIN_STATUS_FAULT_DRIVEN : Fld := ⟨R.CHT_PIN_STATUS, 10, 10⟩
def F.CHT_PIN_STATUS_FAULT_LINE : Fld := ⟨R.CHT_PIN_STATUS, 9, 9⟩
def F.CHT_PIN_STATUS_PWRGD : Fld := ⟨R.CHT_PIN_STATUS, 8, 8⟩
def F.CHT_PIN_STATUS_PWR_EN : Fld := ⟨R.CHT_PIN_STATUS, 7, 7⟩
def F.CHT_PIN_STATUS_RST_L : Fld := ⟨R.CHT_PIN_STATUS, 6, 6⟩
def F.CHT_PIN_STATUS_PE1_PERST_L : Fld := ⟨R.CHT_PIN_STATUS, 5, 5⟩
def F.CHT_PIN_STATUS_PE0_PERST_L : Fld := ⟨R.CHT_PIN_STATUS, 4, 4⟩
def F.CHT_PIN_STATUS_PIN_SAFE : Fld := ⟨R.CHT_PIN_STATUS, 3, 3⟩
def R.CHT_SMB_CFG : Nat := 0x3c
def F.CHT_SMB_CFG_PEC_ERRS : Fld := ⟨R.CHT_SMB_CFG, 31, 24⟩
def F.CHT_SMB_CFG_TIMEOUTS : Fld := ⟨R.CHT_SMB_CFG, 23, 16⟩
def F.CHT_SMB_CFG_ADDR : Fld := ⟨R.CHT_SMB_CFG, 14, 8⟩
def F.CHT_SMB_CFG_ARA_EN : Fld := ⟨R.CHT_SMB_CFG, 1, 1⟩
def F.CHT_SMB_CFG_EN : Fld := ⟨R.CHT_SMB_CFG, 0, 0⟩
def R.CHT_BU_TIME (k : Nat) : Nat := 0x40 + 4 * k
def F.CHT_BU_TIME_MS (k : Nat) : Fld := ⟨R.CHT_BU_TIME k, 15, 0⟩
def R.CHT_CFG_STATUS (p : Nat) : Nat := 0x80 + 4 * p
def F.CHT_CFG_STATUS_EPOCH (p : Nat) : Fld := ⟨R.CHT_CFG_STATUS p, 31, 16⟩
def F.CHT_CFG_STATUS_PENDING (p : Nat) : Fld := ⟨R.CHT_CFG_STATUS p, 15, 15⟩
def F.CHT_CFG_STATUS_ENTRIES (p : Nat) : Fld := ⟨R.CHT_CFG_STATUS p, 10, 0⟩
def R.CHT_CFG_SEL : Nat := 0xa0
def F.CHT_CFG_SEL_PART : Fld := ⟨R.CHT_CFG_SEL, 2, 0⟩
def R.CHT_CFG_C_LO : Nat := 0xa4
def F.CHT_CFG_C_LO_FET : Fld := ⟨R.CHT_CFG_C_LO, 31, 0⟩
def R.CHT_CFG_C_HI : Nat := 0xa8
def F.CHT_CFG_C_HI_FET : Fld := ⟨R.CHT_CFG_C_HI, 31, 0⟩
def R.CHT_CFG_DIGEST (k : Nat) : Nat := 0xc0 + 4 * k
def F.CHT_CFG_DIGEST_DIGEST (k : Nat) : Fld := ⟨R.CHT_CFG_DIGEST k, 31, 0⟩
def R.CHT_SERIAL (k : Nat) : Nat := 0xe0 + 4 * k
def F.CHT_SERIAL_SERIAL (k : Nat) : Fld := ⟨R.CHT_SERIAL k, 31, 0⟩
def R.FLT_STATUS : Nat := 0x30000
def F.FLT_STATUS_LOCKED : Fld := ⟨R.FLT_STATUS, 31, 31⟩
def F.FLT_STATUS_QUENCHED : Fld := ⟨R.FLT_STATUS, 30, 30⟩
def F.FLT_STATUS_HIGHEST : Fld := ⟨R.FLT_STATUS, 29, 27⟩
def F.FLT_STATUS_UNCLEARED : Fld := ⟨R.FLT_STATUS, 15, 0⟩
def R.FLT_CTRL : Nat := 0x30004
def F.FLT_CTRL_CNT_CLEAR : Fld := ⟨R.FLT_CTRL, 1, 1⟩
def R.FLT_CFG : Nat := 0x30008
def F.FLT_CFG_NOTICE_EN : Fld := ⟨R.FLT_CFG, 31, 25⟩
def F.FLT_CFG_WINDOW : Fld := ⟨R.FLT_CFG, 23, 16⟩
def F.FLT_CFG_REPEAT_TILES : Fld := ⟨R.FLT_CFG, 11, 0⟩
def R.FLT_CORR_CFG : Nat := 0x3000c
def F.FLT_CORR_CFG_CORR_LIMIT : Fld := ⟨R.FLT_CORR_CFG, 15, 0⟩
def R.FLT_LOG_HEAD : Nat := 0x30010
def F.FLT_LOG_HEAD_INDEX : Fld := ⟨R.FLT_LOG_HEAD, 31, 0⟩
def R.FLT_LOG_SEL : Nat := 0x30014
def F.FLT_LOG_SEL_INDEX : Fld := ⟨R.FLT_LOG_SEL, 31, 0⟩
def R.FLT_ALERT_EN : Nat := 0x30018
def F.FLT_ALERT_EN_EN : Fld := ⟨R.FLT_ALERT_EN, 5, 0⟩
def R.FLT_LOCK : Nat := 0x3001c
def F.FLT_LOCK_LOCKED : Fld := ⟨R.FLT_LOCK, 31, 31⟩
def F.FLT_LOCK_CAUSE : Fld := ⟨R.FLT_LOCK, 23, 16⟩
def R.FLT_INJECT : Nat := 0x30020
def F.FLT_INJECT_PART : Fld := ⟨R.FLT_INJECT, 31, 29⟩
def F.FLT_INJECT_DOM : Fld := ⟨R.FLT_INJECT, 23, 14⟩
def F.FLT_INJECT_TARGET : Fld := ⟨R.FLT_INJECT, 10, 8⟩
def F.FLT_INJECT_ARM : Fld := ⟨R.FLT_INJECT, 0, 0⟩
def R.FLT_LOG_REC (k : Nat) : Nat := 0x30040 + 4 * k
def F.FLT_LOG_REC_BYTES (k : Nat) : Fld := ⟨R.FLT_LOG_REC k, 31, 0⟩
def R.FLT_PART_SUM (p : Nat) : Nat := 0x30100 + 4 * p
def F.FLT_PART_SUM_HIGHEST (p : Nat) : Fld := ⟨R.FLT_PART_SUM p, 31, 29⟩
def F.FLT_PART_SUM_QUENCHED (p : Nat) : Fld := ⟨R.FLT_PART_SUM p, 28, 28⟩
def F.FLT_PART_SUM_STATE_INTACT (p : Nat) : Fld := ⟨R.FLT_PART_SUM p, 27, 27⟩
def F.FLT_PART_SUM_CNT3 (p : Nat) : Fld := ⟨R.FLT_PART_SUM p, 15, 8⟩
def F.FLT_PART_SUM_CNT2 (p : Nat) : Fld := ⟨R.FLT_PART_SUM p, 7, 0⟩
def R.FLT_RERUN (p : Nat) : Nat := 0x30120 + 4 * p
def F.FLT_RERUN_LANES (p : Nat) : Fld := ⟨R.FLT_RERUN p, 31, 28⟩
def F.FLT_RERUN_TRANSIENT (p : Nat) : Fld := ⟨R.FLT_RERUN p, 27, 20⟩
def F.FLT_RERUN_PERMANENT (p : Nat) : Fld := ⟨R.FLT_RERUN p, 19, 12⟩
def F.FLT_RERUN_EZERO (p : Nat) : Fld := ⟨R.FLT_RERUN p, 11, 0⟩
def R.FLT_C_FIRST (c : Nat) : Nat := 0x31000 + 16 * c
def F.FLT_C_FIRST_INDEX (c : Nat) : Fld := ⟨R.FLT_C_FIRST c, 31, 0⟩
def R.FLT_C_CNT0 (c : Nat) : Nat := 0x31004 + 16 * c
def F.FLT_C_CNT0_CLASS1 (c : Nat) : Fld := ⟨R.FLT_C_CNT0 c, 31, 16⟩
def F.FLT_C_CNT0_CLASS0 (c : Nat) : Fld := ⟨R.FLT_C_CNT0 c, 15, 0⟩
def R.FLT_C_CNT1 (c : Nat) : Nat := 0x31008 + 16 * c
def F.FLT_C_CNT1_CLASS3 (c : Nat) : Fld := ⟨R.FLT_C_CNT1 c, 31, 16⟩
def F.FLT_C_CNT1_CLASS2 (c : Nat) : Fld := ⟨R.FLT_C_CNT1 c, 15, 0⟩
def R.FLT_C_STATUS (c : Nat) : Nat := 0x3100c + 16 * c
def F.FLT_C_STATUS_VALID (c : Nat) : Fld := ⟨R.FLT_C_STATUS c, 31, 31⟩
def F.FLT_C_STATUS_HIGHEST (c : Nat) : Fld := ⟨R.FLT_C_STATUS c, 30, 28⟩
def F.FLT_C_STATUS_CLASS5 (c : Nat) : Fld := ⟨R.FLT_C_STATUS c, 27, 24⟩
def F.FLT_C_STATUS_CLASS4 (c : Nat) : Fld := ⟨R.FLT_C_STATUS c, 23, 16⟩
def F.FLT_C_STATUS_POISON_LIST (c : Nat) : Fld := ⟨R.FLT_C_STATUS c, 8, 0⟩
def R.CHT_MGR_STATUS : Nat := 0x100
def F.CHT_MGR_STATUS_ACT : Fld := ⟨R.CHT_MGR_STATUS, 31, 29⟩
def F.CHT_MGR_STATUS_TAKEOVER : Fld := ⟨R.CHT_MGR_STATUS, 28, 28⟩
def F.CHT_MGR_STATUS_CONFLICT : Fld := ⟨R.CHT_MGR_STATUS, 27, 27⟩
def F.CHT_MGR_STATUS_DRIVING : Fld := ⟨R.CHT_MGR_STATUS, 26, 26⟩
def F.CHT_MGR_STATUS_MISSED : Fld := ⟨R.CHT_MGR_STATUS, 23, 16⟩
def R.CHT_MGR_CTRL : Nat := 0x104
def F.CHT_MGR_CTRL_HANDBACK : Fld := ⟨R.CHT_MGR_CTRL, 2, 2⟩
def F.CHT_MGR_CTRL_DRIVE : Fld := ⟨R.CHT_MGR_CTRL, 1, 1⟩
def F.CHT_MGR_CTRL_ABORT : Fld := ⟨R.CHT_MGR_CTRL, 0, 0⟩
def R.CHT_MGR_CFG : Nat := 0x108
def F.CHT_MGR_CFG_HEALTH_MS : Fld := ⟨R.CHT_MGR_CFG, 31, 16⟩
def F.CHT_MGR_CFG_WAIT_S : Fld := ⟨R.CHT_MGR_CFG, 15, 8⟩
def F.CHT_MGR_CFG_AUTO_COMMIT : Fld := ⟨R.CHT_MGR_CFG, 2, 2⟩
def F.CHT_MGR_CFG_AUTO_DRIVE : Fld := ⟨R.CHT_MGR_CFG, 1, 1⟩
def F.CHT_MGR_CFG_PROXY_EN : Fld := ⟨R.CHT_MGR_CFG, 0, 0⟩
def R.CHT_MGMT_BASE : Nat := 0x10c
def F.CHT_MGMT_BASE_BASE : Fld := ⟨R.CHT_MGMT_BASE, 31, 6⟩
def F.CHT_MGMT_BASE_SLOT : Fld := ⟨R.CHT_MGMT_BASE, 5, 0⟩
def R.CHT_MGR_TMAP0 : Nat := 0x110
def F.CHT_MGR_TMAP0_T3 : Fld := ⟨R.CHT_MGR_TMAP0, 31, 24⟩
def F.CHT_MGR_TMAP0_T2 : Fld := ⟨R.CHT_MGR_TMAP0, 23, 16⟩
def F.CHT_MGR_TMAP0_T1 : Fld := ⟨R.CHT_MGR_TMAP0, 15, 8⟩
def F.CHT_MGR_TMAP0_T0 : Fld := ⟨R.CHT_MGR_TMAP0, 7, 0⟩
def R.CHT_MGR_TMAP1 : Nat := 0x114
def F.CHT_MGR_TMAP1_T7 : Fld := ⟨R.CHT_MGR_TMAP1, 31, 24⟩
def F.CHT_MGR_TMAP1_T6 : Fld := ⟨R.CHT_MGR_TMAP1, 23, 16⟩
def F.CHT_MGR_TMAP1_T5 : Fld := ⟨R.CHT_MGR_TMAP1, 15, 8⟩
def F.CHT_MGR_TMAP1_T4 : Fld := ⟨R.CHT_MGR_TMAP1, 7, 0⟩
def R.CHT_MGR_FOLLOW : Nat := 0x118
def F.CHT_MGR_FOLLOW_VALID : Fld := ⟨R.CHT_MGR_FOLLOW, 31, 31⟩
def F.CHT_MGR_FOLLOW_COORD : Fld := ⟨R.CHT_MGR_FOLLOW, 16, 0⟩
def R.CHT_MGR_STANDBY : Nat := 0x11c
def F.CHT_MGR_STANDBY_VALID : Fld := ⟨R.CHT_MGR_STANDBY, 31, 31⟩
def F.CHT_MGR_STANDBY_COORD : Fld := ⟨R.CHT_MGR_STANDBY, 16, 0⟩
def R.CHT_MGR_FAC_ADDR : Nat := 0x120
def F.CHT_MGR_FAC_ADDR_IPV4 : Fld := ⟨R.CHT_MGR_FAC_ADDR, 31, 0⟩
def R.CHT_MGR_FAC_PORT : Nat := 0x124
def F.CHT_MGR_FAC_PORT_PORT : Fld := ⟨R.CHT_MGR_FAC_PORT, 15, 0⟩
def R.CHT_MGR_RACK : Nat := 0x128
def F.CHT_MGR_RACK_DRAW : Fld := ⟨R.CHT_MGR_RACK, 31, 16⟩
def F.CHT_MGR_RACK_REACH : Fld := ⟨R.CHT_MGR_RACK, 15, 8⟩
def F.CHT_MGR_RACK_QUENCH : Fld := ⟨R.CHT_MGR_RACK, 7, 0⟩
def R.CHT_MGR_HEALTH0 (t : Nat) : Nat := 0x140 + 8 * t
def F.CHT_MGR_HEALTH0_VALID (t : Nat) : Fld := ⟨R.CHT_MGR_HEALTH0 t, 31, 31⟩
def F.CHT_MGR_HEALTH0_UNREACH (t : Nat) : Fld := ⟨R.CHT_MGR_HEALTH0 t, 30, 30⟩
def F.CHT_MGR_HEALTH0_HIGHEST (t : Nat) : Fld := ⟨R.CHT_MGR_HEALTH0 t, 29, 27⟩
def F.CHT_MGR_HEALTH0_LOCKED (t : Nat) : Fld := ⟨R.CHT_MGR_HEALTH0 t, 26, 26⟩
def F.CHT_MGR_HEALTH0_QUENCHED (t : Nat) : Fld := ⟨R.CHT_MGR_HEALTH0 t, 25, 25⟩
def F.CHT_MGR_HEALTH0_STEP_DONE (t : Nat) : Fld := ⟨R.CHT_MGR_HEALTH0 t, 24, 21⟩
def F.CHT_MGR_HEALTH0_BU_FAIL (t : Nat) : Fld := ⟨R.CHT_MGR_HEALTH0 t, 20, 20⟩
def F.CHT_MGR_HEALTH0_AGE_MS (t : Nat) : Fld := ⟨R.CHT_MGR_HEALTH0 t, 15, 0⟩
def R.CHT_MGR_HEALTH1 (t : Nat) : Nat := 0x144 + 8 * t
def F.CHT_MGR_HEALTH1_DRAW (t : Nat) : Fld := ⟨R.CHT_MGR_HEALTH1 t, 31, 16⟩
def F.CHT_MGR_HEALTH1_ALARM (t : Nat) : Fld := ⟨R.CHT_MGR_HEALTH1 t, 15, 0⟩

/-- Rows of the Chitin core, manager and pin registers window, part 1 (R456, R507, R533). -/
def chtRows0 : List RegRow :=
  [ ⟨0x7f00, 1, 4, [⟨31, 16, .rw, 17520⟩, ⟨0, 0, .rw, 1⟩]⟩,
    ⟨0x0, 1, 4, [⟨31, 28, .ro, 0⟩, ⟨27, 27, .ro, 0⟩, ⟨26, 26, .ro, 0⟩, ⟨25, 20, .ro, 0⟩, ⟨19, 19, .ro, 0⟩, ⟨18, 18, .ro, 0⟩, ⟨17, 17, .ro, 0⟩, ⟨16, 16, .ro, 0⟩]⟩,
    ⟨0x4, 1, 4, [⟨9, 9, .wo, 0⟩, ⟨8, 8, .wo, 0⟩, ⟨3, 0, .rw, 0⟩]⟩,
    ⟨0x8, 1, 4, [⟨31, 16, .rw, 2500⟩, ⟨15, 9, .rw, 86⟩, ⟨8, 7, .rw, 0⟩, ⟨6, 6, .rw, 0⟩, ⟨5, 5, .rw, 1⟩]⟩,
    ⟨0xc, 1, 4, [⟨31, 31, .ro, 0⟩, ⟨30, 30, .ro, 0⟩, ⟨29, 0, .ro, 0⟩]⟩,
    ⟨0x10, 1, 4, [⟨0, 0, .w1s, 0⟩]⟩,
    ⟨0x14, 1, 4, [⟨31, 8, .rw, 0⟩]⟩,
    ⟨0x18, 1, 4, [⟨31, 0, .rw, 0⟩]⟩,
    ⟨0x1c, 1, 4, [⟨25, 0, .rw, 0⟩]⟩,
    ⟨0x20, 1, 4, [⟨31, 16, .ro, 0⟩, ⟨7, 7, .ro, 0⟩, ⟨6, 6, .ro, 0⟩, ⟨5, 5, .ro, 0⟩, ⟨4, 4, .ro, 0⟩]⟩,
    ⟨0x24, 1, 4, [⟨31, 31, .ro, 0⟩, ⟨26, 16, .ro, 0⟩]⟩,
    ⟨0x28, 1, 4, [⟨13, 13, .wo, 0⟩, ⟨12, 12, .wo, 0⟩, ⟨10, 0, .rw, 0⟩]⟩,
    ⟨0x2c, 1, 4, [⟨31, 16, .rw, 0⟩, ⟨15, 8, .rw, 0⟩, ⟨7, 0, .rw, 0⟩]⟩,
    ⟨0x30, 1, 4, [⟨31, 0, .rw, 0⟩]⟩,
    ⟨0x34, 1, 4, [⟨7, 6, .ro, 0⟩, ⟨5, 0, .ro, 0⟩]⟩,
    ⟨0x38, 1, 4, [⟨15, 15, .ro, 0⟩, ⟨14, 14, .ro, 0⟩, ⟨13, 13, .ro, 0⟩, ⟨12, 12, .ro, 0⟩, ⟨11, 11, .ro, 0⟩, ⟨10, 10, .ro, 0⟩, ⟨9, 9, .ro, 0⟩, ⟨8, 8, .ro, 0⟩, ⟨7, 7, .ro, 0⟩, ⟨6, 6, .ro, 0⟩, ⟨5, 5, .ro, 0⟩, ⟨4, 4, .ro, 0⟩, ⟨3, 3, .ro, 0⟩]⟩,
    ⟨0x3c, 1, 4, [⟨31, 24, .ro, 0⟩, ⟨23, 16, .ro, 0⟩, ⟨14, 8, .ro, 0⟩, ⟨1, 1, .rw, 1⟩, ⟨0, 0, .rw, 1⟩]⟩,
    ⟨0x40, 10, 4, [⟨15, 0, .ro, 0⟩]⟩,
    ⟨0x80, 8, 4, [⟨31, 16, .ro, 0⟩, ⟨15, 15, .ro, 0⟩, ⟨10, 0, .ro, 0⟩]⟩,
    ⟨0xa0, 1, 4, [⟨2, 0, .rw, 0⟩]⟩ ]

/-- Rows of the Chitin core, manager and pin registers window, part 2 (R456, R507, R533). -/
def chtRows1 : List RegRow :=
  [ ⟨0xa4, 1, 4, [⟨31, 0, .ro, 0⟩]⟩,
    ⟨0xa8, 1, 4, [⟨31, 0, .ro, 0⟩]⟩,
    ⟨0xc0, 8, 4, [⟨31, 0, .ro, 0⟩]⟩,
    ⟨0xe0, 4, 4, [⟨31, 0, .ro, 0⟩]⟩,
    ⟨0x100, 1, 4, [⟨31, 29, .ro, 0⟩, ⟨28, 28, .w1c, 0⟩, ⟨27, 27, .w1c, 0⟩, ⟨26, 26, .ro, 0⟩, ⟨23, 16, .ro, 0⟩]⟩,
    ⟨0x104, 1, 4, [⟨2, 2, .wo, 0⟩, ⟨1, 1, .wo, 0⟩, ⟨0, 0, .wo, 0⟩]⟩,
    ⟨0x108, 1, 4, [⟨31, 16, .rw, 0⟩, ⟨15, 8, .rw, 0⟩, ⟨2, 2, .rw, 0⟩, ⟨1, 1, .rw, 0⟩, ⟨0, 0, .rw, 0⟩]⟩,
    ⟨0x10c, 1, 4, [⟨31, 6, .rw, 0⟩, ⟨5, 0, .ro, 0⟩]⟩,
    ⟨0x110, 1, 4, [⟨31, 24, .rw, 0⟩, ⟨23, 16, .rw, 0⟩, ⟨15, 8, .rw, 0⟩, ⟨7, 0, .rw, 0⟩]⟩,
    ⟨0x114, 1, 4, [⟨31, 24, .rw, 0⟩, ⟨23, 16, .rw, 0⟩, ⟨15, 8, .rw, 0⟩, ⟨7, 0, .rw, 0⟩]⟩,
    ⟨0x118, 1, 4, [⟨31, 31, .rw, 0⟩, ⟨16, 0, .rw, 0⟩]⟩,
    ⟨0x11c, 1, 4, [⟨31, 31, .rw, 0⟩, ⟨16, 0, .rw, 0⟩]⟩,
    ⟨0x120, 1, 4, [⟨31, 0, .rw, 0⟩]⟩,
    ⟨0x124, 1, 4, [⟨15, 0, .rw, 0⟩]⟩,
    ⟨0x128, 1, 4, [⟨31, 16, .ro, 0⟩, ⟨15, 8, .ro, 0⟩, ⟨7, 0, .ro, 0⟩]⟩,
    ⟨0x140, 8, 8, [⟨31, 31, .ro, 0⟩, ⟨30, 30, .ro, 0⟩, ⟨29, 27, .ro, 0⟩, ⟨26, 26, .ro, 0⟩, ⟨25, 25, .ro, 0⟩, ⟨24, 21, .ro, 0⟩, ⟨20, 20, .ro, 0⟩, ⟨15, 0, .ro, 0⟩]⟩,
    ⟨0x144, 8, 8, [⟨31, 16, .ro, 0⟩, ⟨15, 0, .ro, 0⟩]⟩ ]

/-- Every row of the Chitin core, manager and pin registers window. -/
def chtRows : List RegRow := chtRows0 ++ chtRows1

/-- Rows of the queue pages window, part 1 (R399). -/
def qpRows : List RegRow :=
  [ ⟨0x0, 1, 4, [⟨31, 8, .rw, 0⟩]⟩,
    ⟨0x4, 1, 4, [⟨31, 0, .rw, 0⟩]⟩,
    ⟨0x8, 1, 4, [⟨31, 8, .rw, 0⟩]⟩,
    ⟨0xc, 1, 4, [⟨31, 0, .rw, 0⟩]⟩,
    ⟨0x10, 1, 4, [⟨15, 12, .rw, 0⟩, ⟨11, 8, .rw, 0⟩, ⟨1, 1, .rw, 0⟩, ⟨0, 0, .rw, 0⟩]⟩,
    ⟨0x14, 1, 4, [⟨11, 0, .rw, 0⟩]⟩,
    ⟨0x18, 1, 4, [⟨11, 0, .ro, 0⟩]⟩,
    ⟨0x1c, 1, 4, [⟨11, 0, .rw, 0⟩]⟩,
    ⟨0x20, 1, 4, [⟨31, 24, .ro, 1⟩, ⟨23, 17, .ro, 0⟩, ⟨1, 1, .ro, 0⟩, ⟨0, 0, .ro, 0⟩]⟩,
    ⟨0x24, 1, 4, [⟨31, 0, .ro, 0⟩]⟩ ]

/-- Rows of the power window, part 1 (R430). -/
def pwrRows0 : List RegRow :=
  [ ⟨0x0, 1, 4, [⟨7, 7, .ro, 0⟩, ⟨6, 6, .ro, 0⟩, ⟨5, 5, .ro, 0⟩, ⟨4, 4, .ro, 0⟩, ⟨3, 3, .ro, 0⟩, ⟨2, 2, .ro, 0⟩, ⟨1, 1, .ro, 0⟩, ⟨0, 0, .ro, 0⟩]⟩,
    ⟨0x4, 1, 4, [⟨1, 1, .wo, 0⟩, ⟨0, 0, .wo, 0⟩]⟩,
    ⟨0x8, 1, 4, [⟨15, 15, .w1c, 0⟩, ⟨14, 14, .w1c, 0⟩, ⟨13, 13, .w1c, 0⟩, ⟨12, 12, .w1c, 0⟩, ⟨11, 11, .w1c, 0⟩, ⟨10, 10, .w1c, 0⟩, ⟨9, 9, .w1c, 0⟩, ⟨8, 8, .w1c, 0⟩, ⟨7, 7, .w1c, 0⟩, ⟨6, 6, .w1c, 0⟩, ⟨5, 5, .w1c, 0⟩, ⟨4, 4, .w1c, 0⟩, ⟨3, 3, .w1c, 0⟩, ⟨2, 2, .w1c, 0⟩, ⟨1, 1, .w1c, 0⟩, ⟨0, 0, .w1c, 0⟩]⟩,
    ⟨0xc, 1, 4, [⟨15, 0, .rw, 59445⟩]⟩,
    ⟨0x10, 1, 4, [⟨31, 16, .ro, 0⟩, ⟨15, 0, .ro, 0⟩]⟩,
    ⟨0x14, 1, 4, [⟨31, 16, .ro, 0⟩, ⟨15, 0, .ro, 0⟩]⟩,
    ⟨0x18, 1, 4, [⟨31, 16, .ro, 1750⟩, ⟨15, 0, .ro, 120⟩]⟩,
    ⟨0x1c, 1, 4, [⟨19, 16, .ro, 0⟩, ⟨15, 0, .ro, 200⟩]⟩,
    ⟨0x20, 1, 4, [⟨31, 16, .ro, 0⟩, ⟨15, 0, .ro, 0⟩]⟩,
    ⟨0x24, 1, 4, [⟨31, 16, .ro, 0⟩, ⟨15, 0, .ro, 0⟩]⟩,
    ⟨0x28, 1, 4, [⟨31, 16, .ro, 2000⟩, ⟨10, 0, .ro, 0⟩]⟩,
    ⟨0x2c, 1, 4, [⟨31, 16, .ro, 0⟩, ⟨15, 0, .ro, 0⟩]⟩,
    ⟨0x30, 1, 4, [⟨31, 16, .ro, 0⟩, ⟨4, 4, .ro, 0⟩, ⟨3, 3, .ro, 0⟩, ⟨2, 0, .ro, 0⟩]⟩,
    ⟨0x34, 1, 4, [⟨31, 16, .ro, 0⟩, ⟨15, 0, .ro, 0⟩]⟩,
    ⟨0x38, 1, 4, [⟨31, 16, .ro, 2500⟩, ⟨15, 0, .ro, 0⟩]⟩,
    ⟨0x3c, 1, 4, [⟨31, 0, .ro, 0⟩]⟩,
    ⟨0x40, 1, 4, [⟨21, 16, .ro, 0⟩, ⟨15, 0, .ro, 0⟩]⟩,
    ⟨0x44, 1, 4, [⟨15, 8, .rwl, 92⟩]⟩,
    ⟨0x48, 1, 4, [⟨31, 24, .ro, 0⟩, ⟨23, 14, .ro, 0⟩]⟩,
    ⟨0x4c, 1, 4, [⟨31, 16, .ro, 0⟩, ⟨15, 0, .ro, 0⟩]⟩ ]

/-- Rows of the power window, part 2 (R430). -/
def pwrRows1 : List RegRow :=
  [ ⟨0x50, 1, 4, [⟨31, 16, .ro, 0⟩]⟩,
    ⟨0x100, 12, 16, [⟨31, 0, .ro, 0⟩]⟩,
    ⟨0x104, 12, 16, [⟨31, 0, .ro, 0⟩]⟩,
    ⟨0x108, 12, 16, [⟨31, 16, .ro, 0⟩, ⟨15, 0, .ro, 0⟩]⟩,
    ⟨0x10c, 12, 16, [⟨31, 31, .ro, 0⟩, ⟨15, 0, .ro, 0⟩]⟩,
    ⟨0x1000, 792, 32, [⟨31, 29, .ro, 0⟩, ⟨28, 27, .ro, 0⟩, ⟨23, 16, .ro, 0⟩, ⟨8, 0, .ro, 0⟩]⟩,
    ⟨0x1004, 792, 32, [⟨23, 19, .ro, 0⟩, ⟨15, 12, .ro, 10⟩, ⟨8, 0, .ro, 0⟩]⟩,
    ⟨0x1008, 792, 32, [⟨31, 31, .w1c, 0⟩, ⟨8, 0, .ro, 0⟩]⟩,
    ⟨0x100c, 792, 32, [⟨31, 0, .ro, 0⟩]⟩,
    ⟨0x1010, 792, 32, [⟨31, 0, .ro, 0⟩]⟩ ]

/-- Every row of the power window. -/
def pwrRows : List RegRow := pwrRows0 ++ pwrRows1

/-- Rows of the time and clocks window, part 1 (R82). -/
def timRows0 : List RegRow :=
  [ ⟨0x0, 1, 4, [⟨31, 0, .ro, 0⟩]⟩,
    ⟨0x4, 1, 4, [⟨31, 0, .ro, 0⟩]⟩,
    ⟨0x8, 1, 4, [⟨31, 16, .ro, 65535⟩, ⟨15, 15, .ro, 0⟩, ⟨14, 14, .ro, 0⟩, ⟨13, 13, .ro, 0⟩, ⟨12, 12, .ro, 0⟩, ⟨11, 8, .ro, 15⟩, ⟨7, 4, .ro, 0⟩, ⟨2, 0, .ro, 0⟩]⟩,
    ⟨0xc, 1, 4, [⟨7, 4, .rw, 0⟩, ⟨3, 3, .rw, 0⟩, ⟨2, 2, .rw, 0⟩, ⟨1, 1, .rw, 0⟩, ⟨0, 0, .rw, 0⟩]⟩,
    ⟨0x10, 1, 4, [⟨15, 12, .rwl, 0⟩, ⟨11, 8, .rwl, 0⟩, ⟨7, 4, .rwl, 0⟩, ⟨3, 0, .rwl, 0⟩]⟩,
    ⟨0x14, 1, 4, [⟨29, 24, .ro, 0⟩, ⟨11, 8, .ro, 0⟩, ⟨7, 4, .ro, 0⟩, ⟨3, 0, .ro, 0⟩]⟩,
    ⟨0x18, 1, 4, [⟨31, 16, .rwl, 10000⟩]⟩,
    ⟨0x1c, 1, 4, [⟨31, 16, .rwl, 1000⟩, ⟨7, 0, .rwl, 50⟩]⟩,
    ⟨0x20, 1, 4, [⟨15, 0, .rw, 20⟩]⟩,
    ⟨0x24, 1, 4, [⟨9, 0, .rwl, 250⟩]⟩,
    ⟨0x28, 1, 4, [⟨31, 0, .rw, 0⟩]⟩,
    ⟨0x2c, 1, 4, [⟨7, 7, .w1c, 0⟩, ⟨6, 6, .w1c, 0⟩, ⟨5, 5, .w1c, 0⟩, ⟨4, 4, .w1c, 0⟩, ⟨3, 3, .w1c, 0⟩, ⟨2, 2, .w1c, 0⟩, ⟨1, 1, .w1c, 0⟩, ⟨0, 0, .w1c, 0⟩]⟩,
    ⟨0x30, 1, 4, [⟨7, 0, .rw, 26⟩]⟩,
    ⟨0x34, 1, 4, [⟨15, 0, .rw, 8⟩]⟩,
    ⟨0x38, 1, 4, [⟨31, 0, .ro, 0⟩]⟩,
    ⟨0x3c, 1, 4, [⟨31, 0, .ro, 0⟩]⟩,
    ⟨0x40, 8, 4, [⟨2, 0, .rwl, 2⟩]⟩,
    ⟨0x1000, 64, 16, [⟨31, 0, .rw, 0⟩]⟩,
    ⟨0x1004, 64, 16, [⟨31, 0, .ro, 0⟩]⟩,
    ⟨0x1008, 64, 16, [⟨31, 0, .ro, 0⟩]⟩ ]

/-- Rows of the time and clocks window, part 2 (R82). -/
def timRows1 : List RegRow :=
  [ ⟨0x100c, 64, 16, [⟨16, 16, .ro, 0⟩, ⟨15, 12, .ro, 15⟩, ⟨11, 8, .ro, 0⟩, ⟨7, 0, .ro, 0⟩]⟩,
    ⟨0x8000, 88, 16, [⟨8, 8, .w1s, 0⟩, ⟨4, 0, .rw, 7⟩]⟩,
    ⟨0x8004, 88, 16, [⟨31, 0, .rw, 0⟩]⟩,
    ⟨0x8008, 88, 16, [⟨31, 0, .rw, 0⟩]⟩,
    ⟨0x800c, 88, 16, [⟨31, 16, .ro, 0⟩, ⟨8, 8, .ro, 0⟩, ⟨4, 0, .ro, 7⟩]⟩ ]

/-- Every row of the time and clocks window. -/
def timRows : List RegRow := timRows0 ++ timRows1

/-- Rows of the faults window, part 1 (R490). -/
def fltRows : List RegRow :=
  [ ⟨0x0, 1, 4, [⟨31, 31, .ro, 0⟩, ⟨30, 30, .ro, 0⟩, ⟨29, 27, .ro, 0⟩, ⟨15, 0, .ro, 0⟩]⟩,
    ⟨0x4, 1, 4, [⟨1, 1, .wo, 0⟩]⟩,
    ⟨0x8, 1, 4, [⟨31, 25, .rw, 127⟩, ⟨23, 16, .rw, 3⟩, ⟨11, 0, .rw, 256⟩]⟩,
    ⟨0xc, 1, 4, [⟨15, 0, .rw, 1000⟩]⟩,
    ⟨0x10, 1, 4, [⟨31, 0, .ro, 1⟩]⟩,
    ⟨0x14, 1, 4, [⟨31, 0, .rw, 0⟩]⟩,
    ⟨0x18, 1, 4, [⟨5, 0, .rw, 56⟩]⟩,
    ⟨0x1c, 1, 4, [⟨31, 31, .ro, 0⟩, ⟨23, 16, .ro, 0⟩]⟩,
    ⟨0x20, 1, 4, [⟨31, 29, .rw, 0⟩, ⟨23, 14, .rw, 0⟩, ⟨10, 8, .rw, 0⟩, ⟨0, 0, .w1s, 0⟩]⟩,
    ⟨0x40, 16, 4, [⟨31, 0, .ro, 0⟩]⟩,
    ⟨0x100, 8, 4, [⟨31, 29, .ro, 0⟩, ⟨28, 28, .ro, 0⟩, ⟨27, 27, .ro, 0⟩, ⟨15, 8, .ro, 0⟩, ⟨7, 0, .ro, 0⟩]⟩,
    ⟨0x120, 8, 4, [⟨31, 28, .ro, 0⟩, ⟨27, 20, .ro, 0⟩, ⟨19, 12, .ro, 0⟩, ⟨11, 0, .ro, 0⟩]⟩,
    ⟨0x1000, 109, 16, [⟨31, 0, .ro, 0⟩]⟩,
    ⟨0x1004, 109, 16, [⟨31, 16, .ro, 0⟩, ⟨15, 0, .ro, 0⟩]⟩,
    ⟨0x1008, 109, 16, [⟨31, 16, .ro, 0⟩, ⟨15, 0, .ro, 0⟩]⟩,
    ⟨0x100c, 109, 16, [⟨31, 31, .w1c, 0⟩, ⟨30, 28, .ro, 0⟩, ⟨27, 24, .ro, 0⟩, ⟨23, 16, .ro, 0⟩, ⟨8, 0, .ro, 0⟩]⟩ ]

/-- Rows of the partitions window, part 1 (R365). -/
def prtRows : List RegRow :=
  [ ⟨0x0, 1, 4, [⟨3, 3, .ro, 0⟩, ⟨2, 0, .ro, 0⟩]⟩,
    ⟨0x4, 1, 4, [⟨15, 0, .ro, 380⟩]⟩,
    ⟨0x8, 1, 4, [⟨31, 16, .ro, 1370⟩, ⟨15, 0, .ro, 0⟩]⟩,
    ⟨0xc, 1, 4, [⟨3, 3, .ro, 0⟩, ⟨2, 0, .ro, 0⟩]⟩,
    ⟨0x100, 8, 64, [⟨18, 12, .ro, 0⟩, ⟨11, 5, .ro, 0⟩, ⟨4, 3, .ro, 0⟩, ⟨2, 0, .ro, 0⟩]⟩,
    ⟨0x104, 8, 64, [⟨31, 0, .ro, 0⟩]⟩,
    ⟨0x108, 8, 64, [⟨31, 0, .ro, 0⟩]⟩,
    ⟨0x10c, 8, 64, [⟨31, 0, .ro, 0⟩]⟩,
    ⟨0x110, 8, 64, [⟨7, 4, .ro, 10⟩, ⟨3, 3, .ro, 0⟩, ⟨1, 0, .ro, 3⟩]⟩,
    ⟨0x114, 8, 64, [⟨31, 16, .ro, 0⟩, ⟨15, 0, .ro, 0⟩]⟩,
    ⟨0x118, 8, 64, [⟨31, 16, .ro, 0⟩, ⟨15, 0, .ro, 0⟩]⟩,
    ⟨0x11c, 8, 64, [⟨31, 16, .ro, 0⟩, ⟨3, 0, .ro, 10⟩]⟩ ]

/-- Rows of the mesh, module-wide window, part 1 (R218). -/
def mshRows : List RegRow :=
  [ ⟨0x0, 1, 4, [⟨15, 8, .rwl, 1⟩, ⟨0, 0, .rwl, 0⟩]⟩,
    ⟨0x4, 1, 4, [⟨8, 8, .rwl, 1⟩, ⟨3, 0, .rwl, 2⟩]⟩,
    ⟨0x8, 1, 4, [⟨7, 5, .ro, 0⟩, ⟨4, 4, .ro, 0⟩, ⟨3, 3, .ro, 0⟩]⟩,
    ⟨0xc, 1, 4, [⟨31, 0, .ro, 0⟩]⟩,
    ⟨0x10, 1, 4, [⟨31, 0, .ro, 0⟩]⟩,
    ⟨0x14, 1, 4, [⟨31, 0, .ro, 0⟩]⟩,
    ⟨0x20, 8, 4, [⟨7, 0, .ro, 0⟩]⟩,
    ⟨0x40, 1, 4, [⟨31, 0, .ro, 0⟩]⟩,
    ⟨0x1000, 5632, 4, [⟨6, 0, .ro, 0⟩]⟩ ]

/-- Rows of the Synael Link port window, part 1 (R325). -/
def snlRows0 : List RegRow :=
  [ ⟨0x0, 1, 4, [⟨31, 28, .ro, 0⟩, ⟨27, 27, .ro, 0⟩, ⟨26, 26, .ro, 0⟩, ⟨25, 25, .ro, 0⟩, ⟨24, 24, .ro, 0⟩]⟩,
    ⟨0x4, 1, 4, [⟨3, 3, .wo, 0⟩, ⟨2, 2, .wo, 0⟩, ⟨1, 1, .rw, 0⟩, ⟨0, 0, .rw, 0⟩]⟩,
    ⟨0x8, 1, 4, [⟨25, 20, .ro, 0⟩, ⟨16, 0, .ro, 0⟩]⟩,
    ⟨0xc, 1, 4, [⟨31, 28, .ro, 0⟩, ⟨27, 24, .ro, 0⟩, ⟨23, 16, .ro, 0⟩, ⟨15, 8, .ro, 0⟩, ⟨7, 0, .ro, 0⟩]⟩,
    ⟨0x10, 1, 4, [⟨31, 16, .ro, 2⟩, ⟨15, 0, .ro, 2⟩]⟩,
    ⟨0x14, 1, 4, [⟨31, 16, .ro, 2⟩, ⟨15, 0, .ro, 2⟩]⟩,
    ⟨0x18, 1, 4, [⟨15, 0, .ro, 4⟩]⟩,
    ⟨0x1c, 1, 4, [⟨16, 0, .rwl, 0⟩]⟩,
    ⟨0x20, 1, 4, [⟨16, 10, .rwl, 127⟩, ⟨9, 7, .rwl, 7⟩, ⟨6, 3, .rwl, 15⟩, ⟨2, 0, .rwl, 7⟩]⟩,
    ⟨0x24, 1, 4, [⟨31, 28, .rwl, 0⟩, ⟨27, 24, .rwl, 0⟩, ⟨23, 20, .rwl, 0⟩, ⟨19, 16, .rwl, 0⟩, ⟨15, 12, .rwl, 0⟩, ⟨11, 8, .rwl, 0⟩, ⟨7, 4, .rwl, 0⟩, ⟨3, 0, .rwl, 0⟩]⟩,
    ⟨0x28, 1, 4, [⟨31, 24, .rwl, 0⟩, ⟨23, 16, .rwl, 0⟩, ⟨15, 8, .rwl, 0⟩, ⟨7, 0, .rwl, 32⟩]⟩,
    ⟨0x2c, 1, 4, [⟨31, 24, .rwl, 0⟩, ⟨23, 16, .rwl, 0⟩, ⟨15, 8, .rwl, 0⟩, ⟨7, 0, .rwl, 0⟩]⟩,
    ⟨0x30, 1, 4, [⟨7, 1, .rwl, 0⟩]⟩,
    ⟨0x34, 1, 4, [⟨31, 16, .rw, 224⟩, ⟨15, 8, .rw, 24⟩, ⟨0, 0, .rw, 1⟩]⟩,
    ⟨0x38, 1, 4, [⟨31, 24, .ro, 0⟩, ⟨23, 20, .ro, 0⟩, ⟨19, 16, .ro, 0⟩, ⟨15, 0, .ro, 0⟩]⟩,
    ⟨0x3c, 1, 4, [⟨31, 24, .ro, 0⟩, ⟨23, 23, .ro, 0⟩, ⟨15, 0, .ro, 0⟩]⟩,
    ⟨0x40, 1, 4, [⟨31, 0, .ro, 0⟩]⟩,
    ⟨0x44, 1, 4, [⟨31, 0, .ro, 0⟩]⟩,
    ⟨0x48, 1, 4, [⟨31, 16, .ro, 0⟩, ⟨15, 0, .ro, 0⟩]⟩,
    ⟨0x4c, 1, 4, [⟨31, 24, .ro, 0⟩, ⟨23, 16, .ro, 0⟩, ⟨15, 8, .ro, 0⟩, ⟨7, 0, .ro, 0⟩]⟩ ]

/-- Rows of the Synael Link port window, part 2 (R325). -/
def snlRows1 : List RegRow :=
  [ ⟨0x50, 1, 4, [⟨31, 24, .ro, 0⟩, ⟨23, 16, .ro, 0⟩, ⟨15, 8, .ro, 0⟩, ⟨7, 0, .ro, 0⟩]⟩,
    ⟨0x54, 1, 4, [⟨31, 31, .w1c, 0⟩, ⟨30, 27, .ro, 0⟩, ⟨26, 24, .ro, 0⟩, ⟨23, 0, .ro, 0⟩]⟩,
    ⟨0x58, 1, 4, [⟨2, 1, .rw, 0⟩, ⟨0, 0, .w1s, 0⟩]⟩,
    ⟨0x5c, 1, 4, [⟨31, 24, .ro, 0⟩, ⟨23, 16, .ro, 0⟩, ⟨15, 0, .ro, 0⟩]⟩,
    ⟨0x60, 1, 4, [⟨31, 0, .ro, 0⟩]⟩,
    ⟨0x64, 1, 4, [⟨31, 0, .ro, 0⟩]⟩,
    ⟨0x100, 8, 4, [⟨31, 28, .rwl, 0⟩, ⟨27, 24, .rwl, 0⟩, ⟨23, 20, .rwl, 0⟩, ⟨19, 16, .rwl, 0⟩, ⟨15, 12, .rwl, 0⟩, ⟨11, 8, .rwl, 0⟩, ⟨7, 4, .rwl, 0⟩, ⟨3, 0, .rwl, 0⟩]⟩,
    ⟨0x200, 16, 4, [⟨31, 24, .ro, 0⟩, ⟨15, 0, .ro, 0⟩]⟩ ]

/-- Every row of the Synael Link port window. -/
def snlRows : List RegRow := snlRows0 ++ snlRows1

/-- Rows of the Edge Reduction Unit window, part 1 (R274). -/
def eruRows : List RegRow :=
  [ ⟨0x0, 1, 4, [⟨2, 2, .ro, 0⟩, ⟨1, 1, .ro, 0⟩, ⟨0, 0, .ro, 0⟩]⟩,
    ⟨0x4, 1, 4, [⟨1, 1, .wo, 0⟩, ⟨0, 0, .rw, 0⟩]⟩,
    ⟨0x8, 1, 4, [⟨27, 16, .ro, 0⟩, ⟨11, 0, .ro, 0⟩]⟩,
    ⟨0xc, 1, 4, [⟨31, 16, .ro, 0⟩, ⟨15, 0, .ro, 0⟩]⟩,
    ⟨0x10, 1, 4, [⟨31, 0, .ro, 0⟩]⟩,
    ⟨0x14, 1, 4, [⟨31, 16, .ro, 0⟩, ⟨15, 0, .ro, 0⟩]⟩,
    ⟨0x18, 1, 4, [⟨31, 31, .w1c, 0⟩, ⟨30, 28, .ro, 0⟩, ⟨27, 25, .ro, 0⟩, ⟨23, 0, .ro, 0⟩]⟩,
    ⟨0x1c, 1, 4, [⟨0, 0, .w1s, 0⟩]⟩,
    ⟨0x800, 128, 16, [⟨31, 31, .rw, 0⟩, ⟨30, 28, .rw, 0⟩, ⟨27, 26, .rw, 0⟩, ⟨25, 25, .rw, 0⟩, ⟨24, 24, .rw, 0⟩, ⟨23, 0, .rw, 0⟩]⟩,
    ⟨0x804, 128, 16, [⟨31, 25, .rw, 0⟩, ⟨24, 18, .rw, 0⟩, ⟨17, 11, .rw, 0⟩, ⟨10, 9, .rw, 0⟩, ⟨8, 5, .rw, 0⟩]⟩,
    ⟨0x808, 128, 16, [⟨31, 20, .rw, 0⟩, ⟨19, 0, .rw, 0⟩]⟩,
    ⟨0x80c, 128, 16, [⟨31, 25, .rw, 0⟩, ⟨24, 18, .rw, 0⟩, ⟨17, 10, .rw, 0⟩, ⟨9, 0, .rw, 0⟩]⟩ ]

/-- Rows of the Vault window, part 1 (R254). -/
def vltRows : List RegRow :=
  [ ⟨0x0, 1, 4, [⟨15, 8, .ro, 0⟩, ⟨2, 2, .ro, 0⟩, ⟨1, 1, .ro, 0⟩, ⟨0, 0, .ro, 0⟩]⟩,
    ⟨0x4, 1, 4, [⟨4, 2, .rw, 0⟩, ⟨1, 1, .w1s, 0⟩, ⟨0, 0, .wo, 0⟩]⟩,
    ⟨0x8, 1, 4, [⟨31, 16, .ro, 0⟩, ⟨15, 0, .ro, 0⟩]⟩,
    ⟨0xc, 1, 4, [⟨31, 31, .w1c, 0⟩, ⟨30, 30, .ro, 0⟩, ⟨29, 0, .ro, 0⟩]⟩,
    ⟨0x10, 1, 4, [⟨15, 8, .ro, 0⟩, ⟨7, 0, .ro, 0⟩]⟩,
    ⟨0x14, 1, 4, [⟨31, 24, .ro, 0⟩, ⟨23, 16, .ro, 0⟩, ⟨1, 1, .ro, 0⟩, ⟨0, 0, .ro, 0⟩]⟩,
    ⟨0x18, 1, 4, [⟨31, 31, .ro, 0⟩, ⟨30, 28, .ro, 0⟩, ⟨27, 27, .ro, 0⟩, ⟨17, 0, .ro, 0⟩]⟩,
    ⟨0x1c, 1, 4, [⟨31, 16, .ro, 0⟩, ⟨15, 0, .ro, 0⟩]⟩,
    ⟨0x20, 1, 4, [⟨15, 0, .rw, 24⟩]⟩,
    ⟨0x100, 16, 16, [⟨13, 0, .ro, 0⟩]⟩,
    ⟨0x104, 16, 16, [⟨13, 0, .ro, 0⟩]⟩,
    ⟨0x108, 16, 16, [⟨15, 15, .ro, 0⟩, ⟨14, 12, .ro, 0⟩, ⟨11, 10, .ro, 0⟩, ⟨9, 9, .ro, 0⟩, ⟨8, 8, .ro, 0⟩]⟩,
    ⟨0x200, 16, 16, [⟨10, 0, .ro, 0⟩]⟩,
    ⟨0x204, 16, 16, [⟨10, 0, .ro, 0⟩]⟩,
    ⟨0x208, 16, 16, [⟨15, 15, .ro, 0⟩, ⟨14, 12, .ro, 0⟩]⟩ ]

/-- Rows of the Update Engine window, part 1 (R289). -/
def updRows0 : List RegRow :=
  [ ⟨0x8000, 1, 4, [⟨31, 16, .ro, 0⟩, ⟨2, 2, .ro, 0⟩, ⟨1, 1, .ro, 0⟩, ⟨0, 0, .ro, 0⟩]⟩,
    ⟨0x8004, 1, 4, [⟨0, 0, .wo, 0⟩]⟩,
    ⟨0x8008, 1, 4, [⟨31, 0, .ro, 0⟩]⟩,
    ⟨0x800c, 1, 4, [⟨31, 16, .ro, 0⟩, ⟨15, 0, .ro, 0⟩]⟩,
    ⟨0x8010, 1, 4, [⟨31, 0, .ro, 0⟩]⟩,
    ⟨0x8014, 1, 4, [⟨31, 0, .ro, 1065353216⟩]⟩,
    ⟨0x8020, 8, 4, [⟨31, 0, .rw, 0⟩]⟩,
    ⟨0x8040, 8, 4, [⟨26, 24, .rw, 1⟩, ⟨23, 0, .rw, 0⟩]⟩,
    ⟨0x8060, 8, 4, [⟨31, 31, .rw, 0⟩, ⟨5, 0, .rw, 0⟩]⟩,
    ⟨0x8080, 8, 4, [⟨31, 0, .ro, 0⟩]⟩,
    ⟨0x8100, 16, 64, [⟨31, 31, .rw, 0⟩, ⟨30, 28, .rw, 0⟩, ⟨27, 26, .rw, 0⟩, ⟨25, 25, .rw, 0⟩, ⟨24, 24, .rw, 0⟩, ⟨23, 18, .rw, 0⟩, ⟨17, 12, .rw, 0⟩]⟩,
    ⟨0x8104, 16, 64, [⟨23, 0, .rw, 0⟩]⟩,
    ⟨0x8108, 16, 64, [⟨31, 20, .rw, 0⟩, ⟨7, 0, .rw, 0⟩]⟩,
    ⟨0x810c, 16, 64, [⟨15, 0, .rw, 0⟩]⟩,
    ⟨0x8110, 16, 64, [⟨29, 0, .rw, 0⟩]⟩,
    ⟨0x8114, 16, 64, [⟨29, 0, .rw, 0⟩]⟩,
    ⟨0x8118, 16, 64, [⟨29, 0, .rw, 0⟩]⟩,
    ⟨0x811c, 16, 64, [⟨29, 0, .rw, 0⟩]⟩,
    ⟨0x8120, 16, 64, [⟨29, 0, .rw, 0⟩]⟩,
    ⟨0x8124, 16, 64, [⟨31, 0, .rw, 0⟩]⟩ ]

/-- Rows of the Update Engine window, part 2 (R289). -/
def updRows1 : List RegRow :=
  [ ⟨0x8128, 16, 64, [⟨31, 0, .rw, 0⟩]⟩,
    ⟨0x812c, 16, 64, [⟨31, 0, .rw, 0⟩]⟩,
    ⟨0x8130, 16, 64, [⟨31, 0, .rw, 0⟩]⟩,
    ⟨0x8134, 16, 64, [⟨31, 0, .rw, 0⟩]⟩,
    ⟨0x8138, 16, 64, [⟨31, 0, .rw, 1065353216⟩]⟩,
    ⟨0x813c, 16, 64, [⟨31, 0, .rw, 1065353216⟩]⟩,
    ⟨0x8800, 64, 8, [⟨31, 31, .rw, 0⟩, ⟨30, 0, .rw, 0⟩]⟩,
    ⟨0x8804, 64, 8, [⟨31, 0, .rw, 0⟩]⟩ ]

/-- Every row of the Update Engine window. -/
def updRows : List RegRow := updRows0 ++ updRows1

/-- Rows of the field window, part 1 (R186). -/
def fldRows : List RegRow :=
  [ ⟨0x0, 1, 4, [⟨23, 20, .ro, 0⟩, ⟨19, 17, .ro, 0⟩, ⟨16, 16, .ro, 0⟩, ⟨15, 15, .ro, 0⟩, ⟨14, 14, .ro, 0⟩, ⟨13, 13, .ro, 0⟩, ⟨12, 12, .ro, 0⟩, ⟨11, 11, .ro, 0⟩, ⟨4, 0, .ro, 0⟩]⟩,
    ⟨0x4, 1, 4, [⟨0, 0, .wo, 0⟩]⟩,
    ⟨0x8, 1, 4, [⟨17, 0, .ro, 0⟩]⟩,
    ⟨0xc, 1, 4, [⟨31, 16, .ro, 0⟩, ⟨15, 0, .ro, 0⟩]⟩,
    ⟨0x10, 1, 4, [⟨31, 16, .ro, 0⟩, ⟨15, 0, .ro, 0⟩]⟩,
    ⟨0x14, 1, 4, [⟨7, 4, .rw, 15⟩, ⟨3, 0, .ro, 15⟩]⟩,
    ⟨0x18, 1, 4, [⟨31, 0, .ro, 0⟩]⟩,
    ⟨0x1c, 1, 4, [⟨31, 16, .ro, 0⟩, ⟨15, 0, .ro, 0⟩]⟩,
    ⟨0x20, 1, 4, [⟨31, 0, .ro, 0⟩]⟩,
    ⟨0x24, 1, 4, [⟨31, 0, .ro, 0⟩]⟩,
    ⟨0x28, 1, 4, [⟨31, 0, .ro, 0⟩]⟩,
    ⟨0x2c, 1, 4, [⟨31, 31, .w1c, 0⟩, ⟨30, 30, .ro, 0⟩, ⟨23, 18, .ro, 0⟩, ⟨17, 12, .ro, 0⟩, ⟨7, 0, .ro, 0⟩]⟩,
    ⟨0x30, 1, 4, [⟨24, 16, .ro, 256⟩, ⟨15, 0, .ro, 0⟩]⟩,
    ⟨0x34, 1, 4, [⟨31, 31, .w1c, 0⟩, ⟨25, 22, .ro, 0⟩, ⟨21, 18, .ro, 0⟩, ⟨17, 0, .ro, 0⟩]⟩ ]

/-- Rows of the per-field mesh window, part 1 (R218). -/
def fmshRows : List RegRow :=
  [ ⟨0x1000, 1, 4, [⟨12, 8, .ro, 0⟩, ⟨3, 0, .ro, 0⟩]⟩,
    ⟨0x1004, 1, 4, [⟨0, 0, .wo, 0⟩]⟩,
    ⟨0x1008, 1, 4, [⟨31, 16, .ro, 0⟩, ⟨15, 0, .ro, 0⟩]⟩,
    ⟨0x100c, 1, 4, [⟨31, 31, .w1c, 0⟩, ⟨30, 30, .ro, 0⟩, ⟨29, 27, .ro, 0⟩, ⟨26, 24, .ro, 0⟩, ⟨6, 0, .ro, 0⟩]⟩,
    ⟨0x1010, 1, 4, [⟨31, 24, .ro, 0⟩, ⟨23, 16, .ro, 0⟩, ⟨15, 8, .ro, 0⟩, ⟨7, 0, .ro, 0⟩]⟩,
    ⟨0x1014, 1, 4, [⟨31, 16, .ro, 0⟩, ⟨15, 0, .ro, 0⟩]⟩,
    ⟨0x1018, 1, 4, [⟨31, 16, .ro, 0⟩, ⟨15, 0, .ro, 0⟩]⟩,
    ⟨0x101c, 1, 4, [⟨31, 31, .w1c, 0⟩, ⟨30, 26, .ro, 0⟩, ⟨25, 13, .ro, 0⟩, ⟨12, 0, .ro, 0⟩]⟩,
    ⟨0x1020, 1, 4, [⟨15, 9, .rw, 0⟩, ⟨8, 6, .rw, 0⟩, ⟨1, 1, .rw, 0⟩, ⟨0, 0, .w1s, 0⟩]⟩ ]

/-- Rows of the per-field Tier N and movers window, part 1 (R254). -/
def fvltRows : List RegRow :=
  [ ⟨0x2000, 1, 4, [⟨3, 3, .ro, 0⟩, ⟨2, 2, .ro, 0⟩, ⟨1, 1, .ro, 0⟩, ⟨0, 0, .ro, 0⟩]⟩,
    ⟨0x2004, 1, 4, [⟨1, 1, .w1s, 0⟩, ⟨0, 0, .wo, 0⟩]⟩,
    ⟨0x2008, 1, 4, [⟨31, 16, .ro, 0⟩, ⟨15, 0, .ro, 0⟩]⟩,
    ⟨0x200c, 1, 4, [⟨31, 31, .w1c, 0⟩, ⟨30, 30, .ro, 0⟩, ⟨29, 26, .ro, 0⟩, ⟨25, 0, .ro, 0⟩]⟩,
    ⟨0x2010, 1, 4, [⟨31, 21, .ro, 0⟩, ⟨15, 0, .ro, 0⟩]⟩,
    ⟨0x2014, 1, 4, [⟨31, 31, .w1c, 0⟩, ⟨30, 28, .ro, 0⟩, ⟨27, 23, .ro, 0⟩, ⟨22, 11, .ro, 0⟩, ⟨10, 5, .ro, 0⟩]⟩,
    ⟨0x2100, 32, 4, [⟨24, 24, .ro, 0⟩, ⟨22, 16, .ro, 1⟩, ⟨9, 0, .ro, 16⟩]⟩,
    ⟨0x2180, 32, 4, [⟨31, 22, .ro, 0⟩, ⟨21, 15, .ro, 0⟩, ⟨14, 0, .ro, 0⟩]⟩ ]

/-- Rows of the cell window, part 1 (R125). -/
def celRows : List RegRow :=
  [ ⟨0x0, 1, 4, [⟨15, 10, .ro, 0⟩, ⟨9, 8, .ro, 0⟩, ⟨7, 7, .ro, 0⟩, ⟨6, 6, .ro, 0⟩, ⟨5, 5, .ro, 0⟩, ⟨4, 4, .ro, 0⟩, ⟨3, 0, .ro, 0⟩]⟩,
    ⟨0x4, 1, 4, [⟨3, 3, .wo, 0⟩, ⟨2, 2, .wo, 0⟩, ⟨1, 1, .wo, 0⟩]⟩,
    ⟨0x8, 1, 4, [⟨31, 31, .w1c, 0⟩, ⟨30, 29, .ro, 0⟩, ⟨28, 27, .ro, 0⟩, ⟨26, 25, .ro, 0⟩, ⟨22, 17, .ro, 0⟩, ⟨16, 15, .ro, 0⟩, ⟨14, 0, .ro, 0⟩]⟩,
    ⟨0xc, 1, 4, [⟨15, 0, .ro, 0⟩]⟩,
    ⟨0x10, 1, 4, [⟨31, 24, .ro, 0⟩, ⟨23, 16, .ro, 0⟩, ⟨15, 8, .ro, 0⟩, ⟨6, 0, .ro, 0⟩]⟩,
    ⟨0x14, 1, 4, [⟨31, 31, .w1c, 0⟩, ⟨23, 0, .ro, 0⟩]⟩,
    ⟨0x18, 1, 4, [⟨31, 31, .w1c, 0⟩, ⟨30, 29, .ro, 0⟩, ⟨28, 27, .ro, 0⟩, ⟨15, 0, .ro, 0⟩]⟩,
    ⟨0x1c, 1, 4, [⟨31, 24, .ro, 0⟩, ⟨23, 16, .ro, 0⟩, ⟨15, 8, .ro, 0⟩]⟩,
    ⟨0x20, 1, 4, [⟨31, 0, .ro, 0⟩]⟩,
    ⟨0x24, 1, 4, [⟨31, 31, .w1c, 0⟩, ⟨15, 0, .ro, 0⟩]⟩,
    ⟨0x28, 1, 4, [⟨3, 2, .rw, 0⟩, ⟨1, 1, .w1s, 0⟩, ⟨0, 0, .w1s, 0⟩]⟩,
    ⟨0x2c, 1, 4, [⟨31, 0, .rw, 0⟩]⟩,
    ⟨0x30, 1, 4, [⟨31, 0, .ro, 0⟩]⟩ ]

/-- The row covers local offset `o`. -/
def RegRow.covers (r : RegRow) (o : Nat) : Bool :=
  decide (r.off ≤ o) && (o - r.off) % r.stride == 0 && decide ((o - r.off) / r.stride < r.count)

/-- The row of a window's table that a local offset names. -/
def rowAt (rows : List RegRow) (o : Nat) : Option RegRow := rows.find? (fun r => r.covers o)

/-- The windows of BAR0 (Tables 18.1 and 18.2). -/
inductive Win where
  | chitin | queue (e q : Nat) | power | time | faults | partitions | mesh
  | port (n : Nat) | eru (n : Nat) | vault (v : Nat) | upd (v : Nat)
  | field (f : Nat) | fieldMesh (f : Nat) | fieldTier (f : Nat) | cell (f c : Nat)
  | msix | unassigned
  deriving DecidableEq, Repr

/-- Which window an offset lies in, and the offset inside it (18_address_map, "Decoding an offset"; R535, R536). -/
def winOf (off : Nat) : Win × Nat :=
  if off < 0x8000 then (.chitin, off)
  else if off < 0x10000 then (.queue 0 ((off - 0x8000) / 0x1000), off % 0x1000)
  else if off < 0x20000 then (.power, off - 0x10000)
  else if off < 0x30000 then (.time, off - 0x20000)
  else if off < 0x40000 then (.faults, off - 0x30000)
  else if off < 0x50000 then (.partitions, off - 0x40000)
  else if off < 0x60000 then (.mesh, off - 0x50000)
  else if off < 0x100000 then (.unassigned, off)
  else if off < 0x140000 then (.port ((off - 0x100000) / 0x1000), off % 0x1000)
  else if off < 0x180000 then (.eru ((off - 0x140000) / 0x1000), off % 0x1000)
  else if off < 0x200000 then (.unassigned, off)
  else if off < 0x2c0000 then
    let v := (off - 0x200000) / 0x10000
    if off % 0x10000 < 0x8000 then (.vault v, off % 0x10000) else (.upd v, off % 0x10000)
  else if off < 0x800000 then (.unassigned, off)
  else if off < 0xd80000 then
    let f := (off - 0x800000) / 0x10000
    let r := off % 0x10000
    if r < 0x1000 then (.field f, r)
    else if r < 0x2000 then (.fieldMesh f, r)
    else if r < 0x3000 then (.fieldTier f, r)
    else if 0x8000 ≤ r ∧ r < 0xc800 then (.cell f ((r - 0x8000) / 0x100), r % 0x100)
    else (.unassigned, off)
  else if 0x1100000 ≤ off ∧ off < 0x1120000 then (.msix, off % 0x2000)
  else if 0x1008000 ≤ off ∧ off < 0x1010000 then (.queue 1 ((off - 0x1008000) / 0x1000), off % 0x1000)
  else (.unassigned, off)

/-- The register-table rows of a window. The MSI-X window holds the PF's eight vectors of four words (R370). -/
def Win.rows : Win → List RegRow
  | .chitin => chtRows
  | .queue _ _ => qpRows
  | .power => pwrRows
  | .time => timRows
  | .faults => fltRows
  | .partitions => prtRows
  | .mesh => mshRows
  | .port _ => snlRows
  | .eru _ => eruRows
  | .vault _ => vltRows
  | .upd _ => updRows
  | .field _ => fldRows
  | .fieldMesh _ => fmshRows
  | .fieldTier _ => fvltRows
  | .cell _ _ => celRows
  | .msix => [⟨0, 8, 16, [⟨31, 0, .rw, 0⟩]⟩, ⟨0x4, 8, 16, [⟨31, 0, .rw, 0⟩]⟩, ⟨0x8, 8, 16, [⟨31, 0, .rw, 0⟩]⟩,
    ⟨0xc, 8, 16, [⟨0, 0, .rw, 1⟩]⟩, ⟨0x1000, 2, 4, [⟨31, 0, .ro, 0⟩]⟩]
  | .unassigned => []

/-- The register row an offset names, or none for an unassigned offset (R537). -/
def regRow (off : Nat) : Option RegRow :=
  let w := winOf off
  rowAt w.1.rows w.2

/-- The word a list of fields holds at reset (R16). -/
def fieldsReset : List FieldSpec → BitVec 32
  | [] => 0
  | f :: fs => (BitVec.ofNat 32 f.reset <<< f.lo) ||| fieldsReset fs

/-- The word the register at an offset holds at reset (R16); zero where there is no register. -/
def resetWord (off : Nat) : BitVec 32 :=
  match regRow off with
  | some r => fieldsReset r.fields
  | none => 0

end Sys2Proof.Machine
end

