-- ==== Sys2Proof/Machine/State.lean ====
section
/-!
DEFINITION. Machine/State.lean: everything the module holds, as plain data, and the state right after reset.
Registers live in `State.regs` under their BAR0 offsets and are the one home of what they report (the port states, the
partition states, the program counters, the maps); the structures below hold what the spec gives the module and no
register shows.
-/
namespace Sys2Proof.Machine

/-- Faults that end a run. None: the spec gives every command of this block an effect or names it ignored. -/
inductive Fault where
  /-- Raised by no meaning: kept so that the type is inhabited (safe). -/
  | none
  deriving DecidableEq, Repr

/-- Why a command has no meaning here. -/
inductive Refusal where
  /-- The arm of a command whose meaning has not been written (safe: the run stops). -/
  | notModelled (mnemonic : String)
  deriving DecidableEq, Repr

/-! ### Command protocol (12_command_protocol) -/

/-- A reply kept for duplicates (R377), and what a reply packet carries (Table 12.2). -/
structure Reply where
  /-- The sequence number of its request (R374). -/
  seq : BitVec 32
  /-- The token of its request (R374). -/
  token : BitVec 64
  /-- The status (R380). -/
  status : Nat
  /-- The FET at which the command took effect (R379). -/
  rfet : Fet
  /-- The result bytes (R374). -/
  result : List Byte
  /-- The partition of its request (R374). -/
  part : Nat := 0
  /-- Sent again for a duplicate (R377). -/
  replayed : Bool := false
  deriving DecidableEq, Repr

/-- What an asynchronous command still has to do (R378, R379). -/
inductive Work where
  | partCreate (p : Nat) (fields : Nat) (commitAt : Fet)
  | partDestroy (p : Nat)
  | planLoad (f handle : Nat) (waits : Option Request)
  | planStop (p : Nat)
  | stepCommit (p : Nat) (s : Fet)
  | move (p dir tier unit addr : Nat) (data : List Byte)
  | ckptWrite (p : Nat)
  | ckptRestore (p : Nat) (slot : Nat)
  | migrate (p : Nat) (fields : Nat) (s : Fet)
  | mapUpdate (p : Nat) (a : Fet) (moves : Bool)
  | cfgCommit (p : Nat) (c : Fet)
  | sentinelRun (p : Nat) (fields tiles from_ : Nat)
  | inject (p off : Nat) (due : Fet)
  | domainOn (d : Nat)
  | warm
  | quench (scope : Nat)
  deriving DecidableEq, Repr

/-- An asynchronous request in progress (R378). -/
structure Job where
  /-- Where the request came from (R369). -/
  src : Source
  /-- The partition it names (R374). -/
  part : Nat
  /-- Its sequence number (R377). -/
  seq : BitVec 32
  /-- Its token (R374). -/
  token : BitVec 64
  /-- Its opcode (R375). -/
  opcode : Nat
  /-- What is still to be done (R378). -/
  work : Work
  /-- Its outcome once an event has decided it: status, result, RFET (R379). -/
  fin : Option (Nat × List Byte × Fet) := none
  deriving DecidableEq, Repr

/-- A queue of the management port or of Synael Link (R369), or the part of a PCI Express queue no register shows. -/
structure QueueData where
  /-- The source the queue belongs to (R369). -/
  src : Source
  /-- NEXT, the sequence number the queue expects; a register where the queue is a PCI Express one (R377). -/
  next : BitVec 32 := 0
  /-- The SCP version settled with NEGOTIATE (R386). -/
  ver : Nat := 1
  /-- The replies kept for duplicates, newest last (R377). -/
  replies : List Reply := []
  /-- Sequence numbers past NEXT that Chitin has consumed already (R367, R377). -/
  consumed : List (BitVec 32) := []
  /-- The requests read that wait behind a FENCE, oldest first (R378). -/
  held : List Instr := []
  /-- The FET of the last request, for the expiry of a management queue (R371). -/
  lastFet : Fet := 0
  deriving DecidableEq, Repr

/-- The ring state of a PCI Express queue pair (R370). -/
structure RingData where
  /-- The next completion entry to write (R370). -/
  cqTail : Nat := 0
  /-- The phase bit it is written with (R370). -/
  phase : Bool := true
  /-- Replies that wait for room in the ring, with their opcode and MORE (R370). -/
  waiting : List (Reply × Nat × Bool) := []
  /-- Writes of the completion ring fail (R370). -/
  failing : Bool := false
  deriving DecidableEq, Repr

/-! ### What leaves the module -/

/-- Things the module emits at its boundary, oldest first. The function of a PCI Express source is the requester that a write or
read shows (R355, R370). -/
inductive Output where
  | reply (src : Source) (opcode : Nat) (r : Reply) (sqh : Nat) (phase more : Bool) (packet : List Byte)
  | msix (ep fn vector : Nat)
  | fwRead (addr len : Nat)
  | hostRead (src : Source) (addr len : Nat)
  | hostWrite (src : Source) (addr : Nat) (bytes : List Byte)
  | readData (via : Path) (off : Nat) (value : Nat) (bytes : Nat)
  | rackStatus (status : Nat) (data : List Byte)
  | ara (addr : Nat)
  | datagram (ip : Word) (port : Nat) (bytes : List Byte)
  | proxyReply (ip : Word) (port : Nat) (pre : ProxyPrefix) (packet : List Byte)
  | memberWrite (t : Nat) (off : Nat) (value : Word)
  | memberRead (t : Nat) (off : Nat)
  | memberScp (t : Nat) (packet : List Byte)
  | arpIcmp (icmp : Bool) (addr : Word)
  | snl (port : Nat) (fr : Frame)
  | block (port : Nat) (lanes : List (List Byte))
  | burst (port : Nat)
  | tap (ir : TapIr) (id : Option Word)
  deriving DecidableEq, Repr

/-! ### Partitions (11_partitions, 12_command_protocol) -/

/-- One staged configuration entry (R396). -/
structure StageEntry where
  /-- The register word staged (R396). -/
  target : Nat
  /-- The value staged (R396). -/
  value : Word
  /-- The bits of it that are staged (R396). -/
  mask : Word
  deriving DecidableEq, Repr

/-- A commit accepted and not yet due (R397, R398). -/
structure PendingCommit where
  /-- The FET of the commit (R397). -/
  c : Fet
  /-- The configuration epoch (R398). -/
  epoch : Nat
  /-- The configuration digest (R398). -/
  digest : List Byte
  deriving DecidableEq, Repr

/-- A step that has begun (R390, Table 12.7). -/
structure StepLog where
  /-- Its boundary (R390). -/
  base : Fet
  /-- The step count of the lead field (R390). -/
  count : Nat
  /-- Lanes that were rerun in it (Table 12.7). -/
  lanes : Nat := 0
  /-- The module abstained in it (Table 12.7, R80). -/
  abst : Bool := false
  /-- Its update was skipped (Table 12.7, R284). -/
  skipped : Bool := false
  /-- The groups (Vault, number) that have finished or skipped its update (R390). -/
  groups : List (Nat × Nat) := []
  /-- Its state digest (R276, Table 12.7). -/
  digest : List Byte := []
  /-- It was committed when the sequencers stopped (R390). -/
  done : Bool := false
  /-- A quench or an immediate stop gave it up (R390). -/
  lost : Bool := false
  deriving DecidableEq, Repr

/-- What a partition holds beyond its PRT_ registers. -/
structure PartData where
  /-- The armed step boundaries, rising (R389). -/
  armed : List Fet := []
  /-- The step base: the boundary of the step in progress (R390). -/
  stepBase : Fet := 0
  /-- The last eight steps, oldest first (R390). -/
  steps : List StepLog := []
  /-- The staged configuration entries (R396). -/
  staging : List StageEntry := []
  /-- Staging has begun since the last commit (R396). -/
  staged : Bool := false
  /-- The commit accepted and not yet due (R397). -/
  commit : Option PendingCommit := none
  /-- The digest of the committed configuration (R398). -/
  digest : List Byte := []
  /-- The Tier C key installed (R229, R387). -/
  keyC : Option (List Byte) := none
  /-- The Tier P key installed (R229, R387). -/
  keyP : Option (List Byte) := none
  /-- The link key installed (R298, R387). -/
  keyL : Option (List Byte) := none
  /-- Fields marked failed in the partition (R352). -/
  failed : List Nat := []
  /-- Consecutive steps in which the module abstained (R80). -/
  abstRun : Nat := 0
  /-- It has abstained in the step in progress (R80). -/
  abstNow : Bool := false
  /-- The last state digest formed (R276). -/
  stateDigest : List Byte := []
  /-- Digests received: step, group, bytes (R276). -/
  peerDigest : List (Fet × Nat × List Byte) := []
  /-- The step of the last digest formed (R276). -/
  digestBase : Fet := 0
  /-- The last step whose digests were all received, or noted missing (R276). -/
  digestGot : Fet := 0
  /-- When the last digest was formed (R276). -/
  digestAt : Fet := 0
  /-- An injected error is in that digest (R489, Table 15.9). -/
  digestInj : Bool := false
  /-- The class 2 records that a rerun of this step answers (R477). -/
  rerunRecs : List Nat := []
  /-- The step in progress is rerun (R477). -/
  rerun : Bool := false
  /-- Steps begun, for the windows of recurrence (R478). -/
  stepNo : Nat := 0
  /-- Class 2 records that come after the last bundle and count for the next step (R477). -/
  nextRecs : List Nat := []
  /-- The epoch of an armed checkpoint (R230). -/
  ckptAt : Option Fet := none
  /-- The checkpoint's segments to be saved: Vault, segment (R230). -/
  ckptRegions : List (Nat × Nat) := []
  /-- The slot it is written to (R230). -/
  ckptSlot : Nat := 0
  /-- Consecutive power windows above the budget (R359). -/
  overRun : Nat := 0
  /-- Consecutive power windows below 95 % of it (R359). -/
  under : Nat := 0
  /-- Windows above the budget with every field at OP 0 (R359). -/
  stuck : Nat := 0
  /-- The greatest draw of the module in the step, for the calibration records (R322). -/
  stepPeak : Nat := 0
  /-- The configuration before the last commit, which a peer may still name (R303). -/
  prevCfg : Option PendingCommit := none
  deriving DecidableEq, Repr

/-! ### Faults (15_faults_and_silent_errors) -/

/-- A fault record (Table 15.3). -/
structure FaultRec where
  /-- Its index (R462, Table 15.3). -/
  index : Nat
  /-- Its class (R457, Table 15.3). -/
  cls : Nat
  /-- What happened: code, partition, unit, address, detail (Table 15.3). -/
  ev : FaultEvent
  /-- When it was recorded (Table 15.3). -/
  fet : Fet
  /-- FIRST: the first record of its collector (R461, Table 15.3). -/
  first : Bool := false
  /-- PERMANENT (R478, Table 15.3). -/
  permanent : Bool := false
  /-- TRANSIENT: the unit passed its check again (R478, Table 15.3). -/
  transient : Bool := false
  /-- CLEARED (R466, Table 15.3). -/
  cleared : Bool := false
  /-- The temperature at the unit (Table 15.3). -/
  temp : Nat := 0
  /-- The rail voltage at the unit (Table 15.3). -/
  volt : Nat := 0
  /-- Events that coalesced with it (R462, Table 15.3). -/
  repeats : Nat := 0
  deriving DecidableEq, Repr

/-- The class 1 events of one unit (R458). -/
structure CorrCount where
  /-- Collector, unit type, instance (R458). -/
  unit : Nat × Nat × Nat
  /-- When its events came, as far back as the last hour and the limit need them (R458). -/
  times : List Fet
  /-- When its last note was raised (R458). -/
  notedAt : Option Fet
  deriving DecidableEq, Repr

/-- A class 2 fault of an earlier step, for the windows of Table 15.7. -/
structure Recurrence where
  /-- The partition (R478). -/
  part : Nat
  /-- The partition's step number then (R478). -/
  step : Nat
  /-- The fault code (Table 15.7). -/
  code : Nat
  /-- The field (Table 15.7). -/
  field : Nat
  /-- The cell or domain (Table 15.7). -/
  inst : Nat
  /-- The unit (Table 15.7). -/
  unit : Nat
  /-- The tag or address (Table 15.7). -/
  tag : Nat
  /-- The slot (Table 15.7). -/
  slot : Nat
  deriving DecidableEq, Repr

/-- The fault log, Chitin's fault-log store and the counters no register shows (R462). -/
structure LogState where
  /-- The fault log, by rising index (R462). -/
  recs : List FaultRec := []
  /-- The records in Chitin's fault-log store (R462, R41). -/
  chitin : List FaultRec := []
  /-- The store has been committed to flash (R427, R462). -/
  committed : Bool := false
  /-- Class 1 events by unit (R458). -/
  corr : List CorrCount := []
  /-- The log has overflowed since it was last empty (R462). -/
  overflowed : Bool := false
  /-- Class 2 faults of earlier steps (R478). -/
  history : List Recurrence := []
  /-- Records of the store whose check bits were inverted by an injection (R489, Table 15.9). -/
  storeBad : List Nat := []
  /-- Records of each class (Table 12.10). -/
  clsCounts : AMap Nat := []
  /-- Fault events so far, for the Firefly frames (R300, Table 09.6). -/
  events : Nat := 0
  /-- The number of the last event of each class (Table 09.6). -/
  lastOf : AMap Nat := []
  /-- Notices seen: kind, origin, index (R471). -/
  seenNotices : List (Nat × Nat × Nat) := []
  /-- GENs announced: partition, GEN, from which FET (R471, R487). -/
  genPending : List (Nat × Nat × Fet) := []
  deriving DecidableEq, Repr

/-- A FAULT_INJECT write armed for an FET (R393). -/
structure ArmedInject where
  /-- The partition of its command (R393). -/
  part : Nat
  /-- The register it writes (R393). -/
  off : Nat
  /-- The value it writes (R393). -/
  value : Word
  /-- When it is written (R393). -/
  due : Fet
  deriving DecidableEq, Repr

/-! ### Time (02_fabric_time) -/

/-- What the Cicada engine of a port keeps (R67, R68). -/
structure CicadaPort where
  /-- Good frames in a row (R67, Table 02.1). -/
  good : Nat := 0
  /-- The sequence number of the next frame sent (R67). -/
  seq : Nat := 0
  /-- Frames sent: sequence number, instant at the pin in ps (R67, R68). -/
  tx : List (Nat × Nat) := []
  /-- The sequence number of the last good frame (R67). -/
  rxSeq : Nat := 0
  /-- When it came, in ps (R67, R68). -/
  rxFetPs : Nat := 0
  /-- Neighbour samples in a row outside the limit (R68). -/
  nbrRun : Nat := 0
  /-- The partner's EST_ERR, 65,535 until known (R67, R69). -/
  peerEst : Nat := 65535
  /-- The last offset of an accepted sample, ps (R67). -/
  offPs : Int := 0
  /-- A good frame came in the port's current period (R67). -/
  got : Bool := false
  /-- The grandmaster coordinate the partner names (R67, R70). -/
  gm : Nat := 0
  /-- Qualified since, until a loss of Table 02.1 (R55, R65). -/
  qualSince : Option Fet := none
  /-- A good frame has come since the link came up or was lost (Table 02.1). -/
  heard : Bool := false
  /-- When the partner's STEPS last changed (R65). -/
  stepsAt : Fet := 0
  deriving DecidableEq, Repr

/-- The disciplining loop beyond its registers (R55-R66). Offsets are FET minus reference, in ps. -/
structure TimeState where
  /-- The ACQUIRE in progress was entered from FREE (R61). -/
  fromFree : Bool := false
  /-- Samples in a row within the lock limit (R61). -/
  goodRun : Nat := 0
  /-- The offset still to be slewed off (R61, R437). -/
  residualPs : Int := 0
  /-- The last offset by reference code, FET minus reference, ps (R62). -/
  offsets : AMap Int := []
  /-- References tried provisionally: code, port (0 for codes 3 and 4), since when (R61). -/
  provisional : List (Nat × Nat × Fet) := []
  /-- Codes 3 and 4 qualified since when (R55, R65). -/
  qualSince : List (Nat × Fet) := []
  /-- The last PPS edge, ps (R58). -/
  ppsLastPs : Option Nat := none
  /-- PPS edges in a row within their limit (R58, Table 02.1). -/
  ppsRun : Nat := 0
  /-- The grandmaster followed (R57). -/
  ptpGm : Option Nat := none
  /-- Its offsets, newest first (R57, R62). -/
  ptpOffsets : List Int := []
  /-- The logarithm of its Announce interval (R57). -/
  ptpLog : Int := 0
  /-- When its last Announce came (R57, Table 02.1). -/
  ptpAnnounceAt : Fet := 0
  /-- When its last exchange came (R57, Table 02.1). -/
  ptpSyncAt : Fet := 0
  /-- The time between its last two exchanges (Table 02.1). -/
  ptpSyncSpacing : Nat := 0
  /-- When the switch in progress ends (R63). -/
  switchEnd : Fet := 0
  /-- When the last switch began (R63). -/
  switchAt : Fet := 0
  /-- The offset that it removes, ps (R63). -/
  switchOff : Int := 0
  /-- When HOLDOVER or FREE began (R64, R66). -/
  holdSince : Fet := 0
  /-- EST_ERR then (R66). -/
  holdBase : Nat := 0
  /-- LOCKED without a break since (R64). -/
  learnSince : Option Fet := none
  /-- The UTC offset known (R57, R67). -/
  utcOffset : Nat := 0
  deriving DecidableEq, Repr

/-! ### Bring-up, flash and pins (14_bring_up, 17_connector_and_pins) -/

/-- A firmware bank (R439). -/
structure FwBank where
  /-- The bank holds a bundle (R439). -/
  present : Bool := true
  /-- The bundle's version (R439). -/
  version : Nat := 0
  /-- The bundle (R439). -/
  bundle : List Byte := []
  deriving DecidableEq, Repr

/-- Chitin: the running sequence, the contents of its flash, the straps. Flash contents survive every restart (Table 14.5). -/
structure BootState where
  /-- Chitin's rail is up (R432). -/
  powered : Bool := false
  /-- The last step of the bring-up under way, 0 with none (R432). -/
  runTarget : Nat := 0
  /-- ABORT was written (R432). -/
  abort : Bool := false
  /-- The phase of a warm re-initialization, 0 with none (R447). -/
  warmPhase : Nat := 0
  /-- When the rail came up or RST_L was driven low (R433). -/
  holdStart : Fet := 0
  /-- The defect map in flash (R443). -/
  defects : List DefectEntry := []
  /-- A purge of the defect map is requested (R444). -/
  purge : Bool := false
  /-- The defect entries that act since the last bring-up (R444). -/
  active : List DefectEntry := []
  /-- Fields out of service with their uncore ON: mapped out or failed (R352, R435). -/
  dead : List Nat := []
  /-- Grid rows, and 16 + grid columns, without express stops (Table 14.3). -/
  noExpress : List Nat := []
  /-- The stored partition 0 configuration: the values that differ from reset, every other being the reset value (R455). -/
  storedCfg : List (Nat × Word) := []
  /-- Its epoch (R455). -/
  storedEpoch : Nat := 0
  /-- Its digest (R455). -/
  storedDigest : List Byte := []
  /-- Firmware bank A (R439). -/
  bankA : FwBank := {}
  /-- Firmware bank B (R439). -/
  bankB : FwBank := {}
  /-- Bank B is the active one (R439). -/
  activeB : Bool := false
  /-- The bank that the next restart takes (R439). -/
  nextActive : Option Bool := none
  /-- The stored manager fields (R455, R496). -/
  flashMgr : List (Nat × Word) := []
  /-- The straps are frozen (R517). -/
  strapsFrozen : Bool := false
  /-- The RWL fields are locked (R12). -/
  rwlLocked : Bool := false
  /-- The committed live set, by port (R315, R454). -/
  live : Nat := 0
  /-- The pins are safe (Table 13.6, R519). -/
  pinSafe : Bool := false
  /-- A power-off waits for the quench ramp (R421). -/
  pwrOffPending : Bool := false
  /-- The main input was lost (R427). -/
  inputLost : Bool := false
  /-- The fault log was lost with the input or the power (R462). -/
  logLost : Bool := false
  /-- The management MAC address from the identity store (R547). -/
  mac : List Byte := []
  deriving DecidableEq, Repr

/-! ### Power (13_power_and_thermal) -/

/-- A wake request in the queue of R413. -/
structure WakeReq where
  /-- The domain (R413). -/
  dom : Nat
  /-- 0 cluster to ON, 1 cluster soft start, 2 uncore soft start, 3 Tier N stack (R412). -/
  kind : Nat
  /-- Its priority (R413). -/
  prio : Nat
  /-- The partition it is charged to (R413). -/
  part : Nat
  /-- When it was requested (R413). -/
  reqAt : Fet
  deriving DecidableEq, Repr

/-- A quench ramp (R421). -/
structure QuenchRamp where
  /-- 0 the module, else the partition (R421). -/
  scope : Nat
  /-- The slew, 10 W/ms (R421). -/
  slew : Nat
  /-- The draw it starts from, 10 mW (R421). -/
  start : Nat := 0
  /-- When it began (R421). -/
  since : Fet := 0
  deriving DecidableEq, Repr

/-- A regulator on its way between two set points (R403). -/
structure Slew where
  /-- The domain (R403). -/
  dom : Nat
  /-- Where it started, 2.5 mV (R403). -/
  start : Nat
  /-- Where it goes, 2.5 mV (R403). -/
  goal : Nat
  /-- When it started (R403). -/
  since : Fet
  deriving DecidableEq, Repr

/-- A domain on its way that no register shows. -/
structure Waking where
  /-- The domain (R409, R411). -/
  dom : Nat
  /-- 0 waits for its retry, 1 its scratchpads are being zeroed, 2 on its way from RETENTION (R409, R411). -/
  kind : Nat
  /-- The deferral of its request (R413). -/
  defer : Nat
  /-- The FET from which it goes on (R409, R411). -/
  at_ : Fet
  deriving DecidableEq, Repr

/-- A change of operating point that the module makes itself (R404, R405). -/
structure OwnOp where
  /-- The field (R404). -/
  field : Nat
  /-- The operating point (R404). -/
  op : Nat
  /-- The FET it is armed for (R404, R405). -/
  at_ : Fet
  deriving DecidableEq, Repr

/-- The power block beyond its registers. -/
structure PowerState where
  /-- The wake requests that wait for tokens (R413). -/
  wakeQ : List WakeReq := []
  /-- The partition served last, by priority (R413). -/
  lastServed : AMap Nat := []
  /-- Domains on their way that no register shows (R409, R411). -/
  entering : List Waking := []
  /-- Regulators on their way (R403). -/
  slews : List Slew := []
  /-- Quench ramps under way (R421). -/
  ramps : List QuenchRamp := []
  /-- The ceiling of the envelope's last breakpoint, 10 W (R415, R416). -/
  targetCeil : Nat := 1750
  /-- Its floor, 10 W (R415, R416). -/
  targetFloor : Nat := 120
  /-- The envelope's ceiling on its way to the target, 10 W (R416). -/
  envCeil : Nat := 1750
  /-- The limit of a low input, 65,535 with none (R400, R416). -/
  uvLimit : Nat := 65535
  /-- The limit of lost converters, 65,535 with none (R402, R416). -/
  convLimit : Nat := 65535
  /-- The limit of a warm inlet, 65,535 with none (R429, R416). -/
  inletLimit : Nat := 65535
  /-- Consecutive windows above the ceiling (R417). -/
  overCeil : Nat := 0
  /-- Consecutive windows below 95 % of it (R417). -/
  underCeil : Nat := 0
  /-- The ceiling that the budgets were scaled to (R360). -/
  budgetAt : Nat := 1750
  /-- The row of Table 13.1 that V_in lies in, 0 full operation (R400). -/
  band : Nat := 0
  /-- Rows left less than 10 ms ago, and when (R400). -/
  bandLeft : List (Nat × Fet) := []
  /-- Draw samples that may still set the hold level (R419). -/
  samples : List (Fet × Nat) := []
  /-- The charge counter Q, 10 µC (R423). -/
  charge : Nat := 0
  /-- The rate of the charger, 10 W (R426). -/
  charger : Nat := 0
  /-- The usable energy over the last 100 ms (R424). -/
  energies : List (Fet × Nat) := []
  /-- V_bank at 47.8 V and below 50 mA since (R425). -/
  fullSince : Option Fet := none
  /-- E_v and E_q more than 200 J apart since (R425). -/
  apartSince : Option Fet := none
  /-- Windows in a row above the throttle temperature, by field (R429). -/
  hotRuns : AMap Nat := []
  /-- Windows in a row below it, by field (R429). -/
  coolRuns : AMap Nat := []
  /-- The last readings of the sensors no register shows (R429). -/
  others : List (Sensor × Nat) := []
  /-- Changes of operating point that the module makes itself (R404, R405). -/
  opOwn : List OwnOp := []
  /-- The limit of R417 by field, 10 where there is none (R417). -/
  ceilOps : AMap Nat := []
  /-- The deferral of the wake of a domain (R413). -/
  defers : AMap Nat := []
  /-- The priority of the wake that follows a soft start (R413). -/
  prios : AMap Nat := []
  /-- Fields whose Tier N stack is in self-refresh (R421, R422). -/
  tierSelfRefresh : List Nat := []
  /-- The Vaults and Tier C are in self-refresh (R422). -/
  vaultRefresh : Bool := false
  /-- Fields whose Tier N stack has power (R412, R434). -/
  poweredStacks : List Nat := []
  /-- The load-emulation pattern runs (R319, R436). -/
  emulating : Bool := false
  /-- What it has reached, 10 W (R319, R436). -/
  emulDraw : Nat := 0
  /-- When the first plan was started, for the margin monitors (R323). -/
  firstPlan : Option Fet := none
  deriving DecidableEq, Repr

/-! ### The manager role and the rack bus (16_manager_role, 17_connector_and_pins) -/

/-- A proxy reply kept for repeats (R500). -/
structure ProxyKept where
  /-- The sender's address (R500). -/
  ip : Word
  /-- The sender's port (R500). -/
  port : Nat
  /-- The prefix it went out with: TARGET is the position that replied (Table 16.3). -/
  pre : ProxyPrefix
  /-- The opcode of its request (R374). -/
  opcode : Nat
  /-- More packets of the result follow (R376). -/
  more : Bool := false
  /-- The reply, with the SEQ and TOKEN of the sender (R500). -/
  reply : Reply
  deriving DecidableEq, Repr

/-- The manager duties beyond their registers. -/
structure MgrState where
  /-- The phase of the drive, 0 with none (R496). -/
  phase : Nat := 0
  /-- ABORT is pending (R496). -/
  abort : Bool := false
  /-- The sequence number of the queue toward each member (R377, R496). -/
  seqs : AMap Nat := []
  /-- Polls missed in a row, by member (R503). -/
  misses : AMap Nat := []
  /-- When each member last answered (R503). -/
  healthAt : AMap Fet := []
  /-- No poll of the members begins before this FET (R503). -/
  pollDue : Fet := 0
  /-- When the next Firefly of the manager followed counts as missed; none before one was received or missed (R504). -/
  missDue : Option Fet := none
  /-- Proxy replies kept (R500). -/
  proxyReplies : List ProxyKept := []
  /-- The commit of the ring has been sent (R498, R502). -/
  commitSent : Bool := false
  /-- The members that the drive still drives (R497). -/
  driven : List Nat := []
  /-- The coordinate of the manager taken over from (R504). -/
  strapped : Nat := 0
  deriving DecidableEq, Repr

/-- The rack-bus interface and the TAP. -/
structure BusState where
  /-- The status of the last write (R529). -/
  lastStatus : Nat := 0
  /-- The instruction register of the TAP (R532). -/
  tapIr : TapIr := .idcode
  /-- Boundary scan drives the pins (R532). -/
  tapDriving : Bool := false
  deriving DecidableEq, Repr
/-! ### Cells (03_cell, 05_cycle_plans) -/

/-- A request at a shared scratchpad port (R113). -/
structure PortReq where
  /-- 0 datapath, 1 router, 2 mover (R113). -/
  cls : Nat
  /-- The slot, packet or mover access it belongs to (R113). -/
  owner : Nat
  /-- The access address (R109). -/
  addr : Nat
  /-- The words written (R109). -/
  data : List PWord := []
  /-- How many bits of them are stored (R110). -/
  bits : Nat := 2048
  /-- It keeps the words and inverts their parity (R171). -/
  mark : Bool := false
  /-- Its commit is an arrival of this tag (R102). -/
  tag : Option Nat := none
  /-- The cycle it was made in (R113). -/
  since : Nat := 0
  /-- The micro-batch lane, for its errors (R120). -/
  lane : Nat := 0
  /-- A column access (R109). -/
  col : Bool := false
  /-- The tier and address that its data came from (R121). -/
  src : Option (Nat × Nat) := none
  /-- The element width of a result (R110). -/
  width : Nat := 32
  deriving DecidableEq, Repr

/-- A row of the accumulator store (R88). -/
structure AccRow where
  /-- Its 128 binary32 values (R88). -/
  v : List Word
  /-- It is poisoned (R119). -/
  bad : Bool := false
  deriving DecidableEq, Repr

/-- A slot of one repetition of a bundle, with its template and effective addresses (R158-R160). -/
structure Slot where
  /-- Its place among the cell's slots, in plan order (R158, R165). -/
  seq : Nat
  /-- Its bundle (R158). -/
  bundle : Nat
  /-- Its cluster number in the bundle (R158). -/
  cluster : Nat
  /-- Its repetition (R164). -/
  rep : Nat
  /-- Its micro-batch lane (R176). -/
  lane : Nat
  /-- The lanes it runs for (R176). -/
  laneMask : Nat
  /-- Its template (R160). -/
  tmpl : Nat
  /-- The first effective address (R159). -/
  a0 : Nat
  /-- The second effective address (R159). -/
  a1 : Nat
  /-- The immediate (R158). -/
  imm : Nat
  /-- The bundle's span in cycles (R164). -/
  span : Nat
  deriving DecidableEq, Repr

/-- A guarded slot parked in the firing unit (R84, R104). -/
structure Parked where
  /-- The slot (R84, R104). -/
  slot : Slot
  /-- The tag it waits on (R104). -/
  tag : Nat
  /-- The count it waits for (R104). -/
  need : Nat
  /-- The cycle it was armed in (R104). -/
  armed : Nat
  /-- Its window in cycles (R104, R105). -/
  window : Nat
  /-- 0 waiting, 1 fired, 2 expired (R104, R105). -/
  phase : Nat := 0
  deriving DecidableEq, Repr

/-- A slot that holds its units (R84, R165). -/
structure Running where
  /-- The slot (R84). -/
  slot : Slot
  /-- It came through the firing unit (R84). -/
  guarded : Bool
  /-- The poison marking of an expired slot (R171). -/
  marking : Bool := false
  /-- Port A micro-operations issued (R84). -/
  nA : Nat := 0
  /-- Port B micro-operations issued (R84). -/
  nB : Nat := 0
  /-- Unit micro-operations issued (R84). -/
  nU : Nat := 0
  /-- Write-port micro-operations issued (R84). -/
  nW : Nat := 0
  /-- Accesses that port A delivered (R84). -/
  inA : List (List PWord) := []
  /-- Accesses that port B delivered (R84). -/
  inB : List (List PWord) := []
  /-- Its writes have been formed (R84). -/
  formed : Bool := false
  /-- The writes it has formed and not issued (R84). -/
  out : List PortReq := []
  /-- Accumulator rows that a DRAIN has read (R98). -/
  rows : Nat := 0
  /-- Result codes, with their poison (R119, Table 05.7). -/
  res : List (Nat × Bool) := []
  /-- Block scales, with their poison (R139). -/
  scl : List (Nat × Bool) := []
  /-- Error terms of a quantization, with their poison (Table 05.7). -/
  res2 : List (Nat × Bool) := []
  /-- Rows of a sparse pass whose residue failed (R122). -/
  badRows : List Nat := []
  /-- The packet of a SEND (R191). -/
  pkt : Nat := 0
  /-- One more than the cycle of its last micro-operation (R161). -/
  last : Nat := 0
  deriving DecidableEq, Repr

/-- A tag-table entry's count (R103); its guards are the parked slots that wait on the tag. -/
structure TagEntry where
  /-- The tag (R103). -/
  tag : Nat
  /-- Its arrivals (R103). -/
  count : Nat
  deriving DecidableEq, Repr

/-- A broadcast bundle in a cell's queue (R163). -/
structure QEntry where
  /-- The bundle's index (R163). -/
  bundle : Nat
  /-- Its 512 bits (R163). -/
  word : Nat
  /-- The loop counters (R160, R174). -/
  iters : List Nat
  /-- The cycle it reaches the queue (R163). -/
  ready : Nat := 0
  /-- The index of a SENTINEL bundle (R178). -/
  sent : Nat := 0
  deriving DecidableEq, Repr

/-- The repetition a cell is in (R164). -/
structure Rep where
  /-- The bundle (R164). -/
  entry : QEntry
  /-- The repetition's number (R164). -/
  i : Nat
  /-- The cycle it began in (R164). -/
  began : Nat
  /-- Its span in cycles (R164). -/
  span : Nat
  /-- Its unguarded slot while that runs (R164). -/
  slot : Option Nat := none
  deriving DecidableEq, Repr

/-- A word as it stood before the write of a cycle (R112). -/
structure OldWord where
  /-- The word address (R112). -/
  k : Nat
  /-- The word (R112). -/
  w : Word
  /-- Half-words with inverted parity (R118). -/
  fail : Nat
  /-- An injected upset is in it (R122). -/
  inj : Bool
  deriving DecidableEq, Repr

/-- A cell. -/
structure CellState where
  /-- Scratchpad words (R108). -/
  sp : AMap Word := []
  /-- Half-words with inverted parity, by word (R118). -/
  spBad : AMap Nat := []
  /-- Words with an injected upset (R122). -/
  spInj : List Nat := []
  /-- The active weight buffer (R87). -/
  active : List (List PWord) := []
  /-- The shadow weight buffer (R87). -/
  shadow : List (List PWord) := []
  /-- The accumulator rows (R88). -/
  acc : AMap AccRow := []
  /-- Staging buffer 0 of the sparse unit (R93). -/
  stage0 : List (List PWord) := []
  /-- Staging buffer 1 of the sparse unit (R93). -/
  stage1 : List (List PWord) := []
  /-- The vector registers (R97). -/
  vregs : AMap (List PWord) := []
  /-- The bundle queue (R163). -/
  queue : List QEntry := []
  /-- The repetition the cell is in (R164). -/
  rep : Option Rep := none
  /-- The number of the next slot (R165). -/
  next : Nat := 0
  /-- The guarded slots in the firing unit (R84, R104). -/
  parked : List Parked := []
  /-- The tag table (R103). -/
  tags : List TagEntry := []
  /-- The slots that hold units (R84). -/
  running : List Running := []
  /-- Requests at the shared read port (R113). -/
  portB : List PortReq := []
  /-- Requests at the write port (R113). -/
  wport : List PortReq := []
  /-- Arrivals not yet recorded: tag, cycle (R102). -/
  arrivals : List (Nat × Nat) := []
  /-- Mover accesses whose commit is not yet reported (R242). -/
  acks : List Nat := []
  /-- One more than the cycle of the last arrival (R102). -/
  lastArrival : Nat := 0
  /-- One more than the cycle of the last grant at the read port (R113). -/
  grantB : Nat := 0
  /-- One more than the cycle of the last grant at the write port (R113). -/
  grantW : Nat := 0
  /-- One more than the cycle of the last counted stall (R85). -/
  stallAt : Nat := 0
  /-- One more than the cycle of the last counted hold (R165). -/
  holdAt : Nat := 0
  /-- The cycle from which an accumulator row can be read (R90). -/
  accAt : AMap Nat := []
  /-- The words as they stood before the last granted write (R112). -/
  wrote : List OldWord := []
  /-- That write was the datapath's (R85). -/
  wroteOwn : Bool := false
  /-- The scratchpad at the step boundary (R121, R477). -/
  spBase : AMap Word := []
  /-- The tier and byte address that a word was loaded from (R121). -/
  spSrc : AMap (Option (Nat × Nat)) := []
  /-- The slot index of the last sentinel tile, and whether it has been compared (R179). -/
  tile : Option (Nat × Bool) := none
  /-- The index of a reserve's next tile (R181). -/
  sentIdx : Nat := 0
  /-- When the last tile began (R181). -/
  sentAt : Fet := 0
  /-- When the last tile that matched began (R483). -/
  lastGood : Fet := 0
  /-- Tiles of the SENTINEL_RUN in progress that it has begun (R393). -/
  runTiles : Nat := 0
  deriving DecidableEq, Repr

/-! ### The mesh (06_wafer_mesh) -/

/-- One hop of a route (R194, R195). -/
structure Hop where
  /-- The router entered, global X (R194). -/
  x : Nat
  /-- The router entered, global Y (R194). -/
  y : Nat
  /-- 0 a mesh leg, 1 an express channel, 2 the local port of an express stop (R193, R195). -/
  via : Nat := 0
  /-- The phase of the header after it (R197). -/
  phase : Nat := 0
  deriving DecidableEq, Repr

/-- An input buffer of a router (R188). -/
structure MeshBuf where
  /-- The router, global X (R188). -/
  x : Nat
  /-- The router, global Y (R188). -/
  y : Nat
  /-- Its input, coded as MSH_ECC_ERR.PORT (R188, R215). -/
  port : Nat
  /-- The express channel and direction there (R195). -/
  chan : Nat := 0
  /-- The virtual channel (R188). -/
  vc : Nat
  deriving DecidableEq, Repr

/-- A packet (Table 06.1). -/
structure Packet where
  /-- The model's own number of the packet (R203). -/
  id : Nat
  /-- CLASS: 0 control, 1 data (Table 06.1). -/
  cls : Nat := 1
  /-- PRIO (Table 06.1). -/
  prio : Nat := 2
  /-- PART (Table 06.1). -/
  part : Nat := 0
  /-- GEN (Table 06.1, R213). -/
  gen : Nat := 0
  /-- PHASE (Table 06.1, R197). -/
  phase : Nat := 0
  /-- ORDER (Table 06.1, R194). -/
  order : Nat := 0
  /-- EXP (Table 06.1, R195). -/
  exp : Nat := 0
  /-- DST (Table 06.1). -/
  dst : Nat := 0
  /-- SRC (Table 06.1). -/
  src : Nat := 0
  /-- SRC_PHYS (Table 06.1). -/
  srcPhys : Nat := 0
  /-- TAG (Table 06.1). -/
  tag : Nat := 0
  /-- ADDR (Table 06.1). -/
  addr : Nat := 0
  /-- Its accesses that have come from the scratchpad (R203). -/
  data : List (List PWord) := []
  /-- How many accesses it has (Table 06.1). -/
  len : Nat := 0
  /-- 1 a BUSY (R208). -/
  ctl : Nat := 0
  /-- The payload of a control packet (R208). -/
  body : List Byte := []
  /-- The address of its first access at the sender, for a resend (R208). -/
  src0 : Nat := 0
  /-- Where it goes, global X (R194). -/
  dstX : Nat := 0
  /-- Where it goes, global Y (R194). -/
  dstY : Nat := 0
  /-- The router its head is at, global X (R188). -/
  x : Nat := 0
  /-- The router its head is at, global Y (R188). -/
  y : Nat := 0
  /-- The input that holds its head (R188). -/
  inPort : Nat := 4
  /-- The express channel of that input (R195). -/
  inChan : Nat := 0
  /-- The input buffers behind its head that its flits still pass, newest first (R189). -/
  trail : List MeshBuf := []
  /-- The flits in the head's buffer and in each of those (R188, R189). -/
  flits : List Nat := []
  /-- Its head has left the mesh or was dropped, and its later flits follow it off (R189). -/
  eject : Bool := false
  /-- Accesses whose flits were found uncorrectable (R215). -/
  poisoned : List Nat := []
  /-- The hops still before it (R194, R197). -/
  route : List Hop := []
  /-- How often it was refused (R208). -/
  refusals : Nat := 0
  /-- Its head has entered the mesh (R203). -/
  injected : Bool := false
  /-- It carries a frame that came by a link (R299). -/
  fromLink : Bool := false
  deriving DecidableEq, Repr

/-- A retry record (R204, R208). -/
structure RetryRec where
  /-- The packet, without its data (R204). -/
  pkt : Packet
  /-- How many accesses it has (R208). -/
  len : Nat
  /-- Refusals so far (R208). -/
  refusals : Nat := 0
  /-- The backoff (R208). -/
  backoff : Nat := 0
  /-- A resend is due (R208). -/
  waiting : Bool := false
  /-- When its period, or its backoff, began (R204, R208). -/
  at_ : Fet := 0
  deriving DecidableEq, Repr

/-- What a resend still reads again from the scratchpad (R208). -/
structure Reread where
  /-- The packet (R208). -/
  id : Nat
  /-- The next access (R208). -/
  addr : Nat
  /-- Accesses left (R208). -/
  left : Nat
  deriving DecidableEq, Repr

/-- A network interface. -/
structure NiState where
  /-- Packets that wait to be injected (R203). -/
  out : List Packet := []
  /-- Retry records (R204). -/
  retry : List RetryRec := []
  /-- Packets that hold a receive context, and how many of their accesses are committed (R206). -/
  ctx : List (Packet × Nat) := []
  /-- The accesses that resends read again (R208). -/
  rereads : List Reread := []
  /-- BUSY packets that came too late (R208). -/
  lateBusy : Nat := 0
  deriving DecidableEq, Repr

/-- The shadow copy that MAP_UPDATE wrote (R211, R212). -/
structure MapShadow where
  /-- The activation FET (R212). -/
  at_ : Fet := 0
  /-- The partition of the command (R212). -/
  part : Nat := 0
  /-- New positions of logical cells (R211). -/
  l2p : List (Nat × Nat) := []
  /-- Passable fields (R211). -/
  fieldOk : List (Nat × Bool) := []
  /-- New owners of fields (R211, R342). -/
  owner : List (Nat × Nat) := []
  /-- Partitions whose GEN moves on (R213). -/
  gens : List Nat := []
  /-- Scratchpads to copy into a reserve: field, from, to (R485). -/
  copies : List (Nat × Nat × Nat) := []
  /-- The fault record that says so (R485). -/
  record : Nat := 0
  deriving DecidableEq, Repr

/-- The mesh as a whole. -/
structure MeshState where
  /-- The packets on the mesh (R188). -/
  packets : List Packet := []
  /-- The input that each router output served last (R188). -/
  turns : AMap Nat := []
  /-- Whether the cell or the attached unit of a shared local port went last (R193). -/
  localTurns : AMap Nat := []
  /-- The number of the next packet, the model's own (R203). -/
  nextId : Nat := 1
  /-- The shadow maps (R212). -/
  shadow : Option MapShadow := none
  /-- Map updates of Scarab's own that wait for them (R212). -/
  waiting : List MapShadow := []
  /-- The end of the drain window (R213). -/
  drainEnd : Fet := 0
  deriving DecidableEq, Repr

/-! ### Movers and tiers (07_weight_streaming) -/

/-- A posted mover descriptor. -/
structure Desc where
  /-- The model's own number of the descriptor (R235). -/
  id : Nat
  /-- Its queue (R235). -/
  queue : Nat
  /-- Its index in the queue (R235). -/
  index : Nat
  /-- Its 512 bits (R236). -/
  word : Nat
  /-- When it was posted, in cycles (R241). -/
  since : Nat := 0
  /-- It has begun (R241). -/
  running : Bool := false
  /-- It has ended (R241). -/
  ended : Bool := false
  /-- Accesses started, by cell (R241). -/
  started : List Nat := []
  /-- Accesses completed, by cell (R241). -/
  completed : List Nat := []
  /-- Cells whose arrival was given (R242). -/
  arrived : List Nat := []
  deriving DecidableEq, Repr

/-- A mover access in flight (R240). -/
structure MoverAcc where
  /-- The model's own number of the access (R240). -/
  id : Nat
  /-- Its descriptor (R240). -/
  desc : Nat
  /-- Its queue (R240). -/
  queue : Nat
  /-- The descriptor's index (R240). -/
  index : Nat
  /-- The descriptor's bits (R236). -/
  word : Nat
  /-- Its cell, 64 for every cell of a BCAST descriptor (R237). -/
  cell : Nat
  /-- Its number within the cell (R237). -/
  k : Nat
  /-- 0 waits for its scratchpad read, 1 for its tier or for room, 2 for scratchpad commits, 3 has committed (R240). -/
  stage : Nat := 0
  /-- Commits it still waits for (R242). -/
  left : Nat := 0
  /-- The words it carries (R240). -/
  data : List PWord := []
  /-- When its request reached the tier (R224). -/
  reached : Fet := 0
  /-- The Vault holds the read until a group has finished its update (R285). -/
  held : Bool := false
  deriving DecidableEq, Repr

/-- A record of the journal (R234). -/
inductive JournalRec where
  | completion (p slot : Nat) (e : Fet)
  | config (p epoch : Nat) (digest : List Byte)
  | fault (r : FaultRec)
  | defect (d : DefectEntry)
  deriving DecidableEq, Repr

/-- A 1 MiB segment of Tier C as the checkpoint writer read it (R231). A unit no write had reached holds the decryption of zeros. -/
structure Segment where
  /-- Its number (R231). -/
  seg : Nat
  /-- The key it was read under (R228). -/
  key : List Byte := []
  /-- Its bytes, counted from its start (R231). -/
  mem : Mem := []
  /-- The units that some write had reached (R228). -/
  units : List Nat := []
  /-- The poisoned units (R222). -/
  bad : List Nat := []
  deriving DecidableEq, Repr

/-- A checkpoint of one Vault's regions (R230, R231). -/
structure CkptState where
  /-- The Vault (R230). -/
  vault : Nat := 0
  /-- The partition (R230). -/
  part : Nat := 0
  /-- The slot (R230). -/
  slot : Nat := 0
  /-- The epoch (R230). -/
  epoch : Fet := 0
  /-- The Tier P key it was written under (R229). -/
  pkey : List Byte := []
  /-- Segments not saved yet (R231). -/
  unsaved : List Nat := []
  /-- Segments copied to the snapshot reserve, with the segment that holds the copy (R231). -/
  reserve : List (Nat × Nat) := []
  /-- Segments in Tier P (R231). -/
  saved : List Segment := []
  deriving DecidableEq, Repr

/-! ### Reduction and update (08_gradients_and_update) -/

/-- A scheduled frame handed to its port (R308). -/
structure SchedFrame where
  /-- The slot (R308). -/
  slot : Nat
  /-- The schedule entry (R308, R336). -/
  entry : Nat
  /-- The chunk (R308, R336). -/
  chunk : Nat
  /-- The frame (R308). -/
  fr : Frame
  deriving DecidableEq, Repr

/-- An input in a reorder window (R271). -/
structure WinIn where
  /-- The ERU entry (R271). -/
  entry : Nat
  /-- The chunk (R271). -/
  chunk : Nat
  /-- 0 a partial, 1 a local chunk, 2 a result; 4 more for buffers held since a first flit, 8 more where refused there (R271). -/
  kind : Nat
  /-- MASK: the positions that abstained (R263). -/
  mask : Nat := 0
  /-- COUNT (R263). -/
  count : Nat := 0
  /-- EMPTY (R263). -/
  empty : Bool := false
  /-- Its format (R263). -/
  pfmt : Nat := 0
  /-- Its block size (R263). -/
  e : Nat := 0
  /-- Its payload (R263). -/
  body : List Byte := []
  /-- The buffers it holds (R271). -/
  bufs : Nat := 1
  /-- Its GEN (R272). -/
  gen : Nat := 0
  deriving DecidableEq, Repr

/-- A local chunk's sending cell, and what its verdict will be (R257, R266). -/
structure Verdict where
  /-- The ERU entry (R266). -/
  entry : Nat
  /-- The chunk (R266). -/
  chunk : Nat
  /-- The sending cell's field (R257). -/
  field : Nat
  /-- The sending cell (R257). -/
  src : Nat
  /-- Where the cell keeps the chunk (R257). -/
  addr : Nat
  /-- Its tag (R257). -/
  tag : Nat
  /-- Its partition (R257). -/
  part : Nat
  /-- It abstained (R266). -/
  abstained : Bool := false
  /-- The verdict has been sent (R266). -/
  sent : Bool := false
  deriving DecidableEq, Repr

/-- An ERU beyond its registers. -/
structure EruState where
  /-- The reorder window (R271). -/
  win : List WinIn := []
  /-- Verdicts owed (R266). -/
  verdicts : List Verdict := []
  /-- Replay copies (R271). -/
  sent : List SchedFrame := []
  /-- Tags of refused frames, with the refusals so far and the end of the backoff (R271). -/
  refused : List (Nat × Nat × Fet) := []
  /-- The step in which each entry, chunk and kind acted last (R264, R267). -/
  acted : AMap Fet := []
  deriving DecidableEq, Repr

/-- A result on its way to a Vault (R270). -/
structure ResultMsg where
  /-- Its tag (R270). -/
  tag : Nat
  /-- Its partition (R270). -/
  part : Nat
  /-- MASK (R270). -/
  mask : Nat := 0
  /-- COUNT (R270). -/
  count : Nat := 0
  /-- EMPTY (R270). -/
  empty : Bool := false
  /-- It is a scalar (R273). -/
  scalar : Bool := false
  /-- Its block size (R270). -/
  e : Nat := 0
  /-- Its W16 or binary32 codes (R270). -/
  codes : List Nat := []
  deriving DecidableEq, Repr

/-- A parameter group's progress through one step (R280-R286). -/
structure GroupState where
  /-- Results taken: chunk, codes unless they lie in GBUF, EMPTY (R277). -/
  got : List (Nat × List Nat × Bool) := []
  /-- Chunks applied (R277). -/
  done : List Nat := []
  /-- Chunk sums of squares (R283). -/
  sums : List (Nat × Nat) := []
  /-- The clip factor once known (R283). -/
  factor : Option Nat := none
  /-- The step of the last update finished or skipped (R277). -/
  doneAt : Fet := 0
  /-- The step of the update under way (R277). -/
  base : Fet := 0
  /-- The master bytes after a step whose digest is not formed yet, by step base and address (R276). -/
  shots : List (Fet × List (Nat × List Byte)) := []
  deriving DecidableEq, Repr

/-! ### Link ports (09_synael_link) -/

/-- A port beyond its registers. -/
structure PortState where
  /-- Frames that wait (R307). -/
  q : List Frame := []
  /-- Scheduled frames handed over (R308). -/
  sched : List SchedFrame := []
  /-- Sequenced frames not acknowledged, with their numbers (R305). -/
  unacked : List (Nat × Frame) := []
  /-- Those to be replayed (R305). -/
  replaying : List (Nat × Frame) := []
  /-- The next sequence number (R305). -/
  txSeq : Nat := 0
  /-- The last sequence number accepted (R305, Table 09.2). -/
  rxAck : Nat := 4095
  /-- NAK is to be sent (R305). -/
  nak : Bool := false
  /-- The sequence number whose replay failed last (R305). -/
  failSeq : Nat := 0
  /-- How often in a row (R305). -/
  failRun : Nat := 0
  /-- Credits used, by virtual channel + 8 × DL (R306). -/
  used : AMap Nat := []
  /-- Credits returned by the partner (R306). -/
  returned : AMap Nat := []
  /-- Credits given back to the partner (R306). -/
  freed : AMap Nat := []
  /-- The deficits of the round robin (R309). -/
  deficit : AMap Nat := []
  /-- The turn of the control round robin (R309). -/
  rrCtl : Nat := 0
  /-- The turn of the data round robin (R309). -/
  rrData : Nat := 0
  /-- When the transmitter is free, in thirds of a nanosecond (R307). -/
  txFree : Nat := 0
  /-- Frame counters sent, by partition (R298). -/
  authTx : AMap Nat := []
  /-- Frame counters received, by partition (R298). -/
  authRx : AMap Nat := []
  /-- The sequence number of the next Firefly frame (Table 09.6). -/
  fireflySeq : Nat := 0
  /-- The fault events before the last Firefly (Table 09.6). -/
  fireflyMark : Nat := 0
  /-- When a good frame last came (R301). -/
  lastGood : Fet := 0
  /-- Partitions whose configuration digest came in this interval (R303). -/
  digestSeen : List Nat := []
  /-- Intervals without it, by partition (R303). -/
  digestMiss : AMap Nat := []
  /-- When the last note of received-frame errors was raised (R302). -/
  noteAt : Fet := 0
  /-- Since when the port is in DETECT (Table 09.9). -/
  detectSince : Fet := 0
  /-- Failed qualifications (R319, R320). -/
  qualFails : Nat := 0
  /-- Since when a retrain window is searched (R324). -/
  searchSince : Option Fet := none
  /-- The window proposed (R324). -/
  proposed : Nat := 0
  /-- What its share has paid for of a STRICT channel that waits, 1/256 bytes (R309, R357). -/
  strictPaid : AMap Nat := []
  /-- The frame that crosses the pin is a scheduled one (R307). -/
  txSched : Bool := false
  /-- When the calibration record was captured (R322). -/
  calAt : Fet := 0
  /-- Windows in a row below the margin, by lane (R323). -/
  lowRuns : AMap Nat := []
  /-- When a retrain last failed to restore the margin (R324). -/
  retrainFail : Option Fet := none
  /-- The port stays at reduced rate until the next cold bring-up (R324). -/
  stayReduced : Bool := false
  /-- The slot of an agreed rate change (R323). -/
  rateSlot : Option Nat := none
  /-- Wake bursts sent (R314). -/
  bursts : Nat := 0
  /-- The rest of the frame that crosses the pin (R292). -/
  txFrame : List Byte := []
  /-- The block it began in (R292). -/
  txAt : Nat := 0
  /-- Its SOF_SEQ (R293, Table 09.2). -/
  txSof : Nat := 0
  /-- The first block not yet sent (R292). -/
  nextBlock : Nat := 0
  /-- The turn of CR_SEL (R306, Table 09.2). -/
  crSel : Nat := 0
  /-- The turn of the negotiation words (R321). -/
  negWord : Nat := 0
  /-- BTYPE and LINKMSG words that wait (Table 09.2). -/
  msgs : List (Nat × Nat) := []
  /-- The PRBS31 register in training (R319). -/
  prbs : Option Nat := none
  /-- A block of the frame that comes in was lost (R293). -/
  rxLost : Bool := false
  /-- The equaliser coefficients of the calibration record (R322). -/
  eq : List (List Nat) := []
  /-- The first trigger of the margin monitors has come (R323). -/
  armDue : Bool := false
  deriving DecidableEq, Repr

/-! ### Fields and Vaults -/

/-- The calibration record of a Tier N or Tier C channel (R436). -/
structure TierCal where
  /-- The draw at capture, 10 W (R436). -/
  load : Nat := 0
  /-- The end of the last recalibration (R436). -/
  busyTo : Fet := 0
  deriving DecidableEq, Repr

/-- A field beyond its registers. -/
structure FieldState where
  /-- The plan store, by handle (R152). -/
  store : AMap (List Byte) := []
  /-- The cells' common cycle (R83). -/
  cyc : Nat := 0
  /-- The next cycle in which the sequencer may issue (R163). -/
  seqCyc : Nat := 0
  /-- The step base of the pass in progress (R170, R174). -/
  base : Fet := 0
  /-- Tier N (R220). -/
  tierN : Mem := []
  /-- Poisoned units of Tier N (R221). -/
  tnBad : List Nat := []
  /-- Units of Tier N with an uncorrectable error (R221). -/
  tnEcc : List Nat := []
  /-- Units whose error was reported and not read since (R221). -/
  met : List Nat := []
  /-- Its scratchpads and Tier N are being zeroed (R350). -/
  zeroing : Bool := false
  /-- It left a tenant and has not been zeroed since (R350). -/
  dirty : Bool := false
  /-- What its hosts left in their L2 cache, none where it is all zero (R350). -/
  l2 : Option Word := none
  /-- Its hosts are halted (Table 13.4). -/
  hostsHalted : Bool := false
  /-- Units of Tier N retired (R478). -/
  retired : List Nat := []
  /-- Mover descriptors posted (R235). -/
  descs : List Desc := []
  /-- Mover accesses in flight (R240). -/
  accs : List MoverAcc := []
  /-- The number of the next descriptor, the model's own (R235). -/
  nextDesc : Nat := 0
  /-- The number of the next access, the model's own (R240). -/
  nextAcc : Nat := 0
  /-- The descriptor served last, by branch and PRIO class (R240). -/
  rr : AMap Nat := []
  /-- The end of the last patrol scrub (Table 07.5). -/
  scrubAt : Fet := 0
  /-- Tier N units that became poisoned in this step, 256 at most, for a rerun (R476). -/
  poison : List Nat := []
  /-- The gate of the bundle it waits at has been tested, so a late one is counted once (R168). -/
  gateDone : Bool := false
  /-- The port sub-channel's inbox: chunks and relayed frames for the ERUs (R193, R264). -/
  portIn : List Packet := []
  /-- Arrivals recorded in this cycle, whose guards fire in the next: cell, tag, cycle (R104). -/
  fires : List (Fin 72 × Nat × Nat) := []
  /-- Calibration records of its Tier N channels (R436). -/
  cal : List TierCal := []
  /-- The uncore cycle of the last access of a branch (R240). -/
  branchAt : AMap Nat := []
  /-- The firmware bundle that its Scarab runs (R439). -/
  fw : List Byte := []
  deriving DecidableEq, Repr

/-- A Vault beyond its registers. -/
structure VaultState where
  /-- Tier C, in clear (R222). -/
  tierC : Mem := []
  /-- The key that each unit was written under (R228). -/
  keyOfC : AMap (List Byte) := []
  /-- Poisoned units (R252). -/
  tcBad : List Nat := []
  /-- Units with an uncorrectable error (R252). -/
  tcEcc : List Nat := []
  /-- Units whose error was reported and not read since (R252). -/
  met : List Nat := []
  /-- The spill region of Tier P, in clear (R219, R234). -/
  tierP : Mem := []
  /-- The key that each unit of it was written under (R228). -/
  keyOfP : AMap (List Byte) := []
  /-- The checkpoint being written (R231). -/
  ckpt : Option CkptState := none
  /-- The checkpoints in its Tier P (R233). -/
  slots : List CkptState := []
  /-- Results that wait (R270). -/
  inbox : List ResultMsg := []
  /-- The parameter groups (R277). -/
  groups : AMap GroupState := []
  /-- Partitions whose norm total has been sent, on Vault 0 (R283). -/
  normSent : List Nat := []
  /-- Norm totals received, by partition (R283). -/
  normTotal : List (Nat × Nat) := []
  /-- What is left of 256 skipped elements (R289). -/
  skipRem : Nat := 0
  /-- The journal, on Vault 0 (R234). -/
  journal : List JournalRec := []
  /-- Its staging buffer (R234). -/
  staging : List JournalRec := []
  /-- When the oldest staged record came (R234). -/
  stagedAt : Fet := 0
  /-- The end of the last patrol scrub (Table 07.5). -/
  scrubAt : Fet := 0
  /-- Calibration records of its Tier C channels (R436). -/
  cal : List TierCal := []
  deriving DecidableEq, Repr

/-! ### The machine -/

/-- The register file: offset to word, unlisted registers at their reset value. -/
abbrev RegFile := AMap Word

/-- The module. -/
structure State where
  /-- The commands waiting to be taken, first in first out. -/
  pending : List Instr := []
  /-- The master FET counter (R46), ns. -/
  fet : Fet := 0
  /-- Every register that does not hold its reset value (R10, R16, 18_address_map). -/
  regs : RegFile := []
  /-- The RO pair latches, one per requester and pair (R81, R542): requester number, LO offset, upper half. -/
  latches : List (Path × Nat × Word) := []
  /-- Request queues: sequence numbers, settled versions, stored replies (R377, R386). -/
  queues : List QueueData := []
  /-- Management-port datagrams from a fifth source, dropped and counted (R371). -/
  mgmtDropped : Nat := 0
  /-- Completion rings, by endpoint × 8 + queue (R370). -/
  rings : AMap RingData := []
  /-- Asynchronous requests in progress (R378), in the order they were taken. -/
  jobs : List Job := []
  /-- Partition data, by partition ID. -/
  parts : AMap PartData := []
  /-- Fault log and collectors. -/
  log : LogState := {}
  /-- FAULT_INJECT writes armed for an FET. -/
  injects : List ArmedInject := []
  /-- The disciplining loop. -/
  time : TimeState := {}
  /-- Cicada engines, by port. -/
  cicada : AMap CicadaPort := []
  /-- Chitin, its flash and the pins. -/
  boot : BootState := {}
  /-- The power block. -/
  power : PowerState := {}
  /-- The manager duties. -/
  mgr : MgrState := {}
  /-- The rack bus and the TAP. -/
  bus : BusState := {}
  /-- Fields, by number. -/
  fields : AMap FieldState := []
  /-- Vaults, by number. -/
  vaults : AMap VaultState := []
  /-- Synael Link ports, by number. -/
  ports : AMap PortState := []
  /-- Cells, by field × 72 + position. -/
  cells : AMap CellState := []
  /-- Network interfaces, by field × 78 + node (positions 0-71, then endpoints 0-5). -/
  nis : AMap NiState := []
  /-- Packets in flight and the maps. -/
  mesh : MeshState := {}
  /-- Edge Reduction Units, by port. -/
  erus : AMap EruState := []
  /-- Everything emitted at the boundary, oldest first. -/
  out : List Output := []
  /-- The model's own counter of free values drawn (no part of the module): DESIGN CHOICE, log 7. -/
  freeIdx : Nat := 0
  deriving DecidableEq, Repr

/-- What an unlisted register reads as: its reset value (R16). Partition 0 holds all 88 fields at reset (Table 11.6).
[log 5 DESIGN CHOICE, 10 DEDUCED, 48 PRESUMED] -/
def regDflt (off : Nat) : Word :=
  if off = 0x40100 then 88 <<< 12
  else if off = 0x40104 ∨ off = 0x40108 then 0xffffffff
  else if off = 0x4010c then 0x00ffffff
  else resetWord off

/-- The module right after reset: Chitin's rail has not yet powered it up, and step 1 has not begun. Every register holds its
Reset column value; every queue, buffer and memory is empty. [log 5 DESIGN CHOICE, 130 DESIGN CHOICE] -/
def State.reset : State := {}

end Sys2Proof.Machine
end

