-- ==== Sys2Proof/Machine/Ops.lean ====
section
/-!
DEFINITION. Machine/Ops.lean: the named operations over registers, tables and outputs that every meaning is built from.
-/
namespace Sys2Proof.Machine

/-- Bits [hi:lo] of a register word, as a number. -/
def Word.field (w : Word) (hi lo : Nat) : Nat := (w.extractLsb' lo (hi + 1 - lo)).toNat

/-- A register word with bits [hi:lo] replaced by the low bits of a number. -/
def Word.withField (w : Word) (hi lo v : Nat) : Word :=
  let m : Word := (BitVec.allOnes (hi + 1 - lo)).setWidth 32 <<< lo
  (w &&& ~~~m) ||| ((BitVec.ofNat (hi + 1 - lo) v).setWidth 32 <<< lo)

/-- The word held at an offset (R10). [log 10 DEDUCED] -/
def State.rd (s : State) (off : Nat) : Word := AMap.get regDflt s.regs off

/-- The state with a word held at an offset. [log 10 DEDUCED] -/
def State.wr (s : State) (off : Nat) (w : Word) : State := { s with regs := AMap.put regDflt s.regs off w }

/-- A register field. -/
def State.get (s : State) (f : Fld) : Nat := Word.field (s.rd f.reg) f.hi f.lo

/-- A register field set by the hardware (it keeps the low bits the field has room for). -/
def State.set (s : State) (f : Fld) (v : Nat) : State := s.wr f.reg (Word.withField (s.rd f.reg) f.hi f.lo v)

/-- A register field as a flag. -/
def State.flag (s : State) (f : Fld) : Bool := s.get f == 1

/-- The greatest value a field holds. -/
def Fld.max (f : Fld) : Nat := 2 ^ f.width - 1

/-- A saturating counter field counts `n` more. -/
def State.count (s : State) (f : Fld) (n : Nat) : State := s.set f (satAdd f.max (s.get f) n)

/-- A high-water field takes a value if it is higher. -/
def State.high (s : State) (f : Fld) (v : Nat) : State := if s.get f < v then s.set f (min v f.max) else s

/-- The value a 32-bit signed register field holds. -/
def State.geti (s : State) (f : Fld) : Int :=
  let v := s.get f
  if v < 2 ^ (f.width - 1) then (v : Int) else (v : Int) - (2 ^ f.width : Nat)

/-- Two's complement of a signed number in 32 bits. -/
def toTwos (i : Int) : Nat := (i % 4294967296).toNat

/-- Emits something at the boundary. [log 8 DESIGN CHOICE] -/
def State.emit (s : State) (o : Output) : State := { s with out := s.out ++ [o] }

/-- The next free value: a word nothing constrains (Config.freeWord), and the state that has drawn it.
[log 7 DESIGN CHOICE] -/
def State.free (s : State) : Word × State := (Config.freeWord s.freeIdx, { s with freeIdx := s.freeIdx + 1 })

/-- Partition data. -/
def State.part (s : State) (p : Nat) : PartData := AMap.get (fun _ => {}) s.parts p

/-- Partition data replaced. -/
def State.setPart (s : State) (p : Nat) (d : PartData) : State := { s with parts := AMap.put (fun _ => {}) s.parts p d }

/-- The record of a partition's running step changed (R390). -/
def markStep (p : Nat) (g : StepLog → StepLog) (s : State) : State :=
  let d := s.part p
  match d.steps.reverse with
  | [] => s
  | k :: l => s.setPart p { d with steps := (g k :: l).reverse }

/-- The record of the step that began at a boundary changed (R390). -/
def markStepAt (p : Nat) (base : Fet) (g : StepLog → StepLog) (s : State) : State :=
  let d := s.part p
  s.setPart p { d with steps := d.steps.map (fun k => if k.base = base then g k else k) }

/-- Field data. -/
def State.fieldD (s : State) (f : Nat) : FieldState := AMap.get (fun _ => {}) s.fields f

/-- Field data replaced. -/
def State.setField (s : State) (f : Nat) (d : FieldState) : State := { s with fields := AMap.put (fun _ => {}) s.fields f d }

/-- Vault data. -/
def State.vault (s : State) (v : Nat) : VaultState := AMap.get (fun _ => {}) s.vaults v

/-- Vault data replaced. -/
def State.setVault (s : State) (v : Nat) (d : VaultState) : State := { s with vaults := AMap.put (fun _ => {}) s.vaults v d }

/-- Port data. -/
def State.port (s : State) (n : Nat) : PortState := AMap.get (fun _ => {}) s.ports n

/-- Port data replaced. -/
def State.setPort (s : State) (n : Nat) (d : PortState) : State := { s with ports := AMap.put (fun _ => {}) s.ports n d }

/-- Cicada engine of a port. -/
def State.cic (s : State) (n : Nat) : CicadaPort := AMap.get (fun _ => {}) s.cicada n

/-- Cicada engine replaced. -/
def State.setCic (s : State) (n : Nat) (d : CicadaPort) : State := { s with cicada := AMap.put (fun _ => {}) s.cicada n d }

/-- A cell, by field and position. -/
def State.cell (s : State) (f pos : Nat) : CellState := AMap.get (fun _ => {}) s.cells (72 * f + pos)

/-- A cell replaced. -/
def State.setCell (s : State) (f pos : Nat) (c : CellState) : State :=
  { s with cells := AMap.put (fun _ => {}) s.cells (72 * f + pos) c }

/-- A network interface, by field and node. -/
def State.ni (s : State) (f node : Nat) : NiState := AMap.get (fun _ => {}) s.nis (78 * f + node)

/-- A network interface replaced. -/
def State.setNi (s : State) (f node : Nat) (d : NiState) : State :=
  { s with nis := AMap.put (fun _ => {}) s.nis (78 * f + node) d }

/-- An Edge Reduction Unit, by port. -/
def State.eru (s : State) (n : Nat) : EruState := AMap.get (fun _ => {}) s.erus n

/-- An Edge Reduction Unit replaced. -/
def State.setEru (s : State) (n : Nat) (d : EruState) : State := { s with erus := AMap.put (fun _ => {}) s.erus n d }

/-- A record enters the journal staging buffer of Vault 0 (R234). [log 83 DEDUCED] -/
def State.journal (s : State) (r : JournalRec) : State :=
  let d := s.vault 0
  s.setVault 0 { d with staging := d.staging ++ [r], stagedAt := if d.staging.isEmpty then s.fet else d.stagedAt }

/-- Records of 64 bytes that the journal's ring of 64 GiB holds (R234). -/
def journalRoom : Nat := 2 ^ 30

/-- Vault 0 writes the staging buffer to the ring in its Tier P, over the oldest records once it is full (R234, R427). -/
def flushJournal (s : State) : State :=
  let d := s.vault 0
  let l := d.journal ++ d.staging
  s.setVault 0 { d with journal := l.drop (l.length - journalRoom), staging := [] }

/-- The module draw a calibration record is captured at, 10 W units (R322, R436): the last 1 ms average, under load emulation no
less than its 80 % of 17.5 kW, so that a record captured at bring-up holds up to 105 %. -/
def captureLoad (s : State) : Nat := if s.power.emulating then max 1400 (s.get F.PWR_DRAW_LAST) else s.get F.PWR_DRAW_LAST

/-- Does `f` on every number of a list, in order. -/
def State.forEach (s : State) (l : List Nat) (f : Nat → State → State) : State := l.foldl (fun t k => f k t) s

/-- Does something only where a condition holds. -/
def State.when (s : State) (b : Bool) (f : State → State) : State := if b then f s else s

/-- Every register whose offset lies in [lo, hi) returns to its reset value (R544). -/
def State.resetRegs (s : State) (lo hi : Nat) : State :=
  { s with regs := s.regs.filter (fun e => decide (e.1 < lo) || decide (hi ≤ e.1)) }

/-! ### Geometry (01_anatomy) -/

/-- First field number, first grid column and number of fields of each row (Table 01.2). -/
def fieldRows : List (Nat × Nat × Nat) :=
  [(0, 2, 6), (6, 1, 8), (14, 0, 10), (24, 0, 10), (34, 0, 10), (44, 0, 10), (54, 0, 10), (64, 0, 10), (74, 1, 8),
   (82, 2, 6)]

/-- Row of a field (R23). -/
def fieldRow (f : Nat) : Nat :=
  if f < 6 then 0 else if f < 14 then 1 else if f < 74 then (f - 14) / 10 + 2 else if f < 82 then 8 else 9

/-- Grid column of a field (R23). -/
def fieldCol (f : Nat) : Nat :=
  let r := fieldRows.getD (fieldRow f) (0, 0, 0)
  f - r.1 + r.2.1

/-- The field at a grid position, if there is one (R23). -/
def fieldAt (row col : Nat) : Option Nat :=
  match fieldRows[row]? with
  | some r => if r.2.1 ≤ col ∧ col < r.2.1 + r.2.2 then some (r.1 + (col - r.2.1)) else none
  | none => none

/-- A field lies in the west half (R24). -/
def westHalf (f : Nat) : Bool := decide (fieldCol f ≤ 4)

/-- Cluster of a cell position (Table 01.4). -/
def clusterOf (x y : Nat) : Nat :=
  if x < 6 then 2 * (y / 3) + x / 3
  else if y < 4 ∨ (x = 6 ∧ y = 4) then 6 else 7

/-- Row-major positions of the eight reserve cells, by cluster (Table 01.4, R30). -/
def reservePos : List Nat := [9, 12, 33, 36, 57, 60, 22, 55]

/-- A position is a reserve position (R30). -/
def isReservePos (p : Nat) : Bool := [9, 12, 22, 33, 36, 55, 57, 60].contains p

/-- The position that holds local logical index `i` at reset (R30): the i-th position that is no reserve position. -/
def posOfLocal (i : Nat) : Nat := ((List.range 72).filter (fun p => !isReservePos p)).getD i 0

/-- Port die and Vault of a field's carrier channel (R33). -/
def portDieOf (f : Nat) : Nat := f % 8
def vaultOf (f : Nat) : Nat := f % 12

/-- Power domain index of cluster k of field f; k = 8 is the uncore (R430). -/
def domOf (f k : Nat) : Nat := 9 * f + k

/-- Domain of the cell at a position. -/
def domOfCell (f pos : Nat) : Nat := domOf f (clusterOf (pos % 8) (pos / 8))

/-- Domain states (Table 13.2). -/
def domState (s : State) (d : Nat) : Nat := s.get (F.PWR_DOM_STATUS_STATE d)

/-- A field's uncore domain is ON (R408). -/
def uncoreOn (s : State) (f : Nat) : Bool := domState s (domOf f 8) == 3

/-- All field numbers. -/
def allFields : List Nat := List.range 88

/-! ### Partitions -/

/-- The 88-bit field mask of a partition (PRT_FIELDS0-2). -/
def partMask (s : State) (p : Nat) : Nat :=
  (s.rd (R.PRT_FIELDS0 p)).toNat + 2 ^ 32 * (s.rd (R.PRT_FIELDS1 p)).toNat + 2 ^ 64 * (s.rd (R.PRT_FIELDS2 p)).toNat

/-- A partition's field mask replaced. -/
def setPartMask (s : State) (p m : Nat) : State :=
  ((s.wr (R.PRT_FIELDS0 p) (BitVec.ofNat 32 m)).wr (R.PRT_FIELDS1 p) (BitVec.ofNat 32 (m / 2 ^ 32))).wr
    (R.PRT_FIELDS2 p) (BitVec.ofNat 32 (m / 2 ^ 64 % 2 ^ 24))

/-- The fields named by a mask, rising. -/
def maskFields (m : Nat) : List Nat := allFields.filter (fun f => bitOf m f == 1)

/-- The fields of a partition (R342). -/
def partFields (s : State) (p : Nat) : List Nat := maskFields (partMask s p)

/-- The partition that holds a field (R342): the tenant whose mask names it, else partition 0. -/
def ownerOf (s : State) (f : Nat) : Nat := ([1, 2, 3, 4, 5, 6, 7].find? (fun p => bitOf (partMask s p) f == 1)).getD 0

/-- Partition states (Table 11.2): 0 FREE, 1 CREATING, 2 READY, 3 RUNNING, 4 QUENCHED, 5 DESTROYING. -/
def partState (s : State) (p : Nat) : Nat := s.get (F.PRT_STATUS_STATE p)

/-- A partition's state replaced. -/
def setPartState (s : State) (p st : Nat) : State := s.set (F.PRT_STATUS_STATE p) st

/-- A partition has a plan started: some field of it has FLD_STATUS.STARTED (R183, R184). -/
def planStarted (s : State) (p : Nat) : Bool := (partFields s p).any (fun f => s.flag (F.FLD_STATUS_STARTED f))

/-- Some partition has a plan started (R48). -/
def anyPlanStarted (s : State) : Bool := [1, 2, 3, 4, 5, 6, 7].any (planStarted s)

/-- A tenant partition is RUNNING. -/
def anyRunning (s : State) : Bool := [1, 2, 3, 4, 5, 6, 7].any (fun p => partState s p == 3)

/-- A field is in service: its uncore is ON and it is neither mapped out nor marked failed (R352, R435). -/
def inService (s : State) (f : Nat) : Bool := uncoreOn s f && !(s.boot.dead.contains f)

/-- The module is in Quench (FLT_STATUS.QUENCHED). -/
def moduleQuenched (s : State) : Bool := s.flag F.FLT_STATUS_QUENCHED

/-- The lock latch is set (R474). -/
def locked (s : State) : Bool := s.flag F.FLT_LOCK_LOCKED

/-- Bring-up steps done (CHT_STATUS.STEP_DONE). -/
def stepDone (s : State) : Nat := s.get F.CHT_STATUS_STEP_DONE

/-- FET held in a _LO, _HI register pair. -/
def rdPair (s : State) (lo hi : Nat) : Nat := (s.rd lo).toNat + 2 ^ 32 * (s.rd hi).toNat

/-- A _LO, _HI register pair set. -/
def wrPair (s : State) (lo hi v : Nat) : State := (s.wr lo (BitVec.ofNat 32 v)).wr hi (BitVec.ofNat 32 (v / 2 ^ 32))

/-- Rounds a FET down to a multiple (R73, R393). -/
def roundDown (v m : Nat) : Nat := v / m * m

/-- Rounds a FET up to a multiple (R54). -/
def roundUp (v m : Nat) : Nat := (v + m - 1) / m * m

/-- A time-stamp at the pin, ps, at its resolution of 125 ps (R68). [log 60 DEDUCED] -/
def stampPs (t : Nat) : Nat := t / 125 * 125

end Sys2Proof.Machine
end

