-- ==== Sys2Proof/Machine/Datapath.lean ====
section
/-!
DEFINITION. Machine/Datapath.lean: what a slot computes: its accesses, the rows of a pass, the results of each template
class and the writes they form (R86-R101, R109-R111, R119, R126-R150, R255, R256, R546). All scratchpad reads of a slot
come before its writes, so that no stall changes a value (R85).
-/
namespace Sys2Proof.Machine

/-! ### Elements -/

/-- The elements of width `w` of some words, each with its word's poison. -/
def elemsOf (w : Nat) (l : List PWord) : List (Nat × Bool) :=
  (l.map (fun p => (unpackWord w p.w.toNat).map (fun c => (c, p.bad)))).flatten

/-- The elements of width `w` of some accesses. -/
def elems (w : Nat) (l : List (List PWord)) : List (Nat × Bool) := elemsOf w l.flatten

/-- Words that hold elements of width `w`; a word is poisoned with any of its elements. -/
def packEls (w : Nat) (l : List (Nat × Bool)) : List PWord :=
  (chunksOf (32 / w) l.length l).map (fun g => ⟨BitVec.ofNat 32 (packWord w (g.map (·.1))), g.any (·.2)⟩)

/-- The write requests that store elements of width `w` from an access address; the last may be partial (R111).
[log 67 DEDUCED] -/
def writeReqs (s : Slot) (addr w : Nat) (l : List (Nat × Bool)) : List PortReq :=
  let ws := packEls w l
  (chunksOf 64 ws.length ws).zipIdx.map (fun e =>
    { cls := 0, owner := s.seq, addr := (addr + e.2) % 32768, data := e.1, bits := min 2048 (l.length * w - 2048 * e.2)
      lane := s.lane, width := w })

/-- What unit operations give: element codes, block scales, error terms, each with its poison. -/
structure Results where
  res : List (Nat × Bool) := []
  scl : List (Nat × Bool) := []
  res2 : List (Nat × Bool) := []

/-- Block conversion of a list in write order (R139, R546); a block is poisoned with any of its sources, as its scale comes
from all of them (R119). -/
def blockResults (f : Nat) (vs : List (Num × Bool)) : Results :=
  let bs := (chunksOf 32 (vs.length / 32 + 1) vs).map (fun b => (quantBlock f (b.map (·.1)), b.any (·.2)))
  { res := bs.flatMap (fun b => b.1.2.map (fun c => (c, b.2))), scl := bs.map (fun b => (b.1.1, b.2)) }

/-- The writes of some elements and, from the next access, of their block scales (R546). -/
def resultReqs (s : Slot) (addr w : Nat) (res scl : List (Nat × Bool)) : List PortReq :=
  writeReqs s addr w res ++ writeReqs s (addr + cdiv (res.length * w) 2048) 8 scl

/-! ### Row and column accesses (R108-R110) -/

/-- The address of word i of an access: of row `addr` mod 64 of its tile in ascending c, or of column `addr` mod 64 in
ascending r (R109). -/
def wordKey (addr : Nat) (col : Bool) (i : Nat) : Nat :=
  if col then 4096 * (addr / 64) + 64 * i + addr % 64 else 64 * addr + i

/-- The vector unit's transpose of a column access it reads: from the 32 ÷ w elements of each of 64 rows to w-bit elements
column by column (R110). [log 64 DEDUCED] -/
def slabIn (w : Nat) (l : List PWord) : List PWord :=
  packEls w ((List.range (32 / w)).flatMap (fun j => l.map (fun p => ((unpackWord w p.w.toNat).getD j 0, p.bad))))

/-- The transpose back, of a column access it writes (R110). [log 64 DEDUCED] -/
def slabOut (w : Nat) (l : List PWord) : List PWord :=
  let es := elemsOf w l
  packEls w ((List.range 64).flatMap (fun r => (List.range (32 / w)).map (fun j => es.getD (64 * j + r) (0, false))))

/-! ### Dense passes (R86-R89, R142, R143) -/

/-- An element under its scale, exactly. -/
def scaledNum (f s c : Nat) : Num := if s = 255 then .nan else (decodeNum f c).scale ((s : Int) - 127)

/-- An exact sum rounded once to binary32; no product gives +0 (R142). [log 72 DESIGN CHOICE] -/
def blockSum : List Num → Nat
  | [] => 0
  | p :: ps => encodeNum 7 false (ps.foldl Num.add p)

/-- One column of one row: its block sums added in ascending k; in zero mode the first replaces (R143). -/
def foldBlocks (add : Bool) (old : Nat) (sums : List Nat) : Nat :=
  match add, sums with
  | _, [] => old
  | true, l => l.foldl add32 old
  | false, x :: xs => xs.foldl add32 x

/-- Weight codes, weight scales, activation codes and scales of a pass. -/
structure PassData where
  k : Nat
  fa : Nat
  fb : Nat
  w : List Nat
  ws : List Nat
  a : List Nat
  as_ : List Nat

/-- Scale of a list, 127 where the operand has none. -/
def scaleAt (on : Bool) (l : List Nat) (i : Nat) : Nat := if on then l.getD i 127 else 127

/-- The block sums of column n (R89, R142): element (k, n) of a weight block is element 128 k + n. -/
def columnSums (t : Nat) (d : PassData) (n : Nat) : List Nat :=
  (List.range (cdiv d.k 32)).map (fun b => blockSum ((List.range (min 32 (d.k - 32 * b))).map (fun i =>
    let k := 32 * b + i
    (scaledNum d.fa (scaleAt (scaledA t) d.ws (128 * b + n)) (d.w.getD (128 * k + n) 0)).mul
      (scaledNum d.fb (scaleAt (scaledB t) d.as_ b) (d.a.getD k 0)))))

/-- The accumulator row of a half. [log 148 DEDUCED] -/
def accRow (c : CellState) (half row : Nat) : AccRow :=
  AMap.get (fun _ => { v := [] }) c.acc (256 * half + row % 256)

/-- An accumulator row replaced. [log 148 DEDUCED] -/
def setAcc (c : CellState) (half row : Nat) (r : AccRow) : CellState :=
  { c with acc := AMap.put (fun _ => { v := [] }) c.acc (256 * half + row % 256) r }

/-- Adds the block sums of 128 columns into a row; poison stays with a row that is added to. -/
def intoRow (add : Bool) (old : AccRow) (sums : List (List Nat)) (bad : Bool) : AccRow :=
  { v := sums.zipIdx.map (fun e => BitVec.ofNat 32 (foldBlocks add (old.v.getD e.2 0).toNat e.1))
    bad := bad || (add && old.bad) }

/-- The codes of some accesses as bytes. -/
def codes (w : Nat) (l : List (List PWord)) : List Nat := (elems w l).map (·.1)

/-- Any word of some accesses is poisoned. -/
def anyBad (l : List (List PWord)) : Bool := l.any (fun a => a.any (·.bad))

/-- Activation accesses of a pass of M rows, and where row r's words and scale bytes lie in them. [log 71 DEDUCED] -/
def actAccesses (t : Nat) : Nat := cdiv (tCount t) 2
def scaleAccesses (t : Nat) : Nat := cdiv (tCount t * sA t) 256

/-- The words of a weight buffer that a pass multiplies by: of the block and of its scales. -/
def weightWords (t : Nat) (l : List (List PWord)) : List PWord :=
  (l.take 64).flatten.take (passK t * 128 * wdt (tFmtA t) / 32)
    ++ if scaledA t then (l.drop 64).flatten.take (cdiv (passK t) 32 * 32) else []

/-- Row r of a dense pass (R88, R89); it is poisoned with the weights, its own activations and its own scales (R119).
[log 71 DEDUCED] -/
def mxRow (s : Slot) (r : Running) (row : Nat) (err : Bool) (c : CellState) : CellState :=
  let t := s.tmpl
  let act := ((r.inB.getD (row / 2) []).drop (32 * (row % 2))).take (passK t * wdt (tFmtB t) / 32)
  let sc := ((r.inB.drop (actAccesses t)).flatten.drop (row * sA t / 4)).take (cdiv (cdiv (passK t) 32) 4)
  let sc := if scaledB t then sc else []
  let scb := codes 8 [sc]
  let d : PassData :=
    { k := passK t, fa := tFmtA t, fb := tFmtB t, w := codes (wdt (tFmtA t)) (c.active.take 64)
      ws := codes 8 (c.active.drop 64), a := codes (wdt (tFmtB t)) [act], as_ := scb }
  let half := bitOf s.imm 10
  let dst := bitsOf s.imm 9 2 + row
  let bad := err || anyBad [weightWords t c.active, act, sc]
  setAcc c half dst (intoRow (bitOf s.imm 11 == 1) (accRow c half dst) ((List.range 128).map (columnSums t d)) bad)

/-! ### Sparse passes (R92-R96, R148-R150) -/

/-- An encoded tile as it was read: capacity field, count Z, values, indices, scales. -/
structure SparseTile where
  cap : Nat
  z : Nat
  vals : List Nat
  idx : List Nat
  scales : List Nat

/-- The tile in the accesses of a sparse pass (Table 04.6). -/
def sparseTile (t imm : Nat) (l : List (List PWord)) : SparseTile :=
  let (nv, ni, ns) := smuParts t imm
  let h := ((l.getD 0 []).getD 0 {}).w.toNat
  { cap := bitsOf h 31 17, z := bitsOf h 16 0, vals := codes (wdt (tFmtA t)) ((l.drop 1).take nv)
    idx := codes 16 ((l.drop (1 + nv)).take ni), scales := codes 8 ((l.drop (1 + nv + ni)).take ns) }

/-- Indices out of range, out of order or repeated. -/
def idxBad (k : Nat) : List Nat → Bool
  | [] => false
  | [x] => decide (k ≤ x / 128)
  | x :: y :: l => decide (k ≤ x / 128) || decide (y ≤ x) || idxBad k (y :: l)

/-- A capacity fault (R96, R149, R162). [log 72 DESIGN CHOICE] -/
def capFault (t imm : Nat) (x : SparseTile) : Bool :=
  x.cap != tCount t || decide (64 * tCount t < x.z) || idxBad (bitsOf imm 13 5 + 1) (x.idx.take x.z)

/-- Row r, column n of a sparse pass: block sums over the listed entries (R150). [log 72 DESIGN CHOICE] -/
def sparseSums (t imm : Nat) (x : SparseTile) (stage : List (List PWord)) (r n : Nat) : List Nat :=
  let k := bitsOf imm 13 5 + 1
  let es := ((x.idx.take x.z).zip x.vals).filter (fun e => e.1 % 128 == n)
  (List.range (cdiv k 32)).map (fun b => blockSum ((es.filter (fun e => e.1 / 128 / 32 == b)).map (fun e =>
    let a := (codes (wdt (tFmtB t)) [stage.getD (e.1 / 128) []]).getD r 0
    let sc := if scaledB t then Config.smuScale r b % 256 else 127
    (scaledNum (tFmtA t) (scaleAt (scaledA t) x.scales (128 * b + n)) e.2).mul (scaledNum (tFmtB t) sc a))))

/-- The accumulator rows of a pass: (half, row). -/
def smuTargets (t imm : Nat) : List (Nat × Nat) :=
  if smuRows t = 512 then (List.range 512).map (fun r => (r / 256, r % 256))
  else (List.range (smuRows t)).map (fun r => (bitOf imm 3, r))

/-- The words of an encoded tile that its listed entries use: header, values, indices, scales. -/
def usedWords (t imm : Nat) (x : SparseTile) (l : List (List PWord)) : List PWord :=
  let (nv, ni, ns) := smuParts t imm
  let sc := ((l.drop (1 + nv + ni)).take ns).flatten
  (l.headD []).take 1 ++ ((l.drop 1).take nv).flatten.take (cdiv (x.z * wdt (tFmtA t)) 32)
    ++ ((l.drop (1 + nv)).take ni).flatten.take (cdiv x.z 2)
    ++ (x.idx.take x.z).filterMap (fun e => sc[(128 * (e / 128 / 32) + e % 128) / 4]?)

/-- Row r of a sparse pass meets a poisoned activation: in a staged column that a listed entry names (R119). -/
def columnBad (t : Nat) (x : SparseTile) (stage : List (List PWord)) (r : Nat) : Bool :=
  (x.idx.take x.z).any (fun e => ((stage.getD (e / 128) []).getD (r * wdt (tFmtB t) / 32) {}).bad)

/-- A whole sparse pass: every row, on its fixed schedule. A capacity fault or a poisoned weight poisons every row, a
poisoned activation or a failed residue the rows it enters. [log 72 DESIGN CHOICE] -/
def smuPass (s : Slot) (r : Running) (cap : Bool) (c : CellState) : CellState :=
  let t := s.tmpl
  let x := sparseTile t s.imm r.inB
  let stage := if bitOf s.imm 4 = 1 then c.stage1 else c.stage0
  let all := cap || anyBad [usedWords t s.imm x r.inB]
  (smuTargets t s.imm).zipIdx.foldl (fun c e =>
    setAcc c e.1.1 e.1.2 (intoRow (bitOf s.imm 2 == 1) (accRow c e.1.1 e.1.2)
      ((List.range 128).map (sparseSums t s.imm x stage e.2))
      (all || r.badRows.contains e.2 || columnBad t x stage e.2))) c

/-! ### Vector and transcendental classes -/

/-- An I8 lane as a signed number. -/
def lane8 (c : Nat) : Int := if 128 ≤ c % 256 then (c % 256 : Nat) - 256 else (c % 256 : Nat)

/-- An integer wrapped to an I8 lane in two's complement (R146). -/
def wrap8 (v : Int) : Num := decodeNum 4 (v % 256).toNat

/-- The integer that an I8 lane's value is. -/
def laneInt : Num → Int
  | .fin neg m e => let v : Int := (m * 2 ^ e.toNat : Nat); if neg then -v else v
  | _ => 0

/-- The value an I8 lane result has in the result format: its own code where that is I8. -/
def laneI8 (t : Nat) (v : Int) : Num ⊕ Nat := if tFmtOut t = 4 then .inr (v % 256).toNat else .inl (wrap8 v)

/-- Both operands of a template are I8 lanes: its operations other than a conversion are integer operations on the lanes
(R97, R146). -/
def i8Lanes (t : Nat) : Bool := tFmtA t == 4 && tFmtB t == 4

/-- One lane of a VEC_MAP operation on element codes: the exact value, or a finished code (bitwise and I8 lanes).
[log 71 DEDUCED] -/
def vecLane (t op : Nat) (ca cb : Nat) : Num ⊕ Nat :=
  let a := decodeNum (tFmtA t) ca
  let b := decodeNum (tFmtB t) cb
  let z : Num := .zero false
  match op with
  | 0 => .inl a
  | 1 => if i8Lanes t then laneI8 t (lane8 ca + lane8 cb) else .inl (a.add b)
  | 2 => if i8Lanes t then laneI8 t (lane8 ca - lane8 cb) else .inl (a.add b.negate)
  | 3 => if i8Lanes t then laneI8 t (lane8 ca * lane8 cb) else .inl (a.mul b)
  | 4 => if i8Lanes t then laneI8 t (min (lane8 ca) (lane8 cb)) else .inl (a.min b)
  | 5 => if i8Lanes t then laneI8 t (max (lane8 ca) (lane8 cb)) else .inl (a.max b)
  | 6 => .inl ((a.mul (decodeNum 7 (tScalar t))).add b)
  | 7 => .inl (a.max z)
  | 8 => if i8Lanes t then laneI8 t (if lane8 ca < 0 then lane8 cb else lane8 ca) else .inl (if a.lt z then b else a)
  | 9 => .inr (ca &&& cb)
  | 10 => .inr (ca ||| cb)
  | 11 => .inr (ca ^^^ cb)
  | 12 => laneI8 t (lane8 ca + lane8 cb)
  | 13 => laneI8 t (lane8 ca * lane8 cb)
  | _ => .inl (if a.lt b then .fin false 1 0 else z)

/-- One addition of a reduction: rounded to the lane format (R145), wrapped on I8 lanes (R146). -/
def laneAdd (f : Nat) (a b : Num) : Num :=
  if f = 4 then wrap8 (laneInt a + laneInt b) else roundTo f (a.add b)

/-- Pairwise sums of one level; a last lone lane passes up (R99). -/
def pairLevel (f : Nat) : List Num → List Num
  | a :: b :: l => laneAdd f a b :: pairLevel f l
  | l => l

/-- The fixed pairwise tree (R99); each addition rounds to the lane format. -/
def pairTree (f : Nat) : Nat → List Num → Num
  | 0, l => l.headD (.zero false)
  | n + 1, l => if l.length ≤ 1 then l.headD (.zero false) else pairTree f n (pairLevel f l)

/-- A value's code in the result format of a template; the rounding field is a conversion's only (R133). -/
def outCode (t op : Nat) : Num ⊕ Nat → Nat
  | .inl v => encodeNum (tFmtOut t) (tRto t && op == 0) v
  | .inr c => c % 2 ^ wdt (tFmtOut t)

/-- The value a result stands for, for a block conversion. [log 72 DESIGN CHOICE] -/
def outNum (t : Nat) : Num ⊕ Nat → Num
  | .inl v => v
  | .inr c => decodeNum (tFmtOut t) c

/-- Result codes of some lanes in the result format of a template: alone, or by blocks (R546). -/
def laneResults (t op : Nat) (l : List ((Num ⊕ Nat) × Bool)) : Results :=
  if scaledOut t && tFmtOut t != 4 then blockResults (tFmtOut t) (l.map (fun e => (outNum t e.1, e.2)))
  else { res := l.map (fun e => (outCode t op e.1, e.2)) }

/-- One VEC_MAP operation on the lanes of two operands; what an operand lacks is a free value. A cross-lane sum is the
result of lane 0, and poisoned with any lane. [log 72 DESIGN CHOICE] -/
def mapLanes (t : Nat) (a b : List (Nat × Bool)) : Results :=
  let op := bitsOf (tAux t) 15 12
  if op = 15 then
    let bad := a.any (·.2)
    let sum := pairTree (tFmtA t) 16 (a.map (fun e => decodeNum (tFmtA t) e.1))
    let out := if tFmtA t = 4 then laneI8 t (laneInt sum) else .inl sum
    laneResults t op (a.zipIdx.map (fun e => (if e.2 = 0 then out else .inr (Config.unpaired e.2), bad)))
  else
    laneResults t op (a.zipIdx.map (fun e =>
      let y := b.getD e.2 (Config.unpaired e.2, false)
      (vecLane t op e.1.1 y.1, e.1.2 || y.2)))

/-- One VEC_ACCUM operation: binary32 lanes plus lanes in FMT_B. -/
def accumLanes (t : Nat) (a b : List (Nat × Bool)) : Results :=
  { res := a.zipIdx.map (fun e =>
      let y := b.getD e.2 (Config.unpaired e.2, false)
      (encodeNum 7 false ((decodeNum 7 e.1.1).add (decodeNum (tFmtB t) y.1)), e.1.2 || y.2)) }

/-- One block of QUANT_G8 (R255): scale, and per element q, e_new, poison. -/
def quantGroup (g : List (Nat × Nat × Bool)) : Nat × List (Nat × Nat × Bool) :=
  let vs := g.map (fun e => roundTo 7 ((decodeNum 7 e.1).add (decodeNum 5 e.2.1)))
  let q := quantBlock 3 vs
  let bad := g.any (fun e => e.2.2)
  (q.1, (vs.zip q.2).map (fun e =>
    (e.2, if q.1 = 255 then 0 else encodeNum 5 false (e.1.add (dequant 3 q.1 e.2).negate), bad)))

/-- One QUANT_G8 operation: g in binary32, e in W16 (R255, R256). -/
def quantLanes (a b : List (Nat × Bool)) : Results :=
  let g := a.zipIdx.map (fun x => let y := b.getD x.2 (0, false); (x.1.1, y.1, x.1.2 || y.2))
  let bs := (chunksOf 32 (g.length / 32 + 1) g).map quantGroup
  let els := bs.flatMap (·.2)
  { res := els.map (fun x => (x.1, x.2.2)), scl := bs.map (fun b => (b.1, b.2.any (fun x => x.2.2)))
    res2 := els.map (fun x => (x.2.1, x.2.2)) }

/-- One XCEND operation: 64 binary32 results (R100). -/
def xcendLanes (t : Nat) (a : List (Nat × Bool)) : Results :=
  { res := a.map (fun e => (transc (bitsOf (tAux t) 3 0) e.1, e.2)) }

/-- Accumulator rows converted by a DRAIN (R91, R546). -/
def drainRows (t : Nat) (rows : List AccRow) : Results :=
  let l := rows.flatMap (fun r => (List.range 128).map (fun n => (decodeNum 7 (r.v.getD n 0).toNat, r.bad)))
  if scaledOut t then blockResults (tFmtOut t) l
  else { res := l.map (fun e => (encodeNum (tFmtOut t) (tRto t) e.1, e.2)) }

/-- Results all poisoned where the operation failed its residue (R122). -/
def Results.poison (bad : Bool) (o : Results) : Results :=
  let m := fun (l : List (Nat × Bool)) => l.map (fun e => (e.1, e.2 || bad))
  { res := m o.res, scl := m o.scl, res2 := m o.res2 }

/-- A slot's results so far with those of one more operation. -/
def addResults (o : Results) (r : Running) : Running :=
  { r with res := r.res ++ o.res, scl := r.scl ++ o.scl, res2 := r.res2 ++ o.res2 }

/-! ### Vector registers (R97, R98) -/

/-- Words put in vector registers from register k, 256 lanes each, in every second register where they are more. -/
def putRegs (k : Nat) (ws : List PWord) (v : AMap (List PWord)) : AMap (List PWord) :=
  (chunksOf 256 (ws.length / 256 + 1) ws).zipIdx.foldl (fun v e =>
    let i := (k + 2 * e.2) % 32
    AMap.put (fun _ => []) v i (e.1 ++ (AMap.get (fun _ => []) v i).drop e.1.length)) v

/-- The first n words from register k. -/
def getRegs (k n : Nat) (v : AMap (List PWord)) : List PWord :=
  ((List.range (cdiv n 256)).flatMap (fun i => AMap.get (fun _ => []) v ((k + 2 * i) % 32))).take n

/-- Element widths of the operands of a vector or transcendental slot, and of its result. -/
def opWidths (t : Nat) : Nat × Nat × Nat :=
  match tClass t with
  | 6 => (wdt (tFmtA t), wdt (tFmtB t), wdt (tFmtOut t))
  | 7 => (32, wdt (tFmtB t), 32)
  | 10 => (32, 16, 8)
  | 5 => (32, 32, wdt (tFmtOut t))
  | _ => (32, 32, 32)

/-- The words of operand a of vector operation j: four accesses, one register. -/
def wordsA (r : Running) (j : Nat) : List PWord := ((r.inA.drop (4 * j)).take 4).flatten

/-- Where the words of operand b of vector operation j lie, for n words of operand a: first word, count. -/
def spanB (t j n : Nat) : Nat × Nat :=
  let (wa, wb, _) := opWidths t
  (256 * j * wb / wa, cdiv (n * wb) wa)

/-- The words of operand b of vector operation j. -/
def wordsB (r : Running) (j : Nat) : List PWord :=
  let x := spanB r.slot.tmpl j (wordsA r j).length
  (r.inB.flatten.drop x.1).take x.2

/-- Vector operation j: its operands are loaded into registers 2j and 2j + 1 (modulo 32, and on), read from them, and the
result goes to register 2j, the error terms of QUANT_G8 to 2j + 1. [log 72 DESIGN CHOICE] -/
def vectorOp (r : Running) (j : Nat) (bad : Bool) (c : CellState) : Running × CellState :=
  let t := r.slot.tmpl
  let (wa, wb, wo) := opWidths t
  let na := (wordsA r j).length
  let nb := (wordsB r j).length
  let v := putRegs (2 * j + 1) (wordsB r j) (putRegs (2 * j) (wordsA r j) c.vregs)
  let a := elemsOf wa (getRegs (2 * j) na v)
  let b := elemsOf wb (getRegs (2 * j + 1) nb v)
  let o := (match tClass t with | 6 => mapLanes t a b | 7 => accumLanes t a b | _ => quantLanes a b).poison bad
  (addResults o r, { c with vregs := putRegs (2 * j + 1) (packEls wb o.res2) (putRegs (2 * j) (packEls wo o.res) v) })

/-- Transcendental operation j: access j, in place. -/
def xcendOp (r : Running) (j : Nat) (bad : Bool) : Running :=
  addResults ((xcendLanes r.slot.tmpl (elemsOf 32 (r.inA.getD j []))).poison bad) r

/-- The accumulator rows that a DRAIN reads next: two in a cycle where they fill one write or less, else one (R91).
[log 68 DESIGN CHOICE] -/
def drainNext (r : Running) : List Nat :=
  let t := r.slot.tmpl
  (List.range (min (tCount t - r.rows) (if wdt (tFmtOut t) ≤ 8 then 2 else 1))).map (fun i => bitsOf r.slot.imm 12 5 + r.rows + i)

/-- A DRAIN reads rows into a vector register and converts them (R91, R98). [log 72 DESIGN CHOICE] -/
def drainOp (r : Running) (bad : Bool) (c : CellState) : Running × CellState :=
  let rows := (drainNext r).map (accRow c (bitOf r.slot.imm 13))
  let o := (drainRows r.slot.tmpl rows).poison bad
  let ws := rows.flatMap (fun x => (List.range 128).map (fun n => ({ w := x.v.getD n 0, bad := x.bad } : PWord)))
  (addResults o { r with rows := r.rows + rows.length }, { c with vregs := putRegs (2 * r.rows) ws c.vregs })

/-- The writes that a slot's results so far form; with the scales and the last, partial access once they are all there. -/
def slotWrites (r : Running) (all : Bool) : List PortReq :=
  let x := r.slot
  let w := (opWidths x.tmpl).2.2
  let full := fun (l : List PortReq) => if all then l else l.filter (fun q => q.bits == 2048)
  match tClass x.tmpl with
  | 5 => if all then resultReqs x x.a0 w r.res r.scl else full (writeReqs x x.a0 w r.res)
  | 6 | 7 | 8 => resultReqs x x.a0 w r.res r.scl
  | 10 => resultReqs x (x.a0 + x.imm) 8 r.res r.scl ++ writeReqs x x.a1 16 r.res2
  | _ => []

/-! ### Addresses -/

/-- Port A access k of a slot. -/
def addrA (s : Slot) (k : Nat) : Nat := ((if tClass s.tmpl = 2 then s.a1 else s.a0) + k) % 32768

/-- Port B access k of a slot. -/
def addrB (s : Slot) (k : Nat) : Nat :=
  let t := s.tmpl
  (match tClass t with
    | 1 => s.a0 + 64 + k
    | 2 => let n := actAccesses t + scaleAccesses t
      if k < n then s.a0 + k else s.a1 + 64 + (k - n)
    | 6 | 7 | 10 => s.a1 + k
    | _ => s.a0 + k) % 32768

/-- The accesses a slot would have written (R171). -/
def missTargets (s : Slot) : List Nat :=
  let t := s.tmpl
  let w := (slotTerms t s.imm).2.2.1
  let n := tCount t
  (match tClass t with
    | 10 =>
      (List.range (cdiv n 4 + cdiv n 128)).map (fun j => s.a0 + s.imm + j) ++ (List.range (cdiv n 2)).map (fun j => s.a1 + j)
    | _ => (List.range w).map (fun j => s.a0 + j)).map (· % 32768)

/-- The accumulator rows a slot names (R171). -/
def missRows (s : Slot) : List (Nat × Nat) :=
  match tClass s.tmpl with
  | 2 => (List.range (tCount s.tmpl)).map (fun r => (bitOf s.imm 10, (bitsOf s.imm 9 2 + r) % 256))
  | 4 => smuTargets s.tmpl s.imm
  | _ => []

/-- One access of poisoned zeros: what a missed load leaves in a buffer (R105). -/
def badAccess : List PWord := List.replicate 64 { w := 0, bad := true }

/-- A staging buffer with its first columns replaced; the rest stays (R93). -/
def overlay (l old : List (List PWord)) : List (List PWord) := l ++ old.drop l.length

/-- Poisons what a missed slot would have left inside the cell: accumulator rows, the shadow weight buffer, the columns of
a staging buffer (R105, R171). -/
def missInside (s : Slot) (c : CellState) : CellState :=
  let c := (missRows s).foldl (fun c e => setAcc c e.1 e.2 { accRow c e.1 e.2 with bad := true }) c
  let block := List.replicate (64 + sW s.tmpl) badAccess
  let cols := List.replicate (tCount s.tmpl) badAccess
  match tClass s.tmpl with
  | 1 => { c with shadow := block }
  | 2 => if bitOf s.imm 12 = 1 then { c with shadow := block } else c
  | 3 => if bitOf s.imm 0 = 1 then { c with stage1 := overlay cols c.stage1 } else { c with stage0 := overlay cols c.stage0 }
  | _ => c

/-- Are the operands of unit operation j there (R85). [log 71 DEDUCED] -/
def opReady (s : Slot) (r : Running) (j : Nat) : Bool :=
  let t := s.tmpl
  let (a, b, _, u, _) := slotTerms t s.imm
  match tClass t with
  | 2 => decide (tCount t ≤ j) || (decide (j / 2 < r.inB.length)
      && decide (sA t = 0 ∨ actAccesses t + j * sA t / 256 < r.inB.length))
  | 4 => decide (j + 1 < u) || decide (r.inB.length = b)
  | 6 | 7 | 10 =>
    let n := min a (4 * (j + 1))
    let x := spanB t j (64 * (n - 4 * j))
    decide (n ≤ r.inA.length) && decide (min b (cdiv (x.1 + x.2) 64) ≤ r.inB.length)
  | _ => decide (j < r.inA.length)

end Sys2Proof.Machine
end

