-- ==== Sys2Proof/Machine/Flags.lean ====
section
/-!
DEFINITION. Machine/Flags.lean: alarms, alert and fault lines, classes and causes of faults, and every value a register
reports that is computed from other state.
-/
namespace Sys2Proof.Machine

/-- Class of a fault code (Table 15.5). QUENCH_CMD and SHARED_UNIT are class 4 at module scope, written as partition 0;
DROOP and LINK_ROUTE are class 0 for partition 0. -/
def codeClass (code part : Nat) : Nat :=
  if code = 0x0109 ∨ code = 0x010a ∨ code = 0x010b ∨ code = 0x0208 ∨ code = 0x0407 ∨ code = 0x040f then 0
  else if 0x0101 ≤ code ∧ code ≤ 0x0108 then 2
  else if code = 0x0201 ∨ code = 0x0301 ∨ code = 0x0401 ∨ code = 0x040b then 1
  else if code = 0x0202 ∨ code = 0x0203 ∨ code = 0x0207 ∨ code = 0x0302 ∨ code = 0x0306 ∨ code = 0x040c then 2
  else if code = 0x0405 ∨ code = 0x0501 then (if part = 0 then 0 else 2)
  else if 0x0204 ≤ code ∧ code ≤ 0x0206 then 3
  else if 0x0303 ≤ code ∧ code ≤ 0x030a then 3
  else if 0x0402 ≤ code ∧ code ≤ 0x040e then 3
  else if 0x0502 ≤ code ∧ code ≤ 0x0504 then 3
  else if code = 0x0508 ∨ code = 0x050d ∨ code = 0x0510 then 5
  else if 0x0505 ≤ code ∧ code ≤ 0x050f then 4
  else if 0x0601 ≤ code ∧ code ≤ 0x0603 then 5
  else if code = 0x0604 ∨ code = 0x0609 then (if part = 0 then 4 else 3)
  else if 0x0605 ≤ code ∧ code ≤ 0x060a then 3
  else 0

/-- FLT_LOCK.CAUSE of a class 5 code (Table 15.11). -/
def lockCause (code : Nat) : Nat :=
  if code = 0x0601 then 1 else if code = 0x050d then 2 else if code = 0x0508 then 3 else if code = 0x0510 then 4
  else if code = 0x0602 then 5 else if code = 0x0603 then 6 else 0

/-- The class of a record whose checker may name it (class 1 of a converter, R402). -/
def eventClass (ev : FaultEvent) : Nat := codeClass ev.code ev.part

/-- Highest class among uncleared records that satisfy a condition. -/
def highestUncleared (l : List FaultRec) (p : FaultRec → Bool) : Nat :=
  l.foldl (fun m r => if !r.cleared && p r then max m r.cls else m) 0

/-- FLT_STATUS.HIGHEST (R490). -/
def fltHighest (s : State) : Nat := highestUncleared s.log.recs (fun _ => true)

/-- FLT_STATUS.UNCLEARED: uncleared records of class 2 or higher, saturating (R490). -/
def fltUncleared (s : State) : Nat :=
  min 65535 (s.log.recs.filter (fun r => !r.cleared && decide (2 ≤ r.cls))).length

/-- Does an uncleared record hold a class whose bit is set in FLT_ALERT_EN (R467). -/
def fltAlert (s : State) : Bool :=
  s.log.recs.any (fun r => !r.cleared && bitOf (s.get F.FLT_ALERT_EN_EN) r.cls == 1)

/-- The module carries the manager duties: ACT 1, or 4 after a takeover (Table 16.1). -/
def isManager (s : State) : Bool := s.get F.CHT_MGR_STATUS_ACT == 1 || s.get F.CHT_MGR_STATUS_ACT == 4

/-- The member map's byte of position t: [7] valid, [5:0] SLOT_ID (CHT_MGR_TMAP0, 1). -/
def tmap (s : State) (t : Nat) : Nat :=
  if t < 4 then Word.field (s.rd R.CHT_MGR_TMAP0) (8 * t + 7) (8 * t) else Word.field (s.rd R.CHT_MGR_TMAP1) (8 * t - 25) (8 * t - 32)

/-- Position t holds a member. -/
def memberValid (s : State) (t : Nat) : Bool := bitOf (tmap s t) 7 == 1

/-- A valid member that is UNREACH, LOCKED or reports HIGHEST ≥ 4 makes an acting manager assert ALERT_L (R503). -/
def mgrAlert (s : State) : Bool :=
  isManager s && (List.range 8).any (fun t =>
    memberValid s t &&
      (s.flag (F.CHT_MGR_HEALTH0_UNREACH t) || s.flag (F.CHT_MGR_HEALTH0_LOCKED t) ||
        decide (4 ≤ s.get (F.CHT_MGR_HEALTH0_HIGHEST t))))

/-- ALERT_L is asserted by this module (R467, R433, R444, R462, R503, R505, R324, R520; low in lock, Table 17.3).
[log 114 DEDUCED] -/
def alertDriven (s : State) : Bool :=
  locked s || fltAlert s || s.log.overflowed
    || decide ((s.rd R.TIM_ALARM &&& s.rd R.TIM_ALARM_EN) ≠ 0)
    || decide ((s.rd R.PWR_ALARM &&& s.rd R.PWR_ALARM_EN) ≠ 0)
    || (s.flag F.CHT_RST_STATUS_RESET_STUCK && !s.flag F.CHT_RST_PIN_MASK_MASK)
    || s.flag F.CHT_DEFECT_STATUS_FULL || mgrAlert s || s.flag F.CHT_MGR_STATUS_TAKEOVER
    || s.ports.any (fun e => e.2.stayReduced)

/-- FAULT_L is driven low by this module (R467, Table 17.3): module Quench while not Chitin-only, or lock.
[log 55 DESIGN CHOICE] -/
def faultDriven (s : State) : Bool := locked s || moduleQuenched s

/-- FLT_INJECT is armed at a target (Table 15.9). [log 53 DEDUCED] -/
def injectArmed (s : State) (target : Nat) : Bool := s.flag F.FLT_INJECT_ARM && s.get F.FLT_INJECT_TARGET == target

/-- The number of set bits below `n`. -/
def popCount (v n : Nat) : Nat := ((List.range n).filter (fun i => bitOf v i == 1)).length

/-- Which halves a partition's fields lie in (PRT_STATUS.HALF): 0 none, 1 west, 2 east, 3 both. -/
def maskHalf (m : Nat) : Nat :=
  let l := maskFields m
  (if l.any westHalf then 1 else 0) + (if l.any (fun f => !westHalf f) then 2 else 0)

end Sys2Proof.Machine
end

