-- ==== Sys2Proof/Machine/Frames.lean ====
section
/-!
DEFINITION. Machine/Frames.lean: what a Synael Link frame is and where it goes: groups and coordinates, header, payload,
trailer, routing, the queues of the ports (09_synael_link R292-R311).
-/
namespace Sys2Proof.Machine

/-! ### Ports -/

/-- The ports of each group: T+, T−, P+, P−, S+, S−, D+, D− (09_synael_link). -/
def portGroups : List (List Nat) :=
  [List.range' 0 16, List.range' 16 16, List.range' 32 4, List.range' 36 4, List.range' 40 4, List.range' 44 4,
   List.range' 48 8, List.range' 56 8]

/-- Group of a port. -/
def groupOf (n : Nat) : Nat :=
  if n < 16 then 0 else if n < 32 then 1 else if n < 36 then 2 else if n < 40 then 3 else if n < 44 then 4
  else if n < 48 then 5 else if n < 56 then 6 else 7

/-- VC share of partition p on port n (SNL_VC_SHARE byte p). -/
def vcShare (s : State) (n p : Nat) : Nat :=
  if p < 4 then Word.field (s.rd (R.SNL_VC_SHARE0 n)) (8 * p + 7) (8 * p)
  else Word.field (s.rd (R.SNL_VC_SHARE1 n)) (8 * (p - 4) + 7) (8 * (p - 4))

/-- A port is in the live set: ACTIVE (state 7) and named live in the committed configuration (R315). -/
def portLive (s : State) (n : Nat) : Bool := s.get (F.SNL_STATUS_STATE n) == 7 && s.flag (F.SNL_STATUS_LIVE n)

/-- The module's own coordinate (SNL_COORD, recorded at port 0). -/
def ownCoord (s : State) : Nat := s.get (F.SNL_COORD_COORD 0)

/-! ### Coordinates and groups (R19, Table 10.1) -/

/-- The T, P, S, D coordinate of a packed coordinate (axis 0 to 3). -/
def coordAxis (c a : Nat) : Nat :=
  match a with
  | 0 => c % 8
  | 1 => c / 8 % 16
  | 2 => c / 128 % 8
  | _ => c / 1024 % 128

/-- A coordinate with one axis replaced. -/
def withAxis (c a v : Nat) : Nat := c + v * [1, 8, 128, 1024].getD a 1 - coordAxis c a * [1, 8, 128, 1024].getD a 1

/-- Ring length of an axis (SNL_TORUS, recorded at port 0). -/
def ringLen (s : State) (a : Nat) : Nat :=
  match a with
  | 0 => s.get (F.SNL_TORUS_TM1 0) + 1
  | 1 => s.get (F.SNL_TORUS_PM1 0) + 1
  | 2 => s.get (F.SNL_TORUS_SM1 0) + 1
  | _ => s.get (F.SNL_TORUS_DM1 0) + 1

/-- Axis and direction of a group: even groups are +. -/
def groupAxis (g : Nat) : Nat := g / 2
def groupPlus (g : Nat) : Bool := g % 2 == 0

/-- Ports of a group, and those of them in the live set. -/
def portsOf (g : Nat) : List Nat := portGroups.getD g []
def livePorts (s : State) (g : Nat) : List Nat := (portsOf g).filter (portLive s)

/-- The port of the opposite direction on the same axis, of the same index. -/
def oppositePort (n : Nat) : Nat :=
  if n < 16 then n + 16 else if n < 32 then n - 16 else if n < 36 then n + 4 else if n < 40 then n - 4
  else if n < 44 then n + 4 else if n < 48 then n - 4 else if n < 56 then n + 8 else n - 8

/-- The coordinate `k` positions on along the axis and direction of a port; negative `k` is back along it. -/
def coordAlong (s : State) (n : Nat) (k : Int) : Nat :=
  let a := groupAxis (groupOf n)
  let l := ringLen s a
  let x : Int := coordAxis (ownCoord s) a + (if groupPlus (groupOf n) then k else -k)
  withAxis (ownCoord s) a (x % (l : Int)).toNat

/-! ### Frames (R296-R298) -/

/-- Payload unit of a class. -/
def unitOf (cls : Nat) : Nat := if cls = 1 ∨ cls = 5 then 256 else 128

/-- LEN of a frame: payload and authentication unit, in units of its class. -/
def frameLen (fr : Frame) : Nat :=
  cdiv (fr.payload.length + (if fr.auth then 128 else 0)) (unitOf fr.cls)

/-- Bytes of a frame on the link. -/
def frameBytes (fr : Frame) : Nat := 32 + unitOf fr.cls * frameLen fr

/-- Takes part in link-level retry; sent at schedule times only; uses credits (Table 09.4). -/
def sequenced (fr : Frame) : Bool := fr.cls == 0 || fr.cls == 2 || fr.cls == 7
def scheduled (fr : Frame) : Bool := fr.cls == 1 || fr.cls == 5
def credited (fr : Frame) : Bool := fr.cls == 0 || fr.cls == 7

/-- Committed epoch and digest of a partition; a digest never committed is 32 zero bytes (R452). -/
def cfgEpoch (s : State) (p : Nat) : Nat := s.get (F.CHT_CFG_STATUS_EPOCH p)
def fullDigest (l : List Byte) : List Byte := if l.isEmpty then List.replicate 32 0 else l
def cfgDigest (s : State) (p : Nat) : List Byte := fullDigest (s.part p).digest

/-- CFG_DIGEST of a header: bytes 0 and 1, byte 0 the more significant (R451). -/
def digest16 (l : List Byte) : Nat := 256 * (l.getD 0 0).toNat + (l.getD 1 0).toNat

/-- A frame this module originates (Table 09.3). -/
def mkFrame (s : State) (cls part tag dst srcEp : Nat) (payload : List Byte) : Frame :=
  { cls := cls, part := part, gen := s.get (F.MSH_GEN_GEN part), epoch := cfgEpoch s part
    digest := digest16 (cfgDigest s part), tag := tag, dst := dst, src := 8 * ownCoord s + srcEp, payload := payload }

/-- The 16 header bytes, most significant first (Table 09.3). -/
def headerBytes (fr : Frame) : List Byte :=
  let w := fr.ver * 2 ^ 124 + fr.cls * 2 ^ 120 + fr.part * 2 ^ 117 + fr.gen * 2 ^ 109 + fr.epoch * 2 ^ 93
    + fr.digest * 2 ^ 77 + fr.tag * 2 ^ 53 + fr.dst * 2 ^ 33 + fr.src * 2 ^ 13 + frameLen fr * 8
    + (if fr.auth then 4 else 0) + (if fr.poison then 2 else 0) + (if fr.dl then 1 else 0)
  (leBytes w 16).reverse

/-- The authentication unit that an authenticated payload begins with (R298). -/
def authUnit (fr : Frame) : List Byte := if fr.auth then leBytes fr.counter 8 ++ List.replicate 120 0 else []

/-- The payload on the link: the authentication unit, the payload, zeros up to LEN units. -/
def frameBody (fr : Frame) : List Byte :=
  let l := authUnit fr ++ fr.payload
  l ++ List.replicate (unitOf fr.cls * frameLen fr - l.length) 0

/-- Bytes 0 to 11 of the trailer. -/
def trailerTag (fr : Frame) : List Byte := (fr.mac ++ List.replicate 12 0).take 12

/-- What the CRC-32 of a frame covers (R296), and its value. -/
def frameCovered (fr : Frame) : List Byte := headerBytes fr ++ frameBody fr ++ trailerTag fr
def frameCrc (fr : Frame) : Nat := crc32 (frameCovered fr)

/-- The CRC-32 of a frame is the one its trailer carries (Table 09.7, check 2). -/
def crcGood (fr : Frame) : Bool := fr.crc == frameCrc fr

/-- A frame on the link, byte by byte. [log 140 DEDUCED] -/
def frameWire (fr : Frame) : List Byte := frameCovered fr ++ (leBytes fr.crc 4).reverse

/-- A frame with its CRC-32. -/
def withCrc (fr : Frame) : Frame := { fr with crc := frameCrc fr }

/-- A frame read back from its bytes (R262): header, payload, trailer. -/
def frameOf (l : List Byte) : Frame :=
  let w := leAt (l.take 16).reverse 0 16
  let cls := bitsOf w 123 120
  let n := unitOf cls * bitsOf w 12 3
  let auth := bitOf w 2 == 1
  let body := (l.drop 16).take n
  { ver := bitsOf w 127 124, cls := cls, part := bitsOf w 119 117, gen := bitsOf w 116 109, epoch := bitsOf w 108 93
    digest := bitsOf w 92 77, tag := bitsOf w 76 53, dst := bitsOf w 52 33, src := bitsOf w 32 13
    auth := auth, poison := bitOf w 1 == 1, dl := bitOf w 0 == 1, payload := if auth then body.drop 128 else body
    counter := if auth then leAt body 0 8 else 0, mac := (l.drop (16 + n)).take 12
    crc := leAt ((l.drop (28 + n)).take 4).reverse 0 4 }

/-! ### Queueing and routing (R311, R316, R317) -/

/-- A quench of the frame's partition discards it (R310). -/
def quenchGone (s : State) (fr : Frame) : Bool := (fr.cls == 0 || fr.cls == 7) && fr.part != 0 && partState s fr.part == 4

/-- A frame waits at a port for its turn; one that a quench discards is counted in DROP_CNT1.DARK (R310). -/
def enqueue (n : Nat) (fr : Frame) (s : State) : State :=
  if quenchGone s fr then s.count (F.SNL_DROP_CNT1_DARK n) 1 else s.setPort n { s.port n with q := (s.port n).q ++ [fr] }

/-- The alternate group of a group, where it has one (SNL_DETOUR, recorded at port 0). -/
def detourOf (s : State) (g : Nat) : Option Nat :=
  let v := s.get (F.SNL_DETOUR_ALT 0 g)
  if 8 ≤ v then some (v % 8) else none

/-- The port of a group that a flow takes (R311). -/
def flowPort (l : List Nat) (fr : Frame) : Option Nat := l[((fr.src / 8) ^^^ (fr.tag % 4096)) % l.length]?

/-- The link of a port is the wrap link of its axis (R311). -/
def wrapLink (s : State) (n : Nat) : Bool :=
  let a := groupAxis (groupOf n)
  let x := coordAxis (ownCoord s) a
  if groupPlus (groupOf n) then x == ringLen s a - 1 else x == 0

/-- Dimension-order routing: the port a frame leaves by and its DL; none where it has none (R311, R316). -/
def routeFrame (s : State) (fr : Frame) (arrival : Option Nat) : Option (Nat × Bool) :=
  let own := ownCoord s
  let dst := fr.dst / 8
  match [0, 1, 2, 3].find? (fun a => coordAxis dst a != coordAxis own a) with
  | none => none
  | some a =>
    let l := ringLen s a
    let fwd := (coordAxis dst a + l - coordAxis own a) % l
    let g := 2 * a + (if 2 * fwd ≤ l then 0 else 1)
    let live := livePorts s g
    let live := if live.isEmpty then ((detourOf s g).map (livePorts s)).getD [] else live
    (flowPort live fr).map (fun n => (n, wrapLink s n || (fr.dl && arrival.any (fun m => groupAxis (groupOf m) == a))))

/-- A frame this module originates goes to the port its route names; without a route it is dropped. -/
def sendFrame (fr : Frame) (s : State) : State :=
  match routeFrame s fr none with
  | some (n, dl) => enqueue n { fr with dl := dl } s
  | none => s

end Sys2Proof.Machine
end

