-- ==== Sys2Proof/Machine/Steps.lean ====
section
/-!
DEFINITION. Machine/Steps.lean: the step records of a partition, and when a step is committed (12_command_protocol R388,
R390).
-/
namespace Sys2Proof.Machine

def grpPart (s : State) (v g : Nat) : Nat := s.get (F.UPD_G_CFG_PART v g)

/-- A group in force; group numbers of partition p in a Vault. -/
def grpOn (s : State) (v g : Nat) : Bool := s.flag (F.UPD_G_CFG_VALID v g)
def groupsOf (s : State) (v p : Nat) : List Nat := (List.range 16).filter (fun g => grpOn s v g && grpPart s v g == p)

/-- Every group of p, by Vault. -/
def groupsAll (s : State) (p : Nat) : List (Nat × Nat) := (List.range 12).flatMap (fun v => (groupsOf s v p).map (fun g => (v, g)))

/-- A group has finished or skipped its update of the step that began at a boundary. -/
def noteUpdated (p : Nat) (base : Fet) (v g : Nat) (s : State) : State :=
  markStepAt p base (fun k => { k with groups := if k.groups.contains (v, g) then k.groups else k.groups ++ [(v, g)] }) s

/-- Every group of p has finished or skipped its update of a step (R276, R390). -/
def stepUpdated (s : State) (p : Nat) (k : StepLog) : Bool := (groupsAll s p).all k.groups.contains

/-- Every started field of p has issued the STEP bundle of a boundary later than S (R390). -/
def stepPassed (s : State) (p : Nat) (b : Fet) : Bool :=
  planStarted s p && (partFields s p).all (fun f => !s.flag (F.FLD_STATUS_STARTED f) || decide (b < (s.fieldD f).base))

/-- The step that began at S is committed (R390). [log 23 DESIGN CHOICE] -/
def stepCommitted (s : State) (p : Nat) (b : Fet) : Bool :=
  (s.part p).steps.any (fun k => k.base == b && (k.done ||
    (!k.lost && stepPassed s p b && stepUpdated s p k && (!s.flag (F.UPD_DIGEST_CFG_EN 0 p) || !k.digest.isEmpty))))

/-- The steps committed so far stay so when the sequencers stop. [log 23 DESIGN CHOICE] -/
def closeSteps (p : Nat) (s : State) : State :=
  let d := s.part p
  s.setPart p { d with steps := d.steps.map (fun k => { k with done := stepCommitted s p k.base }) }

/-- A quench leaves no step of p to be committed (R390). [log 23 DESIGN CHOICE] -/
def loseSteps (p : Nat) (s : State) : State :=
  let s := closeSteps p s
  let d := s.part p
  s.setPart p { d with steps := d.steps.map (fun k => { k with lost := k.lost || !k.done }) }

/-- Exactly `n` bytes of a list, zeros where it ends early. -/
def exactly (n : Nat) (l : List Byte) : List Byte := l.take n ++ List.replicate (n - l.length) 0

/-- The 48-byte result of STEP_COMMIT (Table 12.7). -/
def commitResult (s : State) (p : Nat) (b : Fet) : List Byte :=
  let bit := fun (x : Bool) => if x then (1 : Byte) else 0
  match (s.part p).steps.find? (fun k => k.base == b) with
  | none => leBytes b 8 ++ List.replicate 40 0
  | some k => leBytes b 8 ++ leBytes k.count 4 ++ leBytes k.lanes 1 ++ [bit k.abst, bit k.skipped, 0] ++ exactly 32 k.digest

end Sys2Proof.Machine
end

