-- ==== Sys2Proof/Machine/Quench.lean ====
section
/-!
DEFINITION. Machine/Quench.lean: what a quench does to the units of its scope (R468-R472, Table 15.6), powering off, and
the lock latch (R474).
-/
namespace Sys2Proof.Machine

/-- The ports a notice of partition p goes out on: the lowest live port of every group on which VC p has a non-zero
share (R471), less one group. -/
def noticePorts (s : State) (p : Nat) (except : Option Nat) : List Nat :=
  ((List.range 8).filter (fun g => some g != except)).filterMap (fun g =>
    (portGroups.getD g []).find? (fun n => portLive s n && vcShare s n p != 0))

/-- Payload of a notice (R471). [log 143 DEDUCED] -/
def noticeBytes (n : Notice) : List Byte :=
  5 :: List.replicate 15 0 ++ leBytes n.kind 1 ++ leBytes n.part 1 ++ leBytes n.origin 3 ++ leBytes 0 3 ++ leBytes n.index 4
    ++ leBytes n.fet 8 ++ leBytes n.gen 1 ++ List.replicate 91 0

/-- Sends a notice on its ports: a control frame to each link partner (R471). [log 143 DEDUCED] -/
def sendNotice (n : Notice) (except : Option Nat) (s : State) : State :=
  s.forEach (noticePorts s n.part except) (fun k t =>
    enqueue k (mkFrame t 2 n.part 0 (8 * coordAlong t k 1) 5 (noticeBytes n)) t)

/-- Drops what is registered in a range of offsets through `f`, entry by entry. -/
def State.overRegs (s : State) (lo hi : Nat) (f : Nat → Word → Word) : State :=
  (s.regs.filter (fun e => decide (lo ≤ e.1) && decide (e.1 < hi))).foldl (fun t e => t.wr e.1 (f e.1 e.2)) s

/-! ### Regulators (R403) -/

/-- Where a regulator on its way stands at a FET: it steps in 5 mV at 6 mV/µs (R403). -/
def slewAt (r : Slew) (now : Fet) : Nat :=
  let k := 2 * ((now - r.since) * 6 / 5000)
  if r.start < r.goal then min r.goal (r.start + k) else max r.goal (r.start - k)

/-- The set point in force of domain d is set at once, whatever move was under way. -/
def holdAt (d v : Nat) (s : State) : State :=
  { s.set (F.PWR_DOM_CFG_VSET d) v with power := { s.power with slews := s.power.slews.filter (fun r => r.dom != d) } }

/-- The regulator of domain d starts toward a set point (R403, R405). -/
def slewTo (d v : Nat) (s : State) : State :=
  let now := s.get (F.PWR_DOM_CFG_VSET d)
  let s := holdAt d now s
  if now = v then s else { s with power := { s.power with slews := s.power.slews ++ [⟨d, now, v, s.fet⟩] } }

/-- Every regulator on its way stands where its slew has brought it. -/
def slewAll (s : State) : State :=
  match s.power.slews with
  | [] => s
  | l =>
    let t := l.foldl (fun t r => t.set (F.PWR_DOM_CFG_VSET r.dom) (slewAt r s.fet)) s
    { t with power := { t.power with slews := l.filter (fun r => slewAt r s.fet != r.goal) } }

/-- The FET at which domain d stands at its set point. -/
def slewEnd (s : State) (d : Nat) : Fet :=
  match s.power.slews.find? (fun r => r.dom == d) with
  | some r => r.since + ((max r.start r.goal - min r.start r.goal + 1) / 2 * 5000 + 5) / 6
  | none => s.fet

/-- A cluster goes to RETENTION: its regulator to 0.600 V (R403, R408). -/
def retain (d : Nat) (s : State) : State := slewTo d 240 (s.set (F.PWR_DOM_STATUS_STATE d) 4)

/-! ### Quench ramps (R421) -/

/-- The ballast of a quench ramp at a FET, 10 mW units: what its clusters drew, lowered at its slew. -/
def rampBallast (r : QuenchRamp) (now : Fet) : Nat := r.start - r.slew * (now - r.since) / 1000

/-- The ballast of every quench ramp, 10 W units. -/
def rampsBallast (s : State) : Nat := (s.power.ramps.map (rampBallast · s.fet)).sum / 1000

/-- Clusters of some fields that are ON. -/
def clustersOn (s : State) (fs : List Nat) : Nat :=
  (fs.map (fun f => ((List.range 8).filter (fun k => domState s (domOf f k) == 3)).length)).sum

/-- A quench ramp of a scope begins: in the same cycle its cells run ballast at the draw each cluster had, at most 17.3 W
(Table 13.3), which nothing else of the model gives. A slew below 500 W/ms is raised to it. [log 159 DEDUCED] -/
def startRamp (scope slew : Nat) (fs : List Nat) (s : State) : State :=
  let room := 1730 * clustersOn s fs
  let (w, s) := s.free
  let start := w.toNat % (room + 1)
  let r : QuenchRamp := ⟨scope, max 50 slew, start, s.fet⟩
  let s := { s with power := { s.power with ramps := s.power.ramps ++ [r] } }
  s.set F.PWR_BALLAST_NOW (min 65535 (max (s.get F.PWR_BALLAST_NOW) (rampsBallast s)))

/-! ### Plan sequencers, jobs and vaults of a quenched scope -/

/-- A cell abandons its queue, its slots and what it has not been granted; its tag table is cleared (R184). -/
def abandonCell (c : CellState) : CellState :=
  { c with
    queue := [], rep := none, parked := [], tags := [], running := [], tile := none
    portB := c.portB.filter (fun r => r.cls != 0), wport := c.wport.filter (fun r => r.cls != 0) }

/-- The cells of a field stop (R184). -/
def stopCells (f : Nat) (s : State) : State :=
  s.forEach (List.range 72) (fun p t =>
    let t := t.setCell f p (abandonCell (t.cell f p))
    let t := (t.set (F.CEL_STATUS_PARKED f p) 0).set (F.CEL_STATUS_FU_FULL f p) 0
    (t.set (F.CEL_STATUS_SENTINEL f p) 0).set (F.CEL_STATUS_STALLED f p) 0)

/-- A field's sequencer stops: nothing of the plan is waited for any more (R184). -/
def haltSeq (f : Nat) (s : State) : State :=
  let s := s.set (F.FLD_STATUS_STARTED f) 0
  let s := s.set (F.FLD_STATUS_STOP_PENDING f) 0
  let s := s.set (F.FLD_STATUS_WAIT_STEP f) 0
  let s := s.set (F.FLD_STATUS_WAIT_GATE f) 0
  s.set (F.FLD_STATUS_BP f) 0

/-- The packets of SEND slots of a field that are abandoned before their last access was read end with them (R184): a resend,
which the NI reads by itself, goes on. [log 76 DEDUCED] -/
def dropPartials (f : Nat) (s : State) : State :=
  let cut := fun (p : Packet) => p.refusals == 0 && p.cls == 1 && decide (p.data.length < p.len)
  let mine := fun (p : Packet) => p.srcPhys / 72 == f && cut p
  let s := { s with mesh := { s.mesh with packets := s.mesh.packets.filter (fun p => !mine p) } }
  let s := { s with nis := AMap.mapVals (fun _ => {}) (fun ni => { ni with ctx := ni.ctx.filter (fun e => !mine e.1) }) s.nis }
  s.forEach (List.range 72) (fun p t => t.setNi f p { t.ni f p with out := (t.ni f p).out.filter (fun q => !cut q) })

/-- Immediate stop of a field's sequencer and cells (R184, R469). -/
def stopField (f : Nat) (s : State) : State := dropPartials f (stopCells f (haltSeq f s))

/-- A field whose uncore loses its supply is a hole (R197): the packets that stand in its routers and its NIs are lost.
[log 76 DEDUCED] -/
def loseMesh (f : Nat) (s : State) : State :=
  let here := fun (x y : Nat) => fieldAt (y / 9) (x / 8) == some f
  { s with
    nis := s.nis.filter (fun e => e.1 / 78 != f)
    mesh := { s.mesh with packets := s.mesh.packets.filter (fun p => !here p.x p.y && !p.trail.any (fun b => here b.x b.y)) } }

/-- A descriptor writes a scratchpad (Table 07.3, TYPE). -/
def toScratch (word : Nat) : Bool := bitsOf word 3 0 == 1

/-- Running and queued descriptors of a field are discarded and counted in ERR_COUNT. Accesses already started complete
where they write a scratchpad, without a TAGGED arrival; those that write a tier are dropped (Table 15.6). -/
def dropMovers (f : Nat) (s : State) : State :=
  let d := s.fieldD f
  let s := s.count (F.VLT_MV_STATUS_ERR_COUNT f) d.descs.length
  let s := s.setField f { d with descs := [], accs := d.accs.filter (fun a => toScratch a.word) }
  let s := s.forEach (List.range 32) (fun q t => (t.set (F.VLT_MQ_STATUS_POSTED f q) 0).set (F.VLT_MQ_STATUS_RUNNING f q) 0)
  s.forEach (List.range 72) (fun p t =>
    let c := t.cell f p
    t.setCell f p { c with acks := [], wport := c.wport.map (fun r => if r.cls = 2 then { r with tag := none } else r) })

/-- Field hosts halted at an instruction boundary (Table 15.6). -/
def haltHosts (f : Nat) (s : State) : State := s.setField f { s.fieldD f with hostsHalted := true }

/-- UE groups of p between their first result and their finished update in some Vault (R472). -/
def groupsUpdating (s : State) (p : Nat) : Bool :=
  (List.range 12).any (fun v => (List.range 16).any (fun g =>
    bitOf (s.get (F.UPD_STATUS_UPDATING v)) g == 1 && s.get (F.UPD_G_CFG_PART v g) == p))

/-- A CKPT_WRITE of p is in progress. -/
def ckptWriting (s : State) (p : Nat) : Bool :=
  s.jobs.any (fun j => j.fin.isNone && (match j.work with | .ckptWrite q => q == p | _ => false))

/-- Drops the shadow copies of a pending map update (R48, R212). [log 27 DESIGN CHOICE] -/
def dropShadow (s : State) : State := { s.set F.MSH_MAP_STATUS_PENDING 0 with mesh := { s.mesh with shadow := none } }

/-- What a quench makes of a command in progress (R383): its status and result, or none where it runs on. `p` is none for the
module, of which every opcode is refused but PART_DESTROY and Chitin's. [log 27 DESIGN CHOICE] -/
def quenchOutcome (s : State) (p : Option Nat) (w : Work) : Option (Nat × List Byte) :=
  let mine := fun (q : Nat) => p.all (· == q)
  match w with
  | .stepCommit q b => if !mine q then none else if stepCommitted s q b then some (0, commitResult s q b) else some (0x0500, [])
  | .ckptWrite q | .cfgCommit q _ | .inject q .. => if mine q then some (0x0500, []) else none
  | .move q dir .. => if mine q && dir != 1 then some (0x0400, []) else none
  | .partCreate .. | .planLoad .. | .planStop _ | .ckptRestore .. | .migrate .. | .mapUpdate .. | .sentinelRun .. =>
    if p.isNone then some (0x0500, []) else none
  | .partDestroy _ | .domainOn _ | .warm | .quench _ => none

/-- Ends the asynchronous commands that a quench refuses (R383). -/
def quenchJob (s : State) (p : Option Nat) (j : Job) : Job :=
  if j.fin.isSome then j else { j with fin := (quenchOutcome s p j.work).map (fun x => (x.1, x.2, s.fet)) }

/-- Ends the asynchronous commands that a quench refuses, with what they had armed: injections, and for the module the shadow
copies of a MAP_UPDATE and a commit of partition 0 (R383). -/
def quenchJobs (p : Option Nat) (s : State) : State :=
  let held := fun (w : Work) => match w with | .mapUpdate .. => true | _ => false
  let t := { s with
    jobs := s.jobs.map (quenchJob s p), injects := s.injects.filter (fun a => !p.all (· == a.part)) }
  if p.isSome then t else
  let t := if s.jobs.any (fun j => j.fin.isNone && held j.work) && s.mesh.shadow.any (·.copies.isEmpty) then dropShadow t else t
  (t.setPart 0 { t.part 0 with commit := none }).set (F.CHT_CFG_STATUS_PENDING 0) 0


/-- The checkpoint of p ends in every Vault, one armed for an epoch to come included (R233, Table 15.6). -/
def stopCkpt (p : Nat) (s : State) : State :=
  let s := s.forEach (List.range 12) (fun v t =>
    if (t.vault v).ckpt.any (fun k => k.part == p) then
      let t := t.setVault v { t.vault v with ckpt := none }
      ((t.set (F.VLT_CKPT_STATUS_ACTIVE v) 0).set (F.VLT_CKPT_STATUS_UNSAVED v) 0).set (F.VLT_P_STATUS_WRITING v) 0
    else t)
  s.setPart p { s.part p with ckptAt := none, ckptRegions := [] }

/-- Data and management frames of VC p queued at the ports are discarded and counted in DROP_CNT1.DARK (R310).
[log 94 DEDUCED] -/
def dropPortFrames (p : Nat) (s : State) : State :=
  s.forEach (List.range 64) (fun n t =>
    let gone := fun (fr : Frame) => fr.part == p && (fr.cls == 0 || fr.cls == 7)
    let d := t.port n
    let t := t.setPort n { d with q := d.q.filter (fun fr => !gone fr) }
    t.count (F.SNL_DROP_CNT1_DARK n) (d.q.filter gone).length)

/-- A port whose link is down holds no frame and no link state. -/
def quietPort (n : Nat) (s : State) : State :=
  s.setPort n { s.port n with
    q := [], sched := [], unacked := [], replaying := [], txSeq := 0, rxAck := 4095, nak := false, failSeq := 0
    failRun := 0, used := [], returned := [], freed := [], deficit := [], digestSeen := [], digestMiss := []
    searchSince := none, rateSlot := none, lowRuns := [], strictPaid := [], authTx := [], authRx := [], txFrame := [], txFree := 0
    txSched := false, crSel := 0, negWord := 0, msgs := [], rxLost := false }

/-- A port takes a state outside service: out of the live set, its link state gone, no retrain requested or agreed (R314,
R315, R324). -/
def portTo (n st : Nat) (s : State) : State :=
  let s := (s.set (F.SNL_STATUS_STATE n) st).set (F.SNL_STATUS_LIVE n) 0
  quietPort n (wrPair (s.set (F.SNL_STATUS_RETRAIN_PEND n) 0) (R.SNL_RETRAIN_LO n) (R.SNL_RETRAIN_HI n) 0)

/-- Quench of tenant partition p (R468, R469, R472, R383): its units act as Table 15.6 says, its armed boundaries and
its pending commit go, and a ramp starts at `slew` (10 W/ms, never below 50; R421). [log 27 DESIGN CHOICE] -/
def quenchPartition (p slew : Nat) (s : State) : State :=
  let intact := !groupsUpdating s p && !(ckptWriting s p && (s.part p).ckptAt.isNone)
  let s := loseSteps p s
  let s := s.forEach (partFields s p) (fun f t => haltHosts f (dropMovers f (stopField f t)))
  let s := stopCkpt p s
  let s := dropPortFrames p s
  let s := quenchJobs (some p) s
  let d := s.part p
  let s := s.setPart p { d with armed := [], commit := none }
  let s := s.set (F.CHT_CFG_STATUS_PENDING p) 0
  let s := s.set (F.FLT_PART_SUM_STATE_INTACT p) (if intact then 1 else 0)
  let s := setPartState s p 4
  let s := startRamp p slew (partFields s p) s
  { s with power := { s.power with tierSelfRefresh := (partFields s p).foldl (fun l f => setAdd f l) s.power.tierSelfRefresh } }

/-- The ramp limit in force, 10 W/ms (PWR_ENV_RAMP.RAMP). -/
def rampLimit (s : State) : Nat := s.get F.PWR_ENV_RAMP_RAMP

/-- Quench of the module (R468): every tenant partition that is READY or RUNNING, every field, and the module ramp. -/
def quenchModule (slew : Nat) (s : State) : State :=
  if moduleQuenched s then s else
  let s := s.forEach [1, 2, 3, 4, 5, 6, 7] (fun p t =>
    if partState t p == 2 || partState t p == 3 then quenchPartition p slew t else t)
  let s := quenchJobs none (s.forEach allFields (fun f t => haltHosts f (dropMovers f (stopField f t))))
  let s := s.set F.FLT_STATUS_QUENCHED 1
  let s := s.set F.PWR_STATUS_QUENCH 1
  let s := s.set F.PWR_STATUS_RAMP_DOWN 1
  let s := startRamp 0 slew (allFields.filter (fun f => !s.power.ramps.any (fun r => r.scope == ownerOf s f))) s
  { s with power := { s.power with
      tierSelfRefresh := allFields.foldl (fun l f => setAdd f l) s.power.tierSelfRefresh, vaultRefresh := true } }

/-! ### Power-off and lock -/

/-- The scratchpad reads as zero, with valid parity (R117). -/
def zeroScratch (c : CellState) : CellState := { c with sp := [], spBad := [], spInj := [], spBase := [], spSrc := [] }

/-- Positions of the cells of cluster domain d; none for an uncore. -/
def clusterCells (d : Nat) : List Nat := (List.range 72).filter (fun p => clusterOf (p % 8) (p / 8) == d % 9)

/-- A cell whose cluster loses its supply: its scratchpad is lost, and a zeroing in progress with it (R27, R408). -/
def loseScratch (f pos : Nat) (s : State) : State :=
  (s.setCell f pos (zeroScratch (s.cell f pos))).set (F.CEL_STATUS_SP_ZEROING f pos) 0

/-- Turns a power domain off: OFF; a cluster's scratchpads are lost, an uncore's clock generator is no longer aligned and
its routers are a hole (R408, R27, R50, R197). A FAILED domain stays FAILED. [log 57 DEDUCED] -/
def domainOff (d : Nat) (s : State) : State :=
  if domState s d == 5 then s
  else
    let s := holdAt d 0 (s.set (F.PWR_DOM_STATUS_STATE d) 0)
    let s := s.forEach (clusterCells d) (loseScratch (d / 9))
    if d % 9 = 8 then loseMesh (d / 9) ((s.set (F.CLK_STATUS_LOCKED (d / 9)) 0).set (F.CLK_STATUS_SKEW_PS (d / 9)) 0) else s

/-- Every regulator and stage converter off (R394 POWER_DOMAIN ACTION 2, R427, R446, R474): every domain OFF, the
scratchpads lost, no clock generator aligned, wake queue and wakes in progress gone, PWRGD low, STEP_DONE 1.
[log 104 DEDUCED] -/
def powerOffAll (s : State) : State :=
  let s := s.overRegs 0x11000 0x17300 (fun o w =>
    if (o - 0x11000) % 32 = 0 then (if Word.field w 31 29 = 5 then w else Word.withField w 31 29 0)
    else if (o - 0x11000) % 32 = 4 then Word.withField w 8 0 0 else w)
  let s := s.overRegs 0x28000 0x28580 (fun o w =>
    if o % 16 = 12 then Word.withField (Word.withField w 8 8 0) 31 16 0 else w)
  let s := s.overRegs 0x800000 0xd80000 (fun o w =>
    if 0x8000 ≤ o % 0x10000 ∧ o % 0x10000 < 0xc800 ∧ o % 256 = 0 then Word.withField w 5 5 0 else w)
  let s := { s with
    cells := AMap.mapVals (fun _ => {}) zeroScratch s.cells, nis := [], mesh := { s.mesh with packets := [] } }
  let s := { s with power := { s.power with wakeQ := [], entering := [], slews := [], ramps := [], poweredStacks := [], emulating := false, charger := 0 } }
  let s := (s.set F.PWR_TOKEN_QUEUED 0).set F.PWR_STATUS_RAMP_DOWN 0
  let s := (s.set F.PWR_BALLAST_NOW 0).set F.PWR_BALLAST_CAP 0
  let s := s.set F.CHT_STATUS_STEP_DONE (min 1 (stepDone s))
  let s := s.set F.CHT_STATUS_RUNNING 0
  let s := (s.set F.CHT_STATUS_SCARAB_UP 0).set F.CHT_FW_STATUS_VERSION 0
  let s := { s.set F.CHT_PIN_STATUS_PWRGD 0 with boot := { s.boot with logLost := true } }
  s.forEach (List.range 64) (fun n t => if t.get (F.SNL_STATUS_STATE n) == 0 then t else portTo n 0 t)

/-- Makes the pins safe (R513, Table 17.3): the SNL transmitters and PCI Express transmitters go to electrical idle. -/
def pinsSafe (s : State) : State :=
  let s := { s with boot := { s.boot with pinSafe := true } }
  let s := s.set F.CHT_PIN_STATUS_PIN_SAFE 1
  s.forEach (List.range 64) (fun n t => if t.get (F.SNL_STATUS_STATE n) == 0 then t else portTo n 1 t)

/-- Chitin commits its fault-log store (R427, R474). -/
def commitStore (s : State) : State := { s with log := { s.log with committed := true } }

/-- The lock latch is set with a cause (R474): everything off, pins safe, FAULT_L low, the reserve disconnected.
[log 116 DEDUCED] -/
def setLock (cause : Nat) (s : State) : State :=
  if locked s then s else
  let s := quenchModule (rampLimit s) s
  let s := powerOffAll s
  let s := pinsSafe s
  let s := s.set F.FLT_LOCK_LOCKED 1
  let s := s.set F.FLT_LOCK_CAUSE cause
  let s := (s.set F.FLT_STATUS_LOCKED 1).set F.PWR_HOLDUP_ON_HOLDUP 0
  if cause = 1 ∨ cause = 5 then s else commitStore s

end Sys2Proof.Machine
end

