-- ==== Sys2Proof/Machine/Faults.lean ====
section
/-!
DEFINITION. Machine/Faults.lean: raising a fault, as one shared operation: the record, the log, the collector, the
counts, and the reaction of its class (15_faults_and_silent_errors). Every checker of the model raises through
`raiseFault`; `note` raises the class 0 NOTE of register accesses and rules.
-/
namespace Sys2Proof.Machine

/-- The power domain whose sensor is nearest to the unit of a field collector's event (Table 15.3, TEMP and VOLT). -/
def eventDomain (ev : FaultEvent) : Option Nat :=
  if 88 ≤ ev.collector then none
  else if 1 ≤ ev.unitType ∧ ev.unitType ≤ 6 then some (domOfCell ev.collector ev.inst)
  else if ev.unitType = 16 ∧ ev.inst < 8 then some (domOf ev.collector ev.inst)
  else some (domOf ev.collector 8)

/-- TEMP and VOLT of a record: the last samples of the unit's domain; elsewhere a sensor no register shows.
[log 102 DESIGN CHOICE] -/
def eventSensors (s : State) (ev : FaultEvent) : Nat × Nat :=
  match eventDomain ev with
  | some d => (s.get (F.PWR_DOM_STATUS_TEMP d), s.get (F.PWR_DOM_STATUS_VNOW d))
  | none => ((Config.sensorTemp ev.unitType ev.inst).toNat, (Config.sensorVolt ev.unitType ev.inst).toNat)

/-- Does a class 0 or 1 event coalesce into an earlier record (R462). -/
def coalesces (now : Fet) (cls : Nat) (ev : FaultEvent) (r : FaultRec) : Bool :=
  decide (cls ≤ 1) && r.ev.code == ev.code && r.ev.collector == ev.collector && r.ev.unitType == ev.unitType
    && r.ev.inst == ev.inst && r.ev.part == ev.part && decide (now ≤ r.fet + 1000000)
    && (ev.code != 0x060b || r.ev.detail.getD 0 0 == ev.detail.getD 0 0)

/-- Replaces the first record that satisfies a condition. -/
def editFirst (p : FaultRec → Bool) (f : FaultRec → FaultRec) : List FaultRec → List FaultRec
  | [] => []
  | r :: rs => if p r then f r :: rs else r :: editFirst p f rs

/-- Removes the first record that satisfies a condition. -/
def dropFirst (p : FaultRec → Bool) : List FaultRec → List FaultRec
  | [] => []
  | r :: rs => if p r then rs else r :: dropFirst p rs

/-- The log with one place freed for a record of class `cls`, or none where the record is dropped (R462).
[log 114 DEDUCED] -/
def makeRoom (cls : Nat) (l : List FaultRec) : Option (List FaultRec) :=
  if l.length < 65536 then some l
  else if l.any (fun r => decide (r.cls ≤ 1)) then some (dropFirst (fun r => decide (r.cls ≤ 1)) l)
  else if l.any (·.cleared) then some (dropFirst (·.cleared) l)
  else if cls ≤ 1 then none
  else if l.any (fun r => r.cls == 2) then some (dropFirst (fun r => r.cls == 2) l)
  else some (l.drop 1)

/-- Chitin's fault-log store takes a record: 1,024 records, the oldest cleared one going first, then the oldest.
[log 113 DEDUCED] -/
def chitinStore (l : List FaultRec) (r : FaultRec) : List FaultRec :=
  if l.length < 1024 then l ++ [r]
  else if l.any (·.cleared) then dropFirst (·.cleared) l ++ [r]
  else l.drop 1 ++ [r]

/-- The class counters of a collector and of the partition count an event (R461, Table 15.11). -/
def countEvent (cls : Nat) (ev : FaultEvent) (s : State) : State :=
  let c := ev.collector
  let s := match cls with
    | 0 => s.count (F.FLT_C_CNT0_CLASS0 c) 1
    | 1 => s.count (F.FLT_C_CNT0_CLASS1 c) 1
    | 2 => (s.count (F.FLT_C_CNT1_CLASS2 c) 1).count (F.FLT_PART_SUM_CNT2 ev.part) 1
    | 3 => (s.count (F.FLT_C_CNT1_CLASS3 c) 1).count (F.FLT_PART_SUM_CNT3 ev.part) 1
    | 4 => s.count (F.FLT_C_STATUS_CLASS4 c) 1
    | _ => s.count (F.FLT_C_STATUS_CLASS5 c) 1
  let k := 6 * ev.part + cls
  { s with log := { s.log with
    events := s.log.events + 1, lastOf := AMap.put (fun _ => 0) s.log.lastOf cls (s.log.events + 1)
    clsCounts := AMap.put (fun _ => 0) s.log.clsCounts k (min 65535 (AMap.get (fun _ => 0) s.log.clsCounts k + 1)) } }

/-- Changes the record at an index, and its copy in Chitin's store. -/
def editRecord (idx : Nat) (f : FaultRec → FaultRec) (s : State) : State :=
  let g := fun (l : List FaultRec) => l.map (fun r => if r.index = idx then f r else r)
  { s with log := { s.log with recs := g s.log.recs, chitin := g s.log.chitin } }

/-- The record at an index is of lower standing than an event of the same cycle (R461): class, then unit type,
instance and code. -/
def yieldsFirst (s : State) (cls : Nat) (ev : FaultEvent) (idx : Nat) : Bool :=
  match s.log.recs.find? (fun r => r.index == idx) with
  | none => false
  | some r => r.fet == s.fet &&
      (decide (r.cls < cls) || (r.cls == cls && decide (ev.unitType < r.ev.unitType))
        || (r.cls == cls && ev.unitType == r.ev.unitType && decide (ev.inst < r.ev.inst))
        || (r.cls == cls && ev.unitType == r.ev.unitType && ev.inst == r.ev.inst && decide (ev.code < r.ev.code)))

/-- An event is its collector's first-error record: none is captured, or one of lower standing in the same cycle (R461,
Table 15.3). -/
def takesFirst (s : State) (cls : Nat) (ev : FaultEvent) : Bool :=
  decide (cls ≠ 0) && (!s.flag (F.FLT_C_STATUS_VALID ev.collector) || yieldsFirst s cls ev (s.rd (R.FLT_C_FIRST ev.collector)).toNat)

/-- The collector's first-record capture (R461): the record that loses it is FIRST no more (Table 15.3). -/
def captureFirst (cls idx : Nat) (ev : FaultEvent) (s : State) : State :=
  if cls = 0 then s else
  let c := ev.collector
  let s :=
    if !takesFirst s cls ev then s else
    let s := if s.flag (F.FLT_C_STATUS_VALID c) then
        editRecord (s.rd (R.FLT_C_FIRST c)).toNat (fun r => { r with first := false }) s
      else s.set (F.FLT_C_STATUS_HIGHEST c) 0
    (s.wr (R.FLT_C_FIRST c) (BitVec.ofNat 32 idx)).set (F.FLT_C_STATUS_VALID c) 1
  s.high (F.FLT_C_STATUS_HIGHEST c) cls

/-- A time lies within the hour before another. -/
def inHour (now t : Fet) : Bool := decide (now < t + 3600000000000)

/-- The class 1 events of a unit with one more; true where CORR_LIMIT of them lie within one hour and no note has been raised
within the hour (R458). -/
def corrHit (now : Fet) (limit : Nat) (c : CorrCount) : CorrCount × Bool :=
  let l := (now :: c.times.filter (inHour now)).take (max 1 limit)
  let hit := decide (limit ≤ l.length) && !c.notedAt.any (inHour now)
  (⟨c.unit, l, if hit then some now else c.notedAt⟩, hit)

/-- The class 1 events counted by unit, with one more of a unit. -/
def countCorr (now : Fet) (limit : Nat) (unit : Nat × Nat × Nat) : List CorrCount → List CorrCount × Bool
  | [] => let x := corrHit now limit ⟨unit, [], none⟩; ([x.1], x.2)
  | c :: cs =>
    if c.unit = unit then let x := corrHit now limit c; (x.1 :: cs, x.2)
    else let r := countCorr now limit unit cs; (c :: r.1, r.2)

/-- Chitin's fault-log store takes a copy of a record; where FLT_INJECT TARGET 5 waits, one check bit of it is inverted
(R462, R489). [log 113 DEDUCED] -/
def keepInChitin (r : FaultRec) (s : State) : State :=
  let s := { s with log := { s.log with chitin := chitinStore s.log.chitin r, committed := false } }
  if injectArmed s 5 then
    { s.set F.FLT_INJECT_ARM 0 with log := { s.log with storeBad := s.log.storeBad ++ [r.index] } }
  else s

/-- An event comes before a record of the same FET: by collector, unit type, instance and code (R459). -/
def comesBefore (ev : FaultEvent) (r : FaultEvent) : Bool :=
  decide (ev.collector < r.collector) || (ev.collector == r.collector &&
    (decide (ev.unitType < r.unitType) || (ev.unitType == r.unitType &&
      (decide (ev.inst < r.inst) || (ev.inst == r.inst && decide (ev.code < r.code))))))

/-- The index an event takes: the next, or that of the first record of the same FET that it comes before (R459).
[log 155 DEDUCED] -/
def placeOf (s : State) (ev : FaultEvent) : Nat :=
  let now := s.log.recs.reverse.takeWhile (fun r => r.fet == s.fet)
  ((now.filter (fun r => comesBefore ev r.ev)).getLast?.map (·.index)).getD (s.rd R.FLT_LOG_HEAD).toNat

/-- A place is made at an index: each record from there on moves up by one, with all that names it (R459).
[log 155 DEDUCED] -/
def shiftFrom (k : Nat) (s : State) : State :=
  if (s.rd R.FLT_LOG_HEAD).toNat ≤ k then s else
  let up := fun (i : Nat) => if k ≤ i then i + 1 else i
  let rec_ := fun (r : FaultRec) => { r with index := up r.index, ev := { r.ev with link := up r.ev.link } }
  let jr := fun (j : JournalRec) => match j with | .fault r => .fault (rec_ r) | j => j
  let map_ := fun (m : MapShadow) => { m with record := up m.record }
  let s := { s with
    log := { s.log with recs := s.log.recs.map rec_, chitin := s.log.chitin.map rec_, storeBad := s.log.storeBad.map up }
    mesh := { s.mesh with shadow := s.mesh.shadow.map map_, waiting := s.mesh.waiting.map map_ } }
  let v := s.vault 0
  let s := s.setVault 0 { v with journal := v.journal.map jr, staging := v.staging.map jr }
  let s := s.forEach (List.range 8) (fun p t =>
    let d := t.part p
    t.setPart p { d with rerunRecs := d.rerunRecs.map up, nextRecs := d.nextRecs.map up })
  s.forEach (List.range 109) (fun c t =>
    t.wr (R.FLT_C_FIRST c) (BitVec.ofNat 32 (up (t.rd (R.FLT_C_FIRST c)).toNat)))

/-- A new record is dropped from a full log (R462): a LOG_OVERFLOW note is raised once, which the log cannot hold either, and
ALERT_L is asserted. -/
def overflow (s : State) : State :=
  if s.log.overflowed then s
  else
    let s := countEvent 0 { code := 0x060c, collector := 108, unitType := 20, inst := 0 } s
    { s with log := { s.log with overflowed := true } }

/-- Records an event without its reaction: log or coalescing, counts, first capture, the copies of class 3 and above in
Chitin's store and the journal (R461, R462).
Answers the index given, or 0 where the event coalesced or was dropped. [log 114 DEDUCED] -/
def recordFault (cls : Nat) (ev : FaultEvent) (s : State) : Nat × State :=
  let s := countEvent cls ev s
  if s.log.recs.any (coalesces s.fet cls ev) then
    (0, { s with log := { s.log with
      recs := editFirst (coalesces s.fet cls ev) (fun r => { r with repeats := min 65535 (r.repeats + 1) }) s.log.recs } })
  else
    match makeRoom cls s.log.recs with
    | none => (0, overflow s)
    | some l =>
      let idx := placeOf s ev
      let s := shiftFrom idx { s with log := { s.log with recs := l } }
      let sens := eventSensors s ev
      let ev := { ev with link := if idx ≤ ev.link then ev.link + 1 else ev.link }
      let r : FaultRec :=
        { index := idx, cls := cls, ev := ev, fet := s.fet, first := takesFirst s cls ev, temp := sens.1, volt := sens.2 }
      let s := captureFirst cls idx ev s
      let s := s.wr R.FLT_LOG_HEAD (s.rd R.FLT_LOG_HEAD + 1)
      let recs := s.log.recs.filter (fun x => decide (x.index < idx)) ++ r :: s.log.recs.filter (fun x => decide (idx < x.index))
      let s := { s with log := { s.log with recs := recs } }
      (idx, if 3 ≤ cls then (keepInChitin r s).journal (.fault r) else s)

/-- A NOTE record, class 0 (R11, R15, R354, R537, R538): subcode 1 access width, 2 RWL write, 3 VF filtered, 4 reserved
write, 5 other. [log 37 DEDUCED] -/
def note (subcode part : Nat) (off : Nat) (s : State) : State :=
  (recordFault 0 { code := 0x060b, part := part, addr := off, detail := [subcode] } s).2

/-- A NOTE of a named unit. -/
def noteAt (subcode part collector unitType inst : Nat) (s : State) : State :=
  let ev : FaultEvent :=
    { code := 0x060b, part := part, collector := collector, unitType := unitType, inst := inst, detail := [subcode] }
  (recordFault 0 ev s).2

/-- The lanes a class 2 event is charged to: its own, or every lane enabled in its field (R477). -/
def eventLanes (s : State) (ev : FaultEvent) : Nat :=
  if ev.lanes = 0 ∧ ev.collector < 88 then s.get (F.FLD_LANE_EN_NOW ev.collector) else ev.lanes

/-- A class 3 record in a partition that is being created undoes the creation (R349, R459): the job completes FAULTED
when COMMAND_COMPLETION takes it, and the partition is released there. -/
def failCreate (p : Nat) (s : State) : State :=
  { s with jobs := s.jobs.map (fun j => match j.work with
      | .partCreate q _ _ => if q = p ∧ j.fin.isNone then { j with fin := some (0x0400, [], s.fet) } else j
      | _ => j) }

/-- A fault of class 4 or 5 fails a creation in progress (R349). -/
def failCreates (s : State) : State := s.forEach ((List.range 8).filter (fun p => partState s p == 1)) failCreate

/-- The quench notice of a partition that quenched for a cause of its own (R471). -/
def quenchNotice (p idx : Nat) (s : State) : State :=
  if bitOf (s.get F.FLT_CFG_NOTICE_EN) (p - 1) = 1 then
    sendNotice { kind := 0, part := p, origin := ownCoord s, index := idx, fet := (s.part p).stepBase } none s
  else s

/-- The notices of the partitions that a module quench is about to quench (R471). [log 115 DEDUCED] -/
def quenchNotices (idx : Nat) (s : State) : State :=
  if moduleQuenched s then s
  else s.forEach ([1, 2, 3, 4, 5, 6, 7].filter (fun p => partState s p == 2 || partState s p == 3)) (fun p t => quenchNotice p idx t)

/-- A fault of class 4 or 5 ends a running bring-up step with code 10 (R435), and a warm re-initialisation with FAULTED
(R449). -/
def failStep (code : Nat) (s : State) : State :=
  if s.flag F.CHT_STATUS_RUNNING then
    let s := s.set F.CHT_STATUS_RUNNING 0
    let s := s.set F.CHT_STATUS_FAIL 1
    let s := s.set F.CHT_STATUS_FAIL_CODE code
    { s with
      boot := { s.boot with warmPhase := 0, runTarget := 0 }
      power := { s.power with emulating := false }
      jobs := s.jobs.map (fun j => match j.work with
        | .warm => if j.fin.isNone then { j with fin := some (0x0400, [], s.fet) } else j
        | _ => j) }
  else s

/-- A field's pass has reached bundle 0: a class 2 fault now belongs to the next step (R477). [log 70 DEDUCED] -/
def atBundle0 (s : State) (f : Nat) : Bool := s.get (F.FLD_PC_PC f) == 0

/-- A strapped manager gives up its duties: ACT 5, CONFLICT, a note, and its drive ends (R492, R494).
[log 116 DEDUCED] -/
def yieldRole (s : State) : State :=
  if s.get F.CHT_MGR_STATUS_ACT = 1 then
    let s := (s.set F.CHT_MGR_STATUS_ACT 5).set F.CHT_MGR_STATUS_CONFLICT 1
    let s := { s.set F.CHT_MGR_STATUS_DRIVING 0 with mgr := { s.mgr with phase := 0, abort := false } }
    note 5 0 R.CHT_MGR_STATUS s
  else s

/-- Everything off, the Port dies with it, so that a strapped manager yields (R394, R446, R494, R519).
[log 104 DEDUCED, 116 DEDUCED] -/
def powerDown (s : State) : State := powerOffAll (yieldRole s)

/-- The reaction of a class (Table 15.1, R459, R468). `notice`: a notice goes out for a partition quench. -/
def react (cls idx slew : Nat) (notice : Bool) (ev : FaultEvent) (s : State) : State :=
  match cls with
  | 0 | 1 => s
  | 2 =>
    if idx = 0 then s else
    let d := s.part ev.part
    let late := if ev.collector < 88 then atBundle0 s ev.collector else (partFields s ev.part).all (atBundle0 s)
    s.setPart ev.part (if late then { d with nextRecs := d.nextRecs ++ [idx] } else { d with rerunRecs := d.rerunRecs ++ [idx] })
  | 3 =>
    match partState s ev.part with
    | 1 => failCreate ev.part s
    | 2 | 3 =>
      if ev.part = 0 then s else
      let s := quenchPartition ev.part slew s
      if notice then quenchNotice ev.part idx s else s
    | _ => s
  | 4 => failStep 10 (quenchModule slew (quenchNotices idx (failCreates s)))
  | _ => yieldRole (setLock (lockCause ev.code) (failStep 10 (quenchNotices idx (failCreates s))))

/-- An event of a given class: the record, CORR_RATE (R458), the reaction. -/
def raiseAs (cls slew : Nat) (notice : Bool) (ev : FaultEvent) (s : State) : Nat × State :=
  let ev := if cls = 2 then { ev with lanes := eventLanes s ev } else ev
  let (idx, s) := recordFault cls ev s
  let s := if cls = 1 then
      let limit := s.get F.FLT_CORR_CFG_CORR_LIMIT
      let r := countCorr s.fet limit (ev.collector, ev.unitType, ev.inst) s.log.corr
      let s := { s with log := { s.log with corr := r.1 } }
      if r.2 then (recordFault 0 { ev with code := 0x060d, detail := [] } s).2 else s
    else s
  (idx, react cls idx slew notice ev s)

/-- A fault raised by a checker (R457): class from its code, quench slew the ramp limit in force (R421). -/
def raiseFault (ev : FaultEvent) (s : State) : State := (raiseAs (eventClass ev) (rampLimit s) true ev s).2


end Sys2Proof.Machine
end

