-- ==== Sys2Proof/Machine/Cells.lean ====
section
/-!
DEFINITION. Machine/Cells.lean: a cell's micro-sequencer, firing unit, scratchpad ports and checks (03_cell R83-R125,
05_cycle_plans R157-R173, R178). Every event of a cell carries its cell-clock cycle, counted from TIM_ALIGN_FET.
-/
namespace Sys2Proof.Machine

/-! ### Images, slots -/

/-- The image bound to a field (R182). -/
def boundImage (s : State) (f : Nat) : List Byte := AMap.get (fun _ => []) (s.fieldD f).store (s.get (F.FLD_STATUS_IMAGE f))

/-- Local logical index and logical ID of a cell (R30). -/
def localOf (s : State) (f pos : Nat) : Nat := s.get (F.CEL_STATUS_LOCAL_LOGICAL f pos)
def logicalId (s : State) (f pos : Nat) : Nat := 64 * f + localOf s f pos

/-- CEL_STATUS.ROLE as it reads: 3, gated, where the cell's cluster is neither ON nor in RETENTION (Table 03.8). -/
def cellRole (s : State) (f pos : Nat) : Nat :=
  let r := s.get (F.CEL_STATUS_ROLE f pos)
  let d := domState s (domOfCell f pos)
  if r ≤ 1 ∧ d ≠ 3 ∧ d ≠ 4 then 3 else r

/-- A cell is in service: CEL_STATUS.ROLE 0 (R157). -/
def cellServes (s : State) (f pos : Nat) : Bool := cellRole s f pos == 0

/-- The logical cluster of a cell (R157): that of the position which held its logical index at reset. -/
def logicalCluster (s : State) (f pos : Nat) : Nat :=
  let q := posOfLocal (localOf s f pos)
  clusterOf (q % 8) (q / 8)

/-- The slot a cell runs in repetition i of a bundle (R157-R160). [log 133 DEDUCED] -/
def makeSlot (s : State) (f pos seq i : Nat) (e : QEntry) : Slot :=
  let c := logicalCluster s f pos
  let x := bSlot e.word c
  let t := imgTemplate (boundImage s f) (sTidx x)
  { seq := seq, bundle := e.bundle, cluster := c, rep := i, lane := if bLaneAll e.word then 0 else bLane e.word
    laneMask := if bLaneAll e.word then s.get (F.FLD_LANE_EN_NOW f) else 2 ^ bLane e.word
    tmpl := t, a0 := effAddr (sAddr0 x) (tStrideRep t 0) (tStrides t 0) i e.iters
    a1 := effAddr (sAddr1 x) (tStrideRep t 1) (tStrides t 1) i e.iters, imm := sImm x, span := bSpan e.word }

/-- Units and order group of a slot (Table 05.7, R173). -/
def Slot.units (x : Slot) : Nat := slotUnits x.tmpl x.imm
def Slot.order (x : Slot) : Nat := tOrder x.tmpl

/-- A fault of a cell's unit, raised for a slot (Table 15.3). -/
def slotEvent (s : State) (f pos code unit addr : Nat) (x : Slot) : FaultEvent :=
  { code := code, part := ownerOf s f, lanes := x.laneMask, collector := f, unitType := unit, inst := pos, access := 3
    addr := addr, master := logicalId s f pos, op0 := x.bundle % 2 ^ 18 + 2 ^ 18 * x.cluster
    op1 := x.rep % 65536 + 65536 * (s.get (F.FLD_STEP_CNT_COUNT f) % 65536) }

/-! ### Scratchpad words, parity and poison (R108-R112, R118-R120) -/

/-- A scratchpad word and which of its half-words fail parity. -/
def spWord (c : CellState) (k : Nat) : Word := AMap.get (fun _ => 0) c.sp k
def spFail (c : CellState) (k : Nat) : Nat := AMap.get (fun _ => 0) c.spBad k

/-- The words as they stood before this cycle's write, if it had one (R112). -/
def freshen (cyc : Nat) (c : CellState) : CellState := if c.grantW = cyc + 1 then c else { c with wrote := [] }

/-- A word as a read of this cycle finds it: a word that the cycle writes still has its value before the write (R112). -/
def seenWord (c : CellState) (k : Nat) : OldWord :=
  (c.wrote.find? (fun e => e.k == k)).getD ⟨k, spWord c k, spFail c k, c.spInj.contains k⟩

/-- An access as a read of this cycle finds it (R109). -/
def readAccess (c : CellState) (addr : Nat) (col : Bool) : List PWord :=
  (List.range 64).map (fun i => let e := seenWord c (wordKey addr col i); ⟨e.w, e.fail != 0⟩)

/-- An upset half-word: one of its sixteen data bits or its parity bit flips; which one, nothing says.
[log 69 DEDUCED] -/
def upsetHalf (k half : Nat) (rnd : Word) (c : CellState) : CellState :=
  let b := rnd.toNat % 17
  let e := seenWord c k
  let w := if b = 16 then e.w else e.w ^^^ BitVec.ofNat 32 (2 ^ (16 * half + b))
  let fail := e.fail ^^^ 2 ^ half
  if c.wrote.any (fun x => x.k == k) then
    { c with wrote := c.wrote.map (fun x => if x.k = k then { x with w := w, fail := fail } else x) }
  else { c with sp := AMap.put (fun _ => 0) c.sp k w, spBad := AMap.put (fun _ => 0) c.spBad k fail }

/-- Half-words of an access found upset when it is read (R118): bit 2i + h names half h of word i. [log 69 DEDUCED] -/
def applyUpset (f pos addr : Nat) (col : Bool) (upset : BitVec 128) (s : State) : State :=
  if upset = 0 then s else
  s.forEach ((List.range 128).filter (fun h => upset.toNat.testBit h)) (fun h t =>
    let (w, t) := t.free
    t.setCell f pos (upsetHalf (wordKey addr col (h / 2)) (h % 2) w (t.cell f pos)))

/-- A failing word is entered in CEL_SP_ERR (R120) by its word address k: tile, row, column (R108). -/
def recordParity (f pos port cls lane k half : Nat) (s : State) : State :=
  let s := s.count (F.CEL_SP_ERR_CNT_COUNT f pos) 1
  if s.flag (F.CEL_SP_ERR_VALID f pos) then s else
  let r := k / 64 % 64
  let s := s.set (F.CEL_SP_ERR_VALID f pos) 1
  let s := s.set (F.CEL_SP_ERR_PORT f pos) port
  let s := s.set (F.CEL_SP_ERR_REQ f pos) cls
  let s := s.set (F.CEL_SP_ERR_LANE f pos) (if cls = 0 then lane else 0)
  let s := s.set (F.CEL_SP_ERR_BANK f pos) ((r + k) % 64)
  let s := s.set (F.CEL_SP_ERR_HALF f pos) half
  s.set (F.CEL_SP_ERR_OFFSET f pos) (k / 64)

/-- A read through a port (0 A, 1 B): the data, marked where parity fails, and the class 2 fault of a failure (R119,
R120): one failure and one fault for an access, whichever of its words fail. [log 69 DEDUCED] -/
def portRead (f pos cyc port cls lane : Nat) (ev : FaultEvent) (addr : Nat) (col : Bool) (upset : BitVec 128) (s : State) :
    List PWord × State :=
  let s := applyUpset f pos addr col upset (s.setCell f pos (freshen cyc (s.cell f pos)))
  let c := s.cell f pos
  let l := readAccess c addr col
  match ((List.range 64).map (fun i => seenWord c (wordKey addr col i))).find? (fun e => e.fail != 0) with
  | none => (l, s)
  | some e =>
    let s := recordParity f pos port cls lane e.k e.fail s
    (l, raiseFault { ev with code := 0x0101, unitType := 4, access := 1, addr := e.k, injected := e.inj } s)

/-- Commits word i of a write: masked-off half-words stay (R111), poison or an armed injection inverts the parity of each
half-word written (R119, R124), and where the word came from is noted (R121). -/
def writeWord (r : PortReq) (arm : Bool) (c : CellState) (e : PWord × Nat) : CellState :=
  let n := min 32 (r.bits - 32 * e.2)
  if n = 0 then c else
  let k := wordKey r.addr r.col e.2
  let halves := if n ≤ 16 then 1 else 3
  let m : Word := BitVec.ofNat 32 (2 ^ n - 1)
  let bad := if e.1.bad || r.mark || arm then halves else 0
  { c with
    sp := if r.mark then c.sp else AMap.put (fun _ => 0) c.sp k ((spWord c k &&& ~~~m) ||| (e.1.w &&& m))
    spBad := AMap.put (fun _ => 0) c.spBad k (spFail c k &&& (3 - halves) ||| bad)
    spInj := if arm then setAdd k c.spInj else setDel k c.spInj
    spSrc := if r.mark then c.spSrc else AMap.put (fun _ => none) c.spSrc k (r.src.map (fun x => (x.1, x.2 + 4 * e.2))) }

/-- Commits a write request: the words it replaces are kept for the reads of its cycle (R112). -/
def commitWrite (r : PortReq) (arm : Bool) (c : CellState) : CellState :=
  let l := if r.mark then List.replicate 64 {} else r.data
  let c := { c with
    wrote := (List.range 64).map (fun i => let k := wordKey r.addr r.col i; ⟨k, spWord c k, spFail c k, c.spInj.contains k⟩)
    wroteOwn := r.cls == 0 }
  (l.take 64).zipIdx.foldl (writeWord r arm) c

/-- Zeroing of a scratchpad starts (R117). -/
def startZero (f pos : Nat) (s : State) : State :=
  (s.setCell f pos (zeroScratch (s.cell f pos))).set (F.CEL_STATUS_SP_ZEROING f pos) 1

/-! ### The firing unit (R102-R107) -/

/-- Arrival count of a tag. -/
def tagCount (c : CellState) (tag : Nat) : Nat := ((c.tags.find? (fun e => e.tag == tag)).map (·.count)).getD 0

/-- A tag's count replaced; an entry of count 0 is kept only through its guards. -/
def setTag (tag n : Nat) (l : List TagEntry) : List TagEntry :=
  let l := l.filter (fun e => e.tag != tag)
  if n = 0 then l else l ++ [⟨tag, n⟩]

/-- The tags that hold an entry: those counted and those with an armed guard (R103). -/
def tagsInUse (c : CellState) : List Nat :=
  (c.tags.map (·.tag) ++ (c.parked.filter (fun p => p.phase == 0)).map (·.tag)).eraseDups

/-- Guards still waiting (R84). -/
def waiting (c : CellState) : List Parked := c.parked.filter (fun p => p.phase == 0)

/-- A cell's state is put back with the registers that show its firing unit: PARKED, FU_FULL, HIGH_WATER. -/
def putCell (f pos : Nat) (c : CellState) (s : State) : State :=
  let n := (tagsInUse c).length
  let s := s.setCell f pos c
  let s := s.set (F.CEL_STATUS_PARKED f pos) (min 8 (waiting c).length)
  let s := s.set (F.CEL_STATUS_FU_FULL f pos) (if 64 ≤ n then 1 else 0)
  s.high (F.CEL_FU_STATUS_HIGH_WATER f pos) n

/-- Fires the guards of a tag, in arming order, while the count suffices and the window is open (R104).
[log 65 DEDUCED] -/
def fireList (tag cyc : Nat) : Nat → List Parked → List Parked × Nat
  | n, [] => ([], n)
  | n, p :: l =>
    if p.tag = tag ∧ p.phase = 0 then
      if p.need ≤ n ∧ cyc ≤ p.armed + p.window then
        let r := fireList tag cyc (n - p.need) l
        ({ p with phase := 1 } :: r.1, r.2)
      else (p :: l, n)
    else let r := fireList tag cyc n l; (p :: r.1, r.2)

/-- Fires what a tag's count now allows. [log 65 DEDUCED] -/
def fireTag (tag cyc : Nat) (c : CellState) : CellState :=
  let r := fireList tag cyc (tagCount c tag) c.parked
  { c with parked := r.1, tags := setTag tag r.2 c.tags }

/-- A slot miss (R105): counted, its tag recorded, a class 2 fault. [log 66 DEDUCED] -/
def slotMiss (f pos : Nat) (p : Parked) (s : State) : State :=
  let s := s.count (F.CEL_FU_STATUS_MISS_CNT f pos) 1
  let s := if s.flag (F.CEL_FU_MISS_VALID f pos) then s else
    (s.set (F.CEL_FU_MISS_VALID f pos) 1).set (F.CEL_FU_MISS_TAG f pos) p.tag
  raiseFault (slotEvent s f pos 0x0105 5 p.tag p.slot) s

/-- A tag-table overflow (R106): counted, a class 2 fault. [log 65 DEDUCED] -/
def tagOverflow (f pos tag : Nat) (ev : FaultEvent) (s : State) : State :=
  raiseFault { ev with code := 0x0106, unitType := 5, addr := tag } (s.count (F.CEL_FU_STATUS_OVF_CNT f pos) 1)

/-- The fault of a cell outside any slot. -/
def cellEvent (s : State) (f pos code unit addr : Nat) : FaultEvent :=
  { code := code, part := ownerOf s f, collector := f, unitType := unit, inst := pos, access := 5, addr := addr
    master := logicalId s f pos }

/-- The guards that some arrivals allow fire: cell, tag, cycle of the arrival (R104). [log 65 DEDUCED] -/
def fireDue (f : Nat) (l : List (Fin 72 × Nat × Nat)) (s : State) : State :=
  l.foldl (fun t e => putCell f e.1 (fireTag e.2.1 e.2.2 (t.cell f e.1)) t) s

/-- The state in which a command of a field's cycle acts: the field's clock stands at that cycle, and where it has moved on
the guards that the arrivals of the cycle before allow have fired (R104). -/
def atCycle (f cyc : Nat) (s : State) : State :=
  let d := s.fieldD f
  if d.cyc < cyc then fireDue f d.fires (s.setField f { d with cyc := cyc, fires := [] }) else s

/-- A command of a field's cycle; an event of an earlier cycle cannot follow one that has come. [log 63 DESIGN CHOICE] -/
def onCycle (f cyc : Nat) (s : State) (g : State → State) : State :=
  if cyc < (s.fieldD f).cyc then s else g (atCycle f cyc s)

/-- A command of a cell's cycle: a cluster's clock runs in ON alone (Table 13.2). -/
def onCell (f pos cyc : Nat) (s : State) (g : State → State) : State :=
  if domState s (domOfCell f pos) = 3 then onCycle f cyc s g else s

/-- Arms the guard of a guarded slot and parks the slot (R104, R106, R169): behind an earlier guard of its tag it waits for
that one. [log 65 DEDUCED] -/
def armGuard (f pos cyc tag need window : Nat) (x : Slot) (s : State) : State :=
  let c := s.cell f pos
  let used := tagsInUse c
  let p : Parked := { slot := x, tag := tag, need := need, armed := cyc, window := window }
  if !used.contains tag && decide (64 ≤ used.length) then
    let s := putCell f pos { c with parked := c.parked ++ [{ p with phase := 2 }] } s
    slotMiss f pos p (tagOverflow f pos tag (slotEvent s f pos 0x0106 5 tag x) s)
  else
    let first := !(waiting c).any (fun q => q.tag == tag)
    let c := { c with parked := c.parked ++ [p] }
    putCell f pos (if first then fireTag tag cyc c else c) s

/-- One arrival is recorded (R102-R104, R106); what it lets fire fires in the next cycle. Counts stop at 255.
[log 65 DEDUCED] -/
def recordArrival (f pos cyc tag : Nat) (s : State) : State :=
  let c := s.cell f pos
  let used := tagsInUse c
  if !used.contains tag && decide (64 ≤ used.length) then
    tagOverflow f pos tag (cellEvent s f pos 0x0106 5 tag) s
  else
    let s := putCell f pos { c with tags := setTag tag (min 255 (tagCount c tag + 1)) c.tags } s
    let d := s.fieldD f
    s.setField f { d with fires := d.fires ++ [(Fin.ofNat 72 pos, tag, cyc)] }

/-- The sweep at a STEP bundle (R107): entries without an armed guard are freed, their counts go to STALE_CNT. -/
def sweepTags (f pos : Nat) (s : State) : State :=
  let c := s.cell f pos
  let held := (waiting c).map (·.tag)
  let n := ((c.tags.filter (fun e => !held.contains e.tag)).map (·.count)).sum
  let s := putCell f pos { c with tags := c.tags.filter (fun e => held.contains e.tag) } s
  if n = 0 then s else raiseFault (cellEvent s f pos 0x010a 5 0) (s.count (F.CEL_FU_STATUS_STALE_CNT f pos) n)

/-- The tag table is cleared (R107): counts, guards, and the slots that wait for them. -/
def clearTags (f pos : Nat) (s : State) : State :=
  let c := s.cell f pos
  let d := s.fieldD f
  let s := s.setField f { d with fires := d.fires.filter (fun e => e.1.val != pos) }
  putCell f pos { c with tags := [], parked := c.parked.filter (fun p => p.phase != 0) } s

/-- ARRIVAL_RECORD: the oldest arrival committed in an earlier cycle, one per cycle (R102). -/
def arrivalRecord (f pos cyc : Nat) (s : State) : State :=
  onCell f pos cyc s (fun s =>
    let c := s.cell f pos
    match c.arrivals with
    | (tag, at_) :: l =>
      if at_ < cyc ∧ c.lastArrival ≤ cyc then
        recordArrival f pos cyc tag (s.setCell f pos { c with arrivals := l, lastArrival := cyc + 1 })
      else s
    | [] => s)

/-- TIER_ACK_ARRIVAL (R242): a queued tier acknowledgement in a cycle that has no commit arrival. -/
def tierAckArrival (f pos cyc : Nat) (s : State) : State :=
  onCell f pos cyc s (fun s =>
    let c := s.cell f pos
    match c.acks with
    | tag :: l =>
      if c.lastArrival ≤ cyc ∧ !(c.arrivals.any (fun e => decide (e.2 < cyc))) then
        recordArrival f pos cyc tag (s.setCell f pos { c with acks := l, lastArrival := cyc + 1 })
      else s
    | [] => s)

/-- Marks the first guard whose window has passed as expired. -/
def expireList (cyc : Nat) : List Parked → Option (Parked × List Parked)
  | [] => none
  | p :: l =>
    if p.phase = 0 ∧ p.armed + p.window < cyc then some (p, { p with phase := 2 } :: l)
    else (expireList cyc l).map (fun r => (r.1, p :: r.2))

/-- GUARD_EXPIRY (R104, R105): the earliest-armed guard whose window has passed becomes a slot miss; a later guard of its
tag may then fire. -/
def guardExpiry (f pos cyc : Nat) (s : State) : State :=
  onCell f pos cyc s (fun s =>
    let c := s.cell f pos
    match expireList cyc c.parked with
    | none => s
    | some (p, l) =>
      let s := slotMiss f pos p (putCell f pos { c with parked := l } s)
      putCell f pos (fireTag p.tag cyc (s.cell f pos)) s)

/-! ### Slots and units (R164, R165, R170-R173) -/

/-- The units that a running slot holds; while it only marks, the write port (R171). [log 67 DEDUCED] -/
def Running.units (r : Running) : Nat := if r.marking then 32 else r.slot.units

/-- Units held by running slots. -/
def heldUnits (c : CellState) : Nat := c.running.foldl (fun m r => m ||| r.units) 0

/-- None of a slot's units is held (R165). -/
def unitsFree (c : CellState) (u : Nat) : Bool := heldUnits c &&& u == 0

/-- A slot of the group is parked, or runs guarded, with a lower number: an unguarded slot of the group waits (R173). -/
def groupBusy (c : CellState) (g seq : Nat) : Bool :=
  g != 0 && (c.parked.any (fun p => p.slot.order == g && decide (p.slot.seq < seq))
    || c.running.any (fun r => r.guarded && r.slot.order == g && decide (r.slot.seq < seq)))

/-- A sentinel bundle occupies the cell (R178). -/
def inSentinel (c : CellState) (cyc : Nat) : Bool :=
  match c.rep with
  | some r => bKind r.entry.word == 2 && decide (cyc < r.began + r.span)
  | none => false

/-- The repetition in hand has ended (R164). -/
def repEnded (c : CellState) (cyc : Nat) : Bool :=
  match c.rep with
  | none => true
  | some r => decide (r.began + r.span ≤ cyc) && r.slot.isNone

/-- The next in-order repetition: entry, index, and whether it comes from the queue (R164). -/
def nextRep (c : CellState) (cyc : Nat) : Option (QEntry × Nat × Bool) :=
  let fromQueue := match c.queue with
    | e :: _ => if e.ready ≤ cyc then some (e, 0, true) else none
    | [] => none
  match c.rep with
  | some r => if bKind r.entry.word = 0 ∧ r.i < bRepeat r.entry.word then some (r.entry, r.i + 1, false) else fromQueue
  | none => fromQueue

/-- Slot c of a bundle is guarded in a cluster (R169). -/
def slotGuarded (w cl : Nat) : Bool := bCond w == 2 && bitOf (bGmask w) cl == 1

/-- The in-order slot that could begin now, if the next repetition has an unguarded one (R165). -/
def readyInOrder (s : State) (f pos cyc : Nat) : Option Slot :=
  let c := s.cell f pos
  if !repEnded c cyc then none else
  match nextRep c cyc with
  | some (e, i, _) =>
    let x := makeSlot s f pos c.next i e
    if bKind e.word = 0 ∧ !slotGuarded e.word x.cluster ∧ unitsFree c x.units ∧ !groupBusy c x.order c.next then some x else none
  | none => none

/-- The write requests that mark what a missed slot would have written (R171). [log 67 DEDUCED] -/
def markReqs (x : Slot) : List PortReq := (missTargets x).map (fun a => { cls := 0, owner := x.seq, addr := a, mark := true, lane := x.lane })

/-- SLOT_BEGIN: a fired slot takes its units; an expired one begins its poison marking (R165, R170, R171, R173).
[log 67 DEDUCED] -/
def slotBegin (f pos cyc id : Nat) (s : State) : State :=
  onCell f pos cyc s (fun s =>
    let c := s.cell f pos
    match c.parked.find? (fun p => p.slot.seq == id) with
    | none => s
    | some p =>
      let x := p.slot
      let rest := c.parked.filter (fun q => q.slot.seq != id)
      let c' := { c with parked := rest }
      let marks := markReqs x
      let units := if p.phase = 2 then (if marks.isEmpty then 0 else 32) else x.units
      let first := (readyInOrder s f pos cyc).any (fun y => y.units &&& units != 0)
      if p.phase = 0 || groupBusy c x.order x.seq || !unitsFree c units || first || inSentinel c cyc then s
      else if p.phase = 2 && marks.isEmpty then putCell f pos (missInside x c') s
      else
        let r : Running :=
          if p.phase = 2 then { slot := x, guarded := true, marking := true, formed := true, out := marks }
          else { slot := x, guarded := true }
        putCell f pos { c' with running := c.running ++ [r] } s)

/-- An issue stall (R85), counted once in a cycle. [log 63 DESIGN CHOICE] -/
def stall (f pos cyc : Nat) (s : State) : State :=
  let s := s.set (F.CEL_STATUS_STALLED f pos) 1
  let c := s.cell f pos
  if cyc < c.stallAt then s else (s.setCell f pos { c with stallAt := cyc + 1 }).count (F.CEL_STALL_CYCLES f pos) 1

/-- An in-order slot is held by units or its order group (R165), counted once in a cycle. [log 63 DESIGN CHOICE] -/
def hold (f pos cyc : Nat) (s : State) : State :=
  let c := s.cell f pos
  if cyc < c.holdAt then s else (s.setCell f pos { c with holdAt := cyc + 1 }).count (F.FLD_HOLD_CYCLES_CYCLES f) 1

/-- A repetition begins: what the cell then holds. -/
def startRep (f pos cyc span : Nat) (e : QEntry) (i : Nat) (q : Bool) (slot : Option Nat) (s : State) : State :=
  let c := s.cell f pos
  let s := s.set (F.CEL_STATUS_SENTINEL f pos) (if bKind e.word = 2 then 1 else 0)
  let s := s.set (F.CEL_STATUS_STALLED f pos) 0
  s.setCell f pos { c with
    rep := some { entry := e, i := i, began := cyc, span := span, slot := slot }
    queue := if q then c.queue.drop 1 else c.queue
    next := c.next + 1 }

/-- Unit of a class for a residue check (CEL_RES_ERR.UNIT): 0 MX array, 1 vector unit, 2 transcendental unit. -/
def resUnit (cls : Nat) : Nat := if cls = 2 ∨ cls = 4 then 0 else if cls = 8 then 2 else 1

/-- A residue mismatch (R122) of a unit, for a micro-batch lane. -/
def residueFault (f pos u lane : Nat) (injected : Bool) (ev : FaultEvent) (s : State) : State :=
  let s := s.count (F.CEL_RES_ERR_COUNT f pos) 1
  let s := if s.flag (F.CEL_RES_ERR_VALID f pos) then s else
    ((s.set (F.CEL_RES_ERR_VALID f pos) 1).set (F.CEL_RES_ERR_UNIT f pos) u).set (F.CEL_RES_ERR_LANE f pos) lane
  raiseFault { ev with code := 0x0102 + u, unitType := 1 + u, injected := injected } s

/-- An inversion is armed for a unit (R124); RES_UNIT 3 names none. [log 69 DEDUCED] -/
def resArmed (s : State) (f pos u : Nat) : Bool :=
  s.flag (F.CEL_INJECT_RES_ARM f pos) && s.get (F.CEL_INJECT_RES_UNIT f pos) == u

/-- The residue check of one operation of a slot: an armed inversion acts and clears (R124). Answers whether it failed. -/
def residueCheck (f pos : Nat) (x : Slot) (err : Bool) (s : State) : Bool × State :=
  let u := resUnit (tClass x.tmpl)
  let inj := resArmed s f pos u
  let s := if inj then s.set (F.CEL_INJECT_RES_ARM f pos) 0 else s
  if err || inj then (true, residueFault f pos u x.lane inj (slotEvent s f pos 0x0102 1 0 x) s) else (false, s)

/-- A sentinel tile runs operations of all three units (R178, R181): an armed inversion acts in it (R122, R124).
[log 74 DESIGN CHOICE] -/
def sentinelResidue (f pos : Nat) (s : State) : State :=
  match [0, 1, 2].find? (resArmed s f pos) with
  | some u =>
    residueFault f pos u 0 true { cellEvent s f pos 0x0102 1 0 with access := 3 } (s.set (F.CEL_INJECT_RES_ARM f pos) 0)
  | none => s

/-- A sentinel tile (R123, R178): the signature of the seed and the slot index, off by what went wrong in it.
[log 74 DESIGN CHOICE] -/
def runSentinel (f pos cyc : Nat) (e : QEntry) (sigErr : Word) (s : State) : State :=
  let c := s.cell f pos
  if c.running.any (fun r => r.guarded && r.units &&& 7 != 0) then s else
  let s := sentinelResidue f pos (s.setCell f pos { c with tile := some (e.sent, false), sentAt := s.fet })
  let sig := Config.sentinel (s.rd (R.CEL_SENT_SEED f pos)) e.sent ^^^ sigErr
  startRep f pos cyc 512 e 0 true none (s.wr (R.CEL_SENT_SIG f pos) sig)

/-- The in-service cells of a field, and the one that holds a local logical index. -/
def servingCells (s : State) (f : Nat) : List Nat := (List.range 72).filter (fun p => cellServes s f p)
def holderOf (s : State) (f l : Nat) : Option Nat := (servingCells s f).find? (fun p => localOf s f p == l)

/-- The tile a cell has ended (R178): its slot index, and whether it was compared. [log 74 DESIGN CHOICE] -/
def tileEnded (c : CellState) (cyc : Nat) : Option (Nat × Bool) := if inSentinel c cyc then none else c.tile

/-- Tiles that a SENTINEL_RUN in progress asks of each cell of a field (R393). -/
def runTiles (s : State) (f : Nat) : Nat :=
  s.jobs.foldl (fun n j => match j.work with
    | .sentinelRun _ mask tiles _ => if j.fin.isNone && bitOf mask f == 1 then max n tiles else n
    | _ => n) 0

/-- A cell's last tile is done with: compared, and the partner's of that index too, or there is no partner whose clock runs
(R179). [log 156 DESIGN CHOICE] -/
def tileDone (s : State) (f pos cyc : Nat) : Bool :=
  match (s.cell f pos).tile with
  | none => true
  | some (idx, done) =>
    (tileEnded (s.cell f pos) cyc).isSome && match holderOf s f (localOf s f pos ^^^ 2 ^ (idx % 6)) with
    | none => true
    | some q =>
      domState s (domOfCell f q) != 3 || (done && (s.cell f q).tile.any (fun e => decide (idx < e.1) || (e.1 == idx && e.2)))

/-- The next tile of a SENTINEL_RUN of a cell's field (R393): its k-th tile takes slot index FLD_SENT_IDX + k.
[log 156 DESIGN CHOICE] -/
def nextRunTile (s : State) (f pos cyc : Nat) : Option QEntry :=
  let c := s.cell f pos
  if c.runTiles < runTiles s f ∧ c.queue.isEmpty ∧ (c.runTiles = 0 ∨ tileDone s f pos cyc) then
    some { bundle := 0, word := 2 * 2 ^ 92, iters := [], sent := s.get (F.FLD_SENT_IDX_INDEX f) + c.runTiles }
  else none

/-- A tile of a SENTINEL_RUN begins. [log 156 DESIGN CHOICE] -/
def beginRunTile (f pos cyc : Nat) (e : QEntry) (sigErr : Word) (s : State) : State :=
  let c := s.cell f pos
  runSentinel f pos cyc e sigErr (s.setCell f pos { c with runTiles := c.runTiles + 1 })

/-- A repetition of a WORK bundle begins (R84, R164, R165, R169). -/
def beginWork (f pos cyc : Nat) (e : QEntry) (i : Nat) (q : Bool) (s : State) : State :=
  let c := s.cell f pos
  let x := makeSlot s f pos c.next i e
  if slotGuarded e.word x.cluster then
    if 8 ≤ (waiting c).length then stall f pos cyc s else
    let t := bTag e.word
    let tag := t / 4096 * 4096 + (t % 4096 + i) % 4096
    armGuard f pos cyc tag (bCount e.word) (bWindow e.word) x (startRep f pos cyc x.span e i q none s)
  else if !unitsFree c x.units || groupBusy c x.order x.seq then hold f pos cyc s
  else if x.units = 0 then startRep f pos cyc x.span e i q none s
  else
    let s := startRep f pos cyc x.span e i q (some x.seq) s
    let c := s.cell f pos
    s.setCell f pos { c with running := c.running ++ [{ slot := x, guarded := false }] }

/-- CELL_REPETITION_BEGIN (R164); a cell whose queue is empty runs the tiles of a SENTINEL_RUN (R393). -/
def repetitionBegin (f pos cyc : Nat) (sigErr : Word) (s : State) : State :=
  onCell f pos cyc s (fun s =>
    let c := s.cell f pos
    if !cellServes s f pos || !repEnded c cyc then s else
    match nextRep c cyc with
    | none =>
      match nextRunTile s f pos cyc with
      | none => s
      | some e => beginRunTile f pos cyc e sigErr s
    | some (e, i, q) =>
      match bKind e.word with
      | 1 =>
        let s := sweepTags f pos (startRep f pos cyc 1 e 0 true none s)
        let c := s.cell f pos
        s.setCell f pos { c with spBase := c.sp }
      | 2 => runSentinel f pos cyc e sigErr s
      | _ => beginWork f pos cyc e i q s)

/-! ### Micro-operations (R84, R85, R122, R161) -/

/-- Datapath requests waiting at a port (R113). -/
def dpWaiting (l : List PortReq) : Nat := (l.filter (fun r => r.cls == 0)).length

/-- The running slot with a number, replaced. -/
def setRunning (r : Running) (c : CellState) : CellState :=
  { c with running := c.running.map (fun q => if q.slot.seq = r.slot.seq then r else q) }

/-- A capacity fault (R96). -/
def capacityFault (f pos : Nat) (x : Slot) (s : State) : State :=
  let s := s.set (F.CEL_SMU_CAP_CAP_FAULT f pos) 1
  let s := s.count (F.CEL_SMU_CAP_COUNT f pos) 1
  raiseFault (slotEvent s f pos 0x0107 6 (64 * x.a0) x) s

/-- The weight buffers change places at the first operation of a pass with SWAP (R87). -/
def swapFirst (x : Slot) (j : Nat) (c : CellState) : CellState :=
  if tClass x.tmpl = 2 ∧ j = 0 ∧ bitOf x.imm 13 = 1 then { c with active := c.shadow, shadow := c.active } else c

/-- The accumulator rows of operation j are there eight cycles after it issues (R90). -/
def accReady (cyc : Nat) (l : List (Nat × Nat)) (c : CellState) : CellState :=
  { c with accAt := l.foldl (fun m e => AMap.put (fun _ => 0) m (256 * e.1 + e.2 % 256) (cyc + 8)) c.accAt }

/-- What unit operation j of a slot does to its cell and its results. -/
def unitEffect (cyc : Nat) (r : Running) (j : Nat) (bad : Bool) (c : CellState) : Running × CellState :=
  let x := r.slot
  match tClass x.tmpl with
  | 2 =>
    let c := swapFirst x j c
    if j < tCount x.tmpl then
      (r, accReady cyc [(bitOf x.imm 10, bitsOf x.imm 9 2 + j)] (mxRow x r j bad c))
    else (r, c)
  | 6 | 7 | 10 => vectorOp r j bad c
  | 8 => (xcendOp r j bad, c)
  | _ => (r, c)

/-- Cycle j of a unit carries an operation: a pass with SWAP that is shorter than 64 rows fills up with idle ones (R87). -/
def hasOp (x : Slot) (j : Nat) : Bool := tClass x.tmpl != 2 || decide (j < tCount x.tmpl)

/-- Issues unit operation j of a slot, with its residue check and, at the last operation of a sparse pass, the pass.
`err` 0: the residue agrees; k + 1: it fails, in a sparse pass in result row k. [log 72 DESIGN CHOICE] -/
def unitOp (f pos cyc : Nat) (r : Running) (err : Nat) (s : State) : Running × State :=
  let x := r.slot
  let j := r.nU
  let (bad, s) := if hasOp x j then residueCheck f pos x (err != 0) s else (false, s)
  let e := unitEffect cyc r j bad (s.cell f pos)
  let s := s.setCell f pos e.2
  let r := { e.1 with nU := j + 1, badRows := if bad then setAdd ((err - 1) % smuRows x.tmpl) r.badRows else r.badRows }
  if tClass x.tmpl = 4 ∧ r.nU = (slotTerms x.tmpl x.imm).2.2.2.1 then
    let cap := capFault x.tmpl x.imm (sparseTile x.tmpl x.imm r.inB)
    let s := s.setCell f pos (accReady cyc (smuTargets x.tmpl x.imm) (smuPass x r cap (s.cell f pos)))
    (r, if cap then capacityFault f pos x s else s)
  else (r, s)

/-- A slot is a DRAIN that still has rows of a half to read (R88). -/
def readsHalf (half : Nat) (q : Running) : Bool :=
  tClass q.slot.tmpl == 5 && !q.marking && decide (q.rows < tCount q.slot.tmpl) && bitOf q.slot.imm 13 == half

/-- A pass waits while a DRAIN reads the half it names (R88). -/
def halfBusy (x : Slot) (c : CellState) : Bool :=
  let halves := if tClass x.tmpl = 2 then [bitOf x.imm 10] else if tClass x.tmpl ≠ 4 then []
    else if smuRows x.tmpl = 512 then [0, 1] else [bitOf x.imm 3]
  c.running.any (fun q => halves.any (fun h => readsHalf h q))

/-- A slot of the vector unit sees a column access transposed (R110), as operand a, as operand b. [log 64 DEDUCED] -/
def asRead (x : Slot) (second col : Bool) (l : List PWord) : List PWord :=
  let (wa, wb, _) := opWidths x.tmpl
  if col && [6, 7, 10].contains (tClass x.tmpl) then slabIn (if second then wb else wa) l else l

/-- Two accesses share a word (R109). -/
def overlap (a : Nat) (ca : Bool) (b : Nat) (cb : Bool) : Bool :=
  if ca == cb then a == b else a / 64 == b / 64

/-- A result that a slot wrote before still waits at the write port, or is committed in this very cycle: a datapath read of
it waits, for a stall never changes a value (R85). [log 154 DEDUCED] -/
def writeAhead (c : CellState) (cyc addr : Nat) (col : Bool) : Bool :=
  c.wport.any (fun q => q.cls == 0 && overlap q.addr q.col addr col)
    || (c.wroteOwn && c.grantW == cyc + 1
      && (List.range 64).any (fun i => c.wrote.any (fun e => e.k == wordKey addr col i)))

/-- The port A part of a cycle. [log 154 DEDUCED] -/
def issueA (f pos cyc : Nat) (r : Running) (col : Bool) (upset : BitVec 128) (s : State) : Running × State :=
  let x := r.slot
  if r.nA < (slotTerms x.tmpl x.imm).1 ∧ !s.flag (F.CEL_STATUS_SP_ZEROING f pos)
      ∧ !writeAhead (s.cell f pos) cyc (addrA x r.nA) col then
    let (l, s) := portRead f pos cyc 0 0 x.lane (slotEvent s f pos 0x0101 4 0 x) (addrA x r.nA) col upset s
    ({ r with nA := r.nA + 1, inA := r.inA ++ [asRead x false col l] }, s)
  else (r, s)

/-- The port B part: one request, or a stall where the queue is full. A SEND reads rows, which a resend can read again.
[log 154 DEDUCED] -/
def issueB (f pos cyc : Nat) (r : Running) (col : Bool) (s : State) : Running × Bool × State :=
  let x := r.slot
  let c := s.cell f pos
  let col := col && tClass x.tmpl != 9
  if r.nB < (slotTerms x.tmpl x.imm).2.1 ∧ !writeAhead c cyc (addrB x r.nB) col then
    if dpWaiting c.portB < 4 then
      let q : PortReq := { cls := 0, owner := x.seq, addr := addrB x r.nB, since := cyc, lane := x.lane, col := col }
      ({ r with nB := r.nB + 1 }, false, s.setCell f pos { c with portB := c.portB ++ [q] })
    else (r, true, s)
  else (r, false, s)

/-- The unit part: the next operation where its operands are there, a stall where they are not. -/
def issueU (f pos cyc : Nat) (r : Running) (err : Nat) (s : State) : Running × Bool × State :=
  let x := r.slot
  if r.nU < (slotTerms x.tmpl x.imm).2.2.2.1 then
    if opReady x r r.nU && !halfBusy x (s.cell f pos) then let u := unitOp f pos cyc r err s; (u.1, false, u.2) else (r, true, s)
  else (r, false, s)

/-- The writes of a DRAIN's results that can be formed now; a write issues four cycles after its rows are read (R91).
[log 68 DESIGN CHOICE] -/
def drainForm (cyc : Nat) (r : Running) : Running :=
  let all := decide (tCount r.slot.tmpl ≤ r.rows)
  let l := (slotWrites r all).drop r.out.length
  { r with formed := all, out := r.out ++ l.map (fun q => { q with since := cyc + 4 }) }

/-- The accumulator part of a DRAIN (R90, R91): the next rows once the writes formed before have all but one been issued; a
row whose result is not there yet stalls it. [log 68 DESIGN CHOICE] -/
def issueD (f pos cyc : Nat) (r : Running) (err : Nat) (s : State) : Running × Bool × State :=
  let x := r.slot
  if tClass x.tmpl ≠ 5 ∨ r.formed then (r, false, s)
  else if r.nW + 1 < r.out.length then (r, false, s)
  else
    let c := s.cell f pos
    let late := (drainNext r).any (fun k => decide (cyc < AMap.get (fun _ => 0) c.accAt (256 * bitOf x.imm 13 + k % 256)))
    if late then (r, true, s)
    else
      let (bad, s) := residueCheck f pos x (err != 0) s
      let d := drainOp r bad (s.cell f pos)
      (drainForm cyc d.1, false, s.setCell f pos d.2)

/-- All of a slot's reads are in and its unit operations issued. -/
def readsDone (r : Running) : Bool :=
  let (a, b, _, u, _) := slotTerms r.slot.tmpl r.slot.imm
  decide (r.nA = a) && decide (r.inB.length = b) && decide (r.nU = u)

/-- The writes of a slot other than a DRAIN are formed once its reads are in and its operations issued. -/
def formWrites (r : Running) : Running :=
  if r.formed || !readsDone r || tClass r.slot.tmpl == 5 then r else { r with formed := true, out := slotWrites r true }

/-- A write as it is asked for: a whole access may go to a column, transposed back by the vector unit at the width of its
own elements (R109, R110); so may the marking of one (R171). [log 64 DEDUCED] -/
def asWritten (cyc : Nat) (col : Bool) (q : PortReq) : PortReq :=
  if col && q.bits == 2048 then { q with since := cyc, col := true, data := if q.mark then [] else slabOut q.width q.data }
  else { q with since := cyc }

/-- The write-port part. -/
def issueW (f pos cyc : Nat) (r : Running) (col : Bool) (s : State) : Running × Bool × State :=
  match r.out[r.nW]? with
  | none => (r, false, s)
  | some q =>
    let c := s.cell f pos
    if cyc < q.since then (r, false, s)
    else if dpWaiting c.wport < 4 then
      ({ r with nW := r.nW + 1 }, false, s.setCell f pos { c with wport := c.wport ++ [asWritten cyc col q] })
    else (r, true, s)

/-- What one cycle issues for a slot before its writes: port A, port B, a unit operation, rows of a DRAIN; the state and
whether a part stalls. -/
def issueParts (f pos cyc : Nat) (r : Running) (err : Nat) (col : BitVec 3) (upset : BitVec 128) (s : State) :
    Running × Bool × State :=
  let (r, s) := issueA f pos cyc r (col.getLsbD 0) upset s
  let (r, b, s) := issueB f pos cyc r (col.getLsbD 1) s
  let (r, u, s) := issueU f pos cyc r err s
  let (r, d, s) := issueD f pos cyc r err s
  (r, b || u || d, s)

/-- MICRO_OP_ISSUE: one cycle of a running slot: at most one read of port A, one port B request, one unit operation and
one write request (R84); a part that cannot issue stalls (R85). `col`: which of the accesses are column accesses (R109):
bit 0 port A, bit 1 port B, bit 2 the write. [log 64 DEDUCED] -/
def microOpIssue (f pos cyc id err : Nat) (col : BitVec 3) (upset : BitVec 128) (s : State) : State :=
  onCell f pos cyc s (fun s =>
    match (s.cell f pos).running.find? (fun r => r.slot.seq == id) with
    | none => s
    | some r =>
      if cyc < r.last then s else
      let r := { r with last := cyc + 1 }
      let (r, p, s) := if r.marking then (r, false, s) else issueParts f pos cyc r err col upset s
      let (r, w, s) := issueW f pos cyc (formWrites r) (col.getLsbD 2) s
      let s := s.setCell f pos (setRunning r (s.cell f pos))
      if p || w then stall f pos cyc s
      else if (s.cell f pos).stallAt ≤ cyc then s.set (F.CEL_STATUS_STALLED f pos) 0 else s)

/-! ### The end of a slot (R173) -/

/-- A 13-bit signed offset. -/
def signed13 (v : Nat) : Int := if v % 8192 < 4096 then (v % 8192 : Nat) else (v % 8192 : Nat) - 8192

/-- Destination of a SEND (Table 05.6). -/
def sendDst (t own : Nat) : Nat :=
  let v := tScalar t
  if bitOf v 31 = 1 then v % 8192 else (((own : Int) + signed13 v) % 8192).toNat

/-- The packet of a SEND slot (Table 05.7, R191), with the first access that port B returned: the NI fills the rest when it
injects. -/
def sendPacket (own id : Nat) (x : Slot) (l : List PWord) : Packet :=
  let aux := tAux x.tmpl
  { id := id, dst := sendDst x.tmpl own, len := tCount x.tmpl, data := [l], addr := x.a1, src0 := x.a0
    tag := bitsOf aux 11 10 * 2 ^ 22 + bitsOf aux 9 0 * 4096 + (bitsOf x.imm 11 0 + x.rep) % 4096 }

/-- What a finished slot leaves inside its cell. -/
def installSlot (r : Running) (c : CellState) : CellState :=
  let x := r.slot
  if r.marking then c else
  match tClass x.tmpl with
  | 1 => { c with shadow := r.inA ++ r.inB }
  | 2 => if bitOf x.imm 12 = 1 then
      { c with shadow := r.inA ++ r.inB.drop (actAccesses x.tmpl + scaleAccesses x.tmpl) } else c
  | 3 => if bitOf x.imm 0 = 1 then { c with stage1 := overlay r.inA c.stage1 } else { c with stage0 := overlay r.inA c.stage0 }
  | _ => c

/-- Every micro-operation of a slot has been issued and its accesses have come in. -/
def slotDone (r : Running) : Bool :=
  (r.marking || readsDone r) && r.formed && decide (r.nW = r.out.length)

/-- SLOT_END: units released, the order group moves on (R173). [log 64 DEDUCED, 68 DESIGN CHOICE] -/
def slotEnd (f pos cyc id : Nat) (s : State) : State :=
  onCell f pos cyc s (fun s =>
    let c := s.cell f pos
    match c.running.find? (fun r => r.slot.seq == id) with
    | none => s
    | some r =>
      if !slotDone r then s else
      let c := installSlot r { c with
        running := c.running.filter (fun q => q.slot.seq != id)
        rep := c.rep.map (fun p => if p.slot = some id then { p with slot := none } else p) }
      s.setCell f pos c)

/-! ### Port grants (R113, R114) -/

/-- Classes in the order a wheel position prefers them (Table 03.6). [log 63 DESIGN CHOICE] -/
def wheel (cyc : Nat) : List Nat := match cyc % 8 with | 6 => [1, 0, 2] | 7 => [2, 0, 1] | _ => [0, 1, 2]

/-- The request a port grants in a cycle, and the rest; what `held` names waits. [log 64 DEDUCED] -/
def pickReq (cyc : Nat) (held : PortReq → Bool) (l : List PortReq) : Option (PortReq × List PortReq) :=
  (wheel cyc).findSome? (fun k =>
    let ok := fun (r : PortReq) => r.cls == k && decide (r.since ≤ cyc) && !held r
    (l.find? ok).map (fun r => (r, l.eraseP ok)))

/-- The longest wait of a class (CEL_SP_WAIT). -/
def noteWait (f pos cyc : Nat) (r : PortReq) (s : State) : State :=
  let w := cyc - r.since
  match r.cls with
  | 0 => s.high (F.CEL_SP_WAIT_MAX_DATAPATH f pos) w
  | 1 => s.high (F.CEL_SP_WAIT_MAX_ROUTER f pos) w
  | _ => s.high (F.CEL_SP_WAIT_MAX_MOVER f pos) w

/-- Requests of an owner of a class waiting at a port. -/
def waitingOf (cls owner : Nat) (l : List PortReq) : Nat := (l.filter (fun r => r.cls == cls && r.owner == owner)).length

/-- Requests of a class waiting at a port. -/
def waitingCls (cls : Nat) (l : List PortReq) : Nat := (l.filter (fun r => r.cls == cls)).length

/-- Data of a granted datapath read reaches its slot. -/
def toSlot (id : Nat) (col : Bool) (l : List PWord) (c : CellState) : CellState :=
  { c with running := c.running.map (fun r =>
      if r.slot.seq = id ∧ !r.marking then { r with inB := r.inB ++ [asRead r.slot true col l] } else r) }

/-! ### The injection buffer and packets on their way (R203, R205) -/

/-- Virtual channel of a packet (R188). -/
def vcOf (p : Packet) (phase : Nat) : Nat := 4 * p.cls + phase

/-- The input buffer that holds a packet's head, and all those that its flits still pass, newest first. -/
def headBuf (p : Packet) : MeshBuf := { x := p.x, y := p.y, port := p.inPort, chan := p.inChan, vc := vcOf p p.phase }
def bufsOf (p : Packet) : List MeshBuf := headBuf p :: p.trail

/-- Flits of a packet: the header and two for each access; a control packet is its header alone (R190). -/
def flitCount (p : Packet) : Nat := 1 + 2 * p.len

/-- Flits that a packet's accesses read so far make up, the header among them (R203). -/
def flitsRead (p : Packet) : Nat := min (flitCount p) (1 + 2 * p.data.length)

/-- Flits of a packet in an input buffer. -/
def flitsIn (p : Packet) (b : MeshBuf) : Nat := (((bufsOf p).zip p.flits).map (fun e => if e.1 = b then e.2 else 0)).sum

/-- Credits of an input buffer of four flits for a packet: what the others leave (R188). -/
def credits (s : State) (id : Nat) (b : MeshBuf) : Nat :=
  4 - ((s.mesh.packets.filter (fun q => q.id != id)).map (fun q => flitsIn q b)).sum

/-- Flits placed in buffers from the head back, as many in each as it has credits for. -/
def fillBufs (room : MeshBuf → Nat) : Nat → List MeshBuf → List Nat
  | _, [] => []
  | n, b :: l => min n (room b) :: fillBufs room (n - min n (room b)) l

/-- The flits of a packet as far behind its head as credits put them; a buffer that the tail flit has left is free (R189). -/
def trailOut (s : State) (p : Packet) : Packet :=
  let l := fillBufs (credits s p.id) (flitsRead p) (bufsOf p)
  if l.sum < flitCount p then { p with flits := l } else
  let n := (l.reverse.dropWhile (· == 0)).length
  { p with flits := l.take n, trail := p.trail.take (n - 1) }

/-- The flits of one packet follow its head; one whose head has left goes once its tail has been read.
[log 68 DESIGN CHOICE] -/
def closeUpOne (s : State) (id : Nat) : State :=
  let step := fun (p : Packet) =>
    if p.id ≠ id then [p] else if !p.eject then [trailOut s p] else if flitsRead p < flitCount p then [p] else []
  { s with mesh := { s.mesh with packets := s.mesh.packets.flatMap step } }

/-- The flits of every packet follow, as each makes room for those behind it. [log 68 DESIGN CHOICE] -/
def closeUp (s : State) : State :=
  let ids := s.mesh.packets.map (·.id)
  ids.foldl (fun s _ => ids.foldl closeUpOne s) s

/-- Accesses of a packet that have left the injection buffer (R203). -/
def drained (p : Packet) : Nat := if p.eject then p.data.length else min p.data.length ((p.flits.sum - 1) / 2)

/-- Accesses in the injection buffer of a cell's NI (R203). -/
def buffered (s : State) (f pos : Nat) : Nat :=
  ((s.ni f pos).out.map (fun p => p.data.length)).sum
    + ((s.mesh.packets.filter (fun p => p.srcPhys == 72 * f + pos && decide (p.src < 5632))).map
        (fun p => p.data.length - drained p)).sum

/-- A read for the NI waits in its queue while the injection buffer holds 32 accesses (R203). -/
def sendWaits (s : State) (f pos : Nat) (r : PortReq) : Bool :=
  decide (32 ≤ buffered s f pos) && (r.cls == 1
    || (r.cls == 0 && (s.cell f pos).running.any (fun q => q.slot.seq == r.owner && tClass q.slot.tmpl == 9)))

/-- The router class asks for the next accesses of a packet that a resend reads again (R208), while its queue has room.
[log 64 DEDUCED] -/
def refillReads (f pos cyc : Nat) (s : State) : State :=
  let c := s.cell f pos
  let ni := s.ni f pos
  match ni.rereads with
  | [] => s
  | x :: l =>
    if 4 ≤ waitingCls 1 c.portB then s else
    let q : PortReq := { cls := 1, owner := x.id, addr := x.addr % 32768, since := cyc }
    let l := if x.left ≤ 1 then l else { x with addr := x.addr + 1, left := x.left - 1 } :: l
    (s.setCell f pos { c with portB := c.portB ++ [q] }).setNi f pos { ni with rereads := l }

/-- The router class queues the next writes of the packets that hold a receive context (R205), while its queue has room:
the oldest packet first; an access with a poisoned flit is committed poisoned (R216); the commit of the last access is the
packet's arrival (R102). [log 64 DEDUCED] -/
def refillWrites (f pos cyc : Nat) (s : State) : State :=
  let c := s.cell f pos
  if 4 ≤ waitingCls 1 c.wport then s else
  match (s.ni f pos).ctx.find? (fun e => decide (e.2 + waitingOf 1 e.1.id c.wport < e.1.data.length)) with
  | none => s
  | some (p, n) =>
    let k := n + waitingOf 1 p.id c.wport
    let bad := (p.data.getD k []).any (·.bad)
    let q : PortReq := { cls := 1, owner := p.id, addr := (p.addr + k) % 32768, since := cyc
                         data := (p.data.getD k []).map (fun w => { w with bad := bad })
                         tag := if k + 1 = p.len then some p.tag else none }
    s.setCell f pos { c with wport := c.wport ++ [q] }

/-- Fills the router class queue up to its four entries. -/
def fillQueue (g : State → State) (s : State) : State := g (g (g (g s)))

/-- One more access of a packet, poisoned where its flits were found uncorrectable (R215). -/
def feed (id : Nat) (l : List PWord) (p : Packet) : Packet :=
  let l := if p.poisoned.contains p.data.length then l.map (fun w => { w with bad := true }) else l
  if p.id = id then { p with data := p.data ++ [l] } else p

/-- A packet that a field endpoint has taken in whole: its context is free; the port sub-channel's waits for an ERU (R205,
R206). -/
def endpointDone (f node : Nat) (s : State) : State :=
  let ni := s.ni f node
  let whole := fun (e : Packet × Nat) => decide (e.1.len ≤ e.1.data.length)
  let s := s.setNi f node { ni with ctx := ni.ctx.filter (fun e => !whole e) }
  if node = 75 then
    let d := s.fieldD f
    s.setField f { d with portIn := d.portIn ++ (ni.ctx.filter whole).map (·.1) }
  else s

/-- A receiver goes on with what has come: a cell queues its writes, an endpoint takes in a packet that is complete. -/
def receiveMore (f node : Nat) (s : State) : State :=
  if node < 72 then fillQueue (refillWrites f node (s.fieldD f).cyc) s else endpointDone f node s

/-- An access read for a packet follows it, wherever its flits now end: in the sender's NI, on the mesh, at its receiver. -/
def feedPacket (id : Nat) (l : List PWord) (s : State) : State :=
  let hit := (s.nis.filter (fun e => e.2.ctx.any (fun c => c.1.id == id))).map (·.1)
  let s := { s with
    nis := AMap.mapVals (fun _ => {}) (fun ni => { ni with
      out := ni.out.map (feed id l), ctx := ni.ctx.map (fun (e : Packet × Nat) => (feed id l e.1, e.2)) }) s.nis
    mesh := { s.mesh with packets := s.mesh.packets.map (feed id l) } }
  closeUp (s.forEach hit (fun k t => receiveMore (k / 78) (k % 78) t))

/-- An access that port B returned to a SEND goes into the injection buffer (R203): the first begins the packet. -/
def toSend (f pos owner : Nat) (l : List PWord) (s : State) : State :=
  match (s.cell f pos).running.find? (fun r => r.slot.seq == owner && tClass r.slot.tmpl == 9 && !r.marking) with
  | none => s
  | some r =>
    if r.pkt ≠ 0 then feedPacket r.pkt l s else
    let id := s.mesh.nextId
    let ni := s.ni f pos
    let s := s.setNi f pos { ni with out := ni.out ++ [sendPacket (logicalId s f pos) id r.slot l] }
    let s := { s with mesh := { s.mesh with nextId := id + 1 } }
    s.setCell f pos (setRunning { r with pkt := id } (s.cell f pos))

/-- Data of a granted router read reaches its packet. -/
def toPacket (f pos cyc id : Nat) (l : List PWord) (s : State) : State := refillReads f pos cyc (feedPacket id l s)

/-- Data of a granted mover read reaches the access that waits for it; a commit ends its wait (R240). -/
def toMover (f id : Nat) (l : List PWord) (s : State) : State :=
  let d := s.fieldD f
  s.setField f { d with accs := d.accs.map (fun a => if a.id = id then
    (if a.stage = 0 then { a with stage := 1, data := l, reached := s.fet }
      else { a with left := a.left - 1, stage := if a.left ≤ 1 then 3 else 2 }) else a) }

/-- An access of a received packet is committed; after its last the context is free (R205). -/
def packetCommit (f pos cyc id : Nat) (s : State) : State :=
  let ni := s.ni f pos
  let ctx := (ni.ctx.map (fun e => if e.1.id = id then (e.1, e.2 + 1) else e)).filter (fun e => decide (e.2 < e.1.len))
  refillWrites f pos cyc (s.setNi f pos { ni with ctx := ctx })

/-- The master a port class acts for (Table 15.4): the cell, or the mover access's queue. -/
def portMaster (s : State) (f pos : Nat) (r : PortReq) : Nat :=
  if r.cls = 2 then
    let d := s.fieldD f
    2 * 2 ^ 29 + 32 * f + ((d.accs.find? (fun a => a.id == r.owner)).map (·.queue)).getD 0
  else logicalId s f pos

/-- The fault event of a port B read: the slot's for the datapath, else the class's. -/
def readEvent (s : State) (f pos : Nat) (r : PortReq) : FaultEvent :=
  let base := { cellEvent s f pos 0x0101 4 0 with master := portMaster s f pos r }
  if r.cls = 0 then
    match (s.cell f pos).running.find? (fun q => q.slot.seq == r.owner) with
    | some q => slotEvent s f pos 0x0101 4 0 q.slot
    | none => base
  else base

/-- A granted read of port B. -/
def grantRead (f pos cyc : Nat) (r : PortReq) (upset : BitVec 128) (s : State) : State :=
  let (l, s) := portRead f pos cyc 1 r.cls r.lane (readEvent s f pos r) r.addr r.col upset s
  match r.cls with
  | 0 => toSend f pos r.owner l (s.setCell f pos (toSlot r.owner r.col l (s.cell f pos)))
  | 1 => toPacket f pos cyc r.owner l s
  | _ => toMover f r.owner l s

/-- A granted write: committed in grant order (R112), an arrival where it is a tagged packet's last (R102). -/
def grantWrite (f pos cyc : Nat) (r : PortReq) (s : State) : State :=
  let arm := r.cls == 0 && s.flag (F.CEL_INJECT_SP_ARM f pos)
  let s := if arm then s.set (F.CEL_INJECT_SP_ARM f pos) 0 else s
  let c := commitWrite r arm (s.cell f pos)
  let c := match r.tag with
    | some t => { c with arrivals := c.arrivals ++ [(t, cyc)] }
    | none => c
  let s := s.setCell f pos c
  match r.cls with
  | 0 => s
  | 1 => packetCommit f pos cyc r.owner s
  | _ => toMover f r.owner [] s

/-- SCRATCHPAD_ACCESS_GRANT: one grant per port and cycle (R113); nothing is granted while zeroing runs (R117). -/
def accessGrant (f pos cyc : Nat) (wport : Bool) (upset : BitVec 128) (s : State) : State :=
  onCell f pos cyc s (fun s =>
    let c := s.cell f pos
    if s.flag (F.CEL_STATUS_SP_ZEROING f pos) then s
    else if wport then
      if cyc < c.grantW then s else
      match pickReq cyc (fun _ => false) c.wport with
      | none => s
      | some (r, l) => grantWrite f pos cyc r (noteWait f pos cyc r (s.setCell f pos { c with wport := l, grantW := cyc + 1 }))
    else if cyc < c.grantB then s else
      match pickReq cyc (sendWaits s f pos) c.portB with
      | none => s
      | some (r, l) =>
        grantRead f pos cyc r upset (noteWait f pos cyc r (s.setCell f pos { c with portB := l, grantB := cyc + 1 })))

/-! ### Register effects (R107, R117, R124, R125) -/

/-- No plan of the partition that holds the field is started. -/
def planIdle (s : State) (f : Nat) : Bool := !planStarted s (ownerOf s f)

/-- CEL_CTRL.FU_CLEAR. -/
def celFuClear (f pos : Nat) (s : State) : State := if planIdle s f then clearTags f pos s else s

/-- CEL_CTRL.SP_ZERO. -/
def celSpZero (f pos : Nat) (s : State) : State := if planIdle s f then startZero f pos s else s

/-- CEL_CTRL.CNT_CLEAR. -/
def celCntClear (f pos : Nat) (s : State) : State :=
  let s := s.set (F.CEL_SP_ERR_CNT_COUNT f pos) 0
  let s := ((s.set (F.CEL_FU_STATUS_MISS_CNT f pos) 0).set (F.CEL_FU_STATUS_OVF_CNT f pos) 0).set (F.CEL_FU_STATUS_STALE_CNT f pos) 0
  let s := s.set (F.CEL_RES_ERR_COUNT f pos) 0
  let s := ((s.set (F.CEL_SP_WAIT_MAX_MOVER f pos) 0).set (F.CEL_SP_WAIT_MAX_ROUTER f pos) 0).set (F.CEL_SP_WAIT_MAX_DATAPATH f pos) 0
  (s.set (F.CEL_STALL_CYCLES f pos) 0).set (F.CEL_SMU_CAP_COUNT f pos) 0

/-! ### The commands -/

def execCellRepetitionBegin (f : Fin 88) (pos : Fin 72) (cyc : Nat) (sigErr : Word) (s : State) : Host.Outcome State Fault Refusal :=
  .next (repetitionBegin f pos cyc sigErr s)

def execSlotBegin (f : Fin 88) (pos : Fin 72) (cyc id : Nat) (s : State) : Host.Outcome State Fault Refusal :=
  .next (slotBegin f pos cyc id s)

def execSlotEnd (f : Fin 88) (pos : Fin 72) (cyc id : Nat) (s : State) : Host.Outcome State Fault Refusal :=
  .next (slotEnd f pos cyc id s)

def execMicroOpIssue (f : Fin 88) (pos : Fin 72) (cyc id : Nat) (op : MicroOp) (upset : BitVec 128) (s : State) :
    Host.Outcome State Fault Refusal := .next (microOpIssue f pos cyc id op.resErr op.col upset s)

def execScratchpadAccessGrant (f : Fin 88) (pos : Fin 72) (cyc : Nat) (wport : Bool) (upset : BitVec 128) (s : State) :
    Host.Outcome State Fault Refusal := .next (accessGrant f pos cyc wport upset s)

def execArrivalRecord (f : Fin 88) (pos : Fin 72) (cyc : Nat) (s : State) : Host.Outcome State Fault Refusal :=
  .next (arrivalRecord f pos cyc s)

def execGuardExpiry (f : Fin 88) (pos : Fin 72) (cyc : Nat) (s : State) : Host.Outcome State Fault Refusal :=
  .next (guardExpiry f pos cyc s)

def execTierAckArrival (f : Fin 88) (pos : Fin 72) (cyc : Nat) (s : State) : Host.Outcome State Fault Refusal :=
  .next (tierAckArrival f pos cyc s)

end Sys2Proof.Machine
end

