-- ==== Sys2Proof/Machine/Descs.lean ====
section
/-!
DEFINITION. Machine/Descs.lean: the fields of a mover descriptor, the tier addresses its accesses touch, and the mover requests
that wait at a Vault (07_weight_streaming R224, R236).
-/
namespace Sys2Proof.Machine

/-! ### Descriptors (Table 07.3) -/

def dSrc (w : Nat) : Nat := bitsOf w 7 4
def dDst (w : Nat) : Nat := bitsOf w 3 0
def dBcast (w : Nat) : Bool := bitOf w 8 == 1
def dTagged (w : Nat) : Bool := bitOf w 9 == 1
def dAfter (w : Nat) : Bool := bitOf w 10 == 1
def dSole (w : Nat) : Bool := bitOf w 11 == 1
def dFirst (w : Nat) : Nat := bitsOf w 23 16
def dCells (w : Nat) : Nat := bitsOf w 31 24 + 1
def dAcc (w : Nat) : Nat := bitsOf w 43 32 + 1
def dSp (w : Nat) : Nat := bitsOf w 62 48
def dSp2 (w : Nat) : Nat := bitsOf w 78 64
def dDelta (w : Nat) : Nat := bitsOf w 87 80
def dTag (w : Nat) : Nat := bitsOf w 119 96
def dTier (w : Nat) : Nat := bitsOf w 191 128
def dTier2 (w : Nat) : Nat := bitsOf w 255 192
def dStride (w : Nat) : Nat := bitsOf w 287 256

/-- Both sides are tiers (R236). -/
def dTierOnly (w : Nat) : Bool := dSrc w != 1 && dDst w != 1

/-- Capacity of a tier (Table 07.1). -/
def tierSize (t : Nat) : Nat := if t = 2 then 2 ^ 34 else 2 ^ 38

/-- The tier ranges of a descriptor: tier, first byte, last byte plus 1. -/
def dRanges (w : Nat) : List (Nat × Nat × Nat) :=
  let span := if dBcast w || dTierOnly w then 0 else (dCells w - 1) * dStride w
  if dTierOnly w then [(dSrc w, dTier w, dTier w + 256 * dAcc w), (dDst w, dTier2 w, dTier2 w + 256 * dAcc w)]
  else if dSrc w ≠ 1 then [(dSrc w, dTier w, dTier w + span + 256 * dAcc w)]
  else if dDst w ≠ 1 then [(dDst w, dTier w, dTier w + span + 256 * dAcc w)]
  else []

/-! ### The addresses of an access -/

/-- Tier addresses of access k of cell i: the side at TIER_ADDR, and for tier to tier its destination. -/
def tierAt (w i k : Nat) : Nat := dTier w + (if dBcast w then 0 else i * dStride w) + 256 * k
/-- [log 80 DEDUCED] -/
def tierAt2 (w k : Nat) : Nat := dTier2 w + 256 * k

/-- The Tier C addresses an access touches. [log 128 DEDUCED] -/
def tcAddrs (w i k : Nat) : List Nat :=
  (if dSrc w = 3 then [tierAt w i k] else []) ++
    (if dDst w = 3 then [if dTierOnly w then tierAt2 w k else tierAt w i k] else [])

/-! ### Requests at a Vault (R224) -/

/-- The tier address of an access, at its TIER_ADDR side. -/
def accTier (a : MoverAcc) : Nat := tierAt a.word (if a.cell = 64 then 0 else a.cell) a.k

/-- The Tier C addresses of an access in flight. -/
def accTierC (a : MoverAcc) : List Nat := tcAddrs a.word (if a.cell = 64 then 0 else a.cell) a.k

/-- The fields whose movers reach Vault v (R223). -/
def vaultFields (v : Nat) : List Nat := allFields.filter (fun f => vaultOf f == v)

/-- A mover request that reached Vault v before `t` still waits there for a unit of some addresses, and is not held
(R224). [log 80 DEDUCED] -/
def moverAhead (s : State) (v t : Nat) (hit : Nat → Bool) : Bool :=
  (vaultFields v).any (fun f => (s.fieldD f).accs.any (fun a =>
    a.stage == 1 && !a.held && decide (a.reached < t) && (accTierC a).any hit))

/-- A mover request that reached Vault v before now waits there for a unit among `n` from `u` on (R224).
[log 80 DEDUCED] -/
def moverBefore (s : State) (v u n : Nat) : Bool := moverAhead s v s.fet (fun a => decide (u ≤ a / 256 ∧ a / 256 < u + n))

end Sys2Proof.Machine
end

