-- ==== Sys2Proof/Machine/Tiers.lean ====
section
/-!
DEFINITION. Machine/Tiers.lean: Tier N, Tier C, Tier P, fences, keys, checkpoints and the journal (07_weight_streaming
R219-R234, R252, R253). Tier contents are kept as plaintext: a unit of Tier C carries the key it was written under, and
under any other reads as the decryption of what its channel holds (R228).
-/
namespace Sys2Proof.Machine

/-! ### Accesses and bytes -/

/-- The 256 bytes of an access, little-endian (R9). -/
def accBytes (l : List PWord) : List Byte := (l.map (fun w => leBytes w.w.toNat 4)).flatten

/-- An access from 256 bytes. -/
def bytesAcc (l : List Byte) (bad : Bool) : List PWord := (List.range 64).map (fun i => ⟨BitVec.ofNat 32 (leAt l (4 * i) 4), bad⟩)

/-! ### Tier N (R220-R222) -/

/-- What went wrong with an access, as its fault names it: unit, partition, master. -/
def tierEvent (code part collector unitType inst addr master : Nat) : FaultEvent :=
  { code := code, part := part, collector := collector, unitType := unitType, inst := inst, access := 1, addr := addr, master := master }

/-- The Tier C channel of a 256 B unit: units interleave by 4 KiB over the Vault's eight channels, or over the four of a half
where the other half holds a channel of the defect map (Table 14.3, type 8). [log 146 DESIGN CHOICE] -/
def tcChannel (s : State) (v unit : Nat) : Nat :=
  match s.get (F.VLT_STATUS_CH_OK v) with
  | 0x0f => unit / 16 % 4
  | 0xf0 => 4 + unit / 16 % 4
  | _ => unit / 16 % 8

/-- A channel that recalibrates lets its requests wait (R436): Tier N by address in a stack, Tier C in a Vault, any of a
Vault's. -/
def calBusy (s : State) (l : List TierCal) (ch : Nat) : Bool := (l[ch]?).any (fun c => decide (s.fet < c.busyTo))
def tnBusy (s : State) (f addr : Nat) : Bool := calBusy s (s.fieldD f).cal (addr / 256 % 16)
def tcBusy (s : State) (v addr : Nat) : Bool := calBusy s (s.vault v).cal (tcChannel s v (addr / 256))
/-- [log 146 DESIGN CHOICE] -/
def vaultBusy (s : State) (v : Nat) : Bool := (s.vault v).cal.any (fun c => decide (s.fet < c.busyTo))

/-- The registers of a Tier N error (R221): its count, the first error. -/
def tnFirst (f unit : Nat) (unc : Bool) (s : State) : State :=
  let s := s.count (if unc then F.VLT_N_ECC_CNT_UNCORR f else F.VLT_N_ECC_CNT_CORR f) 1
  if s.flag (F.VLT_N_ECC_ERR_VALID f) then s else
  let s := (s.set (F.VLT_N_ECC_ERR_VALID f) 1).set (F.VLT_N_ECC_ERR_UNCORR f) (if unc then 1 else 0)
  (s.set (F.VLT_N_ECC_ERR_CHANNEL f) (unit % 16)).set (F.VLT_N_ECC_ERR_UNIT f) unit

/-- A Tier N unit holds an uncorrectable error. [log 164 DESIGN CHOICE] -/
def tnMark (f unit : Nat) (s : State) : State := s.setField f { s.fieldD f with tnEcc := setAdd unit (s.fieldD f).tnEcc }

/-- A corrected Tier N error (R221): class 1. [log 81 DEDUCED] -/
def tnCorrected (f unit : Nat) (s : State) : State :=
  let s := tnFirst f unit false s
  raiseFault (tierEvent 0x0301 (ownerOf s f) f 10 (unit % 16) (256 * unit) 0) s

/-- An uncorrectable Tier N error (R221, Table 07.5): class 3 where the descriptor holds the only copy, else class 2. -/
def tnUncorrectable (f unit master : Nat) (sole : Bool) (s : State) : State :=
  let s := tnMark f unit (tnFirst f unit true s)
  raiseFault (tierEvent (if sole then 0x0303 else 0x0302) (ownerOf s f) f 10 (unit % 16) (256 * unit) master) s

/-- A Tier N read (R221, R222): the access, and whether it was uncorrectable. A unit whose error the checker has just reported
(FAULT_CAPTURE) is delivered poisoned without a second report. [log 9 DESIGN CHOICE] -/
def tnRead (f unit ecc master : Nat) (sole : Bool) (s : State) : (List PWord × Bool) × State :=
  let d := s.fieldD f
  let unc := ecc == 2 || d.tnEcc.contains unit
  let l := bytesAcc (Mem.rdN d.tierN (256 * unit) 256) (unc || d.tnBad.contains unit)
  if d.met.contains unit then ((l, true), s.setField f { d with met := setDel unit d.met })
  else if unc then ((l, true), tnUncorrectable f unit master sole s)
  else if ecc = 1 then ((l, false), tnCorrected f unit s) else ((l, false), s)

/-- A Tier N write (R222, R253, R476). A poisoned access is stored with the poison code and enters the poison list. -/
def tnWrite (f unit : Nat) (l : List PWord) (s : State) : State :=
  let d := s.fieldD f
  let bad := l.any (·.bad)
  let inj := s.flag (F.VLT_N_CTRL_INJECT f)
  let s := s.set (F.VLT_N_CTRL_INJECT f) 0
  let full := bad && !d.poison.contains unit && decide (256 ≤ d.poison.length)
  let s := s.setField f { d with
    tierN := Mem.wrN d.tierN (256 * unit) (accBytes l)
    tnBad := if bad then setAdd unit d.tnBad else setDel unit d.tnBad
    tnEcc := if inj then setAdd unit d.tnEcc else setDel unit d.tnEcc
    met := setDel unit d.met
    poison := if bad && !full then setAdd unit d.poison else d.poison }
  if full then raiseFault { tierEvent 0x030a (ownerOf s f) f 10 (unit % 16) (256 * unit) 0 with access := 2 } s else s

/-- Zeroing of a stack starts (R220). -/
def startTierNZero (f : Nat) (s : State) : State :=
  (s.setField f { s.fieldD f with tierN := [], tnBad := [], tnEcc := [], poison := [], zeroing := true }).set (F.VLT_N_STATUS_ZEROING f) 1

/-- TIER_N_ZERO_DONE. -/
def tierNZeroDone (f : Nat) (s : State) : State :=
  (s.setField f { s.fieldD f with zeroing := false }).set (F.VLT_N_STATUS_ZEROING f) 0

/-! ### Fences and keys (R226-R229) -/

/-- A Tier C region that lets an access of partition p through (R227): bytes [lo, hi) of Vault v. -/
def fencePasses (s : State) (v p lo hi : Nat) (ue : Bool) : Bool :=
  (List.range 16).any (fun r =>
    s.flag (F.VLT_FENCE_ATTR_VALID v r) && s.get (F.VLT_FENCE_ATTR_PART v r) == p
      && (if ue then s.flag (F.VLT_FENCE_ATTR_UE v r) else s.flag (F.VLT_FENCE_ATTR_MOVER v r))
      && decide (s.get (F.VLT_FENCE_BASE_BASE v r) * 2 ^ 24 ≤ lo)
      && decide (hi ≤ (s.get (F.VLT_FENCE_LIMIT_LIMIT v r) + 1) * 2 ^ 24))

/-- The Tier C key of a partition in a Vault, if one is installed (R229). -/
def tierCKey (s : State) (v p : Nat) : Option (List Byte) :=
  if bitOf (s.get (F.VLT_KEY_STATUS_C_KEY v)) p = 1 then (s.part p).keyC else none

/-- A Tier P access of partition p at the flash of Vault w is refused: 1 no region of p there, 3 key absent; 0 it is not
(R226, R229). [log 41 DESIGN CHOICE] -/
def tierPRefused (s : State) (w p : Nat) : Nat :=
  if !(List.range 16).any (fun r => s.flag (F.VLT_PFENCE_ATTR_VALID w r) && s.get (F.VLT_PFENCE_ATTR_PART w r) == p) then 1
  else if bitOf (s.get (F.VLT_KEY_STATUS_P_KEY w)) p = 0 ∨ (s.part p).keyP.isNone then 3 else 0

/-- Why an access is refused: 1 fence, 3 key absent; 0 it is not (R227, R229). -/
def accessRefused (s : State) (v p lo hi : Nat) (ue : Bool) : Nat :=
  if !fencePasses s v p lo hi ue then 1 else if (tierCKey s v p).isNone then 3 else 0

/-- The class 3 fault of a refusal. [log 42 DEDUCED] -/
def refusalFault (v p code addr master : Nat) (s : State) : State :=
  raiseFault { tierEvent (if code = 3 then 0x0308 else 0x0307) p (88 + v) 11 (tcChannel s v (addr / 256)) addr master with access := 2 } s

/-- The class 3 fault of a refused Tier P access. [log 42 DEDUCED] -/
def refusedTierP (w p code addr : Nat) (s : State) : State :=
  raiseFault { tierEvent (if code = 3 then 0x0308 else 0x0307) p (88 + w) 12 0 addr 0 with access := 2 } s

/-! ### Tier C (R222, R228) -/

/-- The tweak of a 256 B unit of Tier C. -/
def tweakC (v unit : Nat) : Nat := v * 2 ^ 30 + unit

/-- What a unit of Tier C reads as under a key (R228): what was written under that key, else the decryption of what its
channel holds, which is zeros before any write. [log 41 DESIGN CHOICE] -/
def plainUnit (d : VaultState) (v unit : Nat) (key : List Byte) : List Byte :=
  let under := AMap.get (fun _ => []) d.keyOfC unit
  let l := Mem.rdN d.tierC (256 * unit) 256
  if under = key then l else xts true key (tweakC v unit) (xts false under (tweakC v unit) l)

/-- The registers of a Tier C error: its count, the first error (VLT_C_ECC_ERR). -/
def tcFirst (v unit : Nat) (unc : Bool) (s : State) : State :=
  let s := s.count (if unc then F.VLT_C_ECC_CNT_UNCORR v else F.VLT_C_ECC_CNT_CORR v) 1
  if s.flag (F.VLT_C_ECC_ERR_VALID v) then s else
  ((s.set (F.VLT_C_ECC_ERR_VALID v) 1).set (F.VLT_C_ECC_ERR_UNCORR v) (if unc then 1 else 0)).set (F.VLT_C_ECC_ERR_UNIT v) unit

/-- The event of a Tier C unit. -/
def tcEvent (s : State) (code v unit p master : Nat) : FaultEvent :=
  tierEvent code p (88 + v) 11 (tcChannel s v unit) (256 * unit) master

/-- A Tier C unit holds an uncorrectable error. [log 164 DESIGN CHOICE] -/
def tcMark (v unit : Nat) (s : State) : State := s.setVault v { s.vault v with tcEcc := setAdd unit (s.vault v).tcEcc }

/-- A corrected Tier C error: class 1 (R252). [log 81 DEDUCED] -/
def tcCorrected (v unit p master : Nat) (s : State) : State :=
  raiseFault (tcEvent s 0x0301 v unit p master) (tcFirst v unit false s)

/-- An uncorrectable Tier C error: class 3 in the region's partition (R252). -/
def tcUncorrectable (v unit p master : Nat) (s : State) : State :=
  raiseFault (tcEvent s 0x0304 v unit p master) (tcMark v unit (tcFirst v unit true s))

/-- A Tier C read for partition p under its key of now (R228): the access, and whether it was uncorrectable. A unit
whose error the checker has just reported (FAULT_CAPTURE) is delivered poisoned without a second report.
[log 9 DESIGN CHOICE] -/
def tcRead (v unit p ecc master : Nat) (s : State) : (List PWord × Bool) × State :=
  let d := s.vault v
  let unc := ecc == 2 || d.tcEcc.contains unit
  let l := bytesAcc (plainUnit d v unit ((tierCKey s v p).getD [])) (unc || d.tcBad.contains unit)
  if d.met.contains unit then ((l, true), s.setVault v { d with met := setDel unit d.met })
  else if unc then ((l, true), tcUncorrectable v unit p master s)
  else if ecc = 1 then ((l, false), tcCorrected v unit p master s) else ((l, false), s)

/-- 256 bytes stored in a unit of Tier C under a key, poisoned or not; an armed injection takes it if its channel is the
one chosen (R222, R228, R253). [log 41 DESIGN CHOICE] -/
def tcStore (v unit : Nat) (key l : List Byte) (bad : Bool) (s : State) : State :=
  let d := s.vault v
  let inj := s.flag (F.VLT_CTRL_INJECT v) && s.get (F.VLT_CTRL_INJ_CH v) == tcChannel s v unit
  let s := if inj then s.set (F.VLT_CTRL_INJECT v) 0 else s
  s.setVault v { d with
    tierC := Mem.wrN d.tierC (256 * unit) l
    keyOfC := AMap.put (fun _ => []) d.keyOfC unit key
    tcBad := if bad then setAdd unit d.tcBad else setDel unit d.tcBad
    tcEcc := if inj then setAdd unit d.tcEcc else setDel unit d.tcEcc
    met := setDel unit d.met }

/-- A Tier C write for partition p. -/
def tcWrite (v unit p : Nat) (l : List PWord) (s : State) : State :=
  tcStore v unit ((tierCKey s v p).getD []) (accBytes l) (l.any (·.bad)) s

/-! ### Patrol scrub (R221) -/

/-- A patrol scrub is due, or in progress, of what was last scrubbed at `last` behind Vault v. [log 81 DEDUCED] -/
def scrubDue (s : State) (v : Nat) (last : Fet) : Bool :=
  decide (last + s.get (F.VLT_SCRUB_CFG_PERIOD_H v) * 3600000000000 ≤ s.fet)

/-- The partition of the region a Tier C unit lies in. -/
def regionPart (s : State) (v unit : Nat) : Nat :=
  (((List.range 16).find? (fun r => s.flag (F.VLT_FENCE_ATTR_VALID v r)
    && decide (s.get (F.VLT_FENCE_BASE_BASE v r) ≤ unit / 65536) && decide (unit / 65536 ≤ s.get (F.VLT_FENCE_LIMIT_LIMIT v r)))).map
    (fun r => s.get (F.VLT_FENCE_ATTR_PART v r))).getD 0

/-- PATROL_SCRUB ends: every unit of a stack (field x), or of a Vault's Tier C (x = 88 + v), has been read once since the
period ran out. `corr` and `unc`: units found in error. [log 81 DEDUCED] -/
def patrolScrub (x : Nat) (corr unc : List Nat) (s : State) : State :=
  let units := fun (l : List Nat) (n : Nat) => (l.filter (fun u => decide (u < n))).eraseDups
  if x < 88 then
    let d := s.fieldD x
    if !scrubDue s (vaultOf x) d.scrubAt then s else
    let bad := units (unc ++ d.tnEcc) (2 ^ 26)
    let s := s.setField x { d with scrubAt := s.fet }
    let s := s.forEach ((units corr (2 ^ 26)).filter (fun u => !bad.contains u)) (tnCorrected x)
    s.forEach bad (fun u t => tnUncorrectable x u 0 false t)
  else
    let v := x - 88
    let d := s.vault v
    if !scrubDue s v d.scrubAt then s else
    let bad := units (unc ++ d.tcEcc) (2 ^ 30)
    let s := s.setVault v { d with scrubAt := s.fet }
    let s := s.forEach ((units corr (2 ^ 30)).filter (fun u => !bad.contains u)) (fun u t => tcCorrected v u (regionPart t v u) 0 t)
    s.forEach bad (fun u t => tcUncorrectable v u (regionPart t v u) 0 t)

/-! ### Calibration records (R436) -/

/-- A draw, in 10 W units, is beyond a record's load plus 25 points of 17.5 kW. -/
def calExceeded (draw : Nat) (c : TierCal) : Bool := decide (2 * c.load + 875 < 2 * draw)

/-- Channels whose records went stale recalibrate, 2 µs each. [log 146 DESIGN CHOICE] -/
def recalibrate (draw : Nat) (now : Fet) (l : List TierCal) : List TierCal :=
  l.map (fun c => if calExceeded draw c then { load := draw, busyTo := now + 2000 } else c)

/-- Every Tier N and Tier C channel against the draw of a window. [log 146 DESIGN CHOICE] -/
def recalTiers (draw : Nat) (s : State) : State :=
  let s := s.forEach (allFields.filter (fun f => (s.fieldD f).cal.any (calExceeded draw))) (fun f t =>
    t.setField f { t.fieldD f with cal := recalibrate draw t.fet (t.fieldD f).cal })
  s.forEach ((List.range 12).filter (fun v => (s.vault v).cal.any (calExceeded draw))) (fun v t =>
    t.setVault v { t.vault v with cal := recalibrate draw t.fet (t.vault v).cal })

/-- The records captured as the tiers are trained: 16 channels a stack, 8 a Vault. -/
def captureTiers (fields : List Nat) (s : State) : State :=
  let c : TierCal := { load := captureLoad s }
  let s := s.forEach fields (fun f t => t.setField f { t.fieldD f with cal := List.replicate 16 c })
  s.forEach (List.range 12) (fun v t => t.setVault v { t.vault v with cal := List.replicate 8 c })

/-! ### Registers (R253, R254) -/

/-- VLT_N_CTRL.CNT_CLEAR. -/
def vltNCntClear (f : Nat) (s : State) : State :=
  let s := (s.set (F.VLT_N_ECC_CNT_CORR f) 0).set (F.VLT_N_ECC_CNT_UNCORR f) 0
  let s := (s.set (F.VLT_MV_STATUS_HW_INFLIGHT f) 0).set (F.VLT_MV_STATUS_ERR_COUNT f) 0
  s.forEach (List.range 32) (fun q t => t.set (F.VLT_MQ_STATUS_HOLD_HW f q) 0)

/-- VLT_CTRL.CNT_CLEAR. -/
def vltCntClear (v : Nat) (s : State) : State :=
  ((s.set (F.VLT_C_ECC_CNT_CORR v) 0).set (F.VLT_C_ECC_CNT_UNCORR v) 0).set (F.VLT_COW_STATUS_UE_WAITS v) 0

/-! ### Checkpoints (R230-R233) -/

/-- Bytes in a segment. -/
def segBytes : Nat := 1048576

/-- The segments of a Tier C region. -/
def regionSegs (s : State) (v r : Nat) : List Nat :=
  let b := s.get (F.VLT_FENCE_BASE_BASE v r)
  let n := s.get (F.VLT_FENCE_LIMIT_LIMIT v r) + 1 - b
  List.range' (16 * b) (16 * n)

/-- A region that is a snapshot reserve. -/
def isReserve (s : State) (v r : Nat) : Bool := s.flag (F.VLT_FENCE_ATTR_VALID v r) && s.get (F.VLT_FENCE_ATTR_KIND v r) == 2

/-- The segments of a partition's snapshot reserve in a Vault, in region order (R231). -/
def reserveSegs (s : State) (v p : Nat) : List Nat :=
  ((List.range 16).filter (fun r => isReserve s v r && s.get (F.VLT_FENCE_ATTR_PART v r) == p)).flatMap (regionSegs s v)

/-- Segments of a partition's snapshot reserve in a Vault. -/
def reserveSize (s : State) (v p : Nat) : Nat := (reserveSegs s v p).length

/-- Free snapshot-reserve segments of a Vault, of every partition (VLT_COW_STATUS.RESERVE_FREE). -/
def reserveFree (s : State) (v : Nat) : Nat :=
  min 65535 ((((List.range 16).filter (isReserve s v)).flatMap (regionSegs s v)).length
    - (((s.vault v).ckpt.map (fun k => k.reserve.length)).getD 0))

/-- The segment of the reserve that a copy goes to: the first no copy is in. [log 82 DEDUCED] -/
def freeReserve (s : State) (v : Nat) (k : CkptState) : Option Nat :=
  (reserveSegs s v k.part).find? (fun g => !k.reserve.any (fun x => x.2 == g))

/-- A unit lies in a segment. -/
def inSegment (g u : Nat) : Bool := decide (4096 * g ≤ u ∧ u < 4096 * (g + 1))

/-- What the Vault reads, under the partition's key, of the place in Tier C that holds segment g of a checkpoint; a unit
found uncorrectable is read poisoned. [log 41 DESIGN CHOICE, 82 DEDUCED] -/
def readSegment (d : VaultState) (v : Nat) (key : List Byte) (g place : Nat) : Segment :=
  let us := (d.keyOfC.map (·.1)).filter (inSegment place)
  { seg := g, key := key, units := us.map (· - 4096 * place)
    mem := us.foldl (fun m u => Mem.wrN m (256 * (u - 4096 * place)) (plainUnit d v u key)) []
    bad := ((d.tcEcc ++ d.tcBad).filter (inSegment place)).foldl (fun l u => setAdd (u - 4096 * place) l) [] }

/-- The uncorrectable units of a segment that the Vault reads: each a class 3 fault (R252). -/
def segErrors (v p place : Nat) (s : State) : State :=
  s.forEach ((s.vault v).tcEcc.filter (inSegment place)) (fun u t =>
    let d := t.vault v
    if d.met.contains u then t.setVault v { d with met := setDel u d.met } else tcUncorrectable v u p 0 t)

/-- A segment of Tier C copied to another place under one key, unit by unit; what is read poisoned is stored poisoned. -/
def copySegment (v : Nat) (key : List Byte) (g place : Nat) (s : State) : State :=
  let d := s.vault v
  s.forEach (List.range 4096) (fun i t =>
    let u := 4096 * g + i
    tcStore v (4096 * place + i) key (plainUnit d v u key) (d.tcBad.contains u || d.tcEcc.contains u) t)

/-- The Vault whose flash holds segment i of Vault v (R230). -/
def flashVault (v i : Nat) : Nat := if v < 8 then v else 2 * (v - 8) + i % 2

/-- The registers that show a Vault's checkpoint. -/
def showCkpt (v : Nat) (s : State) : State :=
  match (s.vault v).ckpt with
  | none => (s.set (F.VLT_CKPT_STATUS_ACTIVE v) 0).set (F.VLT_CKPT_STATUS_UNSAVED v) 0 |>.set (F.VLT_P_STATUS_WRITING v) 0
  | some k =>
    let s := (s.set (F.VLT_CKPT_STATUS_ACTIVE v) 1).set (F.VLT_CKPT_STATUS_PART v) k.part
    let s := (s.set (F.VLT_CKPT_STATUS_SLOT v) k.slot).set (F.VLT_CKPT_STATUS_UNSAVED v) k.unsaved.length
    s.set (F.VLT_P_STATUS_WRITING v) 1

/-- The newest completion record of a partition in the journal (R233). -/
def newestCkpt (s : State) (p : Nat) : Option (Nat × Fet) :=
  let d := s.vault 0
  (d.journal ++ d.staging).foldl (fun b r => match r with
    | .completion q k e => if q = p then some (k, e) else b
    | _ => b) none

/-- What Tier P holds of a partition's slot is given up, in every flash Vault. -/
def dropSlot (p slot : Nat) (s : State) : State :=
  s.forEach (List.range 12) (fun w t =>
    t.setVault w { t.vault w with slots := (t.vault w).slots.filter (fun c => !(c.part == p && c.slot == slot)) })

/-- CKPT_EPOCH (R230): at E every named region's segments are unsaved, and the slot is written anew. [log 82 DEDUCED] -/
def ckptEpoch (p : Nat) (s : State) : State :=
  let d := s.part p
  match d.ckptAt with
  | none => s
  | some e =>
    if s.fet < e then s else
    let vs := (d.ckptRegions.map (·.1)).eraseDups
    let s := dropSlot p d.ckptSlot (s.setPart p { d with ckptAt := none })
    s.forEach vs (fun v t =>
      let segs := ((d.ckptRegions.filter (fun r => r.1 == v)).map (fun r => regionSegs t v r.2)).flatten
      let k : CkptState := { vault := v, part := p, slot := d.ckptSlot, epoch := e, pkey := d.keyP.getD []
                             unsaved := segs.foldl (fun l g => setAdd g l) [] }
      showCkpt v (t.setVault v { t.vault v with ckpt := some k }))

/-- A segment reaches Tier P: into the slot's entry of the Vault whose flash takes it. -/
def intoFlash (k : CkptState) (g : Segment) (s : State) : State :=
  let w := flashVault k.vault g.seg
  let d := s.vault w
  let same := fun (c : CkptState) => c.vault == k.vault && c.part == k.part && c.slot == k.slot
  let fresh : CkptState := { vault := k.vault, part := k.part, slot := k.slot, epoch := k.epoch, pkey := k.pkey }
  let c := (d.slots.find? same).getD fresh
  s.setVault w { d with slots := d.slots.filter (fun c => !same c) ++ [{ c with saved := c.saved ++ [g] }] }

/-- The next segment a writer saves, and the place it is read from: the lowest, unsaved or held in the reserve.
[log 82 DEDUCED] -/
def nextSave (k : CkptState) : Option (Nat × Nat) :=
  (k.unsaved.map (fun g => (g, g)) ++ k.reserve).foldl (fun b x => match b with
    | none => some x
    | some y => if x.1 < y.1 then some x else b) none

/-- SEGMENT_SAVE (R230, R231): the writer saves the next segment into its flash, through the fence and under the key
there and the Tier C key (R226, R229), after the mover requests that reached its units before (R224); no Vault writes a checkpoint once the main input is lost (R39). -/
def segmentSave (v : Nat) (s : State) : State :=
  match (s.vault v).ckpt with
  | none => s
  | some k =>
    match nextSave k with
    | none => s
    | some (g, place) =>
      let w := flashVault v g
      let code := tierPRefused s w k.part
      if s.boot.inputLost || vaultBusy s v || moverBefore s v (4096 * place) 4096 then s
      else if code ≠ 0 then refusedTierP w k.part code (4096 * Config.slotPlace w v k.part k.slot g) s
      else match tierCKey s v k.part with
      | none => refusalFault v k.part 3 (segBytes * place) 0 s
      | some key =>
        let seg := readSegment (s.vault v) v key g place
        let k' := { k with unsaved := setDel g k.unsaved, reserve := k.reserve.filter (fun x => x.1 != g) }
        segErrors v k.part place (showCkpt v (intoFlash k seg (s.setVault v { s.vault v with ckpt := some k' })))

/-- A CKPT_WRITE ends: its Vaults' writers stop and its job has its outcome. -/
def endCkpt (p status : Nat) (result : List Byte) (rfet : Fet) (s : State) : State :=
  let s := s.forEach (List.range 12) (fun v t =>
    if (t.vault v).ckpt.any (fun k => k.part == p) then showCkpt v (t.setVault v { t.vault v with ckpt := none }) else t)
  let s := s.setPart p { s.part p with ckptAt := none, ckptRegions := [] }
  { s with jobs := s.jobs.map (fun j => match j.work with
      | .ckptWrite q => if q = p ∧ j.fin.isNone then { j with fin := some (status, result, rfet) } else j
      | _ => j) }

/-- The checkpoint of Vault v holds segment g in the reserve, at `place`, and need no longer save it from its own place. -/
def noteCopied (v g place : Nat) (s : State) : State :=
  match (s.vault v).ckpt with
  | none => s
  | some k => showCkpt v (s.setVault v { s.vault v with
      ckpt := some { k with unsaved := setDel g k.unsaved, reserve := k.reserve ++ [(g, place)] } })

/-- COPY_ON_WRITE (R231, Table 07.5): the segment an Update Engine is about to write goes to the reserve first; without a
free segment the engine waits, and so it does for mover requests that reached the units before (R224); a copy that fails, or that
the absent key refuses (R229), ends the checkpoint. -/
def copyOnWrite (v addr : Nat) (ok : Bool) (s : State) : State :=
  match (s.vault v).ckpt with
  | none => s
  | some k =>
    let g := addr / segBytes
    if !k.unsaved.contains g || vaultBusy s v || moverBefore s v (4096 * g) 4096 then s
    else match freeReserve s v k with
    | none => s.count (F.VLT_COW_STATUS_UE_WAITS v) 1
    | some place =>
    if moverBefore s v (4096 * place) 4096 then s else
    match ok, tierCKey s v k.part with
    | true, some key => noteCopied v g place (segErrors v k.part g (copySegment v key g place s))
    | _, key =>
      let s := if key.isNone then refusalFault v k.part 3 addr 0 s else s
      let s := raiseFault { tierEvent 0x0309 k.part (88 + v) 11 (tcChannel s v (addr / 256)) addr 0 with access := 2 } s
      endCkpt k.part 0x0400 [] s.fet s

/-- CKPT_COMPLETION_RECORD (R233): every segment saved, the record written, CKPT_WRITE done; it took effect at E (R379). -/
def ckptCompletionRecord (p : Nat) (s : State) : State :=
  let d := s.part p
  let vs := (d.ckptRegions.map (·.1)).eraseDups
  let ok := fun (v : Nat) => (s.vault v).ckpt.any (fun k => k.part == p && k.unsaved.isEmpty && k.reserve.isEmpty)
  if d.ckptAt.isSome || vs.isEmpty || !vs.all ok then s else
  let e := (((s.vault (vs.headD 0)).ckpt.map (·.epoch))).getD 0
  let bytes := segBytes * ((d.ckptRegions.map (fun r => (regionSegs s r.1 r.2).length)).sum)
  let s := s.journal (.completion p d.ckptSlot e)
  endCkpt p 0 (leBytes d.ckptSlot 8 ++ leBytes bytes 8) e s

/-- JOURNAL_STAGING_FLUSH (R234, R423): at 8 MiB of 64-byte records, or 10 ms after the first. [log 83 DEDUCED] -/
def journalStagingFlush (s : State) : State :=
  let d := s.vault 0
  if !d.staging.isEmpty && (decide (131072 ≤ d.staging.length) || decide (d.stagedAt + 10000000 ≤ s.fet)) then flushJournal s else s

/-- Unit i of a saved segment as it was read when it was saved. -/
def savedUnit (v : Nat) (g : Segment) (i : Nat) : List Byte :=
  if g.units.contains i then Mem.rdN g.mem (256 * i) 256
  else xts true g.key (tweakC v (4096 * g.seg + i)) (List.replicate 256 0)

/-- Unit i of a saved segment as the flash of Vault w gives it back: through the 4 KiB data unit it lies in, where the
Tier P key has changed since (R228). [log 41 DESIGN CHOICE] -/
def restoredUnit (w : Nat) (k : CkptState) (key : List Byte) (g : Segment) (i : Nat) : List Byte :=
  if k.pkey = key then savedUnit k.vault g i else
  let tweak := w * 2 ^ 29 + Config.slotPlace w k.vault k.part k.slot g.seg + i / 16
  let l := (List.range' (i / 16 * 16) 16).flatMap (savedUnit k.vault g)
  ((xts true key tweak (xts false k.pkey tweak l)).drop (256 * (i % 16))).take 256

/-- A saved segment goes back into Tier C, under the partition's keys of now (R233). Where neither key has changed and no
injection waits, a unit that no write had reached is left as one. [log 82 DEDUCED] -/
def restoreSegment (w : Nat) (k : CkptState) (g : Segment) (s : State) : State :=
  let v := k.vault
  let d := s.vault v
  let key := (tierCKey s v k.part).getD []
  let pkey := (s.part k.part).keyP.getD []
  let lazy := k.pkey == pkey && g.key == key && !s.flag (F.VLT_CTRL_INJECT v)
  let out := fun (u : Nat) => !inSegment g.seg u
  let s := s.setVault v { d with
    tierC := d.tierC.filter (fun c => out (c.1 / 256)), keyOfC := d.keyOfC.filter (fun e => out e.1)
    tcBad := d.tcBad.filter out, tcEcc := d.tcEcc.filter out }
  s.forEach (if lazy then g.units else List.range 4096) (fun i t =>
    tcStore v (4096 * g.seg + i) key (restoredUnit w k pkey g i) (g.bad.contains i) t)

/-- The flash Vaults that hold segments of a partition's slot at an epoch, with what they hold. -/
def slotHeld (s : State) (p slot : Nat) (e : Fet) : List (Nat × CkptState) :=
  (List.range 12).flatMap (fun w =>
    ((s.vault w).slots.filter (fun k => k.part == p && k.slot == slot && k.epoch == e)).map (fun k => (w, k)))

/-- A mover request that reached a unit of the saved segments before waits there still (R224): the restore waits for it.
[log 80 DEDUCED] -/
def restoreWaits (p slot : Nat) (e : Fet) (s : State) : Bool :=
  (slotHeld s p slot e).any (fun x => x.2.saved.any (fun g => moverBefore s x.2.vault (4096 * g.seg) 4096))

/-- CKPT_RESTORE's effect: every saved segment of a partition's slot goes back; false where a read is refused (R229). -/
def restoreSlot (p slot : Nat) (e : Fet) (s : State) : Bool × State :=
  let l := slotHeld s p slot e
  match l.findSome? (fun x => let c := tierPRefused s x.1 p; if c = 0 then none else some (x, c)) with
  | some ((w, k), c) =>
    (false, refusedTierP w p c (4096 * Config.slotPlace w k.vault p slot (((k.saved.head?).map (·.seg)).getD 0)) s)
  | none =>
  match l.find? (fun x => (tierCKey s x.2.vault p).isNone) with
  | some (_, k) => (false, refusalFault k.vault p 3 (segBytes * (((k.saved.head?).map (·.seg)).getD 0)) 0 s)
  | none => (true, l.foldl (fun s x => x.2.saved.foldl (fun s g => restoreSegment x.1 x.2 g s) s) s)

/-! ### The commands -/

def execTierNZeroDone (f : Fin 88) (s : State) : Host.Outcome State Fault Refusal := .next (tierNZeroDone f s)

def execPatrolScrub (x : Fin 100) (corrected uncorrectable : List Nat) (s : State) : Host.Outcome State Fault Refusal :=
  .next (patrolScrub x corrected uncorrectable s)

def execCkptEpoch (p : Fin 8) (s : State) : Host.Outcome State Fault Refusal := .next (ckptEpoch p s)

def execSegmentSave (v : Fin 12) (s : State) : Host.Outcome State Fault Refusal := .next (segmentSave v s)

def execCopyOnWrite (v : Fin 12) (addr : Nat) (ok : Bool) (s : State) : Host.Outcome State Fault Refusal :=
  .next (copyOnWrite v addr ok s)

def execCkptCompletionRecord (p : Fin 8) (s : State) : Host.Outcome State Fault Refusal := .next (ckptCompletionRecord p s)

def execJournalStagingFlush (s : State) : Host.Outcome State Fault Refusal := .next (journalStagingFlush s)

end Sys2Proof.Machine
end

