-- ==== Sys2Proof/Machine/Movers.lean ====
section
/-!
DEFINITION. Machine/Movers.lean: the mover engine of a field: descriptors, queues, accesses, arrivals
(07_weight_streaming R235-R242, R252).
-/
namespace Sys2Proof.Machine

/-- The check at the start of a descriptor fails (R237). [log 75 DEDUCED] -/
def descBad (w : Nat) : Bool :=
  !(decide (1 ≤ dSrc w ∧ dSrc w ≤ 3 ∧ 1 ≤ dDst w ∧ dDst w ≤ 3))
    || (dSrc w == dDst w && dSrc w != 1)
    || (dBcast w && (dDst w != 1 || dSrc w == 1))
    || bitsOf w 15 12 != 0 || bitsOf w 47 44 != 0 || bitOf w 63 != 0 || bitOf w 79 != 0 || bitsOf w 95 88 != 0
    || bitsOf w 127 120 != 0 || w / 2 ^ 288 != 0
    || decide (63 < dFirst w) || decide (64 < dCells w)
    || dTier w % 256 != 0 || dTier2 w % 256 != 0 || dStride w % 256 != 0
    || (dRanges w).any (fun r => decide (tierSize r.1 < r.2.2))
    || (dTierOnly w && dCells w != 1)

/-- Physical position of a local logical index under the active map (R236, MSH_L2P). -/
def posOf (s : State) (f l : Nat) : Nat := s.get (F.MSH_L2P_POS (64 * f + l % 64))

/-- Cells a descriptor works on: 1 where it uses none or broadcasts, else its cells (R236). -/
def dUnits (w : Nat) : Nat := if dBcast w || dTierOnly w then 1 else dCells w

/-! ### Queues (R238, R239) -/

/-- The descriptors of a queue, oldest first. -/
def inQueue (d : FieldState) (q : Nat) : List Desc := d.descs.filter (fun e => e.queue == q)

/-- A descriptor is done: nothing of it is in flight, every cell is complete, or the descriptor ended on a refusal, and
every complete cell has its arrival (R237, R241, R242). -/
def descDone (d : FieldState) (e : Desc) : Bool :=
  !(d.accs.any (fun a => a.desc == e.id)) && (e.ended || (e.running && e.completed.all (· == dAcc e.word)))
    && (List.range (dUnits e.word)).all (fun i => e.completed.getD i 0 != dAcc e.word || e.arrived.contains i)

/-- POSTED and RUNNING of a queue. -/
def showQueue (f q : Nat) (s : State) : State :=
  let d := s.fieldD f
  let l := inQueue d q
  (s.set (F.VLT_MQ_STATUS_POSTED f q) l.length).set (F.VLT_MQ_STATUS_RUNNING f q)
    (min 127 (l.filter (fun e => e.running && !descDone d e)).length)

/-- A descriptor's entry replaced. -/
def setDesc (f : Nat) (e : Desc) (s : State) : State :=
  let d := s.fieldD f
  s.setField f { d with descs := d.descs.map (fun x => if x.id = e.id then e else x) }

/-- A descriptor error (R252): counted, the first recorded in VLT_MV_ERR. -/
def moverError (f code q idx cell : Nat) (s : State) : State :=
  let s := s.count (F.VLT_MV_STATUS_ERR_COUNT f) 1
  if s.flag (F.VLT_MV_ERR_VALID f) then s else
  let s := (s.set (F.VLT_MV_ERR_VALID f) 1).set (F.VLT_MV_ERR_CODE f) code
  ((s.set (F.VLT_MV_ERR_QUEUE f) q).set (F.VLT_MV_ERR_DESC f) idx).set (F.VLT_MV_ERR_CELL f) cell

/-- The master of a mover queue (Table 15.4). [log 84 DESIGN CHOICE] -/
def queueMaster (f q : Nat) : Nat := 2 * 2 ^ 29 + 32 * f + q

/-- DESC_MALFORMED (R177, R237). [log 75 DEDUCED] -/
def malformed (f q idx : Nat) (s : State) : State :=
  let s := moverError f 2 q idx 0 s
  raiseFault { code := 0x0306, part := ownerOf s f, collector := f, unitType := 9, inst := q, access := 6, master := queueMaster f q } s

/-- A descriptor is posted (R177): it counts its wait from here if nothing unstarted is ahead of it. -/
def postDesc (f q idx word : Nat) (s : State) : State :=
  let d := s.fieldD f
  let e : Desc := { id := d.nextDesc, queue := q, index := idx, word := word, since := d.cyc }
  showQueue f q (s.setField f { d with descs := d.descs ++ [e], nextDesc := d.nextDesc + 1 })

/-- The oldest unstarted descriptor of a queue, and those ahead of it. -/
def oldest (l : List Desc) : Option (Desc × List Desc) :=
  match l.find? (fun e => !e.running && !e.ended) with
  | some e => some (e, l.takeWhile (fun x => x.id != e.id))
  | none => none

/-- The partition that holds a field lets its queues start accesses (Table 15.6). [log 128 DEDUCED] -/
def moversRun (s : State) (f : Nat) : Bool := !moduleQuenched s && partState s (ownerOf s f) != 4

/-- DESCRIPTOR_START (R237, R239). -/
def descriptorStart (f q : Nat) (s : State) : State :=
  let d := s.fieldD f
  match oldest (inQueue d q) with
  | none => s
  | some (e, ahead) =>
    let running := (ahead.filter (fun x => x.running && !descDone d x)).length
    if !moversRun s f || decide (s.get (F.VLT_MQ_CFG_OUT_LIMIT f q) ≤ running) || (dAfter e.word && !ahead.all (descDone d)) then s
    else
      let s := s.high (F.VLT_MQ_STATUS_HOLD_HW f q) ((d.cyc - e.since) / 64)
      let bad := descBad e.word
      let zeros := List.replicate (dUnits e.word) 0
      let s := setDesc f { e with running := !bad, ended := bad, started := zeros, completed := zeros } s
      let d := s.fieldD f
      let s := match oldest (inQueue d q) with
        | some (n, _) => setDesc f { n with since := d.cyc } s
        | none => s
      showQueue f q (if bad then malformed f q e.index s else s)

/-! ### Accesses (R227, R236, R240) -/

/-- The cell an access reads, and the cells it writes, as positions. -/
def srcPos (s : State) (f w i : Nat) : Nat := posOf s f (dFirst w + i)
def dstPos (s : State) (f w i : Nat) : List Nat :=
  if dBcast w then (List.range (dCells w)).map (fun j => posOf s f (dFirst w + j))
  else if dSrc w = 1 then [posOf s f (dFirst w + i + dDelta w)] else [posOf s f (dFirst w + i)]

/-- The fabric branch of an access: the cluster of the cell it starts from; 8 where it uses no cell. -/
def branchOf (s : State) (f w i : Nat) : Nat :=
  if dTierOnly w then 8 else let p := srcPos s f w i; clusterOf (p % 8) (p / 8)

/-- A scratchpad queue has room for the mover class (R113, R240). -/
def roomW (s : State) (f : Nat) (ps : List Nat) : Bool := ps.all (fun p => decide (waitingCls 2 (s.cell f p).wport < 4))
def roomB (s : State) (f p : Nat) : Bool := decide (waitingCls 2 (s.cell f p).portB < 4)

/-- A mover read that the Vault holds (R285): the high-half units of a group between its first result and the end of its
update. -/
def readHeld (s : State) (v p addr : Nat) : Bool :=
  (List.range 16).any (fun g =>
    bitOf (s.get (F.UPD_STATUS_UPDATING v)) g == 1 && s.get (F.UPD_G_CFG_PART v g) == p
      && decide (256 * s.get (F.UPD_G_HI_UNIT v g) ≤ addr)
      && decide (addr < 256 * s.get (F.UPD_G_HI_UNIT v g)
          + 2 * 256 * (s.get (F.UPD_G_SIZE_CHUNKS v g) + 1) * (s.get (F.UPD_G_SIZE_E256 v g) + 1)))

/-- The next access of a descriptor on a branch that has room: its cell. Fewest started first, then the lowest.
[log 75 DEDUCED] -/
def nextCell (s : State) (f branch : Nat) (e : Desc) : Option Nat :=
  let w := e.word
  let ok := fun (i : Nat) =>
    decide (e.started.getD i 0 < dAcc w) && branchOf s f w i == branch
      && (if dSrc w = 1 then roomB s f (srcPos s f w i) else true)
      && (if dDst w = 1 then roomW s f (dstPos s f w i) else true)
  ((List.range (dUnits w)).filter ok).foldl (fun b i => match b with
    | none => some i
    | some j => if e.started.getD i 0 < e.started.getD j 0 then some i else b) none

/-- Where the round-robin of a branch and a PRIO class stands. -/
def rrKey (branch prio : Nat) : Nat := 2 * branch + prio

/-- Running descriptors in the order a branch serves them: PRIO 1 queues first, round-robin in each class after the one
served last (R240). [log 75 DEDUCED] -/
def serveOrder (s : State) (f branch : Nat) : List Desc :=
  let d := s.fieldD f
  [1, 0].flatMap (fun prio =>
    let l := d.descs.filter (fun e => e.running && !e.ended && s.get (F.VLT_MQ_CFG_PRIO f e.queue) == prio)
    let last := AMap.get (fun _ => 0) d.rr (rrKey branch prio)
    l.filter (fun e => decide (last < e.id)) ++ l.filter (fun e => decide (e.id ≤ last)))

/-- A refused access ends its descriptor (R227, R229, R237). -/
def refuseAccess (f v code addr i : Nat) (e : Desc) (s : State) : State :=
  let cell := if dTierOnly e.word then 0 else (dFirst e.word + i) % 64
  let s := moverError f code e.queue e.index cell (setDesc f { e with ended := true } s)
  showQueue f e.queue (refusalFault v (ownerOf s f) code addr (queueMaster f e.queue) s)

/-- An access starts: a scratchpad source asks its port; a tier source asks its tier, and waits there where the Vault holds
the read (R285). [log 171 DESIGN CHOICE] -/
def beginAccess (f branch i : Nat) (e : Desc) (s : State) : State :=
  let d := s.fieldD f
  let w := e.word
  let k := e.started.getD i 0
  let held := dSrc w == 3 && readHeld s (vaultOf f) (ownerOf s f) (tierAt w i k)
  let a : MoverAcc := { id := d.nextAcc, desc := e.id, queue := e.queue, index := e.index, word := w
                        cell := if dBcast w then 64 else i, k := k, stage := if dSrc w = 1 then 0 else 1
                        reached := s.fet, held := held }
  let rr := AMap.put (fun _ => 0) d.rr (rrKey branch (s.get (F.VLT_MQ_CFG_PRIO f e.queue))) e.id
  let s := s.setField f { d with accs := d.accs ++ [a], nextAcc := d.nextAcc + 1, rr := rr }
  let s := if held then s.count (F.UPD_HOLD_CNT_READS (vaultOf f)) 1 else s
  let s := setDesc f { e with started := e.started.set i (k + 1) } s
  let s := s.high (F.VLT_MV_STATUS_HW_INFLIGHT f) (d.accs.length + 1)
  if dSrc w = 1 then
    let p := srcPos s f w i
    let base := if dDst w = 1 then dSp2 w else dSp w
    let c := s.cell f p
    s.setCell f p { c with portB := c.portB ++ [{ cls := 2, owner := a.id, addr := (base + k) % 32768, since := d.cyc }] }
  else s

/-- The uncore cycle, 0.8 ns long, that the master counter stands in (R45). [log 80 DEDUCED] -/
def uncoreCycle (s : State) : Nat := s.fet * 5 / 4

/-- MOVER_ACCESS_START (R227, R240): one access on a fabric branch, at most one in an uncore cycle. [log 80 DEDUCED] -/
def moverAccessStart (f branch : Nat) (s : State) : State :=
  let d := s.fieldD f
  let now := uncoreCycle s + 1
  if !moversRun s f || decide (1536 ≤ d.accs.length) || AMap.get (fun _ => 0) d.branchAt branch == now then s else
  match (serveOrder s f branch).findSome? (fun e => (nextCell s f branch e).map (fun i => (e, i))) with
  | none => s
  | some (e, i) =>
    let v := vaultOf f
    let p := ownerOf s f
    let k := e.started.getD i 0
    let bad := (tcAddrs e.word i k).findSome? (fun a =>
      let r := accessRefused s v p a (a + 256) false
      if r = 0 then none else some (r, a))
    match bad with
    | some (r, a) => refuseAccess f v r a i e s
    | none => beginAccess f branch i e (s.setField f { d with branchAt := AMap.put (fun _ => 0) d.branchAt branch now })

/-! ### Completion (R221, R222, R224, R241, R242) -/

/-- An access in flight replaced. -/
def setAccess (f : Nat) (a : MoverAcc) (s : State) : State :=
  let d := s.fieldD f
  s.setField f { d with accs := d.accs.map (fun x => if x.id = a.id then a else x) }

/-- The tier answers a read (R221, R222). -/
def tierRead (f ecc : Nat) (a : MoverAcc) (s : State) : List PWord × State :=
  let addr := accTier a
  let m := queueMaster f a.queue
  let r := if dSrc a.word = 2 then tnRead f (addr / 256) ecc m (dSole a.word) s
    else tcRead (vaultOf f) (addr / 256) (ownerOf s f) ecc m s
  let cell := if a.cell = 64 ∨ dTierOnly a.word then 0 else (dFirst a.word + a.cell) % 64
  (r.1.1, if r.1.2 then moverError f 4 a.queue a.index cell r.2 else r.2)

/-- A tier takes a write. -/
def tierWrite (f : Nat) (a : MoverAcc) (l : List PWord) (s : State) : State :=
  let addr := if dTierOnly a.word then tierAt2 a.word a.k else tierAt a.word a.cell a.k
  if dDst a.word = 2 then tnWrite f (addr / 256) l s else tcWrite (vaultOf f) (addr / 256) (ownerOf s f) l s

/-- The access is over: its cell is one access further. -/
def finishAccess (f : Nat) (a : MoverAcc) (s : State) : State :=
  let d := s.fieldD f
  let i := if a.cell = 64 then 0 else a.cell
  let s := s.setField f { d with accs := d.accs.filter (fun x => x.id != a.id) }
  match d.descs.find? (fun e => e.id == a.desc) with
  | none => s
  | some e =>
    let n := e.completed.getD i 0 + 1
    let arr := if toScratch a.word && n == dAcc a.word then setAdd i e.arrived else e.arrived
    setDesc f { e with completed := e.completed.set i n, arrived := arr } s

/-- Queues the scratchpad writes of an access; the last access of a TAGGED descriptor's cell is its arrival (R242).
[log 171 DESIGN CHOICE] -/
def queueWrites (f : Nat) (a : MoverAcc) (l : List PWord) (s : State) : State :=
  let ps := dstPos s f a.word (if a.cell = 64 then 0 else a.cell)
  let known := (s.fieldD f).descs.any (fun e => e.id == a.desc)
  let tag := if dTagged a.word && known && a.k + 1 == dAcc a.word then some (dTag a.word) else none
  let q : PortReq := { cls := 2, owner := a.id, addr := (dSp a.word + a.k) % 32768, data := l, since := (s.fieldD f).cyc, tag := tag
                       src := if dSrc a.word = 1 then none else some (dSrc a.word, accTier a) }
  let s := ps.foldl (fun s p => let c := s.cell f p; s.setCell f p { c with wport := c.wport ++ [q] }) s
  setAccess f { a with stage := 2, left := ps.length, data := l } s

/-- An earlier access of the same cell is not as far: accesses of a cell commit in ascending order (R241). -/
def behindOther (d : FieldState) (a : MoverAcc) : Bool :=
  d.accs.any (fun x => x.desc == a.desc && x.cell == a.cell && decide (x.k < a.k) && decide (x.stage < 2))

/-- A channel that an access needs recalibrates (R436). [log 146 DESIGN CHOICE] -/
def accBusy (s : State) (f : Nat) (a : MoverAcc) : Bool :=
  (accTierC a).any (tcBusy s (vaultOf f)) || (dSrc a.word == 2 && tnBusy s f (accTier a))
    || (dDst a.word == 2 && tnBusy s f (if dTierOnly a.word then tierAt2 a.word a.k else accTier a))

/-- MOVER_ACCESS_COMPLETE: the tier answers, and a scratchpad destination's writes are queued; a tier acknowledges; the
scratchpad commits are reported (R240, R241). [log 80 DEDUCED] -/
def moverAccessComplete (f id ecc : Nat) (s : State) : State :=
  let d := s.fieldD f
  match d.accs.find? (fun a => a.id == id) with
  | none => s
  | some a =>
    if a.stage = 3 then finishAccess f a s
    else if a.stage ≠ 1 || a.held || behindOther d a || accBusy s f a || moverAhead s (vaultOf f) a.reached (accTierC a).contains then s
    else if toScratch a.word && !roomW s f (dstPos s f a.word (if a.cell = 64 then 0 else a.cell)) then s
    else
      let (l, s) := if dSrc a.word = 1 then (a.data, s) else tierRead f ecc a s
      if toScratch a.word then queueWrites f a l s else finishAccess f a (tierWrite f a l s)

/-- The arrivals of tier acknowledgements that have room in their cells' queues of four (R242). -/
def ackArrivals (f : Nat) (e : Desc) (s : State) : State :=
  (List.range (dUnits e.word)).foldl (fun s i =>
    match (s.fieldD f).descs.find? (fun x => x.id == e.id) with
    | none => s
    | some e =>
      if e.arrived.contains i || e.completed.getD i 0 != dAcc e.word || toScratch e.word then s
      else if !dTagged e.word then setDesc f { e with arrived := setAdd i e.arrived } s
      else
        let p := posOf s f (dFirst e.word + i)
        let c := s.cell f p
        if 4 ≤ c.acks.length then s
        else setDesc f { e with arrived := setAdd i e.arrived } (s.setCell f p { c with acks := c.acks ++ [dTag e.word] })) s

/-- Queue entries freed in post order (R241). -/
def freeEntries (f q : Nat) (s : State) : State :=
  let d := s.fieldD f
  let gone := ((inQueue d q).takeWhile (descDone d)).map (·.id)
  showQueue f q (s.setField f { d with descs := d.descs.filter (fun e => !gone.contains e.id) })

/-- DESCRIPTOR_COMPLETE (R241, R242). -/
def descriptorComplete (f q : Nat) (s : State) : State :=
  freeEntries f q ((inQueue (s.fieldD f) q).foldl (fun s e => if e.running then ackArrivals f e s else s) s)

/-! ### The commands -/

def execDescriptorStart (f : Fin 88) (q : Fin 32) (s : State) : Host.Outcome State Fault Refusal := .next (descriptorStart f q s)

def execMoverAccessStart (f : Fin 88) (branch : Fin 9) (s : State) : Host.Outcome State Fault Refusal :=
  .next (moverAccessStart f branch s)

def execMoverAccessComplete (f : Fin 88) (acc : Nat) (ecc : Fin 3) (s : State) : Host.Outcome State Fault Refusal :=
  .next (moverAccessComplete f acc ecc s)

def execDescriptorComplete (f : Fin 88) (q : Fin 32) (s : State) : Host.Outcome State Fault Refusal :=
  .next (descriptorComplete f q s)

end Sys2Proof.Machine
end

