-- ==== Sys2Proof/Machine/Groups.lean ====
section
/-!
DEFINITION. Machine/Groups.lean: the parameter groups of a Vault (08_gradients R277, R283-R285, R289): where a group
stands in its step, and what the start of a step or of a plan leaves of it.
-/
namespace Sys2Proof.Machine

/-- A group's data, and replaced. -/
def groupD (s : State) (v g : Nat) : GroupState := AMap.get (fun _ => {}) (s.vault v).groups g
def setGroup (v g : Nat) (d : GroupState) (s : State) : State :=
  s.setVault v { s.vault v with groups := AMap.put (fun _ => {}) (s.vault v).groups g d }

def grpOpt (s : State) (v g : Nat) : Nat := s.get (F.UPD_G_CFG_OPT v g)
def grpE (s : State) (v g : Nat) : Nat := 256 * (s.get (F.UPD_G_SIZE_E256 v g) + 1)
def grpChunks (s : State) (v g : Nat) : Nat := s.get (F.UPD_G_SIZE_CHUNKS v g) + 1

/-- A group is clipped (R283); its results go to GBUF first (R281, R283). -/
def clipped (s : State) (v g : Nat) : Bool :=
  s.flag (F.UPD_G_CFG_CLIP v g) && s.get (F.UPD_CLIP_MAX_MAX 0 (grpPart s v g)) != 0
def usesGbuf (s : State) (v g : Nat) : Bool := clipped s v g || grpOpt s v g == 2

/-- Between the first result of a step and the finished update (R285). -/
def updating (s : State) (v g : Nat) : Bool := bitOf (s.get (F.UPD_STATUS_UPDATING v)) g == 1

/-- UPD_STATUS.PHASE1 and PHASE2 of a Vault: clipped groups that collect squares, and that apply from GBUF (R289). -/
def showPhases (v : Nat) (s : State) : State :=
  let l := (List.range 16).filter (fun g => updating s v g && clipped s v g)
  let b := fun (x : Bool) => if x then 1 else 0
  (s.set (F.UPD_STATUS_PHASE1 v) (b (l.any (fun g => (groupD s v g).factor.isNone)))).set (F.UPD_STATUS_PHASE2 v)
    (b (l.any (fun g => (groupD s v g).factor.isSome)))

/-- The mover reads of a Vault that no group holds any longer are held no more (R285). -/
def releaseReads (v : Nat) (s : State) : State :=
  s.forEach (vaultFields v) (fun f t =>
    let d := t.fieldD f
    t.setField f { d with accs := d.accs.map (fun a => { a with held := a.held && readHeld t v (ownerOf t f) (accTier a) }) })

/-- UPDATING of a group, with its data; reads held for it go on once it is over. -/
def setUpdating (v g : Nat) (on : Bool) (d : GroupState) (s : State) : State :=
  let u := s.get (F.UPD_STATUS_UPDATING v)
  let s := setGroup v g d (s.set (F.UPD_STATUS_UPDATING v) (u - 2 ^ g * bitOf u g + (if on then 2 ^ g else 0)))
  showPhases v (if on then s else releaseReads v s)

/-- A group holds nothing of an update any longer. -/
def clearGroup (v g : Nat) (doneAt : Fet) (s : State) : State :=
  setUpdating v g false { doneAt := doneAt, shots := (groupD s v g).shots } s

/-- A group has finished or skipped its update of the step that began at a boundary. -/
def closeGroup (v g : Nat) (base : Fet) (s : State) : State :=
  let s := clearGroup v g (max base (groupD s v g).doneAt) s
  noteUpdated (grpPart s v g) base v g s

/-- What a group holds cannot become an update: a result is missing, or the total that its clipping waits for.
[log 136 DESIGN CHOICE] -/
def groupStale (s : State) (v g : Nat) : Bool :=
  let d := groupD s v g
  updating s v g && (decide (d.got.length < grpChunks s v g)
    || (clipped s v g && d.factor.isNone && !(s.vault 0).normTotal.any (fun e => e.1 == grpPart s v g)))

/-- The groups of p that meet a condition give up what they hold. [log 136 DESIGN CHOICE] -/
def dropGroups (p : Nat) (cond : State → Nat → Nat → Bool) (s : State) : State :=
  s.forEach (List.range 12) (fun v t =>
    t.forEach ((groupsOf t v p).filter (cond t v)) (fun g u => clearGroup v g (groupD u v g).doneAt u))

/-- A step of p begins: the interrupted updates of the step before are given up, its total is entered anew (R283), and
the verdicts of its chunks stand no longer (R266). [log 136 DESIGN CHOICE] -/
def startUpdates (p : Nat) (s : State) : State :=
  let s := dropGroups p groupStale s
  let s := s.setVault 0 { s.vault 0 with normSent := setDel p (s.vault 0).normSent }
  s.forEach (List.range 64) (fun n t => t.setEru n { t.eru n with verdicts := (t.eru n).verdicts.filter (fun v => v.part != p) })

/-- A plan of p is started: no result of a step before counts for it. [log 136 DESIGN CHOICE] -/
def resetUpdates (p : Nat) (s : State) : State :=
  let s := dropGroups p updating s
  let d := s.vault 0
  let s := s.setVault 0 { d with normTotal := d.normTotal.filter (fun e => e.1 != p) }
  startUpdates p (s.forEach (List.range 12) (fun v t =>
    t.setVault v { t.vault v with inbox := (t.vault v).inbox.filter (fun m => m.part != p) }))

end Sys2Proof.Machine
end

