-- ==== Sys2Proof/Machine/Plans.lean ====
section
/-!
DEFINITION. Machine/Plans.lean: the Plan Sequencer of a field (05_cycle_plans R163, R167, R168, R174-R181, R184).
-/
namespace Sys2Proof.Machine

/-! ### Where the sequencer stands -/

/-- Index of the next bundle, and the bundle itself; a run past the last bundle reads as END (R156). -/
def seqPc (s : State) (f : Nat) : Nat := s.get (F.FLD_PC_PC f)
/-- [log 63 DESIGN CHOICE] -/
def seqWord (s : State) (f : Nat) : Nat :=
  let l := boundImage s f
  if seqPc s f < imgBundles l then imgBundle l (seqPc s f) else 4 * 2 ^ 92 + 2 ^ 91

/-- Loop counters, level 0 to 3. -/
def loopIters (s : State) (f : Nat) : List Nat :=
  [s.get (F.FLD_LOOP01_ITER0 f), s.get (F.FLD_LOOP01_ITER1 f), s.get (F.FLD_LOOP23_ITER2 f), s.get (F.FLD_LOOP23_ITER3 f)]

/-- The field of a loop counter. -/
def iterFld (f l : Nat) : Fld :=
  match l with
  | 0 => F.FLD_LOOP01_ITER0 f
  | 1 => F.FLD_LOOP01_ITER1 f
  | 2 => F.FLD_LOOP23_ITER2 f
  | _ => F.FLD_LOOP23_ITER3 f

/-- Every loop counter reads zero (R174). -/
def clearLoops (f : Nat) (s : State) : State := (s.wr (R.FLD_LOOP01 f) 0).wr (R.FLD_LOOP23 f) 0

/-- The armed boundary a field's STEP bundle takes: the earliest it has not used (R389). [log 70 DEDUCED] -/
def nextBoundary (s : State) (f : Nat) : Option Fet :=
  ((s.part (ownerOf s f)).armed).find? (fun b => decide ((s.fieldD f).base < b))

/-- The rerun of the step a field has finished still has to run (R477). [log 70 DEDUCED, 119 DEDUCED] -/
def rerunHolds (s : State) (f : Nat) : Bool :=
  let d := s.part (ownerOf s f)
  !d.rerunRecs.isEmpty && (s.fieldD f).base == d.stepBase

/-- FET of a gate (R168). -/
def gateFet (s : State) (f w : Nat) : Fet := (s.fieldD f).base + bGate w

/-- The plan of a field stops at bundle 0 (R184); the partition is READY once no field of it runs. [log 25 DEDUCED] -/
def stopAtZero (f : Nat) (s : State) : State :=
  let p := ownerOf s f
  let s := haltSeq f s
  let s := s.forEach (List.range 72) (fun pos t => clearTags f pos t)
  if !planStarted s p && partState s p == 3 then setPartState s p 2 else s

/-- What the status shows once the sequencer stands at a bundle: waiting for a boundary, for a gate, or stopped there by a
graceful stop (R167, R168, R184). An item whose FET has passed by then is late (R74). -/
def arrive (f : Nat) (s : State) : State :=
  let w := seqWord s f
  let s := s.setField f { s.fieldD f with gateDone := false }
  if bKind w = 1 then
    if s.flag (F.FLD_STATUS_STOP_PENDING f) then stopAtZero f s else
    let late := rerunHolds s f || (nextBoundary s f).any (fun b => decide (b < s.fet))
    (s.set (F.FLD_STATUS_WAIT_GATE f) 0).set (F.FLD_STATUS_WAIT_STEP f) (if late then 0 else 1)
  else
    let wait := (bKind w == 0 || bKind w == 5) && bCond w == 1 && decide (s.fet ≤ gateFet s f w)
    (s.set (F.FLD_STATUS_WAIT_STEP f) 0).set (F.FLD_STATUS_WAIT_GATE f) (if wait then 1 else 0)

/-- The sequencer goes to a bundle. [log 70 DEDUCED] -/
def goto (f pc : Nat) (s : State) : State := arrive f (s.set (F.FLD_PC_PC f) pc)

/-- One bundle in one cycle (R163): the command acts where the plan runs, the cycle is free and the bundle is of its
kind. -/
def onBundle (f cyc : Nat) (kind : Nat → Bool) (s : State) (g : Nat → State → State) : State :=
  onCycle f cyc s (fun s =>
    let d := s.fieldD f
    if !s.flag (F.FLD_STATUS_STARTED f) || decide (cyc < d.seqCyc) || !kind (seqWord s f) then s
    else g (seqWord s f) (s.setField f { d with seqCyc := cyc + 1 }))

/-! ### Broadcast (R163) -/

/-- Every cell's bundle queue has a free entry. [log 151 DESIGN CHOICE] -/
def queuesFree (s : State) (f : Nat) : Bool := (servingCells s f).all (fun p => decide ((s.cell f p).queue.length < 16))

/-- A cycle of back-pressure. -/
def backPressure (f : Nat) (s : State) : State := (s.set (F.FLD_STATUS_BP f) 1).count (F.FLD_BP_CYCLES_CYCLES f) 1

/-- A broadcast bundle reaches every queue four cycles after it issues. [log 66 DEDUCED, 151 DESIGN CHOICE] -/
def broadcast (f cyc w sent : Nat) (s : State) : State :=
  let e : QEntry := { bundle := seqPc s f, word := w, iters := loopIters s f, ready := cyc + 4, sent := sent }
  let s := s.set (F.FLD_STATUS_BP f) 0
  s.forEach (servingCells s f) (fun p t =>
    let c := t.cell f p
    (t.setCell f p { c with queue := c.queue ++ [e] }).high (F.FLD_STATUS_QMAX f) (c.queue.length + 1))

/-- A bundle's lane is enabled (R176). [log 66 DEDUCED] -/
def laneOn (s : State) (f w : Nat) : Bool := bLaneAll w || bitOf (s.get (F.FLD_LANE_EN_NOW f)) (bLane w) == 1

/-- BUNDLE_ISSUE: an ungated WORK bundle is broadcast, or skipped with its lane (R163, R176). -/
def bundleIssue (f cyc : Nat) (s : State) : State :=
  onBundle f cyc (fun w => bKind w == 0 && bCond w != 1) s (fun w s =>
    if !laneOn s f w then goto f (seqPc s f + 1) s
    else if queuesFree s f then goto f (seqPc s f + 1) (broadcast f cyc w 0 s)
    else backPressure f s)

/-! ### Step boundaries and gates (R167, R168) -/

/-- A late gate (R167, R168): counted, its lateness kept, a class 0 record. [log 66 DEDUCED] -/
def lateGate (f ns : Nat) (s : State) : State :=
  let s := (s.count (F.FLD_LATE_GATE_COUNT f) 1).set (F.FLD_LATE_GATE_LAST_NS f) (min 65535 ns)
  raiseFault { code := 0x010b, part := ownerOf s f, collector := f, unitType := 21, access := 6
               op0 := seqPc s f % 2 ^ 18, op1 := 65536 * (s.get (F.FLD_STEP_CNT_COUNT f) % 65536) } s

/-- A step of p is over: where its peak 1 ms draw reached the load of a port's calibration record, the first trigger of that
port's margin monitors has come (R323). -/
def armTriggers (p : Nat) (s : State) : State :=
  let d := s.part p
  if d.stepBase = 0 then s else
  s.forEach ((List.range 64).filter (fun n => decide (s.get (F.SNL_CAL_LOAD_PCT n) * 1750 ≤ d.stepPeak * 100)))
    (fun n t => t.setPort n { t.port n with armDue := true })

/-- A partition's step begins at S when its first field takes S: faults raised early count for it (R477), a run of
abstaining steps ends where none came (R80), and updates that the step before left open end. -/
def beginStep (p : Nat) (b : Fet) (count : Nat) (s : State) : State :=
  let d := s.part p
  if b ≤ d.stepBase then s else
  let s := armTriggers p s
  let k : StepLog := { base := b, count := count }
  (startUpdates p s).setPart p { d with
    stepBase := b, stepNo := d.stepNo + 1, rerunRecs := d.rerunRecs ++ d.nextRecs, nextRecs := []
    abstRun := if d.abstNow then d.abstRun else 0, abstNow := false, stepPeak := 0
    steps := (d.steps ++ [k]).drop (d.steps.length - 7) }

/-- A boundary that every field has used is armed no more (R389). -/
def dropUsed (p : Nat) (s : State) : State :=
  let d := s.part p
  let used := fun (b : Fet) => (partFields s p).all (fun f => !s.flag (F.FLD_STATUS_STARTED f) || decide (b ≤ (s.fieldD f).base))
  s.setPart p { d with armed := d.armed.filter (fun b => !used b) }

/-- STEP_BUNDLE (R167): boundary, lane enables, step count, loop counters, poison list, then the broadcast. -/
def stepBundle (f cyc : Nat) (s : State) : State :=
  onBundle f cyc (fun w => bKind w == 1) s (fun w s =>
    match nextBoundary s f with
    | none => s
    | some b =>
      if s.fet < b || rerunHolds s f then s
      else if !queuesFree s f then backPressure f s
      else
        let s := if s.flag (F.FLD_STATUS_WAIT_STEP f) then s else lateGate f (s.fet - b) s
        let p := ownerOf s f
        let s := beginStep p b (s.get (F.FLD_STEP_CNT_COUNT f) + 1) s
        let s := s.setField f { s.fieldD f with base := b, poison := [] }
        let s := s.set (F.FLD_LANE_EN_NOW f) (s.get (F.FLD_LANE_EN_NEXT f))
        let s := s.set (F.FLD_STEP_CNT_COUNT f) (s.get (F.FLD_STEP_CNT_COUNT f) + 1)
        let s := clearLoops f s
        dropUsed p (goto f (seqPc s f + 1) (broadcast f cyc w 0 s)))

/-- The valid slots of a MOVE bundle, ascending: (queue, descriptor index) (R177). -/
def moveSlots (w : Nat) : List (Nat × Nat) :=
  ((List.range 8).map (bSlot w)).filterMap (fun x => if mValid x then some (mQueue x, mDesc x) else none)

/-- Every post fits that can ever fit (R177). -/
def movesFit (s : State) (f w : Nat) : Bool :=
  (List.range 32).all (fun q =>
    let n := ((moveSlots w).filter (fun e => e.1 == q)).length
    let depth := s.get (F.VLT_MQ_CFG_DEPTH f q)
    decide (n = 0 ∨ depth = 0 ∨ (inQueue (s.fieldD f) q).length + n ≤ depth))

/-- The posts of a MOVE bundle; one to a queue of DEPTH 0 is discarded as malformed (R177). -/
def postMoves (f w : Nat) (s : State) : State :=
  let img := boundImage s f
  (moveSlots w).foldl (fun s e =>
    if s.get (F.VLT_MQ_CFG_DEPTH f e.1) = 0 then malformed f e.1 e.2 s else postDesc f e.1 e.2 (imgDesc img e.2) s)
    (s.set (F.FLD_STATUS_BP f) 0)

/-- Issues a WORK or MOVE bundle: posts, broadcasts, skips, or waits for room. -/
def issueWork (f cyc w : Nat) (s : State) : State :=
  if !laneOn s f w then goto f (seqPc s f + 1) s
  else if bKind w = 5 then
    if movesFit s f w then goto f (seqPc s f + 1) (postMoves f w s) else backPressure f s
  else if queuesFree s f then goto f (seqPc s f + 1) (broadcast f cyc w 0 s)
  else backPressure f s

/-- GATE_DUE (R168, R74): at the gate's FET the bundle issues; a gate already past when it was reached is late. -/
def gateDue (f cyc : Nat) (s : State) : State :=
  onBundle f cyc (fun w => (bKind w == 0 || bKind w == 5) && bCond w == 1) s (fun w s =>
    let g := gateFet s f w
    if s.fet < g then s
    else
      let late := !(s.fieldD f).gateDone && !s.flag (F.FLD_STATUS_WAIT_GATE f)
      let s := if late then lateGate f (s.fet - g) s else s
      let s := (s.setField f { s.fieldD f with gateDone := true }).set (F.FLD_STATUS_WAIT_GATE f) 0
      issueWork f cyc w s)

/-- MOVE_BUNDLE: an ungated MOVE bundle (R177, R251). -/
def moveBundle (f cyc : Nat) (s : State) : State :=
  onBundle f cyc (fun w => bKind w == 5 && bCond w != 1) s (fun w s => issueWork f cyc w s)

/-! ### Loops, END, sentinels -/

/-- LOOP_END (R174). -/
def loopEnd (f cyc : Nat) (s : State) : State :=
  onBundle f cyc (fun w => bKind w == 3) s (fun w s =>
    let it := iterFld f (bLevel w)
    if s.get it < bTrips w then goto f (seqPc s f - bBack w) (s.set it (s.get it + 1))
    else goto f (seqPc s f + 1) (s.set it 0))

/-- END_BUNDLE (R156). -/
def endBundle (f cyc : Nat) (s : State) : State := onBundle f cyc (fun w => bKind w == 4) s (fun _ s => goto f 0 s)

/-- SENTINEL_BUNDLE (R178). -/
def sentinelBundle (f cyc : Nat) (s : State) : State :=
  onBundle f cyc (fun w => bKind w == 2) s (fun w s =>
    if queuesFree s f then
      let i := s.get (F.FLD_SENT_IDX_INDEX f)
      goto f (seqPc s f + 1) ((broadcast f cyc w i s).set (F.FLD_SENT_IDX_INDEX f) (i + 1))
    else backPressure f s)

/-- A sentinel mismatch is entered in FLD_SENT_ERR (R179, R181). [log 74 DESIGN CHOICE] -/
def recordSent (f a b reserve : Nat) (s : State) : State :=
  let s := s.count (F.FLD_SENT_ERR_COUNT f) 1
  if s.flag (F.FLD_SENT_ERR_VALID f) then s else
  let s := (s.set (F.FLD_SENT_ERR_VALID f) 1).set (F.FLD_SENT_ERR_RESERVE f) reserve
  (s.set (F.FLD_SENT_ERR_CELL_A f) a).set (F.FLD_SENT_ERR_CELL_B f) b

/-- The signatures of cells p and q, of local indices i and j, are compared after both ran one tile (R179, R480). -/
def compareTiles (f i j p q : Nat) (s : State) : State :=
  let c := s.cell f p
  let s := (s.set (F.CEL_STATUS_SENTINEL f p) 0).setCell f p { c with tile := c.tile.map (fun e => (e.1, true)) }
  if s.rd (R.CEL_SENT_SIG f p) = s.rd (R.CEL_SENT_SIG f q) then
    s.setCell f p { s.cell f p with lastGood := c.sentAt }
  else
    let ev := { cellEvent s f p 0x0108 1 0 with
      access := 3, detail := leNats (64 * f + j) 2 ++ List.replicate 6 0 ++ leNats c.lastGood 6 }
    raiseFault ev (recordSent f i j 0 s)

/-- SENT_SIG_COMPARE (R179, R480): the cell of local index i is compared once for a tile with i XOR 2^(s mod 6), when both
have ended the tile of slot index s; a mismatch raises SENT_MISMATCH naming both cells. [log 69 DEDUCED] -/
def sentSigCompare (f cyc i : Nat) (s : State) : State :=
  onCycle f cyc s (fun s =>
    match holderOf s f i with
    | none => s
    | some p =>
      match tileEnded (s.cell f p) cyc with
      | some (idx, false) =>
        let j := i ^^^ 2 ^ (idx % 6)
        match holderOf s f j with
        | none => s
        | some q =>
          if (tileEnded (s.cell f q) cyc).any (fun e => e.1 == idx) then compareTiles f i j p q s else s
      | _ => s)

/-- The idle reserves of a field, in ascending physical position (R181). -/
def idleReserves (s : State) (f : Nat) : List Nat := (List.range 72).filter (fun p => cellRole s f p == 1)

/-- RESERVE_SENTINEL_TILE (R181): the tile's signature, and its comparison with reserve rank j XOR 2^(s mod 3)
once both have run the tile of that index. -/
def reserveSentinelTile (f pos : Nat) (sigErr : Word) (s : State) : State :=
  let l := idleReserves s f
  if !l.contains pos then s else
  let j := l.idxOf pos
  let c := s.cell f pos
  let idx := c.sentIdx
  let sig := Config.sentinel (s.rd (R.CEL_SENT_SEED f pos)) idx ^^^ sigErr
  let s := (sentinelResidue f pos (s.setCell f pos { c with sentIdx := idx + 1 })).wr (R.CEL_SENT_SIG f pos) sig
  let s := s.set (F.CEL_STATUS_SENTINEL f pos) 1
  let r := j ^^^ 2 ^ (idx % 3)
  match l[r]? with
  | none => s
  | some q =>
    if (s.cell f q).sentIdx ≠ idx + 1 ∨ s.rd (R.CEL_SENT_SIG f q) = sig then s
    else raiseFault { cellEvent s f pos 0x0109 1 0 with access := 3 } (recordSent f j r 1 s)

/-- The plan store of a field is freed: every handle, and the binding (R153). -/
def freeStore (f : Nat) (s : State) : State :=
  let s := s.setField f { s.fieldD f with store := [] }
  let s := (s.set (F.FLD_STORE_FREE_PAGES f) 256).set (F.FLD_STORE_RESIDENT f) 0
  (s.set (F.FLD_STATUS_BOUND f) 0).set (F.FLD_STATUS_IMAGE f) 0

/-- A field's hosts are reset with their caches zero, and its scratchpads and Tier N stack are being zeroed (R350, steps 5
and 7). [log 167 DESIGN CHOICE] -/
def zeroField (f : Nat) (s : State) : State :=
  let s := s.setField f { s.fieldD f with hostsHalted := false, portIn := [], l2 := none, dirty := false }
  startTierNZero f (s.forEach (List.range 72) (fun p t => startZero f p t))

/-- A field that leaves a tenant is cleared (R350, steps 5 to 7). One that is not in service keeps its data until it can be
zeroed, and no partition may take it before (R350, R352). [log 39 DEDUCED] -/
def clearField (f : Nat) (s : State) : State :=
  let s := freeStore f (dropMovers f (stopField f s))
  if inService s f then zeroField f s else s.setField f { s.fieldD f with dirty := true }

/-- FLD_CTRL.CNT_CLEAR. -/
def fldCntClear (f : Nat) (s : State) : State :=
  let s := s.set (F.FLD_STATUS_QMAX f) 0
  let s := (s.wr (R.FLD_LATE_GATE f) 0).wr (R.FLD_BP_CYCLES f) 0
  (s.wr (R.FLD_HOLD_CYCLES f) 0).set (F.FLD_SENT_ERR_COUNT f) 0

/-! ### The commands -/

def execBundleIssue (f : Fin 88) (cyc : Nat) (s : State) : Host.Outcome State Fault Refusal := .next (bundleIssue f cyc s)

def execGateDue (f : Fin 88) (cyc : Nat) (s : State) : Host.Outcome State Fault Refusal := .next (gateDue f cyc s)

def execLoopEnd (f : Fin 88) (cyc : Nat) (s : State) : Host.Outcome State Fault Refusal := .next (loopEnd f cyc s)

def execEndBundle (f : Fin 88) (cyc : Nat) (s : State) : Host.Outcome State Fault Refusal := .next (endBundle f cyc s)

def execMoveBundle (f : Fin 88) (cyc : Nat) (s : State) : Host.Outcome State Fault Refusal := .next (moveBundle f cyc s)

def execSentinelBundle (f : Fin 88) (cyc : Nat) (s : State) : Host.Outcome State Fault Refusal := .next (sentinelBundle f cyc s)

def execSentSigCompare (f : Fin 88) (ended : TileEnd) (s : State) : Host.Outcome State Fault Refusal :=
  .next (sentSigCompare f ended.cyc ended.cell s)

def execReserveSentinelTile (f : Fin 88) (pos : Fin 72) (sigErr : Word) (s : State) : Host.Outcome State Fault Refusal :=
  .next (reserveSentinelTile f pos sigErr s)

end Sys2Proof.Machine
end

