-- ==== Sys2Proof/Machine/Mesh.lean ====
section
/-!
DEFINITION. Machine/Mesh.lean: the wafer mesh at the granularity of packets: IDs and attachments, routes, hops, the seam
firewall, receive checks, BUSY and resend, the maps (06_wafer_mesh R189-R218, 11_partitions R347).
-/
namespace Sys2Proof.Machine

/-! ### IDs, nodes, routers (R190, R192, R193) -/

/-- Global coordinates of a router. -/
def globalX (f pos : Nat) : Nat := 8 * fieldCol f + pos % 8
def globalY (f pos : Nat) : Nat := 9 * fieldRow f + pos / 8

/-- The field and position of a router, where a field lies there. -/
def routerAt (x y : Nat) : Option (Nat × Nat) := (fieldAt (y / 9) (x / 8)).map (fun f => (f, 8 * (y % 9) + x % 8))

/-- The attachment cell of a field endpoint for a source ID (Table 06.3). -/
def attachPos (u src : Nat) : Nat :=
  match u with
  | 3 => if src % 2 = 0 then 27 else 28
  | 4 => if src % 2 = 0 then 43 else 44
  | _ => 32

/-- The node and the router position that a mesh ID names, as a packet from `src` reaches it; none where the ID names no
endpoint (R192, R197). Nodes are positions 0 to 71, then 72 + u. -/
def locate (s : State) (id src : Nat) : Option (Nat × Nat × Nat) :=
  if id < 5632 then let p := s.get (F.MSH_L2P_POS id); some (id / 64, p, p)
  else if id < 7040 then
    let f := (id - 5632) / 16
    let u := (id - 5632) % 16
    if u < 6 then some (f, 72 + u, attachPos u src) else none
  else if id < 7744 then
    let f := (id - 7040) / 8
    let p := reservePos.getD ((id - 7040) % 8) 0
    if s.get (F.CEL_STATUS_ROLE f p) = 1 then some (f, p, p) else none
  else none

/-- The mesh ID of a node: of a cell by the active map, of an idle reserve its reserve ID (Table 06.2). -/
def meshId (s : State) (f node : Nat) : Nat :=
  if 72 ≤ node then 5632 + 16 * f + (node - 72)
  else match (List.range 64).find? (fun l => s.get (F.MSH_L2P_POS (64 * f + l)) == node) with
    | some l => 64 * f + l
    | none => if isReservePos node then 7040 + 8 * f + reservePos.idxOf node else 8191

/-- A field is passable (MSH_FIELD_OK, R197). -/
def passable (s : State) (f : Nat) : Bool :=
  let r := if f < 32 then s.rd R.MSH_FIELD_OK0 else if f < 64 then s.rd R.MSH_FIELD_OK1 else s.rd R.MSH_FIELD_OK2
  bitOf r.toNat (f % 32) == 1

/-- MSH_FIELD_OK with one field's bit set or cleared. -/
def setPassable (f : Nat) (ok : Bool) (s : State) : State :=
  let off := if f < 32 then R.MSH_FIELD_OK0 else if f < 64 then R.MSH_FIELD_OK1 else R.MSH_FIELD_OK2
  s.wr off (Word.withField (s.rd off) (f % 32) (f % 32) (if ok then 1 else 0))

/-! ### Routes (R194-R197, R347) -/

/-- Coordinates stepped through from a to b, a left out. -/
def stepsTo (a b : Nat) : List Nat :=
  if a < b then List.range' (a + 1) (b - a) else (List.range (a - b)).map (fun i => a - 1 - i)

/-- Mesh hops X-first from one router to another. -/
def meshHops (phase : Nat) (a b : Nat × Nat) : List Hop :=
  (stepsTo a.1 b.1).map (fun x => { x := x, y := a.2, phase := phase })
    ++ (stepsTo a.2 b.2).map (fun y => { x := b.1, y := y, phase := phase })

/-- Hops between two routers. -/
def distance (a b : Nat × Nat) : Nat := (a.1 - b.1) + (b.1 - a.1) + ((a.2 - b.2) + (b.2 - a.2))

/-- The attachment cell of an express stop (row 0, column 1) in the field at a router, nearer to a router; on a tie the
lower x (R196). -/
def stopCell (axis : Nat) (at_ near : Nat × Nat) : Nat × Nat :=
  let x := at_.1 / 8 * 8
  let y := at_.2 / 9 * 9 + 4
  let a := if axis = 0 then (x + 2, y) else (x + 3, y)
  let b := if axis = 0 then (x + 5, y) else (x + 4, y)
  if distance b near < distance a near then b else a

/-- The fields an express leg passes, ends included. -/
def fieldsBetween (axis : Nat) (a b : Nat × Nat) : List (Option Nat) :=
  if axis = 0 then
    let g := min (a.1 / 8) (b.1 / 8)
    (List.range (max (a.1 / 8) (b.1 / 8) + 1 - g)).map (fun k => fieldAt (a.2 / 9) (g + k))
  else
    let r := min (a.2 / 9) (b.2 / 9)
    (List.range (max (a.2 / 9) (b.2 / 9) + 1 - r)).map (fun k => fieldAt (r + k) (a.1 / 8))

/-- A leg uses express (R196, R347). [log 77 DEDUCED] -/
def usesExpress (s : State) (part axis : Nat) (a b : Nat × Nat) : Bool :=
  let fs := fieldsBetween axis a b
  let ok := fun (o : Option Nat) => o.any (fun f => passable s f)
  let mid := axis == 0 && (decide (a.1 < 40) != decide (b.1 < 40))
  s.flag F.MSH_ROUTE_CFG_EXP_EN && decide (s.get F.MSH_ROUTE_CFG_EXP_MIN ≤ fs.length - 1)
    && ok (fs.headD none) && ok (fs.getLastD none)
    && !s.boot.noExpress.contains (if axis = 0 then a.2 / 9 else 16 + a.1 / 8)
    && !(s.flag F.MSH_MODE_MODE && mid) && fs.all (fun o => o.any (fun f => ownerOf s f == part))

/-- One leg: its hops, the phase after it, whether it planned express. [log 77 DEDUCED] -/
def legHops (s : State) (part axis phase : Nat) (a b : Nat × Nat) : List Hop × Nat × Bool :=
  if usesExpress s part axis a b then
    let e := stopCell axis a a
    let x := stopCell axis b b
    let via : List Hop := [{ x := x.1, y := x.2, via := 1 + axis, phase := phase + 1 }]
    (meshHops phase a e ++ via ++ meshHops (phase + 1) x b, phase + 1, true)
  else (meshHops phase a b, phase, false)

/-- A planned route: hops, ORDER, EXP. -/
structure Route where
  hops : List Hop
  order : Nat
  exp : Nat

/-- The route of one order: legs along the axes on which the fields differ, the turn between them; a Y-first turn begins a
new phase (R194, R195). [log 77 DEDUCED] -/
def routeOf (s : State) (part : Nat) (yFirst : Bool) (a b : Nat × Nat) : Route :=
  let cols := a.1 / 8 != b.1 / 8
  let rows := a.2 / 9 != b.2 / 9
  let ex := fun (e : Bool) (axis : Nat) => if e then 2 - axis else 0
  if !cols && !rows then { hops := meshHops 0 a b, order := 0, exp := 0 }
  else if !rows then let l := legHops s part 0 0 a b; { hops := l.1, order := 0, exp := ex l.2.2 0 }
  else if !cols then let l := legHops s part 1 0 a b; { hops := l.1, order := 0, exp := ex l.2.2 1 }
  else if yFirst then
    let t := (a.1, b.2)
    let l := legHops s part 1 0 a t
    let m := legHops s part 0 (l.2.1 + 1) t b
    { hops := l.1 ++ m.1, order := 1, exp := ex l.2.2 1 + ex m.2.2 0 }
  else
    let t := (b.1, a.2)
    let l := legHops s part 0 0 a t
    let m := legHops s part 1 l.2.1 t b
    { hops := l.1 ++ m.1, order := 0, exp := ex l.2.2 0 + ex m.2.2 1 }

/-- No mesh leg enters a hole (R197). -/
def routeOk (s : State) (r : Route) : Bool :=
  r.hops.all (fun h => h.via != 0 || (routerAt h.x h.y).any (fun p => passable s p.1))

/-- The route an NI chooses: X-first, else Y-first, else none (R194, R197). -/
def chooseRoute (s : State) (part : Nat) (a b : Nat × Nat) : Option Route :=
  let x := routeOf s part false a b
  if routeOk s x then some x else
  let y := routeOf s part true a b
  if routeOk s y then some y else none

/-- A field set is route-closed (R346): every route between two passable fields of it enters only fields of it.
[log 77 DEDUCED] -/
def routeClosed (s : State) (part mask : Nat) : Bool :=
  let fs := (maskFields mask).filter (passable s)
  let corner := fun (f pos : Nat) => (globalX f pos, globalY f pos)
  fs.all (fun f => fs.all (fun g => f == g ||
    (match chooseRoute s part (corner f 0) (corner g 0) with
      | none => false
      | some r => r.hops.all (fun h => (routerAt h.x h.y).any (fun p => bitOf mask p.1 == 1)))))

/-! ### Faults of a packet (R215) -/

/-- The fault event of a packet (Table 15.3): a tagged data packet is charged to the lane of its tag. -/
def packetEvent (code collector unitType inst : Nat) (p : Packet) : FaultEvent :=
  { code := code, part := p.part, lanes := if p.cls = 1 then 2 ^ (p.tag / 2 ^ 22 % 4) else 0, collector := collector
    unitType := unitType, inst := inst, access := 5, addr := p.tag % 2 ^ 24 + 2 ^ 32 * p.src
    master := if p.src < 5632 then p.src else 2 ^ 29 + p.src }

/-- An error at a router input (R215): counted, the first of the field recorded. -/
def flitError (f pos port quarter : Nat) (unc : Bool) (s : State) : State :=
  let s := if unc then s.count (F.MSH_ECC_CNT_UNCORR f) 1 else s.count (F.MSH_ECC_CNT_CORR f) 1
  if s.flag (F.MSH_ECC_ERR_VALID f) then s else
  let s := (s.set (F.MSH_ECC_ERR_VALID f) 1).set (F.MSH_ECC_ERR_UNCORR f) (if unc then 1 else 0)
  let s := (s.set (F.MSH_ECC_ERR_PORT f) port).set (F.MSH_ECC_ERR_QUARTER f) quarter
  s.set (F.MSH_ECC_ERR_POS f) pos

/-- Input port at the next router, and output port at this one, of a hop: 0 N, 1 E, 2 S, 3 W, 4 local, 5 row express,
6 column express. [log 78 DEDUCED] -/
def hopPorts (p : Packet) (h : Hop) : Nat × Nat :=
  if h.via = 1 then (5, 5) else if h.via = 2 then (6, 6)
  else if p.x < h.x then (3, 1) else if h.x < p.x then (1, 3)
  else if p.y < h.y then (0, 2) else (2, 0)

/-- The express channel of a hop: SRC mod 2 of the two in its direction (R196); 0 for a mesh hop. -/
def hopChan (p : Packet) (h : Hop) : Nat :=
  if h.via = 0 then 0 else 1 + p.src % 2 + 2 * (if p.x < h.x ∨ p.y < h.y then 1 else 0)

/-! ### Flits (R187, R190) -/

/-- Bits 127:0 of a header flit (Table 06.1). -/
def meshHeader (p : Packet) : Nat :=
  p.cls * 2 ^ 126 + p.prio * 2 ^ 124 + p.part * 2 ^ 121 + p.gen * 2 ^ 113 + p.phase * 2 ^ 111 + p.order * 2 ^ 110
    + p.exp * 2 ^ 108 + p.dst * 2 ^ 94 + p.dstX * 2 ^ 87 + p.dstY * 2 ^ 80 + p.src * 2 ^ 67 + p.srcPhys * 2 ^ 54
    + p.tag * 2 ^ 30 + p.addr * 2 ^ 15 + (p.len - 1) * 2 ^ 3

/-- A flit: 1,024 data bits, nine check bits for each of the eight quarters, the sideband, the virtual channel (R187). -/
structure Flit where
  data : Nat
  check : List Nat
  head : Bool
  tail : Bool
  poison : Bool
  vc : Nat
  deriving DecidableEq, Repr

/-- The access that payload flit k carries one half of (R190). -/
def flitAccess (k : Nat) : Nat := (k - 1) / 2

/-- The data bits of flit k, bytes in ascending order (R190). -/
def flitData (p : Packet) (k : Nat) : Nat :=
  if k = 0 then meshHeader p + 2 ^ 128 * leAt p.body 0 112
  else leAt (accBytes (p.data.getD (flitAccess k) [])) (128 * ((k - 1) % 2)) 128

/-- Flit k of a packet as a link carries it (R187, R188, R216). [log 138 DESIGN CHOICE] -/
def flitOf (p : Packet) (k : Nat) : Flit :=
  let d := flitData p k
  { data := d, check := (List.range 8).map (fun q => Config.secded (bitsOf d (128 * q + 127) (128 * q)) % 512)
    head := k == 0, tail := k + 1 == flitCount p
    poison := k != 0 && (((p.data.getD (flitAccess k) []).drop (32 * ((k - 1) % 2))).take 32).any (·.bad)
    vc := 4 * p.cls + p.phase }

/-- A packet in flight replaced. -/
def putPacket (p : Packet) (s : State) : State :=
  { s with mesh := { s.mesh with packets := s.mesh.packets.map (fun q => if q.id = p.id then p else q) } }

/-- A packet is taken off the mesh where its head stands: its later flits still come that way, up to the tail (R189,
R205). -/
def takeOff (id : Nat) (s : State) : State :=
  closeUp { s with mesh := { s.mesh with packets := s.mesh.packets.map (fun q =>
    if q.id = id then { q with eject := true, flits := [], route := [] } else q) } }

/-- Poison on the words of one access of a packet, also where it is still to be read (R215, R216). -/
def poisonAccess (p : Packet) (a : Nat) : Packet :=
  { p with
    poisoned := setAdd a p.poisoned
    data := p.data.zipIdx.map (fun e => if e.2 = a then e.1.map (fun w => { w with bad := true }) else e.1) }

/-! ### PACKET_HOP (R187-R189, R202, R215, R217) -/

/-- The input buffer a hop needs. -/
def nextBuf (p : Packet) (h : Hop) : MeshBuf :=
  { x := h.x, y := h.y, port := (hopPorts p h).1, chan := hopChan p h, vc := vcOf p h.phase }

/-- A packet holds the virtual channel into an input buffer: from its head flit to its tail flit (R189). -/
def holdsVc (q : Packet) (b : MeshBuf) : Bool :=
  (bufsOf q).contains b && (q.eject || decide (q.flits.sum < flitCount q) || (bufsOf q).getLast? != some b)

/-- A packet's head cannot enter an input buffer: another holds the channel into it, or it has no credit left (R188,
R189). -/
def bufHeld (s : State) (id : Nat) (b : MeshBuf) : Bool :=
  s.mesh.packets.any (fun q => q.id != id && holdsVc q b) || credits s id b == 0

/-- Another packet stands before a packet's head in its input buffer. -/
def behind (s : State) (p : Packet) : Bool :=
  s.mesh.packets.any (fun q => q.id != p.id && q.trail.contains (headBuf p))
    || (s.mesh.packets.takeWhile (fun q => q.id != p.id)).any (fun q => !q.eject && headBuf q == headBuf p)

/-- A packet whose tail has not come yet holds the local output of a packet's router on its channel (R189). -/
def localHeld (s : State) (p : Packet) : Bool :=
  s.mesh.packets.any (fun q => q.id != p.id && q.eject && q.x == p.x && q.y == p.y && vcOf q q.phase == vcOf p p.phase)

/-- A packet's head is held up where it stands or where it goes: the input buffer a hop needs is not free for it. -/
def inputHeld (s : State) (p : Packet) (h : Hop) : Bool := bufHeld s p.id (nextBuf p h)

/-- The output and channel that a packet's head waits for at its router: the local one where its route ends. -/
def wanted (p : Packet) : Nat × Nat :=
  match p.route with
  | [] => (4, 0)
  | h :: _ => ((hopPorts p h).2, hopChan p h)

/-- Where the turns of an output are kept. -/
def turnKey (p : Packet) : Nat := ((90 * p.x + p.y) * 8 + (wanted p).1) * 8 + (wanted p).2

/-- Heads at the same router that want the same output and could leave by it now (R188). -/
def contenders (s : State) (p : Packet) : List Packet :=
  s.mesh.packets.filter (fun q => q.id != p.id && !q.eject && q.x == p.x && q.y == p.y && wanted q == wanted p && !behind s q
    && (match q.route with | [] => !localHeld s q | h :: _ => !inputHeld s q h))

/-- Place of an input in the round-robin of an output: N, E, S, W, L, the express stops, after the last winner.
[log 78 DEDUCED] -/
def turnOf (s : State) (p q : Packet) : Nat := (q.inPort + 7 - AMap.get (fun _ => 0) s.mesh.turns (turnKey p)) % 7

/-- A packet's head waits for another at its output: data for control, data for data whose turn comes first (R188).
[log 78 DEDUCED] -/
def losesTurn (s : State) (p : Packet) : Bool :=
  p.cls != 0 && (contenders s p).any (fun q => q.cls == 0 || decide (turnOf s p q < turnOf s p p))

/-- A packet's head cannot leave its router: another stands before it, or goes first, or still passes the local output. -/
def headWaits (s : State) (p : Packet) : Bool := p.eject || behind s p || losesTurn s p || (p.route.isEmpty && localHeld s p)

/-- An output has served a data packet: its input comes last the next time. -/
def passTurn (p : Packet) (s : State) : State :=
  if p.cls = 0 then s else
  { s with mesh := { s.mesh with turns := AMap.put (fun _ => 0) s.mesh.turns (turnKey p) ((p.inPort + 1) % 7) } }

/-- The seam firewall drops a packet (R202). -/
def seamDrop (f g : Nat) (p : Packet) (s : State) : State :=
  let s := takeOff p.id (s.count F.MSH_SEAM_DROP_COUNT 1)
  let s := raiseFault (packetEvent 0x0206 f 7 0 p) s
  noteAt 5 (ownerOf s g) g 7 0 s

/-- The output by which flits leave a buffer for the next one. -/
def outOf (x y : Nat) (b : MeshBuf) : Nat :=
  if 5 ≤ b.port then b.port else if x < b.x then 1 else if b.x < x then 3 else if y < b.y then 2 else 0

/-- The outputs that flits of a packet leave by as its head leaves by `out` for buffer b: router, output, next buffer, flit;
the first flit of each buffer behind the head (R188). [log 78 DEDUCED] -/
def wormOuts (p : Packet) (out : Nat) (b : MeshBuf) : List (Nat × Nat × Nat × MeshBuf × Nat) :=
  (p.x, p.y, out, b, 0) :: ((p.trail.zip (bufsOf p)).zipIdx.filter (fun e => decide (0 < p.flits.getD (e.2 + 1) 0))).map (fun e =>
    (e.1.1.x, e.1.1.y, outOf e.1.1.x e.1.1.y e.1.2, e.1.2, (p.flits.take (e.2 + 1)).sum))

/-- An injection armed at an output acts on the flit that leaves by it (R217): one check bit of quarter 0, or two.
[log 53 DEDUCED, 78 DEDUCED] -/
def injected (f pos out : Nat) (s : State) : Option Bool × State :=
  if s.flag (F.MSH_INJECT_ARM f) && s.get (F.MSH_INJECT_POS f) == pos && s.get (F.MSH_INJECT_PORT f) == out then
    (some (s.flag (F.MSH_INJECT_DOUBLE f)), s.set (F.MSH_INJECT_ARM f) 0)
  else (none, s)

/-- One flit of a packet is found in error at an input (R215, R216): corrected, a payload flit poisoned, a packet dropped
with its header. -/
def flitFault (f pos port : Nat) (inj : Bool) (id : Nat) (s : State) (e : FlitErr) : State :=
  match s.mesh.packets.find? (fun p => p.id == id) with
  | none => s
  | some p =>
    if p.eject || decide (flitCount p ≤ e.flit) then s else
    let s := flitError f pos port e.quarter e.double s
    if !e.double then raiseFault { packetEvent 0x0201 f 7 pos p with injected := inj } s
    else if (flitOf p e.flit).head then
      raiseFault { packetEvent 0x0203 f 7 pos p with injected := inj, port := port } (takeOff id s)
    else
      raiseFault { packetEvent 0x0202 f 7 pos p with injected := inj, port := port } (putPacket (poisonAccess p (flitAccess e.flit)) s)

/-- The armed injections that the flits of a moving packet meet; each error is found at the input of the next router.
[log 78 DEDUCED] -/
def wormInject (id : Nat) (l : List (Nat × Nat × Nat × MeshBuf × Nat)) (s : State) : State :=
  l.foldl (fun s e =>
    match routerAt e.1 e.2.1, routerAt e.2.2.2.1.x e.2.2.2.1.y with
    | some (f, pos), some (g, gpos) =>
      match injected f pos e.2.2.1 s with
      | (some d, s) => flitFault g gpos e.2.2.2.1.port true id s { flit := e.2.2.2.2, quarter := 0, double := d }
      | (none, s) => s
    | _, _ => s) s

/-- What the input of a packet's router finds in its flits. -/
def checkFlits (f pos port id : Nat) (errs : List FlitErr) (s : State) : State := errs.foldl (flitFault f pos port false id) s

/-- A packet after a hop: its head in the next buffer (R188, R189). -/
def movedTo (p : Packet) (h : Hop) (rest : List Hop) : Packet :=
  let b := nextBuf p h
  { p with x := h.x, y := h.y, phase := h.phase, inPort := b.port, inChan := b.chan, route := rest, trail := bufsOf p, flits := [1] }

/-- A packet's head enters the next router, behind what stands in its buffer; its other flits follow.
[log 68 DESIGN CHOICE] -/
def stepHead (p : Packet) (h : Hop) (rest : List Hop) (s : State) : State :=
  closeUp { s with mesh := { s.mesh with packets := s.mesh.packets.filter (fun q => q.id != p.id) ++ [movedTo p h rest] } }

/-- The seam firewall stops a hop (R202). -/
def seamStops (s : State) (p : Packet) (h : Hop) : Bool :=
  s.flag F.MSH_MODE_MODE && p.part != 0 && h.via == 0 && (decide (p.x < 40) != decide (h.x < 40))
    && bitOf (s.get F.MSH_MODE_SEAM_ALLOW) p.part == 0

/-! ### PACKET_INJECT (R191, R197, R203, R204) -/

/-- Position of the router a node injects at: a cell's own; an endpoint's by the parity of its own ID (Table 06.3). -/
def nodePos (node src : Nat) : Nat := if node < 72 then node else attachPos (node - 72) src

/-- The header an NI fills (R191): a cell's partition is that of its field; an endpoint's packet names the partition it
serves; a BUSY keeps the refused header's GEN. [log 76 DEDUCED] -/
def fillHeader (s : State) (f node : Nat) (p : Packet) : Packet :=
  let part := if node < 72 then ownerOf s f else p.part
  let src := meshId s f node
  let pos := nodePos node src
  { p with
    id := if p.id = 0 then s.mesh.nextId else p.id, part := part, src := src, srcPhys := 72 * f + pos
    prio := if p.cls = 0 then 3 else if node < 72 then 2 else 1
    gen := if p.ctl = 1 || p.fromLink then p.gen else s.get (F.MSH_GEN_GEN part)
    x := globalX f pos, y := globalY f pos, inPort := 4, inChan := 0, trail := [], flits := [1], phase := 0, injected := true }

/-- A packet that has no route is dropped, with a class 3 fault in the sending partition unless it is a BUSY (R197,
R208). -/
def unreachable (f node : Nat) (p : Packet) (s : State) : State :=
  let s := s.count (F.MSH_DROP_CNT_UNREACH f) 1
  if p.ctl = 1 then s else raiseFault (packetEvent 0x0205 f 8 node p) s

/-- A data packet leaves a retry record: a cell's NI reads its data again for a resend, an endpoint's keeps it; its period
begins (R204, R208). -/
def keepRecord (node : Nat) (now : Fet) (p : Packet) (l : List RetryRec) : List RetryRec :=
  if p.cls = 0 then l else
  let kept := if node < 72 then { p with data := [], route := [] } else { p with route := [] }
  if l.any (fun r => r.pkt.id == p.id) then
    l.map (fun r => if r.pkt.id = p.id then { r with pkt := kept, waiting := false, at_ := now } else r)
  else l ++ [{ pkt := kept, len := p.len, at_ := now }]

/-- The next packet an NI may inject: control at once; data once its first access is there and a retry record is free
(R203, R204). -/
def nextOut (ni : NiState) : Option Packet :=
  ni.out.find? (fun p => p.cls == 0 ||
    (!p.data.isEmpty && (p.id != 0 && ni.retry.any (fun r => r.pkt.id == p.id) || decide (ni.retry.length < 16))))

/-- The nodes that share the local port of a position (Table 06.3), and which side of it a node is: 0 the cell, 1 the
attached unit. -/
def sharing (f : Nat) (s : State) (pos : Nat) : List Nat :=
  ((List.range' 72 6).filter (fun n => nodePos n (meshId s f n) == pos)) ++ [pos]
def sideOf (node : Nat) : Nat := if node < 72 then 0 else 1

/-- A node has a packet that the local input of its router would take now (R188, R203, R204). -/
def canInject (f node : Nat) (s : State) : Bool :=
  match nextOut (s.ni f node) with
  | none => false
  | some p => let q := fillHeader s f node p; !bufHeld s q.id (headBuf q)

/-- The express stop at a router has a packet that could leave it now by the local port (R193). [log 78 DEDUCED] -/
def stopReady (s : State) (x y : Nat) : Bool :=
  s.mesh.packets.any (fun q => match q.route with
    | h :: _ => h.via != 0 && h.x == x && h.y == y && !headWaits s q && !inputHeld s q h
    | [] => false)

/-- The other side of a shared local port has a packet, and its turn (R193): the attached unit, an endpoint or an express
stop, goes first. -/
def yields (f node : Nat) (s : State) : Bool :=
  let pos := nodePos node (meshId s f node)
  AMap.get (fun _ => 0) s.mesh.localTurns (72 * f + pos) == sideOf node
    && ((sharing f s pos).any (fun n => sideOf n != sideOf node && canInject f n s)
      || (sideOf node == 0 && stopReady s (globalX f pos) (globalY f pos)))

/-- A packet put on the mesh at its local input: a retry record, the turn of the local port, what that input finds in its
flits (R193, R204, R215). -/
def putOnMesh (f node : Nat) (q : Packet) (errs : List FlitErr) (s : State) : State :=
  let ni := s.ni f node
  let pos := nodePos node q.src
  let s := s.setNi f node { ni with retry := keepRecord node s.fet q ni.retry }
  let s := { s with mesh := { s.mesh with
    packets := s.mesh.packets ++ [q], localTurns := AMap.put (fun _ => 0) s.mesh.localTurns (72 * f + pos) (sideOf node) } }
  checkFlits f pos 4 q.id errs (closeUp s)

/-- PACKET_INJECT: the next packet of an NI, once the local input of its router has a free buffer for it (R188, R189);
`errs`: what SECDED finds in its flits there. [log 76 DEDUCED] -/
def packetInject (f node : Nat) (errs : List FlitErr) (s : State) : State :=
  let ni := s.ni f node
  match nextOut ni with
  | none => s
  | some p =>
    let q := fillHeader s f node p
    if !uncoreOn s f || yields f node s || bufHeld s q.id (headBuf q) then s else
    let s := s.setNi f node { ni with out := ni.out.erase p }
    let s := { s with mesh := { s.mesh with nextId := if p.id = 0 then s.mesh.nextId + 1 else s.mesh.nextId } }
    match locate s q.dst q.src with
    | none => unreachable f node q s
    | some (g, _, pos) =>
      match chooseRoute s q.part (q.x, q.y) (globalX g pos, globalY g pos) with
      | none => unreachable f node q s
      | some r =>
        putOnMesh f node
          { q with route := r.hops, order := r.order, exp := r.exp, dstX := globalX g pos, dstY := globalY g pos } errs s

/-! ### PACKET_HOP, the hop -/

/-- A packet that comes by express waits while the cell at that router injects: they share its local port and take turns
(R193). [log 78 DEDUCED] -/
def stopWaits (s : State) (h : Hop) (g gpos : Nat) : Bool :=
  h.via != 0 && AMap.get (fun _ => 0) s.mesh.localTurns (72 * g + gpos) == 1 && canInject g gpos s

/-- A hop from field f into position gpos of field g waits: for a buffer, for its turn, for power at either end (R188, R189,
R193, R197). -/
def hopWaits (s : State) (p : Packet) (h : Hop) (f g gpos : Nat) : Bool :=
  inputHeld s p h || headWaits s p || stopWaits s h g gpos || !uncoreOn s f || !uncoreOn s g

/-- The attached unit has had its turn at a shared local port (R193). -/
def passStop (h : Hop) (g gpos : Nat) (s : State) : State :=
  if h.via = 0 then s else
  { s with mesh := { s.mesh with localTurns := AMap.put (fun _ => 0) s.mesh.localTurns (72 * g + gpos) 1 } }

/-- A hop of a packet into a router, with what its flits meet on the way. -/
def enterRouter (p : Packet) (h : Hop) (rest : List Hop) (g gpos : Nat) (errs : List FlitErr) (s : State) : State :=
  let s := stepHead p h rest (passStop h g gpos (passTurn p s))
  let s := wormInject p.id (wormOuts p (hopPorts p h).2 (nextBuf p h)) s
  checkFlits g gpos (hopPorts p h).1 p.id errs s

/-- PACKET_HOP: one hop along the planned route, by wormhole; `errs`: what SECDED finds in its flits at the next input.
[log 68 DESIGN CHOICE] -/
def packetHop (id : Nat) (errs : List FlitErr) (s : State) : State :=
  match s.mesh.packets.find? (fun p => p.id == id) with
  | none => s
  | some p =>
    match p.route with
    | [] => s
    | h :: rest =>
      match routerAt p.x p.y, routerAt h.x h.y with
      | some (f, _), some (g, gpos) =>
        if hopWaits s p h f g gpos then s
        else if seamStops s p h then seamDrop f g p s
        else enterRouter p h rest g gpos errs s
      | _, _ => s

/-! ### Receiving (R205-R209, R213) -/

/-- The node a packet is ejected to at its router: the endpoint its DST names there, else the cell (R193). -/
def ejectNode (p : Packet) : Option (Nat × Nat) :=
  (routerAt p.x p.y).map (fun r =>
    if 5632 ≤ p.dst ∧ p.dst < 7040 ∧ (p.dst - 5632) / 16 = r.1 then (r.1, 72 + (p.dst - 5632) % 16)
    else (r.1, r.2))

/-- The comparison of R213: 0 passes, 1 passes as one of the old GEN within the drain window, 2 fails. -/
def genCheck (s : State) (part gen src srcPhys : Nat) : Nat :=
  let own := s.get (F.MSH_GEN_GEN part)
  let here := (locate s src src).any (fun l => 72 * l.1 + l.2.2 == srcPhys)
  if own = gen then 0
  else if (own + 256 - gen) % 256 = 1 && decide (s.fet < s.mesh.drainEnd) && here then 1
  else 2

/-- A drain window is open (R213). -/
def drainOpen (s : State) : Bool := s.flag F.MSH_MAP_STATUS_FENCE

/-- NIs of a quenched scope drop arriving data packets as GEN drops (Table 15.6). -/
def quenchDrops (s : State) (p : Packet) : Bool :=
  p.cls == 1 && p.part != 0 && (moduleQuenched s || partState s p.part == 4)

/-- Checks 1 to 3 of Table 06.5: the packet's drop, or none with the state in which it passed. -/
def headerChecks (f node : Nat) (p : Packet) (s : State) : Bool × State :=
  if p.dst ≠ meshId s f node then (false, s.count (F.MSH_DROP_CNT_MISROUTE f) 1)
  else if p.part ≠ ownerOf s f ∧ ¬ (p.part = 0 ∧ p.cls = 0) then
    let s := s.count (F.MSH_DROP_CNT_PART f) 1
    let s := raiseFault (packetEvent 0x0204 f 8 node p) s
    (false, noteAt 5 (ownerOf s f) f 8 node s)
  else
    let g := if quenchDrops s p then 2 else genCheck s p.part p.gen p.src p.srcPhys
    if g = 2 then
      let s := if drainOpen s then s.count (F.MSH_FENCE_CNT_DROPPED f) 1 else s.count (F.MSH_DROP_CNT_GEN f) 1
      (false, raiseFault (packetEvent 0x0208 f 8 node p) s)
    else (true, if g = 1 then s.count (F.MSH_FENCE_CNT_ACCEPTED f) 1 else s)

/-- A BUSY for a refused packet, with the refused header in its payload (R208). [log 76 DEDUCED] -/
def sendBusy (f node : Nat) (p : Packet) (s : State) : State :=
  let ni := s.ni f node
  let b : Packet := { id := 0, cls := 0, prio := 3, part := p.part, gen := p.gen, dst := p.src, tag := p.tag, ctl := 1
                      body := leBytes (meshHeader p) 16 ++ List.replicate 96 0 }
  (s.setNi f node { ni with out := ni.out ++ [b] }).count (F.MSH_BUSY_CNT_SENT f) 1

/-- Contexts a node holds: those of packets not yet taken in whole, and of what waits at the port sub-channel for its
ERUs. -/
def contextsHeld (s : State) (f node : Nat) : Nat :=
  (s.ni f node).ctx.length + (if node = 75 then (s.fieldD f).portIn.length else 0)

/-- Data contexts a node grants: one of its entries is kept for control (Table 06.6). -/
def contextLimit (node : Nat) : Nat := if node < 72 then 7 else 15

/-- A granted data packet holds a context: a cell's accesses go to its write port, an endpoint takes its packet in once it
has come whole (R205, R206). -/
def grantContext (f node : Nat) (p : Packet) (s : State) : State :=
  let n := contextsHeld s f node + 1
  let ni := s.ni f node
  let s := s.setNi f node { ni with ctx := ni.ctx ++ [(p, 0)] }
  let s := s.high (if node < 72 then F.MSH_FSTATUS_CTX_HW f else F.MSH_FSTATUS_EP_CTX_HW f) n
  receiveMore f node s

/-- A control packet takes an entry, the reserved one if need be, for the cycle in which it is taken in (R206).
[log 76 DEDUCED] -/
def takeControl (f node : Nat) (s : State) : State :=
  s.high (if node < 72 then F.MSH_FSTATUS_CTX_HW f else F.MSH_FSTATUS_EP_CTX_HW f) (contextsHeld s f node + 1)

/-- Data packets whose heads stand unchecked at the other attachment cell of a node claim in the same cycle; those that
come before p (R207): those that pass checks 1 to 3, with a higher PRIO or on a tie a lower SRC. [log 139 DEDUCED] -/
def rivalsAhead (s : State) (p : Packet) (at_ : Nat × Nat) : Nat :=
  (s.mesh.packets.filter (fun q => q.id != p.id && q.cls == 1 && q.route.isEmpty && ejectNode q == some at_
    && !(q.x == p.x && q.y == p.y) && !headWaits s q && (headerChecks at_.1 at_.2 q s).1
    && (decide (p.prio < q.prio) || (p.prio == q.prio && decide (q.src < p.src))))).length

/-- A data packet finds no context: every entry it may take is held, or the last goes to a rival of the same cycle (R206,
R207). [log 139 DEDUCED] -/
def noContext (s : State) (f node : Nat) (p : Packet) : Bool :=
  decide (contextLimit node ≤ contextsHeld s f node + rivalsAhead s p (f, node))

/-- A packet leaves the mesh by the local output of its last router, where an injection may act (R188, R217); none where it
waits for its turn, or its header was lost. -/
def ejectPacket (p : Packet) (f : Nat) (s : State) : Option (Packet × State) :=
  if headWaits s p || !uncoreOn s f then none else
  let s := wormInject p.id (wormOuts p 4 { headBuf p with port := 4 }) (passTurn p s)
  some (((s.mesh.packets.find? (fun q => q.id == p.id && !q.eject)).getD { p with injected := false }), takeOff p.id s)

/-- PACKET_RECEIVE (Table 06.5). A BUSY is taken by BUSY_RECEIVE. -/
def packetReceive (id : Nat) (s : State) : State :=
  match s.mesh.packets.find? (fun p => p.id == id) with
  | none => s
  | some p =>
    if !p.route.isEmpty || p.ctl == 1 then s else
    match ejectNode p, routerAt p.x p.y with
    | some (f, node), some _ =>
      match ejectPacket p f s with
      | none => s
      | some (p, s) =>
        if !p.injected then s else
        let (ok, s) := headerChecks f node p s
        if !ok then s else if p.cls == 0 then takeControl f node s
        else if noContext s f node p then sendBusy f node p s
        else grantContext f node p s
    | _, _ => s

/-- An abandoned packet (R209). -/
def abandonPacket (f node : Nat) (p : Packet) (s : State) : State :=
  let s := s.count (F.MSH_ABANDON_COUNT f) 1
  let s := if s.flag (F.MSH_ABANDON_VALID f) then s else
    ((s.set (F.MSH_ABANDON_VALID f) 1).set (F.MSH_ABANDON_DST f) p.dst).set (F.MSH_ABANDON_SRC f) p.src
  raiseFault (packetEvent 0x0207 f 8 node p) s

/-- The backoff of R208 in uncore cycles: k earlier refusals, SRC. -/
def backoffCycles (k src : Nat) : Nat := 16 * 2 ^ min k 6 + src % 16

/-- What tells a packet from the others of its sender in a header: PART, DST, SRC, TAG, ADDR, LEN. -/
def headerKey (h : Nat) : Nat × Nat × Nat × Nat := (bitsOf h 123 121, bitsOf h 106 94, bitsOf h 79 67, bitsOf h 53 3)

/-- A refusal, with the refused header, reaches the sender's retry record (R208, R209): backoff, or abandonment after eight;
one that comes after its record has lapsed is discarded and counted. [log 76 DEDUCED] -/
def refused (f node header : Nat) (s : State) : State :=
  let ni := s.ni f node
  match ni.retry.find? (fun r => headerKey (meshHeader r.pkt) == headerKey header && !r.waiting) with
  | none => s.setNi f node { ni with lateBusy := ni.lateBusy + 1 }
  | some r =>
    if 8 ≤ r.refusals + 1 then
      abandonPacket f node r.pkt (s.setNi f node { ni with retry := ni.retry.filter (fun q => q.pkt.id != r.pkt.id) })
    else
      let r' := { r with
        refusals := r.refusals + 1, backoff := backoffCycles r.refusals r.pkt.src, waiting := true, at_ := s.fet }
      s.setNi f node { ni with retry := ni.retry.map (fun q => if q.pkt.id = r.pkt.id then r' else q) }

/-- BUSY_RECEIVE (R208): the checks of Table 06.5 at the sender, then the retry record, if it still holds.
[log 76 DEDUCED] -/
def busyReceive (id : Nat) (s : State) : State :=
  match s.mesh.packets.find? (fun p => p.id == id) with
  | none => s
  | some p =>
    if !p.route.isEmpty || p.ctl != 1 then s else
    match ejectNode p, routerAt p.x p.y with
    | some (f, node), some _ =>
      match ejectPacket p f s with
      | none => s
      | some (p, s) =>
        if !p.injected then s else
        let (ok, s) := headerChecks f node p s
        if ok then refused f node (leAt p.body 0 16) (takeControl f node s) else s
    | _, _ => s

/-- The end of some uncore cycles from an FET: 0.8 ns each (R52). [log 3 DESIGN CHOICE] -/
def afterCycles (t n : Nat) : Fet := t + cdiv (4 * n) 5

/-- RETRY_BACKOFF_EXPIRY (R208): once the backoff has passed, the whole packet goes out again; a cell's NI reads its accesses
again from ADDR0. The resend is a packet of its own: what a SEND still reads belongs to the one refused.
[log 76 DEDUCED] -/
def retryBackoffExpiry (f node k : Nat) (s : State) : State :=
  let ni := s.ni f node
  match ni.retry[k]? with
  | none => s
  | some r =>
    if !r.waiting || decide (s.fet < afterCycles r.at_ r.backoff) then s else
    let pkt := { r.pkt with id := s.mesh.nextId }
    let again : List Reread := if node < 72 then [{ id := pkt.id, addr := pkt.src0, left := r.len }] else []
    let s := s.setNi f node { ni with
      retry := ni.retry.set k { r with pkt := pkt, waiting := false, at_ := s.fet }
      out := ni.out ++ [{ pkt with refusals := r.refusals }], rereads := ni.rereads ++ again }
    let s := { s with mesh := { s.mesh with nextId := s.mesh.nextId + 1 } }
    let s := s.count (F.MSH_BUSY_CNT_RETRIED f) 1
    if node < 72 then fillQueue (refillReads f node (s.fieldD f).cyc) s else s

/-- RETRY_RECORD_LAPSE (R204): 2,048 cycles have passed without a resend or a BUSY. -/
def retryRecordLapse (f node k : Nat) (s : State) : State :=
  let ni := s.ni f node
  match ni.retry[k]? with
  | none => s
  | some r =>
    if r.waiting || ni.out.any (fun p => p.id == r.pkt.id) || decide (s.fet < afterCycles r.at_ 2048) then s
    else s.setNi f node { ni with retry := ni.retry.eraseIdx k }

/-! ### The maps (R211-R214) -/

/-- A logical cell moves to a position (R31, R214): the old cell is failed, the new one serves and counts its own sentinel
tiles afresh. -/
def moveLogical (l pos : Nat) (s : State) : State :=
  let f := l / 64
  let old := s.get (F.MSH_L2P_POS l)
  let s := s.set (F.MSH_L2P_POS l) pos
  let s := if old ≠ pos ∧ s.get (F.CEL_STATUS_ROLE f old) = 0 then s.set (F.CEL_STATUS_ROLE f old) 2 else s
  let s := (s.set (F.CEL_STATUS_ROLE f pos) 0).set (F.CEL_STATUS_LOCAL_LOGICAL f pos) (l % 64)
  (s.set (F.CEL_STATUS_SENTINEL f pos) 0).setCell f pos { s.cell f pos with sentIdx := 0, tile := none }

/-- A field changes its partition; one that leaves a tenant is cleared (R212, R350). -/
def moveField (f p : Nat) (s : State) : State :=
  let old := ownerOf s f
  let s := if old ≠ 0 ∧ old ≠ p then clearField f s else s
  let s := setPartMask s old (partMask s old - 2 ^ f * bitOf (partMask s old) f)
  let s := setPartMask s p (partMask s p + 2 ^ f * (1 - bitOf (partMask s p) f))
  if (s.part old).failed.contains f then
    let s := s.setPart old { s.part old with failed := setDel f (s.part old).failed }
    s.setPart p { s.part p with failed := setAdd f (s.part p).failed }
  else s

/-- The scratchpad of a failed cell goes to its reserve at activation (R485), unless the failed cell's cluster is not ON.
[log 79 DEDUCED] -/
def copyCell (rec : Nat) (e : Nat × Nat × Nat) (s : State) : State :=
  let f := e.1
  if domState s (domOfCell f e.2.1) = 3 then
    let c := s.cell f e.2.1
    s.setCell f e.2.2 { s.cell f e.2.2 with
      sp := c.sp, spBad := c.spBad, spInj := c.spInj, spBase := c.spBase, spSrc := c.spSrc }
  else editRecord rec (fun r => { r with ev := { r.ev with detail := r.ev.detail.set 1 1 } }) s

/-- A map update of Scarab's own goes into the shadow copies, 500 µs ahead, and the box is told the new GEN (R485-R487).
[log 79 DEDUCED] -/
def activateMap (m : MapShadow) (s : State) : State :=
  let a := s.fet + 500000
  let s := { s with mesh := { s.mesh with shadow := some { m with at_ := a } } }.set F.MSH_MAP_STATUS_PENDING 1
  if m.part ≠ 0 ∧ bitOf (s.get F.FLT_CFG_NOTICE_EN) (m.part - 1) = 1 then
    sendNotice { kind := 1, part := m.part, origin := ownCoord s, index := m.record, fet := a
                 gen := (s.get (F.MSH_GEN_GEN m.part) + 1) % 256 } none s
  else s

/-- The shadow copies are free: nothing pending, no drain window. [log 79 DEDUCED] -/
def mapFree (s : State) : Bool := s.mesh.shadow.isNone && !s.flag F.MSH_MAP_STATUS_FENCE

/-- Posts a map update: at once, or behind the one in progress. [log 79 DEDUCED] -/
def postMap (m : MapShadow) (s : State) : State :=
  if mapFree s then activateMap m s else { s with mesh := { s.mesh with waiting := s.mesh.waiting ++ [m] } }

/-- The next map update that waits. -/
def nextMap (s : State) : State :=
  match s.mesh.waiting with
  | [] => s
  | m :: l => if mapFree s then activateMap m { s with mesh := { s.mesh with waiting := l } } else s

/-- MAP_ACTIVATION (R212, R213, R453). [log 29 DEDUCED] -/
def mapActivation (s : State) : State :=
  match s.mesh.shadow with
  | none => s
  | some m =>
    if s.fet < m.at_ then s else
    let s := { s with mesh := { s.mesh with shadow := none } }
    let s := m.l2p.foldl (fun s e => moveLogical e.1 e.2 s) s
    let s := m.copies.foldl (fun s e => copyCell m.record e s) s
    let s := m.fieldOk.foldl (fun s e => setPassable e.1 e.2 s) s
    let s := m.owner.foldl (fun s e => moveField e.1 e.2 s) s
    let s := s.forEach m.gens (fun p t => t.set (F.MSH_GEN_GEN p) (t.get (F.MSH_GEN_GEN p) + 1))
    let s := s.set F.MSH_MAP_STATUS_PENDING 0
    let s := if m.gens.isEmpty then s else
      (({ s with mesh := { s.mesh with drainEnd := s.fet + 200000 } }).set F.MSH_MAP_STATUS_FENCE 1).set
        F.MSH_MAP_STATUS_FENCE_PART (m.gens.foldl min 7)
    let s := { s with jobs := s.jobs.map (fun (j : Job) => match j.work with
      | .mapUpdate q _ _ => if q = m.part ∧ j.fin.isNone then { j with fin := some (0, [], m.at_) } else j
      | _ => j) }
    nextMap (s.forEach [1, 2, 3, 4, 5, 6, 7] (fun p t =>
      if (!m.fieldOk.isEmpty || !m.owner.isEmpty) && [1, 2, 3].contains (partState t p) && !routeClosed t p (partMask t p) then
        raiseFault { code := 0x0608, part := p, unitType := 20, access := 6, master := 7 * 2 ^ 29 } t
      else t))

/-- DRAIN_WINDOW_END (R213). -/
def drainWindowEnd (s : State) : State :=
  if s.fet < s.mesh.drainEnd then s else nextMap (s.set F.MSH_MAP_STATUS_FENCE 0)

/-- MSH_FCTRL.CNT_CLEAR (R218). -/
def mshCntClear (f : Nat) (s : State) : State :=
  let s := (s.set (F.MSH_FSTATUS_EP_CTX_HW f) 0).set (F.MSH_FSTATUS_CTX_HW f) 0
  let s := ((s.wr (R.MSH_ECC_CNT f) 0).wr (R.MSH_DROP_CNT f) 0).wr (R.MSH_FENCE_CNT f) 0
  (s.wr (R.MSH_BUSY_CNT f) 0).set (F.MSH_ABANDON_COUNT f) 0

/-! ### The commands -/

def execPacketInject (f : Fin 88) (sent : NodeFlits) (s : State) : Host.Outcome State Fault Refusal :=
  .next (packetInject f sent.node sent.errs s)

def execPacketHop (id : Nat) (errs : List FlitErr) (s : State) : Host.Outcome State Fault Refusal := .next (packetHop id errs s)

def execPacketReceive (id : Nat) (s : State) : Host.Outcome State Fault Refusal := .next (packetReceive id s)

def execBusyReceive (id : Nat) (s : State) : Host.Outcome State Fault Refusal := .next (busyReceive id s)

def execRetryBackoffExpiry (f : Fin 88) (node : Fin 78) (k : Nat) (s : State) : Host.Outcome State Fault Refusal :=
  .next (retryBackoffExpiry f node k s)

def execRetryRecordLapse (f : Fin 88) (node : Fin 78) (k : Nat) (s : State) : Host.Outcome State Fault Refusal :=
  .next (retryRecordLapse f node k s)

def execDrainWindowEnd (s : State) : Host.Outcome State Fault Refusal := .next (drainWindowEnd s)

end Sys2Proof.Machine
end

