-- ==== Sys2Proof/Machine/Ports.lean ====
section
/-!
DEFINITION. Machine/Ports.lean: what every command of a Synael Link port shares: coordinates and groups, the schedule
times of the ERUs, frames and headers, receive checks, routing, queueing, delivery into the wafer (08_gradients R259, R260,
09_synael_link R292-R317).
-/
namespace Sys2Proof.Machine

/-! ### Schedule entries and their times (R259, R260, R268, R269) -/

/-- An ERU's entry is in force. -/
def entryOn (s : State) (n e : Nat) : Bool := s.flag (F.ERU_CTRL_ENABLE n) && s.flag (F.ERU_SCHED0_VALID n e)

/-- Ring length of an entry. -/
def entryN (s : State) (n e : Nat) : Nat := s.get (F.ERU_SCHED1_NM1 n e) + 1

/-- Slots per hop. -/
def entryH (s : State) (n e : Nat) : Nat := s.get (F.ERU_SCHED1_HOP n e) + 1

/-- Slot of chunk c at index 0, counted from the step base. -/
def entryB (s : State) (n e c : Nat) : Nat := s.get (F.ERU_SCHED2_FIRST_SLOT n e) + c * s.get (F.ERU_SCHED3_STRIDE n e)

/-- Canonical index of this module for chunk c: the owner's successor has 0, the owner N − 1. -/
def canonIdx (s : State) (n e c : Nat) : Nat :=
  let k := entryN s n e
  (s.get (F.ERU_SCHED1_POS n e) + 2 * k - (s.get (F.ERU_SCHED1_OWNER n e) + c) % k - 1) % k

/-- Operation, and whether the ring is open (R269). -/
def entryOp (s : State) (n e : Nat) : Nat := s.get (F.ERU_SCHED0_OP n e)
def entryChain (s : State) (n e : Nat) : Bool := entryOp s n e == 2 && s.flag (F.ERU_SCHED0_CHAIN n e)

/-- Slot of the deadline D. -/
def deadlineSlot (s : State) (n e c : Nat) : Nat := entryB s n e c + entryH s n e * canonIdx s n e c

/-- Slot of the result deadline, where this index has one. -/
def resultSlot (s : State) (n e c : Nat) : Option Nat :=
  let k := entryN s n e
  let i := canonIdx s n e c
  if i = k - 1 ∨ entryOp s n e = 0 then none
  else if entryChain s n e then some (entryB s n e c + entryH s n e * (2 * k - 2 - i))
  else some (entryB s n e c + entryH s n e * (k + i))

/-- Slot of the verdict time V. -/
def verdictSlot (s : State) (n e c : Nat) : Nat :=
  entryB s n e c + entryH s n e * (entryN s n e - 1) + s.get (F.ERU_SCHED3_VERDICT n e)

/-- FET of a slot counted from the step base of the entry's partition. -/
def slotFet (s : State) (n e slot : Nat) : Fet := (s.part (s.get (F.ERU_SCHED0_PART n e))).stepBase + 256 * slot

/-- The partition of an entry is in a step: running, or quenched within one (Table 15.6). -/
def entryInStep (s : State) (n e : Nat) : Bool :=
  let p := s.get (F.ERU_SCHED0_PART n e)
  (partState s p == 3 || partState s p == 4) && (s.part p).stepBase != 0

/-- An index forwards a result it has received: not the last one to receive it. -/
def forwardsResult (s : State) (n e c : Nat) : Bool :=
  let i := canonIdx s n e c
  if entryChain s n e then decide (1 ≤ i) else decide (i + 3 ≤ entryN s n e)

/-- Slots in which chunk c makes port `via` (n itself, or its opposite) transmit. -/
def txSlots (s : State) (n e c : Nat) (opposite : Bool) : List Nat :=
  let owner := canonIdx s n e c == entryN s n e - 1
  let chain := entryChain s n e
  let atD := if owner then entryOp s n e != 0 && decide (1 < entryN s n e) && chain == opposite else !opposite
  let res := if forwardsResult s n e c && chain == opposite then (resultSlot s n e c).toList else []
  (if atD then [deadlineSlot s n e c] else []) ++ res

/-- Absolute slots in which an ERU's entries make a port transmit in the current step. -/
def eruSlots (s : State) (n : Nat) (opposite : Bool) : List Nat :=
  let es := (List.range 128).filter (fun e => entryOn s n e && entryOp s n e != 3 && entryInStep s n e)
  (es.map (fun e => ((List.range (s.get (F.ERU_SCHED2_CHUNKS n e) + 1)).map (fun c =>
    (txSlots s n e c opposite).map (fun k => slotFet s n e k / 256))).flatten)).flatten

/-- Slots in which a scheduled frame of the port is due in the current step (R324, R308). -/
def dueSlots (s : State) (n : Nat) : List Nat := eruSlots s n false ++ eruSlots s (oppositePort n) true

/-! ### Blocks (R292, R308) -/

/-- Length of a block, thirds of a nanosecond; the block in which a scheduled frame begins. -/
def blockUnits (s : State) (n : Nat) : Nat := if s.flag (F.SNL_STATUS_REDUCED n) then 8 else 6
def schedBlock (s : State) (n : Nat) : Nat := if s.flag (F.SNL_STATUS_REDUCED n) then 6 else 8

/-- Start of the block under way, and its number within the slot. -/
def blockNow (s : State) (n : Nat) : Nat := 3 * (s.fet % 256) / blockUnits s n
def blockStart (s : State) (n : Nat) : Nat := 768 * (s.fet / 256) + blockUnits s n * blockNow s n

/-- The event of a frame (Table 15.3): CODE, port, PART, TAG and SRC. -/
def frameEvent (code n : Nat) (fr : Frame) : FaultEvent :=
  { code := code, part := fr.part, collector := 100 + n / 8, unitType := 15, inst := n, access := 4
    addr := fr.tag + 2 ^ 32 * (fr.src / 8), master := 6 * 2 ^ 29 + fr.src }

/-- First error of a port (SNL_ERR). -/
def snlErr (n code part tag : Nat) (s : State) : State :=
  if s.flag (F.SNL_ERR_VALID n) then s else
  (((s.set (F.SNL_ERR_VALID n) 1).set (F.SNL_ERR_CODE n) code).set (F.SNL_ERR_PART n) part).set (F.SNL_ERR_TAG n) tag

/-! ### Leaving the live set (R317) -/

/-- A port leaves the live set (R315, R317): scheduled frames due on it are not sent; what waits goes to the other live
ports of its group, or is dropped where the group has none (R306). [log 93 DEDUCED, 97 DEDUCED] -/
def leaveLive (n st : Nat) (s : State) : State :=
  let d := s.port n
  let l := (livePorts s (groupOf n)).filter (· != n)
  let moved := (d.unacked.map (·.2) ++ d.q).filter (fun fr => sequenced fr || (fr.cls == 6 && fr.dst % 8 == 4))
  let s := portTo n st s
  match l with
  | [] => s.count (F.SNL_DROP_CNT1_DARK n) (moved.length + d.sched.length)
  | _ =>
    let s := s.count (F.SNL_DROP_CNT1_DARK n) d.sched.length
    moved.foldl (fun s fr => match flowPort l fr with
      | some m => enqueue m fr s
      | none => s) s

/-! ### Receive checks (R302, R303, R305) -/

/-- At most one class 0 note a millisecond for a port (Table 09.7, check 3). -/
def portNote (n : Nat) (s : State) : State :=
  let d := s.port n
  if d.noteAt ≠ 0 ∧ s.fet < d.noteAt + 1000000 then s
  else noteAt 5 0 (100 + n / 8) 15 n (s.setPort n { d with noteAt := s.fet })

/-- A header's epoch and digest are accepted (R303). -/
def cfgAccepted (s : State) (p epoch digest : Nat) : Bool :=
  let d := s.part p
  (epoch == cfgEpoch s p && digest == digest16 (cfgDigest s p))
    || d.commit.any (fun c => decide (c.c ≤ s.fet + 4096) && epoch == c.epoch && digest == digest16 c.digest)
    || d.prevCfg.any (fun c => decide (s.fet < c.c + 4096) && epoch == c.epoch && digest == digest16 (fullDigest c.digest))

/-- A partition has a share or a slot-table entry on a port (Table 09.7, check 6). -/
def slotEntry (s : State) (n i : Nat) : Nat := s.get (F.SNL_SLOT_TBL_ENT n (i % 64 / 8) (i % 8))
def ownsSlot (s : State) (n p : Nat) : Bool := (List.range 64).any (fun i => slotEntry s n i == 8 + p)
def onPort (s : State) (n p : Nat) : Bool := vcShare s n p != 0 || (p != 0 && ownsSlot s n p)

/-- A configuration mismatch (R303): class 3 in PART; for partition 0 the port leaves the live set as if dark, and every
partition that owns a slot on it takes the fault. [log 93 DEDUCED] -/
def cfgMismatch (n : Nat) (fr : Frame) (s : State) : State :=
  let s := snlErr n 3 fr.part fr.tag s
  if fr.part ≠ 0 then raiseFault (frameEvent 0x0402 n fr) s
  else
    let ps := [1, 2, 3, 4, 5, 6, 7].filter (ownsSlot s n)
    let s := if s.get (F.SNL_STATUS_STATE n) = 7 then leaveLive n 6 s else s
    s.forEach ps (fun p t => raiseFault { frameEvent 0x0402 n fr with part := p } t)

/-- The endpoint class a frame class may name (Table 09.4). -/
def endpointOk (fr : Frame) : Bool :=
  let ep := fr.dst % 8
  match fr.cls with
  | 0 => ep == 3
  | 1 | 5 => ep == 1
  | 2 => decide (ep ≤ 2)
  | 3 | 4 => ep == 0
  | 6 => ep == 0 || ep == 4
  | _ => ep == 5

/-- Forwarded by other modules (Table 09.4): a configuration digest is not. -/
def forwardable (fr : Frame) : Bool := fr.cls == 0 || fr.cls == 2 || fr.cls == 7 || (fr.cls == 6 && fr.dst % 8 == 4)

/-- Classes that carry partition 0 only: time, Firefly and configuration digests (check 6). -/
def partZeroOnly (fr : Frame) : Bool := fr.cls == 3 || fr.cls == 4 || (fr.cls == 6 && fr.dst % 8 == 0)

/-- Check 6 (Table 09.7). -/
def partOk (s : State) (n : Nat) (fr : Frame) : Bool := if partZeroOnly fr then fr.part == 0 else onPort s n fr.part

/-- A frame of this class passes a port in its state (Table 09.9). [log 95 DEDUCED] -/
def stateCarries (s : State) (n : Nat) (fr : Frame) : Bool :=
  let st := s.get (F.SNL_STATUS_STATE n)
  st == 7 || (st == 6 && (fr.cls == 3 || fr.cls == 4 || fr.cls == 6 || (fr.cls == 2 && fr.part == 0)))

/-- Every authenticated frame that comes in takes its place in the count of its partition (R298, R302).
[log 141 DESIGN CHOICE] -/
def countAuth (fr : Frame) (d : PortState) : PortState :=
  if fr.auth then { d with authRx := AMap.put (fun _ => 0) d.authRx fr.part (AMap.get (fun _ => 0) d.authRx fr.part + 1) } else d

/-- Checks 1 and 2 with the sequence rule (R305): whether the frame goes on to check 3. A frame with a byte in a lost block
fails as if by CRC (R293). [log 9 DESIGN CHOICE, 94 DEDUCED] -/
def linkLayer (n : Nat) (fr : Frame) (s : State) : Bool × State :=
  let lost := (s.port n).rxLost
  let d := { countAuth fr (s.port n) with rxLost := false }
  let s := s.setPort n d
  if lost || !crcGood fr then
    let s := snlErr n 1 0 0 s
    if sequenced fr && !d.nak then (false, (s.setPort n { d with nak := true }).count (F.SNL_RETRY_CNT_NAKS n) 1)
    else (false, s)
  else
    let s := s.setPort n { d with lastGood := s.fet }
    if !sequenced fr then (true, s)
    else if fr.seq = (d.rxAck + 1) % 4096 then
      (true, s.setPort n { s.port n with rxAck := fr.seq, nak := false })
    else (false, s)

/-- Check 7: the frame is for this module. -/
def isHere (s : State) (fr : Frame) : Bool := fr.dst / 8 == ownCoord s && endpointOk fr

/-- Check 4: an enabled partition's frame is authenticated, its tag verifies under the link key, its counter is the expected
one (Table 09.7). [log 141 DESIGN CHOICE] -/
def authPasses (s : State) (n expected : Nat) (fr : Frame) : Bool :=
  bitOf (s.get (F.SNL_AUTH_EN n)) (fr.part - 1) == 0 || fr.part == 0
    || (fr.auth && fr.authOk && (s.part fr.part).keyL.isSome && fr.counter == expected)

/-- Checks 3 to 7 of Table 09.7: whether the frame is delivered or forwarded. [log 9 DESIGN CHOICE] -/
def headerOk (n : Nat) (fr : Frame) (s : State) : Bool × State :=
  if 8 ≤ fr.cls then (false, portNote n (s.count (F.SNL_DROP_CNT1_CLASS n) 1))
  else if fr.ver ≠ s.get (F.SNL_NEG_VER n) then (false, portNote n (snlErr n 2 fr.part fr.tag (s.count (F.SNL_DROP_CNT0_VER n) 1)))
  else if !authPasses s n (AMap.get (fun _ => 0) (s.port n).authRx fr.part - 1) fr then
    (false, raiseFault (frameEvent 0x0403 n fr) (snlErr n 4 fr.part fr.tag (s.count (F.SNL_DROP_CNT0_AUTH n) 1)))
  else if !cfgAccepted s fr.part fr.epoch fr.digest then (false, cfgMismatch n fr (s.count (F.SNL_DROP_CNT0_CFG n) 1))
  else if !partOk s n fr then
    (false, raiseFault (frameEvent 0x0404 n fr) (snlErr n 5 fr.part fr.tag (s.count (F.SNL_DROP_CNT0_PART n) 1)))
  else if isHere s fr || (fr.dst / 8 != ownCoord s && forwardable fr && (routeFrame s fr (some n)).isSome) then (true, s)
  else (false, raiseFault (frameEvent 0x0405 n fr) (snlErr n 6 fr.part fr.tag (s.count (F.SNL_DROP_CNT1_ROUTE n) 1)))

/-- Credits of a credited frame are freed once it has left the receive buffer (Table 09.2, CR_COUNT). -/
def freeCredit (n : Nat) (fr : Frame) (s : State) : State :=
  if !credited fr then s else
  let d := s.port n
  let k := fr.part + (if fr.dl then 8 else 0)
  s.setPort n { d with freed := AMap.put (fun _ => 0) d.freed k ((AMap.get (fun _ => 0) d.freed k + frameLen fr + 1) % 4096) }

/-- A frame arrives at a port: the checks, then `k` where it is delivered here, or forwarding (R302, R311). -/
def receiveFrame (n : Nat) (fr : Frame) (mine : Frame → Bool) (k : State → State) (s : State) : State :=
  if !stateCarries s n fr then s else
  let (up, s) := linkLayer n fr s
  if !up then s else
  let (ok, s) := headerOk n fr s
  let s := freeCredit n fr s
  if !ok then s
  else if isHere s fr then (if mine fr then k s else s)
  else match routeFrame s fr (some n) with
    | some (m, dl) => enqueue m { fr with dl := dl } s
    | none => s

/-! ### Delivery into the wafer (R37, R299) -/

/-- The in-service fields of a partition in the group of Port die k. -/
def dieFields (s : State) (p k : Nat) : List Nat := (partFields s p).filter (fun f => portDieOf f == k && inService s f)

/-- Stops between two Port dies on the carrier ring, the shorter way round (Table 01.6). [log 97 DEDUCED] -/
def ringStops (a b : Nat) : Nat := let d := 2 * ((a - b) + (b - a)); min d (20 - d)

/-- The Port die through which die k's traffic of a partition enters the wafer: itself, or the nearest on the ring (R37). -/
def entryDie (s : State) (p k : Nat) : Option Nat :=
  (List.range 8).foldl (fun (b : Option Nat) j =>
    if (dieFields s p j).isEmpty then b
    else match b with
      | none => some j
      | some i => if ringStops k j < ringStops k i then some j else some i) none

/-- Mesh hops between two fields. -/
def fieldHops (f g : Nat) : Nat := distance (globalX f 0, globalY f 0) (globalX g 0, globalY g 0)

/-- The field whose port sub-channel delivers a data frame bound for field f (R299). -/
def deliverField (s : State) (n p f : Nat) : Option Nat :=
  let own := fun (k : Nat) => portDieOf f == k && (partFields s p).contains f
  if own (n / 8) then some f else
  (entryDie s p (n / 8)).bind (fun k =>
    let l := dieFields s p k
    if own k then some f
    else l.foldl (fun (b : Option Nat) g => match b with
      | none => some g
      | some h => if fieldHops g f < fieldHops h f then some g else some h) none)

end Sys2Proof.Machine
end

