-- ==== Sys2Proof/Machine/Eru.lean ====
section
/-!
DEFINITION. Machine/Eru.lean: the Edge Reduction Units: schedule entries, the reorder window, partials, results,
abstentions, verdicts (08_gradients R256-R274, R76-R80, R475, Table 15.6).
-/
namespace Sys2Proof.Machine

/-! ### Entries, errors, window -/

/-- The chunk of an entry that a tag names (R259). -/
def tagChunk (base chunks tag : Nat) : Option Nat :=
  let c := (tag % 4096 + 4096 - base % 4096) % 4096
  if tag / 4096 = base / 4096 ∧ c ≤ chunks then some c else none

/-- The entry in force of an ERU that holds a tag, and the chunk. -/
def findEntry (s : State) (n tag : Nat) : Option (Nat × Nat) :=
  (List.range 128).findSome? (fun e =>
    if entryOn s n e then (tagChunk (s.get (F.ERU_SCHED0_TAG_BASE n e)) (s.get (F.ERU_SCHED2_CHUNKS n e)) tag).map (fun c => (e, c))
    else none)

/-- First error of an ERU. [log 89 DEDUCED] -/
def eruErr (n code part tag : Nat) (s : State) : State :=
  if s.flag (F.ERU_ERR_VALID n) then s else
  (((s.set (F.ERU_ERR_VALID n) 1).set (F.ERU_ERR_CODE n) code).set (F.ERU_ERR_PART n) part).set (F.ERU_ERR_TAG n) tag

/-- The event of an ERU (Table 15.3). -/
def eruEvent (code n part tag : Nat) : FaultEvent :=
  { code := code, part := part, lanes := 2 ^ (tag / 2 ^ 22 % 4), collector := 100 + n / 8, unitType := 14, inst := n, access := 4
    addr := tag, master := 4 * 2 ^ 29 + n }

/-- Partition of an entry. -/
def entryPart (s : State) (n e : Nat) : Nat := s.get (F.ERU_SCHED0_PART n e)

/-- Tag of a chunk: the chunk field wraps modulo 4,096 (R259). -/
def chunkTag (s : State) (n e c : Nat) : Nat :=
  let b := s.get (F.ERU_SCHED0_TAG_BASE n e)
  b / 4096 * 4096 + (b + c) % 4096

/-- Buffers in use. -/
def bufsUsed (l : List WinIn) : Nat := (l.map (·.bufs)).sum

/-- The window replaced; USED and HIGH_WATER follow. -/
def setWindow (n : Nat) (l : List WinIn) (s : State) : State :=
  let s := s.setEru n { s.eru n with win := l }
  (s.set (F.ERU_WIN_USED n) (bufsUsed l)).high (F.ERU_WIN_HIGH_WATER n) (bufsUsed l)

/-- An input of a chunk in the window. -/
def winGet (s : State) (n e c kind : Nat) : Option WinIn :=
  (s.eru n).win.find? (fun w => w.entry == e && w.chunk == c && w.kind == kind)

/-- Room for an input: one of the 2,048 buffers is reserved for control class (R271). -/
def winRoom (s : State) (n bufs : Nat) : Bool := decide (bufsUsed (s.eru n).win + bufs ≤ 2047)

/-- Something an entry does once in a step for a chunk has been done. -/
def actedKey (e c kind : Nat) : Nat := (4096 * e + c) * 4 + kind
def acted (s : State) (n e c kind : Nat) : Bool :=
  AMap.get (fun _ => 0) (s.eru n).acted (actedKey e c kind) == (s.part (entryPart s n e)).stepBase
def markActed (n e c kind : Nat) (s : State) : State :=
  let d := s.eru n
  s.setEru n { d with acted := AMap.put (fun _ => 0) d.acted (actedKey e c kind) (s.part (entryPart s n e)).stepBase }

/-- Deadline of an input: D for partials and local chunks, the result deadline for a result (R76, R268). -/
def inputSlot (s : State) (n e c kind : Nat) : Nat :=
  if kind = 2 then (resultSlot s n e c).getD (deadlineSlot s n e c) else deadlineSlot s n e c

/-- An input is late: a chunk completed at exactly its deadline is late (R76, R77). -/
def inputLate (s : State) (n e c kind : Nat) : Bool :=
  entryInStep s n e &&
    (acted s n e c (if kind = 2 then 1 else 0) || decide (slotFet s n e (inputSlot s n e c kind) ≤ s.fet))

/-- A write into the window: what SECDED found, an armed injection included (R274); false where the input is absent.
[log 9 DESIGN CHOICE] -/
def windowWrite (n part tag ecc : Nat) (s : State) : Bool × State :=
  let inj := s.flag (F.ERU_INJECT_ARM n)
  let s := s.set (F.ERU_INJECT_ARM n) 0
  let ev := { eruEvent 0x040b n part tag with injected := inj }
  if inj || ecc == 2 then (false, raiseFault ev (eruErr n 4 part tag s))
  else if ecc = 1 then (true, raiseFault ev s) else (true, s)

/-- An input enters the window in place of an earlier one of the same chunk. -/
def putInput (n : Nat) (w : WinIn) (s : State) : State :=
  setWindow n ((s.eru n).win.filter (fun x => !(x.entry == w.entry && x.chunk == w.chunk && x.kind == w.kind)) ++ [w]) s

/-! ### Reduction headers (Table 08.2) -/

/-- The reduction header. -/
def redHeader (mask count nm1 last flags e256 : Nat) : List Byte :=
  leBytes mask 16 ++ leBytes count 1 ++ leBytes nm1 1 ++ leBytes last 1 ++ leBytes flags 1 ++ leBytes e256 1 ++ List.replicate 11 0

/-- An input read from a reduction payload. -/
def redInput (e c : Nat) (fr : Frame) : WinIn :=
  let l := fr.payload
  let flags := leAt l 19 1
  { entry := e, chunk := c, kind := if bitOf flags 0 = 1 then 2 else 0, mask := leAt l 0 16, count := leAt l 16 1
    empty := bitOf flags 1 == 1, pfmt := bitOf flags 2, e := 256 * (leAt l 20 1 + 1), body := l.drop 32, bufs := frameLen fr }

/-- Elements of G8 with their block scales, of W16, of binary32, as values. -/
def g8Vals (e : Nat) (b : List Byte) : List Num :=
  (List.range e).map (fun k => dequant 3 (b.getD (e + k / 32) 0).toNat (b.getD k 0).toNat)
def w16Vals (e : Nat) (b : List Byte) : List Num := (List.range e).map (fun k => decodeNum 5 (leAt b (2 * k) 2))
def f32Codes (b : List Byte) : List Nat := (List.range 64).map (fun k => leAt b (4 * k) 4)

/-- Values of a partial; of a local chunk. -/
def partialVals (w : WinIn) : List Num := if w.pfmt = 0 then g8Vals w.e w.body else w16Vals w.e w.body

/-- Codes of 16 bits, of 32 bits, as bytes. -/
def bytes16 (l : List Nat) : List Byte := (l.map (fun v => leBytes v 2)).flatten
def bytes32 (l : List Nat) : List Byte := (l.map (fun v => leBytes v 4)).flatten

/-- A sum quantized to G8 or rounded to W16 (R264). -/
def packPartial (pfmt : Nat) (x : List Num) : List Byte :=
  if pfmt = 0 then let q := quantAll 3 x; (q.1 ++ q.2).map (BitVec.ofNat 8)
  else bytes16 (x.map (encodeNum 5 false))

/-- A local chunk of E elements is E ÷ 256 + E ÷ 8,192 accesses (R256). -/
def localE (accesses : Nat) : Nat := accesses / 33 * 8192

/-- Free binary32 values, where two contributions of one chunk differ in length. [log 87 DEDUCED] -/
def padNums (len : Nat) (l : List Num) (s : State) : List Num × State :=
  if len ≤ l.length then (l, s) else
  let k := len - l.length
  (l ++ (List.range k).map (fun i => decodeNum 7 (Config.freeWord (s.freeIdx + i)).toNat), { s with freeIdx := s.freeIdx + k })

/-! ### Frames to a port (R308, R317, R336) -/

/-- A scheduled frame is not sent: counted in SLOT, class 3 in its partition. -/
def slotDrop (m : Nat) (fr : Frame) (s : State) : State :=
  raiseFault (frameEvent 0x0406 m fr) (snlErr m 7 fr.part fr.tag (s.count (F.SNL_DROP_CNT1_SLOT m) 1))

/-- The ERU hands a frame to a port for a slot. -/
def handFrame (m slot e c : Nat) (fr : Frame) (s : State) : State :=
  if !portLive s m then s.count (F.SNL_DROP_CNT1_DARK m) 1
  else if slotEntry s m slot ≠ 8 + fr.part then slotDrop m fr s
  else
    let d := s.port m
    let x : SchedFrame := { slot := slot, entry := e, chunk := c, fr := fr }
    match d.sched.find? (fun y => y.slot == slot) with
    | none => s.setPort m { d with sched := d.sched ++ [x] }
    | some y =>
      let first := decide (e < y.entry ∨ (e = y.entry ∧ c < y.chunk))
      if first then slotDrop m y.fr (s.setPort m { d with sched := d.sched.map (fun z => if z.slot = slot then x else z) })
      else slotDrop m fr s

/-- A reduction frame (R263): abstain class where it is EMPTY, gradient class else. [log 87 DEDUCED] -/
def redFrame (s : State) (n e c : Nat) (way : Int) (mask count flags e256 : Nat) (body : List Byte) : Frame :=
  let cls := if bitOf flags 1 = 1 then 5 else 1
  let h := redHeader mask count (entryN s n e - 1) (canonIdx s n e c) (flags + 4 * s.get (F.ERU_SCHED0_PFMT n e)) e256
  let l := h ++ body
  mkFrame s cls (entryPart s n e) (chunkTag s n e c) (8 * coordAlong s n way + 1) 1 (l ++ List.replicate (256 * cdiv l.length 256 - l.length) 0)

/-- The ERU sends a frame in a slot of the step, and the ERU of the port it leaves on keeps a replay copy (R271).
[log 88 DEDUCED] -/
def eruSend (n m e c slot : Nat) (fr : Frame) (s : State) : State :=
  let d := s.eru m
  let s := s.setEru m { d with
    sent := d.sent.filter (fun x => x.fr.tag != fr.tag) ++ [{ slot := slotFet s n e slot / 256, entry := e, chunk := c, fr := fr }]
    refused := d.refused.filter (fun x => x.1 != fr.tag) }
  handFrame m (slotFet s n e slot / 256) e c fr s

/-! ### Inputs (R262, R271, R272, R475) -/

/-- A tag that no entry holds: CODE 6, class 2 in the sending partition. -/
def unscheduled (n part tag : Nat) (s : State) : State := raiseFault (eruEvent 0x040c n part tag) (eruErr n 6 part tag s)

/-- An input of another partition than its entry: CODE 7, class 3 in the sending partition. -/
def wrongPart (n part tag : Nat) (s : State) : State := raiseFault (eruEvent 0x040d n part tag) (eruErr n 7 part tag s)

/-- GEN of a frame against this module's (R213, R272). [log 86 DEDUCED] -/
def frameGenOk (s : State) (fr : Frame) : Bool :=
  let own := s.get (F.MSH_GEN_GEN fr.part)
  own == fr.gen || ((own + 256 - fr.gen) % 256 == 1 && decide (s.fet < s.mesh.drainEnd))

/-- Flits of a link frame: 128 B each. [log 98 DEDUCED] -/
def frameFlits (fr : Frame) : Nat := 2 * frameLen fr

/-- A BUSY frame goes back on the port a frame was refused at (R271). -/
def linkBusy (n : Nat) (fr : Frame) (s : State) : State :=
  let b := mkFrame s 2 fr.part fr.tag fr.src 1 (4 :: List.replicate 127 0)
  enqueue n b (s.count (F.ERU_BUSY_CNT_SENT n) 1)

/-- The packet a mesh input stands for: the tag an entry must hold, and the relayed frame in it (R262).
[log 86 DEDUCED] -/
def relayedFrame (p : Packet) : Frame :=
  let fr := frameOf (p.data.map accBytes).flatten
  { fr with poison := fr.poison || p.data.any (fun l => l.any (·.bad)) }
/-- [log 86 DEDUCED] -/
def inputTag (p : Packet) : Nat := if p.src < 5632 then p.tag else (relayedFrame p).tag

/-- Canonical index of a mesh input at entry e (R271): this module's own for a local chunk, the header's for a relayed one. -/
def inputIdx (s : State) (n e c : Nat) (p : Packet) : Nat :=
  if p.src < 5632 then canonIdx s n e c else leAt (relayedFrame p).payload 18 1

/-- Buffers that the port sub-channel claims in the cycle of a link frame and gets before it (R207, R271): those of a head
whose input has a lower canonical index. [log 139 DEDUCED] -/
def rivalBufs (s : State) (n idx : Nat) : Nat :=
  ((allFields.filter (fun f => portDieOf f == n / 8)).filterMap (fun f =>
    (s.fieldD f).portIn.head?.bind (fun p => (findEntry s n (inputTag p)).bind (fun x =>
      if inputIdx s n x.1 x.2 p < idx then some p.data.length else none)))).foldl max 0

/-- How the first flit of an input was met (R271): 1 its buffers are held, 2 it was refused, 0 it has not been seen. -/
def firstMet (s : State) (n e c kind : Nat) : Nat :=
  if (winGet s n e c (4 + kind)).isSome then 1 else if (winGet s n e c (8 + kind)).isSome then 2 else 0

/-- The buffers held since an input's first flit are given back. -/
def dropClaim (n e c kind : Nat) (s : State) : State :=
  if firstMet s n e c kind = 0 then s else
  setWindow n ((s.eru n).win.filter (fun w => !(w.entry == e && w.chunk == c && decide (4 ≤ w.kind) && w.kind % 4 == kind))) s

/-- The first flit of an input claims its buffers, or is refused (R271). [log 139 DEDUCED] -/
def claimInput (n e c kind bufs rival : Nat) (busy : State → State) (s : State) : State :=
  if winRoom s n (bufs + rival) then putInput n { entry := e, chunk := c, kind := 4 + kind, bufs := bufs } s
  else busy (putInput n { entry := e, chunk := c, kind := 8 + kind, bufs := 0 } s)

/-- A partial or a result reaches the reducing ERU n, `early` of its flits before its deadline (R77); `busy` answers where its
first flit held no buffers and the window, after what a rival of the same cycle takes, has no room for it.
[log 139 DEDUCED] -/
def takePartial (n e c ecc bufs flits early rival : Nat) (fr : Frame) (busy : State → State) (s : State) : State :=
  let w := { redInput e c fr with bufs := bufs }
  let met := firstMet s n e c w.kind
  let s := dropClaim n e c w.kind s
  if met = 2 then s
  else if fr.part ≠ entryPart s n e then wrongPart n fr.part fr.tag s
  else if !frameGenOk s fr then s.count (F.ERU_LATE_CNT_FLITS n) flits
  else if inputLate s n e c w.kind then s.count (F.ERU_LATE_CNT_FLITS n) (flits - early)
  else if met = 0 && !winRoom s n (bufs + rival) then busy s
  else
    let (ok, s) := windowWrite n fr.part fr.tag ecc s
    if ok && !fr.poison then putInput n w s else s

/-- The ERU of the opposite direction whose entry reduces a relayed tag (R262). [log 85 DEDUCED] -/
def reducingEru (s : State) (n tag : Nat) : Option (Nat × Nat × Nat) :=
  (portsOf (groupOf (oppositePort n))).findSome? (fun m =>
    (findEntry s m tag).bind (fun x => if entryOp s m x.1 = 3 then none else some (m, x.1, x.2)))

/-- ERU_RELAY (R262, R37): the frame crosses the mesh from SRCF's port sub-channel to DSTF's, or the carrier ring where a
die involved has no field of the partition. [log 86 DEDUCED] -/
def relay (n e ecc early : Nat) (fr : Frame) (s : State) : State :=
  let p := entryPart s n e
  if fr.part ≠ p then wrongPart n fr.part fr.tag s else
  let f := s.get (F.ERU_SCHED3_SRCF n e)
  let g := s.get (F.ERU_SCHED3_DSTF n e)
  match reducingEru s n fr.tag with
  | none => unscheduled n fr.part fr.tag s
  | some (m, x, c) =>
    if (dieFields s p (n / 8)).isEmpty || (dieFields s p (m / 8)).isEmpty then
      takePartial m x c ecc (frameLen fr) (frameFlits fr) early 0 fr (linkBusy n fr) s
    else
      let b := headerBytes { fr with auth := false } ++ fr.payload ++ List.replicate 16 0
      let k := cdiv b.length 256
      let data := (List.range k).map (fun i => bytesAcc (b.drop (256 * i)) fr.poison)
      let q : Packet := { id := 0, part := p, dst := 5632 + 16 * g + 3, tag := fr.tag, data := data, len := k }
      let ni := s.ni f 75
      s.setNi f 75 { ni with out := ni.out ++ [q] }

/-- The ERUs that may take a frame of port n: the port's own, and those of the opposite direction on the same die (R262). -/
def takers (s : State) (n : Nat) : List Nat :=
  let die := if 32 ≤ n ∧ n < 48 then portsOf (groupOf (oppositePort n)) else []
  (n :: die).filter (fun m => s.flag (F.ERU_CTRL_ENABLE m))

/-- The ERU, entry and chunk of a frame. -/
def frameEntry (s : State) (n : Nat) (fr : Frame) : Option (Nat × Nat × Nat) :=
  (takers s n).findSome? (fun m => (findEntry s m fr.tag).map (fun x => (m, x.1, x.2)))

/-- A frame that passed the checks of its port (R262): taken by the ERU of the port, of the opposite direction on the same
die, or relayed. [log 85 DEDUCED] -/
def takeFrame (n ecc early : Nat) (fr : Frame) (s : State) : State :=
  match frameEntry s n fr with
  | some (m, e, c) =>
    if entryOp s m e = 3 then relay m e ecc early fr s
    else takePartial m e c ecc (frameLen fr) (frameFlits fr) early (rivalBufs s m (leAt fr.payload 18 1)) fr (linkBusy n fr) s
  | none => if (takers s n).isEmpty then s else unscheduled n fr.part fr.tag s

/-- The verdict owed for a local chunk (R257). [log 88 DEDUCED] -/
def oweVerdict (n e c f : Nat) (p : Packet) (abst : Bool) (s : State) : State :=
  let d := s.eru n
  let v : Verdict := { entry := e, chunk := c, field := f, src := p.src, addr := p.addr, tag := p.tag, part := p.part, abstained := abst }
  s.setEru n { d with verdicts := d.verdicts.filter (fun x => !(x.entry == e && x.chunk == c)) ++ [v] }

/-- A local chunk reaches the ERU that reduces it, `early` of its flits before D (R256, R76, R77, R272, R475). A scalar is
never abstained (R273). -/
def takeLocal (n e c f ecc early : Nat) (p : Packet) (s : State) : State :=
  let a := p.data.length
  let w : WinIn := { entry := e, chunk := c, kind := 1, e := localE a, body := (p.data.map accBytes).flatten, bufs := a }
  let met := firstMet s n e c 1
  let s := dropClaim n e c 1 s
  if p.part ≠ entryPart s n e then wrongPart n p.part p.tag s
  else if genCheck s p.part p.gen p.src p.srcPhys = 2 then s.count (F.ERU_LATE_CNT_FLITS n) (1 + 2 * a)
  else if inputLate s n e c 1 then
    (oweVerdict n e c f p (entryOp s n e != 2) s).count (F.ERU_LATE_CNT_FLITS n) (1 + 2 * a - early)
  else if s.flag (F.ERU_SCHED0_PFMT n e) && decide (32768 < localE a) then
    unscheduled n p.part p.tag (oweVerdict n e c f p true s)
  else if met = 0 && !winRoom s n a then sendBusy f 75 p (s.count (F.ERU_BUSY_CNT_SENT n) 1)
  else
    let (ok, s) := windowWrite n p.part p.tag ecc s
    let s := oweVerdict n e c f p false s
    if ok && !p.data.any (fun l => l.any (·.bad)) then putInput n w s else s

/-- The next packet of a field's port sub-channel reaches an ERU of its Port die, or over the ring an ERU of a die whose
group has no field of its partition (R256, R262, R37). -/
def takePacket (n f ecc early : Nat) (s : State) : State :=
  let d := s.fieldD f
  match d.portIn with
  | [] => s
  | p :: rest =>
    if portDieOf f ≠ n / 8 ∧ !(dieFields s p.part (n / 8)).isEmpty then s else
    let own := decide (p.src < 5632)
    let fr := relayedFrame p
    let tag := inputTag p
    let t := s.setField f { d with portIn := rest }
    match findEntry s n tag with
    | some (e, c) =>
      if !own then takePartial n e c ecc p.data.length (1 + 2 * p.data.length) early 0 fr (sendBusy f 75 p) t
      else takeLocal n e c f ecc early p t
    | none =>
      if (List.range' (n / 8 * 8) 8).any (fun m => (findEntry s m tag).isSome) then s
      else if s.flag (F.ERU_CTRL_ENABLE n) then unscheduled n p.part tag t else t

/-- The first flit of a frame reaches an ERU of its port: where its header names an input that is not late, it claims the
input's buffers, or is refused (R271). [log 139 DEDUCED] -/
def frameFirst (n : Nat) (fr : Frame) (s : State) : State :=
  if !stateCarries s n fr || !scheduled fr || !isHere s fr then s else
  match frameEntry s n fr with
  | none => s
  | some (m, e, c) =>
    let kind := (redInput e c fr).kind
    if entryOp s m e == 3 || fr.part != entryPart s m e || !frameGenOk s fr || inputLate s m e c kind then s
    else claimInput m e c kind (frameLen fr) (rivalBufs s m (leAt fr.payload 18 1)) (linkBusy n fr) s

/-- The first flit of the next packet of a port sub-channel reaches the ERU; a refused packet leaves with its BUSY (R208, R271).
[log 139 DEDUCED] -/
def packetFirst (n f : Nat) (s : State) : State :=
  let d := s.fieldD f
  match d.portIn with
  | [] => s
  | p :: rest =>
    match findEntry s n (inputTag p) with
    | none => s
    | some (e, c) =>
      let kind := if p.src < 5632 then 1 else (redInput e c (relayedFrame p)).kind
      if p.part != entryPart s n e || inputLate s n e c kind || (portDieOf f != n / 8 && !(dieFields s p.part (n / 8)).isEmpty) then s
      else if winRoom s n p.data.length then claimInput n e c kind p.data.length 0 id s
      else sendBusy f 75 p ((s.setField f { d with portIn := rest }).count (F.ERU_BUSY_CNT_SENT n) 1)

/-- The delivery block and accesses of a data frame (Table 09.5). -/
def dataPayload (dst addr : Nat) (data : List (List PWord)) : List Byte :=
  let bad := ((data.zipIdx.filter (fun a => a.1.any (·.bad))).map (fun a => 2 ^ a.2)).sum
  let block := leBytes dst 2 ++ leBytes addr 2 ++ leBytes data.length 2 ++ [0, 0] ++ leBytes bad 32
  block ++ List.replicate (128 - block.length) 0 ++ data.flatMap accBytes

/-- The next packet of a port sub-channel, one that no ERU of the die has an entry for, leaves as a data-class frame of its
partition (R298, R330, R339). What names the module and the place there is the sender's: the spec gives no header field for
it. [log 92 DESIGN CHOICE] -/
def originate (n f coord dst addr : Nat) (s : State) : State :=
  let d := s.fieldD f
  match d.portIn with
  | [] => s
  | p :: rest =>
    if portDieOf f != n / 8 || !decide (p.src < 5632) || decide (255 < p.data.length) || p.data.isEmpty
        || (List.range' (n / 8 * 8) 8).any (fun m => (findEntry s m p.tag).isSome) then s
    else
      let fr := mkFrame s 0 p.part p.tag (8 * coord + 3) 3 (dataPayload dst addr p.data)
      sendFrame { fr with poison := p.data.any (fun l => l.any (·.bad)) } (s.setField f { d with portIn := rest })

/-- What the first flit of a frame claimed is over with the frame. -/
def dropFrameClaim (n : Nat) (fr : Frame) (s : State) : State :=
  match frameEntry s n fr with
  | none => s
  | some (m, e, c) => dropClaim m e c (redInput e c fr).kind s

/-- ERU_INPUT_ARRIVAL: the first flit of an input, or the whole of it, `early` of its flits before its deadline.
[log 85 DEDUCED] -/
def eruInput (n : Nat) (inp : EruIn) (a : EruArrival) (s : State) : State :=
  match inp with
  | .frame fr =>
    if a.first then frameFirst n fr s
    else dropFrameClaim n fr (receiveFrame n fr scheduled (takeFrame n a.ecc a.early fr) s)
  | .mesh f => if a.first then packetFirst n f s else takePacket n f a.ecc a.early s
  | .outbound f coord dst addr => originate n f coord.toNat dst.toNat addr.toNat s

/-! ### Abstention (R76, R80, R265, R266) -/

/-- A step in which this module's source abstains (R80): counted once, and class 3 past LIMIT in a row. -/
def sourceAbstained (n p tag : Nat) (s : State) : State :=
  let d := s.part p
  if moduleQuenched s || partState s p == 4 || d.abstNow then s else
  let s := markStep p (fun k => { k with abst := true }) (s.setPart p { d with abstNow := true, abstRun := d.abstRun + 1 })
  if s.get (F.TIM_ABST_CFG_LIMIT p) < d.abstRun + 1 then raiseFault (eruEvent 0x0408 n p tag) s else s

/-- A chunk's verdict becomes an abstention; one whose V has passed is a late notice (R266). [log 89 DEDUCED] -/
def noticeVerdict (n part tag : Nat) (s : State) : State :=
  let hit := fun (v : Verdict) => v.tag == tag && v.part == part
  match (List.range 64).find? (fun m => (s.eru m).verdicts.any hit) with
  | none => sourceAbstained n part tag s
  | some m =>
    let d := s.eru m
    let s := if d.verdicts.any (fun v => hit v && v.sent) then
        raiseFault (eruEvent 0x040f m part tag) (eruErr m 3 part tag s)
      else s.setEru m { d with verdicts := d.verdicts.map (fun v => if hit v then { v with abstained := true } else v) }
    sourceAbstained m part tag s

/-- A local chunk not in time: counted, its verdict set, its source notified (R76). -/
def abstainLocal (n e c : Nat) (s : State) : State :=
  let s := s.count (F.ERU_ABST_CNT_LOCAL n) 1
  let d := s.eru n
  let s := s.setEru n { d with verdicts := d.verdicts.map (fun v => if v.entry = e ∧ v.chunk = c then { v with abstained := true } else v) }
  sourceAbstained n (entryPart s n e) (chunkTag s n e c) s

/-- Ring position of a canonical index. -/
def posOfIdx (s : State) (n e c i : Nat) : Nat := (s.get (F.ERU_SCHED1_OWNER n e) + c + 1 + i) % entryN s n e

/-- MASK bits of canonical indices below i. -/
def maskBelow (s : State) (n e c i : Nat) : Nat := ((List.range i).map (fun j => 2 ^ posOfIdx s n e c j)).sum

/-- A partial not in the window at D (R265): its contributors are abstained and notified. -/
def abstainPartial (n e c i : Nat) (s : State) : State :=
  let s := s.count (F.ERU_ABST_CNT_PARTIAL n) i
  s.forEach (List.range i) (fun j t =>
    let back : Int := (posOfIdx t n e c j : Int) - t.get (F.ERU_SCHED1_POS n e)
    sendFrame (mkFrame t 2 (entryPart t n e) (chunkTag t n e c) (8 * coordAlong t n back + 1) 1 (3 :: List.replicate 127 0)) t)

/-! ### Delivery (R270) -/

/-- A result goes to Vault VAULT over the carrier ring; none of a quenched partition is delivered (Table 15.6). -/
def deliverResult (n e : Nat) (m : ResultMsg) (s : State) : State :=
  let v := s.get (F.ERU_SCHED1_VAULT n e)
  if moduleQuenched s || partState s m.part == 4 || decide (12 ≤ v) then s
  else s.setVault v { s.vault v with inbox := (s.vault v).inbox ++ [m] }

/-- A result as a Vault receives it. -/
def resultMsg (s : State) (n e c : Nat) (w : WinIn) : ResultMsg :=
  let sc := entryOp s n e == 2
  { tag := chunkTag s n e c, part := entryPart s n e, mask := w.mask, count := w.count, empty := w.empty, scalar := sc, e := w.e
    codes := if w.empty then [] else if sc then f32Codes w.body else (List.range w.e).map (fun k => leAt w.body (2 * k) 2) }

/-! ### ERU_SLOT_DEADLINE (R264-R267, R273) -/

/-- The port that carries what leaves at D or at a result deadline; the chain's results go the opposite way (R269).
[log 89 DEDUCED] -/
def resultPort (s : State) (n e : Nat) : Nat := if entryChain s n e then oppositePort n else n
/-- [log 89 DEDUCED] -/
def resultDir (s : State) (n e : Nat) : Int := if entryChain s n e then -1 else 1

/-- The owner's result is delivered and sent on. [log 87 DEDUCED] -/
def ownerDone (n e c : Nat) (w : WinIn) (e256 : Nat) (s : State) : State :=
  let s := deliverResult n e (resultMsg s n e c w) s
  if entryOp s n e = 0 ∨ entryN s n e = 1 then s else
  let fr := redFrame s n e c (resultDir s n e) w.mask w.count (if w.empty then 3 else 1) e256 w.body
  eruSend n (resultPort s n e) e c (deadlineSlot s n e c) fr s

/-- A partial leaves in the slot of its D. [log 87 DEDUCED] -/
def partialDone (n e c mask count e256 : Nat) (empty : Bool) (body : List Byte) (s : State) : State :=
  eruSend n n e c (deadlineSlot s n e c) (redFrame s n e c 1 mask count (if empty then 2 else 0) e256 body) s

/-- A scalar at D (R273): sums in canonical order by rne32; a missing input is a class 3 fault. [log 87 DEDUCED] -/
def scalarDeadline (n e c : Nat) (p q : Option WinIn) (s : State) : State :=
  let i := canonIdx s n e c
  let missing := q.isNone || (i != 0 && p.isNone)
  if missing then
    raiseFault (eruEvent 0x040a n (entryPart s n e) (chunkTag s n e c)) (eruErr n 2 (entryPart s n e) (chunkTag s n e c) s)
  else
    let ql := f32Codes ((q.map (·.body)).getD [])
    let l := match p with
      | some w => if i = 0 then ql else List.zipWith add32 (f32Codes w.body) ql
      | none => ql
    let k := (if i = 0 then 0 else (p.map (·.count)).getD 0) + 1
    if i = entryN s n e - 1 then ownerDone n e c { entry := e, chunk := c, kind := 2, count := k, e := 64, body := bytes32 l } 0 s
    else partialDone n e c 0 k 0 false (bytes32 l) s

/-- A chunk's contributions at D: MASK, the partial, the local chunk. -/
structure AtD where
  mask : Nat
  count : Nat
  p : Option WinIn
  q : Option WinIn

/-- What is used at D and what is abstained (R76, R265). -/
def gatherAtD (n e c : Nat) (p q : Option WinIn) (s : State) : AtD × State :=
  let i := canonIdx s n e c
  let lost := i != 0 && p.isNone
  let s := if lost then abstainPartial n e c i s else s
  let mask := if i = 0 then 0 else match p with
    | some w => w.mask
    | none => maskBelow s n e c i
  let q := if partState s (entryPart s n e) == 4 then none else q
  let s := if q.isNone then abstainLocal n e c s else s
  let pos := s.get (F.ERU_SCHED1_POS n e)
  let mask := if q.isNone ∧ bitOf mask pos = 0 then mask + 2 ^ pos else mask
  ({ mask := mask, count := if i = 0 then 0 else (p.map (·.count)).getD 0
     p := if i = 0 then none else p.filter (fun w => !w.empty), q := q }, s)

/-- The binary32 sum of a chunk, canonical order (R261, R264). -/
def sumAtD (a : AtD) (s : State) : List Num × State :=
  match a.p, a.q with
  | some w, some x =>
    let u := partialVals w
    let v := g8Vals x.e x.body
    let (v, s) := padNums u.length v s
    let (u, s) := padNums v.length u s
    (List.zipWith (fun a b => roundTo 7 (a.add b)) u v, s)
  | some w, none => (partialVals w, s)
  | none, some x => (g8Vals x.e x.body, s)
  | none, none => ([], s)

/-- E ÷ 256 − 1 of a header; an EMPTY one that no input gave a size has none to report. -/
def sizeAtD (a : AtD) (p : Option WinIn) (s : State) : Nat × State :=
  match a.p, a.q, p with
  | some w, _, _ => (w.e / 256 - 1, s)
  | none, some x, _ => (x.e / 256 - 1, s)
  | none, none, some w => (w.e / 256 - 1, s)
  | none, none, none => let r := s.free; (r.1.toNat % 256, r.2)

/-- A gradient chunk at D: the owner's result, or the outgoing partial. -/
def chunkDeadline (n e c : Nat) (p q : Option WinIn) (s : State) : State :=
  let (a, s) := gatherAtD n e c p q s
  let (e256, s) := sizeAtD a p s
  let k := a.count + (if a.q.isSome then 1 else 0)
  let pfmt := s.get (F.ERU_SCHED0_PFMT n e)
  if canonIdx s n e c = entryN s n e - 1 then
    if k = 0 then ownerDone n e c { entry := e, chunk := c, kind := 2, mask := a.mask, empty := true, e := 256 * (e256 + 1) } e256 s
    else
      let (x, s) := sumAtD a s
      let r := divRne (entryN s n e) k
      let body := bytes16 (x.map (fun v => encodeNum 5 false (v.mul r)))
      ownerDone n e c { entry := e, chunk := c, kind := 2, mask := a.mask, count := k, e := x.length, body := body } e256 s
  else match a.p, a.q with
    | none, none => partialDone n e c a.mask a.count e256 true [] s
    | some w, none => partialDone n e c a.mask a.count e256 false w.body s
    | none, some x =>
      partialDone n e c a.mask k e256 false (if pfmt = 0 then x.body else bytes16 ((g8Vals x.e x.body).map (encodeNum 5 false))) s
    | some _, some _ =>
      let (x, s) := sumAtD a s
      partialDone n e c a.mask k e256 false (packPartial pfmt x) s
where
  /-- rne32 of a quotient of two counts (R267). -/
  divRne (a b : Nat) : Num :=
    let q := a * 2 ^ 60 / b
    roundTo 7 (.fin false (2 * q + (if q * b = a * 2 ^ 60 then 0 else 1)) (-61))

/-- In a module quench the ERU sends an EMPTY abstain frame that masks every index up to its own (Table 15.6).
[log 87 DEDUCED] -/
def quenchDeadline (n e c : Nat) (s : State) : State :=
  let i := canonIdx s n e c
  if (txSlots s n e c false).isEmpty then s
  else let r := s.free; partialDone n e c (maskBelow s n e c (i + 1)) 0 (r.1.toNat % 256) true [] r.2

/-- ERU_SLOT_DEADLINE. -/
def eruDeadline (n e c : Nat) (s : State) : State :=
  if !entryOn s n e || entryOp s n e == 3 || decide (s.get (F.ERU_SCHED2_CHUNKS n e) < c) || !entryInStep s n e
      || decide (s.fet < slotFet s n e (deadlineSlot s n e c)) || acted s n e c 0 then s
  else
    let p := winGet s n e c 0
    let q := winGet s n e c 1
    let s := markActed n e c 0 s
    let s := setWindow n ((s.eru n).win.filter (fun w => !(w.entry == e && w.chunk == c && w.kind % 4 != 2))) s
    if moduleQuenched s then quenchDeadline n e c s
    else if entryOp s n e = 2 then scalarDeadline n e c p q s
    else chunkDeadline n e c p q s

/-- ERU_RESULT_DEADLINE (R268, R269). -/
def eruResultDeadline (n e c : Nat) (s : State) : State :=
  match resultSlot s n e c with
  | none => s
  | some k =>
    if !entryOn s n e || entryOp s n e == 3 || decide (s.get (F.ERU_SCHED2_CHUNKS n e) < c) || !entryInStep s n e
        || decide (s.fet < slotFet s n e k) || acted s n e c 1 || moduleQuenched s then s
    else
      let r := winGet s n e c 2
      let s := markActed n e c 1 s
      let s := setWindow n ((s.eru n).win.filter (fun w => !(w.entry == e && w.chunk == c && w.kind % 4 == 2))) s
      match r with
      | none =>
        raiseFault (eruEvent 0x0409 n (entryPart s n e) (chunkTag s n e c)) (eruErr n 1 (entryPart s n e) (chunkTag s n e c) s)
      | some w =>
        let s := deliverResult n e (resultMsg s n e c w) s
        if !forwardsResult s n e c then s else
        let fr := redFrame s n e c (resultDir s n e) w.mask w.count (if w.empty then 3 else 1) (w.e / 256 - 1) w.body
        eruSend n (resultPort s n e) e c k fr s

/-- VERDICT_TIME (R257): one access of 64 binary32 lanes to the verdict access of the sending cell. -/
def verdictTime (n e c : Nat) (s : State) : State :=
  if !entryOn s n e || !entryInStep s n e || decide (s.fet < slotFet s n e (verdictSlot s n e c)) then s else
  let d := s.eru n
  let due := d.verdicts.filter (fun v => v.entry == e && v.chunk == c && !v.sent)
  let s := s.setEru n { d with verdicts := d.verdicts.map (fun v => if v.entry = e ∧ v.chunk = c then { v with sent := true } else v) }
  due.foldl (fun s v =>
    let ni := s.ni v.field 75
    let w : PWord := { w := if v.abstained then 0xbf800000 else 0 }
    let q : Packet := { id := 0, part := v.part, dst := v.src, tag := v.tag, addr := v.addr, data := [List.replicate 64 w], len := 1 }
    s.setNi v.field 75 { ni with out := ni.out ++ [q] }) s

/-- ABSTAIN_NOTICE_RECEIVE (R266). -/
def abstainNotice (n : Nat) (fr : Frame) (s : State) : State :=
  receiveFrame n fr (fun fr => fr.cls == 2 && leAt fr.payload 0 1 == 3) (noticeVerdict n fr.part fr.tag) s

/-- A frame was refused: its backoff begins, with the refusals before it and the sender's canonical index (R271, R208).
[log 88 DEDUCED] -/
def eruRefused (n tag : Nat) (s : State) : State :=
  let d := s.eru n
  match d.sent.find? (fun x => x.fr.tag == tag) with
  | none => s
  | some x =>
    let k := ((d.refused.find? (fun x => x.1 == tag)).map (·.2.1)).getD 0
    let due := s.fet + cdiv (4 * backoffCycles k (leAt x.fr.payload 18 1)) 5
    s.setEru n { d with refused := d.refused.filter (fun x => x.1 != tag) ++ [(tag, k + 1, due)] }

/-- A refused frame whose backoff has ended, by its tag. -/
def resendDue (s : State) (n tag : Nat) : Bool := (s.eru n).refused.any (fun x => x.1 == tag && x.2.2 != 0 && decide (x.2.2 ≤ s.fet))

/-- The slot of a resend: the next one of its partition, its block still to come, in which no scheduled frame of the port is
due; the next one at all where there is none. [log 88 DEDUCED] -/
def resendSlot (s : State) (n p : Nat) : Nat :=
  let now := s.fet / 256 + (if blockNow s n < schedBlock s n then 0 else 1)
  let taken := dueSlots s n ++ (s.port n).sched.map (·.slot)
  ((List.range' now 64).find? (fun k => slotEntry s n k == 8 + p && !taken.contains k)).getD now

/-- ERU_BUSY_RESEND (R271): from the replay copy, after the backoff. [log 88 DEDUCED] -/
def eruBusyResend (n tag : Nat) (s : State) : State :=
  let d := s.eru n
  if !resendDue s n tag then s else
  let s := s.setEru n { d with refused := d.refused.map (fun x => if x.1 = tag then (x.1, x.2.1, 0) else x) }
  match d.sent.find? (fun x => x.fr.tag == tag) with
  | none => s
  | some x => handFrame n (resendSlot s n x.fr.part) x.entry x.chunk x.fr (s.count (F.ERU_BUSY_CNT_RETRIED n) 1)

/-! ### Registers (R259, R269, R272, R288) -/

/-- Two tag ranges of an ERU share a tag. -/
def rangesMeet (s : State) (n e f : Nat) : Bool :=
  (List.range (s.get (F.ERU_SCHED2_CHUNKS n e) + 1)).any (fun c =>
    (tagChunk (s.get (F.ERU_SCHED0_TAG_BASE n f)) (s.get (F.ERU_SCHED2_CHUNKS n f)) (chunkTag s n e c)).isSome)

/-- An entry that may not be valid: CHAIN with another OP or on a T or D port, or a tag range that meets another's. -/
def entryMalformed (s : State) (n e : Nat) : Bool :=
  (s.flag (F.ERU_SCHED0_CHAIN n e) && (entryOp s n e != 2 || decide (n < 32) || decide (48 ≤ n)))
    || (List.range 128).any (fun f => f != e && s.flag (F.ERU_SCHED0_VALID n f) && rangesMeet s n e f)

/-- A write to an entry: discarded with a note while its partition has a plan started; left invalid with CODE 5 where the
entry may not be valid. `w` holds the writable bits. -/
def eruSchedSet (n e k : Nat) (w : Word) (s : State) : State :=
  let off := R.ERU_SCHED0 n e + 4 * k
  if planStarted s (entryPart s n e) || (k == 0 && planStarted s (Word.field w 30 28)) then
    noteAt 5 0 (100 + n / 8) 14 n s
  else
    let s := s.wr off w
    let s := if k = 3 ∧ s.get (F.ERU_SCHED3_STRIDE n e) = 0 then s.set (F.ERU_SCHED3_STRIDE n e) 1 else s
    if s.flag (F.ERU_SCHED0_VALID n e) && entryMalformed s n e then
      eruErr n 5 (entryPart s n e) (s.get (F.ERU_SCHED0_TAG_BASE n e)) (s.set (F.ERU_SCHED0_VALID n e) 0)
    else s

/-- ERU_CTRL.CNT_CLEAR. -/
def eruCntClear (n : Nat) (s : State) : State :=
  let s := s.set (F.ERU_WIN_HIGH_WATER n) 0
  ((s.wr (R.ERU_ABST_CNT n) 0).wr (R.ERU_LATE_CNT n) 0).wr (R.ERU_BUSY_CNT n) 0

/-! ### The commands -/

def execEruInputArrival (n : Fin 64) (inp : EruIn) (arrival : EruArrival) (s : State) : Host.Outcome State Fault Refusal :=
  .next (eruInput n inp arrival s)

def execEruBusyResend (n : Fin 64) (tag : BitVec 24) (s : State) : Host.Outcome State Fault Refusal :=
  .next (eruBusyResend n tag.toNat s)

def execEruSlotDeadline (n : Fin 64) (e : Fin 128) (c : Nat) (s : State) : Host.Outcome State Fault Refusal :=
  .next (eruDeadline n e c s)

def execEruResultDeadline (n : Fin 64) (e : Fin 128) (c : Nat) (s : State) : Host.Outcome State Fault Refusal :=
  .next (eruResultDeadline n e c s)

def execVerdictTime (n : Fin 64) (e : Fin 128) (c : Nat) (s : State) : Host.Outcome State Fault Refusal :=
  .next (verdictTime n e c s)

def execAbstainNoticeReceive (n : Fin 64) (fr : Frame) (s : State) : Host.Outcome State Fault Refusal :=
  .next (abstainNotice n fr s)

end Sys2Proof.Machine
end

