-- ==== Sys2Proof/Machine/Update.lean ====
section
/-!
DEFINITION. Machine/Update.lean: the Update Engines: results and groups, the optimizers, the learning-rate schedule,
global-norm clipping, the group record, the state digest (08_gradients R276-R286).
-/
namespace Sys2Proof.Machine

/-! ### binary32 arithmetic of a UE (R278) -/

/-- An exact quotient to 60 bits, its last bit set where inexact. -/
def numDiv : Num → Num → Num
  | .nan, _ => .nan
  | _, .nan => .nan
  | .inf _, .inf _ => .nan
  | .inf a, .fin b _ _ => .inf (a != b)
  | .fin a _ _, .inf b => .zero (a != b)
  | .fin a m e, .fin b n f =>
    if n = 0 then (if m = 0 then .nan else .inf (a != b))
    else
      let k := Nat.log2 n + 70
      let q := m * 2 ^ k / n
      .fin (a != b) (2 * q + (if q * n = m * 2 ^ k then 0 else 1)) (e - f - k - 1)

/-- Each operation rounded once. -/
def r32 (v : Num) : Num := roundTo 7 v
def uAdd (a b : Num) : Num := r32 (a.add b)
def uSub (a b : Num) : Num := r32 (a.add b.negate)
def uMul (a b : Num) : Num := r32 (a.mul b)
def uFma (a b c : Num) : Num := r32 ((a.mul b).add c)
def uDiv (a b : Num) : Num := r32 (numDiv a b)
def uSqrt (a : Num) : Num :=
  match a with
  | .nan => .nan
  | .inf n => if n then .nan else .inf false
  | .fin n m e => if m = 0 then .zero n else if n then .nan else r32 (numSqrt m e)
def uOne : Num := .fin false 1 0
def uNat (k : Nat) : Num := r32 (.fin false k 0)
def code32 (v : Num) : Nat := encodeNum 7 false v
def code16 (v : Num) : Nat := encodeNum 5 false v

/-! ### Tier C accesses of the UEs (R227, R231, R469) -/

/-- Master of a Vault's Update Engine u (Table 15.4). [log 84 DESIGN CHOICE] -/
def ueMaster (v u : Nat) : Nat := 3 * 2 ^ 29 + 8 * v + u

/-- A Tier P fence region of partition p holds bytes [lo, hi) of Vault v's flash (R226). -/
def pfenceHolds (s : State) (v p lo hi : Nat) : Bool :=
  (List.range 16).any (fun r =>
    s.flag (F.VLT_PFENCE_ATTR_VALID v r) && s.get (F.VLT_PFENCE_ATTR_PART v r) == p
      && decide (s.get (F.VLT_PFENCE_BASE_BASE v r) * 2 ^ 30 ≤ lo)
      && decide (hi ≤ (s.get (F.VLT_PFENCE_LIMIT_LIMIT v r) + 1) * 2 ^ 30))

/-- A unit of moments lies in a Tier P spill region (R219): no Tier C region of p lets a UE to it, and a Tier P region of p
holds it. [log 153 DESIGN CHOICE] -/
def spilled (s : State) (v unit p : Nat) : Bool :=
  decide (v < 8) && !fencePasses s v p (256 * unit) (256 * unit + 256) true && pfenceHolds s v p (256 * unit) (256 * unit + 256)

/-- The regions a group's update touches: byte ranges of Tier C. -/
def grpRegions (s : State) (v g : Nat) : List (Nat × Nat) :=
  let n := grpE s v g * grpChunks s v g
  let a := fun (u : Nat) => 256 * u
  let hi := a (s.get (F.UPD_G_HI_UNIT v g))
  let lo := a (s.get (F.UPD_G_LO_UNIT v g))
  let m := a (s.get (F.UPD_G_M_UNIT v g))
  let vv := a (s.get (F.UPD_G_V_UNIT v g))
  let gb := a (s.get (F.UPD_G_GBUF_UNIT v g))
  let cols := s.get (F.UPD_G_SHAPE_COLS v g)
  let moments := (m, m + 256 + 2 * n) :: (match grpOpt s v g with
    | 1 => [(vv, vv + 2 * n)]
    | 2 => [(vv, vv + 256 * cdiv (2 * (cdiv n cols + cols)) 256)]
    | _ => [])
  [(hi, hi + 2 * n), (lo, lo + 2 * n)] ++ moments.filter (fun r => !spilled s v (r.1 / 256) (grpPart s v g))
    ++ (if usesGbuf s v g then [(gb, gb + 2 * n)] else [])

/-- A checkpoint still has to save a segment that the group would write: COPY_ON_WRITE comes first (R231). -/
def mustCopy (s : State) (v g : Nat) : Bool :=
  (s.vault v).ckpt.any (fun k => (grpRegions s v g).any (fun r => k.unsaved.any (fun q =>
    decide (segBytes * q < r.2) && decide (r.1 < segBytes * (q + 1)))))

/-- A mover request reached the Vault earlier for a unit the group works on, and is served first (R224). -/
def moverFirst (s : State) (v g : Nat) : Bool :=
  moverAhead s v s.fet (fun a => (grpRegions s v g).any (fun r => decide (r.1 < a + 256) && decide (a < r.2)))

/-- A UE access to a unit, through the fence and under the key (R227, R229): where it is refused it is not performed. -/
def ueAccess {α : Type} (v unit p u : Nat) (refused : α) (f : State → α × State) (s : State) : α × State :=
  let c := accessRefused s v p (256 * unit) (256 * unit + 256) true
  if c = 0 then f s else (refused, refusalFault v p c (256 * unit) (ueMaster v u) s)

/-- The W16 codes of a 256 B unit, and whether they may not be used: refused, poisoned or uncorrectable. -/
def unitCodes (v unit p u : Nat) (s : State) : (List Nat × Bool) × State :=
  ueAccess v unit p u (List.replicate 128 0, true) (fun s =>
    let r := tcRead v unit p 0 (ueMaster v u) s
    let b := accBytes r.1.1
    (((List.range 128).map (fun k => leAt b (2 * k) 2), r.1.2 || r.1.1.any (·.bad)), r.2)) s

/-- A unit of W16 codes stored. -/
def storeCodes (v unit p u : Nat) (l : List Nat) (s : State) : State :=
  (ueAccess v unit p u () (fun s => ((), tcWrite v unit p (bytesAcc (bytes16 l) false) s)) s).2

/-- 256 bytes of a unit of Tier P through the cipher of its 4 KiB data unit (R228). -/
def cryptP (decrypt : Bool) (v unit : Nat) (key l : List Byte) : List Byte :=
  (xts decrypt key (v * 2 ^ 29 + unit / 16) (List.replicate (256 * (unit % 16)) 0 ++ l)).drop (256 * (unit % 16))

/-- What a unit of Tier P reads as under a key (R228): what was written under that key, else the decryption of what the flash
holds: the erased state before any write. [log 153 DESIGN CHOICE] -/
def plainP (d : VaultState) (v unit : Nat) (key : List Byte) : List Byte :=
  let under := AMap.get (fun _ => []) d.keyOfP unit
  let l := Mem.rdN d.tierP (256 * unit) 256
  if under = key then l
  else cryptP true v unit key
    (if under.isEmpty then (List.range 256).map (fun k => Config.erased v (256 * unit + k)) else cryptP false v unit under l)

/-- A UE access to a unit of moments in a spill region, through the key there (R219, R229). -/
def ueSpill {α : Type} (v unit p : Nat) (refused : α) (f : List Byte → State → α × State) (s : State) : α × State :=
  let c := tierPRefused s v p
  if c = 0 then f ((s.part p).keyP.getD []) s else (refused, refusedTierP v p c (256 * unit) s)

/-- The 256 bytes of a unit of moments, and whether they may not be used: from Tier C, or from the spill region (R219).
[log 153 DESIGN CHOICE] -/
def momentBytes (v unit p u : Nat) (s : State) : (List Byte × Bool) × State :=
  if spilled s v unit p then
    ueSpill v unit p (List.replicate 256 0, true) (fun key s => ((plainP (s.vault v) v unit key, false), s)) s
  else
    ueAccess v unit p u (List.replicate 256 0, true) (fun s =>
      let r := tcRead v unit p 0 (ueMaster v u) s
      ((accBytes r.1.1, r.1.2 || r.1.1.any (·.bad)), r.2)) s

/-- 256 bytes of moments stored in Tier C, or in the spill region (R219). [log 153 DESIGN CHOICE] -/
def storeMoments (v unit p u : Nat) (l : List Byte) (s : State) : State :=
  if spilled s v unit p then
    (ueSpill v unit p () (fun key s =>
      let d := s.vault v
      ((), s.setVault v { d with tierP := Mem.wrN d.tierP (256 * unit) l, keyOfP := AMap.put (fun _ => []) d.keyOfP unit key })) s).2
  else (ueAccess v unit p u () (fun s => ((), tcWrite v unit p (bytesAcc l false) s)) s).2

/-- The codes of a unit of moments. -/
def momentCodes (v unit p u : Nat) (s : State) : (List Nat × Bool) × State :=
  let r := momentBytes v unit p u s
  (((List.range 128).map (fun k => leAt r.1.1 (2 * k) 2), r.1.2), r.2)

/-- The UE that takes 128 elements of a chunk: eight equal runs (R277). -/
def ueOf (e i : Nat) : Nat := 1024 * i / e

/-! ### Learning rate (R282) -/

/-- The rate of step t between two breakpoints. -/
def lrSegment (s : State) (v i t : Nat) : Num :=
  let st := fun (k : Nat) => s.get (F.UPD_LR_STEP_STEP v k)
  let y := fun (k : Nat) => decodeNum 7 (s.get (F.UPD_LR_VAL_LR v k))
  let f := uDiv (uNat (t - st i)) (uNat (st (i + 1) - st i))
  if s.flag (F.UPD_LR_STEP_MODE v i) then
    let x := decodeNum 7 (transc 8 (code32 (uMul (decodeNum 7 0x40490fdb) f)))
    uFma (uMul (.fin false 1 (-1)) (uAdd uOne x)) (uSub (y i) (y (i + 1))) (y (i + 1))
  else uFma f (uSub (y (i + 1)) (y i)) (y i)

/-- The learning rate of step t. -/
def lrOf (s : State) (v g t : Nat) : Num :=
  let a := s.get (F.UPD_G_CFG_LR_FIRST v g)
  let b := s.get (F.UPD_G_CFG_LR_LAST v g)
  let st := fun (k : Nat) => s.get (F.UPD_LR_STEP_STEP v k)
  if t ≤ st a then decodeNum 7 (s.get (F.UPD_LR_VAL_LR v a))
  else if st b ≤ t then decodeNum 7 (s.get (F.UPD_LR_VAL_LR v b))
  else
    let i := ((List.range' a (b - a)).filter (fun i => decide (st i ≤ t))).getLastD a
    lrSegment s v i t

/-! ### Optimizers (R280, R281) -/

/-- What one update of a group uses: the clip factor, the rates, the powers. -/
structure OptPars where
  c : Num
  beta1 : Num
  beta2 : Num
  eps : Num
  p1 : Num
  p2 : Num
  lr : Num
  k : Num
  nesterov : Bool

/-- The parameters of a group for the step it is about to make (R280). -/
def optPars (s : State) (v g : Nat) : OptPars :=
  let n := fun (f : Fld) => decodeNum 7 (s.get f)
  let lr := lrOf s v g (s.get (F.UPD_G_STEP_STEP v g) + 1)
  let b1 := n (F.UPD_G_BETA1_VALUE v g)
  let b2 := n (F.UPD_G_BETA2_VALUE v g)
  { c := decodeNum 7 (((groupD s v g).factor).getD 0x3f800000), beta1 := b1, beta2 := b2, eps := n (F.UPD_G_EPS_VALUE v g)
    p1 := uMul (n (F.UPD_G_P1_VALUE v g)) b1, p2 := uMul (n (F.UPD_G_P2_VALUE v g)) b2, lr := lr
    k := uMul lr (n (F.UPD_G_WD_VALUE v g)), nesterov := s.flag (F.UPD_G_CFG_NESTEROV v g) }

/-- Momentum SGD: new m, new w. -/
def sgd (o : OptPars) (g m w : Num) : Num × Num :=
  let m := uFma o.beta1 m g
  let d := if o.nesterov then uFma o.beta1 m g else m
  (m, uFma o.lr.negate d (uFma o.k.negate w w))

/-- The Adam step from a formed m and v: new w. -/
def adamStep (o : OptPars) (m v w : Num) : Num :=
  let u := uDiv (uDiv m (uSub uOne o.p1)) (uAdd (uSqrt (uDiv v (uSub uOne o.p2))) o.eps)
  uFma o.lr.negate u (uFma o.k.negate w w)

/-- First moment; second moment. -/
def adamM (o : OptPars) (g m : Num) : Num := uFma (uSub uOne o.beta1) (uSub g m) m
def adamV (o : OptPars) (g v : Num) : Num := uFma (uSub uOne o.beta2) (uSub (uMul g g) v) v

/-- One element: new high, low, m, v codes; unchanged where g is not finite (R284). -/
def updElem (o : OptPars) (opt : Nat) (vij : Option Num) (g hi lo m v : Nat) : Nat × Nat × Nat × Nat :=
  let gn := decodeNum 5 g
  if !gn.isFin then (hi, lo, m, v) else
  let gn := uMul gn o.c
  let w := decodeNum 7 (65536 * hi + lo)
  let mn := decodeNum 5 m
  let (m', v', w') := match opt with
    | 0 => let r := sgd o gn mn w; (r.1, decodeNum 5 v, r.2)
    | 1 => let a := adamM o gn mn; let b := adamV o gn (decodeNum 5 v); (a, b, adamStep o a b w)
    | _ => let a := adamM o gn mn; (a, decodeNum 5 v, adamStep o a (vij.getD (.zero false)) w)
  let c := code32 w'
  (c / 65536, c % 65536, code16 m', if opt = 1 then code16 v' else v)

/-- Elements left unchanged, counted in units of 256 (R284). [log 91 DEDUCED] -/
def countSkipped (v n : Nat) (s : State) : State :=
  let d := s.vault v
  (s.setVault v { d with skipRem := (d.skipRem + n) % 256 }).count (F.UPD_SKIP_CNT_ELEMS v) ((d.skipRem + n) / 256)

/-- 128 elements of a group from element 128·i: read, updated, written back (R277, R279). `vs`: v_ij of OPT 2. -/
def updUnit (v g i : Nat) (o : OptPars) (gs : List Nat) (vs : List Num) (s : State) : State :=
  let p := grpPart s v g
  let opt := grpOpt s v g
  let u := ueOf (grpE s v g) (i % (grpE s v g / 128))
  let hiU := s.get (F.UPD_G_HI_UNIT v g) + i
  let loU := s.get (F.UPD_G_LO_UNIT v g) + i
  let mU := s.get (F.UPD_G_M_UNIT v g) + 1 + i
  let vU := s.get (F.UPD_G_V_UNIT v g) + i
  let ((hi, b1), s) := unitCodes v hiU p u s
  let ((lo, b2), s) := unitCodes v loU p u s
  let ((m, b3), s) := momentCodes v mU p u s
  let ((vv, b4), s) := if opt = 1 then momentCodes v vU p u s else (([], false), s)
  if b1 || b2 || b3 || b4 then s else
  let r := (List.range 128).map (fun k =>
    updElem o opt vs[k]? (gs.getD k 0) (hi.getD k 0) (lo.getD k 0) (m.getD k 0) (vv.getD k 0))
  let s := storeCodes v hiU p u (r.map (·.1)) s
  let s := storeCodes v loU p u (r.map (·.2.1)) s
  let s := storeMoments v mU p u (bytes16 (r.map (·.2.2.1))) s
  let s := if opt = 1 then storeMoments v vU p u (bytes16 (r.map (·.2.2.2))) s else s
  let bad := (gs.filter (fun c => !(decodeNum 5 c).isFin)).length
  if bad = 0 then s else countSkipped v bad s

/-- One chunk of a group that updates as results arrive, or from GBUF. An EMPTY chunk is left unchanged. -/
def updChunk (v g j : Nat) (o : OptPars) (codes : Option (List Nat)) (s : State) : State :=
  let n := grpE s v g / 128
  s.forEach (List.range n) (fun k t =>
    let i := j * n + k
    match codes with
    | some l => updUnit v g i o (l.drop (128 * k)) [] t
    | none =>
      let r := unitCodes v (t.get (F.UPD_G_GBUF_UNIT v g) + i) (grpPart t v g) (ueOf (grpE t v g) k) t
      if r.1.2 then r.2 else updUnit v g i o r.1.1 [] r.2)

/-- The codes of n units from a unit on as `read` gives them, in order, and whether one of them may not be used.
[log 90 DEDUCED] -/
def codesFrom (read : Nat → State → (List Nat × Bool) × State) (unit n : Nat) (s : State) : (List Nat × Bool) × State :=
  (List.range n).foldl (fun (a : (List Nat × Bool) × State) i =>
    let r := read (unit + i) a.2
    ((a.1.1 ++ r.1.1, a.1.2 || r.1.2), r.2)) (([], false), s)

/-- Mean of squares: the pairwise sum divided by its count (R281, R99). -/
def meanOf (l : List Num) : Num := uDiv (pairTree 7 40 l) (uNat l.length)

/-- The factored update of a group (R281): row and column means, r and c, then the Adam line. -/
def updFactored (v g : Nat) (o : OptPars) (s : State) : State :=
  let p := grpPart s v g
  let cols := s.get (F.UPD_G_SHAPE_COLS v g)
  let ((gs, bad), s) := codesFrom (unitCodes v · p 0) (s.get (F.UPD_G_GBUF_UNIT v g)) (grpChunks s v g * (grpE s v g / 128)) s
  let n := gs.length
  let rows := cdiv n cols
  let sq := gs.map (fun c => let x := uMul (decodeNum 5 c) o.c; uMul x x)
  let base := s.get (F.UPD_G_V_UNIT v g)
  let units := cdiv (2 * (rows + cols)) 256
  let ((old, bad2), s) := codesFrom (momentCodes v · p 0) base units s
  if bad || bad2 then s else
  let b := uSub uOne o.beta2
  let up := fun (mean : Num) (i : Nat) => let x := decodeNum 5 (old.getD i 0); uFma b (uSub mean x) x
  let r := (List.range rows).map (fun i => up (meanOf ((sq.drop (i * cols)).take cols)) i)
  let c := (List.range cols).map (fun j =>
    up (meanOf ((sq.zipIdx.filter (fun e => e.2 % cols == j)).map (·.1))) (rows + j))
  let mr := meanOf r
  let news := (r ++ c).map code16
  let s := s.forEach (List.range units) (fun i t =>
    storeMoments v (base + i) p 0 (bytes16 ((news ++ old.drop news.length).drop (128 * i) |>.take 128)) t)
  let empty := fun (k : Nat) => (groupD s v g).got.any (fun x => x.1 == k && x.2.2)
  s.forEach (List.range (n / 128)) (fun i t =>
    if empty (128 * i / grpE t v g) && !clipped t v g then countSkipped v 128 t else
    let vs := (List.range 128).map (fun k =>
      let e := 128 * i + k
      uDiv (uMul (r.getD (e / cols) (.zero false)) (c.getD (e % cols) (.zero false))) mr)
    updUnit v g i o (gs.drop (128 * i)) vs t)

/-! ### GROUP_UPDATE (R280, R285, R286) -/

/-- STEP, P1 and P2 advance and go to the group record (R286), unless its unit is refused or reads poisoned, and stays so;
the group has finished its update. [log 90 DEDUCED, 165 DESIGN CHOICE] -/
def finishGroup (v g : Nat) (o : OptPars) (s : State) : State :=
  let p := grpPart s v g
  let s := s.wr (R.UPD_G_STEP v g) (s.rd (R.UPD_G_STEP v g) + 1)
  let s := s.wr (R.UPD_G_P1 v g) (BitVec.ofNat 32 (code32 o.p1))
  let s := s.wr (R.UPD_G_P2 v g) (BitVec.ofNat 32 (code32 o.p2))
  let unit := s.get (F.UPD_G_M_UNIT v g)
  let record := bytes32 [(s.rd (R.UPD_G_STEP v g)).toNat, (s.rd (R.UPD_G_P1 v g)).toNat, (s.rd (R.UPD_G_P2 v g)).toNat, 0]
  let r := momentBytes v unit p 0 s
  let s := if r.1.2 then r.2 else storeMoments v unit p 0 (record ++ r.1.1.drop 16) r.2
  closeGroup v g (groupD s v g).base s

/-- A group may act: in force, of a partition that is not quenched, no segment it writes still unsaved, no mover request
ahead of it at a unit it works on, no channel of its Vault recalibrating. -/
def grpActs (s : State) (v g : Nat) : Bool :=
  let p := grpPart s v g
  grpOn s v g && updating s v g && !moduleQuenched s && partState s p != 4 && !mustCopy s v g && !moverFirst s v g
    && !vaultBusy s v

/-- Chunks a group has received and not applied. -/
def readyChunks (d : GroupState) : List (Nat × List Nat × Bool) := d.got.filter (fun x => !d.done.contains x.1)

/-- GROUP_UPDATE: the chunks received, or all of them where the group updates from GBUF. [log 91 DEDUCED] -/
def groupUpdate (v g : Nat) (s : State) : State :=
  if !grpActs s v g then s else
  let d := groupD s v g
  let all := decide (grpChunks s v g ≤ d.got.length)
  let o := optPars s v g
  if grpOpt s v g = 3 then s
  else if usesGbuf s v g then
    if !all || (clipped s v g && d.factor.isNone) then s
    else if grpOpt s v g = 2 then finishGroup v g o (updFactored v g o s)
    else finishGroup v g o (s.forEach (List.range (grpChunks s v g)) (fun j t => updChunk v g j o none t))
  else
    let s := (readyChunks d).foldl (fun s x =>
      if x.2.2 then countSkipped v (grpE s v g) s else updChunk v g x.1 o (some x.2.1) s) s
    let s := setGroup v g { d with done := d.got.map (·.1) } s
    if all then finishGroup v g o s else s

/-! ### RESULT_DELIVERY and the norm (R277, R283) -/

/-- The group of a Vault that takes a result, and the chunk. -/
def takerOf (s : State) (v : Nat) (m : ResultMsg) : Option (Nat × Nat) :=
  (groupsOf s v m.part).findSome? (fun g =>
    (tagChunk (s.get (F.UPD_G_TAG_TAG_BASE v g)) (grpChunks s v g - 1) m.tag).map (fun j => (g, j)))

/-- The sum of some binary32 codes in order. -/
def sumCodes : List Nat → Option Nat
  | [] => none
  | x :: l => some (l.foldl add32 x)

/-- A group's sum of squares once every chunk has come; a Vault's; the module's (R283). -/
def grpSum (s : State) (v g : Nat) : Option Nat :=
  let d := groupD s v g
  if grpChunks s v g ≤ d.got.length then
    sumCodes ((List.range (grpChunks s v g)).map (fun j => ((d.sums.find? (fun e => e.1 == j)).map (·.2)).getD 0))
  else none
def clippedGroups (s : State) (v p : Nat) : List Nat := (groupsOf s v p).filter (clipped s v)
def normTotal (s : State) (p : Nat) : Option Nat :=
  let l := (List.range 12).filter (fun v => !(clippedGroups s v p).isEmpty)
  if l.any (fun v => (clippedGroups s v p).any (fun g => (grpSum s v g).isNone)) then none
  else sumCodes (l.filterMap (fun v => sumCodes ((clippedGroups s v p).filterMap (grpSum s v))))

/-- Vault 0 enters a scalar into the all-reduce of a tag, as the local input of the ERU whose entry holds it.
[log 91 DEDUCED] -/
def enterScalar (p tag x : Nat) (s : State) : State :=
  let hit := (List.range 64).findSome? (fun n => (findEntry s n tag).bind (fun y =>
    if entryOp s n y.1 = 2 then some (n, y.1, y.2) else none))
  match hit with
  | none => s
  | some (n, e, c) =>
    if entryPart s n e ≠ p then wrongPart n p tag s
    else if inputLate s n e c 1 then s.count (F.ERU_LATE_CNT_FLITS n) 1
    else
      let (ok, s) := windowWrite n p tag 0 s
      if ok then putInput n { entry := e, chunk := c, kind := 1, e := 64, body := bytes32 (List.replicate 64 x) } s else s

/-- Once every clipped group's results have come, the total of squares goes to stage 1. -/
def sendNorm (p : Nat) (s : State) : State :=
  if (s.vault 0).normSent.contains p then s else
  match normTotal s p with
  | none => s
  | some x =>
    let d := s.vault 0
    enterScalar p (s.get (F.UPD_NORM_CFG_TAG 0 p)) x (s.setVault 0 { d with normSent := setAdd p d.normSent })

/-- A scalar result: the next stage's input, or the total T after the last (R283). -/
def normResult (m : ResultMsg) (s : State) : State :=
  let base := s.get (F.UPD_NORM_CFG_TAG 0 m.part)
  let stages := s.get (F.UPD_NORM_CFG_STAGES 0 m.part)
  let x := m.codes.getD 0 0
  if m.tag < base ∨ base + stages ≤ m.tag then s
  else if m.tag + 1 < base + stages then enterScalar m.part (m.tag + 1) x s
  else
    let d := s.vault 0
    s.setVault 0 { d with normTotal := d.normTotal.filter (fun e => e.1 != m.part) ++ [(m.part, x)] }

/-- The byte ranges that UE u of a Vault updates for a group: the high and low halves of its run of each chunk. -/
def grpRanges (s : State) (v u g : Nat) : List (Nat × Nat) :=
  let n := grpE s v g
  (List.range (grpChunks s v g)).flatMap (fun j =>
    let k := 2 * (j * n + u * (n / 8))
    [(256 * s.get (F.UPD_G_HI_UNIT v g) + k, n / 4), (256 * s.get (F.UPD_G_LO_UNIT v g) + k, n / 4)])

/-- The master bytes of a group's finished step are kept while the digest of that step is not formed (R276). -/
def keepShot (s : State) (v g : Nat) (d : GroupState) : List (Fet × List (Nat × List Byte)) :=
  let formed := (s.part (grpPart s v g)).digestBase
  let l := d.shots.filter (fun x => decide (formed < x.1))
  if d.doneAt ≤ formed then l
  else l ++ [(d.doneAt, (List.range 8).flatMap (fun u => (grpRanges s v u g).map (fun r => (r.1, Mem.rdN (s.vault v).tierC r.1 r.2))))]

/-- A chunk's result taken by its group: UPDATING from the first, into GBUF where the group works from there. -/
def takeResult (v g j : Nat) (m : ResultMsg) (s : State) : State :=
  let was := groupD s v g
  let p := grpPart s v g
  let d := if updating s v g then was else { doneAt := was.doneAt, base := (s.part p).stepBase, shots := keepShot s v g was }
  let n := grpE s v g
  let codes := (List.range n).map (fun k => m.codes.getD k 0)
  if !usesGbuf s v g then setUpdating v g true { d with got := d.got ++ [(j, codes, m.empty)] } s
  else
    let s := s.forEach (List.range (n / 128)) (fun k t =>
      let i := j * (n / 128) + k
      storeCodes v (t.get (F.UPD_G_GBUF_UNIT v g) + i) m.part (ueOf n k) ((codes.drop (128 * k)).take 128) t)
    let sq := code32 (pairTree 7 40 (codes.map (fun c => let x := decodeNum 5 c; uMul x x)))
    let s := setUpdating v g true { d with got := d.got ++ [(j, [], m.empty)], sums := d.sums ++ [(j, sq)] } s
    if clipped s v g then sendNorm m.part s else s

/-- A result of a step whose update the group has finished or skipped already (R284). [log 90 DEDUCED, 91 DEDUCED] -/
def resultOver (s : State) (v g p : Nat) : Bool := !updating s v g && (groupD s v g).doneAt == (s.part p).stepBase && (s.part p).stepBase != 0

/-- A result waits: for a copy or a mover request ahead of its write to GBUF (R224, R231), or for the update of the step
before, which holds the same chunk still. -/
def resultHeld (s : State) (v : Nat) (m : ResultMsg) : Bool :=
  !moduleQuenched s && partState s m.part != 4 && !m.scalar && (takerOf s v m).any (fun x =>
    (usesGbuf s v x.1 && (mustCopy s v x.1 || moverFirst s v x.1))
      || (updating s v x.1 && (groupD s v x.1).got.any (fun y => y.1 == x.2)))

/-- The first result of a queue that does not wait, each partition's in its own order: a partition's virtual channel
does not hold another's (R36). -/
def firstFree (held : ResultMsg → Bool) : List ResultMsg → List Nat → Option ResultMsg
  | [], _ => none
  | m :: l, stopped => if stopped.contains m.part || held m then firstFree held l (m.part :: stopped) else some m

/-- RESULT_DELIVERY: the next result of a Vault's queues. A result of a partition quenched meanwhile is lost. -/
def resultDelivery (v : Nat) (s : State) : State :=
  let d := s.vault v
  match firstFree (resultHeld s v) d.inbox [] with
  | none => s
  | some m =>
    let t := s.setVault v { d with inbox := d.inbox.erase m }
    if moduleQuenched s || partState s m.part == 4 then t
    else if m.scalar then (if v = 0 then normResult m t else t)
    else match takerOf t v m with
      | none => t
      | some (g, j) => if resultOver t v g m.part then t else takeResult v g j m t

/-! ### CLIP_PHASE2 (R283, R284) -/

/-- Vaults that show a total of p: Vault 0 and those with a group of p (R289). -/
def totalVaults (s : State) (p : Nat) : List Nat := (List.range 12).filter (fun v => v == 0 || !(groupsOf s v p).isEmpty)

/-- The step that a total of p belongs to: that of the groups that wait for it. [log 91 DEDUCED] -/
def totalStep (s : State) (p : Nat) : Fet :=
  (((groupsAll s p).find? (fun x => updating s x.1 x.2 && clipped s x.1 x.2 && (groupD s x.1 x.2).factor.isNone)).map
    (fun x => (groupD s x.1 x.2).base)).getD (s.part p).stepBase

/-- The step is skipped for partition p: from here on no group of it changes anything in the step (R284).
[log 91 DEDUCED] -/
def skipStep (p : Nat) (s : State) : State :=
  let vs := totalVaults s p
  let base := totalStep s p
  let s := s.forEach vs (fun v t =>
    let l := groupsOf t v p
    let t := t.forEach (l.filter (fun g => !updating t v g || (groupD t v g).base == base)) (fun g t => closeGroup v g base t)
    (if l.isEmpty then t else t.count (F.UPD_SKIP_CNT_STEPS v) 1).set (F.UPD_STATUS_NONFINITE v) 1)
  noteAt 5 p 88 13 0 (markStepAt p base (fun k => { k with skipped := true }) s)

/-- The clip factor of a total: 1.0 unless the norm is above MAX. -/
def clipFactor (total max : Nat) : Nat :=
  let n := uSqrt (decodeNum 7 total)
  let m := decodeNum 7 max
  if m.lt n then code32 (uDiv m n) else 0x3f800000

/-- CLIP_PHASE2. [log 91 DEDUCED] -/
def clipPhase2 (p : Nat) (s : State) : State :=
  let d := s.vault 0
  match d.normTotal.find? (fun e => e.1 == p) with
  | none => s
  | some (_, t) =>
    let s := s.setVault 0 { d with normTotal := d.normTotal.filter (fun e => e.1 != p) }
    let s := s.forEach (List.range 12) (fun v u => u.wr (R.UPD_NORM_SQ v) (BitVec.ofNat 32 t))
    if !(decodeNum 7 t).isFin then skipStep p s
    else
      let c := clipFactor t (s.get (F.UPD_CLIP_MAX_MAX 0 p))
      let s := s.forEach (totalVaults s p) (fun v t => t.set (F.UPD_STATUS_NONFINITE v) 0)
      s.forEach (List.range 12) (fun v u =>
        let l := (clippedGroups u v p).filter (updating u v)
        let u := u.wr (R.UPD_CLIP v) (BitVec.ofNat 32 c)
        showPhases v (u.forEach l (fun g w => setGroup v g { groupD w v g with factor := some c } w)))

/-! ### State digest (R276) -/

/-- The master bytes that UE u updates for a group in a step, by address: as kept, or as they stand. -/
def ueBytes (s : State) (v u g : Nat) (base : Fet) : List (Nat × List Byte) :=
  let rs := grpRanges s v u g
  match (groupD s v g).shots.find? (fun x => x.1 == base) with
  | some (_, l) => l.filter (fun x => rs.any (fun r => r.1 == x.1))
  | none => rs.map (fun r => (r.1, Mem.rdN (s.vault v).tierC r.1 r.2))

/-- A range put in its place by address. -/
def insRange (r : Nat × List Byte) : List (Nat × List Byte) → List (Nat × List Byte)
  | [] => [r]
  | x :: l => if r.1 ≤ x.1 then r :: x :: l else x :: insRange r l

/-- The CRC-64 of one UE. [log 90 DEDUCED] -/
def ueCrc (s : State) (v p u : Nat) (base : Fet) : BitVec 64 :=
  let rs := ((groupsOf s v p).flatMap (fun g => ueBytes s v u g base)).foldl (fun l r => insRange r l) []
  crc64 ((rs.map (·.2)).flatten)

/-- The state digest of a partition for a step base. [log 90 DEDUCED] -/
def stateDigestOf (s : State) (p : Nat) (base : Fet) : List Byte :=
  let crcs := ((List.range 12).map (fun v => (List.range 8).map (fun u => ueCrc s v p u base))).flatten
  sha256 ((crcs.map (fun c => leBytes c.toNat 8)).flatten ++ leBytes base 8)

/-- The step base of the oldest step of p whose digest is due: every group has finished or skipped its update, and none was
formed of it or of a later one (R276). -/
def digestStep (s : State) (p : Nat) : Option Fet :=
  if (groupsAll s p).isEmpty then none
  else ((s.part p).steps.find? (fun k => decide ((s.part p).digestBase < k.base) && stepUpdated s p k)).map (·.base)

/-- A digest of the same step base differs from this module's (R276): class 3, both coordinates in the record. -/
def digestCompare (p : Nat) (coord : Nat) (base : Fet) (l : List Byte) (s : State) : State :=
  let d := s.part p
  let s := s.setPart p { d with digestGot := base }
  if l = d.stateDigest then s
  else raiseFault { code := 0x040e, part := p, collector := 88, unitType := 13, access := 4, injected := d.digestInj
                    detail := leNats (ownCoord s) 3 ++ leNats coord 3 ++ [0, 0] ++ leNats base 6 } s

/-- The words of a digest in UPD_DIGEST (Vault 0). -/
def showDigest (l : List Byte) (s : State) : State :=
  s.forEach (List.range 8) (fun k t => t.wr (R.UPD_DIGEST 0 k) (BitVec.ofNat 32 (leAt l (4 * k) 4)))

/-- A state digest formed while FLT_INJECT TARGET 3 waits for its partition (R489). -/
def digestInjected (s : State) (p : Nat) : Bool := injectArmed s 3 && s.get F.FLT_INJECT_PART == p

/-- Bit 0 of a digest inverted. -/
def flipFirst (l : List Byte) : List Byte := (l.take 1).map (· ^^^ 1) ++ l.drop 1

/-- No peer's digest of the last step base digested has come. -/
def digestMissing (s : State) (p : Nat) : Bool :=
  s.flag (F.UPD_DIGEST_CFG_EN 0 p) && (s.part p).digestBase != 0 && (s.part p).digestGot != (s.part p).digestBase

/-- STATE_DIGEST: formed, shown, sent, and compared with the digests that came first. A peer's digest of the step before
has had its step (R276). [log 137 DEDUCED] -/
def stateDigest (p : Nat) (s : State) : State :=
  let d := s.part p
  match digestStep s p with
  | none => s
  | some base =>
  if p = 0 then s else
  let inj := digestInjected s p
  let l := if inj then flipFirst (stateDigestOf s p base) else stateDigestOf s p base
  let s := if inj then s.set F.FLT_INJECT_ARM 0 else s
  let held := d.peerDigest.filter (fun e => e.1 == base)
  let s := if digestMissing s p then noteAt 5 p 88 13 0 s else s
  let s := markStepAt p base (fun k => { k with digest := l }) s
  let d := s.part p
  let s := showDigest l (s.setPart p { d with stateDigest := l, digestInj := inj, digestBase := base, digestAt := s.fet, peerDigest := d.peerDigest.filter (fun e => decide (base < e.1)) })
  let s := if s.flag (F.UPD_DIGEST_CFG_EN 0 p) then
      let n := s.get (F.UPD_DIGEST_CFG_PORT 0 p)
      let body := [2, BitVec.ofNat 8 p] ++ List.replicate 2 0 ++ leBytes (cfgEpoch s p) 2 ++ List.replicate 2 0 ++ leBytes base 8 ++ l
      enqueue n (mkFrame s 6 p 0 (8 * coordAlong s n 1 + 4) 4 (body ++ List.replicate (128 - body.length) 0)) s
    else s
  held.foldl (fun s e => digestCompare p e.2.1 base e.2.2 s) s

/-- STATE_DIGEST_RECEIVE: compared at once, or held for up to one step. -/
def stateDigestReceive (n : Nat) (fr : Frame) (s : State) : State :=
  receiveFrame n fr (fun fr => fr.cls == 6 && leAt fr.payload 0 1 == 2) (fun s =>
    let p := fr.part
    let d := s.part p
    let base := leAt fr.payload 8 8
    let l := (fr.payload.drop 16).take 32
    if d.digestBase = base ∧ base ≠ 0 then digestCompare p (fr.src / 8) base l s
    else if base ≤ d.digestBase then s
    else s.setPart p { d with peerDigest := d.peerDigest ++ [(base, fr.src / 8, l)] }) s

/-- DIGEST_TIMEOUT (R276): one step has passed since a digest was formed, and no peer's has come; noted once.
[log 137 DEDUCED] -/
def digestTimeout (p : Nat) (s : State) : State :=
  let d := s.part p
  if digestMissing s p && decide (d.digestBase < d.stepBase) && decide (d.digestAt + (d.stepBase - d.digestBase) ≤ s.fet) then
    noteAt 5 p 88 13 0 (s.setPart p { d with digestGot := d.digestBase })
  else s

/-! ### Registers (R281, R286, R289) -/

/-- A group made valid loads STEP, P1 and P2 from its record if the record's first word is not zero (R286).
[log 90 DEDUCED] -/
def loadRecord (v g : Nat) (s : State) : State :=
  let p := grpPart s v g
  let unit := s.get (F.UPD_G_M_UNIT v g)
  let r := momentBytes v unit p 0 s
  let w := fun (k : Nat) => (BitVec.ofNat 32 (leAt r.1.1 (4 * k) 4) : Word)
  if r.1.2 || w 0 == 0 then r.2
  else ((r.2.wr (R.UPD_G_STEP v g) (w 0)).wr (R.UPD_G_P1 v g) (w 1)).wr (R.UPD_G_P2 v g) (w 2)

/-- A write of UPD_G_CFG: discarded with a note while the partition has a plan started; VALID stays 0, with a note, for
an OPT 2 group without columns. `w` holds the writable bits. -/
def updGCfgSet (v g : Nat) (w : Word) (s : State) : State :=
  if planStarted s (grpPart s v g) || planStarted s (Word.field w 30 28) then noteAt 5 0 (88 + v) 13 0 s
  else
    let was := grpOn s v g
    let s := s.wr (R.UPD_G_CFG v g) w
    if grpOn s v g && grpOpt s v g == 2 && s.get (F.UPD_G_SHAPE_COLS v g) == 0 then
      noteAt 5 0 (88 + v) 13 0 (s.set (F.UPD_G_CFG_VALID v g) 0)
    else if grpOn s v g && !was then loadRecord v g s
    else s

/-- UPD_CTRL.CNT_CLEAR. -/
def updCntClear (v : Nat) (s : State) : State :=
  ((s.wr (R.UPD_HOLD_CNT v) 0).wr (R.UPD_SKIP_CNT v) 0).set (F.VLT_COW_STATUS_UE_WAITS v) 0

/-! ### The commands -/

def execResultDelivery (v : Fin 12) (s : State) : Host.Outcome State Fault Refusal := .next (resultDelivery v s)

def execGroupUpdate (v : Fin 12) (g : Fin 16) (s : State) : Host.Outcome State Fault Refusal := .next (groupUpdate v g s)

def execClipPhase2 (p : Fin 8) (s : State) : Host.Outcome State Fault Refusal := .next (clipPhase2 p s)

def execStateDigest (p : Fin 8) (s : State) : Host.Outcome State Fault Refusal := .next (stateDigest p s)

def execStateDigestReceive (n : Fin 64) (fr : Frame) (s : State) : Host.Outcome State Fault Refusal :=
  .next (stateDigestReceive n fr s)

def execDigestTimeout (p : Fin 8) (s : State) : Host.Outcome State Fault Refusal := .next (digestTimeout p s)

end Sys2Proof.Machine
end

