-- ==== Sys2Proof/Machine/Link.lean ====
section
/-!
DEFINITION. Machine/Link.lean: the commands of a Synael Link port: blocks and transmit order, retry, delivery and
forwarding, Firefly and digest frames, port states, training, margins, rate changes and retrains (09_synael_link R292-R324,
10_parallel_mapping R327).
-/
namespace Sys2Proof.Machine

/-! ### Blocks (R292, R308) -/

/-- When the next scheduled frame of a port is due, within two slots; one handed over again for a resend is due in its slot.
[log 95 DEDUCED] -/
def nextDue (s : State) (n : Nat) : Option Nat :=
  let due := dueSlots s n ++ (s.port n).sched.map (·.slot)
  let at_ := fun (k : Nat) => 768 * k + blockUnits s n * schedBlock s n
  ((List.range' (s.fet / 256) 3).filter (fun k => due.contains k && decide (blockStart s n < at_ k))).head?.map at_

/-- The slot guard (R307): the frame ends before the next scheduled frame of the port begins, and before the slot in which the
ends change rate (R323). [log 95 DEDUCED] -/
def guardOk (s : State) (n : Nat) (fr : Frame) : Bool :=
  let last := blockStart s n + blockUnits s n * cdiv (frameBytes fr) 800
  (nextDue s n).all (fun d => decide (last ≤ d)) && (s.port n).rateSlot.all (fun k => decide (last ≤ 768 * k))

/-- Credit units of 128 B a frame takes, and the pool it takes them from. -/
def creditUnits (fr : Frame) : Nat := frameLen fr + 1
def creditPool (fr : Frame) : Nat := fr.part + (if fr.dl then 8 else 0)

/-- The virtual channel holds credit for the whole frame: pools of 256 KiB (R306, R307). -/
def creditOk (d : PortState) (fr : Frame) : Bool :=
  let k := creditPool fr
  let out := (AMap.get (fun _ => 0) d.used k + 4096 - AMap.get (fun _ => 0) d.returned k % 4096) % 4096
  !credited fr || decide (out + creditUnits fr ≤ 2048)

/-- Room in the replay buffer: 64 frames and 2 MiB (R305). -/
def replayRoom (d : PortState) (fr : Frame) : Bool :=
  !sequenced fr || (decide (d.unacked.length < 64) && decide ((d.unacked.map (fun e => frameBytes e.2)).sum + frameBytes fr ≤ 2097152))

/-- A quench lets the frame through (R310). -/
def quenchCarries (s : State) (fr : Frame) : Bool :=
  if moduleQuenched s then fr.cls == 3 || fr.cls == 4 || fr.cls == 5 || fr.cls == 6 || (fr.cls == 2 && fr.part == 0)
  else !((fr.cls == 0 || fr.cls == 7) && fr.part != 0 && partState s fr.part == 4)

/-- A waiting frame may begin in this block. -/
def mayBegin (s : State) (n : Nat) (fr : Frame) : Bool :=
  let d := s.port n
  stateCarries s n fr && quenchCarries s fr && guardOk s n fr && creditOk d fr && replayRoom d fr

/-! ### Virtual-channel arbitration (R309) -/

/-- A STRICT channel has no capacity beyond its share: a frame begins once the share of the unscheduled blocks since the
channel waits has paid for it (R357). -/
def isStrict (s : State) (p : Nat) : Bool := s.flag (F.PRT_CFG_STRICT p)
/-- What the blocks of a frame cost, in 1/256 bytes. -/
def strictCost (fr : Frame) : Nat := 256 * 800 * cdiv (frameBytes fr) 800
/-- [log 95 DEDUCED] -/
def strictOk (s : State) (n : Nat) (fr : Frame) : Bool :=
  !isStrict s fr.part || decide (strictCost fr ≤ AMap.get (fun _ => 0) (s.port n).strictPaid fr.part)

/-- A STRICT channel pays for a frame it begins. [log 95 DEDUCED] -/
def strictPay (s : State) (fr : Frame) (d : PortState) : PortState :=
  if isStrict s fr.part then
    { d with strictPaid := AMap.put (fun _ => 0) d.strictPaid fr.part (AMap.get (fun _ => 0) d.strictPaid fr.part - strictCost fr) }
  else d

/-- A block without a scheduled frame pays every STRICT channel that waits its share; one that does not wait keeps nothing
(R309, R357). [log 95 DEDUCED] -/
def strictEarn (n : Nat) (s : State) : State :=
  let d := s.port n
  let waits := fun (p : Nat) => isStrict s p && d.q.any (fun fr => fr.part == p && (fr.cls == 2 || credited fr))
  let taken := decide (blockStart s n < d.txFree) && d.txSched
  if !(List.range 8).any (isStrict s) || taken then s else
  s.setPort n { d with strictPaid := (List.range 8).foldl (fun m p =>
    AMap.put (fun _ => 0) m p (if waits p then AMap.get (fun _ => 0) m p + 800 * vcShare s n p else 0)) d.strictPaid }

/-- The frame at the head of each virtual channel, of control class or of the rest. -/
def vcHeads (s : State) (n : Nat) (ctl : Bool) : List (Nat × Frame) :=
  (List.range 8).filterMap (fun p =>
    ((s.port n).q.find? (fun fr => fr.part == p && (if ctl then fr.cls == 2 else credited fr))).bind (fun fr =>
      if vcShare s n p != 0 && mayBegin s n fr && strictOk s n fr then some (p, fr) else none))

/-- Visits a channel needs before its deficit covers its frame; its place in the order from the turn. [log 95 DEDUCED] -/
def vcVisits (d : PortState) (quantum : Nat) (p bytes : Nat) : Nat := cdiv (bytes - AMap.get (fun _ => 0) d.deficit p) quantum
def vcPlace (turn p : Nat) : Nat := (p + 8 - turn) % 8

/-- When a channel's frame is served: rounds, then place. The channel whose turn it is has earned its share already, and what a
STRICT one may begin is paid for. -/
def vcTime (s : State) (n turn : Nat) (e : Nat × Frame) : Nat :=
  let j := vcPlace turn e.1
  let k := if isStrict s e.1 then 0 else vcVisits (s.port n) (128 * vcShare s n e.1) e.1 (frameBytes e.2)
  8 * (if j = 0 then k else max k 1 - 1) + j

/-- Deficit round robin: the winner, and the deficits and the turn after it. [log 95 DEDUCED] -/
def vcPick (s : State) (n : Nat) (ctl : Bool) : Option (Frame × PortState) :=
  let d := s.port n
  let turn := if ctl then d.rrCtl else d.rrData
  let heads := vcHeads s n ctl
  (heads.foldl (fun (b : Option (Nat × Frame)) e => match b with
    | none => some e
    | some x => if vcTime s n turn e < vcTime s n turn x then some e else some x) none).map (fun w =>
    let t := vcTime s n turn w
    let earn := fun (p : Nat) =>
      let j := vcPlace turn p
      let visits := if j = 0 then t / 8 else if j ≤ t % 8 then t / 8 + 1 else t / 8
      128 * vcShare s n p * visits
    let waits := fun (p : Nat) => d.q.any (fun fr => fr.part == p)
    let def' := (List.range 8).foldl (fun (m : AMap Nat) p =>
      let v := if !waits p then 0
        else if heads.any (fun e => e.1 == p) then AMap.get (fun _ => 0) d.deficit p + earn p
        else AMap.get (fun _ => 0) d.deficit p
      AMap.put (fun _ => 0) m p (if p = w.1 then v - frameBytes w.2 else v)) d.deficit
    (w.2, { d with deficit := def', rrCtl := if ctl then w.1 else d.rrCtl, rrData := if ctl then d.rrData else w.1 }))

/-! ### A frame begins (R298, R300, R307) -/

/-- The first of the waiting frames equal to one is taken out. -/
def takeOut (fr : Frame) (d : PortState) : PortState := { d with q := d.q.erase fr }

/-- The FET at which the block under way begins to cross the transmit pin (R292). -/
def txFet (s : State) (n : Nat) : Nat := blockStart s n / 3

/-- A Cicada frame and a Firefly take their TX_FET as they leave (Tables 02.4, 09.6). [log 61 DESIGN CHOICE] -/
def stampTx (s : State) (n : Nat) (fr : Frame) : Frame :=
  match fr.cls with
  | 3 => { fr with payload := leBytes (txFet s n) 8 ++ fr.payload.drop 8 }
  | 4 => { fr with payload := fr.payload.take 8 ++ leBytes (txFet s n) 8 ++ fr.payload.drop 16 }
  | _ => fr

/-- A frame as it leaves: authenticated under its partition's link key and counted where SNL_AUTH says so; its CRC-32 (R296,
R298). [log 141 DESIGN CHOICE] -/
def sealFrame (n : Nat) (fr : Frame) (s : State) : Frame × State :=
  let d := s.port n
  let auth := fr.part != 0 && bitOf (s.get (F.SNL_AUTH_EN n)) (fr.part - 1) == 1
  let k := AMap.get (fun _ => 0) d.authTx fr.part
  if auth then
    let fr := { stampTx s n fr with auth := true, counter := k }
    let mac := (Config.gmac ((s.part fr.part).keyL.getD []) (headerBytes fr ++ frameBody fr)).take 12
    (withCrc { fr with mac := mac }, s.setPort n { d with authTx := AMap.put (fun _ => 0) d.authTx fr.part (k + 1) })
  else (withCrc { stampTx s n fr with auth := false, counter := 0, mac := [] }, s)

/-- An armed injection inverts the CRC of the next sequenced frame or the tag of the next authenticated one (SNL_INJECT). -/
def injectFrame (n : Nat) (fr : Frame) (s : State) : Frame × State :=
  let k := s.get (F.SNL_INJECT_KIND n)
  let arm := s.flag (F.SNL_INJECT_ARM n)
  if arm && k == 2 && sequenced fr then ({ fr with crc := fr.crc ^^^ (2 ^ 32 - 1) }, s.set (F.SNL_INJECT_ARM n) 0)
  else if arm && k == 3 && fr.auth then
    (withCrc { fr with mac := fr.mac.map (~~~ ·), authOk := false }, s.set (F.SNL_INJECT_ARM n) 0)
  else (fr, s)

/-- A frame's first byte crosses the pin in this block: the transmitter is held to its last block; a Cicada frame's TX_FET is
kept for the partner's answer (R67, R307). [log 61 DESIGN CHOICE] -/
def startFrame (n : Nat) (fr : Frame) (s : State) : State :=
  let d := s.port n
  let s := s.setPort n { d with
    txFree := blockStart s n + blockUnits s n * cdiv (frameBytes fr) 800, txFrame := frameWire fr, txAt := blockStart s n
    txSof := if sequenced fr then fr.seq else 0, txSched := scheduled fr }
  let c := s.cic n
  let s := if fr.cls = 3 then s.setCic n { c with tx := ((leAt fr.payload 16 2, stampPs (1000 * blockStart s n / 3)) :: c.tx).take 8 } else s
  s.emit (.snl n fr)

/-- A frame begins in this block. -/
def beginFrame (n : Nat) (fr : Frame) (s : State) : State :=
  let (fr, s) := sealFrame n fr s
  let (fr, s) := injectFrame n fr s
  startFrame n fr s

/-- A frame that failed its checks goes on with its CRC complemented (R312); it takes no sequence number and is not kept.
[log 92 DESIGN CHOICE] -/
def beginSpoilt (n : Nat) (fr : Frame) (s : State) : State :=
  let (fr, s) := sealFrame n { fr with seq := (s.port n).txSeq } s
  startFrame n { fr with crc := fr.crc ^^^ (2 ^ 32 - 1) } s

/-- A new frame of a sequenced class takes the next sequence number and is kept for replay; a credited one takes its
credit. -/
def sendNew (n : Nat) (fr : Frame) (s : State) : State :=
  let d := takeOut fr (s.port n)
  let fr' := if sequenced fr then { fr with seq := d.txSeq } else fr
  let k := creditPool fr
  let d := if sequenced fr then { d with txSeq := (d.txSeq + 1) % 4096, unacked := d.unacked ++ [(d.txSeq, fr')] } else d
  let d := if credited fr then
      { d with used := AMap.put (fun _ => 0) d.used k ((AMap.get (fun _ => 0) d.used k + creditUnits fr) % 4096) }
    else d
  let d := if credited fr || fr.cls == 2 then strictPay s fr d else d
  beginFrame n fr' (s.setPort n d)

/-! ### The order of R307 -/

/-- Frames of a quenched partition leave a replay; the frames from its head on, none of which the partner has accepted, close
up in their sequence numbers (R305, R310). [log 94 DEDUCED] -/
def closeReplay (n : Nat) (s : State) : State :=
  let d := s.port n
  match d.replaying with
  | [] => s
  | (q, _) :: _ =>
    let tail := d.unacked.dropWhile (fun e => e.1 != q)
    let kept := tail.filter (fun e => !quenchGone s e.2)
    if kept.length = tail.length then s else
    let l := kept.zipIdx.map (fun e => ((q + e.2) % 4096, { e.1.2 with seq := (q + e.2) % 4096 }))
    (s.setPort n { d with
      unacked := d.unacked.takeWhile (fun e => e.1 != q) ++ l, replaying := l, txSeq := (q + l.length) % 4096 }).count
        (F.SNL_DROP_CNT1_DARK n) (tail.length - kept.length)

/-- Items 3 to 7 of R307: no replay can begin. -/
def sendFresh (n : Nat) (s : State) : State :=
  let one := fun (c : Nat) => (s.port n).q.find? (fun fr => fr.cls == c && mayBegin s n fr)
  match (one 3).orElse (fun _ => one 4) with
  | some fr => sendNew n fr s
  | none => match vcPick s n true with
    | some (fr, d) => sendNew n fr (s.setPort n d)
    | none => match one 6 with
      | some fr => sendNew n fr s
      | none => match vcPick s n false with
        | some (fr, d) => sendNew n fr (s.setPort n d)
        | none => s

/-- Items 2 to 7 of R307. -/
def sendUnscheduled (n : Nat) (s : State) : State :=
  let s := closeReplay n s
  let d := s.port n
  match d.replaying with
  | (_, fr) :: rest =>
    if stateCarries s n fr && quenchCarries s fr && guardOk s n fr then beginFrame n fr (s.setPort n { d with replaying := rest })
    else sendFresh n s
  | [] => sendFresh n s

/-- The frame that begins in the block under way, where one may: a scheduled frame in its own block or not at all.
[log 95 DEDUCED] -/
def chooseFrame (n : Nat) (s : State) : State :=
  let d := s.port n
  let slot := s.fet / 256
  let due := if blockNow s n = schedBlock s n then d.sched.find? (fun x => x.slot == slot && quenchCarries s x.fr) else none
  let past := fun (x : SchedFrame) => decide (x.slot < slot) || (x.slot == slot && decide (schedBlock s n ≤ blockNow s n))
  let s := s.setPort n { d with sched := d.sched.filter (fun x => !past x) }
  if blockStart s n < d.txFree then s else
  match due with
  | some x => beginFrame n x.fr s
  | none => sendUnscheduled n s

/-! ### BLOCK_TRANSMIT (R292-R295) -/

/-- PRBS31: one bit; bytes from a register, most significant bit first. [log 142 PRESUMED] -/
def prbsBit (x : Nat) : Nat := (2 * x + (bitOf x 30 + bitOf x 27) % 2) % 2 ^ 31
/-- [log 142 PRESUMED] -/
def prbsBytes : Nat → Nat → List Byte × Nat
  | 0, x => ([], x)
  | k + 1, x =>
    let y := (List.range 8).foldl (fun x _ => prbsBit x) x
    let r := prbsBytes k y
    (BitVec.ofNat 8 (y % 256) :: r.1, r.2)

/-- The frame area of the block under way (R292, R295, R319): the pattern in training, a frame's bytes, zeros.
[log 140 DEDUCED] -/
def frameArea (n : Nat) (s : State) : List Byte × State :=
  let d := s.port n
  let st := s.get (F.SNL_STATUS_STATE n)
  if st = 3 ∨ st = 4 then
    let r := prbsBytes 800 (d.prbs.getD (Config.prbsStart n % 2 ^ 31))
    (r.1, s.setPort n { d with prbs := some r.2 })
  else if blockStart s n < d.txFree then
    let l := (d.txFrame.drop (800 * ((blockStart s n - d.txAt) / blockUnits s n))).take 800
    (l ++ List.replicate (800 - l.length) 0, s)
  else (List.replicate 800 0, s)

/-- LINKMSG word k of the negotiation (R321): the item in [63:56]; this end's version mask, or its coordinate and port.
[log 144 DESIGN CHOICE] -/
def negotiationWord (s : State) (n k : Nat) : Nat :=
  k * 2 ^ 56 + (match k with
    | 0 => s.get (F.SNL_CAP0_SNL_MASK n)
    | 1 => s.get (F.SNL_CAP0_VER_MASK n)
    | 2 => s.get (F.SNL_CAP1_SCP_MASK n)
    | 3 => s.get (F.SNL_CAP1_FWI_MASK n)
    | 4 => s.get (F.SNL_CAP2_PLAN_MASK n)
    | _ => ownCoord s + n * 2 ^ 20)

/-- BTYPE and LINKMSG of the next block (R294, R321), and what then still waits. [log 144 DESIGN CHOICE] -/
def nextMsg (s : State) (n : Nat) : (Nat × Nat) × PortState :=
  let d := s.port n
  match s.get (F.SNL_STATUS_STATE n) with
  | 2 | 3 | 4 | 8 => ((5, 0), d)
  | 5 => ((1, negotiationWord s n d.negWord), { d with negWord := (d.negWord + 1) % 6 })
  | _ => match d.msgs with
    | [] => ((0, 0), d)
    | m :: l => (m, { d with msgs := l })

/-- The link control word of the block under way (Table 09.2); CR_SEL steps on. [log 140 DEDUCED] -/
def takeLcw (n : Nat) (s : State) : List Byte × State :=
  let (m, d) := nextMsg s n
  let sof := decide (blockStart s n < d.txFree) && d.txAt == blockStart s n
  let w := m.1 * 2 ^ 124 + (if sof then 2 ^ 123 + d.txSof * 2 ^ 105 else 0) + d.rxAck * 2 ^ 93 + (if d.nak then 2 ^ 92 else 0)
    + d.crSel * 2 ^ 88 + AMap.get (fun _ => 0) d.freed d.crSel * 2 ^ 76 + m.2
  (leBytes w 16, s.setPort n { d with crSel := (d.crSel + 1) % 16 })

/-- An armed injection inverts one parity byte of codeword 0, or eleven (SNL_INJECT). [log 140 DEDUCED] -/
def injectBlock (n : Nat) (l : List Byte) (s : State) : List Byte × State :=
  let k := s.get (F.SNL_INJECT_KIND n)
  if s.flag (F.SNL_INJECT_ARM n) && decide (k ≤ 1) then
    let hit := fun (b : Nat) => decide (816 ≤ b) && b % 4 == 0 && decide (b < 816 + 4 * (if k = 0 then 1 else 11))
    (l.zipIdx.map (fun e => if hit e.2 then ~~~ e.1 else e.1), s.set (F.SNL_INJECT_ARM n) 0)
  else (l, s)

/-- A block striped over the lanes: byte b on lane b mod 16 (R292). -/
def stripe (l : List Byte) : List (List Byte) :=
  (List.range 16).map (fun k => (l.zipIdx.filter (fun e => e.2 % 16 == k)).map (·.1))

/-- The block under way leaves: frame area, link control word, parity (R292). -/
def sendBlock (n : Nat) (s : State) : State :=
  let (area, s) := frameArea n s
  let (lcw, s) := takeLcw n s
  let (l, s) := injectBlock n (fecBlock (area ++ lcw)) s
  (s.setPort n { s.port n with nextBlock := blockStart s n + blockUnits s n }).emit (.block n (stripe l))

/-- BLOCK_TRANSMIT: the block under way, once, by a port that is not OFF, DARK or FAILED (R314).
[log 144 DESIGN CHOICE] -/
def blockTransmit (n : Nat) (s : State) : State :=
  let st := s.get (F.SNL_STATUS_STATE n)
  if st < 2 ∨ 8 < st ∨ blockStart s n < (s.port n).nextBlock then s
  else sendBlock n (if st = 6 ∨ st = 7 then strictEarn n (chooseFrame n s) else s)

/-! ### Retry and link control words (R293, R294, R305, R306) -/

/-- The event of a port that no frame names. -/
def portEvent (code n : Nat) : FaultEvent :=
  { code := code, collector := 100 + n / 8, unitType := 15, inst := n, access := 4 }

/-- On NAK every unacknowledged frame is replayed; one that has failed 8 times takes the port to DETECT.
[log 94 DEDUCED] -/
def replayFrom (n : Nat) (s : State) : State :=
  let d := s.port n
  match d.unacked with
  | [] => s
  | (q, fr) :: _ =>
    let run := if d.failRun ≠ 0 ∧ d.failSeq = q then d.failRun + 1 else 1
    let s := s.setPort n { d with replaying := d.unacked, failSeq := q, failRun := run }
    let s := s.count (F.SNL_RETRY_CNT_REPLAYS n) 1
    let s := raiseFault { portEvent 0x0401 n with part := fr.part, addr := fr.tag + 2 ^ 32 * (fr.src / 8) } s
    if 8 ≤ run ∧ s.get (F.SNL_STATUS_STATE n) = 7 then
      let s := leaveLive n 2 s
      s.setPort n { s.port n with detectSince := s.fet }
    else s

/-- First slot that begins at least `ns` from now. [log 96 DEDUCED] -/
def slotAfter (s : State) (ns : Nat) : Nat := (s.fet + ns + 255) / 256

/-- The slot of a rate change: the first multiple of 64 at least 4 µs ahead (R323). [log 96 DEDUCED] -/
def rateSlotOf (s : State) : Nat := (slotAfter s 4000 + 63) / 64 * 64

/-- A link message waits for its block: BTYPE, and a slot number in LINKMSG (R294). -/
def pushMsg (n btype slot : Nat) (s : State) : State :=
  s.setPort n { s.port n with msgs := (s.port n).msgs ++ [(btype, slot % 2 ^ 56)] }

/-- The ends agree to change rate. -/
def scheduleRate (n slot : Nat) (s : State) : State := s.setPort n { s.port n with rateSlot := some slot }

/-- The port proposes a rate change by LINKMSG. -/
def proposeRate (n : Nat) (s : State) : State :=
  if (s.port n).rateSlot.isSome then s
  else pushMsg n 2 (rateSlotOf s) (scheduleRate n (rateSlotOf s) s)

/-- 800 slots from `w` in which this end has no scheduled frame due (R324). -/
def idleFrom (due : List Nat) (w : Nat) : Bool := due.all (fun k => decide (k < w) || decide (w + 800 ≤ k))

/-- This end's first idle window from a slot on. -/
def ownIdle (s : State) (n w : Nat) : Nat :=
  let due := dueSlots s n
  ((due.map (· + 1)).filter (fun k => decide (w ≤ k) && idleFrom due k)).foldl min
    (if idleFrom due w then w else (due.foldl max w) + 1)

/-- A window is agreed: its FET stands in SNL_RETRAIN. [log 96 DEDUCED] -/
def agreeWindow (n slot : Nat) (s : State) : State :=
  let s := wrPair s (R.SNL_RETRAIN_LO n) (R.SNL_RETRAIN_HI n) (256 * slot)
  s.setPort n { s.port n with searchSince := none }

/-- A retrain is requested: this end proposes its first idle window (R324). [log 96 DEDUCED] -/
def requestRetrain (n : Nat) (s : State) : State :=
  if s.get (F.SNL_STATUS_STATE n) ≠ 7 ∨ s.flag (F.SNL_STATUS_RETRAIN_PEND n) then s else
  let w := ownIdle s n (s.fet / 256 + 1)
  let s := s.set (F.SNL_STATUS_RETRAIN_PEND n) 1
  pushMsg n 3 w (s.setPort n { s.port n with searchSince := some s.fet, proposed := w })

/-- Low margin or a stale record (R322, R323): the port moves to reduced rate and a retrain is requested.
[log 132 DEDUCED] -/
def giveMargin (n : Nat) (s : State) : State :=
  requestRetrain n (if s.flag (F.SNL_STATUS_REDUCED n) then s else proposeRate n s)

/-- A draw, in 10 W units, exceeds the load of a port's record plus 25 points of 17.5 kW (R322). [log 132 DEDUCED] -/
def exceedsRecord (s : State) (n draw : Nat) : Bool := decide ((s.get (F.SNL_CAL_LOAD_PCT n) + 25) * 1750 < draw * 100)

/-- A proposal or an acceptance comes from the partner (R324). -/
def retrainMsg (n : Nat) (accept : Bool) (slot : Nat) (s : State) : State :=
  if s.get (F.SNL_STATUS_STATE n) ≠ 7 then s
  else if accept then
    if s.flag (F.SNL_STATUS_RETRAIN_PEND n) && (s.port n).searchSince.isSome && (s.port n).proposed == slot then agreeWindow n slot s else s
  else
    let d := s.port n
    let s := s.set (F.SNL_STATUS_RETRAIN_PEND n) 1
    if idleFrom (dueSlots s n) slot && decide (s.fet / 256 < slot) then pushMsg n 4 slot (agreeWindow n slot s)
    else
      let w := ownIdle s n (max slot (s.fet / 256 + 1))
      pushMsg n 3 w (s.setPort n { d with searchSince := some (d.searchSince.getD s.fet), proposed := w })

/-- Byte errors in codeword i of a received block (R293). -/
def fecErrors (w : Lcw) (i : Nat) : Nat := (w.errs.eraseDups.filter (fun b => b.val % 4 == i)).length

/-- Codewords with errors that SFEC-L corrects, up to 10 bytes each; one beyond that loses the block (R293). -/
def fecCorrected (w : Lcw) : Nat := ((List.range 4).filter (fun i => decide (1 ≤ fecErrors w i) && decide (fecErrors w i ≤ 10))).length
def fecLost (w : Lcw) : Bool := (List.range 4).any (fun i => decide (10 < fecErrors w i))

/-- LCW_RECEIVE: a lost block fails the frame that comes in (R293); another returns credits and acknowledgements or carries
a link message. [log 94 DEDUCED] -/
def lcwReceive (n : Nat) (w : Lcw) (s : State) : State :=
  let st := s.get (F.SNL_STATUS_STATE n)
  if st < 3 ∨ 8 < st then s else
  let s := s.count (F.SNL_FEC_CNT_CORR n) (fecCorrected w)
  if fecLost w then (s.setPort n { s.port n with rxLost := true }).count (F.SNL_FEC_UNCORR_BLOCKS n) 1 else
  if st ≠ 6 ∧ st ≠ 7 then s else
  let d := { s.port n with rxLost := (s.port n).rxLost && !w.sof }
  let left := d.unacked.filter (fun e => decide (2048 ≤ (w.ackSeq + 4096 - e.1) % 4096))
  let again := d.replaying.filter (fun e => left.any (fun x => x.1 == e.1))
  let s := s.setPort n { d with
    returned := AMap.put (fun _ => 0) d.returned (w.crSel % 16) (w.crCount % 4096), unacked := left, replaying := again
    failRun := if left.length < d.unacked.length then 0 else d.failRun }
  let s := if w.nak && again.isEmpty then replayFrom n s else s
  match w.btype with
  | 2 => if (s.port n).rateSlot.isSome then s else scheduleRate n w.slot s
  | 3 => retrainMsg n false w.slot s
  | 4 => retrainMsg n true w.slot s
  | _ => s

/-! ### Frames that come in -/

/-- A data frame goes into the wafer as a packet of its partition (R298, R299). [log 92 DESIGN CHOICE] -/
def deliverData (n : Nat) (fr : Frame) (s : State) : State :=
  let l := fr.payload
  let id := leAt l 0 2 % 8192
  let a := leAt l 4 2 % 256
  let data := (List.range a).map (fun j => bytesAcc ((l.drop (128 + 256 * j)).take 256) (bitOf (leAt l 8 32) j == 1))
  let f := match locate s id 0 with
    | some (f, _, _) => f
    | none => 0
  match deliverField s n fr.part f with
  | none => raiseFault (frameEvent 0x0405 n fr) (snlErr n 6 fr.part fr.tag (s.count (F.SNL_DROP_CNT1_ROUTE n) 1))
  | some g =>
    let p : Packet := { id := 0, part := fr.part, gen := fr.gen, fromLink := true, dst := id, tag := fr.tag
                        addr := leAt l 2 2 % 32768, data := data, len := a }
    let ni := s.ni g 75
    s.setNi g 75 { ni with out := ni.out ++ [p] }

/-- A frame to be forwarded that passes the checks at its head and fails one at its tail goes on spoilt where it was sent
cut-through (R302, R312). -/
def cutThroughBad (n : Nat) (fr : Frame) (s : State) : State :=
  let bad := (s.port n).rxLost || !crcGood fr || !authPasses s n (AMap.get (fun _ => 0) (s.port n).authRx fr.part) fr
  let head := decide (fr.cls < 8) && fr.ver == s.get (F.SNL_NEG_VER n) && cfgAccepted s fr.part fr.epoch fr.digest && partOk s n fr
  if !stateCarries s n fr || !bad || !head || fr.dst / 8 == ownCoord s || !forwardable fr then s else
  match routeFrame s fr (some n) with
  | none => s
  | some (m, dl) =>
    let d := s.port m
    let fr' := { fr with dl := dl }
    if d.q.isEmpty && d.replaying.isEmpty && decide (d.txFree ≤ blockStart s m) && mayBegin s m fr' then
      beginSpoilt m fr' s
    else s

/-- FRAME_FORWARD. [log 92 DESIGN CHOICE] -/
def frameForward (n : Nat) (fr : Frame) (mine : Frame → Bool) (k : State → State) (s : State) : State :=
  receiveFrame n fr mine k (cutThroughBad n fr s)

/-- A BUSY frame: the ERU of this port owes a resend (R271). -/
def busyFrame (n : Nat) (fr : Frame) (s : State) : State :=
  receiveFrame n fr (fun fr => fr.cls == 2 && leAt fr.payload 0 1 == 4) (fun s =>
    eruRefused n fr.tag s) s

/-! ### Firefly and digest frames (R300, R301, R304) -/

/-- A port in STANDBY or ACTIVE. -/
def portUp (s : State) (n : Nat) : Bool := s.get (F.SNL_STATUS_STATE n) == 6 || s.get (F.SNL_STATUS_STATE n) == 7

/-- MGR of a Firefly frame: the manager followed, the module itself on the bench or after a takeover (R491, R505). -/
def sentManager (s : State) : Nat :=
  let act := s.get F.CHT_MGR_STATUS_ACT
  if act = 3 ∨ act = 4 then ownCoord s else s.get F.CHT_MGR_FOLLOW_COORD

/-- Firefly payload (Table 09.6); TX_FET is filled in as the frame leaves. -/
def fireflyBytes (s : State) (n : Nat) : List Byte :=
  let d := s.port n
  let q := (if moduleQuenched s then 1 else 0) + (([1, 2, 3, 4, 5, 6, 7].filter (fun p => partState s p == 4)).map (2 ^ ·)).sum
  let worst := ((List.range 6).filter (fun c => decide (d.fireflyMark < AMap.get (fun _ => 0) s.log.lastOf c))).foldl max 0
  leBytes (ownCoord s) 3 ++ leBytes (64 * s.get F.CHT_STRAP_ROLE + s.get F.CHT_STRAP_SLOT_ID) 1 ++ leBytes q 1 ++ leBytes worst 1
    ++ leBytes d.fireflySeq 2 ++ leBytes 0 8 ++ leBytes (sentManager s) 3 ++ leBytes n 1 ++ List.replicate 108 0

/-- FIREFLY_SEND. -/
def fireflySend (n : Nat) (s : State) : State :=
  if !portUp s n then s else
  let fr := mkFrame s 4 0 0 (8 * coordAlong s n 1) 0 (fireflyBytes s n)
  let d := s.port n
  enqueue n fr (s.setPort n { d with fireflySeq := (d.fireflySeq + 1) % 65536, fireflyMark := s.log.events })

/-- Partitions whose digests a port exchanges: 0 and those with a share or a slot on it. -/
def digestParts (s : State) (n : Nat) : List Nat := (List.range 8).filter (fun p => p == 0 || onPort s n p)

/-- CONFIG_DIGEST_SEND: one frame a partition; the third interval in a row without one from the partner is noted. -/
def configDigestSend (n : Nat) (s : State) : State :=
  if !portUp s n then s else
  let l := digestParts s n
  let s := s.forEach l (fun p t =>
    let body := [1, BitVec.ofNat 8 p] ++ List.replicate 2 0 ++ leBytes (cfgEpoch t p) 2 ++ List.replicate 2 0 ++ leBytes t.fet 8 ++ cfgDigest t p
    enqueue n (mkFrame t 6 0 0 (8 * coordAlong t n 1) 0 (body ++ List.replicate (128 - body.length) 0)) t)
  let d := s.port n
  let miss := fun (p : Nat) => if d.digestSeen.contains p then 0 else AMap.get (fun _ => 0) d.digestMiss p + 1
  let late := l.filter (fun p => miss p == 3)
  let s := s.setPort n { d with digestSeen := [], digestMiss := l.foldl (fun m p => AMap.put (fun _ => 0) m p (miss p)) [] }
  s.forEach late (fun p t => noteAt 5 p (100 + n / 8) 15 n t)

/-- CONFIG_DIGEST_RECEIVE: compared at equal epochs. -/
def configDigestReceive (n : Nat) (fr : Frame) (s : State) : State :=
  receiveFrame n fr (fun fr => fr.cls == 6 && leAt fr.payload 0 1 == 1) (fun s =>
    let p := leAt fr.payload 1 1 % 8
    let d := s.port n
    let s := s.setPort n { d with digestSeen := setAdd p d.digestSeen }
    if leAt fr.payload 4 2 ≠ cfgEpoch s p ∨ (fr.payload.drop 16).take 32 = cfgDigest s p then s
    else cfgMismatch n { fr with part := p } s) s

/-! ### Port states (R301, R314, R318-R322, R327) -/

/-- The die of a port has power: its rails come up in step 2. [log 97 DEDUCED] -/
def dieOn (s : State) : Bool := decide (2 ≤ stepDone s)

/-- A port to DETECT. -/
def toDetect (n : Nat) (s : State) : State :=
  let s := portTo n 2 s
  s.setPort n { s.port n with detectSince := s.fet, qualFails := 0 }

/-- PARTNER_LOST. -/
def partnerLost (n : Nat) (s : State) : State :=
  if !portUp s n then s
  else raiseFault (portEvent 0x0407 n) (snlErr n 10 0 0 (leaveLive n 1 s))

/-- WAKE_BURST. [log 96 DEDUCED] -/
def wakeBurst (n : Nat) (s : State) : State :=
  if s.get (F.SNL_STATUS_STATE n) = 1 ∧ !s.flag (F.SNL_CTRL_HOLD_DARK n) ∧ !s.boot.pinSafe then
    (s.setPort n { s.port n with bursts := (s.port n).bursts + 1 }).emit (.burst n)
  else s

/-- SNL_CTRL.EN: OFF to DARK with the die powered; cleared, the port is OFF. -/
def applyEn (n : Nat) (s : State) : State :=
  let st := s.get (F.SNL_STATUS_STATE n)
  if s.flag (F.SNL_CTRL_EN n) then (if st = 0 ∧ dieOn s then s.set (F.SNL_STATUS_STATE n) 1 else s)
  else if st = 0 then s else leaveLive n 0 s

/-- SNL_CTRL.RETRY. -/
def portRetry (n : Nat) (s : State) : State := if s.get (F.SNL_STATUS_STATE n) = 9 then toDetect n s else s

/-- PARTNER_SIGNAL_DETECT. -/
def signalDetect (n : Nat) (s : State) : State :=
  if s.get (F.SNL_STATUS_STATE n) = 1 ∧ !s.flag (F.SNL_CTRL_HOLD_DARK n) ∧ !s.boot.pinSafe then toDetect n s else s

/-- BLOCK_LOCK. -/
def blockLock (n : Nat) (s : State) : State :=
  if s.get (F.SNL_STATUS_STATE n) = 2 then s.set (F.SNL_STATUS_STATE n) 3 else s

/-- DETECT_TIMEOUT. [log 3 DESIGN CHOICE] -/
def detectTimeout (n : Nat) (s : State) : State :=
  if s.get (F.SNL_STATUS_STATE n) = 2 ∧ (s.port n).detectSince + 50000000 ≤ s.fet then portTo n 1 s else s

/-- TRAIN_CONVERGED. -/
def trainConverged (n : Nat) (s : State) : State :=
  if s.get (F.SNL_STATUS_STATE n) = 3 then s.set (F.SNL_STATUS_STATE n) 4 else s

/-- QUALIFY_WINDOW_END (R320): every lane within the limit of its rate; one retrain, one at reduced rate, then FAILED. -/
def qualifyEnd (n : Nat) (errors : List Nat) (unc : Bool) (s : State) : State :=
  if s.get (F.SNL_STATUS_STATE n) ≠ 4 then s else
  let red := s.flag (F.SNL_STATUS_REDUCED n)
  let limit := if red then 84000 else 112000
  let d := s.port n
  if !unc && errors.all (fun e => decide (e ≤ limit)) then s.set (F.SNL_STATUS_STATE n) 5
  else if red then snlErr n 8 0 0 (portTo n 9 s)
  else
    let s := s.setPort n { d with qualFails := d.qualFails + 1 }
    let s := s.set (F.SNL_STATUS_STATE n) 3
    if d.qualFails = 0 then s else s.set (F.SNL_STATUS_REDUCED n) 1

/-- The highest version both ends hold, 0 where there is none (R321). -/
def commonVersion (a b : Nat) : Nat := ((List.range 16).filter (fun v => bitOf a v == 1 && bitOf b v == 1)).getLastD 0

/-- The coordinate a port expects of its partner (R327). -/
def expectedPeer (s : State) (n : Nat) : Nat := coordAlong s n 1

/-- A calibration record (R322): the equaliser coefficients of every lane and the draw of the last 1 ms. -/
def capture (n : Nat) (eq : List (List Nat)) (s : State) : State :=
  let s := (s.set (F.SNL_CAL_LOAD_PCT n) (min 255 (captureLoad s * 100 / 1750))).set (F.SNL_CAL_STALE n) 0
  s.setPort n { s.port n with calAt := s.fet, eq := eq, lowRuns := [] }

/-- NEGOTIATE_COMPLETE (R321, R322, R327). -/
def negotiateComplete (n : Nat) (g : Negotiation) (s : State) : State :=
  if s.get (F.SNL_STATUS_STATE n) ≠ 5 then s else
  let snl := commonVersion (s.get (F.SNL_CAP0_SNL_MASK n)) g.snl
  let ver := commonVersion (s.get (F.SNL_CAP0_VER_MASK n)) g.ver
  if snl = 0 ∨ ver = 0 then snlErr n 9 0 0 (portTo n 9 s)
  else
    let s := (s.set (F.SNL_NEG_SNL n) snl).set (F.SNL_NEG_VER n) ver
    let s := s.set (F.SNL_NEG_SCP n) (commonVersion (s.get (F.SNL_CAP1_SCP_MASK n)) g.scp)
    let s := s.set (F.SNL_NEG_FWI n) (commonVersion (s.get (F.SNL_CAP1_FWI_MASK n)) g.fwi)
    let s := s.set (F.SNL_NEG_PLAN n) (commonVersion (s.get (F.SNL_CAP2_PLAN_MASK n)) g.plan)
    let s := (s.set (F.SNL_PEER_PEER_PORT n) g.peerPort).set (F.SNL_PEER_PEER_COORD n) g.peerCoord
    let s := s.wr (R.TIM_PORT_ASYM n) (Config.portAsym n)
    let s := (s.count (F.SNL_TRAIN_TRAINS n) 1).set (F.SNL_TRAIN_LAST_MS n) (min 65535 g.ms)
    let s := capture n g.eq s
    let s := s.set (F.SNL_STATUS_STATE n) 6
    let s := s.setPort n { s.port n with lastGood := s.fet, qualFails := 0 }
    if g.peerCoord = expectedPeer s n then s
    else
      let ev := { portEvent 0x060b n with addr := 2 ^ 32 * g.peerCoord, master := 6 * 2 ^ 29 + 8 * ownCoord s, detail := [5] }
      (recordFault 0 ev s).2

/-! ### Retrains, margins, rate changes (R322-R324) -/

/-- RETRAIN_WINDOW_START: out of the live set for its duration; what waits goes to the other live ports (R317).
[log 97 DEDUCED] -/
def retrainStart (n : Nat) (s : State) : State :=
  let w := rdPair s (R.SNL_RETRAIN_LO n) (R.SNL_RETRAIN_HI n)
  if s.get (F.SNL_STATUS_STATE n) = 7 ∧ w ≠ 0 ∧ w ≤ s.fet then
    leaveLive n 8 (wrPair s (R.SNL_RETRAIN_LO n) (R.SNL_RETRAIN_HI n) 0)
  else s

/-- A retrain that leaves the margin low (R324): the second within 10 minutes keeps the port at reduced rate. -/
def retrainFailed (n : Nat) (s : State) : State :=
  let d := s.port n
  let again := d.retrainFail.any (fun t => decide (s.fet ≤ t + 600000000000))
  let s := s.setPort n { d with retrainFail := some s.fet, stayReduced := d.stayReduced || again }
  if again then snlErr n 11 0 0 s else s

/-- RETRAIN_COMPLETE. [log 97 DEDUCED] -/
def retrainComplete (n : Nat) (lockLost restored : Bool) (eq : List (List Nat)) (s : State) : State :=
  if s.get (F.SNL_STATUS_STATE n) ≠ 8 then s else
  let s := s.set (F.SNL_STATUS_RETRAIN_PEND n) 0
  if lockLost then
    let s := leaveLive n 2 s
    s.setPort n { s.port n with detectSince := s.fet, qualFails := 0 }
  else
    let s := (s.count (F.SNL_TRAIN_RETRAINS n) 1).set (F.SNL_STATUS_STATE n) 7
    let s := capture n eq (s.set (F.SNL_STATUS_LIVE n) (bitOf s.boot.live n))
    if restored then (if s.flag (F.SNL_STATUS_REDUCED n) && !(s.port n).stayReduced then proposeRate n s else s)
    else retrainFailed n s

/-- RETRAIN_SEARCH_TIMEOUT: noted; the search goes on. -/
def retrainTimeout (n : Nat) (s : State) : State :=
  match (s.port n).searchSince with
  | none => s
  | some t =>
    if s.fet < t + 10000000000 then s
    else noteAt 5 0 (100 + n / 8) 15 n (s.setPort n { s.port n with searchSince := some s.fet })

/-- One of the two triggers of R323 has come: a step boundary after a step that reached the record's load, or 10 s after the
first PLAN_START. -/
def armReady (s : State) (n : Nat) : Bool := (s.port n).armDue || s.power.firstPlan.any (fun t => decide (t + 10000000000 ≤ s.fet))

/-- MARGIN_MONITOR_ARM. -/
def marginArm (n : Nat) (s : State) : State := if portUp s n && armReady s n then s.set (F.SNL_STATUS_MARGIN_ARMED n) 1 else s

/-- The number of the lane that stands out, and its value. -/
def worstLane (l : List Nat) (better : Nat → Nat → Bool) : Nat × Nat :=
  l.zipIdx.foldl (fun b e => if better b.2 e.1 then (e.2, e.1) else b) (0, l.headD 0)

/-- MARGIN_WINDOW. [log 96 DEDUCED] -/
def marginWindow (n : Nat) (lanes : List (Nat × Nat)) (s : State) : State :=
  if !s.flag (F.SNL_STATUS_MARGIN_ARMED n) || !portUp s n then s else
  let l := lanes.take 16
  let s := l.zipIdx.foldl (fun (s : State) e =>
    (s.set (F.SNL_LANE_CORR n e.2) (min 65535 e.1.1)).set (F.SNL_LANE_EYE n e.2) (min 255 e.1.2)) s
  let hi := worstLane (l.map (·.1)) (fun a b => decide (a < b))
  let lo := worstLane (l.map (·.2)) (fun a b => decide (b < a))
  let s := (s.set (F.SNL_MARGIN_BER_WORST n) (min 65535 hi.2)).set (F.SNL_MARGIN_LANE_BER n) hi.1
  let s := (s.set (F.SNL_MARGIN_EYE_WORST n) (min 255 lo.2)).set (F.SNL_MARGIN_LANE_EYE n) lo.1
  let d := s.port n
  let low := fun (x : Nat × Nat) => decide (s.get (F.SNL_MARGIN_CFG_BER_CNT n) < x.1) || decide (x.2 < s.get (F.SNL_MARGIN_CFG_EYE_MIN n))
  let run := fun (e : (Nat × Nat) × Nat) => if low e.1 then AMap.get (fun _ => 0) d.lowRuns e.2 + 1 else 0
  let lowMargin := l.zipIdx.any (fun e => decide (3 ≤ run e))
  let s := s.setPort n { d with lowRuns := l.zipIdx.foldl (fun m e => AMap.put (fun _ => 0) m e.2 (run e)) [] }
  let stale := exceedsRecord s n (s.get F.PWR_DRAW_LAST)
  let s := if stale then s.set (F.SNL_CAL_STALE n) 1 else s
  if stale || (lowMargin && s.flag (F.SNL_MARGIN_CFG_AUTO n)) then giveMargin n s else s

/-- RATE_CHANGE_PROPOSAL: the partner's LINKMSG names the slot. [log 96 DEDUCED] -/
def rateProposal (n slot : Nat) (s : State) : State :=
  if portUp s n && (s.port n).rateSlot.isNone then scheduleRate n slot s else s

/-- RATE_CHANGE: at the agreed slot; blocks before the scheduled frame of that slot carry idle fill. -/
def rateChange (n : Nat) (s : State) : State :=
  match (s.port n).rateSlot with
  | none => s
  | some k =>
    if s.fet < 256 * k ∨ !portUp s n then s else
    let s := s.set (F.SNL_STATUS_REDUCED n) (1 - s.get (F.SNL_STATUS_REDUCED n))
    s.setPort n { s.port n with rateSlot := none, txFrame := [], txSched := false, txFree := 768 * k + blockUnits s n * schedBlock s n }

/-! ### The commands -/

def execLcwReceive (n : Fin 64) (lcw : Lcw) (s : State) : Host.Outcome State Fault Refusal := .next (lcwReceive n lcw s)
def execBlockTransmit (n : Fin 64) (s : State) : Host.Outcome State Fault Refusal := .next (blockTransmit n s)
def execDataFrameReceive (n : Fin 64) (fr : Frame) (s : State) : Host.Outcome State Fault Refusal :=
  .next (receiveFrame n fr (fun g => g.cls == 0) (deliverData n fr) s)
def execBusyFrameReceive (n : Fin 64) (fr : Frame) (s : State) : Host.Outcome State Fault Refusal := .next (busyFrame n fr s)
def execFireflySend (n : Fin 64) (s : State) : Host.Outcome State Fault Refusal := .next (fireflySend n s)
def execConfigDigestSend (n : Fin 64) (s : State) : Host.Outcome State Fault Refusal := .next (configDigestSend n s)
def execConfigDigestReceive (n : Fin 64) (fr : Frame) (s : State) : Host.Outcome State Fault Refusal :=
  .next (configDigestReceive n fr s)
def execPartnerLost (n : Fin 64) (s : State) : Host.Outcome State Fault Refusal := .next (partnerLost n s)
def execWakeBurst (n : Fin 64) (s : State) : Host.Outcome State Fault Refusal := .next (wakeBurst n s)
def execPartnerSignalDetect (n : Fin 64) (s : State) : Host.Outcome State Fault Refusal := .next (signalDetect n s)
def execBlockLock (n : Fin 64) (s : State) : Host.Outcome State Fault Refusal := .next (blockLock n s)
def execDetectTimeout (n : Fin 64) (s : State) : Host.Outcome State Fault Refusal := .next (detectTimeout n s)
def execTrainConverged (n : Fin 64) (s : State) : Host.Outcome State Fault Refusal := .next (trainConverged n s)
def execQualifyWindowEnd (n : Fin 64) (errors : List Nat) (uncorrectable : Bool) (s : State) : Host.Outcome State Fault Refusal :=
  .next (qualifyEnd n errors uncorrectable s)
def execNegotiateComplete (n : Fin 64) (neg : Negotiation) (s : State) : Host.Outcome State Fault Refusal :=
  .next (negotiateComplete n neg s)
def execRetrainLinkmsg (n : Fin 64) (accept : Bool) (slot : Nat) (s : State) : Host.Outcome State Fault Refusal :=
  .next (retrainMsg n accept slot s)
def execRetrainWindowStart (n : Fin 64) (s : State) : Host.Outcome State Fault Refusal := .next (retrainStart n s)
def execRetrainComplete (n : Fin 64) (lockLost restored : Bool) (eq : List (List Nat)) (s : State) :
    Host.Outcome State Fault Refusal := .next (retrainComplete n lockLost restored eq s)
def execRetrainSearchTimeout (n : Fin 64) (s : State) : Host.Outcome State Fault Refusal := .next (retrainTimeout n s)
def execMarginMonitorArm (n : Fin 64) (s : State) : Host.Outcome State Fault Refusal := .next (marginArm n s)
def execMarginWindow (n : Fin 64) (lanes : List (Nat × Nat)) (s : State) : Host.Outcome State Fault Refusal :=
  .next (marginWindow n lanes s)
def execRateChangeProposal (msg : RateProposal) (s : State) : Host.Outcome State Fault Refusal :=
  .next (rateProposal msg.port msg.slot s)
def execRateChange (n : Fin 64) (s : State) : Host.Outcome State Fault Refusal := .next (rateChange n s)

end Sys2Proof.Machine
end

