-- ==== Sys2Proof/Machine/Scp.lean ====
section
/-!
DEFINITION. Machine/Scp.lean: the command protocol's one path from a request to its reply: queues, sequence numbers,
duplicates, the order of checks, asynchronous requests and completions (12_command_protocol R366-R384).
-/
namespace Sys2Proof.Machine

/-! ### Status codes (Table 12.3) -/

def stOk : Nat := 0x0000
def stAccepted : Nat := 0x0001
def stBusy : Nat := 0x0100
def stRetry : Nat := 0x0101
def stBadOpcode : Nat := 0x0200
def stBadParam : Nat := 0x0201
def stVersion : Nat := 0x0202
def stDenied : Nat := 0x0300
def stFaulted : Nat := 0x0400
def stQuenched : Nat := 0x0500

/-! ### Queues -/

/-- The queue of a source: which function wrote a PCI Express request does not name another queue. -/
def queueKey : Source → Source
  | .pcie ep q _ => .pcie ep q 0
  | .snl c _ => .snl c 0
  | src => src

/-- The largest PLEN of a carrier (Table 12.1). -/
def carrierLimit : Source → Nat
  | .pcie .. => 224
  | .mgmt .. => 1440
  | .snl .. => 65360

/-- A management-port queue. -/
def isMgmt : Source → Bool
  | .mgmt .. => true
  | _ => false

/-- The kept data of a queue. -/
def queueOf (s : State) (src : Source) : QueueData :=
  (s.queues.find? (fun q => q.src == queueKey src)).getD { src := queueKey src }

/-- A queue's data replaced, or added. -/
def setQueue (q : QueueData) : List QueueData → List QueueData
  | [] => [q]
  | r :: rs => if r.src = q.src then q :: rs else r :: setQueue q rs

/-- The state with a queue's data replaced. -/
def State.putQueue (s : State) (q : QueueData) : State := { s with queues := setQueue q s.queues }

/-- The sequence number a queue expects (R377): CHT_Q_SEQ of a PCI Express queue. -/
def queueNext (s : State) (src : Source) : BitVec 32 :=
  match src with
  | .pcie ep q _ => s.rd (R.CHT_Q_SEQ ep q)
  | _ => (queueOf s src).next

/-- Sets the sequence number a queue expects. -/
def setNext (src : Source) (n : BitVec 32) (s : State) : State :=
  match src with
  | .pcie ep q _ => s.wr (R.CHT_Q_SEQ ep q) n
  | _ => s.putQueue { queueOf s src with next := n }

/-- The SCP version a queue has settled (R386). -/
def queueVer (s : State) (src : Source) : Nat :=
  match src with
  | .pcie ep q _ => s.get (F.CHT_Q_STATUS_VER ep q)
  | _ => (queueOf s src).ver

/-- Settles a queue's SCP version. -/
def setVer (src : Source) (v : Nat) (s : State) : State :=
  match src with
  | .pcie ep q _ => s.set (F.CHT_Q_STATUS_VER ep q) v
  | _ => s.putQueue { queueOf s src with ver := v }

/-- Requests of a queue that have not completed (R378). -/
def unfinished (s : State) (src : Source) : Nat := (s.jobs.filter (fun j => queueKey j.src == queueKey src)).length

/-- Asynchronous requests of a queue in progress (R378): those answered ACCEPTED. -/
def inflight (s : State) (src : Source) : Nat :=
  (s.jobs.filter (fun j => queueKey j.src == queueKey src && (match j.work with | .quench _ => false | _ => true))).length

/-- Entries of a submission or completion ring (Table 12.14). -/
def ringSize (code : Nat) : Nat := 16 * 2 ^ code

/-- The completion ring has no free entry: the next entry to write would meet the host's head (R370). [log 14 DEDUCED] -/
def ringFull (s : State) (ep q : Nat) : Bool :=
  let r := AMap.get (fun _ => ({} : RingData)) s.rings (8 * ep + q)
  (r.cqTail + 1) % ringSize (s.get (F.CHT_Q_CFG_CQ_SIZE ep q)) == s.get (F.CHT_CQ_HEAD_HEAD ep q)

/-- VF k exists on an endpoint that PRT_CFG[k].HOST enables (R353). [log 50 DEDUCED] -/
def vfEnabled (s : State) (ep k : Nat) : Bool := k != 0 && bitOf (s.get (F.PRT_CFG_HOST k)) ep == 1

/-- The function a PCI Express queue belongs to: queue k is VF k's where that is enabled, the PF's otherwise (Table 12.1).
[log 14 DEDUCED, 50 DEDUCED] -/
def queueFn (s : State) (ep : Fin 2) (q : Fin 8) : Fin 8 := if vfEnabled s ep q then q else 0

/-- The requester that the module's accesses to a source's rings show (R370). -/
def ringRequester (s : State) : Source → Source
  | .pcie ep q _ => .pcie ep q (queueFn s ep q)
  | src => src

/-- The requester of what the module reads or writes in host memory for partition p: VF p, and the PF for partition 0
(R355). [log 20 DESIGN CHOICE] -/
def dmaRequester (p : Nat) : Source → Source
  | .pcie ep q _ => .pcie ep q (Fin.ofNat 8 p)
  | src => src

/-- The MSI-X vector of a queue's replies: vector q of the PF, vector 0 of VF q (R370). [log 48 PRESUMED] -/
def msixOf (s : State) (ep q : Nat) : Output := if vfEnabled s ep q then .msix ep q 0 else .msix ep 0 q

/-- A ring access that failed on PCI Express stops the queue (R370). -/
def ringFailed (e q : Nat) (s : State) : State := note 5 0 (R.CHT_Q_STATUS e q) (s.set (F.CHT_Q_STATUS_ERR e q) 1)

/-- The state of a PCI Express queue's rings. -/
def ringOf (s : State) (ep q : Nat) : RingData := AMap.get (fun _ => {}) s.rings (8 * ep + q)

/-- The state of a queue's rings replaced. -/
def State.putRing (s : State) (ep q : Nat) (d : RingData) : State :=
  { s with rings := AMap.put (fun _ => {}) s.rings (8 * ep + q) d }

/-- A reply packet, header and result (Table 12.2); `phase` and `sqh` in PCI Express replies. [log 145 DESIGN CHOICE] -/
def scpPacket (opcode : Nat) (r : Reply) (more phase : Bool) (sqh : Nat) : List Byte :=
  leBytes 1 1 ++ leBytes opcode 1
    ++ leBytes (1 + (if more then 4 else 0) + (if r.replayed then 8 else 0) + (if phase then 128 else 0)) 1 ++ leBytes r.part 1
    ++ leBytes r.seq.toNat 4 ++ leBytes r.token.toNat 8 ++ leBytes r.result.length 4 ++ leBytes r.status 2 ++ leBytes sqh 2
    ++ leBytes r.rfet 8 ++ r.result

/-- Writes one reply packet into the completion ring: the entry's phase, the tail, the wrap, MSI-X; a write that fails stops the
queue (R370). A queue that is disabled or stopped writes none. -/
def ringReply (ep q : Nat) (src : Source) (opcode : Nat) (r : Reply) (more : Bool) (s : State) : State :=
  let d := ringOf s ep q
  if !s.flag (F.CHT_Q_CFG_EN ep q) || s.flag (F.CHT_Q_STATUS_ERR ep q) then s
  else if ringFull s ep q || !d.waiting.isEmpty then
    (s.putRing ep q { d with waiting := d.waiting ++ [(r, opcode, more)] }).set (F.CHT_Q_STATUS_CQ_FULL ep q) 1
  else if d.failing then ringFailed ep q s
  else
    let n := ringSize (s.get (F.CHT_Q_CFG_CQ_SIZE ep q))
    let t := (d.cqTail + 1) % n
    let head := s.get (F.CHT_SQ_HEAD_HEAD ep q)
    let s := s.emit (.reply (ringRequester s src) opcode r head d.phase more (scpPacket opcode r more d.phase head))
    let s := s.putRing ep q { d with cqTail := t, phase := if t = 0 then !d.phase else d.phase }
    if s.flag (F.CHT_Q_CFG_INT_EN ep q) then s.emit (msixOf s ep q) else s

/-- A list cut into pieces of `n`; at least one piece (R376). -/
def pieces (n : Nat) (l : List Byte) : Nat → List (List Byte)
  | 0 => [l]
  | k + 1 => if l.length ≤ n then [l] else l.take n :: pieces n (l.drop n) k

/-- A reply over Synael Link: a control frame to the requester's Scarab (R372). [log 145 DESIGN CHOICE] -/
def snlReply (coord opcode : Nat) (r : Reply) (more : Bool) (s : State) : State :=
  sendFrame (mkFrame s 2 0 0 (8 * coord + 2) 2 (2 :: List.replicate 15 0 ++ scpPacket opcode r more false 0)) s

/-- Sends one packet of a reply on its carrier. -/
def replyPacket (src : Source) (opcode : Nat) (r : Reply) (more : Bool) (s : State) : State :=
  match src with
  | .pcie ep q _ => ringReply ep q src opcode r more s
  | .snl c _ => snlReply c.toNat opcode r more s
  | .mgmt .. => s.emit (.reply src opcode r 0 false more (scpPacket opcode r more false 0))

/-- Sends the packets of one reply (R376): MORE in every packet but the last. -/
def sendPackets (src : Source) (opcode : Nat) (r : Reply) : List (List Byte) → State → State
  | [], s => s
  | [p], s => replyPacket src opcode { r with result := p } false s
  | p :: ps, s => sendPackets src opcode r ps (replyPacket src opcode { r with result := p } true s)

/-- The partition a request names. -/
def reqPart (r : Request) : Nat := r.part.toNat % 8

/-- Sends a reply on its carrier. -/
def sendReply (src : Source) (opcode : Nat) (r : Reply) (s : State) : State :=
  sendPackets src opcode r (pieces (carrierLimit src) r.result r.result.length) s

/-- Keeps a reply for duplicates: one per sequence number, the newest 128, which hold the
64 behind NEXT and the 64 that can be in progress (R377, R378). -/
def storeReply (src : Source) (r : Reply) (s : State) : State :=
  let q := queueOf s src
  let l := q.replies.filter (fun x => x.seq != r.seq)
  s.putQueue { q with replies := (l ++ [r]).drop (l.length - 127) }

/-- Answers a request: status, result, RFET now (Table 12.2), kept for duplicates and sent. -/
def answer (req : Request) (opcode status : Nat) (result : List Byte) (s : State) : State :=
  let r : Reply := { seq := req.seq, token := req.token, status := status, rfet := s.fet, result := result, part := reqPart req }
  sendReply req.src opcode r (storeReply req.src r s)

/-- Answers without keeping: RETRY and BAD_PARAM of requests not taken, replays. -/
def answerOnly (req : Request) (opcode status : Nat) (result : List Byte) (s : State) : State :=
  sendReply req.src opcode
    { seq := req.seq, token := req.token, status := status, rfet := s.fet, result := result, part := reqPart req } s

/-- NEXT advances past a sequence number and past those Chitin has consumed (R367, R377). [log 35 DESIGN CHOICE] -/
def advance (src : Source) (seq : BitVec 32) (s : State) : State :=
  let q := queueOf s src
  let n := seq + 1
  let rec skip (n : BitVec 32) (used : List (BitVec 32)) : Nat → BitVec 32 × List (BitVec 32)
    | 0 => (n, used)
    | k + 1 => if used.contains n then skip (n + 1) (used.filter (· != n)) k else (n, used)
  let r := skip n q.consumed q.consumed.length
  let s := if q.consumed.isEmpty then s else s.putQueue { q with consumed := r.2 }
  setNext src r.1 s

/-- A PCI Express endpoint is up: step 2 complete, its PERST_L released, pins not safe, no lock (R527, Table 17.3).
[log 127 DEDUCED] -/
def endpointUp (s : State) (ep : Nat) : Bool :=
  decide (2 ≤ stepDone s) && !s.flag F.CHT_PIN_STATUS_PIN_SAFE && !locked s
    && s.flag (if ep = 0 then F.CHT_PIN_STATUS_PE0_PERST_L else F.CHT_PIN_STATUS_PE1_PERST_L)

/-- Chitin's cores run: powered, and not held in reset by the latch after a LOCKSTEP or CHITIN_MEASURE cause (R474).
[log 111 DEDUCED, 124 DEDUCED] -/
def chitinRuns (s : State) : Bool := s.boot.powered && !(locked s && (s.get F.FLT_LOCK_CAUSE == 1 || s.get F.FLT_LOCK_CAUSE == 5))

/-- A request can be read. On PCI Express it comes from the function its queue belongs to (Table 12.1), and the queue is
enabled, without error, its completion ring has room, no reply waits and an entry is posted (R370). A management datagram went
to UDP_PORT, with SCP_EN set (R371, Table 12.14). [log 14 DEDUCED, 127 DEDUCED] -/
def readable (s : State) (r : Request) : Bool :=
  match r.src with
  | .pcie ep q fn =>
    endpointUp s ep && fn == queueFn s ep q && s.flag (F.CHT_Q_CFG_EN ep q) && !s.flag (F.CHT_Q_STATUS_ERR ep q)
      && !s.flag (F.CHT_Q_STATUS_CQ_FULL ep q) && !ringFull s ep q
      && s.get (F.CHT_SQ_HEAD_HEAD ep q) != s.get (F.CHT_SQ_TAIL_TAIL ep q)
  | .mgmt .. => chitinRuns s && s.flag F.CHT_MGMT_CFG_SCP_EN && s.get F.CHT_MGMT_CFG_UDP_PORT == r.udpPort.toNat
  | .snl .. => chitinRuns s && decide (2 ≤ stepDone s)

/-- An SNL request is accepted only from the manager followed and from the ring's standby; a bench module accepts none
(R372, Table 12.1, Table 16.1). [log 112 DEDUCED] -/
def snlAccepted (s : State) (coord : Nat) : Bool :=
  s.get F.CHT_MGR_STATUS_ACT != 3 &&
  ((s.flag F.CHT_MGR_FOLLOW_VALID && s.get F.CHT_MGR_FOLLOW_COORD == coord)
    || (s.flag F.CHT_MGR_STANDBY_VALID && s.get F.CHT_MGR_STANDBY_COORD == coord))

/-- A Synael Link queue. -/
def isSnl : Source → Bool
  | .snl .. => true
  | _ => false

/-- The first Synael Link queue, if any, whose coordinate a request is no longer accepted from. -/
def staleSnl (s : State) : Option QueueData :=
  s.queues.find? (fun q => match q.src with | .snl c _ => !snlAccepted s c.toNat | _ => false)

/-- Where four coordinates have a queue, a fifth takes that of one no longer accepted (Table 12.1).
[log 166 DESIGN CHOICE] -/
def freeSnlQueue (src : Source) (s : State) : State :=
  if isSnl src && decide (4 ≤ (s.queues.filter (fun q => isSnl q.src)).length) then
    { s with queues := s.queues.filter (fun q => !(staleSnl s).any (fun d => d.src == q.src)) }
  else s

/-- Opens the queue of a new management or SNL source (R371, R377): NEXT from its first request.
[log 35 DESIGN CHOICE] -/
def openQueue (r : Request) (s : State) : State :=
  match r.src with
  | .pcie .. => s
  | _ =>
    if s.queues.any (fun q => q.src == queueKey r.src) then
      s.putQueue { queueOf s r.src with lastFet := s.fet }
    else (freeSnlQueue r.src s).putQueue { src := queueKey r.src, next := r.seq, lastFet := s.fet }

/-- A fifth management source finds no free queue (R371). [log 14 DEDUCED] -/
def noQueue (s : State) (src : Source) : Bool :=
  isMgmt src && !s.queues.any (fun q => q.src == src) && decide (4 ≤ (s.queues.filter (fun q => isMgmt q.src)).length)

/-- Reading a submission entry moves the ring's head (R370). [log 14 DEDUCED] -/
def readEntry (r : Request) (s : State) : State :=
  match r.src with
  | .pcie ep q _ => (s.set (F.CHT_SQ_HEAD_HEAD ep q)
      ((s.get (F.CHT_SQ_HEAD_HEAD ep q) + 1) % ringSize (s.get (F.CHT_Q_CFG_SQ_SIZE ep q)))).putRing ep q
        { ringOf s ep q with failing := !r.ringOk }
  | _ => s

/-! ### Checks (R382) -/

/-- The function a request acts for: 0 the PF and the carriers with its rights, k the VF k (R353, R373).
[log 50 DEDUCED] -/
def reqFn : Request → Nat
  | r => match r.src with | .pcie _ _ fn => fn | _ => 0

/-- The opcodes a VF may never issue (R355). -/
def vfDenied (op : Nat) : Bool := [0x10, 0x11, 0x40, 0x41, 0x50, 0x59, 0x71, 0x7f].contains op

/-- DENIED for the requester's function or carrier (R353, R355, R373). [log 17 DEDUCED] -/
def deniedBy (s : State) (op : Nat) (r : Request) : Bool :=
  let p := reqPart r
  let k := reqFn r
  (match r.src with | .pcie _ q _ => decide (q.val ≠ 0 ∧ p ≠ q.val) | _ => false)
    || (k != 0 && (p != k || vfDenied op || partState s k == 0))
    || (op == 0x18 && isMgmt r.src)
    || (k != 0 && op == 0x70 && (r.params.getD 0 0).toNat == 1)
    || (k != 0 && p == 0 && (op == 0x48 || op == 0x49))

/-- A header the packet rules refuse (R375). [log 36 DESIGN CHOICE] -/
def headerBad (r : Request) : Bool :=
  (r.flags &&& 0xfd) != 0 || decide (8 ≤ r.part.toNat) || r.status != 0 || r.sqh != 0 || r.rfet != 0
    || decide (carrierLimit r.src < r.plen.toNat) || decide (r.params.length < r.plen.toNat)

/-- Opcodes a module quench does not refuse (R383). -/
def quenchExempt (op : Nat) : Bool :=
  [0x00, 0x01, 0x02, 0x08, 0x11, 0x12, 0x58, 0x5a, 0x70, 0x71, 0x7f].contains op

/-- QUENCHED for the partition or the module (R383). `dir0`: a MOVE into a tier. -/
def quenchRefuses (s : State) (op : Nat) (r : Request) : Bool :=
  let dir0 := op == 0x30 && (r.params.getD 0 0).toNat == 0
  (moduleQuenched s && !quenchExempt op)
    || (partState s (reqPart r) == 4 && reqPart r != 0 && ([0x22, 0x28, 0x29, 0x38, 0x59].contains op || dir0))

/-- No system Scarab runs: before step 9, or after it is lost (R368). -/
def noScarab (s : State) : Bool := !s.flag F.CHT_STATUS_SCARAB_UP

/-- Opcodes Chitin answers itself while no system Scarab runs (R368). [log 111 DEDUCED] -/
def chitinAnswers (op : Nat) : Bool := [0x01, 0x08, 0x58].contains op

/-- What an opcode's own checks and effect answer. -/
inductive Ans where
  /-- Done: status, result, and the state after. -/
  | done (status : Nat) (result : List Byte) (s : State)
  /-- Taken and running (ACCEPTED); a completion follows. -/
  | later (w : Work) (s : State)
  /-- Running, with one reply only, when it is done (QUENCH, R394). -/
  | silent (w : Work) (s : State)
  /-- Taken (ACCEPTED), its outcome decided already; the completion follows. -/
  | decided (w : Work) (status : Nat) (result : List Byte) (s : State)
  /-- Done: status and the state after; once the reply has left, something follows that takes the queues with it. -/
  | doneThen (status : Nat) (after : State → State) (s : State)
  /-- Not taken: resend unchanged (RETRY). -/
  | retry

/-- Puts an opcode's answer into effect: NEXT, the reply, the job. -/
def conclude (op : Nat) (r : Request) (take : State → State) (s : State) : Ans → State
  | .done st res t => answer r op st res (take t)
  | .later w t =>
    let t := take { t with jobs := t.jobs ++ [⟨r.src, reqPart r, r.seq, r.token, op, w, none⟩] }
    answer r op stAccepted [] t
  | .decided w st res t =>
    let t := take { t with jobs := t.jobs ++ [⟨r.src, reqPart r, r.seq, r.token, op, w, some (st, res, s.fet)⟩] }
    answer r op stAccepted [] t
  | .silent w t => take { t with jobs := t.jobs ++ [⟨r.src, reqPart r, r.seq, r.token, op, w, none⟩] }
  | .doneThen st after t => after (answer r op st [] (take t))
  | .retry => answerOnly r op stRetry (leBytes (queueNext s r.src).toNat 4) s

/-- A duplicate: the stored reply again with REPLAYED, or ACCEPTED while the request is in progress (R377).
[log 35 DESIGN CHOICE] -/
def replay (op : Nat) (r : Request) (s : State) : State :=
  if s.jobs.any (fun j => queueKey j.src == queueKey r.src && j.seq == r.seq) then
    sendReply r.src op
      { seq := r.seq, token := r.token, status := stAccepted, rfet := s.fet, result := [], part := reqPart r, replayed := true } s
  else match (queueOf s r.src).replies.find? (fun x => x.seq == r.seq) with
    | some x => sendReply r.src op { x with replayed := true } s
    | none => answerOnly r op stBadParam [] s

/-- The opcodes this chapter defines (Table 12.3, BAD_OPCODE). -/
def opDefined (op : Nat) : Bool :=
  [0x00, 0x01, 0x02, 0x08, 0x10, 0x11, 0x12, 0x18, 0x20, 0x21, 0x22, 0x23, 0x28, 0x29, 0x30, 0x31, 0x38, 0x39, 0x40, 0x41,
   0x48, 0x49, 0x50, 0x58, 0x59, 0x5a, 0x60, 0x70, 0x71, 0x7f].contains op

/-- A request came over a port on which no SCP version was settled: it is answered with VERSION (Table 09.10). -/
def noScpVersion (s : State) (src : Source) : Bool :=
  match src with
  | .snl _ n => s.get (F.SNL_NEG_SCP n) == 0
  | _ => false

/-- The header checks of R382, steps 1 to 5, in order; none where all pass. -/
def precheck (s : State) (op : Nat) (r : Request) (bad : Bool) : Option Nat :=
  if noScpVersion s r.src then some stVersion
  else if op ≠ 0x02 ∧ r.version.toNat ≠ queueVer s r.src then some stVersion
  else if !opDefined op then some stBadOpcode
  else if deniedBy s op r then some stDenied
  else if headerBad r || bad then some stBadParam
  else if quenchRefuses s op r then some stQuenched
  else none

/-- What the two front ends need of an opcode: its code, whether it returns ACCEPTED, whether the request's parameters are
malformed, whether a conflicting operation holds what it names, its own checks and effect. -/
structure ScpOp where
  code : Nat
  async : Bool := false
  bad : Bool := false
  busy : State → Bool := fun _ => false
  body : State → Ans

/-- A request as it is read: its queue opened, its entry read. -/
def readIn (r : Request) (s : State) : State := readEntry r (openQueue r s)

/-- A request that is read waits behind a FENCE of its queue (R378). -/
def holdRequest (i : Instr) (r : Request) (s : State) : State :=
  s.putQueue { queueOf s r.src with held := (queueOf s r.src).held ++ [i] }

/-- A request whose turn it would be waits: it carries FENCE and an earlier one has not completed, or an earlier one waits
already (R378). [log 35 DESIGN CHOICE] -/
def mustWait (r : Request) (s : State) : Bool :=
  !(queueOf s r.src).held.isEmpty || ((r.flags &&& 2) != 0 && unfinished s r.src != 0)

/-- A request reaches a front end: nothing where it cannot be read, a fifth source is dropped and counted (R371), a coordinate
that is not accepted is DENIED (R372); otherwise `k` on the state with the request read. -/
def atFrontEnd (op : Nat) (r : Request) (k : State → State) (s : State) : State :=
  if !readable s r then s
  else if noQueue s r.src then { s with mgmtDropped := s.mgmtDropped + 1 }
  else match r.src with
  | .snl c _ => if !snlAccepted s c.toNat then answerOnly r op stDenied [] s else k (readIn r s)
  | _ => k (readIn r s)

/-- A request to Scarab, as read from its queue: its place in the sequence (R377), FENCE (R378), the checks in order (R382),
and its effect. `i`: the row that carries it, for a request that must wait. -/
def serve (i : Instr) (o : ScpOp) (r : Request) (s : State) : State :=
  let next := queueNext s r.src
  let behind := (next - r.seq).toNat
  if (queueOf s r.src).consumed.contains r.seq then replay o.code r s
  else if behind = 0 then
    if mustWait r s then holdRequest i r s
    else
      let take := advance r.src r.seq
      match precheck s o.code r o.bad with
      | some st => answer r o.code st [] (take s)
      | none =>
        if (noScarab s && !chitinAnswers o.code) || o.busy s then answer r o.code stBusy [] (take s)
        else if o.async && decide (64 ≤ inflight s r.src) then answerOnly r o.code stRetry (leBytes next.toNat 4) s
        else conclude o.code r take s (o.body s)
  else if behind ≤ 64 then replay o.code r s
  else if behind < 2 ^ 31 then answerOnly r o.code stBadParam [] s
  else if !(queueOf s r.src).held.isEmpty then holdRequest i r s
  else answerOnly r o.code stRetry (leBytes next.toNat 4) s

/-- One request to Scarab. -/
def scarab (i : Instr) (o : ScpOp) (r : Request) (s : State) : State := atFrontEnd o.code r (serve i o r) s

/-- A request to Chitin's front end (R367), as read: executed on arrival, ahead of its queue; its sequence number counts as
consumed. FENCE has no effect. -/
def serveNow (o : ScpOp) (r : Request) (s : State) : State :=
  let next := queueNext s r.src
  let behind := (next - r.seq).toNat
  if (queueOf s r.src).consumed.contains r.seq then replay o.code r s
  else if 0 < behind ∧ behind ≤ 64 then replay o.code r s
  else if 64 < behind ∧ behind < 2 ^ 31 then answerOnly r o.code stBadParam [] s
  else
    let take := fun t => if behind = 0 then advance r.src r.seq t
      else t.putQueue { queueOf t r.src with consumed := (queueOf t r.src).consumed ++ [r.seq] }
    match precheck s o.code r o.bad with
    | some st => answer r o.code st [] (take s)
    | none =>
      if o.busy s then answer r o.code stBusy [] (take s)
      else if o.async && decide (64 ≤ inflight s r.src) then answerOnly r o.code stRetry (leBytes next.toNat 4) s
      else conclude o.code r take s (o.body s)

/-- One request to Chitin. -/
def chitin (o : ScpOp) (r : Request) (s : State) : State := atFrontEnd o.code r (serveNow o r) s

/-! ### Completions -/

/-- Ends the jobs that satisfy a condition, with a status, a result and the FET at which that took effect (R379).
[log 15 DEDUCED] -/
def endJobsAt (p : Work → Bool) (status : Nat) (result : List Byte) (rfet : Fet) (s : State) : State :=
  { s with jobs := s.jobs.map (fun j => if j.fin.isNone && p j.work then { j with fin := some (status, result, rfet) } else j) }

/-- Ends the jobs that satisfy a condition, with a status and a result decided now (R379). [log 15 DEDUCED] -/
def endJobs (p : Work → Bool) (status : Nat) (result : List Byte) (s : State) : State := endJobsAt p status result s.fet s

/-- Some job with this work is in progress. -/
def hasJob (s : State) (p : Work → Bool) : Bool := s.jobs.any (fun j => j.fin.isNone && p j.work)

/-- Posts the completion of a job: the same SEQ and TOKEN, the final status (R379). -/
def postCompletion (j : Job) (status : Nat) (result : List Byte) (rfet : Fet) (s : State) : State :=
  let s := { s with jobs := s.jobs.filter (fun x => !(queueKey x.src == queueKey j.src && x.seq == j.seq)) }
  let r : Reply := { seq := j.seq, token := j.token, status := status, rfet := rfet, result := result, part := j.part }
  sendReply j.src j.opcode r (storeReply j.src r s)

/-- R49: while TIM_STATUS.VALID is 0, a command that carries an FET returns BUSY. -/
def fetInvalid (s : State) : Bool := !s.flag F.TIM_STATUS_VALID

/-- A partition being created or destroyed is a resource another command still holds (R380). [log 16 DEDUCED] -/
def partChanging (s : State) (p : Nat) : Bool := partState s p == 1 || partState s p == 5

/-- The partition-changing serialisation of R351. [log 16 DEDUCED] -/
def changeBusy (s : State) : Bool := s.flag F.PRT_BUSY_ACTIVE

/-- Takes or releases the serialisation of R351. -/
def setChanging (on : Bool) (p : Nat) (s : State) : State :=
  (s.set F.PRT_BUSY_ACTIVE (if on then 1 else 0)).set F.PRT_BUSY_PART (if on then p else 0)

/-- Parameter byte, and little-endian parameter of `n` bytes. -/
def pByte (r : Request) (i : Nat) : Nat := (r.params.getD i 0).toNat
/-- [log 36 DESIGN CHOICE] -/
def pLe (r : Request) (i n : Nat) : Nat := leAt r.params i n

/-- The parameters end before byte `n`. [log 36 DESIGN CHOICE] -/
def short (r : Request) (n : Nat) : Bool := decide (r.plen.toNat < n)

/-- A data reference (Table 12.4) at byte `i` of the parameters. -/
structure DataRef where
  kind : Nat
  vault : Nat
  len : Nat
  addr : Nat
  deriving DecidableEq, Repr

/-- Reads the data reference at byte `i`. -/
def dataRef (r : Request) (i : Nat) : DataRef := ⟨pByte r i, pByte r (i + 1), pLe r (i + 4) 4, pLe r (i + 8) 8⟩

/-- A data reference that is malformed or not valid on its carrier (R384). -/
def dataRefBad (r : Request) (i : Nat) : Bool :=
  let d := dataRef r i
  pLe r (i + 2) 2 != 0 || decide (2 < d.kind) || (d.kind != 2 && d.vault != 0) || (d.kind == 2 && decide (11 < d.vault))
    || (d.kind == 2 && d.addr % 256 != 0)
    || (d.kind == 1 && (match r.src with | .pcie .. => false | _ => true))

end Sys2Proof.Machine
end

