-- ==== Sys2Proof/Machine/Time.lean ====
section
/-!
DEFINITION. Machine/Time.lean: Fabric Epoch Time: references, selection, the disciplining loop, stepping, holdover,
Cicada time transfer, operating-point changes (02_fabric_time R46-R82, 13 R403-R405).
-/
namespace Sys2Proof.Machine

/-! ### References and their selection -/

/-- Loop states (Table 02.3): 0 FREE, 1 ACQUIRE, 2 LOCKED, 3 SWITCH, 4 HOLDOVER. -/
def loopState (s : State) : Nat := s.get F.TIM_STATUS_STATE

/-- The disciplining loop is enabled (TIM_CTRL.ENABLE). [log 58 DEDUCED] -/
def loopOn (s : State) : Bool := s.flag F.TIM_CTRL_ENABLE

/-- A port's link is trained: STANDBY, ACTIVE or RETRAIN (Table 09.9). -/
def portTrained (s : State) (n : Nat) : Bool := decide (6 ≤ s.get (F.SNL_STATUS_STATE n) ∧ s.get (F.SNL_STATUS_STATE n) ≤ 8)

/-- The reference codes in priority order (R59, R60, R495): FORCE_REF alone where set; PRIO0 upward to the first 0 or
invalid nibble, repeats skipped; never 0x1 on a rack manager; the rack-manager order on an acting standby.
[log 52 DESIGN CHOICE] -/
def prioList (s : State) : List Nat :=
  let act := s.get F.CHT_MGR_STATUS_ACT
  let raw := if act = 4 then [3, 4, 2] else
    ([s.get F.TIM_REF_PRIO_PRIO0, s.get F.TIM_REF_PRIO_PRIO1, s.get F.TIM_REF_PRIO_PRIO2,
      s.get F.TIM_REF_PRIO_PRIO3].takeWhile (fun c => decide (1 ≤ c ∧ c ≤ 4))).eraseDups
  let forced := s.get F.TIM_CTRL_FORCE_REF
  let l := if forced = 0 then raw else [forced]
  if s.get F.CHT_STRAP_ROLE = 1 ∨ act = 4 then l.filter (· != 1) else l

/-- Ports of a Cicada code (Table 02.1): T axis for 0x1, the others for 0x2. -/
def codePorts (code : Nat) : List Nat :=
  if code = 1 then List.range 32 else if code = 2 then List.range' 32 32 else []

/-- The partner condition of Table 02.1: LOCKED, or HOLDOVER within HOLD_LIMIT_NS; STEPS at most 14. -/
def peerGood (s : State) (n : Nat) : Bool :=
  let st := s.get (F.TIM_PORT_STATUS_PEER_STATE n)
  (st == 2 || (st == 4 && decide ((s.cic n).peerEst ≤ s.get F.TIM_HOLD_CFG_HOLD_LIMIT_NS)))
    && decide (s.get (F.TIM_PORT_STATUS_PEER_STEPS n) ≤ 14)

/-- Offset of the current FET from a reference, in ps. -/
def refOffset (s : State) (code port : Nat) : Int :=
  if code = 1 ∨ code = 2 then (s.cic port).offPs else AMap.get (fun _ => 0) s.time.offsets code

/-- A reference is far (R55). -/
def isFar (s : State) (code port : Nat) : Bool :=
  decide ((s.get F.TIM_SLEW_CFG_STEP_LIMIT_NS : Int) * 1000 < (refOffset s code port).natAbs)

/-- Largest less smallest of a list of offsets. -/
def spread (l : List Int) : Nat :=
  match l with
  | [] => 0
  | x :: xs => (xs.foldl max x - xs.foldl min x).natAbs

/-- The full qualification criteria of Table 02.1, and of R55 for a far reference. A port that has qualified stays so without
a run of good frames, until a loss criterion of Table 02.1. [log 60 DEDUCED] -/
def qualifies (s : State) (code port : Nat) : Bool :=
  (match code with
    | 1 | 2 => (codePorts code).contains port && portTrained s port
        && (decide (4 ≤ (s.cic port).good) || (s.cic port).qualSince.isSome) && peerGood s port && decide (s.get (F.TIM_PORT_STATUS_MISSED port) < 4)
    | 3 => s.flag F.CHT_PIN_STATUS_REF_CLK_OK && decide (3 ≤ s.time.ppsRun)
    | 4 => s.flag F.TIM_CTRL_PTP_EN && s.time.ptpGm.isSome && decide (16 ≤ s.time.ptpOffsets.length)
        && decide (spread s.time.ptpOffsets ≤ 50000)
    | _ => false)
  && !(isFar s code port && anyPlanStarted s)

/-- The weaker evidence that suffices for acquisition in FREE (R56). -/
def provisionally (s : State) (code port : Nat) : Bool :=
  (match code with
    | 1 | 2 => (codePorts code).contains port && portTrained s port && (s.cic port).heard && peerGood s port
    | 3 => s.flag F.CHT_PIN_STATUS_REF_CLK_OK && decide (1 ≤ s.time.ppsRun)
    | 4 => s.flag F.TIM_CTRL_PTP_EN && decide (1 ≤ s.time.ptpOffsets.length)
    | _ => false)
  && !(isFar s code port && anyPlanStarted s)

/-- Ports of a code that qualify, best first: lowest partner STEPS, then lowest number (R59). -/
def bestPort (s : State) (code : Nat) (ok : Nat → Bool) : Option Nat :=
  ((codePorts code).filter ok).foldl (fun b n => match b with
    | none => some n
    | some m => if s.get (F.TIM_PORT_STATUS_PEER_STEPS n) < s.get (F.TIM_PORT_STATUS_PEER_STEPS m) then some n else b) none

/-- The highest-priority qualified reference (R59), leaving out one code. [log 58 DEDUCED] -/
def bestRef (s : State) : Option (Nat × Nat) :=
  (prioList s).findSome? (fun c =>
    if c = 1 ∨ c = 2 then (bestPort s c (fun n => qualifies s c n)).map (fun n => (c, n))
    else if qualifies s c 0 && bitOf (s.get F.TIM_REF_QUAL_QUALIFIED) (c - 1) == 1 then some (c, 0) else none)

/-- STEPS of a module that follows a reference (R59): the source's STEPS plus 1, or 0 for codes 0x3 and 0x4. -/
def stepsOf (s : State) (code port : Nat) : Nat :=
  if code = 1 ∨ code = 2 then min 15 (s.get (F.TIM_PORT_STATUS_PEER_STEPS port) + 1) else 0

/-- The error bound a locked module sends (R69), ns. -/
def estOf (s : State) (code port : Nat) : Nat :=
  match code with
  | 1 | 2 => min 65535 ((s.cic port).peerEst + 4)
  | 3 => 2
  | 4 => min 65535 ((spread s.time.ptpOffsets + 999) / 1000)
  | _ => 65535

/-- A bit of a per-code field of TIM_REF_QUAL, codes 1 to 4. -/
def setCodeBit (f : Fld) (code : Nat) (on : Bool) (s : State) : State :=
  let v := s.get f
  let b := 2 ^ (code - 1)
  if on && bitOf v (code - 1) == 0 then s.set f (v + b)
  else if !on && bitOf v (code - 1) == 1 then s.set f (v - b) else s

/-- The loop enters a state; LEARNED counts from the moment OVEN_OK and LOCKED hold together (R66). -/
def enterState (st : Nat) (s : State) : State :=
  let s := s.set F.TIM_STATUS_STATE st
  let since := if st = 2 ∧ s.flag F.TIM_STATUS_OVEN_OK then some s.fet else none
  { s with time := { s.time with learnSince := since, goodRun := 0 } }

/-- The loop selects a reference: REF, SEL_PORT, STEPS (R59). [log 58 DEDUCED] -/
def selectRef (code port : Nat) (s : State) : State :=
  let s := s.set F.TIM_STATUS_REF code
  let s := if code = 1 ∨ code = 2 then s.set F.TIM_REF_QUAL_SEL_PORT port else s
  s.set F.TIM_STATUS_STEPS (stepsOf s code port)

/-- The reference selected now. -/
def selected (s : State) : Nat × Nat := (s.get F.TIM_STATUS_REF, s.get F.TIM_REF_QUAL_SEL_PORT)

/-- A code and port are the ones selected. -/
def isSelected (s : State) (code port : Nat) : Bool :=
  s.get F.TIM_STATUS_REF == code && code != 0 && ((code != 1 && code != 2) || s.get F.TIM_REF_QUAL_SEL_PORT == port)

/-! ### Far references (R55) -/

/-- Cicada frames still come at a port: a good one has come, and fewer than 4 are missed. -/
def cicadaHeard (s : State) (n : Nat) : Bool :=
  portTrained s n && (s.cic n).heard && decide (s.get (F.TIM_PORT_STATUS_MISSED n) < 4)

/-- A reference of the code is far: for codes 0x1 and 0x2 that of any port at which Cicada frames come. -/
def codeFar (s : State) (code : Nat) : Bool :=
  if code = 1 ∨ code = 2 then (codePorts code).any (fun n => cicadaHeard s n && isFar s code n)
  else isFar s code 0

/-- The highest-priority reference present is far (TIM_STATUS.FAR). -/
def updateFar (s : State) : State :=
  let c := ((prioList s).find? (fun c => bitOf (s.get F.TIM_REF_QUAL_PRESENT) (c - 1) == 1)).getD 0
  s.set F.TIM_STATUS_FAR (if c ≠ 0 ∧ bitOf (s.get F.TIM_REF_QUAL_FAR) (c - 1) = 1 then 1 else 0)

/-- The far bits follow the offsets. -/
def refreshFars (s : State) : State :=
  updateFar (s.forEach [1, 2, 3, 4] (fun c t => setCodeBit F.TIM_REF_QUAL_FAR c (codeFar t c) t))

/-- A far reference is not qualified while a plan is started (R55), which restarts the count of R65. -/
def unqualifyFar (code port : Nat) (s : State) : State :=
  if isFar s code port && anyPlanStarted s then
    let s := if code = 1 ∨ code = 2 then s.setCic port { s.cic port with qualSince := none }
      else { s with time := { s.time with qualSince := s.time.qualSince.filter (fun e => e.1 != code) } }
    if (codePorts code).any (fun n => qualifies s code n) then s else setCodeBit F.TIM_REF_QUAL_QUALIFIED code false s
  else s

/-- What the start of a plan does to far references (R55). -/
def unqualifyFars (s : State) : State :=
  let s := s.forEach (List.range 32) (unqualifyFar 1)
  let s := s.forEach (List.range' 32 32) (unqualifyFar 2)
  unqualifyFar 4 0 (unqualifyFar 3 0 s)

/-- A reference's far bit follows its offset; becoming far is an alarm and a class 0 note, and under a started plan it
ends the reference's qualification (R55). -/
def noteFar (code port : Nat) (s : State) : State :=
  let far := codeFar s code
  let was := bitOf (s.get F.TIM_REF_QUAL_FAR) (code - 1) == 1
  let s := setCodeBit F.TIM_REF_QUAL_FAR code far s
  let s := if far && !was then noteAt 5 0 108 18 code (s.set F.TIM_ALARM_FAR 1) else s
  updateFar (unqualifyFar code port s)

/-- EST_ERR follows the selected source (R69); in FREE, and before the first LOCKED, it reads 0xFFFF. -/
def refreshEst (s : State) : State :=
  let (c, n) := selected s
  if loopState s = 2 ∨ loopState s = 3 ∨ (loopState s = 1 ∧ s.flag F.TIM_STATUS_VALID) then
    s.set F.TIM_STATUS_EST_ERR (estOf s c n)
  else s

/-! ### Stepping FET (R48) -/

/-- What a partition holds armed against FET is discarded: step boundaries, a staged commit, a checkpoint epoch; and the
bases that slot schedules and digests count from (R48). [log 59 DEDUCED] -/
def discardPart (p : Nat) (s : State) : State :=
  let d := s.part p
  (s.setPart p { d with armed := [], commit := none, ckptAt := none, stepBase := 0, digestBase := 0, digestGot := 0
                        digestAt := 0, peerDigest := [] }).set (F.CHT_CFG_STATUS_PENDING p) 0

/-- Slot schedules are discarded: the frames handed to a port for its slots, and what its ERU did in the running step
(R48). [log 59 DEDUCED] -/
def discardSlots (n : Nat) (s : State) : State :=
  (s.setPort n { s.port n with sched := [] }).setEru n { s.eru n with acted := [] }

/-- Everything armed against FET is discarded, and the commands that armed it complete with FAULTED (R48).
[log 59 DEDUCED] -/
def discardArmed (s : State) : State :=
  let ckpts := (List.range 8).filter (fun p => (s.part p).ckptAt.isSome)
  let s := s.forEach (List.range 8) discardPart
  let s := s.forEach (List.range 64) discardSlots
  let s := s.overRegs 0x10100 0x101c0 (fun _ _ => 0)
  let s := s.set F.PWR_ENV_RAMP_PENDING 0
  let s := s.overRegs 0x28000 0x28580 (fun o w => if o % 16 = 0 then Word.withField w 8 8 0 else w)
  let s := { s with injects := [] }
  let s := dropShadow s
  endJobs (fun w => match w with
    | .cfgCommit .. | .mapUpdate .. | .partCreate .. | .migrate .. | .inject .. => true
    | .ckptWrite p => ckpts.contains p
    | _ => false) stFaulted [] s

/-- An FET moved by a number of nanoseconds. -/
def shiftFet (d : Int) (t : Fet) : Fet := ((t : Int) + d).toNat

/-- The marks of a port from which durations run, moved by a step of FET. The transmitter counts thirds of a
nanosecond; a mark of 0 that stands for never stays. [log 131 DEDUCED] -/
def rebasePort (d : Int) (p : PortState) : PortState :=
  let m := fun (t : Fet) => if t = 0 then 0 else shiftFet d t
  let third := fun (t : Nat) => ((t : Int) + 3 * d).toNat
  { p with
    lastGood := shiftFet d p.lastGood, detectSince := shiftFet d p.detectSince, noteAt := m p.noteAt, calAt := m p.calAt
    searchSince := p.searchSince.map (shiftFet d), retrainFail := p.retrainFail.map (shiftFet d)
    txFree := third p.txFree, txAt := third p.txAt, nextBlock := third p.nextBlock }

/-- The marks of an ERU: when the backoff of a refused frame ends (0: no backoff runs). [log 131 DEDUCED] -/
def rebaseEru (d : Int) (e : EruState) : EruState :=
  { e with refused := e.refused.map (fun x => (x.1, x.2.1, if x.2.2 = 0 then 0 else shiftFet d x.2.2)) }

/-- The marks of a network interface: when its retry records began. [log 131 DEDUCED] -/
def rebaseNi (d : Int) (n : NiState) : NiState :=
  { n with retry := n.retry.map (fun r => { r with at_ := shiftFet d r.at_ }) }

/-- The marks of a tier's channels: when a recalibration ends (R436). [log 131 DEDUCED] -/
def rebaseCal (d : Int) (l : List TierCal) : List TierCal :=
  l.map (fun c => { c with busyTo := if c.busyTo = 0 then 0 else shiftFet d c.busyTo })

/-- The marks of a field: scrubs, recalibrations, when mover accesses reached their tier. [log 131 DEDUCED] -/
def rebaseField (d : Int) (f : FieldState) : FieldState :=
  { f with scrubAt := if f.scrubAt = 0 then 0 else shiftFet d f.scrubAt, cal := rebaseCal d f.cal
           accs := f.accs.map (fun a => { a with reached := shiftFet d a.reached }) }

/-- The marks of a Vault: scrubs, recalibrations, the staged journal entries of Vault 0. [log 131 DEDUCED] -/
def rebaseVault (d : Int) (v : VaultState) : VaultState :=
  { v with scrubAt := if v.scrubAt = 0 then 0 else shiftFet d v.scrubAt, cal := rebaseCal d v.cal
           stagedAt := shiftFet d v.stagedAt }

/-- The marks of a Cicada engine: its time-stamps and, where it has measured one, its offset. -/
def rebaseCic (d : Int) (c : CicadaPort) : CicadaPort :=
  let ps := fun (t : Nat) => ((t : Int) + 1000 * d).toNat
  { c with qualSince := c.qualSince.map (shiftFet d), offPs := if c.heard then c.offPs + 1000 * d else c.offPs
           tx := c.tx.map (fun e => (e.1, ps e.2)), rxFetPs := if c.heard then ps c.rxFetPs else c.rxFetPs
           stepsAt := shiftFet d c.stepsAt }

/-- The marks of every port and of its Cicada engine. [log 131 DEDUCED] -/
def rebasePorts (d : Int) (s : State) : State :=
  s.forEach (List.range 64) (fun n t => (t.setCic n (rebaseCic d (t.cic n))).setPort n (rebasePort d (t.port n)))

/-- An offset from the nearest second, ps (R58). -/
def nearSecond (t : Int) : Int := (t + 500000000000) % 1000000000000 - 500000000000

/-- The offsets measured from REF_PPS and from PTP, where those references are present, after a step. -/
def rebaseOffsets (d : Int) (s : State) : AMap Int :=
  let off := fun (c : Nat) => AMap.get (fun _ => 0) s.time.offsets c + 1000 * d
  let put := fun (l : AMap Int) (c : Nat) (v : Int) =>
    if bitOf (s.get F.TIM_REF_QUAL_PRESENT) (c - 1) = 1 then AMap.put (fun _ => 0) l c v else l
  put (put s.time.offsets 3 (nearSecond (off 3))) 4 (off 4)

/-- The marks of the power block move with a step of FET. -/
def rebasePower (d : Int) (p : PowerState) : PowerState :=
  let m := shiftFet d
  { p with
    wakeQ := p.wakeQ.map (fun w => { w with reqAt := m w.reqAt }), firstPlan := p.firstPlan.map m
    entering := p.entering.map (fun e => { e with at_ := m e.at_ }), slews := p.slews.map (fun r => { r with since := m r.since })
    ramps := p.ramps.map (fun r => { r with since := m r.since }), opOwn := p.opOwn.map (fun o => { o with at_ := m o.at_ })
    bandLeft := p.bandLeft.map (fun e => (e.1, m e.2)), samples := p.samples.map (fun e => (m e.1, e.2))
    energies := p.energies.map (fun e => (m e.1, e.2)), fullSince := p.fullSince.map m, apartSince := p.apartSince.map m }

/-- The marks outside the ports. [log 131 DEDUCED] -/
def rebaseMarks (d : Int) (s : State) : State :=
  let m := shiftFet d
  let tm := s.time
  { s with
    time := { tm with
      offsets := rebaseOffsets d s, ptpOffsets := tm.ptpOffsets.map (· + 1000 * d)
      provisional := tm.provisional.map (fun e => (e.1, e.2.1, m e.2.2)), qualSince := tm.qualSince.map (fun e => (e.1, m e.2))
      ppsLastPs := tm.ppsLastPs.map (fun t => ((t : Int) + 1000 * d).toNat)
      ptpAnnounceAt := m tm.ptpAnnounceAt, ptpSyncAt := m tm.ptpSyncAt, switchEnd := m tm.switchEnd
      switchAt := m tm.switchAt
      holdSince := m tm.holdSince, learnSince := tm.learnSince.map m }
    boot := { s.boot with holdStart := m s.boot.holdStart }
    mgr := { s.mgr with
      healthAt := (List.range 8).foldl (fun l k => AMap.put (fun _ => 0) l k (m (AMap.get (fun _ => 0) l k))) s.mgr.healthAt
      pollDue := m s.mgr.pollDue, missDue := s.mgr.missDue.map m }
    power := rebasePower d s.power
    log := { s.log with corr := s.log.corr.map (fun c => { c with times := c.times.map m, notedAt := c.notedAt.map m }) }
    queues := s.queues.map (fun q => { q with lastFet := m q.lastFet })
    nis := AMap.mapVals (fun _ => {}) (rebaseNi d) s.nis
    erus := AMap.mapVals (fun _ => {}) (rebaseEru d) s.erus
    fields := AMap.mapVals (fun _ => {}) (rebaseField d) s.fields
    vaults := AMap.mapVals (fun _ => {}) (rebaseVault d) s.vaults
    mesh := { s.mesh with drainEnd := m s.mesh.drainEnd } }

/-- A step moves FET and no clock: durations that run across it keep what has elapsed, and every measured offset moves
with FET (R48). The FETs of records and frames stay as they were written. [log 131 DEDUCED] -/
def rebase (d : Int) (s : State) : State := rebasePorts d (rebaseMarks d s)

/-- FET steps to the reference (R48, R437): by the offset, rounded to 160 ns once step 5 has chosen TIM_ALIGN_FET; what
remains is slewed away in ACQUIRE. [log 59 DEDUCED] -/
def stepFet (offPs : Int) (s : State) : State :=
  let unit : Int := if 5 ≤ stepDone s then 160000 else 1000
  let n := (offPs + unit / 2) / unit
  let s := discardArmed s
  let moved := (s.fet : Int) - n * unit / 1000
  let fet := (moved % 18446744073709551616).toNat
  let s := { rebase ((fet : Int) - s.fet) s with fet := fet }
  let left := offPs - n * unit
  let s := { s with time := { s.time with residualPs := left, switchAt := fet, switchOff := left } }
  refreshFars (s.set F.TIM_ALARM_STEPPED 1)

/-- ACQUIRE on a reference (R48): FET is stepped to it. [log 158 DESIGN CHOICE] -/
def enterAcquire (code port : Nat) (fromFree : Bool) (s : State) : State :=
  let off := refOffset s code port
  let s := enterState 1 (selectRef code port s)
  refreshEst (stepFet off { s with time := { s.time with fromFree := fromFree } })

/-- SWITCH to a reference: the offset is slewed away, never stepped (R63). -/
def enterSwitch (code port : Nat) (s : State) : State :=
  let off := refOffset s code port
  let s := refreshEst (enterState 3 (selectRef code port s))
  { s with time := { s.time with residualPs := off, switchAt := s.fet, switchOff := off } }

/-- What the running switch, or the slew in ACQUIRE after a step, has removed so far, ps: SLEW_PPB of the time since it began
(R63, R437). -/
def slewed (s : State) : Nat := (s.fet - s.time.switchAt) * s.get F.TIM_SLEW_CFG_SLEW_PPB / 1000000

/-- What it has still to remove (R63, R437). -/
def slewLeft (s : State) : Int := s.time.switchOff.sign * ((s.time.switchOff.natAbs - slewed s : Nat) : Int)

/-- HOLDOVER (R61, R66). -/
def enterHoldover (s : State) : State :=
  let s := enterState 4 (s.set F.TIM_STATUS_REF 0)
  let s := s.set F.TIM_ALARM_HOLD_ENTER 1
  { s with time := { s.time with holdSince := s.fet, holdBase := s.get F.TIM_STATUS_EST_ERR } }

/-- FREE: FET is not disciplined (R61, R69). -/
def enterFree (s : State) : State :=
  let s := enterState 0 s
  let s := s.set F.TIM_STATUS_REF 0
  let s := s.set F.TIM_STATUS_STEPS 15
  s.set F.TIM_STATUS_EST_ERR 65535

/-- A newly selected reference is taken up: through ACQUIRE where it is far, steps are permitted and no plan is
started; otherwise by a switch (R48, R63). -/
def takeUp (code port : Nat) (s : State) : State :=
  if isFar s code port && s.flag F.TIM_CTRL_STEP_EN && !anyPlanStarted s then enterAcquire code port false s
  else enterSwitch code port s

/-- The selected reference is lost (R61, R64): another qualified one is taken up, else HOLDOVER; a reference lost in an
ACQUIRE entered from FREE returns to FREE; a switch in progress stops where it stands. [log 152 DESIGN CHOICE] -/
def loseSelected (s : State) : State :=
  if !loopOn s then s
  else if loopState s = 1 ∧ s.time.fromFree then enterFree s
  else
    let s := s.set F.TIM_ALARM_REF_LOST 1
    let s := if loopState s = 3 then { s with time := { s.time with residualPs := slewLeft s } } else s
    match bestRef s with
    | some (c, n) => takeUp c n s
    | none => enterHoldover s

/-- The provisional references less one (R56); codes 0x3 and 0x4 have no port. -/
def dropProvisional (code port : Nat) (l : List (Nat × Nat × Fet)) : List (Nat × Nat × Fet) :=
  l.filter (fun e => !(e.1 == code && ((code != 1 && code != 2) || e.2.1 == port)))

/-- A reference no longer qualifies: its bit clears unless another port of its code still qualifies. -/
def loseRef (code port : Nat) (s : State) : State :=
  let sel := isSelected s code port
  let s := { s with time := { s.time with
    qualSince := s.time.qualSince.filter (fun e => e.1 != code)
    provisional := dropProvisional code port s.time.provisional } }
  let s := if code = 1 ∨ code = 2 then s.setCic port { s.cic port with good := 0, heard := false, qualSince := none } else s
  let still := (codePorts code).any (fun n => qualifies s code n)
  let s := setCodeBit F.TIM_REF_QUAL_QUALIFIED code still s
  if sel && loopState s != 0 then loseSelected s else s

/-- One offset sample drives the loop where it is enabled (R61, R62): 100 consecutive samples of at most 2 ns in ACQUIRE, what
a step left being slewed away (R437), reach LOCKED. -/
def loopSample (off : Int) (s : State) : State :=
  if !loopOn s then s else
  let s := { s with time := { s.time with residualPs := off } }
  if loopState s = 1 then
    let run := if off.natAbs ≤ 2000 ∧ (slewLeft s).natAbs ≤ 2000 then s.time.goodRun + 1 else 0
    if 100 ≤ run then refreshEst ((enterState 2 s).set F.TIM_STATUS_VALID 1)
    else refreshEst { s with time := { s.time with goodRun := run } }
  else refreshEst s

/-! ### Commands -/

/-- REF_PPS_EDGE (R58, R62, Table 02.1): the offset is that of the stamp less TIM_PPS_DELAY from the nearest second;
stamps spaced 1 s ± 100 ns count toward qualification, any other spacing sets PPS_BAD and starts again.
[log 135 DESIGN CHOICE] -/
def refPpsEdge (stampPs : Nat) (refClkOk : Bool) (s : State) : State :=
  let s := s.set F.CHT_PIN_STATUS_REF_CLK_OK (if refClkOk then 1 else 0)
  let t : Int := (stampPs : Int) - s.geti F.TIM_PPS_DELAY_DELAY_PS
  let off := nearSecond t
  let good := match s.time.ppsLastPs with
    | none => true
    | some l => decide (((stampPs : Int) - l - 1000000000000).natAbs ≤ 100000)
  let s := if good then s else s.set F.TIM_ALARM_PPS_BAD 1
  let s := { s with time := { s.time with
    ppsLastPs := some stampPs
    ppsRun := if good then s.time.ppsRun + 1 else 1
    offsets := AMap.put (fun _ => 0) s.time.offsets 3 off } }
  let s := setCodeBit F.TIM_REF_QUAL_PRESENT 3 true s
  let s := noteFar 3 0 s
  if isSelected s 3 0 then loopSample off s else s

/-- Announce interval, ns, from logMessageInterval taken within −3 to 4 (R57). -/
def announceNs (l : Int) : Nat :=
  if l < -3 then 125000000 else if l < 0 then 1000000000 / 2 ^ l.natAbs
  else 1000000000 * 2 ^ (min 4 l.natAbs)

/-- PTP_EXCHANGE (R57, R62): an Announce names the grandmaster and its interval; an exchange gives one offset. Where several
grandmasters send, the last Announce selects, and the offsets of another are dropped. [log 157 DESIGN CHOICE] -/
def ptpEvent (ev : PtpEvent) (s : State) : State :=
  if !s.flag F.TIM_CTRL_PTP_EN then s else
  match ev with
  | .announce gm l =>
    let same := s.time.ptpGm == some gm
    let s := { s with time := { s.time with
      ptpGm := some gm, ptpLog := l, ptpAnnounceAt := s.fet
      ptpOffsets := if same || s.time.ptpGm.isNone then s.time.ptpOffsets else [] } }
    setCodeBit F.TIM_REF_QUAL_PRESENT 4 true s
  | .exchange gm off spacing =>
    if s.time.ptpGm.isSome && s.time.ptpGm != some gm then s else
    let s := { s with time := { s.time with
      ptpOffsets := (off :: s.time.ptpOffsets).take 16, ptpSyncAt := s.fet, ptpSyncSpacing := spacing
      offsets := AMap.put (fun _ => 0) s.time.offsets 4 off } }
    let s := noteFar 4 0 (setCodeBit F.TIM_REF_QUAL_PRESENT 4 true s)
    if isSelected s 4 0 then loopSample off s else s

/-- The PTP loss criterion: 3 Announce intervals without an Announce, or 4 Sync intervals without a Sync. -/
def ptpLost (s : State) : Bool :=
  decide (s.time.ptpAnnounceAt + 3 * announceNs s.time.ptpLog ≤ s.fet)
    || (s.time.ptpSyncSpacing != 0 && decide (s.time.ptpSyncAt + 4 * s.time.ptpSyncSpacing ≤ s.fet))

/-- A reference enters the provisional ones (R56), unless it meets its full criteria or is among them. -/
def markProvisional (code port : Nat) (s : State) : State :=
  let l := s.time.provisional
  if qualifies s code port || l.any (fun e => e.1 == code && e.2.1 == port) then s
  else { s with time := { s.time with provisional := l ++ [(code, port, s.fet)] } }

/-- The reference that FREE acquires: the highest-priority one that qualifies or does so provisionally, on its best port
(R56, R59). -/
def bestAcquire (s : State) : Option (Nat × Nat) :=
  let ok := fun (c n : Nat) => qualifies s c n || provisionally s c n
  (prioList s).findSome? (fun c =>
    if c = 1 ∨ c = 2 then (bestPort s c (ok c)).map (fun n => (c, n)) else if ok c 0 then some (c, 0) else none)

/-- REF_QUALIFIED (R55, R56, R59, R61): a reference that meets its criteria is qualified, one that meets the weaker
ones in FREE is provisional, and the loop selects. -/
def refQualified (code port : Nat) (s : State) : State :=
  if !loopOn s then s else
  let s := noteFar code port s
  let full := qualifies s code port
  if full || (loopState s == 0 && provisionally s code port) then
    let s := if full then
        let s := setCodeBit F.TIM_REF_QUAL_QUALIFIED code true s
        let q := s.time.qualSince
        let q := if q.any (fun e => e.1 == code) then q else q ++ [(code, s.fet)]
        { s with time := { s.time with provisional := dropProvisional code port s.time.provisional, qualSince := q } }
      else markProvisional code port s
    match loopState s with
    | 0 =>
      match bestAcquire s with
      | some (c, n) => enterAcquire c n true (markProvisional c n s)
      | none => s
    | 4 =>
      match bestRef s with
      | some (c, n) => takeUp c n s
      | none => s
    | _ => s
  else s

/-- The loss criteria of Table 02.1. -/
def lostTable (s : State) (code port : Nat) (clkLost : Bool) : Bool :=
  match code with
  | 1 | 2 => decide (4 ≤ s.get (F.TIM_PORT_STATUS_MISSED port)) || !portTrained s port || !peerGood s port
  | 3 => clkLost || (match s.time.ppsLastPs with
      | some l => decide (l + 1000000100000 < s.fet * 1000)
      | none => true)
  | 4 => ptpLost s
  | _ => false

/-- A reference is lost: by Table 02.1, or, but for the one a switch is slewing to, by being far under a started plan
(R55). [log 58 DEDUCED] -/
def lostNow (s : State) (code port : Nat) (clkLost : Bool) : Bool :=
  lostTable s code port clkLost
    || (isFar s code port && anyPlanStarted s && !(loopState s == 3 && isSelected s code port))

/-- Cicada frames of a code still come at some port. -/
def cicadaPresent (s : State) (code : Nat) : Bool := (codePorts code).any (cicadaHeard s)

/-- What the loss of a reference by Table 02.1 does to its evidence and to its presence. -/
def dropEvidence (code port : Nat) (clkLost : Bool) (s : State) : State :=
  let s := match code with
    | 1 | 2 => s.setCic port { s.cic port with good := 0, heard := false, qualSince := none }
    | 3 =>
      { (if clkLost then s.set F.CHT_PIN_STATUS_REF_CLK_OK 0 else s) with
        time := { s.time with ppsRun := 0, offsets := AMap.put (fun _ => 0) s.time.offsets 3 0 } }
    | 4 => { s with time := { s.time with
        ptpGm := none, ptpOffsets := [], offsets := AMap.put (fun _ => 0) s.time.offsets 4 0 } }
    | _ => s
  refreshFars (setCodeBit F.TIM_REF_QUAL_PRESENT code (cicadaPresent s code) s)

/-- REF_LOST (R55, R61, R64, Table 02.1). -/
def refLost (code port : Nat) (clkLost : Bool) (s : State) : State :=
  if !lostNow s code port clkLost then s
  else loseRef code port (if lostTable s code port clkLost then dropEvidence code port clkLost s else s)

/-- A provisional reference whose 3 s have run unconfirmed (R56). -/
def overdue (s : State) (code : Nat) (e : Nat × Nat × Fet) : Bool := e.1 == code && decide (e.2.2 + 3000000000 ≤ s.fet)

/-- PROVISIONAL_TIMEOUT (R56): the references of a code that have run 3 s without confirmation fail. In ACQUIRE from FREE
the loop returns to FREE; after LOCKED it is a lost reference. [log 3 DESIGN CHOICE, 152 DESIGN CHOICE] -/
def provisionalTimeout (code : Nat) (s : State) : State :=
  let late := s.time.provisional.filter (overdue s code)
  let rest := s.time.provisional.filter (fun e => !overdue s code e)
  match late.find? (fun e => isSelected s code e.2.1) with
  | some (_, port, _) => loseRef code port { s with time := { s.time with provisional := rest } }
  | none => { s with time := { s.time with provisional := rest } }

/-- SWITCH_COMPLETE (R61, R63): the residual is at most 2 ns, and the slew at SLEW_PPB has had the time to remove the
rest of the offset. -/
def switchComplete (residualPs : Int) (s : State) : State :=
  if loopOn s ∧ loopState s = 3 ∧ residualPs.natAbs ≤ 2000 ∧ (slewLeft s).natAbs ≤ 2000 then
    let s := refreshEst ((enterState 2 s).set F.TIM_ALARM_SWITCH_DONE 1)
    { s with time := { s.time with switchEnd := s.fet, residualPs := residualPs } }
  else s

/-- When a reference qualified without interruption since (R65); a port of the selected code, with the STEPS its partner
reports (R59). -/
def qualifiedSince (s : State) (code port : Nat) : Option Fet :=
  if code = 1 ∨ code = 2 then
    (s.cic port).qualSince.map (fun q => if code = (selected s).1 then max q (s.cic port).stepsAt else q)
  else (s.time.qualSince.find? (fun e => e.1 == code)).map (·.2)

/-- Is a reference of higher priority than the selected one: an earlier code, or a port of the same code with a lower
partner STEPS (R59). -/
def higherThanSelected (s : State) (code port : Nat) : Bool :=
  let (c, n) := selected s
  let l := prioList s
  if code = c then (code == 1 || code == 2) && decide (s.get (F.TIM_PORT_STATUS_PEER_STEPS port) < s.get (F.TIM_PORT_STATUS_PEER_STEPS n))
  else l.contains code && decide (l.idxOf code < l.idxOf c)

/-- A reference of higher priority has stayed qualified for REVERT_MS (R65). -/
def revertDue (s : State) (code port : Nat) : Bool :=
  match qualifiedSince s code port with
  | some q => higherThanSelected s code port && qualifies s code port
      && decide (max q s.time.switchEnd + s.get F.TIM_QUAL_CFG_REVERT_MS * 1000000 ≤ s.fet)
  | none => false

/-- The reference a revert moves to: the first code in priority order that is due, on its best port (R59, R65). -/
def revertTo (s : State) : Option (Nat × Nat) :=
  (prioList s).findSome? (fun c =>
    if c = 1 ∨ c = 2 then (bestPort s c (fun n => revertDue s c n)).map (fun n => (c, n))
    else if revertDue s c 0 then some (c, 0) else none)

/-- REVERT_TIMER (R65): a reference of higher priority than the selected one has stayed qualified for REVERT_MS.
[log 3 DESIGN CHOICE] -/
def revertTimer (code port : Nat) (s : State) : State :=
  if loopOn s ∧ loopState s = 2 ∧ revertDue s code port then
    match revertTo s with
    | some (c, n) => takeUp c n s
    | none => s
  else s

/-- OVEN_STABLE (R66). -/
def ovenStable (s : State) : State :=
  if s.flag F.TIM_STATUS_OVEN_OK then s else
  let s := s.set F.TIM_STATUS_OVEN_OK 1
  if loopState s = 2 then { s with time := { s.time with learnSince := some s.fet } } else s

/-- HOLDOVER_LEARNED (R66): OVEN_OK and LOCKED together for 15 minutes. -/
def holdoverLearned (s : State) : State :=
  match s.time.learnSince with
  | some t => if t + 900000000000 ≤ s.fet then s.set F.TIM_STATUS_LEARNED 1 else s
  | none => s

/-- EST_ERR in HOLDOVER at the present FET (R66): from its value at entry, 1 ns per second where LEARNED, else 20, whole
ns. -/
def holdEst (s : State) : Nat :=
  min 65535 (s.time.holdBase + (s.fet - s.time.holdSince) * (if s.flag F.TIM_STATUS_LEARNED then 1 else 20) / 1000000000)

/-- EST_ERR follows the time in HOLDOVER. -/
def growEst (s : State) : State :=
  if loopState s = 4 then s.set F.TIM_STATUS_EST_ERR (holdEst s) else s

/-- HOLD_LIMIT_EXCEEDED (R66). -/
def holdLimitExceeded (s : State) : State :=
  let s := growEst s
  if loopState s = 4 ∧ s.get F.TIM_HOLD_CFG_HOLD_LIMIT_NS < s.get F.TIM_STATUS_EST_ERR then
    noteAt 5 0 108 18 4 (s.set F.TIM_ALARM_HOLD_LIMIT 1)
  else s

/-- Cicada payload (Table 02.4); TX_FET is filled in as the frame leaves. -/
def cicadaBytes (fr : CicadaFrame) : List Byte :=
  leBytes (fr.txFetPs / 1000) 8 ++ leBytes (fr.lastRxFetPs / 1000) 8 ++ leBytes fr.seq 2 ++ leBytes fr.lastRxSeq 2 ++ leBytes fr.steps 1
    ++ leBytes (16 * fr.state + fr.ref) 1 ++ leBytes fr.estErr 2 ++ leBytes fr.utcOffset 2 ++ leBytes fr.gmCoord 3
    ++ List.replicate 99 0

/-- CICADA_SEND (R67, R69, Table 02.4): the port's frame for this period waits for its block, and a miss is counted where the
partner's did not come in the last one. [log 60 DEDUCED, 61 DESIGN CHOICE] -/
def cicadaSend (n : Nat) (s : State) : State :=
  if !portTrained s n then s else
  let c := s.cic n
  let s := if c.got then s else s.count (F.TIM_PORT_STATUS_MISSED n) 1
  let s := growEst s
  if !s.flag F.TIM_CTRL_CICADA_TX_EN then s.setCic n { c with got := false } else
  let steps := s.get F.TIM_STATUS_STEPS
  let frame : CicadaFrame :=
    { txFetPs := 0, lastRxFetPs := c.rxFetPs, seq := (c.seq + 1) % 65536, lastRxSeq := c.rxSeq
      steps := steps, state := loopState s, ref := s.get F.TIM_STATUS_REF, estErr := s.get F.TIM_STATUS_EST_ERR
      utcOffset := s.time.utcOffset
      gmCoord := if steps = 0 then ownCoord s else (s.cic (s.get F.TIM_REF_QUAL_SEL_PORT)).gm }
  let s := s.setCic n { c with seq := (c.seq + 1) % 65536, got := false }
  enqueue n (mkFrame s 3 0 0 (8 * coordAlong s n 1) 0 (cicadaBytes frame)) s

/-- The four times of R67 answer delay and offset, in ps. -/
def cicadaOffset (t1 t2 t3 t4 : Nat) (asym : Int) : Int × Int :=
  ((((t2 : Int) - t1) + ((t4 : Int) - t3)) / 2, (((t2 : Int) - t1) - ((t4 : Int) - t3)) / 2 - asym)

/-- A neighbour offset sample: one that makes three in a row beyond TIM_NBR_LIMIT, or more, raises the alarm and a note that
names the port (R68). -/
def neighbourSample (n : Nat) (off : Int) (s : State) : State :=
  let c := s.cic n
  let run := if s.get F.TIM_NBR_LIMIT_LIMIT_NS * 1000 < off.natAbs then c.nbrRun + 1 else 0
  let s := s.setCic n { c with nbrRun := run, offPs := off }
  if 3 ≤ run then noteAt 5 0 (100 + n / 8) 15 n (s.set F.TIM_ALARM_NBR_OFFSET 1) else s

/-- In FREE no sample of R67 can be accepted, since the two clocks are far apart: the offset that ACQUIRE steps by is that of
the frame's own time, less the link's last known delay. [log 158 DESIGN CHOICE] -/
def coarseOffset (n : Nat) (fr : CicadaFrame) (rxPs : Nat) (s : State) : State :=
  if loopState s ≠ 0 then s else
  let off := (rxPs : Int) - fr.txFetPs - s.geti (F.TIM_PORT_DELAY_DELAY_PS n) - s.geti (F.TIM_PORT_ASYM_ASYM_PS n)
  noteFar (if n < 32 then 1 else 2) n (s.setCic n { s.cic n with offPs := off })

/-- CICADA_RECEIVE (R67, R68, Table 02.1): the partner's state, then the sample where t3 is within 4 periods before t1. A port
that had lost its frames begins its run anew. [log 60 DEDUCED] -/
def cicadaReceive (n : Nat) (fr : CicadaFrame) (rxPs : Nat) (s : State) : State :=
  let rxPs := stampPs rxPs
  let c := s.cic n
  let c := if 4 ≤ s.get (F.TIM_PORT_STATUS_MISSED n) then { c with good := 0, qualSince := none } else c
  let moved := s.get (F.TIM_PORT_STATUS_PEER_STEPS n) != min 15 fr.steps
  let s := s.set (F.TIM_PORT_STATUS_PEER_STEPS n) (min 15 fr.steps)
  let s := s.set (F.TIM_PORT_STATUS_PEER_STATE n) fr.state
  let s := s.set (F.TIM_PORT_STATUS_MISSED n) 0
  let code := if n < 32 then 1 else 2
  let s := setCodeBit F.TIM_REF_QUAL_PRESENT code true s
  let c := { c with good := c.good + 1, heard := true, stepsAt := if moved then s.fet else c.stepsAt, got := true, rxSeq := fr.seq, rxFetPs := rxPs, peerEst := fr.estErr, gm := fr.gmCoord }
  let s := s.setCic n c
  let s := if isSelected s code n then refreshEst (s.set F.TIM_STATUS_STEPS (stepsOf s code n)) else s
  let s := match c.tx.find? (fun e => e.1 == fr.lastRxSeq) with
    | some (_, t3) =>
      if t3 ≤ fr.txFetPs ∧ fr.txFetPs ≤ t3 + 4 * s.get F.TIM_CICADA_CFG_PERIOD_US * 1000000 then
        let r := cicadaOffset fr.txFetPs rxPs t3 fr.lastRxFetPs (s.geti (F.TIM_PORT_ASYM_ASYM_PS n))
        let s := s.set (F.TIM_PORT_DELAY_DELAY_PS n) (toTwos r.1)
        let s := s.set (F.TIM_PORT_OFFSET_OFFSET_PS n) (toTwos r.2)
        let s := s.set (F.TIM_PORT_STATUS_VALID n) 1
        let s := neighbourSample n r.2 s
        let s := noteFar code n s
        if isSelected s code n then loopSample r.2 s else s
      else coarseOffset n fr rxPs s
    | none => coarseOffset n fr rxPs s
  let c := s.cic n
  s.setCic n { c with qualSince := if qualifies s code n then some (c.qualSince.getD s.fet) else none }

/-! ### Operating points (R54, R403-R405) -/

/-- The set point of a domain at an operating point, 2.5 mV units: 0.610 V + 20 mV per step + TRIM; an uncore domain is
held at 0.750 V (R403). -/
def setPoint (s : State) (d op : Nat) : Nat :=
  if d % 9 = 8 then 300 else 244 + 8 * op + 2 * s.get (F.PWR_DOM_CFG_TRIM d)

/-- The highest operating point a field may run (R404). -/
def opLimit (s : State) (f : Nat) : Nat :=
  let p := ownerOf s f
  min (min (s.get (F.PRT_CFG_OP_MAX p)) (s.get (F.PRT_LIMIT_OP_NOW p)))
    (min (AMap.get (fun _ => 10) s.power.ceilOps f) (s.get (F.PWR_DOM_CFG_OP_THERM (domOf f 8))))

/-- The regulators of a field's clusters start toward the set point of an operating point: those that hold one, GATED or ON
(R403, Table 13.2). -/
def aimField (f op : Nat) (s : State) : State :=
  s.forEach (List.range 8) (fun k t =>
    if domState t (domOf f k) = 2 ∨ domState t (domOf f k) = 3 then slewTo (domOf f k) (setPoint t (domOf f k) op) t else t)

/-- No regulator of a field's clusters is on its way: the set point is reached (R405). -/
def fieldSettled (s : State) (f : Nat) : Bool := !s.power.slews.any (fun r => r.dom / 9 == f)

/-- The operating point of a field takes effect: CLK_STATUS.OP_NOW; the regulators move to a lower set point after it
(R405). -/
def applyOp (f op : Nat) (s : State) : State := aimField f op (s.set (F.CLK_STATUS_OP_NOW f) op)

/-- A change armed through CLK_CTRL takes effect: the lower of OP_NEXT and the limit in force (R404). -/
def applyArmed (f : Nat) (s : State) : State :=
  let op := min (s.get (F.CLK_CTRL_OP_NEXT f)) (opLimit s f)
  applyOp f op (s.set (F.CLK_CTRL_ARM f) 0)

/-- CLK_OP_FET of a field. -/
def opFet (s : State) (f : Nat) : Nat := rdPair s (R.CLK_OP_FET_LO f) (R.CLK_OP_FET_HI f)

/-- An armed change is upward. -/
def opUpward (s : State) (f : Nat) : Bool := decide (s.get (F.CLK_STATUS_OP_NOW f) < min (s.get (F.CLK_CTRL_OP_NEXT f)) (opLimit s f))

/-- The change armed through CLK_CTRL takes effect if it is due: at the first 20 ns multiple at or after CLK_OP_FET, an
upward one not before its set point is reached (R54, R405). -/
def armedDue (f : Nat) (s : State) : State :=
  if !s.flag (F.CLK_CTRL_ARM f) || decide (s.fet < opFet s f) || (opUpward s f && !fieldSettled s f) then s
  else applyArmed f s

/-- The module's own change of a field takes effect if it is due: a reduction at its 20 ns multiple, a step up not before
its set point is reached (R404, R405). -/
def ownDue (f : Nat) (s : State) : State :=
  match s.power.opOwn.find? (fun o => o.field == f) with
  | none => s
  | some o =>
    if s.fet < o.at_ || (decide (s.get (F.CLK_STATUS_OP_NOW f) < o.op) && !fieldSettled s f) then s
    else
      let s := { s with power := { s.power with opOwn := s.power.opOwn.filter (fun o => o.field != f) } }
      applyOp f (min o.op (opLimit s f)) s

/-- OP_CHANGE_DUE (R54, R404, R405): at a 20 ns multiple, what is armed for a field and due takes effect. -/
def opChangeDue (f : Nat) (s : State) : State := if s.fet % 20 ≠ 0 then s else armedDue f (ownDue f s)

/-- OP_VOLTAGE_READY (R405): the regulators stand at the higher set point; a change whose FET has come takes effect, at this
20 ns multiple or with the next OP_CHANGE_DUE. -/
def opVoltageReady (f : Nat) (s : State) : State :=
  if !fieldSettled s f || s.fet % 20 != 0 then s else armedDue f (ownDue f s)

/-- The effect of a write of CLK_CTRL.ARM (R54, R405): the regulators start toward a higher set point; a FET already past is
noted, and so is an upward change armed less than 40 µs ahead. -/
def armClock (f : Nat) (s : State) : State :=
  let s := if opFet s f < s.fet || (opUpward s f && decide (opFet s f < s.fet + 40000)) then
      note 5 (ownerOf s f) (R.CLK_CTRL f) s else s
  let s := s.set (F.CLK_CTRL_ARM f) 1
  if opUpward s f then aimField f (min (s.get (F.CLK_CTRL_OP_NEXT f)) (opLimit s f)) s else s

/-- The module arms a change of its own for the next 20 ns multiple (R404, R359). -/
def armOwn (f op : Nat) (s : State) : State :=
  { s with power := { s.power with
      opOwn := s.power.opOwn.filter (fun o => o.field != f) ++ [⟨f, op, (s.fet / 20 + 1) * 20⟩] } }

/-- The operating point of a field once what the module armed has taken effect. -/
def opComing (s : State) (f : Nat) : Nat :=
  ((s.power.opOwn.find? (fun o => o.field == f)).map (·.op)).getD (s.get (F.CLK_STATUS_OP_NOW f))

/-- A reduction (R404): at the next 20 ns multiple the operating point of a field is no higher than l; an armed change is
lowered too. [log 99 DEDUCED] -/
def lowerTo (l f : Nat) (s : State) : State :=
  let s := if s.flag (F.CLK_CTRL_ARM f) ∧ l < s.get (F.CLK_CTRL_OP_NEXT f) then s.set (F.CLK_CTRL_OP_NEXT f) l else s
  if l < opComing s f then armOwn f l s else s

/-- A change the module makes itself (R404, R429): the field's operating point is brought down to its limit. -/
def lowerToLimit (f : Nat) (s : State) : State := lowerTo (opLimit s f) f s

/-- One step down that the module makes itself (R359 step 1, R417); at operating point 0 nothing is left to lower.
[log 99 DEDUCED] -/
def stepDown (f : Nat) (s : State) : State := lowerTo (opComing s f - 1) f s

/-- A step up the module makes itself after a limit rose (R359 step 4, R417, R429): one step, to no more than the limit; the
regulators start toward its set point at once, and it waits for them (R405). [log 99 DEDUCED] -/
def raiseToLimit (f : Nat) (s : State) : State :=
  let now := opComing s f
  if now < opLimit s f then aimField f (now + 1) (armOwn f (now + 1) s) else s

/-! ### Meanings -/

def execRefPpsEdge (stampPs : Nat) (refClkOk : Bool) (s : State) : Host.Outcome State Fault Refusal :=
  .next (refPpsEdge stampPs refClkOk s)

def execPtpExchange (ev : PtpEvent) (s : State) : Host.Outcome State Fault Refusal := .next (ptpEvent ev s)

/-- PTP_MESSAGE_TIMEOUT (R57): the PTP reference is lost. -/
def execPtpMessageTimeout (s : State) : Host.Outcome State Fault Refusal := .next (refLost 4 0 false s)

def execRefQualified (code : Fin 5) (port : Fin 64) (s : State) : Host.Outcome State Fault Refusal :=
  .next (refQualified code port s)

def execRefLost (code : Fin 5) (port : Fin 64) (clkLost : Bool) (s : State) : Host.Outcome State Fault Refusal :=
  .next (refLost code port clkLost s)

def execProvisionalTimeout (code : Fin 5) (s : State) : Host.Outcome State Fault Refusal :=
  .next (provisionalTimeout code s)

/-- DISCIPLINE_SAMPLE (R62): a sample of the selected reference. -/
def execDisciplineSample (offsetPs : Int) (s : State) : Host.Outcome State Fault Refusal :=
  .next (if loopOn s then loopSample offsetPs s else s)

def execSwitchComplete (residualPs : Int) (s : State) : Host.Outcome State Fault Refusal :=
  .next (switchComplete residualPs s)

def execRevertTimer (code : Fin 5) (port : Fin 64) (s : State) : Host.Outcome State Fault Refusal :=
  .next (revertTimer code port s)

def execOvenStable (s : State) : Host.Outcome State Fault Refusal := .next (ovenStable s)

def execHoldoverLearned (s : State) : Host.Outcome State Fault Refusal := .next (holdoverLearned s)

def execHoldLimitExceeded (s : State) : Host.Outcome State Fault Refusal := .next (holdLimitExceeded s)

def execCicadaSend (port : Fin 64) (s : State) : Host.Outcome State Fault Refusal := .next (cicadaSend port s)

def execOpChangeDue (f : Fin 88) (s : State) : Host.Outcome State Fault Refusal := .next (opChangeDue f s)

def execOpVoltageReady (f : Fin 88) (s : State) : Host.Outcome State Fault Refusal := .next (opVoltageReady f s)

end Sys2Proof.Machine
end

