-- ==== Sys2Proof/Machine/Power.lean ====
section
/-!
DEFINITION. Machine/Power.lean: the power block: input conditions, domains and their wakes, the token bucket, the
envelope, ballast and quench ramps, budgets, the hold-up reserve, cooling (13_power_and_thermal, 11 R358-R360).
-/
namespace Sys2Proof.Machine

/-! ### Ceilings and budgets -/

/-- The ceiling in force (R416): the lowest of the envelope value and the limits of R400, R402 and R429. -/
def ceilingNow (s : State) : Nat := min (min s.power.envCeil s.power.uvLimit) (min s.power.convLimit s.power.inletLimit)

/-- The budget ceiling (R358): the lower of the ceiling in force and the target of the last breakpoint reached. -/
def budgetCeiling (s : State) : Nat := min (ceilingNow s) s.power.targetCeil

/-- Sum of the granted tenant budgets, 10 W units. -/
def grantedSum (s : State) : Nat := ([1, 2, 3, 4, 5, 6, 7].map (fun p => s.get (F.PRT_POWER_GRANTED p))).sum

/-- The tenant pool: the budget ceiling less PRT_SYS_RESERVE (R358). -/
def tenantPool (s : State) : Nat := budgetCeiling s - s.get F.PRT_SYS_RESERVE_RESERVE

/-- EFFECTIVE of a budget (R360): GRANTED while the budgets fit, else scaled and rounded down to 10 W. -/
def effectiveOf (pool sum granted : Nat) : Nat := if sum ≤ pool then granted else granted * pool / sum

/-- BUDGET_SCALING (R360): POOL, SUM and every EFFECTIVE, for the budget ceiling of this moment. -/
def scaleBudgets (s : State) : State :=
  let pool := tenantPool s
  let sum := grantedSum s
  let s := { s with power := { s.power with budgetAt := budgetCeiling s } }
  let s := s.set F.PRT_BUDGET_SUM_POOL pool
  let s := s.set F.PRT_BUDGET_SUM_SUM sum
  s.forEach [1, 2, 3, 4, 5, 6, 7] (fun p t =>
    t.set (F.PRT_POWER_EFFECTIVE p) (effectiveOf pool sum (t.get (F.PRT_POWER_GRANTED p))))

/-- PWR_ENV_NOW.CEILING follows its limits (R416); the budgets follow at the end of the window (R360). -/
def updateCeiling (s : State) : State := s.set F.PWR_ENV_NOW_CEILING (ceilingNow s)

/-- The end of a 1 ms window: the budgets are scaled anew where the budget ceiling changed (R360). -/
def windowBudgets (s : State) : State := if budgetCeiling s = s.power.budgetAt then s else scaleBudgets s

/-! ### Envelope breakpoints (R415) -/

/-- A breakpoint: FET, ceiling, floor, ramp. -/
structure Breakpoint where
  fet : Fet
  ceil : Nat
  floor : Nat
  ramp : Nat
  deriving DecidableEq, Repr

/-- The pending breakpoints, in FET order. -/
def breakpoints (s : State) : List Breakpoint :=
  ((List.range 12).filter (fun i => s.flag (F.PWR_ENV_BP_RAMP_VALID i))).map (fun i =>
    ⟨rdPair s (R.PWR_ENV_BP_FET_LO i) (R.PWR_ENV_BP_FET_HI i), s.get (F.PWR_ENV_BP_LIM_CEILING i),
     s.get (F.PWR_ENV_BP_LIM_FLOOR i), s.get (F.PWR_ENV_BP_RAMP_RAMP i)⟩)

/-- Writes the breakpoint registers. -/
def setBreakpoints (l : List Breakpoint) (s : State) : State :=
  let s := s.set F.PWR_ENV_RAMP_PENDING l.length
  s.forEach (List.range 12) (fun i t => match l[i]? with
    | some b =>
      let t := wrPair t (R.PWR_ENV_BP_FET_LO i) (R.PWR_ENV_BP_FET_HI i) b.fet
      let t := t.wr (R.PWR_ENV_BP_LIM i) (BitVec.ofNat 32 (b.ceil * 65536 + b.floor))
      t.wr (R.PWR_ENV_BP_RAMP i) (BitVec.ofNat 32 (2 ^ 31 + b.ramp))
    | none =>
      ((wrPair t (R.PWR_ENV_BP_FET_LO i) (R.PWR_ENV_BP_FET_HI i) 0).wr (R.PWR_ENV_BP_LIM i) 0).wr (R.PWR_ENV_BP_RAMP i) 0)

/-- A breakpoint's ramp field after the limits of R415. -/
def rampOf (v : Nat) : Nat := if v = 0 then 200 else if v < 10 then 10 else min v 2000

/-- ENVELOPE_BREAKPOINT (R415): the targets and the ramp limit take the first pending breakpoint's values at its FET. -/
def envelopeBreakpoint (s : State) : State :=
  match breakpoints s with
  | b :: rest =>
    if s.fet < b.fet then s else
    let s := setBreakpoints rest s
    let s := s.set F.PWR_ENV_RAMP_RAMP b.ramp
    let s := { s with power := { s.power with targetCeil := b.ceil, targetFloor := b.floor } }
    scaleBudgets s
  | [] => s

/-- One value moves toward a target by at most `step`. -/
def toward (v target step : Nat) : Nat := if v < target then min target (v + step) else max target (v - step)

/-- The envelope values in force at reset and after a warm re-initialisation (R415). -/
def resetEnvelope (s : State) : State :=
  let s := setBreakpoints [] s
  let s := s.set F.PWR_ENV_RAMP_RAMP 200
  let s := s.set F.PWR_ENV_NOW_FLOOR 120
  scaleBudgets (updateCeiling { s with power := { s.power with targetCeil := 1750, targetFloor := 120, envCeil := 1750 } })

/-! ### 1 ms windows -/

/-- The highest operating point among the fields in service, what is armed having taken effect. -/
def topOp (s : State) (fs : List Nat) : Nat := (fs.filter (inService s)).foldl (fun m f => max m (opComing s f)) 0

/-- PARTITION_POWER_WINDOW (R359): PRT_LIMIT.OP_NOW is one below the highest point when the fields step down. `work` is the
draw without ballast, which is charged to partition 0 whichever fields run it (R361, R418). [log 99 DEDUCED] -/
def partitionWindow (p work : Nat) (s : State) : State :=
  let draw := if p = 0 then min 65535 (work + s.get F.PWR_BALLAST_NOW) else work
  let s := s.high (F.PRT_DRAW_PEAK p) draw
  let s := s.set (F.PRT_DRAW_LAST p) draw
  if partState s p = 0 ∨ partState s p = 4 ∨ p = 0 then s else
  let e := s.get (F.PRT_POWER_EFFECTIVE p)
  let d := s.part p
  if e * 105 < draw * 100 then
    let d := { d with overRun := d.overRun + 1, under := 0 }
    let s := s.setPart p d
    if d.overRun < 10 then s
    else
      let op := topOp s (partFields s p)
      if op = 0 then
        let s := s.setPart p { d with stuck := d.stuck + 1 }
        if 10 ≤ d.stuck + 1 then raiseFault { code := 0x0504, part := p, unitType := 18 } s else s
      else
        let s := s.set (F.PRT_LIMIT_OP_NOW p) (op - 1)
        let s := s.count (F.PRT_LIMIT_EVENTS p) 1
        let s := noteAt 5 p 108 18 p s
        s.forEach (partFields s p) stepDown
  else if draw * 100 ≤ e * 95 then
    let d := { d with overRun := 0, stuck := 0, under := d.under + 1 }
    let s := s.setPart p d
    let op := s.get (F.PRT_LIMIT_OP_NOW p)
    if 100 ≤ d.under ∧ op < s.get (F.PRT_CFG_OP_MAX p) then
      let s := s.set (F.PRT_LIMIT_OP_NOW p) (op + 1)
      s.forEach (partFields s p) raiseToLimit
    else s
  else s.setPart p { d with overRun := 0, under := 0, stuck := 0 }

/-- Every field in order tenants first, then partition 0 (R417). -/
def fieldsTenantFirst (s : State) : List Nat :=
  (allFields.filter (fun f => ownerOf s f != 0)) ++ (allFields.filter (fun f => ownerOf s f == 0))

/-- A trained port's calibration record goes stale at more than its load plus 25 points of the 17.5 kW maximum: the port
moves to reduced rate and requests a retrain (R322). [log 132 DEDUCED] -/
def calStale (draw : Nat) (s : State) : State :=
  s.forEach ((List.range 64).filter (fun n => portTrained s n)) (fun n t =>
    if exceedsRecord t n draw then
      let t := t.set (F.SNL_CAL_STALE n) 1
      if portUp t n then giveMargin n t else t
    else t)

/-- Every field runs at operating point 0. -/
def allAtZero (s : State) : Bool := topOp s allFields == 0

/-- A field's limit under the ceiling rule (R417), at most 10. [log 99 DEDUCED] -/
def setCeilOp (f v : Nat) (s : State) : State :=
  { s with power := { s.power with ceilOps := AMap.put (fun _ => 10) s.power.ceilOps f (min 10 v) } }

/-- R417: a field one step down, its limit with it. [log 99 DEDUCED] -/
def ceilDown (f : Nat) (s : State) : State := stepDown f (setCeilOp f (opComing s f - 1) s)

/-- R417: a field's limit one step up again. [log 99 DEDUCED] -/
def ceilUp (f : Nat) (s : State) : State :=
  raiseToLimit f (setCeilOp f (AMap.get (fun _ => 10) s.power.ceilOps f + 1) s)

/-- The values in force ramp toward the targets (R415). -/
def rampEnvelope (s : State) : State :=
  let ramp := rampLimit s
  let s := { s with power := { s.power with envCeil := toward s.power.envCeil s.power.targetCeil ramp } }
  updateCeiling (s.set F.PWR_ENV_NOW_FLOOR (toward (s.get F.PWR_ENV_NOW_FLOOR) s.power.targetFloor ramp))

/-- The mean draw of a window: last value, peak, and a rise beyond the ramp limit (R415, R420). [log 101 DEDUCED] -/
def recordDraw (draw : Nat) (s : State) : State :=
  let last := s.get F.PWR_DRAW_LAST
  let s := (s.high F.PWR_DRAW_PEAK draw).set F.PWR_DRAW_LAST draw
  let s := s.set F.PWR_INPUT_IIN (min 65535 (draw * 10000 / max 1 (s.get F.PWR_INPUT_VIN)))
  if last + rampLimit s < draw then (s.set F.PWR_ALARM_RAMP_RISE 1).count F.PWR_RAMP_CNT_RISE 1 else s

/-- A window above the ceiling (R417): no ballast, one step down everywhere; with nothing left to shed, class 4 in the
tenth window. [log 99 DEDUCED] -/
def aboveCeiling (s : State) : State :=
  let n := if allAtZero s && s.get F.PWR_BALLAST_NOW == 0 then s.power.overCeil + 1 else 0
  let s := (s.set F.PWR_BALLAST_NOW 0).set F.PWR_ALARM_CEILING 1
  let s := (s.count F.PWR_RAMP_CNT_CEIL 1).set F.PWR_STATUS_CEIL_LIMIT 1
  let s := { s with power := { s.power with underCeil := 0, overCeil := n } }
  let s := s.forEach (fieldsTenantFirst s) ceilDown
  if 10 ≤ n ∧ !moduleQuenched s then raiseFault { code := 0x0505, unitType := 18 } s else s

/-- A window within the ceiling (R417): after 100 windows at most 95 per cent of it, one step up. [log 99 DEDUCED] -/
def withinCeiling (draw : Nat) (s : State) : State :=
  let n := if draw * 100 ≤ s.get F.PWR_ENV_NOW_CEILING * 95 then s.power.underCeil + 1 else 0
  let s := { s with power := { s.power with overCeil := 0, underCeil := n } }
  if 100 ≤ n ∧ !s.power.ceilOps.isEmpty then
    let s := s.forEach (fieldsTenantFirst s) ceilUp
    if s.power.ceilOps.isEmpty then s.set F.PWR_STATUS_CEIL_LIMIT 0 else s
  else s

/-- The draw of the load-emulation pattern, 10 W units (R319): 80 % of the maximum cell power, 8.8 kW over the 704
clusters, from those that are ON. [log 147 DESIGN CHOICE] -/
def emulTarget (s : State) : Nat :=
  if !s.power.emulating then 0 else
  5 * ((allFields.map (fun f => ((List.range 8).filter (fun k => domState s (domOf f k) == 3)).length)).sum) / 4

/-- The pattern's draw rises at the ramp limit in force (R436). [log 147 DESIGN CHOICE] -/
def rampEmulation (s : State) : State :=
  { s with power := { s.power with emulDraw := min (emulTarget s) (s.power.emulDraw + rampLimit s) } }

/-- The peak 1 ms draw of the step each partition is in (R323). -/
def recordStepPeaks (draw : Nat) (s : State) : State :=
  s.forEach ((List.range 8).filter (fun p => (s.part p).stepBase != 0)) (fun p t =>
    t.setPart p { t.part p with stepPeak := max (t.part p).stepPeak draw })

/-- The charger (R401, R426): from the main input only, from bring-up step 2 onward, while the bank is below its 48.0 V; up to
600 W, less where the module's draw would leave the ceiling in force. [log 160 DEDUCED] -/
def setCharger (s : State) : State :=
  let work := s.get F.PWR_DRAW_LAST - s.power.charger
  let on := s.flag F.CHT_PIN_STATUS_PWRGD && s.power.band != 4 && !s.boot.inputLost
    && decide (s.get F.PWR_HOLDUP_CAL_VBANK < 4800)
  { s with power := { s.power with charger := if on then min 60 (s.get F.PWR_ENV_NOW_CEILING - work) else 0 } }

/-- MODULE_POWER_WINDOW (R415, R417, R420, R426, R360, R436): the values in force ramp toward their targets; the draw, no less
than the load-emulation pattern's, is held against the ceiling, the ramp limit and the calibration records; the charger and
the budgets follow. [log 147 DESIGN CHOICE] -/
def moduleWindow (mean : Nat) (s : State) : State :=
  let s := rampEmulation (rampEnvelope s)
  let draw := max mean s.power.emulDraw
  let s := recalTiers draw (calStale draw (recordStepPeaks draw (recordDraw draw s)))
  windowBudgets (setCharger (if s.get F.PWR_ENV_NOW_CEILING < draw then aboveCeiling s else withinCeiling draw s))

/-! ### Ballast and quench ramps (R418-R421) -/

/-- A draw sample less the ramp limit over its age, 10 mW units (R419). -/
def decayed (ramp now : Nat) (e : Fet × Nat) : Nat := e.2 * 1000 - ramp * (now - e.1) / 1000

/-- The hold level (R419), 10 mW units: the floor and every sample, each under the ramp limit in force now. -/
def holdLevel (s : State) : Nat :=
  s.power.samples.foldl (fun m e => max m (decayed (rampLimit s) s.fet e)) (s.get F.PWR_ENV_NOW_FLOOR * 1000)

/-- A draw sample enters; those it covers for good, and those the lowest ramp limit has run down, leave (R419). -/
def addSample (draw : Nat) (s : State) : State :=
  { s with power := { s.power with
      samples := s.power.samples.filter (fun e => decide (draw < e.2) && decide (0 < decayed 10 s.fet e)) ++ [(s.fet, draw)] } }

/-- Cells that may run ballast (R418): in service or idle reserves, of a cluster that is ON. -/
def ballastCells (s : State) : Nat :=
  ((allFields.filter (inService s)).map (fun f =>
    ((List.range 72).filter (fun p => domState s (domOfCell f p) == 3 && decide (s.get (F.CEL_STATUS_ROLE f p) ≤ 1))).length)).sum

/-- Ballast that the available cells can add, 10 W units: what is measured, at most a ninth of 17.3 W a cell (R418, Table
13.3). [log 161 DEDUCED] -/
def ballastRoom (cap : Nat) (s : State) : Nat := min cap ((ballastCells s * 173 + 899) / 900)

/-- BALLAST_DUTY_UPDATE (R418, R419, R421): the ballast fills the draw up to the hold level, which a module quench does not
hold, and is no lower than the quench ramps run it; never above the ceiling, nor above what the cells can add. -/
def ballastUpdate (draw cap : Nat) (s : State) : State :=
  let work := draw - s.get F.PWR_BALLAST_NOW
  let s := addSample draw s
  let want := if moduleQuenched s then 0 else holdLevel s / 1000 - work
  let ballast := min (max want (rampsBallast s)) (s.get F.PWR_ENV_NOW_CEILING - work)
  let room := ballastRoom cap s
  let s := s.set F.PWR_BALLAST_CAP room
  let s := s.set F.PWR_BALLAST_NOW (min room ballast)
  if room < ballast then (s.set F.PWR_STATUS_FLOOR_SHORT 1).set F.PWR_ALARM_FLOOR_SHORT 1
  else s.set F.PWR_STATUS_FLOOR_SHORT 0

/-- The fields of a quench scope: partition p, or every field for the module (0). -/
def scopeFields (s : State) (scope : Nat) : List Nat := if scope = 0 then allFields else partFields s scope

/-- The ramp of a scope has ended: its ballast is down to zero, for the module that of every partition too (R421). -/
def rampEnded (s : State) (scope : Nat) : Bool :=
  s.power.ramps.any (fun r => r.scope == scope)
    && s.power.ramps.all (fun r => (scope != 0 && r.scope != scope) || rampBallast r s.fet == 0)

/-- QUENCH_REACHED (R421): the ramp has ended; the clusters still ON enter RETENTION; a QUENCH command of the scope
completes; a module turned off by PWR_EN powers off (R519). [log 15 DEDUCED] -/
def quenchReached (scope : Nat) (s : State) : State :=
  if !rampEnded s scope then s else
  let s := s.forEach (scopeFields s scope) (fun f t =>
    t.forEach (List.range 8) (fun k u => if domState u (domOf f k) = 3 then retain (domOf f k) u else u))
  let s := { s with power := { s.power with ramps := s.power.ramps.filter (fun r => r.scope != scope) } }
  let s := if scope = 0 then s.set F.PWR_STATUS_RAMP_DOWN 0 else s
  let s := endJobs (fun w => match w with | .quench q => q == scope | _ => false) stOk [] s
  if scope = 0 ∧ s.boot.pwrOffPending then
    let s := powerDown s
    { s with boot := { s.boot with pwrOffPending := false } }
  else s

/-! ### Domains and the token bucket (R408-R414) -/

/-- Token cost of a request (Table 13.3). -/
def tokenCost (kind : Nat) : Nat := match kind with | 0 => 32 | 1 => 4 | 2 => 30 | _ => 33

/-- The field of a wake request (kind 3 names the stack of field dom). -/
def wakeField (w : WakeReq) : Nat := if w.kind = 3 then w.dom else w.dom / 9

/-- Queues a wake (R413); QUEUED shows the requests waiting. -/
def requestWake (w : WakeReq) (s : State) : State :=
  let s := { s with power := { s.power with wakeQ := s.power.wakeQ ++ [w] } }
  s.set F.PWR_TOKEN_QUEUED s.power.wakeQ.length

/-- The head of the wake queue (R413): highest PRIO; then round-robin over partitions after the one last served; then
arrival order. -/
def wakeHead (s : State) : Option WakeReq :=
  let top := s.power.wakeQ.foldl (fun m w => max m w.prio) 0
  let l := s.power.wakeQ.filter (fun w => w.prio == top)
  let last := AMap.get (fun _ => 7) s.power.lastServed top
  ((List.range 8).map (fun i => (last + 1 + i) % 8)).findSome? (fun p => l.find? (fun w => w.part == p))

/-- The scratchpads of a cluster's nine cells read as zero, with valid parity, their zeroing over (R27, R117). -/
def clearClusterCells (d : Nat) (s : State) : State := s.forEach (clusterCells d) (loseScratch (d / 9))

/-- A cluster's clock starts: ON, or RETENTION where a quench holds its scope and no bring-up runs (R411, R414). -/
def clusterOn (d : Nat) (s : State) : State :=
  let f := d / 9
  let p := ownerOf s f
  if (moduleQuenched s && !s.flag F.CHT_STATUS_RUNNING) || (p != 0 && partState s p == 4) then retain d s
  else slewTo d (setPoint s d (s.get (F.CLK_STATUS_OP_NOW f))) (s.set (F.PWR_DOM_STATUS_STATE d) 3)

/-- Completes a POWER_DOMAIN on of a domain, its result the deferral in µs (R394, R413). -/
def endDomainOn (d status defer : Nat) (s : State) : State :=
  endJobs (fun w => match w with | .domainOn e => e == d | _ => false) status (if status = stOk then leBytes defer 4 else []) s

/-- Deferral of the admissions of a domain's request so far, in µs (R413): a cluster that is OFF has two. -/
def deferOf (s : State) (d : Nat) : Nat := AMap.get (fun _ => 0) s.power.defers d

/-- Sets the deferral of a domain's request. -/
def setDefer (d v : Nat) (s : State) : State :=
  { s with power := { s.power with defers := AMap.put (fun _ => 0) s.power.defers d v } }

/-- A domain goes on its way. -/
def enter (w : Waking) (s : State) : State := { s with power := { s.power with entering := s.power.entering ++ [w] } }

/-- A domain is on its way no more. -/
def leave (d kind : Nat) (s : State) : State :=
  { s with power := { s.power with entering := s.power.entering.filter (fun e => !(e.dom == d && e.kind == kind)) } }

/-- An admitted cluster wakes (R411): from RETENTION its regulator goes to the set point, and the clock starts 1 µs later;
from GATED its nine scratchpads are zeroed first (R117, R27). -/
def clusterWake (d defer : Nat) (s : State) : State :=
  if domState s d = 4 then
    let s := slewTo d (setPoint s d (s.get (F.CLK_STATUS_OP_NOW (d / 9)))) s
    enter ⟨d, 2, defer, slewEnd s d + 1000⟩ s
  else enter ⟨d, 1, defer, s.fet⟩ (s.forEach (clusterCells d) (startZero (d / 9)))

/-- The clusters on their way from RETENTION whose 1 µs at the set point is over start their clocks (R411).
[log 2 DESIGN CHOICE] -/
def retainedOn (s : State) : State :=
  (s.power.entering.filter (fun e => e.kind == 2 && decide (e.at_ ≤ s.fet))).foldl
    (fun t e => endDomainOn e.dom stOk e.defer (clusterOn e.dom (leave e.dom 2 t))) s

/-- The zeroing of a scratchpad ends (R117), and with the last of its cluster's the wake (R411). -/
def scratchpadZeroDone (f pos : Nat) (s : State) : State :=
  let s := s.set (F.CEL_STATUS_SP_ZEROING f pos) 0
  let d := domOfCell f pos
  match s.power.entering.find? (fun e => e.dom == d && e.kind == 1) with
  | some e =>
    if (clusterCells d).any (fun q => s.flag (F.CEL_STATUS_SP_ZEROING f q)) then s
    else endDomainOn d stOk e.defer (clusterOn d (leave d 1 s))
  | none => s

/-- Firmware wakes the clusters that a quench left in RETENTION, or that have only started softly, at PRIO 3 (R413): the
fields leave the quench, their stacks self-refresh. [log 134 DEDUCED] -/
def wakeFields (fs : List Nat) (s : State) : State :=
  if moduleQuenched s then s else
  let s := { s with power := { s.power with tierSelfRefresh := s.power.tierSelfRefresh.filter (fun f => !fs.contains f) } }
  s.forEach (fs.filter (inService s)) (fun f t => t.forEach (List.range 8) (fun k u =>
    let d := domOf f k
    if (domState u d == 2 || domState u d == 4) && !u.power.wakeQ.any (fun w => w.kind != 3 && w.dom == d)
        && !u.power.entering.any (fun e => e.dom == d) then
      requestWake ⟨d, 0, 3, ownerOf u f, u.fet⟩ u
    else u))

/-- A soft start begins: SOFT, its regulator on the way to the target (R409, R403). -/
def softStart (d : Nat) (s : State) : State :=
  holdAt d (setPoint s d (s.get (F.CLK_STATUS_OP_NOW (d / 9)))) (s.set (F.PWR_DOM_STATUS_STATE d) 1)

/-- TOKEN_ADMISSION (R412, R413): the head is admitted once the bucket holds its cost. [log 134 DEDUCED] -/
def tokenAdmission (s : State) : State :=
  match wakeHead s with
  | none => s
  | some w =>
    let cost := tokenCost w.kind
    if s.get F.PWR_TOKEN_LEVEL < cost then s else
    let s := s.set F.PWR_TOKEN_LEVEL (s.get F.PWR_TOKEN_LEVEL - cost)
    let s := { s with power := { s.power with
      wakeQ := s.power.wakeQ.erase w, lastServed := AMap.put (fun _ => 7) s.power.lastServed w.prio w.part } }
    let s := s.set F.PWR_TOKEN_QUEUED s.power.wakeQ.length
    let defer := (s.fet - w.reqAt + 999) / 1000
    let s := s.set F.PWR_TOKEN_DEFER_LAST_US (min 65535 defer)
    let s := s.high F.PWR_TOKEN_DEFER_MAX_US defer
    match w.kind with
    | 0 => clusterWake w.dom (deferOf s w.dom + defer) (setDefer w.dom 0 s)
    | 1 | 2 =>
      let s := { setDefer w.dom defer s with power := { s.power with
        defers := (setDefer w.dom defer s).power.defers, prios := AMap.put (fun _ => 3) s.power.prios w.dom w.prio } }
      softStart w.dom (s.set (F.PWR_DOM_STATUS_RETRIES w.dom) 0)
    | _ => { s with power := { s.power with poweredStacks := setAdd w.dom s.power.poweredStacks } }

/-- Takes a field out of MSH_FIELD_OK: a hole (R197, R409). -/
def makeHole (f : Nat) (s : State) : State :=
  let o := if f < 32 then R.MSH_FIELD_OK0 else if f < 64 then R.MSH_FIELD_OK1 else R.MSH_FIELD_OK2
  s.wr o (s.rd o &&& ~~~((1 : Word) <<< (f % 32)))

/-- Makes a field passable. [log 31 DEDUCED] -/
def makePassable (f : Nat) (s : State) : State :=
  let o := if f < 32 then R.MSH_FIELD_OK0 else if f < 64 then R.MSH_FIELD_OK1 else R.MSH_FIELD_OK2
  s.wr o (s.rd o ||| ((1 : Word) <<< (f % 32)))

/-- A field is marked failed in its partition (R352): it counts in FAILED and is out of service. -/
def failField (f : Nat) (s : State) : State :=
  let p := ownerOf s f
  let d := s.part p
  let s := s.setPart p { d with failed := setAdd f d.failed }
  { s with boot := { s.boot with dead := setAdd f s.boot.dead } }

/-- A field's timebase receiver measures its branch and its clock generator is aligned: LOCKED, with the compensation it
found (R50). [log 57 DEDUCED] -/
def measureBranch (f : Nat) (s : State) : State :=
  let (w, s) := s.free
  (s.set (F.CLK_STATUS_SKEW_PS f) (w.toNat % 65536)).set (F.CLK_STATUS_LOCKED f) 1

/-- SOFT_START_RETRY (R409): 50 ms after it was turned off the regulator is tried again, without a token charge. -/
def softStartRetry (d : Nat) (s : State) : State :=
  if s.power.entering.any (fun e => e.dom == d && e.kind == 0 && decide (e.at_ + 50000000 ≤ s.fet)) then
    softStart d ((leave d 0 s).count (F.PWR_DOM_STATUS_RETRIES d) 1)
  else s

/-! ### Input, converters, voltage -/

/-- The row of Table 13.1 that V_in, in 10 mV, lies in, from full operation (0) to above 64.0 V (6). -/
def vinBand (vin : Nat) : Nat :=
  if vin < 4200 then 4 else if vin < 4400 then 3 else if vin < 4800 then 2 else if vin ≤ 6000 then 0
  else if vin ≤ 6100 then 1 else if vin ≤ 6400 then 5 else 6

/-- The condition of a row holds, or has been absent for less than 10 ms (R400). -/
def bandHolds (s : State) (b : Nat) : Bool := s.power.band == b || s.power.bandLeft.any (fun e => e.1 == b)

/-- V_in enters a row: the row it was in, unless full operation, has been left now. -/
def enterBand (vin : Nat) (s : State) : State :=
  let b := vinBand vin
  let old := s.power.band
  let kept := s.power.bandLeft.filter (fun e => e.1 != old && e.1 != b)
  let left := if old = b ∨ old = 0 then kept else kept ++ [(old, s.fet)]
  { s.set F.PWR_INPUT_VIN vin with power := { s.power with band := b, bandLeft := left } }

/-- The actions whose condition has been absent for 10 ms end (R400): the input derating, and MAIN_OK at 0. -/
def liftInput (s : State) : State :=
  let l := s.power.bandLeft.filter (fun e => decide (s.fet < e.2 + 10000000))
  if l == s.power.bandLeft then s else
  let s := { s with power := { s.power with bandLeft := l } }
  let s := if bandHolds s 2 then s
    else updateCeiling { s.set F.PWR_STATUS_UV_DERATE 0 with power := { s.power with uvLimit := 65535 } }
  if s.power.band = 0 ∧ l = [] then s.set F.PWR_STATUS_MAIN_OK 1 else s

/-- MAIN_INPUT_CONDITION (R400, Table 13.1); `vin` in 10 mV. -/
def mainInput (vin : Nat) (s : State) : State :=
  let s := enterBand vin (liftInput s)
  match vinBand vin with
  | 0 => if s.power.bandLeft.isEmpty then s.set F.PWR_STATUS_MAIN_OK 1 else s
  | b =>
    let s := s.set F.PWR_STATUS_MAIN_OK 0
    match b with
    | 1 => noteAt 5 0 108 18 0 s
    | 2 =>
      let s := noteAt 5 0 108 18 0 ((s.set F.PWR_STATUS_UV_DERATE 1).set F.PWR_ALARM_UV_DERATE 1)
      updateCeiling { s with power := { s.power with uvLimit := 365 * vin / 1000 } }
    | 3 => raiseFault { code := 0x0506, unitType := 18, access := 7 } s
    | 5 => raiseFault { code := 0x0507, unitType := 18, access := 7 } (s.set F.PWR_ALARM_OV_QUENCH 1)
    | 6 => raiseFault { code := 0x0508, unitType := 18, access := 7 } s
    | _ => s

/-- INPUT_LOSS (R427, R39, Table 13.6): INPUT_LOST, class 4; everything off, every checkpoint writer stopped; Chitin and
Vault 0 on the reserve; pins safe. [log 116 DEDUCED] -/
def inputLoss (vin : Nat) (s : State) : State :=
  if 4200 ≤ vin then s else
  let s := (enterBand vin (liftInput s)).set F.PWR_STATUS_MAIN_OK 0
  let s := raiseFault { code := 0x0509, unitType := 18, access := 7 } s
  let s := (powerDown s).forEach (List.range 8) stopCkpt
  let s := (s.set F.PWR_HOLDUP_ON_HOLDUP 1).set F.PWR_HOLDUP_STATE 4
  pinsSafe { s with boot := { s.boot with inputLost := true } }

/-- AUX_12V_LOSS (R401): Chitin's rail is on the reserve, which the charger keeps full from the main input. -/
def auxLoss (s : State) : State :=
  let s := (s.set F.PWR_STATUS_AUX_OK 0).set F.PWR_ALARM_AUX_LOST 1
  setCharger (noteAt 5 0 108 18 1 (s.set F.PWR_HOLDUP_ON_HOLDUP 1))

/-- Clears the healthy bit of a converter. -/
def dropConverter (c : Nat) (s : State) : State :=
  let o := if c < 32 then R.PWR_CONV0 else R.PWR_CONV1
  s.wr o (s.rd o &&& ~~~((1 : Word) <<< (c % 32)))

/-- A converter is healthy. -/
def converterOk (s : State) (c : Nat) : Bool :=
  if c < 32 then (s.rd R.PWR_CONV0).getLsbD c else (s.rd R.PWR_CONV1).getLsbD (c - 32)

/-- CONVERTER_FAULT (R402): class 1; n healthy converters limit the ceiling to n × 400 W; below 30 is class 4.
[log 100 DEDUCED] -/
def converterFault (c : Nat) (s : State) : State :=
  if !converterOk s c then s else
  let s := dropConverter c s
  let n := s.get F.PWR_CONV1_N_OK - 1
  let s := (s.set F.PWR_CONV1_N_OK n).set F.PWR_ALARM_CONV_FAIL 1
  let s := (raiseAs 1 (rampLimit s) true { code := 0x060b, unitType := 17, inst := c, detail := [5] } s).2
  let s := updateCeiling { s with power := { s.power with convLimit := n * 40 } }
  if n < 30 then raiseFault { code := 0x050b, unitType := 17, inst := c } s else s

/-- A voltage sample takes the injected 60 mV where FLT_INJECT TARGET 1 armed it (Table 15.9). [log 53 DEDUCED] -/
def takeDroopInject (d : Nat) (s : State) : Bool × State :=
  if injectArmed s 1 && s.get F.FLT_INJECT_DOM == d then (true, s.set F.FLT_INJECT_ARM 0) else (false, s)

/-- VOLTAGE_SAMPLE (R406, R407, R13), 2.5 mV units: the record of the lowest sample while ON, and a droop more than
50 mV below the set point. [log 9 DESIGN CHOICE] -/
def voltageSample (d v : Nat) (s : State) : State :=
  let (inj, s) := takeDroopInject d s
  let v := if inj then v - 24 else v
  let s := s.set (F.PWR_DOM_STATUS_VNOW d) v
  if domState s d ≠ 3 then s else
  let s := if !s.flag (F.PWR_DOM_VMIN_VALID d) || decide (v < s.get (F.PWR_DOM_VMIN_VMIN d)) then
      let s := (s.set (F.PWR_DOM_VMIN_VALID d) 1).set (F.PWR_DOM_VMIN_VMIN d) v
      wrPair s (R.PWR_DOM_VMIN_FET_LO d) (R.PWR_DOM_VMIN_FET_HI d) s.fet
    else s
  if v + 20 < s.get (F.PWR_DOM_CFG_VSET d) then
    let s := s.set F.PWR_ALARM_DROOP 1
    let f := d / 9
    raiseFault { code := 0x0501, part := ownerOf s f, collector := f, unitType := 16, inst := d % 9, access := 7, injected := inj } s
  else s

/-- VMIN_CLEAR (R407): every domain's record is cleared. -/
def vminClear (s : State) : State :=
  s.overRegs 0x11000 0x17300 (fun o w => if (o - 0x11000) % 32 = 8 then Word.withField w 31 31 0 else w)

/-! ### The hold-up reserve (R423-R427) -/

/-- Voltage estimate in J of a capacitance in mF at a voltage in 10 mV (R423). -/
def voltageEnergy (ccal v : Nat) : Nat := ccal * (v * v - 5760000) / 20000000

/-- Coulomb estimate in J of a charge in 10 µC on a capacitance in mF (R423). -/
def coulombEnergy (ccal q : Nat) : Nat := (q * q - ccal * ccal * 5760000) / (20000000 * ccal)

/-- Both estimates from the bank voltage, C_cal and the charge counter; the usable energy is the lower (R423). How long they
have differed by more than 200 J is kept (R425). -/
def showEnergy (s : State) : State :=
  let c := s.get F.PWR_HOLDUP_CAL_C_CAL
  let ev := voltageEnergy c (s.get F.PWR_HOLDUP_CAL_VBANK)
  let eq := coulombEnergy c s.power.charge
  let s := (s.set F.PWR_HOLDUP_EST_E_V (min 65535 ev)).set F.PWR_HOLDUP_EST_E_Q (min 65535 eq)
  let s := s.set F.PWR_HOLDUP_USABLE (min 65535 (min ev eq))
  let since := if 200 < max ev eq - min ev eq then some (s.power.apartSince.getD s.fet) else none
  let l := s.power.energies.filter (fun e => decide (s.fet < e.1 + 100000000)) ++ [(s.fet, min ev eq)]
  { s with power := { s.power with apartSince := since, energies := l } }

/-- A reading of the bank: its voltage in 10 mV, and the charge that flowed into it since the last, in 10 µC, which the
charge counter integrates (R423). -/
def readBank (vbank : Nat) (dq : Int) (s : State) : State :=
  let s := s.set F.PWR_HOLDUP_CAL_VBANK vbank
  showEnergy { s with power := { s.power with charge := (s.power.charge + dq).toNat } }

/-- The mean of the usable energy over the last 100 ms (R424). -/
def meanEnergy (s : State) : Nat := (s.power.energies.map (·.2)).sum / max 1 s.power.energies.length

/-- What a Vault keeps: Tier P. [log 126 DEDUCED] -/
def keepTierP (d : VaultState) : VaultState := { slots := d.slots, journal := d.journal, tierP := d.tierP, keyOfP := d.keyOfP }

/-- CHITIN_RAIL_LOSS: everything is lost but what flash keeps: the defect map, the stored configuration, the firmware banks,
the manager's registers, the fault-log store, and Tier P with the journal. [log 126 DEDUCED] -/
def railLoss (s : State) : State :=
  { State.reset with
    pending := s.pending, out := s.out, freeIdx := s.freeIdx
    log := { chitin := s.log.chitin, committed := s.log.committed, storeBad := s.log.storeBad }
    vaults := AMap.mapVals (fun _ => {}) keepTierP s.vaults
    boot := { defects := s.boot.defects, storedCfg := s.boot.storedCfg, storedEpoch := s.boot.storedEpoch
              storedDigest := s.boot.storedDigest, bankA := s.boot.bankA, bankB := s.boot.bankB, activeB := s.boot.activeB
              nextActive := s.boot.nextActive, flashMgr := s.boot.flashMgr } }

/-- The reserve's state follows an energy (Table 13.5). LOW charges at the full rate; EMPTY journals, then quenches; with the
main input and AUX_12V gone Chitin commits its fault-log store below 500 J and stops at the 24.0 V cutoff (R427). -/
def holdupState (e : Nat) (s : State) : State :=
  match s.get F.PWR_HOLDUP_STATE with
  | 4 =>
    if 500 ≤ e || s.flag F.PWR_STATUS_AUX_OK then s
    else
      let s := commitStore s
      if s.get F.PWR_HOLDUP_CAL_VBANK ≤ 2400 then railLoss s else s
  | st =>
    if e < 500 then
      if st = 0 ∨ st = 3 then s else
      let s := (s.set F.PWR_HOLDUP_STATE 3).set F.PWR_ALARM_HOLDUP_EMPTY 1
      raiseFault { code := 0x050a, unitType := 18, inst := 2 } (flushJournal s)
    else if 1200 ≤ e then s.set F.PWR_HOLDUP_STATE 1
    else if e < 1000 ∧ st = 1 then setCharger ((s.set F.PWR_HOLDUP_STATE 2).set F.PWR_ALARM_HOLDUP_LOW 1)
    else s

/-- How long the bank has been at 47.8 V or above with a charge current below 50 mA (R425). -/
def watchFull (current : Nat) (s : State) : State :=
  let full := decide (4780 ≤ s.get F.PWR_HOLDUP_CAL_VBANK) && decide (current < 50)
  { s with power := { s.power with fullSince := if full then some (s.power.fullSince.getD s.fet) else none } }

/-- HOLDUP_STATE_CHANGE (R423, R424): a reading of the bank, and the charge current in mA; each threshold is crossed on the
100 ms mean. [log 9 DESIGN CHOICE] -/
def holdupChange (vbank : Nat) (dq : Int) (current : Nat) (s : State) : State :=
  let s := watchFull current (readBank vbank dq s)
  holdupState (meanEnergy s) s

/-- ESTIMATOR_DISAGREE (R425): on either side of 500 J, or more than 200 J apart for 1 s; Chitin acts on the lower at once. -/
def estimatorDisagree (vbank : Nat) (dq : Int) (s : State) : State :=
  let s := readBank vbank dq s
  let ev := s.get F.PWR_HOLDUP_EST_E_V
  let eq := s.get F.PWR_HOLDUP_EST_E_Q
  if (ev < 500) ≠ (eq < 500) ∨ s.power.apartSince.any (fun t => decide (t + 1000000000 ≤ s.fet)) then
    let s := (s.set F.PWR_ALARM_ESTIMATOR_DISAGREE 1).set F.PWR_HOLDUP_CAL_PENDING 1
    holdupState (s.get F.PWR_HOLDUP_USABLE) s
  else s

/-- HOLDUP_CALIBRATION (R425): at a full charge, 10 s at 47.8 V or above and below 50 mA. C_cal is the charge `dq`, in 10 µC,
that the test discharge from 48 V to 40 V took, over 8 V; then Q is C_cal × V_bank. [log 162 DEDUCED] -/
def holdupCalibration (vbank dq : Nat) (s : State) : State :=
  if vbank < 4780 ∨ !(s.power.fullSince.any (fun t => decide (t + 10000000000 ≤ s.fet))) then s else
  let c := max 1 (min 65535 (dq / 800))
  let s := (s.set F.PWR_HOLDUP_CAL_C_CAL c).set F.PWR_HOLDUP_CAL_VBANK vbank
  (showEnergy { s with power := { s.power with charge := c * vbank } }).set F.PWR_HOLDUP_CAL_PENDING 0

/-! ### Cooling (R429) -/

/-- OP_THERM of a field, in every domain of it. -/
def setOpTherm (f v : Nat) (s : State) : State := s.forEach (List.range 9) (fun k t => t.set (F.PWR_DOM_CFG_OP_THERM (domOf f k)) v)

/-- The collector of a sensor's unit (R456). -/
def sensorCollector : Sensor → Nat
  | .domain d => d.val / 9
  | .stack f => f.val
  | .vault v => 88 + v.val
  | .portDie k => 100 + k.val
  | .converter _ => 108

/-- The number of a sensor's unit. -/
def sensorInst : Sensor → Nat
  | .domain d => d.val % 9
  | .stack _ => 9
  | .vault v => v.val
  | .portDie k => k.val
  | .converter c => c.val

/-- The field a sensor is one of (R429): its domains' and its Tier N stack's. -/
def sensorField : Sensor → Option Nat
  | .domain d => some (d.val / 9)
  | .stack f => some f.val
  | _ => none

/-- The throttle of one field: its hottest sensor in a window (Table 13.7). -/
def fieldThermal (f t : Nat) (s : State) : State :=
  let thr := s.get F.PWR_THERM_CFG_THROTTLE_C
  let op := s.get (F.PWR_DOM_CFG_OP_THERM (domOf f 8))
  let hot := AMap.get (fun _ => 0) s.power.hotRuns f
  let cool := AMap.get (fun _ => 0) s.power.coolRuns f
  let putRuns := fun (h c : Nat) (s : State) => { s with power := { s.power with
    hotRuns := AMap.put (fun _ => 0) s.power.hotRuns f h, coolRuns := AMap.put (fun _ => 0) s.power.coolRuns f c } }
  if thr ≤ t then
    let s := s.set F.PWR_ALARM_THROTTLE 1
    let s := noteAt 5 (ownerOf s f) f 18 0 s
    if op = 0 then
      let s := putRuns (hot + 1) 0 s
      if 10 ≤ hot + 1 then raiseFault { code := 0x050c, collector := f, unitType := 18, access := 7 } s else s
    else lowerToLimit f (setOpTherm f (op - 1) (putRuns 0 0 s))
  else if t + 4 ≤ thr ∧ op < 10 then
    let s := putRuns 0 (cool + 1) s
    if 100 ≤ cool + 1 then raiseToLimit f (setOpTherm f (op + 1) s) else s
  else putRuns 0 0 s

/-- THERMAL_WINDOW (R429, Table 13.7). [log 9 DESIGN CHOICE] -/
def thermalWindow (rep : ThermReport) (s : State) : State :=
  let thr := s.get F.PWR_THERM_CFG_THROTTLE_C
  let hot := injectArmed s 2
  let dom := s.get F.FLT_INJECT_DOM
  let temps := rep.domains.map (fun e => if hot && e.1 == dom then (e.1, max e.2 thr) else e)
  let s := if hot && rep.domains.any (fun e => e.1 == dom) then s.set F.FLT_INJECT_ARM 0 else s
  let s := temps.foldl (fun t e => t.set (F.PWR_DOM_STATUS_TEMP e.1) e.2) s
  let s := { s with power := { s.power with others := rep.others } }
  let top := temps.foldl (fun m e => if m.2 < e.2 then e else m) (0, 0)
  let s := (s.set F.PWR_THERM_HOT_C top.2).set F.PWR_THERM_HOT_DOM top.1
  let all := temps.filterMap (fun e => if h : e.1 < 792 then some (Sensor.domain ⟨e.1, h⟩, e.2) else none) ++ rep.others
  let fields := (all.filterMap (fun e => sensorField e.1)).eraseDups
  let s := s.forEach fields (fun f t =>
    fieldThermal f (all.foldl (fun m e => if sensorField e.1 = some f then max m e.2 else m) 0) t)
  let s := match all.find? (fun e => decide (97 ≤ e.2)) with
    | some e => raiseFault { code := 0x050c, collector := sensorCollector e.1, unitType := 18, inst := sensorInst e.1, access := 7 } s
    | none => s
  let s := s.set F.PWR_STATUS_THROTTLE
    (if allFields.any (fun f => decide (s.get (F.PWR_DOM_CFG_OP_THERM (domOf f 8)) < 10)) then 1 else 0)
  let s := (s.set F.PWR_COOLANT0_INLET rep.inlet).set F.PWR_COOLANT0_OUT_TOP rep.outTop
  let s := s.set F.PWR_COOLANT1_OUT_BOTTOM rep.outBottom
  let s := if 640 < rep.inlet then
      updateCeiling { s.set F.PWR_ALARM_INLET_HIGH 1 with power := { s.power with inletLimit := 1750 - 100 * (rep.inlet - 640) / 16 } }
    else updateCeiling { s with power := { s.power with inletLimit := 65535 } }
  let s := if 720 < rep.inlet ∧ rep.inletHotSecond then raiseFault { code := 0x050e, unitType := 18, access := 7 } s else s
  if rep.inlet + 192 < max rep.outTop rep.outBottom then noteAt 5 0 108 18 3 (s.set F.PWR_ALARM_FLOW_LOW 1) else s

/-! ### Meanings -/

def execPartitionPowerWindow (p : Fin 8) (draw : BitVec 16) (s : State) : Host.Outcome State Fault Refusal :=
  .next (partitionWindow p draw.toNat s)

def execModulePowerWindow (draw : BitVec 16) (s : State) : Host.Outcome State Fault Refusal := .next (moduleWindow draw.toNat s)

def execEnvelopeBreakpoint (s : State) : Host.Outcome State Fault Refusal := .next (envelopeBreakpoint s)

def execBallastDutyUpdate (draw cap : BitVec 16) (s : State) : Host.Outcome State Fault Refusal :=
  .next (ballastUpdate draw.toNat cap.toNat s)

def execQuenchReached (scope : Fin 8) (s : State) : Host.Outcome State Fault Refusal := .next (quenchReached scope s)

def execMainInputCondition (vin : BitVec 16) (s : State) : Host.Outcome State Fault Refusal := .next (mainInput vin.toNat s)

def execInputLoss (vin : BitVec 16) (s : State) : Host.Outcome State Fault Refusal := .next (inputLoss vin.toNat s)

/-- JOURNAL_FLUSH_COMPLETE (R427): the staging buffer is in Tier P. -/
def execJournalFlushComplete (s : State) : Host.Outcome State Fault Refusal := .next (flushJournal s)

def execAux12vLoss (s : State) : Host.Outcome State Fault Refusal := .next (auxLoss s)

def execConverterFault (c : Fin 48) (s : State) : Host.Outcome State Fault Refusal := .next (converterFault c s)

def execVoltageSample (d : Fin 792) (v : BitVec 9) (s : State) : Host.Outcome State Fault Refusal :=
  .next (voltageSample d v.toNat s)

def execTokenAdmission (s : State) : Host.Outcome State Fault Refusal := .next (tokenAdmission s)

def execSoftStartRetry (d : Fin 792) (s : State) : Host.Outcome State Fault Refusal := .next (softStartRetry d s)

def execHoldupStateChange (vbank : BitVec 16) (dq : Int) (current : BitVec 16) (s : State) : Host.Outcome State Fault Refusal :=
  .next (holdupChange vbank.toNat dq current.toNat s)

def execEstimatorDisagree (vbank : BitVec 16) (dq : Int) (s : State) : Host.Outcome State Fault Refusal :=
  .next (estimatorDisagree vbank.toNat dq s)

def execHoldupCalibration (vbank : BitVec 16) (dq : BitVec 32) (s : State) : Host.Outcome State Fault Refusal :=
  .next (holdupCalibration vbank.toNat dq.toNat s)

def execThermalWindow (rep : ThermReport) (s : State) : Host.Outcome State Fault Refusal := .next (thermalWindow rep s)

/-- OVERTEMP_TRIP (R429): any junction; class 5, acting without firmware. -/
def execOvertempTrip (at_ : Sensor) (s : State) : Host.Outcome State Fault Refusal :=
  .next (raiseFault { code := 0x050d, collector := sensorCollector at_, unitType := 18, inst := sensorInst at_, access := 7 } s)

/-- COOLANT_OK_DEASSERT (R429, R522): class 4. -/
def execCoolantOkDeassert (s : State) : Host.Outcome State Fault Refusal :=
  .next (raiseFault { code := 0x050f, unitType := 18, access := 7 }
    ((s.set F.CHT_PIN_STATUS_COOLANT_OK 0).set F.PWR_ALARM_COOLANT_NOT_OK 1))

/-- LEAK_DET_ASSERT (R429, R522): class 5. -/
def execLeakDetAssert (s : State) : Host.Outcome State Fault Refusal :=
  .next (raiseFault { code := 0x0510, unitType := 18, access := 7 } (s.set F.CHT_PIN_STATUS_LEAK_DET 1))

def execScratchpadZeroDone (f : Fin 88) (pos : Fin 72) (s : State) : Host.Outcome State Fault Refusal :=
  .next (scratchpadZeroDone f pos s)

end Sys2Proof.Machine
end

