-- ==== Sys2Proof/Machine/Parts.lean ====
section
/-!
DEFINITION. Machine/Parts.lean: a partition as a whole: what configuration it owns and the digest of it (R395, R450,
R451), a commit taking effect (R398, R452-R455), placing and undoing a partition (R349, R350), its fences, shares and keys.
-/
namespace Sys2Proof.Machine

/-! ### RWL fields and their owners (R11, R395) -/

/-- The bits [hi:lo] of a word. -/
def bitsMask (hi lo : Nat) : Word := ((BitVec.allOnes (hi + 1 - lo)).setWidth 32) <<< lo

/-- The bits of the register at an offset that have an access type. -/
def accMask (a : Access) (off : Nat) : Word :=
  match regRow off with
  | some r => r.fields.foldl (fun m f => if f.acc = a then m ||| bitsMask f.hi f.lo else m) 0
  | none => 0

/-- SNL_COORD, SNL_TORUS and SNL_DETOUR are one register each, shown in every port window (R325). -/
def canonOff (off : Nat) : Nat :=
  if 0x100000 ≤ off ∧ off < 0x140000 ∧ [0x1c, 0x20, 0x24].contains (off % 0x1000) then 0x100000 + off % 0x1000 else off

/-- A field of a word limited to a range: writes outside load the nearer limit. -/
def clampTo (w : Word) (hi lo least most : Nat) : Word := Word.withField w hi lo (max least (min most (Word.field w hi lo)))

/-- What a register loads for a word written to it, where its table limits a field. -/
def loadRule (off : Nat) (w : Word) : Word :=
  match winOf off with
  | (.chitin, 0x8) => clampTo (clampTo w 31 16 500 65535) 15 9 1 88
  | (.chitin, 0x108) => clampTo (clampTo w 31 16 10 10000) 15 8 1 255
  | (.chitin, 0x110) | (.chitin, 0x114) => w &&& 0xbfbfbfbf
  | (.queue _ _, 0x10) => clampTo (clampTo w 15 12 0 8) 11 8 0 8
  | (.time, 0xc) => if 4 < Word.field w 7 4 then Word.withField w 7 4 0 else w
  | (.time, 0x18) => clampTo w 31 16 10000 65535
  | (.time, 0x1c) => clampTo w 7 0 1 200
  | (.time, o) =>
    if 0x40 ≤ o ∧ o < 0x60 then clampTo w 2 0 1 7
    else if 0x8000 ≤ o ∧ o % 16 = 0 then clampTo w 4 0 0 10
    else w
  | (.power, 0x44) => clampTo w 15 8 70 92
  | (.faults, 0x8) => clampTo (clampTo w 23 16 1 255) 11 0 64 4095
  | (.mesh, 0x4) => clampTo w 3 0 2 15
  | (.vault _, 0x20) => clampTo w 15 0 1 65535
  | (.upd _, o) => if 0x8040 ≤ o ∧ o < 0x8060 then clampTo w 26 24 1 7 else w
  | _ => w

/-- The nibbles of a slot-table word that satisfy a condition, as a mask (SNL_SLOT_TBL). -/
def nibbleMask (w : Word) (ok : Nat → Bool) : Word :=
  (List.range 8).foldl (fun m i => if ok (Word.field w (4 * i + 3) (4 * i)) then m ||| bitsMask (4 * i + 3) (4 * i) else m) 0

/-- A slot-table word of a port window. -/
def isSlotTbl (r : Nat) : Bool := decide (0x100 ≤ r) && decide (r < 0x120)

/-- The bits of the register at an offset that partition p owns, under given values (Table 12.12). -/
def ownMask (v : Nat → Word) (p off : Nat) : Word :=
  match winOf off with
  | (.port _, r) =>
    if r = 0x28 then (if p < 4 then bitsMask (8 * p + 7) (8 * p) else 0)
    else if r = 0x2c then (if 4 ≤ p then bitsMask (8 * p - 25) (8 * p - 32) else 0)
    else if r = 0x30 then (if p = 0 then 0 else bitsMask p p)
    else if isSlotTbl r then nibbleMask (v off) (fun n => n == 8 + p && p != 0)
    else if p = 0 then accMask .rwl off else 0
  | (.time, r) =>
    if 0x40 ≤ r ∧ r < 0x60 then (if r = 0x40 + 4 * p then accMask .rwl off else 0)
    else if p = 0 then accMask .rwl off else 0
  | _ => if p = 0 then accMask .rwl off else 0

/-- What partition p may change: what it owns, and for partition 0 the invalid slot-table entries. -/
def changeMask (v : Nat → Word) (p off : Nat) : Word :=
  match winOf off with
  | (.port _, r) => if p = 0 ∧ isSlotTbl r then nibbleMask (v off) (fun n => decide (n < 8)) else ownMask v p off
  | _ => ownMask v p off

/-! ### The configuration digest (R450, R451) -/

/-- Offsets of the registers of system scope that can hold bits of p, rising (Table 14.6). [log 62 DEDUCED] -/
def systemWords (p : Nat) : List Nat :=
  let ports := List.range 64
  if p = 0 then [0x20018, 0x2001c, 0x20024, 0x100020, 0x100024] ++ ports.map (fun n => 0x100028 + 0x1000 * n)
  else (0x20040 + 4 * p) :: (ports.map (fun n =>
    [0x100000 + 0x1000 * n + (if p < 4 then 0x28 else 0x2c), 0x100030 + 0x1000 * n]
      ++ (List.range 8).map (fun i => 0x100100 + 0x1000 * n + 4 * i))).flatten

/-- The digest of partition p at an epoch, under given values. [log 62 DEDUCED] -/
def cfgDigestOf (p e : Nat) (v : Nat → Word) : List Byte :=
  let recs := (systemWords p).filterMap (fun o =>
    let m := ownMask v p o
    if m = 0 then none else some (leBytes o 4 ++ leBytes (v o &&& m).toNat 4))
  sha256 ([BitVec.ofNat 8 p, 1] ++ leBytes e 2 ++ leBytes recs.length 4 ++ recs.flatten)

/-! ### Staged values (R396) -/

/-- LIVE0 and LIVE1, the live-port words. -/
def live0 : Nat := 0xffffff00
def live1 : Nat := 0xffffff04

/-- The committed word of a target. -/
def committedWord (s : State) (t : Nat) : Word :=
  if t = live0 then BitVec.ofNat 32 s.boot.live
  else if t = live1 then BitVec.ofNat 32 (s.boot.live / 2 ^ 32)
  else s.rd t

/-- The word a target takes at the commit of a staging area: masked bits take VALUE in entry order. -/
def stagedWord (s : State) (l : List StageEntry) (t : Nat) : Word :=
  let own := l.filter (fun e => e.target == t)
  if own.isEmpty then committedWord s t
  else loadRule t (own.foldl (fun w e => (w &&& ~~~e.mask) ||| (e.value &&& e.mask)) (committedWord s t))

/-- The epoch and digest that committing the area of p would produce. -/
def stagedEpoch (s : State) (p : Nat) : Nat := (cfgEpoch s p + 1) % 65536
def stagedDigest (s : State) (p : Nat) (l : List StageEntry) : List Byte := cfgDigestOf p (stagedEpoch s p) (stagedWord s l)

/-! ### A commit takes effect (R398, R452-R455) -/

/-- Sum of a port's shares with the share words given. -/
def shareSum (w0 w1 : Word) : Nat :=
  ((List.range 4).map (fun i => Word.field w0 (8 * i + 7) (8 * i) + Word.field w1 (8 * i + 7) (8 * i))).sum

/-- A write of a share register would make the port's shares sum to more than 256 (R325). [log 30 DEDUCED] -/
def shareOver (s : State) (off : Nat) (w : Word) : Bool :=
  match winOf off with
  | (.port n, 0x28) => decide (256 < shareSum w (s.rd (R.SNL_VC_SHARE1 n)))
  | (.port n, 0x2c) => decide (256 < shareSum (s.rd (R.SNL_VC_SHARE0 n)) w)
  | _ => false

/-- MODE and SEAM_ALLOW of MSH_MODE, which the first CFG_COMMIT locks for good (R201, R348). -/
def modeMask : Word := 0xff01

/-- MSH_MODE keeps its mode and its SEAM_ALLOW once they are locked, whatever was staged before (R201, R348). -/
def keepMode (s : State) (t : Nat) (w : Word) : Word :=
  if t = R.MSH_MODE ∧ s.boot.rwlLocked then (w &&& ~~~modeMask) ||| (s.rd t &&& modeMask) else w

/-- One staged target takes its value; shares beyond 256 are refused as on a write (R325). -/
def takeStaged (l : List StageEntry) (t : Nat) (s : State) : State :=
  let w := keepMode s t (stagedWord s l t)
  if t = live0 then { s with boot := { s.boot with live := s.boot.live / 2 ^ 32 * 2 ^ 32 + w.toNat } }
  else if t = live1 then { s with boot := { s.boot with live := s.boot.live % 2 ^ 32 + w.toNat * 2 ^ 32 } }
  else if shareOver s t w then note 5 0 t s
  else s.wr t w

/-- A port may be live: its partner is the one expected of it, and its axis has more than one position (R327). -/
def mayLive (s : State) (n : Nat) : Bool :=
  s.get (F.SNL_PEER_PEER_COORD n) == expectedPeer s n && ringLen s (groupAxis (groupOf n)) != 1

/-- The live set follows the committed live words (R315, R454): a port named live and in STANDBY becomes ACTIVE, one in
another state is noted, one no longer named returns to STANDBY. -/
def applyLive (s : State) : State :=
  s.forEach (List.range 64) (fun n t =>
    let st := t.get (F.SNL_STATUS_STATE n)
    if bitOf t.boot.live n = 1 then
      if st = 7 then t
      else if st = 6 && mayLive t n then (t.set (F.SNL_STATUS_STATE n) 7).set (F.SNL_STATUS_LIVE n) 1
      else noteAt 5 0 (100 + n / 8) 15 n t
    else if st = 7 then leaveLive n 6 t else t)

/-- Every committed partition 0 value except LIVE0 and LIVE1: the words that differ from reset (R455). -/
def part0Words (s : State) : List (Nat × Word) :=
  (s.regs.map (fun e => (e.1, e.2 &&& ownMask s.rd 0 e.1))).filter (fun e => ownMask s.rd 0 e.1 != 0)

/-- Chitin stores the committed configuration of partition 0 in its flash (R455). -/
def storeConfig (epoch : Nat) (digest : List Byte) (s : State) : State :=
  { s with boot := { s.boot with storedCfg := part0Words s, storedEpoch := epoch, storedDigest := digest } }

/-- The commit of partition p falls due. [log 3 DESIGN CHOICE] -/
def commitDue (s : State) (p : Nat) : Bool := (s.part p).commit.any (fun c => decide (c.c ≤ s.fet))

/-- A creation still in progress of partition p. -/
def creating (s : State) (p : Nat) : Bool := hasJob s (fun w => match w with | .partCreate q _ _ => q == p | _ => false)

/-- A commit of partition p: staged values, epoch and digest, PENDING, the lock, the live set, the flash copy, the
journal; the command, or the creation it ends, has its outcome (R349, R398). [log 30 DEDUCED] -/
def applyCommit (p : Nat) (s : State) : State :=
  let d := s.part p
  match d.commit with
  | none => s
  | some c =>
    if partState s p = 1 ∧ !creating s p then
      (s.setPart p { d with commit := none }).set (F.CHT_CFG_STATUS_PENDING p) 0
    else
    let old : PendingCommit := ⟨c.c, cfgEpoch s p, cfgDigest s p⟩
    let s := (d.staging.map (·.target)).eraseDups.foldl (fun t o => takeStaged d.staging o t) s
    let s := s.setPart p { s.part p with commit := none, staging := [], staged := false, digest := c.digest, prevCfg := some old }
    let s := (s.set (F.CHT_CFG_STATUS_EPOCH p) c.epoch).set (F.CHT_CFG_STATUS_PENDING p) 0
    let s := s.journal (.config p c.epoch c.digest)
    let s := if p = 0 then storeConfig c.epoch c.digest (applyLive s) else s
    if partState s p = 1 then
      let s := if creating s p then setChanging false p (setPartState s p 2) else s
      endJobs (fun w => match w with | .partCreate q _ _ => q == p | _ => false) stOk [] s
    else
      let s := { s with boot := { s.boot with rwlLocked := true } }
      { s with jobs := s.jobs.map (fun (j : Job) => match j.work with
        | .cfgCommit q _ => if q = p ∧ j.fin.isNone then { j with fin := some (stOk, [], c.c) } else j
        | _ => j) }

/-- Every commit that has fallen due, partition 0 first, then ascending (R453). [log 30 DEDUCED] -/
def settleCommits (s : State) : State := s.forEach (List.range 8) (fun p t => if commitDue t p then applyCommit p t else t)

/-- CONFIG_COMMIT_DUE. -/
def configCommitDue (p : Nat) (s : State) : State := if commitDue s p then settleCommits s else s

/-- Commits and a map activation that have fallen due come before what follows them at one FET (R453). -/
def settle (s : State) : State := mapActivation (settleCommits s)

/-! ### Fences, shares, keys -/

/-- The fence regions of p, of Tier C and of Tier P, become free. -/
def freeFences (p : Nat) (s : State) : State :=
  let s := s.forEach (List.range 12) (fun v t => t.forEach (List.range 16) (fun r t =>
    if t.flag (F.VLT_FENCE_ATTR_VALID v r) && t.get (F.VLT_FENCE_ATTR_PART v r) == p then
      ((t.wr (R.VLT_FENCE_BASE v r) 0).wr (R.VLT_FENCE_LIMIT v r) 0).wr (R.VLT_FENCE_ATTR v r) 0
    else t))
  s.forEach (List.range 8) (fun v t => t.forEach (List.range 16) (fun r t =>
    if t.flag (F.VLT_PFENCE_ATTR_VALID v r) && t.get (F.VLT_PFENCE_ATTR_PART v r) == p then
      ((t.wr (R.VLT_PFENCE_BASE v r) 0).wr (R.VLT_PFENCE_LIMIT v r) 0).wr (R.VLT_PFENCE_ATTR v r) 0
    else t))

/-- The lowest free Tier C region of a Vault, and the lowest free Tier P region. -/
def freeFenceC (s : State) (v : Nat) : Option Nat := (List.range 16).find? (fun r => !s.flag (F.VLT_FENCE_ATTR_VALID v r))
def freeFenceP (s : State) (v : Nat) : Option Nat := (List.range 16).find? (fun r => !s.flag (F.VLT_PFENCE_ATTR_VALID v r))

/-- A Tier C region placed in a free fence. -/
def placeC (p v kind mover ue base limit : Nat) (s : State) : State :=
  match freeFenceC s v with
  | none => s
  | some r =>
    let s := (s.set (F.VLT_FENCE_BASE_BASE v r) base).set (F.VLT_FENCE_LIMIT_LIMIT v r) limit
    let s := (s.set (F.VLT_FENCE_ATTR_VALID v r) 1).set (F.VLT_FENCE_ATTR_PART v r) p
    ((s.set (F.VLT_FENCE_ATTR_KIND v r) kind).set (F.VLT_FENCE_ATTR_MOVER v r) mover).set (F.VLT_FENCE_ATTR_UE v r) ue

/-- A Tier P region placed in a free fence. -/
def placeP (p v base limit : Nat) (s : State) : State :=
  match freeFenceP s v with
  | none => s
  | some r =>
    let s := (s.set (F.VLT_PFENCE_BASE_BASE v r) base).set (F.VLT_PFENCE_LIMIT_LIMIT v r) limit
    (s.set (F.VLT_PFENCE_ATTR_VALID v r) 1).set (F.VLT_PFENCE_ATTR_PART v r) p

/-- The share register of VC p on a port. -/
def shareOff (n p : Nat) : Nat := if p < 4 then R.SNL_VC_SHARE0 n else R.SNL_VC_SHARE1 n

/-- VC p's share on every port. -/
def setShares (p v : Nat) (s : State) : State :=
  s.forEach (List.range 64) (fun n t =>
    t.wr (shareOff n p) (Word.withField (t.rd (shareOff n p)) (8 * (p % 4) + 7) (8 * (p % 4)) v))

/-- Shows which keys are installed. -/
def setKeyBit (f : Fld) (p : Nat) (on : Bool) (s : State) : State :=
  s.set f (s.get f - 2 ^ p * bitOf (s.get f) p + (if on then 2 ^ p else 0))

/-- Every key of p is erased in every Vault and Port die (R229, R350). [log 39 DEDUCED] -/
def eraseKeys (p : Nat) (s : State) : State :=
  let s := s.setPart p { s.part p with keyC := none, keyP := none, keyL := none }
  let s := s.forEach (List.range 12) (fun v t => setKeyBit (F.VLT_KEY_STATUS_C_KEY v) p false t)
  s.forEach (List.range 8) (fun v t => setKeyBit (F.VLT_KEY_STATUS_P_KEY v) p false t)

/-! ### Undoing and destroying (R349, R350) -/

/-- The partition's ERU schedule entries, slot-table entries and UE groups become invalid. [log 39 DEDUCED] -/
def dropSchedules (p : Nat) (s : State) : State :=
  let s := s.forEach (List.range 64) (fun n t =>
    let t := t.forEach (List.range 128) (fun e t =>
      if t.flag (F.ERU_SCHED0_VALID n e) && t.get (F.ERU_SCHED0_PART n e) == p then t.set (F.ERU_SCHED0_VALID n e) 0 else t)
    t.forEach (List.range 8) (fun i t =>
      t.wr (R.SNL_SLOT_TBL n i) (t.rd (R.SNL_SLOT_TBL n i) &&& ~~~nibbleMask (t.rd (R.SNL_SLOT_TBL n i)) (fun x => x == 8 + p))))
  s.forEach (List.range 12) (fun v t => t.forEach (List.range 16) (fun g t =>
    if t.flag (F.UPD_G_CFG_VALID v g) && t.get (F.UPD_G_CFG_PART v g) == p then
      setUpdating v g false {} (t.set (F.UPD_G_CFG_VALID v g) 0)
    else t))

/-- The fields of p return to partition 0 and p is FREE; its budget is released (R350 step 8, R349).
[log 39 DEDUCED, 134 DEDUCED] -/
def releasePart (p : Nat) (s : State) : State :=
  let m := partMask s p
  let lost := (s.part p).failed
  let s := setPartMask s p 0
  let s := setPartMask s 0 (maskFields m |>.foldl (fun a f => a + 2 ^ f * (1 - bitOf a f)) (partMask s 0))
  let s := s.setPart 0 { s.part 0 with failed := lost.foldl (fun l f => setAdd f l) (s.part 0).failed }
  let s := s.resetRegs (0x40100 + 0x40 * p) (0x40140 + 0x40 * p)
  let s := (s.set (F.CHT_CFG_STATUS_EPOCH p) 0).set (F.CHT_CFG_STATUS_PENDING p) 0
  let s := s.set (F.FLT_PART_SUM_STATE_INTACT p) 0
  let s := s.setPart p {}
  wakeFields (maskFields m) (setChanging false p (scaleBudgets s))

/-- A creation that failed leaves nothing of p behind (R349). [log 27 DESIGN CHOICE] -/
def undoCreate (p : Nat) (s : State) : State := releasePart p (freeFences p (setShares p 0 s))

/-- A field of p is ready to leave: nothing of it is still being zeroed; one that is not in service is zeroed later. -/
def zeroed (s : State) (f : Nat) : Bool :=
  !inService s f || (!(s.fieldD f).zeroing && (List.range 72).all (fun pos => !s.flag (F.CEL_STATUS_SP_ZEROING f pos)))

/-- A field being zeroed, or still to be zeroed after it left a tenant (R350; Table 11.3, check 5). [log 39 DEDUCED] -/
def beingZeroed (s : State) (f : Nat) : Bool := !zeroed s f || (s.fieldD f).dirty

/-- Ends every command of p in progress, except its destruction. [log 27 DESIGN CHOICE] -/
def endPartJobs (p status : Nat) (s : State) : State :=
  endJobs (fun w => match w with
    | .planStop q => q == p
    | _ => false) stOk [] s |> endJobs (fun w => match w with
    | .stepCommit q _ | .move q .. | .ckptWrite q | .ckptRestore q _ | .migrate q .. | .mapUpdate q .. | .cfgCommit q _
    | .sentinelRun q .. => q == p
    | .planLoad f .. => ownerOf s f == p
    | _ => false) status []

/-- Steps 1 to 6 of PART_DESTROY, and the start of step 7. -/
def beginDestroy (p : Nat) (s : State) : State :=
  let s := setPartState s p 5
  let s := dropSchedules p s
  let s := eraseKeys p s
  let s := stopCkpt p s
  let s := s.forEach (List.range 12) (fun v t =>
    if (t.vault v).ckpt.any (fun k => k.part == p) then t.setVault v { t.vault v with ckpt := none } else t)
  let s := setShares p 0 (freeFences p s)
  let s := dropPortFrames p s
  let s := endPartJobs p stFaulted s
  let s := s.setPart p { s.part p with commit := none, staging := [], staged := false, armed := [] }
  let s := s.set (F.CHT_CFG_STATUS_PENDING p) 0
  s.forEach (partFields s p) clearField

/-- The destruction of p is done: every field that could be zeroed is. [log 27 DESIGN CHOICE] -/
def destroyDone (s : State) (p : Nat) : Bool := (partFields s p).all (zeroed s)

/-! ### Cicada frames (R67, R302) -/

/-- A Cicada frame at a trained port: the checks of a frame, then the engine; a CRC failure breaks the run of good frames. -/
def cicadaFrame (n : Nat) (hdr : Frame) (fr : CicadaFrame) (rxPs : Nat) (s : State) : State :=
  let s := if portTrained s n && !crcGood hdr then s.setCic n { s.cic n with good := 0 } else s
  receiveFrame n hdr (fun h => h.cls == 3) (cicadaReceive n fr rxPs) s

/-! ### Meanings -/

def execConfigCommitDue (p : Fin 8) (s : State) : Host.Outcome State Fault Refusal := .next (configCommitDue p s)

/-- MAP_ACTIVATION, after the commits that fall due with it (R453). -/
def execMapActivation (s : State) : Host.Outcome State Fault Refusal := .next (settle s)

/-- STEP_BUNDLE, after the commits and the map activation that fall due with it (R453). -/
def execStepBundle (f : Fin 88) (cyc : Nat) (s : State) : Host.Outcome State Fault Refusal := .next (stepBundle f cyc (settle s))

def execCicadaReceive (port : Fin 64) (hdr : Frame) (frame : CicadaFrame) (rxFetPs : Nat) (s : State) :
    Host.Outcome State Fault Refusal := .next (cicadaFrame port hdr frame rxFetPs s)

end Sys2Proof.Machine
end

