-- ==== Sys2Proof/Machine/BringUp.lean ====
section
/-!
DEFINITION. Machine/BringUp.lean: Chitin's power-up, the ten bring-up steps, warm re-initialisation and module reset, the
reset, enable and strap pins, the defect map (14_bring_up, 17_connector R517-R520).
-/
namespace Sys2Proof.Machine

/-! ### Defect map (R443-R445) -/

/-- The field that a defect entry maps out (Table 14.3). -/
def mapsOut (d : DefectEntry) : Option Nat :=
  match d.type with
  | 1 => some d.loc
  | 4 =>
    let c := d.loc / 8
    let f := c / 72
    let x := c % 72 % 8
    let y := c % 72 / 8
    if d.loc % 8 = 0 then (if x < 7 then some f else fieldAt (fieldRow f) (fieldCol f + 1))
    else if d.loc % 8 = 1 then (if y < 8 then some f else fieldAt (fieldRow f + 1) (fieldCol f))
    else none
  | 7 => some (d.loc / 16)
  | _ => none

/-- Fields mapped out by the entries in force. -/
def fieldsOut (s : State) : List Nat := (s.boot.active.filterMap mapsOut).filter (fun f => decide (f < 88))

/-- Positions of field f failed by the entries in force: cells, and the nine cells of a cluster. -/
def cellsOut (s : State) (f : Nat) : List Nat :=
  (List.range 72).filter (fun p => s.boot.active.any (fun d =>
    (d.type == 3 && d.loc == 72 * f + p) || (d.type == 2 && d.loc == 8 * f + clusterOf (p % 8) (p / 8))))

/-- A cluster is kept OFF. -/
def clusterOut (s : State) (f k : Nat) : Bool := s.boot.active.any (fun d => d.type == 2 && d.loc == 8 * f + k)

/-- A port is held FAILED. -/
def portOut (s : State) (n : Nat) : Bool := s.boot.active.any (fun d => d.type == 6 && d.loc / 1024 == n)

/-- Stores a defect entry; where the map is full it is not stored and FULL is set (R444). -/
def storeDefect (d : DefectEntry) (s : State) : State :=
  if 1024 ≤ s.boot.defects.length then s.set F.CHT_DEFECT_STATUS_FULL 1
  else { s with boot := { s.boot with defects := s.boot.defects ++ [d] } }.journal (.defect d)

/-- FET ÷ 10⁹, low 32 bits. -/
def defectTime (s : State) : Nat := s.fet / 1000000000 % 2 ^ 32

/-- A defect found during bring-up: origin 1, in force at once; a class 0 note where it maps a field out (R435). -/
def newDefect (d : DefectEntry) (s : State) : State :=
  let d := { d with origin := 1, time := defectTime s }
  let s := storeDefect d { s with boot := { s.boot with active := s.boot.active ++ [d] } }
  match mapsOut d with
  | some f => noteAt 5 0 f 16 8 s
  | none => s

/-- Fields mapped out lose their power: uncore and clusters OFF, a hole. -/
def powerOut (s : State) : State :=
  s.forEach (fieldsOut s) (fun f t => makeHole f (t.forEach (List.range 9) (fun k t => domainOff (domOf f k) t)))

/-- Fields in service. -/
def serving (s : State) : List Nat := allFields.filter (inService s)

/-! ### What a loss of power or a reset takes away (Table 14.5, R544) -/

/-- The registers in [lo, hi) return to reset, except those `keep` names. [log 108 DEDUCED] -/
def resetRegsBut (lo hi : Nat) (keep : Nat → Bool) (s : State) : State :=
  { s with regs := s.regs.filter (fun e => decide (e.1 < lo) || decide (hi ≤ e.1) || keep e.1) }

/-- The RW and RWL fields of the registers in [lo, hi) return to reset, and what was armed with them. -/
def resetRwFields (lo hi : Nat) (s : State) : State :=
  s.overRegs lo hi (fun o w =>
    let m := accMask .rw o ||| accMask .rwl o ||| accMask .w1s o
    (w &&& ~~~m) ||| (regDflt o &&& m))

/-- The RWL fields of the registers in [lo, hi) return to reset (R12). -/
def resetRwlFields (lo hi : Nat) (s : State) : State :=
  s.overRegs lo hi (fun o w => (w &&& ~~~(accMask .rwl o)) ||| (regDflt o &&& accMask .rwl o))

/-- What a Vault keeps over a warm re-initialisation: Tier C, Tier P, the journal, calibration records (Table 14.5). -/
def keepTiers (d : VaultState) : VaultState :=
  { cal := d.cal, tierC := d.tierC, keyOfC := d.keyOfC, tcBad := d.tcBad, tcEcc := d.tcEcc, slots := d.slots
    journal := d.journal, staging := d.staging, stagedAt := d.stagedAt, tierP := d.tierP, keyOfP := d.keyOfP }

/-- No epoch and no digest committed, the RWL fields unlocked, the live words 0 (R452, R12). -/
def clearConfig (s : State) : State :=
  let s := s.forEach (List.range 8) (fun p t => (t.set (F.CHT_CFG_STATUS_EPOCH p) 0).set (F.CHT_CFG_STATUS_PENDING p) 0)
  { s with boot := { s.boot with live := 0, rwlLocked := false } }

/-- What a field keeps over a warm re-initialisation: the calibration records of its stack (Table 14.5). -/
def keepCal (d : FieldState) : FieldState := { cal := d.cal }

/-- Plans, cells, mesh, ERUs and partitions of a restart are gone; the calibration records of the stacks are not. -/
def clearUnits (s : State) : State :=
  { s with
    parts := [], fields := AMap.mapVals (fun _ => {}) keepCal s.fields
    cells := [], nis := [], mesh := {}, erus := [], injects := []
    power := { s.power with
      wakeQ := [], entering := [], slews := [], ramps := [], opOwn := [], tierSelfRefresh := [], vaultRefresh := false } }

/-- Everything that lived on wafer, Port dies and Vaults is lost, except Tier P (Table 14.5). -/
def loseWafer (s : State) : State :=
  let s := clearConfig (clearUnits s)
  let s := { s with ports := [], cicada := [], fields := [], vaults := AMap.mapVals (fun _ => {}) keepTierP s.vaults }
  (s.resetRegs 0x40000 0x60000).resetRegs 0x100000 0xd80000

/-- TIM_REF_PRIO for each role strap (Table 02.2). -/
def prioWord (role : Nat) : Word := if role = 1 then 0x243 else if role = 3 then 0x2143 else 0x4321

/-- TIM_CTRL and TIM_REF_PRIO as Chitin loads them (R547, R60). [log 62 DEDUCED] -/
def loadTime (s : State) : State :=
  let s := ((s.set F.TIM_CTRL_ENABLE 1).set F.TIM_CTRL_CICADA_TX_EN 1).set F.TIM_CTRL_PTP_EN 1
  s.wr R.TIM_REF_PRIO (prioWord (s.get F.CHT_STRAP_ROLE))

/-- The role and the slot strapped: CHT_STRAP, the manager's ACT, the reset order of references (R517, R60).
[log 112 DEDUCED] -/
def takeStraps (role slot : Nat) (s : State) : State :=
  let s := (s.set F.CHT_STRAP_ROLE role).set F.CHT_STRAP_SLOT_ID slot
  let s := s.set F.CHT_MGR_STATUS_ACT role
  s.wr R.TIM_REF_PRIO (prioWord role)

/-- A module reset (R446, R394, R544): every converter and regulator off, every queue disabled and lost, every window
reset but Chitin's own and the FET state; CHT_STATUS back to the end of step 1. [log 108 DEDUCED] -/
def moduleReset (s : State) : State :=
  let s := loseWafer (powerDown s)
  let s := (s.resetRegs 0x8000 0x10000).resetRegs 0x1008000 0x1010000
  let s := resetRegsBut 0x10000 0x20000 (fun _ => false) s
  let s := loadTime (resetRwFields 0x20000 0x30000 s)
  let s := if locked s then s else s.resetRegs 0x30000 0x40000
  let s := { s with
    queues := [], rings := [], jobs := [], latches := []
    power := { band := s.power.band, bandLeft := s.power.bandLeft, charge := s.power.charge }
    log := { chitin := s.log.chitin, committed := s.log.committed, storeBad := s.log.storeBad }
    boot := { s.boot with pinSafe := locked s, warmPhase := 0, runTarget := 0, abort := false, pwrOffPending := false
                          inputLost := false, logLost := false } }
  let s := (s.set F.CHT_PIN_STATUS_PIN_SAFE (if locked s then 1 else 0)).set F.CHT_STATUS_WARM 0
  s.set F.CHT_FW_STATUS_VERSION 0

/-! ### Step 1 -/

/-- The pins as Chitin samples them (Table 17.6). -/
def takePins (p : Pins) (s : State) : State :=
  let b := fun (x : Bool) => if x then 1 else 0
  let s := ((s.set F.CHT_PIN_STATUS_REF_CLK_OK (b p.refClkOk)).set F.CHT_PIN_STATUS_REF_PPS (b p.refPps)).set
    F.CHT_PIN_STATUS_COOLANT_OK (b p.coolantOk)
  let s := ((s.set F.CHT_PIN_STATUS_LEAK_DET (b p.leakDet)).set F.CHT_PIN_STATUS_PWR_EN (b p.pwrEn)).set
    F.CHT_PIN_STATUS_RST_L (b p.rstL)
  (s.set F.CHT_PIN_STATUS_PE0_PERST_L (b p.perst0)).set F.CHT_PIN_STATUS_PE1_PERST_L (b p.perst1)

/-- The serial number and the management MAC address, from the identity store (R547). -/
def loadSerial (s : State) : State :=
  { s with boot := { s.boot with mac := (List.range 6).map Config.mac } }.forEach (List.range 4) (fun k t => t.wr (R.CHT_SERIAL k) (BitVec.ofNat 32 (leAt ((List.range 16).map Config.serial) (4 * k) 4)))

/-- The manager registers from flash, or their factory values (R507, Table 16.5). -/
def loadMgr (s : State) : State :=
  let s := s.wr R.CHT_MGR_CFG ((100 <<< 16) ||| (60 <<< 8) ||| 7)
  let s := s.wr R.CHT_MGMT_BASE 0xa9fe0100
  s.boot.flashMgr.foldl (fun t e => t.wr e.1 e.2) s

/-- The bring-up drive starts (R496): phase D1. -/
def startDrive (s : State) : State :=
  if s.flag F.CHT_MGR_STATUS_DRIVING then s
  else { s.set F.CHT_MGR_STATUS_DRIVING 1 with mgr := { s.mgr with phase := 1, abort := false } }

/-- CHITIN_POWER_UP: step 1 (R432, R434, R517, R547). [log 5 DESIGN CHOICE] -/
def powerUp (pins : Pins) (lockstepOk measured : Bool) (s : State) : State :=
  if s.boot.powered then s else
  let held := !pins.rstL
  let s := { s with boot := { s.boot with powered := true, strapsFrozen := !held, active := s.boot.defects, holdStart := s.fet } }
  let s := takeStraps pins.role pins.slotId (takePins pins s)
  let s := s.set F.CHT_RST_STATUS_HELD (if held then 1 else 0)
  let s := s.set F.CHT_STATUS_LOCKSTEP_OK (if lockstepOk then 1 else 0)
  if !lockstepOk then
    raiseFault { code := 0x0601, unitType := 19 } ((s.set F.CHT_STATUS_FAIL 1).set F.CHT_STATUS_FAIL_CODE 10)
  else
    let s := s.set F.CHT_STATUS_FW_MEASURED (if measured then 1 else 0)
    if !measured then
      raiseFault { code := 0x0602, unitType := 19 } ((s.set F.CHT_STATUS_FAIL 1).set F.CHT_STATUS_FAIL_CODE 1)
    else
      let s := loadMgr (loadSerial (loadTime s))
      let s := s.set F.CHT_STATUS_STEP_DONE 1
      let s := s.set (F.CHT_BU_TIME_MS 0) (min 65535 (s.fet / 1000000))
      if s.get F.CHT_MGR_STATUS_ACT = 1 ∧ s.flag F.CHT_MGR_CFG_AUTO_DRIVE then startDrive s else s

/-! ### Steps 2 to 10 -/

/-- Number of healthy converters of a mask. -/
def convCount (m : Nat) : Nat := popCount m 48

/-- The reserve charges again from step 2 (Table 13.5). -/
def chargeAgain (s : State) : State := if s.get F.PWR_HOLDUP_STATE = 4 then s.set F.PWR_HOLDUP_STATE 0 else s

/-- Step 2: input, converters, carrier rails, PWRGD. The fail code, 0 where it completes. [log 109 DEDUCED] -/
def step2 (rep : StepReport) (s : State) : Nat × State :=
  let s := s.set F.CHT_PIN_STATUS_PWR_EN (if rep.pins.pwrEn then 1 else 0)
  if s.flag F.CHT_RST_STATUS_HELD && !s.flag F.CHT_RST_PIN_MASK_MASK then (2, s)
  else if !rep.pins.pwrEn then (3, s)
  else
    let s := enterBand rep.vin (liftInput s)
    if rep.vin < 4800 ∨ 6000 < rep.vin then (4, s) else
    let off := s.boot.active.filter (fun d => d.type == 9)
    let conv := off.foldl (fun m d => m - 2 ^ d.loc * bitOf m d.loc) (rep.converters % 2 ^ 48)
    let n := convCount conv
    let s := (s.wr R.PWR_CONV0 (BitVec.ofNat 32 conv)).set F.PWR_CONV1_OK (conv / 2 ^ 32)
    let s := s.set F.PWR_CONV1_N_OK n
    if n < 30 then (5, s)
    else if !rep.railsOk || !rep.carrierOk then (6, s)
    else
      let s := (s.set F.PWR_STATUS_AUX_OK (if rep.auxOk then 1 else 0)).set F.CHT_PIN_STATUS_PWRGD 1
      let s := if s.power.bandLeft.isEmpty then (s.set F.PWR_STATUS_MAIN_OK 1).set F.PWR_STATUS_UV_DERATE 0 else s
      let safe := s.boot.pinSafe && !s.boot.inputLost
      let s := { s with
        power := { s.power with convLimit := if n < 48 then 40 * n else 65535
                                uvLimit := if s.power.bandLeft.isEmpty then 65535 else s.power.uvLimit }
        boot := { s.boot with inputLost := false, pinSafe := safe } }
      let s := s.set F.CHT_PIN_STATUS_PIN_SAFE (if safe then 1 else 0)
      (0, setCharger (updateCeiling ((chargeAgain s).set F.PWR_HOLDUP_ON_HOLDUP (if rep.auxOk then 0 else 1))))

/-- Nothing that draws tokens waits or is on its way (R412). -/
def wakesOver (s : State) : Bool :=
  s.power.wakeQ.isEmpty && s.power.entering.isEmpty && (List.range 792).all (fun d => domState s d != 1)

/-- Step 3 begins: the 88 Tier N stacks are powered through the token bucket, at PRIO 3 (R434, R412, R413). -/
def startStacks (s : State) : State := s.forEach allFields (fun f t => requestWake ⟨f, 3, 3, 0, t.fet⟩ t)

/-- Step 3: the fused trims are loaded. -/
def step3 (s : State) : State := s.forEach (List.range 792) (fun d t => t.set (F.PWR_DOM_CFG_TRIM d) ((Config.trim d).toNat % 19))

/-- Fields that no entry of the defect map in force maps out. -/
def fieldsLeft (s : State) : List Nat := allFields.filter (fun f => !(fieldsOut s).contains f)

/-- Step 4 begins: the uncore of every field not mapped out asks for its soft start, row by row, at PRIO 3 (R434, R413); its
clusters follow it. -/
def startUncores (s : State) : State :=
  (powerOut s).forEach (fieldsLeft s) (fun f t => requestWake ⟨domOf f 8, 2, 3, 0, t.fet⟩ t)

/-- Step 4 is over: every uncore not mapped out is ON, every soft start over (Table 14.1). -/
def step4Over (s : State) : Bool := wakesOver s && (fieldsLeft s).all (uncoreOn s)

/-- Step 5: TIM_ALIGN_FET, a multiple of 1,000 ns; branches measured, clock generators locked (R50, R53).
[log 57 DEDUCED] -/
def step5 (align : Nat) (s : State) : State :=
  let s := wrPair s R.TIM_ALIGN_FET_LO R.TIM_ALIGN_FET_HI (roundDown align 1000)
  s.forEach (allFields.filter (uncoreOn s)) measureBranch

/-- The clusters that hold power ask to be woken, at PRIO 3 (R434, R447): GATED first, so that the wake zeroes their
scratchpads. [log 134 DEDUCED] -/
def wakeAll (s : State) : State :=
  s.forEach (allFields.filter (uncoreOn s)) (fun f t => t.forEach (List.range 8) (fun k t =>
    let d := domOf f k
    if clusterOut t f k then domainOff d t
    else if [2, 3, 4].contains (domState t d) then
      let t := slewTo d (setPoint t d (t.get (F.CLK_STATUS_OP_NOW f))) ((clearClusterCells d t).set (F.PWR_DOM_STATUS_STATE d) 2)
      requestWake ⟨d, 0, 3, ownerOf t f, t.fet⟩ t
    else t))

/-- The partition 0 regions (R548). -/
def placePart0 (s : State) : State :=
  let s := (s.set (F.VLT_FENCE_BASE_BASE 0 15) 16320).set (F.VLT_FENCE_LIMIT_LIMIT 0 15) 16383
  let s := ((s.set (F.VLT_FENCE_ATTR_VALID 0 15) 1).set (F.VLT_FENCE_ATTR_PART 0 15) 0).set (F.VLT_FENCE_ATTR_KIND 0 15) 0
  let s := (s.set (F.VLT_FENCE_ATTR_MOVER 0 15) 1).set (F.VLT_FENCE_ATTR_UE 0 15) 0
  let s := (s.set (F.VLT_PFENCE_BASE_BASE 0 15) 0).set (F.VLT_PFENCE_LIMIT_LIMIT 0 15) 127
  (s.set (F.VLT_PFENCE_ATTR_VALID 0 15) 1).set (F.VLT_PFENCE_ATTR_PART 0 15) 0

/-- What the Tier N stacks of fields in service and the Tier C channels report once they are trained (R547). -/
def reportTiers (s : State) : State :=
  let s := s.forEach (allFields.filter (fun f => uncoreOn s f && s.power.poweredStacks.contains f)) (fun f t =>
    (t.set (F.VLT_N_STATUS_TRAINED f) 1).set (F.VLT_N_STATUS_PRESENT f) 1)
  s.forEach (List.range 12) (fun v t =>
    let lost := t.boot.active.filterMap (fun d => if d.type = 8 ∧ d.loc / 8 = v then some (d.loc % 8) else none)
    let ok := (if lost.any (fun c => decide (c < 4)) then 0 else 15) + (if lost.any (fun c => decide (4 ≤ c)) then 0 else 240)
    let t := ((t.set (F.VLT_STATUS_TRAINED v) 1).set (F.VLT_STATUS_CH_OK v) ok).set (F.VLT_STATUS_RING_OK v) 1
    if v < 8 then
      let t := t.set (F.VLT_P_STATUS_PRESENT v) 1
      (t.set (F.VLT_P_STATUS_WEAR v) (Config.wear v).toNat).set (F.VLT_P_STATUS_SPARE v) (Config.spare v).toNat
    else t)

/-- The partition 0 Tier P key, and the bits that show both keys of partition 0 (R229). [log 40 DESIGN CHOICE] -/
def loadPart0Keys (s : State) : State :=
  let s := s.setPart 0 { s.part 0 with keyP := some ((List.range 64).map Config.tierPKey) }
  let s := s.forEach (List.range 12) (fun v t => setKeyBit (F.VLT_KEY_STATUS_C_KEY v) 0 true t)
  s.forEach (List.range 8) (fun v t => setKeyBit (F.VLT_KEY_STATUS_P_KEY v) 0 true t)

/-- `n` bytes from Chitin's random source: free. [log 7 DESIGN CHOICE, 40 DESIGN CHOICE] -/
def freeBytes (s : State) : Nat → List Byte × State
  | 0 => ([], s)
  | n + 1 =>
    let (w, t) := s.free
    let (l, t) := freeBytes t n
    (w.setWidth 8 :: l, t)

/-- Step 6: the clusters are ON; the tiers are trained under load emulation, with a calibration record each (R436), and
zeroed; partition 0's regions and keys. -/
def step6 (s : State) : State :=
  let s := placePart0 (reportTiers s)
  let s := s.forEach (allFields.filter (uncoreOn s)) (fun f t =>
    t.setField f { t.fieldD f with tierN := [], tnBad := [], tnEcc := [], poison := [], dirty := false, l2 := none })
  let s := { s with vaults := AMap.mapVals (fun _ => {}) keepTierP s.vaults }
  let s := captureTiers (allFields.filter (uncoreOn s)) s
  let (key, s) := freeBytes s 64
  loadPart0Keys (s.setPart 0 { s.part 0 with keyC := some key })

/-- Step 7 begins: ports and ERUs enabled, those named by the defect map FAILED; a port that FAILED searches again. -/
def startPorts (s : State) : State :=
  s.forEach (List.range 64) (fun n t =>
    if portOut t n then (t.set (F.SNL_STATUS_STATE n) 9).set (F.SNL_CTRL_EN n) 0
    else
      let t := (t.set (F.SNL_CTRL_EN n) 1).set (F.ERU_CTRL_ENABLE n) 1
      if t.get (F.SNL_STATUS_STATE n) = 9 then toDetect n t else applyEn n t)

/-- Every enabled port has reached STANDBY, DARK or FAILED, or is in service already (R438). -/
def portsSettled (s : State) : Bool :=
  (List.range 64).all (fun n => !s.flag (F.SNL_CTRL_EN n) || [1, 6, 7, 8, 9].contains (s.get (F.SNL_STATUS_STATE n)))

/-- Step 7 is over (R438); `ms` its length so far. [log 106 DEDUCED] -/
def step7Over (ms : Nat) (s : State) : Bool := portsSettled s || decide (s.get F.CHT_BU_CFG_LINK_WAIT_MS ≤ ms)

/-- A failed position gives its logical ID to a passed idle reserve (R441); a field without one is out of service (R445).
[log 110 DEDUCED] -/
def failCell (f pos : Nat) (s : State) : State :=
  let role := s.get (F.CEL_STATUS_ROLE f pos)
  if role = 0 then
    let idle := (List.range 72).filter (fun q => isReservePos q && s.get (F.CEL_STATUS_ROLE f q) == 1)
    let own := idle.find? (fun q => clusterOf (q % 8) (q / 8) == clusterOf (pos % 8) (pos / 8))
    match own.orElse (fun _ => idle.head?) with
    | some q => moveLogical (logicalId s f pos) q s
    | none =>
      let s := s.set (F.CEL_STATUS_ROLE f pos) 2
      { s with boot := { s.boot with dead := setAdd f s.boot.dead } }
  else s.set (F.CEL_STATUS_ROLE f pos) 2

/-- The map of one field: every logical ID at its first position, then moved off the failed positions. -/
def mapField (f : Nat) (s : State) : State :=
  let s := s.forEach (List.range 72) (fun p t => t.set (F.CEL_STATUS_ROLE f p) (if isReservePos p then 1 else 0))
  let s := s.forEach (List.range 64) (fun i t =>
    (t.set (F.MSH_L2P_POS (64 * f + i)) (posOfLocal i)).set (F.CEL_STATUS_LOCAL_LOGICAL f (posOfLocal i)) i)
  let bad := cellsOut s f
  let s := s.forEach (bad.filter isReservePos) (fun p t => t.set (F.CEL_STATUS_ROLE f p) 2)
  s.forEach (bad.filter (fun p => !isReservePos p)) (fun p t => failCell f p t)

/-- Express rows and columns closed by the defect map (Table 14.3, type 5). -/
def expressOut (s : State) : List Nat :=
  s.boot.active.filterMap (fun d => if d.type = 5 then some (d.loc / 32768 * 16 + d.loc / 2048 % 16) else none)

/-- Step 8: L2P, MSH_FIELD_OK and the cells' roles from the defect map (R441, R445). -/
def step8 (s : State) : State :=
  let s := { s with boot := { s.boot with dead := [], noExpress := expressOut s } }
  let s := s.forEach allFields mapField
  s.forEach allFields (fun f t => if uncoreOn t f && !(fieldsOut t).contains f then makePassable f t else makeHole f t)

/-- A bank verifies at this step. -/
def bankVerifies (rep : StepReport) (s : State) (b : Bool) : Bool :=
  if b then rep.bankBOk && s.boot.bankB.present else rep.bankAOk && s.boot.bankA.present

/-- A bank was tried: its OK bit, and a note where it fails. -/
def tryBank (rep : StepReport) (b : Bool) (s : State) : Bool × State :=
  let ok := bankVerifies rep s b
  let s := s.set (if b then F.CHT_FW_STATUS_B_OK else F.CHT_FW_STATUS_A_OK) (if ok then 1 else 0)
  (ok, if ok then s else noteAt 5 0 108 19 0 s)

/-- The bundle goes to the control node of every field in service; a field whose copy differs from the verified digest
receives it once more, and is mapped out where that differs too (R439, R435). -/
def broadcastFw (bundle : List Byte) (bad : List Nat) (s : State) : State :=
  let s := s.forEach (serving s) (fun f t =>
    if 2 ≤ bad.count f then newDefect { type := 1, origin := 1, loc := f, time := 0 } t
    else t.setField f { t.fieldD f with fw := bundle })
  powerOut s

/-- The firmware runs on every field in service: version, system Scarab, field hosts (R439, R366).
[log 52 DESIGN CHOICE] -/
def runFirmware (rep : StepReport) (b : FwBank) (s : State) : State :=
  let s := broadcastFw b.bundle rep.fwMismatch s
  let s := (s.set F.CHT_FW_STATUS_VERSION b.version).set F.CHT_STATUS_SCARAB_UP 1
  s.forEach (serving s) (fun f t => t.setField f { t.fieldD f with hostsHalted := false })

/-- A bank of the firmware store. -/
def bankOf (s : State) (b : Bool) : FwBank := if b then s.boot.bankB else s.boot.bankA

/-- CHT_FW_ADDR of a host bundle. -/
def fwAddr (s : State) : Nat := rdPair s R.CHT_FW_ADDR_LO R.CHT_FW_ADDR_HI

/-- The bundle in host memory, CHT_FW_LEN bytes at CHT_FW_ADDR, verifies: whole, at most 48 MiB, and signed (R439). -/
def hostVerifies (rep : StepReport) (s : State) : Bool :=
  rep.hostOk && decide (rep.hostBundle.length = (s.rd R.CHT_FW_LEN).toNat ∧ rep.hostBundle.length ≤ 48 * 2 ^ 20)

/-- A verified host bundle is written to the bank that is not active, which becomes active at the next step 9 (R439). -/
def commitBundle (w : FwBank) (s : State) : State :=
  if !s.flag F.CHT_BU_CFG_FW_COMMIT then s else
  let b := !s.boot.activeB
  { s with boot := { s.boot with
      bankA := if b then s.boot.bankA else w, bankB := if b then w else s.boot.bankB, nextActive := some b } }

/-- Step 9 (R439). The fail code, 0 where it completes. -/
def step9 (rep : StepReport) (s : State) : Nat × State :=
  let s := { s with boot := { s.boot with activeB := s.boot.nextActive.getD s.boot.activeB, nextActive := none } }
  let s := s.set F.CHT_FW_STATUS_ACTIVE (if s.boot.activeB then 1 else 0)
  match s.get F.CHT_BU_CFG_FW_SRC with
  | 2 =>
    let s := s.emit (.fwRead (fwAddr s) (s.rd R.CHT_FW_LEN).toNat)
    let ok := hostVerifies rep s
    let s := s.set F.CHT_FW_STATUS_HOST_OK (if ok then 1 else 0)
    if !ok then (9, s) else
    let w : FwBank := { present := true, version := rep.hostVersion, bundle := rep.hostBundle }
    (0, runFirmware rep w (commitBundle w s))
  | src =>
    let first := if src = 1 then !s.boot.activeB else s.boot.activeB
    let (ok, s) := tryBank rep first s
    if ok then (0, runFirmware rep (bankOf s first) s) else
    let (ok, s) := tryBank rep (!first) s
    if ok then (0, runFirmware rep (bankOf s (!first)) s) else (8, s)

/-- The units whose checkers the sweep exercises (R440): collector, unit type, instance. [log 110 DEDUCED] -/
def sweepUnits (s : State) : List (Nat × Nat × Nat) :=
  let field := fun (f : Nat) =>
    (([1, 2, 3, 4, 7].map (fun u => (List.range 72).map (fun p => (f, u, p)))).flatten
      ++ (List.range 16).map (fun c => (f, 10, c)))
  ((serving s).map field).flatten
    ++ ((List.range 12).map (fun v => (List.range 8).map (fun c => (88 + v, 11, c)))).flatten
    ++ (List.range 64).map (fun n => (100 + n / 8, 14, n))

/-- Drops the first `n` records of class 0 or 1. -/
def dropLow : Nat → List FaultRec → List FaultRec
  | _, [] => []
  | 0, l => l
  | n + 1, r :: l => if r.cls ≤ 1 then dropLow n l else r :: dropLow (n + 1) l

/-- A class 0 note of every unit of a list, in one piece (R440, R462). [log 110 DEDUCED] -/
def sweepNotes (us : List (Nat × Nat × Nat)) (s : State) : State :=
  let base := (s.rd R.FLT_LOG_HEAD).toNat
  let recs := us.zipIdx.map (fun e =>
    let ev : FaultEvent :=
      { code := 0x060b, collector := e.1.1, unitType := e.1.2.1, inst := e.1.2.2, injected := true, detail := [5] }
    let sens := eventSensors s ev
    ({ index := base + e.2, cls := 0, ev := ev, fet := s.fet, temp := sens.1, volt := sens.2 } : FaultRec))
  let all := s.log.recs ++ recs
  let n0 := min 65535 (AMap.get (fun _ => 0) s.log.clsCounts 0 + us.length)
  let s := { s with log := { s.log with recs := dropLow (all.length - 65536) all, clsCounts := AMap.put (fun _ => 0) s.log.clsCounts 0 n0 } }
  let s := s.wr R.FLT_LOG_HEAD (BitVec.ofNat 32 (base + us.length))
  s.forEach (List.range 109) (fun c t => t.count (F.FLT_C_CNT0_CLASS0 c) (us.filter (fun u => u.1 == c)).length)

/-- A cell that failed the self-test: a defect entry, and its logical ID moves (R440, R441). [log 110 DEDUCED] -/
def failTested (id : Nat) (s : State) : State := failCell (id / 72) (id % 72) (newDefect { type := 3, origin := 1, loc := id, time := 0 } s)

/-- Two cells are sentinel partners at some index of the rotation (R179). -/
def rotationPartners (s : State) (a b : Nat) : Bool :=
  decide (a / 72 = b / 72) && [1, 2, 4, 8, 16, 32].contains (localOf s (a / 72) (a % 72) ^^^ localOf s (b / 72) (b % 72))

/-- The partners a cell mismatched with in the sentinel run. -/
def missedPartners (s : State) (l : List (Nat × Nat)) (c : Nat) : List Nat :=
  ((l.filterMap (fun e => if e.1 = c then some e.2 else if e.2 = c then some e.1 else none)).filter (rotationPartners s c)).eraseDups

/-- Cells that fail the self-test (R440): a checker of theirs was silent, they raised a residue or parity fault, or they
mismatched with two or more partners. -/
def failedCells (rep : StepReport) (s : State) : List Nat :=
  (List.range 6336).filter (fun c =>
    rep.silent.any (fun u => u.1 == c / 72 && u.2.1 ≤ 7 && u.2.2 == c % 72) || rep.residueCells.contains c
      || decide (2 ≤ (missedPartners s rep.mismatches c).length))

/-- The module leaves Quench. [log 109 DEDUCED] -/
def leaveQuench (s : State) : State :=
  let s := ((s.set F.FLT_STATUS_QUENCHED 0).set F.PWR_STATUS_QUENCH 0).set F.PWR_STATUS_RAMP_DOWN 0
  { s with power := { s.power with ramps := s.power.ramps.filter (fun r => r.scope != 0), vaultRefresh := false } }

/-- Step 10 (R440): the sweep, the sentinel run, the failed cells; the seed; partition 0 is RUNNING. [log 109 DEDUCED] -/
def step10 (rep : StepReport) (s : State) : Nat × State :=
  let s := sweepNotes ((sweepUnits s).filter (fun u => !rep.silent.contains u)) s
  let l := failedCells rep s
  let idle := l.filter (fun c => s.get (F.CEL_STATUS_ROLE (c / 72) (c % 72)) == 1)
  let s := (s.forEach idle failTested).forEach (l.filter (fun c => !idle.contains c)) failTested
  let s := s.forEach (allFields.filter (uncoreOn s)) (fun f t => t.forEach (List.range 72) (fun p t => t.wr (R.CEL_SENT_SEED f p) rep.seed))
  if (serving s).length < s.get F.CHT_BU_CFG_MIN_FIELDS then (7, s)
  else (0, leaveQuench (setPartState s 0 3))

/-- The stored value of a register: every committed partition 0 value is stored, the list omitting those equal to the
register's reset value (R455). -/
def storedWord (s : State) (off : Nat) : Word :=
  match s.boot.storedCfg.find? (fun e => e.1 == off) with
  | some e => e.2
  | none => regDflt off

/-- The stored configuration, where one was committed, is written over every partition 0 value, unlocked (R455, R442); fields
still locked keep their values (R12, R201). -/
def loadStored (s : State) : State :=
  if s.flag F.CHT_BU_CFG_CFG_SRC && !s.boot.storedDigest.isEmpty then
    (s.boot.storedCfg.map (·.1) ++ s.regs.map (·.1)).foldl (fun t off =>
      let m := ownMask t.rd 0 off &&& (if t.boot.rwlLocked then ~~~(accMask .rwl off) else ~~~0)
      t.wr off ((t.rd off &&& ~~~m) ||| (storedWord s off &&& m))) s
  else s

/-- A cold bring-up that no module reset went before: locked RWL fields keep their values and stay locked (R12).
[log 104 DEDUCED] -/
def keepRwl (old s : State) : State :=
  if !old.boot.rwlLocked then s else
  let s := { s with boot := { s.boot with rwlLocked := true } }
  (old.regs.filter (fun e => accMask .rwl e.1 != 0)).foldl (fun t e =>
    t.wr e.1 ((t.rd e.1 &&& ~~~(accMask .rwl e.1)) ||| (e.2 &&& accMask .rwl e.1))) s

/-- The fault log, lost with Vault 0's supply, begins anew: indices count from 1 at each cold bring-up (R462). -/
def restartLog (s : State) : State :=
  { s.wr R.FLT_LOG_HEAD (regDflt R.FLT_LOG_HEAD) with
    log := { chitin := s.log.chitin, committed := s.log.committed, storeBad := s.log.storeBad }
    boot := { s.boot with logLost := false } }

/-- A cold sequence begins: a requested purge acts, the defect map is applied anew, and what was without power is lost.
[log 104 DEDUCED] -/
def coldStart (s : State) : State :=
  let keep := if s.boot.purge then s.boot.defects.filter (fun d => d.origin == 0) else s.boot.defects
  let s := keepRwl s (loseWafer s)
  let full := if keep.length < 1024 then 0 else s.get F.CHT_DEFECT_STATUS_FULL
  let s := s.set F.CHT_DEFECT_STATUS_FULL full
  let s := if s.boot.logLost then restartLog s else s
  { s with boot := { s.boot with defects := keep, purge := false, active := keep, dead := [], noExpress := [] } }

/-- Load emulation ends (R436). -/
def endEmulation (s : State) : State := { s with power := { s.power with emulating := false } }

/-- What a step does as it starts; load emulation runs from the start of step 6 to the end of step 7 (R436). -/
def startStep (k : Nat) (s : State) : State :=
  match k with
  | 2 => coldStart s
  | 3 => startStacks s
  | 4 => startUncores s
  | 5 => loadStored s
  | 6 => wakeAll { s with power := { s.power with emulating := true } }
  | 7 => startPorts s
  | _ => s

/-- A run ends with a fail code (R432); code 8 is a class 5 fault (Table 14.2). -/
def failRun (code : Nat) (s : State) : State :=
  let s := ((s.set F.CHT_STATUS_RUNNING 0).set F.CHT_STATUS_FAIL 1).set F.CHT_STATUS_FAIL_CODE code
  let s := { s with boot := { s.boot with runTarget := 0, warmPhase := 0, abort := false } }
  let s := endEmulation (endJobs (fun w => match w with | .warm => true | _ => false) stFaulted [] s)
  if code = 8 then raiseFault { code := 0x0603, unitType := 19 } s else s

/-- What a step does as it completes: the fail code, 0 where it passes. [log 9 DESIGN CHOICE] -/
def stepEffect (k : Nat) (rep : StepReport) (s : State) : Nat × State :=
  let s := if 2 < k then powerOut (rep.defects.foldl (fun t d => newDefect d t) s) else s
  let r := match k with
    | 2 => step2 rep s
    | 3 => (0, step3 s)
    | 5 => (0, step5 rep.align s)
    | 6 => if rep.carrierOk then (0, step6 s) else (6, s)
    | 7 => if rep.carrierOk then (0, endEmulation s) else (6, s)
    | 8 => if rep.carrierOk then (0, step8 s) else (6, s)
    | 9 => step9 rep s
    | 10 => step10 rep s
    | _ => (0, s)
  if r.1 = 0 ∧ 4 ≤ k ∧ (serving r.2).length < r.2.get F.CHT_BU_CFG_MIN_FIELDS then (7, r.2) else r

/-- What Table 14.1 says completes step k has come: wakes through the token bucket, the scan check, the ports. -/
def stepOver (k : Nat) (rep : StepReport) (s : State) : Bool :=
  match k with
  | 3 => wakesOver s && rep.scanOk
  | 4 => step4Over s
  | 6 => wakesOver s
  | 7 => step7Over rep.ms s
  | _ => true

/-- A cold step completes (R432). [log 106 DEDUCED] -/
def coldComplete (rep : StepReport) (s : State) : State :=
  let k := stepDone s + 1
  if !stepOver k rep s then s else
  let (code, s) := stepEffect k rep s
  if code ≠ 0 then failRun code s else
  let s := (s.set (F.CHT_BU_TIME_MS (k - 1)) (min 65535 rep.ms)).set F.CHT_STATUS_STEP_DONE k
  if s.boot.abort || decide (s.boot.runTarget ≤ k) then
    { s.set F.CHT_STATUS_RUNNING 0 with boot := { s.boot with runTarget := 0, abort := false } }
  else startStep (k + 1) s

/-! ### Warm re-initialisation (R447-R449) -/

/-- Phase W1 begins: module quench, every tenant partition destroyed through steps 1 to 6 of R350, other commands end. -/
def warmStart (s : State) : State :=
  let s := quenchModule (rampLimit s) (endJobs (fun _ => true) stFaulted [] s)
  let s := s.forEach [1, 2, 3, 4, 5, 6, 7] (fun p t => if partState t p == 0 then t else beginDestroy p t)
  let s := ((s.set F.CHT_STATUS_RUNNING 1).set F.CHT_STATUS_FAIL 0).set F.CHT_STATUS_FAIL_CODE 0
  { s.set F.CHT_STATUS_WARM 1 with boot := { s.boot with warmPhase := 1 } }

/-- Port registers whose content is training and calibration: SNL_STATUS, SNL_PEER, SNL_NEG, SNL_CAL.
[log 108 DEDUCED] -/
def trainingReg (off : Nat) : Bool :=
  decide (0x100000 ≤ off) && decide (off < 0x140000)
    && [R.SNL_STATUS 0, R.SNL_PEER 0, R.SNL_NEG 0, R.SNL_CAL 0].contains (off % 0x1000 + 0x100000)

/-- Phase W2 begins: units reset with rails kept, registers to reset values, Tier N zeroed, the clusters ask for their wakes,
stored configuration reloaded, ports to STANDBY, those the defect map holds FAILED. [log 107 DEDUCED, 108 DEDUCED] -/
def warmReset (s : State) : State :=
  let key := (s.part 0).keyC
  let s := { s with vaults := AMap.mapVals (fun _ => {}) keepTiers s.vaults }
  let s := clearConfig (clearUnits s)
  let s := resetRegsBut 0x100000 0xd80000 trainingReg (s.resetRegs 0x40000 0x60000)
  let s := resetRwlFields 0x10000 0x20000 (resetRwFields 0x20000 0x21000 (resetRwFields 0x28000 0x30000 s))
  let s := s.forEach allFields (fun f t => (t.set (F.CLK_STATUS_OP_NOW f) 7).set (F.CLK_STATUS_LOCKED f) 0)
  let s := resetEnvelope (loadTime s)
  let s := { s with boot := { s.boot with active := s.boot.defects, dead := [], noExpress := [] } }
  let s := placePart0 (reportTiers (wakeAll (powerOut s)))
  let s := loadPart0Keys (s.setPart 0 { s.part 0 with keyC := key })
  let s := s.forEach (List.range 64) (fun n t =>
    let st := t.get (F.SNL_STATUS_STATE n)
    if portOut t n then (portTo n 9 t).set (F.SNL_CTRL_EN n) 0 else
    let t := if 6 ≤ st ∧ st ≤ 8 then portTo n 6 t else t
    (t.set (F.SNL_CTRL_EN n) 1).set (F.ERU_CTRL_ENABLE n) 1)
  let s := ((s.set F.CHT_STATUS_SCARAB_UP 0).set F.CHT_FW_STATUS_VERSION 0).set F.CHT_STATUS_STEP_DONE 4
  loadStored s

/-- What a warm phase does as it completes. [log 107 DEDUCED] -/
def warmEffect (ph : Nat) (rep : StepReport) (s : State) : Nat × State :=
  match ph with
  | 1 => (0, warmReset s)
  | 3 => (0, (step5 rep.align s).set F.CHT_STATUS_STEP_DONE 7)
  | 4 => (0, (step8 s).set F.CHT_STATUS_STEP_DONE 8)
  | 5 => let r := step9 rep s; (r.1, if r.1 = 0 then r.2.set F.CHT_STATUS_STEP_DONE 9 else r.2)
  | 6 => let r := step10 rep s; (r.1, if r.1 = 0 then r.2.set F.CHT_STATUS_STEP_DONE 10 else r.2)
  | _ => (0, s)

/-- A warm phase completes (Table 14.4), W2 not before its wakes are over; W2 begins as W1 ends; after the last phase the
command completes. [log 107 DEDUCED] -/
def warmComplete (rep : StepReport) (s : State) : State :=
  let ph := s.boot.warmPhase
  if ph = 2 ∧ !wakesOver s then s else
  let s := if 2 < ph then powerOut (rep.defects.foldl (fun t d => newDefect d t) s) else s
  let (code, s) := warmEffect ph rep s
  let code := if code = 0 ∧ 4 ≤ ph ∧ (serving s).length < s.get F.CHT_BU_CFG_MIN_FIELDS then 7 else code
  if code ≠ 0 then failRun code s else
  let s := s.set (F.CHT_BU_TIME_MS (ph - 1)) (min 65535 rep.ms)
  if ph < 6 then { s with boot := { s.boot with warmPhase := ph + 1 } }
  else
    let s := { s.set F.CHT_STATUS_RUNNING 0 with boot := { s.boot with warmPhase := 0 } }
    endJobs (fun w => match w with | .warm => true | _ => false) stOk [] s

/-! ### The sequence and the pins -/

/-- BU_STEP_COMPLETE: the running step or warm phase completes. -/
def stepComplete (rep : StepReport) (s : State) : State :=
  if !s.flag F.CHT_STATUS_RUNNING then s
  else if s.boot.warmPhase ≠ 0 then warmComplete rep s
  else coldComplete rep s

/-- CHT_BU_CTRL.GO with TARGET n (R432, R433, R474). [log 111 DEDUCED] -/
def buGo (n : Nat) (s : State) : State :=
  if s.flag F.CHT_STATUS_RUNNING || decide (n ≤ stepDone s) || decide (10 < n) || locked s || stepDone s == 0 then
    note 5 0 R.CHT_BU_CTRL s
  else
    let s := ((s.set F.CHT_STATUS_FAIL 0).set F.CHT_STATUS_FAIL_CODE 0).set F.CHT_STATUS_WARM 0
    if s.flag F.CHT_RST_STATUS_HELD && !s.flag F.CHT_RST_PIN_MASK_MASK then failRun 2 s
    else
      let s := { s.set F.CHT_STATUS_RUNNING 1 with boot := { s.boot with runTarget := n, abort := false } }
      startStep (stepDone s + 1) s

/-- CHT_BU_CTRL.ABORT. -/
def buAbort (s : State) : State :=
  if s.flag F.CHT_STATUS_RUNNING && s.boot.warmPhase == 0 then { s with boot := { s.boot with abort := true } } else s

/-- A run that a pin ends. -/
def endRun (code : Nat) (s : State) : State := if s.flag F.CHT_STATUS_RUNNING then failRun code s else s

/-- RST_L_ASSERT (R433, R446, R518). -/
def rstAssert (s : State) : State :=
  if s.flag F.CHT_RST_STATUS_HELD then s else
  let s := ((s.set F.CHT_RST_STATUS_HELD 1).set F.CHT_RST_STATUS_HOLD_MS 0).set F.CHT_PIN_STATUS_RST_L 0
  let s := { s with boot := { s.boot with holdStart := s.fet } }
  if s.flag F.CHT_RST_PIN_MASK_MASK then s else
  let s := { s with boot := { s.boot with strapsFrozen := false } }
  if 2 ≤ stepDone s || s.flag F.CHT_STATUS_RUNNING then moduleReset (endRun 2 s) else s

/-- Milliseconds of the hold under way, saturating. -/
def holdMs (s : State) : Nat := min (2 ^ 30 - 1) ((s.fet - s.boot.holdStart) / 1000000)

/-- RST_L_RELEASE (R433, R517). -/
def rstRelease (s : State) : State :=
  if !s.flag F.CHT_RST_STATUS_HELD then s else
  let s := (s.set F.CHT_RST_STATUS_HOLD_MS (holdMs s)).set F.CHT_RST_STATUS_HELD 0
  let s := (s.set F.CHT_RST_STATUS_RESET_STUCK 0).set F.CHT_PIN_STATUS_RST_L 1
  { s with boot := { s.boot with strapsFrozen := true } }

/-- RESET_STUCK (R433): held 30,000 ms and not masked. -/
def resetStuck (s : State) : State :=
  if s.flag F.CHT_RST_STATUS_HELD && !s.flag F.CHT_RST_PIN_MASK_MASK && !s.flag F.CHT_RST_STATUS_RESET_STUCK
      && decide (30000 ≤ holdMs s) then
    noteAt 5 0 108 19 0 (s.set F.CHT_RST_STATUS_RESET_STUCK 1)
  else s

/-- CHT_RST_PIN_MASK.MASK written with 1 (R433, R517). -/
def maskReset (s : State) : State :=
  if s.flag F.CHT_RST_STATUS_RESET_STUCK then
    { s.set F.CHT_RST_PIN_MASK_MASK 1 with boot := { s.boot with strapsFrozen := true } }
  else s

/-- STRAP_SAMPLE (R517): the last sample while RST_L is asserted and not masked. -/
def strapSample (role slot : Nat) (s : State) : State :=
  if s.flag F.CHT_RST_STATUS_HELD && !s.flag F.CHT_RST_PIN_MASK_MASK && !s.boot.strapsFrozen then takeStraps role slot s else s

/-- PWR_EN_DEASSERT (R519); `rstToo`: RST_L changed in the same sample and acts first. [log 104 DEDUCED] -/
def pwrEnDeassert (rstToo : Bool) (s : State) : State :=
  let s := s.set F.CHT_PIN_STATUS_PWR_EN 0
  let s := if rstToo then rstAssert s else s
  if s.flag F.CHT_STATUS_RUNNING && s.boot.warmPhase == 0 then powerDown (failRun 3 s)
  else if 2 ≤ stepDone s then
    let quiet := moduleQuenched s && !s.power.ramps.any (fun r => r.scope == 0)
    if quiet then powerDown s
    else
      let s := { s with boot := { s.boot with pwrOffPending := true } }
      if moduleQuenched s then s else raiseFault { code := 0x0604, access := 7 } s
  else s

/-- CHT_DEFECT_CTRL.ADD (R444): the entry written to LO and HI, with origin 3. -/
def defectAdd (s : State) : State :=
  storeDefect { type := s.get F.CHT_DEFECT_LO_TYPE, origin := 3, loc := s.get F.CHT_DEFECT_LO_LOC, time := s.get F.CHT_DEFECT_HI_TIME } s

/-- CHT_DEFECT_CTRL.PURGE (R444). -/
def defectPurge (s : State) : State := { s with boot := { s.boot with purge := true } }

/-! ### Meanings -/

def execChitinPowerUp (pins : Pins) (lockstepOk measured : Bool) (s : State) : Host.Outcome State Fault Refusal :=
  .next (powerUp pins lockstepOk measured s)

def execBuStepComplete (rep : StepReport) (s : State) : Host.Outcome State Fault Refusal := .next (stepComplete rep s)

def execRstLAssert (s : State) : Host.Outcome State Fault Refusal := .next (rstAssert s)

def execRstLRelease (s : State) : Host.Outcome State Fault Refusal := .next (rstRelease s)

def execResetStuck (s : State) : Host.Outcome State Fault Refusal := .next (resetStuck s)

def execStrapSample (role : Fin 4) (slot : Fin 64) (s : State) : Host.Outcome State Fault Refusal := .next (strapSample role slot s)

def execPwrEnDeassert (rstToo : Bool) (s : State) : Host.Outcome State Fault Refusal := .next (pwrEnDeassert rstToo s)

end Sys2Proof.Machine
end

