-- ==== Sys2Proof/Machine/ScpIdent.lean ====
section
/-!
DEFINITION. Machine/ScpIdent.lean: the identity, time, negotiation and query opcodes (12_command_protocol R385, R386,
Table 12.5, Table 12.6), and requests with an undefined opcode (R382).
-/
namespace Sys2Proof.Machine

/-- The field mask of 11 parameter bytes. -/
def pMask (r : Request) (i : Nat) : Nat := pLe r i 11

/-- Every parameter byte of [i, j) is zero. [log 36 DESIGN CHOICE] -/
def pZero (r : Request) (i j : Nat) : Bool := (List.range' i (j - i)).all (fun k => pByte r k == 0)

/-- The mask of fields in service. -/
def servingMask (s : State) : Nat := (serving s).foldl (fun a f => a + 2 ^ f) 0

/-- Cells of a role in the fields in service. -/
def cellsOfRole (s : State) (role : Nat) : Nat :=
  ((serving s).map (fun f => ((List.range 72).filter (fun p => cellRole s f p == role)).length)).sum

/-- The 64-byte result of IDENTIFY (Table 12.5). -/
def identity (s : State) : List Byte :=
  [0x5a, 0x57, 0x2d, 0x38, 0x38, 0, 0, 0] ++ (List.range 4).flatMap (fun k => leBytes (s.rd (R.CHT_SERIAL k)).toNat 4)
    ++ leBytes Config.chitinVersion.toNat 4 ++ leBytes (s.get F.CHT_FW_STATUS_VERSION) 4 ++ leBytes (ownCoord s) 3
    ++ leBytes (64 * s.get F.CHT_STRAP_ROLE + s.get F.CHT_STRAP_SLOT_ID) 1 ++ leBytes (servingMask s) 12
    ++ leBytes (cellsOfRole s 0) 2 ++ leBytes (cellsOfRole s 1) 2 ++ leBytes 2 2 ++ leBytes 2 2 ++ leBytes 4 2 ++ leBytes 0 6

/-- The 32-byte result of TIME_QUERY (Table 12.5). -/
def timeResult (s : State) (p : Nat) : List Byte :=
  leBytes s.fet 8 ++ leBytes ((growEst s).rd R.TIM_STATUS).toNat 4 ++ leBytes 0 4
    ++ leBytes (rdPair s R.TIM_ALIGN_FET_LO R.TIM_ALIGN_FET_HI) 8 ++ leBytes (if planStarted s p then (s.part p).stepBase else 0) 8

/-- PRT_STATUS[p] as it reads: fields held, failed fields held, halves, state (Table 11.6). -/
def prtStatus (s : State) (p : Nat) : Word :=
  let w := s.rd (R.PRT_STATUS p)
  let w := Word.withField w 18 12 (partFields s p).length
  let w := Word.withField w 11 5 ((s.part p).failed.filter (fun f => (partFields s p).contains f)).length
  Word.withField w 4 3 (maskHalf (partMask s p))

/-- The 32-byte result of PART_QUERY (Table 12.6). -/
def partResult (s : State) (p : Nat) : List Byte :=
  [prtStatus s p, s.rd (R.PRT_FIELDS0 p), s.rd (R.PRT_FIELDS1 p), s.rd (R.PRT_FIELDS2 p), s.rd (R.PRT_CFG p), s.rd (R.PRT_POWER p),
    s.rd (R.PRT_DRAW p), s.rd (R.PRT_LIMIT p)].flatMap (fun w => leBytes w.toNat 4)

/-- The highest versions common to the masks offered and held: SCP 1, firmware interface 1, plan format 2. -/
def settled (r : Request) : Nat × Nat × Nat :=
  (commonVersion (pLe r 0 2) 2, commonVersion (pLe r 2 2) 2, commonVersion (pLe r 4 2) 4)

/-- NEGOTIATE (R386). -/
def negotiate (r : Request) (s : State) : Ans :=
  let v := settled r
  if v.1 = 0 then .done stVersion [] s
  else .done stOk (leBytes v.1 1 ++ leBytes v.2.1 1 ++ leBytes v.2.2 1 ++ [0]) (setVer r.src v.1 s)

/-! ### Meanings -/

def nopOp : ScpOp :=
  { code := 0x00, body := fun s => .done stOk [] s }

/-- NOP (R385). -/
def execNop (r : Request) (s : State) : Host.Outcome State Fault Refusal :=
  .next (scarab (.nop r) nopOp r s)

def identifyOp : ScpOp :=
  { code := 0x01, body := fun s => .done stOk (identity s) s }

/-- IDENTIFY (R385). -/
def execIdentify (r : Request) (s : State) : Host.Outcome State Fault Refusal :=
  .next (scarab (.identify r) identifyOp r s)

def negotiateOp (r : Request) : ScpOp :=
  { code := 0x02, bad := short r 8 || !pZero r 6 8, body := negotiate r }

def execNegotiate (r : Request) (s : State) : Host.Outcome State Fault Refusal :=
  .next (scarab (.negotiate r) (negotiateOp r) r s)

def timeQueryOp (r : Request) : ScpOp :=
  { code := 0x08, body := fun s => .done stOk (timeResult s (reqPart r)) s }

/-- TIME_QUERY (R385). -/
def execTimeQuery (r : Request) (s : State) : Host.Outcome State Fault Refusal :=
  .next (scarab (.timeQuery r) (timeQueryOp r) r s)

def partQueryOp (r : Request) : ScpOp :=
  { code := 0x12, body := fun s => .done stOk (partResult s (reqPart r)) (s.set (F.PRT_DRAW_PEAK (reqPart r)) 0) }

/-- PART_QUERY (R387): PEAK clears as on a register read. -/
def execPartQuery (r : Request) (s : State) : Host.Outcome State Fault Refusal :=
  .next (scarab (.partQuery r) (partQueryOp r) r s)

def badOpcodeOp (opcode : BitVec 8) : ScpOp := { code := opcode.toNat, body := fun s => .done stBadOpcode [] s }

/-- BAD_OPCODE_REQUEST (R382): an opcode that is defined is not this command's. -/
def execBadOpcodeRequest (r : Request) (opcode : BitVec 8) (s : State) : Host.Outcome State Fault Refusal :=
  .next (if opDefined opcode.toNat then s else scarab (.badOpcodeRequest r opcode) (badOpcodeOp opcode) r s)

end Sys2Proof.Machine
end

