-- ==== Sys2Proof/Machine/ScpParts.lean ====
section
/-!
DEFINITION. Machine/ScpParts.lean: the partition and key opcodes (11_partitions R345-R351, 12_command_protocol R387,
Table 12.6).
-/
namespace Sys2Proof.Machine

/-! ### PART_CREATE (R345, R387) -/

/-- The 8 bytes of region i of the request. -/
def regionAt (r : Request) (i : Nat) : List Byte := (r.params.drop (20 + 8 * i)).take 8

/-- Units of 16 MiB of a Vault's Tier C: half where it interleaves over four channels (Table 14.3). [log 38 DEDUCED] -/
def vaultUnits (s : State) (v : Nat) : Nat :=
  if s.get (F.VLT_STATUS_CH_OK v) = 15 ∨ s.get (F.VLT_STATUS_CH_OK v) = 240 then 8192 else 16384

/-- A Tier C region is malformed (check 2). -/
def regionCBad (s : State) (b : List Byte) : Bool :=
  decide (11 < leAt b 0 1) || decide (16 ≤ leAt b 1 1) || leAt b 2 2 != 0 || leAt b 1 1 % 4 == 3
    || decide (leAt b 6 2 < leAt b 4 2) || decide (vaultUnits s (leAt b 0 1) ≤ leAt b 6 2)

/-- A Tier P region is malformed (check 2). -/
def regionPBad (b : List Byte) : Bool :=
  decide (7 < leAt b 0 1) || leAt b 1 3 != 0 || decide (leAt b 6 2 < leAt b 4 2) || decide (2048 ≤ leAt b 6 2)

/-- Check 2 of Table 11.3 fails. [log 18 DEDUCED] -/
def createBad (s : State) (r : Request) : Bool :=
  let nC := pByte r 17
  let nP := pByte r 18
  reqPart r == 0 || partState s (reqPart r) != 0 || short r 20 || pByte r 11 != 0 || decide (8 ≤ pByte r 15) || pByte r 19 != 0
    || r.plen.toNat != 20 + 8 * (nC + nP) || decide (25 < nC + nP) || decide (10 < pByte r 16)
    || (List.range nC).any (fun i => regionCBad s (regionAt r i))
    || (List.range nP).any (fun i => regionPBad (regionAt r (nC + i)))

/-- A Tier C range meets a region already there. -/
def meetsC (s : State) (v lo hi : Nat) : Bool :=
  (List.range 16).any (fun k => s.flag (F.VLT_FENCE_ATTR_VALID v k)
    && decide (s.get (F.VLT_FENCE_BASE_BASE v k) ≤ hi) && decide (lo ≤ s.get (F.VLT_FENCE_LIMIT_LIMIT v k)))

/-- A Tier P range meets a region already there. -/
def meetsP (s : State) (v lo hi : Nat) : Bool :=
  (List.range 16).any (fun k => s.flag (F.VLT_PFENCE_ATTR_VALID v k)
    && decide (s.get (F.VLT_PFENCE_BASE_BASE v k) ≤ hi) && decide (lo ≤ s.get (F.VLT_PFENCE_LIMIT_LIMIT v k)))

/-- The state with one Tier C region placed, or none where check 10 refuses it. -/
def tryC (p : Nat) (b : List Byte) (s : State) : Option State :=
  let v := leAt b 0 1
  let k := leAt b 1 1
  if (freeFenceC s v).isNone || meetsC s v (leAt b 4 2) (leAt b 6 2) || (k % 4 == 1 && bitOf k 2 == 1) then none
  else some (placeC p v (k % 4) (bitOf k 2) (bitOf k 3) (leAt b 4 2) (leAt b 6 2) s)

/-- The state with one Tier P region placed, or none where check 10 refuses it. -/
def tryP (p : Nat) (b : List Byte) (s : State) : Option State :=
  let v := leAt b 0 1
  if (freeFenceP s v).isNone || meetsP s v (leAt b 4 2) (leAt b 6 2) then none else some (placeP p v (leAt b 4 2) (leAt b 6 2) s)

/-- Every region of the request placed, or none (check 10, R349 step 2). [log 38 DEDUCED] -/
def placeRegions (p : Nat) (r : Request) (s : State) : Option State :=
  let nC := pByte r 17
  let s := (List.range nC).foldl (fun o i => o.bind (tryC p (regionAt r i))) (some s)
  (List.range (pByte r 18)).foldl (fun o i => o.bind (tryP p (regionAt r (nC + i)))) s

/-- A partition may span the midline: it crosses the seam by right, or there is none (R348). -/
def maySpan (s : State) (p : Nat) : Bool := !s.flag F.MSH_MODE_MODE || bitOf (s.get F.MSH_MODE_SEAM_ALLOW) p == 1

/-- Checks 4 to 9 of Table 11.3: the failure's status, RETRY for check 5, or none. [log 38 DEDUCED] -/
def createCheck (s : State) (r : Request) : Option Nat :=
  let p := reqPart r
  let m := pMask r 0
  let fs := maskFields m
  if fs.isEmpty || !fs.all (fun f => ownerOf s f == 0 && inService s f) then some stBadParam
  else if fs.any (beingZeroed s) then some stRetry
  else if !routeClosed (setPartMask s p m) p m then some stBadParam
  else if !maySpan s p && maskHalf m == 3 then some stBadParam
  else if tenantPool s < grantedSum s + pLe r 12 2 then some stBadParam
  else if (List.range 64).any (fun n =>
      decide (256 < shareSum (s.rd (R.SNL_VC_SHARE0 n)) (s.rd (R.SNL_VC_SHARE1 n)) - vcShare s n p + pByte r 14)) then some stBadParam
  else none

/-- The staged share of a new partition on every port (R349 step 3). -/
def shareEntries (p share : Nat) : List StageEntry :=
  (List.range 64).map (fun n =>
    ⟨shareOff n p, BitVec.ofNat 32 (share * 2 ^ (8 * (p % 4))), bitsMask (8 * (p % 4) + 7) (8 * (p % 4))⟩)

/-- The share is staged and its commit accepted: the first slot boundary at least 100 µs ahead (R349 step 3). -/
def stageShare (p share : Nat) (s : State) : State :=
  let l := shareEntries p share
  let c : PendingCommit := ⟨roundUp (s.fet + 100000) 256, stagedEpoch s p, stagedDigest s p l⟩
  (s.setPart p { s.part p with staging := l, staged := true, commit := some c }).set (F.CHT_CFG_STATUS_PENDING p) 1

/-- The fields and attributes of a partition being created: owners, masks, PRT_CFG, PRT_LIMIT (R349 steps 1 and 2). -/
def ownFields (p m : Nat) (r : Request) (s : State) : State :=
  let s := setPartMask s 0 (partMask s 0 - m)
  let s := setPartMask s p m
  let s := (s.set (F.PRT_CFG_OP_MAX p) (pByte r 16)).set (F.PRT_CFG_STRICT p) (pByte r 15 % 2)
  let s := (s.set (F.PRT_CFG_HOST p) (pByte r 15 / 2)).set (F.PRT_LIMIT_OP_NOW p) (pByte r 16)
  s.forEach (maskFields m) lowerToLimit

/-- PART_CREATE's own checks and effect. [log 38 DEDUCED] -/
def partCreate (r : Request) (s : State) : Ans :=
  let p := reqPart r
  match createCheck s r with
  | some st => if st = stRetry then .retry else .done st [] s
  | none =>
    match placeRegions p r s with
    | none => .done stBadParam [] s
    | some t =>
      let t := scaleBudgets (t.set (F.PRT_POWER_GRANTED p) (pLe r 12 2))
      let t := setChanging true p (setPartState t p 1)
      let t := stageShare p (pByte r 14) (ownFields p (pMask r 0) r t)
      .later (.partCreate p (pMask r 0) ((t.part p).commit.map (·.c) |>.getD 0)) t

/-! ### PART_DESTROY, KEY_INSTALL -/

/-- PART_DESTROY (R350). [log 18 DEDUCED] -/
def partDestroy (p : Nat) (s : State) : Ans :=
  if p = 0 ∨ partState s p = 0 then .done stBadParam [] s
  else .later (.partDestroy p) (setChanging true p (beginDestroy p s))

/-- The selected keys are loaded (R229, Table 12.6). -/
def installKeys (p : Nat) (r : Request) (s : State) : State :=
  let key := fun (i n : Nat) => some ((r.params.drop i).take n)
  let sel := pByte r 0
  let d := s.part p
  let s := s.setPart p { d with
    keyC := if bitOf sel 0 = 1 then key 4 64 else d.keyC
    keyP := if bitOf sel 1 = 1 then key 68 64 else d.keyP
    keyL := if bitOf sel 2 = 1 then key 132 32 else d.keyL }
  let s := if bitOf sel 0 = 1 then s.forEach (List.range 12) (fun v t => setKeyBit (F.VLT_KEY_STATUS_C_KEY v) p true t) else s
  if bitOf sel 1 = 1 then s.forEach (List.range 8) (fun v t => setKeyBit (F.VLT_KEY_STATUS_P_KEY v) p true t) else s

/-- Key 1 and key 2 of a selected pair are equal. -/
def keysEqual (r : Request) : Bool :=
  let same := fun (i : Nat) => (r.params.drop i).take 32 == (r.params.drop (i + 32)).take 32
  (bitOf (pByte r 0) 0 == 1 && same 4) || (bitOf (pByte r 0) 1 == 1 && same 68)

/-- KEY_INSTALL is refused for the state of the partition, or behind another partition-changing command (R351). -/
def keyBusy (p : Nat) (s : State) : Bool := (partState s p != 2 && partState s p != 4) || changeBusy s

/-! ### Meanings -/

def partCreateOp (r : Request) (s : State) : ScpOp :=
  { code := 0x10, async := true, bad := createBad s r, busy := changeBusy, body := partCreate r }

def execPartCreate (r : Request) (s : State) : Host.Outcome State Fault Refusal :=
  .next (scarab (.partCreate r) (partCreateOp r s) r s)

def partDestroyOp (r : Request) : ScpOp :=
  { code := 0x11
    async := true
    busy := fun s => changeBusy s || partChanging s (reqPart r)
    body := partDestroy (reqPart r) }

def execPartDestroy (r : Request) (s : State) : Host.Outcome State Fault Refusal :=
  .next (scarab (.partDestroy r) (partDestroyOp r) r s)

def keyInstallOp (r : Request) : ScpOp :=
  { code := 0x18
    bad := short r 164 || decide (8 ≤ pByte r 0) || !pZero r 1 4
    busy := keyBusy (reqPart r)
    body := fun s => if keysEqual r then .done stBadParam [] s else .done stOk [] (installKeys (reqPart r) r s) }

def execKeyInstall (r : Request) (s : State) : Host.Outcome State Fault Refusal :=
  .next (scarab (.keyInstall r) (keyInstallOp r) r s)

end Sys2Proof.Machine
end

