-- ==== Sys2Proof/Machine/ScpPlans.lean ====
section
/-!
DEFINITION. Machine/ScpPlans.lean: data references (R384), the plan opcodes and the step opcodes (12_command_protocol
R388-R390, Table 12.7; 05_cycle_plans R153, R154, R182-R184).
-/
namespace Sys2Proof.Machine

/-! ### Data references (R384) -/

/-- MASTER of what a command does (Table 15.4): the function of a PCI Express request, the source of a frame, Chitin.
[log 84 DESIGN CHOICE] -/
def cmdMaster (r : Request) : Nat :=
  match r.src with
  | .pcie ep _ fn => 5 * 2 ^ 29 + 2 ^ 16 * ep.val + fn.val
  | .mgmt .. => 7 * 2 ^ 29 + 0x100
  | .snl c _ => 6 * 2 ^ 29 + 8 * c.toNat

/-- OP0 of a command's record: opcode, carrier, queue (Table 15.3). -/
def cmdOp0 (op : Nat) (r : Request) : Nat :=
  op + (match r.src with
    | .pcie _ q _ => 2048 * q.val
    | .mgmt .. => 256
    | .snl .. => 512)

/-- A refused Tier C access of a command (R384): class 3 in its partition, a class 0 note for partition 0.
[log 42 DEDUCED] -/
def cmdRefusal (r : Request) (v p code addr : Nat) (s : State) : State :=
  if p = 0 then
    (recordFault 0 { code := 0x060b, collector := 88 + v, unitType := 11, inst := addr / 4096 % 8, access := 6, addr := addr
                     master := cmdMaster r, detail := [5] } s).2
  else refusalFault v p code addr (cmdMaster r) s

/-- Reads `n` 256-byte units of Tier C through the fences of partition p, from unit `u`: the bytes, or none where an
access is refused or its data is uncorrectable or poisoned. -/
def readUnits (r : Request) (v p : Nat) : Nat → Nat → State → Option (List Byte) × State
  | _, 0, s => (some [], s)
  | u, n + 1, s =>
    let code := accessRefused s v p (256 * u) (256 * u + 256) false
    if code ≠ 0 then (none, cmdRefusal r v p code (256 * u) s)
    else
      let x := tcRead v u p 0 (cmdMaster r) s
      if x.1.2 || x.1.1.any (·.bad) then (none, x.2)
      else
        let y := readUnits r v p (u + 1) n x.2
        (y.1.map (fun l => accBytes x.1.1 ++ l), y.2)

/-- The bytes a data reference names: inline, host memory (what the endpoint read, as the partition's function), Tier C.
[log 20 DESIGN CHOICE] -/
def fetchData (r : Request) (ref : DataRef) (data : List Byte) (s : State) : Option (List Byte) × State :=
  match ref.kind with
  | 0 => (some ((r.params.drop ref.addr).take ref.len), s)
  | 1 => (some (exactly ref.len data), s.emit (.hostRead (dmaRequester (reqPart r) r.src) ref.addr ref.len))
  | _ =>
    let x := readUnits r ref.vault (reqPart r) (ref.addr / 256) (cdiv ref.len 256) s
    (x.1.map (·.take ref.len), x.2)

/-- A mover request that reached data in Tier C before waits there still (R224). [log 21 DESIGN CHOICE] -/
def dataWaits (s : State) (ref : DataRef) : Bool := ref.kind == 2 && moverBefore s ref.vault (ref.addr / 256) (cdiv ref.len 256)

/-- An inline reference that reaches beyond the parameters. -/
def inlineShort (r : Request) (i : Nat) : Bool :=
  let d := dataRef r i
  d.kind == 0 && decide (r.plen.toNat < d.addr + d.len)

/-! ### PLAN_LOAD (R153, R154) -/

/-- Pages of a field's store in use, leaving out one handle. -/
def pagesUsed (s : State) (f except : Nat) : Nat :=
  ((s.fieldD f).store.map (fun e => if e.1 = except then 0 else imgPages e.2.length)).sum

/-- FLD_STORE follows the plan store. -/
def showStore (f : Nat) (s : State) : State :=
  let st := (s.fieldD f).store
  (s.set (F.FLD_STORE_FREE_PAGES f) (256 - pagesUsed s f 16)).set (F.FLD_STORE_RESIDENT f) ((st.map (fun e => 2 ^ e.1)).sum)

/-- A handle of a field is bound. -/
def handleBound (s : State) (f h : Nat) : Bool := s.flag (F.FLD_STATUS_BOUND f) && s.get (F.FLD_STATUS_IMAGE f) == h

/-- The first failure of Table 05.3: its code and index. An empty image meets checks 3 and 13 only. [log 22 DEDUCED] -/
def loadFault (s : State) (p f h : Nat) (img : List Byte) : Option (Nat × Nat) :=
  let own := partMask s p
  let bound := handleBound s f h
  if img.isEmpty then
    if bitOf own f = 0 then some (3, 0) else if bound then some (13, 0) else none
  else match imageFault p f own img with
    | some e => some e
    | none => if 256 < pagesUsed s f h + imgPages img.length then some (12, 0) else if bound then some (13, 0) else none

/-- The status of a failure (Table 05.3). -/
def loadStatus (code : Nat) : Nat :=
  if code = 1 then stVersion else if code = 3 then stDenied else if code = 13 then stBusy else stBadParam

/-- The first load failure is kept until VALID is cleared; only in a field of the command's own partition.
[log 22 DEDUCED] -/
def recordLoadErr (p f h : Nat) (e : Nat × Nat) (s : State) : State :=
  if s.flag (F.FLD_LOAD_ERR_VALID f) || ownerOf s f != p then s else
  let s := (s.set (F.FLD_LOAD_ERR_CODE f) e.1).set (F.FLD_LOAD_ERR_HANDLE f) h
  (s.set (F.FLD_LOAD_ERR_INDEX f) e.2).set (F.FLD_LOAD_ERR_VALID f) 1

/-- An image stored under a handle of a field. -/
def storeImage (f h : Nat) (img : List Byte) (s : State) : State :=
  let d := s.fieldD f
  showStore f (s.setField f { d with store := AMap.put (fun _ => []) d.store h img })

/-- A load, once its data can be read: fetched, checked and stored, or the handle freed; its status. -/
def loadPlan (f h : Nat) (r : Request) (data : List Byte) (s : State) : Nat × State :=
  let p := reqPart r
  let x := fetchData r (dataRef r 4) data s
  match x.1 with
  | none => (stFaulted, x.2)
  | some img =>
    match loadFault x.2 p f h img with
    | some e => (loadStatus e.1, recordLoadErr p f h e x.2)
    | none => (stOk, storeImage f h img x.2)

/-- PLAN_LOAD: loaded at once, or once the mover requests that reached its data in Tier C before it are served (R224); the
completion carries the outcome. [log 19 DEDUCED] -/
def planLoad (r : Request) (data : List Byte) (s : State) : Ans :=
  let f := pByte r 0
  let h := pByte r 1
  if dataWaits s (dataRef r 4) then .later (.planLoad f h (some r)) s else
  let x := loadPlan f h r data s
  .decided (.planLoad f h none) x.1 [] x.2

/-- A PLAN_LOAD of this handle has not completed (R380). [log 19 DEDUCED] -/
def loading (s : State) (f h : Nat) : Bool :=
  s.jobs.any (fun j => match j.work with | .planLoad g k _ => g == f && k == h | _ => false)

/-! ### PLAN_BIND, PLAN_START, PLAN_STOP (R182-R184) -/

/-- The fields of a partition in service. -/
def partServing (s : State) (p : Nat) : List Nat := (partFields s p).filter (inService s)

/-- The handle a PLAN_BIND names for field f. -/
def bindHandle (r : Request) (f : Nat) : Nat := pByte r (f / 2) / 16 ^ (f % 2) % 16

/-- A resident image. -/
def imageOf (s : State) (f h : Nat) : List Byte := AMap.get (fun _ => []) (s.fieldD f).store h

/-- Every field named can be bound to its handle: resident images of one family for exactly these fields (R182). -/
def bindable (s : State) (fs : List Nat) (h : Nat → Nat) : Bool :=
  let mask := fs.foldl (fun a f => a + 2 ^ f) 0
  !fs.isEmpty && fs.all (fun f =>
    let l := imageOf s f (h f)
    !l.isEmpty && imgFieldSet l == mask && imgFamily l == imgFamily (imageOf s (fs.headD 0) (h (fs.headD 0))))

/-- One field is bound to a handle: FLD_PC and the loop counters are 0. -/
def bindField (f h : Nat) (s : State) : State :=
  let s := (s.set (F.FLD_STATUS_BOUND f) 1).set (F.FLD_STATUS_IMAGE f) h
  clearLoops f (s.set (F.FLD_PC_PC f) 0)

/-- PLAN_BIND. [log 18 DEDUCED, 19 DEDUCED] -/
def planBind (r : Request) (s : State) : Ans :=
  let p := reqPart r
  let fs := partServing s p
  let others := allFields.any (fun f => bindHandle r f != 0 && !(partFields s p).contains f)
  if p = 0 || others || !bindable s fs (bindHandle r) then .done stBadParam [] s
  else
    let s := s.forEach (partFields s p) (fun f t => (t.set (F.FLD_STATUS_BOUND f) 0).set (F.FLD_STATUS_IMAGE f) 0)
    .done stOk [] (s.forEach fs (fun f t => bindField f (bindHandle r f) t))

/-- A field's sequencer starts at bundle 0 (R183); its hosts run from here on, and what they leave in their L2 cache is
free. [log 167 DESIGN CHOICE] -/
def startField (f : Nat) (s : State) : State :=
  let s := clearLoops f ((s.set (F.FLD_STATUS_STARTED f) 1).set (F.FLD_PC_PC f) 0)
  let s := s.wr (R.FLD_STEP_CNT f) 0
  let x := s.free
  let s := x.2.setField f { x.2.fieldD f with base := 0, hostsHalted := false, l2 := some x.1 }
  let s := { s with power := { s.power with tierSelfRefresh := setDel f s.power.tierSelfRefresh } }
  arrive f (s.forEach (List.range 72) (fun pos t => clearTags f pos t))

/-- PLAN_START. -/
def planStart (p : Nat) (s : State) : Ans :=
  let fs := partServing s p
  if partState s p ≠ 2 ∨ fs.isEmpty ∨ fs.any (fun f => !s.flag (F.FLD_STATUS_BOUND f)) then .done stBadParam [] s
  else
    let s := resetUpdates p (s.setPart p { s.part p with rerun := false, rerunRecs := [], nextRecs := [] })
    let s := { s with power := { s.power with firstPlan := some (s.power.firstPlan.getD s.fet) } }
    .done stOk [] (unqualifyFars (setPartState (s.forEach fs startField) p 3))

/-- PLAN_STOP with MODE 0: fields that stand at bundle 0 stop at once. [log 25 DEDUCED] -/
def planStopGraceful (p : Nat) (s : State) : Ans :=
  if !planStarted s p then .done stOk [] s
  else
    let fs := (partFields s p).filter (fun f => s.flag (F.FLD_STATUS_STARTED f))
    let s := closeSteps p s
    let s := s.forEach fs (fun f t => t.set (F.FLD_STATUS_STOP_PENDING f) 1)
    .later (.planStop p) (s.forEach fs (fun f t => if bKind (seqWord t f) = 1 then stopAtZero f t else t))

/-- An immediate stop gives up the step in progress: it is never committed. [log 23 DESIGN CHOICE] -/
def loseStep (p : Nat) (s : State) : State := markStep p (fun k => { k with lost := k.lost || !k.done }) s

/-- PLAN_STOP with MODE 1: it also completes a graceful stop that is pending. -/
def planStopImmediate (p : Nat) (s : State) : Ans :=
  if !planStarted s p then .done stOk [] s
  else
    let s := (loseStep p (closeSteps p s)).forEach (partFields s p) stopField
    let s := if partState s p = 3 then setPartState s p 2 else s
    .done stOk [] (endJobs (fun w => match w with | .planStop q => q == p | _ => false) stOk [] s)

/-- A graceful stop of p is pending. -/
def stopPending (s : State) (p : Nat) : Bool :=
  planStarted s p && hasJob s (fun w => match w with | .planStop q => q == p | _ => false)

/-! ### STEP_ARM, STEP_COMMIT (R389, R390) -/

/-- The boundary a step command names (R73). -/
def pBoundary (r : Request) (i : Nat) : Fet := roundDown (pLe r i 8) 256

/-- The FET an SCP command carries lies less than 100 µs ahead; it is tested before it is rounded (R73).
[log 24 DEDUCED] -/
def tooSoon (s : State) (b : Fet) : Bool := decide (b < s.fet + 100000)

/-- STEP_ARM. [log 24 DEDUCED] -/
def stepArm (r : Request) (s : State) : Ans :=
  let p := reqPart r
  let b := pBoundary r 0
  let d := s.part p
  if tooSoon s (pLe r 0 8) || d.armed.any (fun a => decide (b ≤ a)) then .done stBadParam [] s
  else .done stOk [] (s.setPart p { d with armed := d.armed ++ [b] })

/-- STEP_COMMIT. [log 23 DESIGN CHOICE] -/
def stepCommit (r : Request) (s : State) : Ans :=
  let p := reqPart r
  let b := pBoundary r 0
  let d := s.part p
  if !d.armed.contains b && !d.steps.any (fun k => k.base == b) then .done stBadParam [] s
  else if stepCommitted s p b then .decided (.stepCommit p b) stOk (commitResult s p b) s
  else if d.steps.any (fun k => k.base == b && k.lost) then .decided (.stepCommit p b) stQuenched [] s
  else .later (.stepCommit p b) s

/-! ### Meanings -/

/-- A command that names a partition being created or destroyed is BUSY (R380). -/
def partBusy (r : Request) (s : State) : Bool := partChanging s (reqPart r)

def planLoadOp (r : Request) (data : List Byte) : ScpOp :=
  { code := 0x20
    async := true
    bad := short r 20 || !pZero r 2 4 || decide (87 < pByte r 0) || decide (15 < pByte r 1) || dataRefBad r 4 || inlineShort r 4
    busy := fun s => partBusy r s || loading s (pByte r 0) (pByte r 1)
    body := planLoad r data }

def execPlanLoad (r : Request) (data : List Byte) (s : State) : Host.Outcome State Fault Refusal :=
  .next (scarab (.planLoad r data) (planLoadOp r data) r s)

def planBindOp (r : Request) : ScpOp :=
  { code := 0x21
    bad := short r 44
    busy := fun s => partBusy r s || planStarted s (reqPart r) || (partServing s (reqPart r)).any (fun f => loading s f (bindHandle r f))
    body := planBind r }

def execPlanBind (r : Request) (s : State) : Host.Outcome State Fault Refusal :=
  .next (scarab (.planBind r) (planBindOp r) r s)

def planStartOp (r : Request) : ScpOp :=
  { code := 0x22, busy := partBusy r, body := planStart (reqPart r) }

def execPlanStart (r : Request) (s : State) : Host.Outcome State Fault Refusal :=
  .next (scarab (.planStart r) (planStartOp r) r s)

def planStopGracefulOp (r : Request) : ScpOp :=
  { code := 0x23
    async := true
    bad := short r 1 || pByte r 0 != 0
    busy := fun s => partBusy r s || stopPending s (reqPart r)
    body := planStopGraceful (reqPart r) }

def execPlanStopGraceful (r : Request) (s : State) : Host.Outcome State Fault Refusal :=
  .next (scarab (.planStopGraceful r) (planStopGracefulOp r) r s)

def planStopImmediateOp (r : Request) : ScpOp :=
  { code := 0x23, bad := short r 1 || pByte r 0 != 1, busy := partBusy r, body := planStopImmediate (reqPart r) }

def execPlanStopImmediate (r : Request) (s : State) : Host.Outcome State Fault Refusal :=
  .next (scarab (.planStopImmediate r) (planStopImmediateOp r) r s)

def stepArmOp (r : Request) : ScpOp :=
  { code := 0x28
    bad := short r 8
    busy := fun s => partBusy r s || fetInvalid s || decide (4 ≤ (s.part (reqPart r)).armed.length)
    body := stepArm r }

def execStepArm (r : Request) (s : State) : Host.Outcome State Fault Refusal :=
  .next (scarab (.stepArm r) (stepArmOp r) r s)

def stepCommitOp (r : Request) : ScpOp :=
  { code := 0x29, async := true, bad := short r 8, busy := fun s => partBusy r s || fetInvalid s, body := stepCommit r }

def execStepCommit (r : Request) (s : State) : Host.Outcome State Fault Refusal :=
  .next (scarab (.stepCommit r) (stepCommitOp r) r s)

end Sys2Proof.Machine
end

