-- ==== Sys2Proof/Machine/ScpData.lean ====
section
/-!
DEFINITION. Machine/ScpData.lean: the data and checkpoint opcodes (12_command_protocol R391, Table 12.8), placement
(R392, Table 12.9), configuration staging and commit (R395-R398).
-/
namespace Sys2Proof.Machine

/-! ### MOVE (R391) -/

/-- The parameters of a MOVE are malformed; the ADDRESS of an inline result is 0 (Table 12.4). [log 17 DEDUCED] -/
def moveBad (dir : Nat) (r : Request) : Bool :=
  short r 32 || pByte r 0 != dir || (pByte r 1 != 2 && pByte r 1 != 3) || !pZero r 3 8 || pLe r 8 8 % 256 != 0 || dataRefBad r 16
    || (dataRef r 16).len % 256 != 0 || (dir == 0 && inlineShort r 16)
    || (dir == 1 && (dataRef r 16).kind == 0 && (dataRef r 16).addr != 0)

/-- A MOVE's field, Vault or address range does not exist. -/
def moveRange (r : Request) : Bool :=
  let last := pLe r 8 8 + (dataRef r 16).len
  if pByte r 1 = 2 then decide (87 < pByte r 2) || decide (2 ^ 34 < last) else decide (11 < pByte r 2) || decide (2 ^ 38 < last)

/-- The own checks of a MOVE (Table 12.8): the failure's status. -/
def moveCheck (s : State) (r : Request) : Option Nat :=
  if pByte r 1 = 2 ∧ pByte r 2 < 88 ∧ ownerOf s (pByte r 2) ≠ reqPart r then some stDenied
  else if moveRange r then some stBadParam else none

/-- MOVE into a tier: a source in the request or in host memory is read now, one in Tier C and the tier itself are accessed when
the transfer completes. [log 20 DESIGN CHOICE, 21 DESIGN CHOICE] -/
def moveInto (r : Request) (data : List Byte) (s : State) : Ans :=
  match moveCheck s r with
  | some st => .done st [] s
  | none =>
    if (dataRef r 16).kind = 2 then .later (.move (reqPart r) 2 (pByte r 1) (pByte r 2) (pLe r 8 8) ((r.params.drop 16).take 16)) s else
    let x := fetchData r (dataRef r 16) data s
    match x.1 with
    | some l => .later (.move (reqPart r) 0 (pByte r 1) (pByte r 2) (pLe r 8 8) l) x.2
    | none => .decided (.move (reqPart r) 0 (pByte r 1) (pByte r 2) (pLe r 8 8) []) stFaulted [] x.2

/-- MOVE out of a tier; the job keeps the 16 bytes of its data reference. [log 21 DESIGN CHOICE] -/
def moveOut (r : Request) (s : State) : Ans :=
  match moveCheck s r with
  | some st => .done st [] s
  | none => .later (.move (reqPart r) 1 (pByte r 1) (pByte r 2) (pLe r 8 8) ((r.params.drop 16).take 16)) s

/-- Writes bytes to 256-byte units of Tier C through the fences of partition p; false where an access is refused. -/
def writeUnits (r : Request) (v p : Nat) : Nat → Nat → List Byte → State → Bool × State
  | _, 0, _, s => (true, s)
  | u, n + 1, l, s =>
    let code := accessRefused s v p (256 * u) (256 * u + 256) false
    if code ≠ 0 then (false, cmdRefusal r v p code (256 * u) s)
    else writeUnits r v p (u + 1) n (l.drop 256) (tcWrite v u p (bytesAcc (l.take 256) false) s)

/-- Writes bytes to units of a Tier N stack. -/
def writeStack (f : Nat) : Nat → Nat → List Byte → State → State
  | _, 0, _, s => s
  | u, n + 1, l, s => writeStack f (u + 1) n (l.drop 256) (tnWrite f u (bytesAcc (l.take 256) false) s)

/-- Reads units of a Tier N stack: none where data is uncorrectable or poisoned. -/
def readStack (f master : Nat) : Nat → Nat → State → Option (List Byte) × State
  | _, 0, s => (some [], s)
  | u, n + 1, s =>
    let x := tnRead f u 0 master false s
    if x.1.2 || x.1.1.any (·.bad) then (none, x.2)
    else
      let y := readStack f master (u + 1) n x.2
      (y.1.map (fun l => accBytes x.1.1 ++ l), y.2)

/-- A request as the job of a command keeps it: enough to name its master. -/
def jobRequest (j : Job) (p : Nat) (data : List Byte) : Request :=
  { src := j.src, seq := j.seq, token := j.token, part := BitVec.ofNat 8 p, params := data }

/-- A MOVE waits for the mover requests that reached its units of Tier C before it (R224). [log 21 DESIGN CHOICE] -/
def moveWaits (s : State) (dir tier unit addr : Nat) (l : List Byte) : Bool :=
  let ref := (dataRef { src := .mgmt 0 0, seq := 0, params := l } 0)
  let len := if dir = 0 then l.length else ref.len
  (tier == 3 && moverBefore s unit (addr / 256) (len / 256)) || (dir != 0 && dataWaits s ref)

/-- A MOVE into a tier is done: every unit written, or the access that was refused ends it. [log 21 DESIGN CHOICE] -/
def finishMoveIn (j : Job) (p tier unit addr : Nat) (l : List Byte) (s : State) : Nat × List Byte × State :=
  if tier = 2 then (stOk, [], writeStack unit (addr / 256) (l.length / 256) l s)
  else
    let x := writeUnits (jobRequest j p []) unit p (addr / 256) (l.length / 256) l s
    (if x.1 then stOk else stFaulted, [], x.2)

/-- A MOVE from Tier C into a tier is done: its source is read, then its units are written. -/
def finishMoveAcross (j : Job) (p tier unit addr : Nat) (refBytes : List Byte) (s : State) : Nat × List Byte × State :=
  let r := jobRequest j p refBytes
  let x := fetchData r (dataRef r 0) [] s
  match x.1 with
  | some l => finishMoveIn j p tier unit addr l x.2
  | none => (stFaulted, [], x.2)

/-- A MOVE out of a tier is done: the data goes into the result, to the host, or to Tier C (R384).
[log 21 DESIGN CHOICE] -/
def finishMoveOut (j : Job) (p tier unit addr : Nat) (refBytes : List Byte) (s : State) : Nat × List Byte × State :=
  let r := jobRequest j p refBytes
  let ref := dataRef r 0
  let n := ref.len / 256
  let x := if tier = 2 then readStack unit (cmdMaster r) (addr / 256) n s else readUnits r unit p (addr / 256) n s
  match x.1 with
  | none => (stFaulted, [], x.2)
  | some l =>
    match ref.kind with
    | 0 => (stOk, l, x.2)
    | 1 => (stOk, [], x.2.emit (.hostWrite (dmaRequester p j.src) ref.addr l))
    | _ =>
      let y := writeUnits r ref.vault p (ref.addr / 256) n l x.2
      (if y.1 then stOk else stFaulted, [], y.2)

/-! ### QUEUE_CONFIG (R238) -/

/-- The parameters of a QUEUE_CONFIG are out of range. [log 17 DEDUCED] -/
def queueBad (r : Request) : Bool :=
  short r 16 || decide (31 < pByte r 11) || decide (1 < pByte r 12) || pByte r 13 == 0 || decide (64 < pByte r 13)
    || decide (512 < pLe r 14 2)

/-- DEPTH of every queue of a field together, with one queue's replaced. -/
def depthSum (s : State) (f q depth : Nat) : Nat :=
  ((List.range 32).map (fun k => if k = q then depth else s.get (F.VLT_MQ_CFG_DEPTH f k))).sum

/-- A named queue holds a descriptor (R238): BUSY before the opcode's own checks (R382). -/
def queueHeld (s : State) (r : Request) : Bool := (maskFields (pMask r 0)).any (fun f => !(inQueue (s.fieldD f) (pByte r 11)).isEmpty)

/-- QUEUE_CONFIG. -/
def queueConfig (r : Request) (s : State) : Ans :=
  let fs := maskFields (pMask r 0)
  let q := pByte r 11
  if fs.any (fun f => ownerOf s f != reqPart r) then .done stDenied [] s
  else if fs.any (fun f => decide (512 < depthSum s f q (pLe r 14 2))) then .done stBadParam [] s
  else .done stOk [] (s.forEach fs (fun f t =>
    ((t.set (F.VLT_MQ_CFG_PRIO f q) (pByte r 12)).set (F.VLT_MQ_CFG_OUT_LIMIT f q) (pByte r 13)).set (F.VLT_MQ_CFG_DEPTH f q) (pLe r 14 2)))

/-! ### Checkpoints (R230, R233) -/

/-- The regions a CKPT_WRITE names: Vault, region index. -/
def ckptRegions (r : Request) : List (Nat × Nat) := (List.range (pByte r 8)).map (fun i => (pByte r (12 + 4 * i), pByte r (13 + 4 * i)))

/-- The parameters of a CKPT_WRITE are malformed. -/
def ckptBad (r : Request) : Bool :=
  short r 12 || pByte r 8 == 0 || decide (48 < pByte r 8) || !pZero r 9 12 || short r (12 + 4 * pByte r 8)
    || (List.range (pByte r 8)).any (fun i =>
        decide (11 < pByte r (12 + 4 * i)) || decide (15 < pByte r (13 + 4 * i)) || pLe r (14 + 4 * i) 2 != 0)

/-- A named region is not of the partition, is its reserve, or lies in a Vault without a reserve of it. -/
def ckptRefused (s : State) (p : Nat) (l : List (Nat × Nat)) : Bool :=
  l.any (fun x => !s.flag (F.VLT_FENCE_ATTR_VALID x.1 x.2) || s.get (F.VLT_FENCE_ATTR_PART x.1 x.2) != p
    || s.get (F.VLT_FENCE_ATTR_KIND x.1 x.2) == 2 || reserveSize s x.1 p == 0)

/-- A checkpoint of the partition, or in a named Vault, is being written (R380). -/
def ckptBusy (s : State) (p : Nat) (l : List (Nat × Nat)) : Bool :=
  ckptWriting s p || (s.part p).ckptAt.isSome || l.any (fun x => (s.vault x.1).ckpt.isSome)
    || (List.range 8).any (fun q => (s.part q).ckptAt.isSome && (s.part q).ckptRegions.any (fun y => l.any (fun x => x.1 == y.1)))

/-- CKPT_WRITE: the checkpoint is armed for E, in the slot that does not hold the newest complete one (R233). -/
def ckptWrite (r : Request) (s : State) : Ans :=
  let p := reqPart r
  let e := pBoundary r 0
  if tooSoon s (pLe r 0 8) || ckptRefused s p (ckptRegions r) then .done stBadParam [] s
  else
    let slot := match newestCkpt s p with | some (k, _) => 1 - k | none => 0
    .later (.ckptWrite p) (s.setPart p { s.part p with ckptAt := some e, ckptRegions := ckptRegions r, ckptSlot := slot })

/-- The epoch of the newest completion record of a slot, where its segments are still those of that record. -/
def slotEpoch (s : State) (p slot : Nat) : Option Fet :=
  let d := s.vault 0
  let rec_ := (d.journal ++ d.staging).foldl (fun b x => match x with
    | .completion q k e => if q = p ∧ k = slot then some e else b
    | _ => b) (none : Option Fet)
  let held := ((List.range 12).map (fun w => (s.vault w).slots)).flatten.any (fun k => k.part == p && k.slot == slot && some k.epoch == rec_)
  if held then rec_ else none

/-- CKPT_RESTORE. -/
def ckptRestore (r : Request) (s : State) : Ans :=
  let p := reqPart r
  let slot := match pByte r 0 with | 0 => (newestCkpt s p).map (·.1) | k => some (k - 1)
  match slot with
  | none => .done stBadParam [] s
  | some k => if (slotEpoch s p k).isNone then .done stBadParam [] s else .later (.ckptRestore p k) s

/-! ### MIGRATE (R392) -/

/-- A resident image of field f for exactly the fields of a mask, of the family bound (R185). -/
def variantOf (s : State) (f mask : Nat) : Option Nat :=
  let fam := imgFamily (boundImage s f)
  (List.range 16).find? (fun h =>
    let l := imageOf s f h
    !l.isEmpty && imgFieldSet l == mask && (imgFamily l == fam || !s.flag (F.FLD_STATUS_BOUND f)))

/-- The bytes of n units of Tier C of Vault v from unit u, under the key of the partition that holds field f. -/
def stagedBytes (s : State) (f u n : Nat) : List Byte :=
  let v := vaultOf f
  (List.range n).flatMap (fun i => plainUnit (s.vault v) v (u + i) ((tierCKey s v (ownerOf s f)).getD []))

/-- The image staged at a unit of Tier C, where it is one for field f and exactly the fields of a mask, of the family
bound, readable by the partition's movers, and one that PLAN_LOAD would take under the handle (R185, Table 05.3).
[log 28 DEDUCED] -/
def stagedAt (s : State) (f mask u h : Nat) : Option (List Byte) :=
  let v := vaultOf f
  let p := ownerOf s f
  let head := stagedBytes s f u 1
  let size := imgBundleAt head + 64 * imgBundles head
  let n := cdiv size 256
  if imgFieldSet head != mask || imgField head != f || imgPart head != p || decide (2 ^ 24 < size)
    || (s.flag (F.FLD_STATUS_BOUND f) && imgFamily head != imgFamily (boundImage s f))
    || !fencePasses s v p (256 * u) (256 * (u + n)) false
    || (List.range n).any (fun i => (s.vault v).tcEcc.contains (u + i) || (s.vault v).tcBad.contains (u + i)) then none
  else
    let img := (stagedBytes s f u n).take size
    if (imageFault p f mask img).isSome || decide (256 < pagesUsed s f h + imgPages img.length) then none else some img

/-- A handle with no image, or one that is not bound. [log 28 DEDUCED] -/
def spareHandle (s : State) (f : Nat) : Option Nat :=
  ((List.range 16).find? (fun h => (imageOf s f h).isEmpty)).orElse
    (fun _ => (List.range 16).find? (fun h => !handleBound s f h))

/-- The first variant staged in the Tier C of a field's Vault, by unit, with the handle it is loaded under: the lowest free
one, else the lowest that is not bound (R185). [log 28 DEDUCED] -/
def stagedVariant (s : State) (f mask : Nat) : Option (Nat × List Byte) :=
  (spareHandle s f).bind (fun h =>
    (((s.vault (vaultOf f)).tierC.filter (fun c => c.1 % 256 == 0)).findSome? (fun c => stagedAt s f mask (c.1 / 256) h)).map
      (fun img => (h, img)))

/-- A variant is resident or staged (R185). -/
def hasVariant (s : State) (f mask : Nat) : Bool := (variantOf s f mask).isSome || (stagedVariant s f mask).isSome

/-- Field f is bound to its variant for a mask, loaded first where it is only staged (R185). -/
def bindTo (f mask : Nat) (s : State) : State :=
  match variantOf s f mask with
  | some h => bindField f h s
  | none => match stagedVariant s f mask with
    | some (h, img) => bindField f h (storeImage f h img s)
    | none => s

/-- The mask of some fields. -/
def maskOf (fs : List Nat) : Nat := fs.foldl (fun a f => a + 2 ^ f) 0

/-- The fields of p that stay in service without those of a mask. -/
def remaining (s : State) (p gone : Nat) : List Nat := (partServing s p).filter (fun f => bitOf gone f == 0)

/-- The own checks of MIGRATE pass; S as the command carries it (R73). [log 28 DEDUCED] -/
def migrateOk (s : State) (p gone : Nat) (carried : Fet) : Bool :=
  let rest := remaining s p gone
  (maskFields gone).all (fun f => (partFields s p).contains f) && !rest.isEmpty
    && rest.all (fun f => hasVariant s f (maskOf rest))
    && routeClosed (setPartMask s p (partMask s p - gone)) p (partMask s p - gone)
    && (partState s p != 3 || (!tooSoon s carried
      && !(s.part p).armed.any (fun a => decide (roundDown carried 256 ≤ a))))
    && [2, 3, 4].contains (partState s p)

/-- Something a MIGRATE of p needs is held: of its partition, of the maps, or the fourth armed boundary of a running plan (R389,
R392). -/
def migrateBusy (p : Nat) (s : State) : Bool :=
  partChanging s p || fetInvalid s || changeBusy s || s.mesh.shadow.isSome || s.flag F.MSH_MAP_STATUS_FENCE || stopPending s p
    || (partState s p == 3 && decide (4 ≤ (s.part p).armed.length))
    || hasJob s (fun w => match w with | .migrate q .. => q == p | _ => false)

/-- MIGRATE: a running plan stops gracefully; what follows happens once it has. S 0: no plan was running.
[log 28 DEDUCED] -/
def migrate (r : Request) (s : State) : Ans :=
  let p := reqPart r
  let gone := pMask r 0
  let b := pBoundary r 16
  if !migrateOk s p gone (pLe r 16 8) then .done stBadParam [] s
  else if partState s p = 3 then
    match planStopGraceful p s with
    | .later _ t => .later (.migrate p gone b) t
    | _ => .later (.migrate p gone b) s
  else .later (.migrate p gone 0) s

/-- The variant is bound in the fields that stay (R185). -/
def bindVariant (p gone : Nat) (s : State) : State :=
  let rest := remaining s p gone
  s.forEach rest (bindTo · (maskOf rest))

/-- Opens the drain window of R213 after GEN of some partitions has moved on. -/
def openDrain (ps : List Nat) (s : State) : State :=
  (({ s with mesh := { s.mesh with drainEnd := s.fet + 200000 } }).set F.MSH_MAP_STATUS_FENCE 1).set F.MSH_MAP_STATUS_FENCE_PART
    (ps.foldl min 7)

/-- GEN of a partition moves on (R212). -/
def bumpGen (p : Nat) (s : State) : State := s.set (F.MSH_GEN_GEN p) (s.get (F.MSH_GEN_GEN p) + 1)

/-- The withdrawal: variant bound, fields cleared and returned to partition 0, GEN of both partitions moved on. -/
def withdraw (p gone : Nat) (s : State) : State :=
  let s := bindVariant p gone s
  let s := s.forEach (maskFields gone) (fun f t => moveField f 0 t)
  openDrain [0, p] (bumpGen 0 (bumpGen p s))

/-- MIGRATE once its plan has stopped: withdrawn, and the variant waits for S. -/
def migratePhase2 (p gone : Nat) (b : Fet) (s : State) : State :=
  let s := withdraw p gone s
  if b = 0 then s else
  let s := s.setPart p { s.part p with armed := [b] }
  setPartState (s.forEach (partServing s p) startField) p 3

/-! ### MAP_UPDATE (R212, R392) -/

/-- The entries of a MAP_UPDATE: type and the three bytes after it. -/
def mapEntries (r : Request) : List (Nat × Nat × Nat × Nat) :=
  (List.range (pLe r 8 2)).map (fun i =>
    (pByte r (12 + 4 * i), pByte r (13 + 4 * i), pByte r (14 + 4 * i), pByte r (15 + 4 * i)))

/-- Type 0 entries (logical cell, position), type 1 (field, partition), type 2 (field, passable). -/
def mapCells (r : Request) : List (Nat × Nat) :=
  (mapEntries r).filterMap (fun e => if e.1 = 0 then some (e.2.1 + 256 * e.2.2.1, e.2.2.2) else none)
def mapMoves (r : Request) : List (Nat × Nat) := (mapEntries r).filterMap (fun e => if e.1 = 1 then some (e.2.1, e.2.2.1) else none)
def mapPass (r : Request) : List (Nat × Nat) := (mapEntries r).filterMap (fun e => if e.1 = 2 then some (e.2.1, e.2.2.1) else none)

/-- The parameters of a MAP_UPDATE are malformed. -/
def mapBad (r : Request) : Bool :=
  short r 12 || !pZero r 10 12 || short r (12 + 4 * pLe r 8 2)
    || (mapEntries r).any (fun e => decide (2 < e.1) || (e.1 != 0 && (e.2.2.2 != 0 || decide (87 < e.2.1))))
    || (mapCells r).any (fun e => decide (5631 < e.1)) || (mapMoves r).any (fun e => decide (7 < e.2))
    || (mapPass r).any (fun e => decide (1 < e.2))

/-- No member twice. -/
def distinct (l : List Nat) : Bool := l.eraseDups.length == l.length

/-- The fields of p once the moves of a MAP_UPDATE have taken effect. -/
def maskAfter (s : State) (p : Nat) (moves : List (Nat × Nat)) : Nat :=
  moves.foldl (fun m e => if e.2 = p then m + 2 ^ e.1 * (1 - bitOf m e.1) else m - 2 ^ e.1 * bitOf m e.1) (partMask s p)

/-- Fields may be moved: into or out of a tenant that exists, that keeps one at least (R342), and that does not come to span the
midline where it may not cross the seam (R348). [log 29 DEDUCED] -/
def movesOk (s : State) (p : Nat) (moves : List (Nat × Nat)) : Bool :=
  moves.isEmpty || (partState s p != 0 && maskAfter s p moves != 0 && (maySpan s p || maskHalf (maskAfter s p moves) != 3))

/-- The own checks of a MAP_UPDATE pass (Table 12.9). [log 29 DEDUCED] -/
def mapOk (s : State) (r : Request) : Bool :=
  let p := reqPart r
  !decide (pLe r 0 8 < s.fet + 100000)
    && (mapCells r).all (fun e => decide (e.2 < 72) && cellRole s (e.1 / 64) e.2 == 1)
    && distinct ((mapCells r).map (·.1)) && distinct ((mapCells r).map (fun e => 72 * (e.1 / 64) + e.2))
    && distinct ((mapMoves r).map (·.1)) && distinct ((mapPass r).map (·.1))
    && (mapMoves r).all (fun e => p != 0 && ((ownerOf s e.1 == 0 && e.2 == p) || (ownerOf s e.1 == p && e.2 == 0)))
    && (mapMoves r).all (fun e => e.2 == 0 || inService s e.1) && movesOk s p (mapMoves r)

/-- Something a MAP_UPDATE needs is held (R212, R351, R380). [log 29 DEDUCED] -/
def mapBusy (s : State) (r : Request) : Bool :=
  s.mesh.shadow.isSome || s.flag F.MSH_MAP_STATUS_FENCE
    || (!(mapMoves r).isEmpty && (changeBusy s || (mapMoves r).any (fun e => e.2 != 0 && decide (e.1 < 88) && beingZeroed s e.1)))

/-- MAP_UPDATE: the shadow copies, and the reserves being zeroed (R117, R214). [log 29 DEDUCED] -/
def mapUpdate (r : Request) (s : State) : Ans :=
  let p := reqPart r
  if !mapOk s r then .done stBadParam [] s
  else
    let a := pLe r 0 8
    let gens := (mapCells r).map (fun e => ownerOf s (e.1 / 64)) ++ (mapMoves r).map (fun e => ownerOf s e.1) ++ (mapMoves r).map (·.2)
      ++ (mapPass r).map (fun e => ownerOf s e.1)
    let m : MapShadow := { at_ := a, part := p, l2p := mapCells r, fieldOk := (mapPass r).map (fun e => (e.1, e.2 == 1))
                           owner := mapMoves r, gens := gens.eraseDups }
    let s := s.forEach (List.range (mapCells r).length) (fun i t =>
      match (mapCells r)[i]? with
      | some e => startZero (e.1 / 64) e.2 t
      | none => t)
    let s := { s with mesh := { s.mesh with shadow := some m } }.set F.MSH_MAP_STATUS_PENDING 1
    let moves := !(mapMoves r).isEmpty
    .later (.mapUpdate p a moves) (if moves then setChanging true p s else s)

/-! ### CFG_STAGE, CFG_COMMIT (R395-R398) -/

/-- Entry i of a CFG_STAGE. -/
def stageEntry (r : Request) (i : Nat) : StageEntry :=
  ⟨canonOff (pLe r (4 + 12 * i) 4), BitVec.ofNat 32 (pLe r (8 + 12 * i) 4), BitVec.ofNat 32 (pLe r (12 + 12 * i) 4)⟩

/-- The parameters of a CFG_STAGE are malformed. -/
def stageBad (r : Request) : Bool := short r 4 || decide (1 < pByte r 0) || pByte r 1 != 0 || short r (4 + 12 * pLe r 2 2)

/-- A VF's entry only lowers a share or sets a slot-table entry of its own invalid (R395). [log 30 DEDUCED] -/
def vfEntryOk (v : Nat → Word) (e : StageEntry) : Bool :=
  let old := v e.target
  let new := (old &&& ~~~e.mask) ||| (e.value &&& e.mask)
  match winOf e.target with
  | (.port _, r) =>
    if r = 0x28 ∨ r = 0x2c then
      (List.range 4).all (fun i => decide (Word.field new (8 * i + 7) (8 * i) ≤ Word.field old (8 * i + 7) (8 * i)))
    else if isSlotTbl r then
      (List.range 8).all (fun i =>
        let a := Word.field old (4 * i + 3) (4 * i)
        let b := Word.field new (4 * i + 3) (4 * i)
        a == b || decide (b < 8))
    else false
  | _ => false

/-- One entry may be staged over the entries before it. -/
def entryOk (s : State) (p : Nat) (vf : Bool) (l : List StageEntry) (e : StageEntry) : Bool :=
  if e.target = live0 ∨ e.target = live1 then p == 0
  else
    let v := stagedWord s l
    e.target % 4 == 0 && accMask .rwl e.target != 0 && (e.mask &&& ~~~changeMask v p e.target) == 0
      && (!vf || vfEntryOk v e)
      && !(e.target == R.MSH_MODE && s.boot.rwlLocked && ((v e.target ^^^ e.value) &&& e.mask &&& modeMask) != 0)

/-- The entries staged one after the other, or none where one may not be. -/
def stageAll (s : State) (p : Nat) (vf : Bool) (l : List StageEntry) (new : List StageEntry) : Option (List StageEntry) :=
  new.foldl (fun o e => o.bind (fun l => if entryOk s p vf l e then some (l ++ [e]) else none)) (some l)

/-- The 40-byte result of CFG_STAGE. -/
def stageResult (s : State) (p : Nat) : List Byte :=
  let l := (s.part p).staging
  leBytes l.length 2 ++ leBytes 0 2 ++ leBytes (stagedEpoch s p) 2 ++ leBytes 0 2 ++ stagedDigest s p l

/-- CFG_STAGE. -/
def cfgStage (r : Request) (s : State) : Ans :=
  let p := reqPart r
  let d := s.part p
  let base := if pByte r 0 = 1 then [] else d.staging
  let new := (List.range (pLe r 2 2)).map (stageEntry r)
  if 1024 < base.length + new.length then .done stBadParam [] s
  else match stageAll s p (reqFn r != 0) base new with
    | none => .done stBadParam [] s
    | some l =>
      let s := s.setPart p { d with staging := l, staged := true }
      .done stOk (stageResult s p) s

/-- The checks of CFG_COMMIT (R397). -/
def commitOk (s : State) (r : Request) : Bool :=
  let p := reqPart r
  let d := s.part p
  let c := pBoundary r 8
  pLe r 0 2 == stagedEpoch s p && (r.params.drop 16).take 32 == stagedDigest s p d.staging && d.staged && !tooSoon s (pLe r 8 8)
    && (if p = 0 then [1, 2, 3, 4, 5, 6, 7].all (fun q => partState s q != 3 || (s.part q).armed.contains c)
        else partState s p != 3 || d.armed.contains c)

/-- CFG_COMMIT: the commit is pending and the area frozen (R398). [log 30 DEDUCED] -/
def cfgCommit (r : Request) (s : State) : Ans :=
  let p := reqPart r
  let d := s.part p
  if !commitOk s r then .done stBadParam [] s
  else
    let c : PendingCommit := ⟨pBoundary r 8, stagedEpoch s p, stagedDigest s p d.staging⟩
    .later (.cfgCommit p c.c) ((s.setPart p { d with commit := some c }).set (F.CHT_CFG_STATUS_PENDING p) 1)

/-- A commit of the partition is pending (R396, R397). -/
def commitPending (s : State) (r : Request) : Bool := (s.part (reqPart r)).commit.isSome

/-! ### Meanings -/

def moveIntoTierOp (r : Request) (data : List Byte) : ScpOp :=
  { code := 0x30, async := true, bad := moveBad 0 r, busy := partBusy r, body := moveInto r data }

def execMoveIntoTier (r : Request) (data : List Byte) (s : State) : Host.Outcome State Fault Refusal :=
  .next (scarab (.moveIntoTier r data) (moveIntoTierOp r data) r s)

def moveOutOfTierOp (r : Request) : ScpOp :=
  { code := 0x30, async := true, bad := moveBad 1 r, busy := partBusy r, body := moveOut r }

def execMoveOutOfTier (r : Request) (s : State) : Host.Outcome State Fault Refusal :=
  .next (scarab (.moveOutOfTier r) (moveOutOfTierOp r) r s)

def queueConfigOp (r : Request) : ScpOp :=
  { code := 0x31, bad := queueBad r, busy := fun s => partBusy r s || queueHeld s r, body := queueConfig r }

def execQueueConfig (r : Request) (s : State) : Host.Outcome State Fault Refusal :=
  .next (scarab (.queueConfig r) (queueConfigOp r) r s)

def ckptWriteOp (r : Request) : ScpOp :=
  { code := 0x38
    async := true
    bad := ckptBad r
    busy := fun s => partBusy r s || fetInvalid s || ckptBusy s (reqPart r) (ckptRegions r)
    body := ckptWrite r }

def execCkptWrite (r : Request) (s : State) : Host.Outcome State Fault Refusal :=
  .next (scarab (.ckptWrite r) (ckptWriteOp r) r s)

def ckptRestoreOp (r : Request) : ScpOp :=
  { code := 0x39
    async := true
    bad := short r 1 || decide (2 < pByte r 0)
    busy := fun s => (partState s (reqPart r) != 2 && partState s (reqPart r) != 4) || ckptWriting s (reqPart r)
    body := ckptRestore r }

def execCkptRestore (r : Request) (s : State) : Host.Outcome State Fault Refusal :=
  .next (scarab (.ckptRestore r) (ckptRestoreOp r) r s)

def migrateOp (r : Request) : ScpOp :=
  { code := 0x40
    async := true
    bad := short r 24 || !pZero r 11 16 || !([1, 2].contains (maskFields (pMask r 0)).length)
    busy := migrateBusy (reqPart r)
    body := migrate r }

def execMigrate (r : Request) (s : State) : Host.Outcome State Fault Refusal :=
  .next (scarab (.migrate r) (migrateOp r) r s)

def mapUpdateOp (r : Request) : ScpOp :=
  { code := 0x41
    async := true
    bad := mapBad r
    busy := fun s => partBusy r s || fetInvalid s || mapBusy s r
    body := mapUpdate r }

def execMapUpdate (r : Request) (s : State) : Host.Outcome State Fault Refusal :=
  .next (scarab (.mapUpdate r) (mapUpdateOp r) r s)

def cfgStageOp (r : Request) : ScpOp :=
  { code := 0x48, bad := stageBad r, busy := fun s => partBusy r s || commitPending s r, body := cfgStage r }

def execCfgStage (r : Request) (s : State) : Host.Outcome State Fault Refusal :=
  .next (scarab (.cfgStage r) (cfgStageOp r) r s)

def cfgCommitOp (r : Request) : ScpOp :=
  { code := 0x49
    async := true
    bad := short r 48 || !pZero r 2 8
    busy := fun s => partBusy r s || fetInvalid s || commitPending s r
    body := cfgCommit r }

def execCfgCommit (r : Request) (s : State) : Host.Outcome State Fault Refusal :=
  .next (scarab (.cfgCommit r) (cfgCommitOp r) r s)

end Sys2Proof.Machine
end

