-- ==== Sys2Proof/Machine/ScpPower.lean ====
section
/-!
DEFINITION. Machine/ScpPower.lean: the power and test opcodes of Scarab and the opcodes of Chitin's front end: envelopes
and budgets, sentinel runs, quench, power domains, reset (12_command_protocol R393, R394; 13 R408-R415; 14 R446-R449;
15 R468-R470).
-/
namespace Sys2Proof.Machine

/-! ### ENVELOPE_SET (R393, R415, R358) -/

/-- Breakpoint i of an ENVELOPE_SET: its FET rounded down to 1 µs, its ramp limit under R415. -/
def envPoint (r : Request) (i : Nat) : Breakpoint :=
  let o := 8 + 16 * i
  ⟨roundDown (pLe r o 8) 1000, pLe r (o + 8) 2, pLe r (o + 10) 2, rampOf (pLe r (o + 12) 2)⟩

/-- The breakpoints of an ENVELOPE_SET. -/
def envPoints (r : Request) : List Breakpoint := (List.range (pByte r 1)).map (envPoint r)

/-- The parameters of an ENVELOPE_SET of KIND 0 are malformed. -/
def envBad (r : Request) : Bool :=
  let n := pByte r 1
  short r 8 || pByte r 0 != 0 || n == 0 || decide (12 < n) || !pZero r 2 8 || short r (8 + 16 * n)
    || (List.range n).any (fun i => pLe r (22 + 16 * i) 2 != 0)

/-- FETs of breakpoints rise. [log 24 DEDUCED] -/
def rising : List Breakpoint → Bool
  | a :: b :: l => decide (a.fet < b.fet) && rising (b :: l)
  | _ => true

/-- A breakpoint within the limits of Table 12.10. -/
def pointOk (b : Breakpoint) : Bool := decide (b.ceil ≤ 1750) && decide (120 ≤ b.floor) && decide (b.floor ≤ b.ceil)

/-- ENVELOPE_SET of KIND 0. [log 24 DEDUCED] -/
def envelopeSet (r : Request) (s : State) : Ans :=
  let new := envPoints r
  let first := (new.headD ⟨0, 0, 0, 0⟩).fet
  let all := (breakpoints s).filter (fun b => decide (b.fet < first)) ++ new
  if !rising new || tooSoon s (pLe r 8 8) || !new.all pointOk || decide (12 < all.length) then .done stBadParam [] s
  else .done stOk [] (setBreakpoints all s)

/-- ENVELOPE_SET of KIND 1: the budget of a tenant (R358, R360). -/
def budgetSet (r : Request) (s : State) : Ans :=
  let p := pByte r 1
  let w := pLe r 2 2
  if partState s p = 0 ∨ partState s p = 5 ∨ tenantPool s < grantedSum s - s.get (F.PRT_POWER_GRANTED p) + w then
    .done stBadParam [] s
  else .done stOk [] (scaleBudgets (s.set (F.PRT_POWER_GRANTED p) w))

/-! ### SENTINEL_RUN (R393, R482) -/

/-- SENTINEL_RUN: mismatches recorded from here on belong to the run. [log 17 DEDUCED, 26 DEDUCED] -/
def sentinelRun (r : Request) (s : State) : Ans :=
  let fs := maskFields (pMask r 0)
  if fs.any (fun f => ownerOf s f != reqPart r) then .done stDenied [] s
  else
    let t := s.forEach ((s.cells.map (·.1)).filter (fun k => fs.contains (k / 72))) (fun k t =>
      t.setCell (k / 72) (k % 72) { t.cell (k / 72) (k % 72) with runTiles := 0, tile := none })
    .later (.sentinelRun (reqPart r) (pMask r 0) (pLe r 12 4) (s.rd R.FLT_LOG_HEAD).toNat) t

/-! ### QUENCH (R394, R470) -/

/-- The slew of a QUENCH; 0 takes the envelope's ramp limit. -/
def quenchSlew (r : Request) (s : State) : Nat := if pLe r 2 2 = 0 then rampLimit s else pLe r 2 2

/-- The parameters of a QUENCH of a scope are malformed. [log 18 DEDUCED] -/
def quenchBad (scope : Nat) (r : Request) : Bool := short r 4 || pByte r 0 != scope || pByte r 1 != 0

/-- The QUENCH_CMD event of a command. -/
def quenchEvent (p : Nat) (r : Request) : FaultEvent :=
  { code := 0x0604, part := p, access := 6, master := cmdMaster r, op0 := cmdOp0 0x70 r, op1 := r.seq.toNat }

/-- QUENCH of SCOPE 0. -/
def quenchPart (r : Request) (s : State) : Ans :=
  let p := reqPart r
  if p = 0 ∨ partState s p = 0 then .done stBadParam [] s
  else if partState s p = 4 ∨ partState s p = 5 then .done stOk [] s
  else .silent (.quench p) (raiseAs 3 (quenchSlew r s) true (quenchEvent p r) s).2

/-- QUENCH of SCOPE 1. -/
def quenchAll (r : Request) (s : State) : Ans :=
  if moduleQuenched s then .done stOk [] s
  else .silent (.quench 0) (raiseAs 4 (quenchSlew r s) true (quenchEvent 0 r) s).2

/-! ### Scarab failover (R366) -/

/-- The partition whose Scarab executes a command; none for Chitin's. -/
def workPart (s : State) : Work → Option Nat
  | .partCreate .. | .partDestroy _ | .inject .. => some 0
  | .mapUpdate p _ moves => some (if moves then 0 else p)
  | .planLoad f .. => some (ownerOf s f)
  | .planStop p | .stepCommit p _ | .move p .. | .ckptWrite p | .ckptRestore p _ | .migrate p .. | .cfgCommit p _
  | .sentinelRun p .. => some p
  | .domainOn _ | .warm | .quench _ => none

/-- The lowest field of a partition that has not failed (R366). -/
def leadField (s : State) (p : Nat) : Option Nat := (partServing s p).head?

/-- The system Scarab (R366): that of the lowest-numbered field whose uncore is in service. -/
def systemField (s : State) : Option Nat := if s.flag F.CHT_STATUS_SCARAB_UP then (serving s).head? else none

/-- The Scarab of a field goes: the commands it was executing as system or lead Scarab end FAULTED, and the next field in
order has its role from then on; without one no system Scarab runs (R366). [log 27 DESIGN CHOICE] -/
def handOver (f : Nat) (s : State) : State :=
  let p := ownerOf s f
  let sys := systemField s == some f
  let lead := p != 0 && leadField s p == some f
  let s := endJobs (fun w => (sys && workPart s w == some 0) || (lead && workPart s w == some p)) stFaulted [] s
  if sys && (serving s).all (· == f) then (s.set F.CHT_STATUS_SCARAB_UP 0).set F.CHT_FW_STATUS_VERSION 0 else s

/-! ### POWER_DOMAIN (R394, R413, R414) -/

/-- The parameters of a POWER_DOMAIN that names a domain are malformed. [log 31 DEDUCED] -/
def domainBad (action : Nat) (r : Request) : Bool :=
  short r 8 || pByte r 0 != action || decide (1 < pByte r 1) || decide (87 < pByte r 2) || decide (7 < pByte r 3)
    || decide (3 < pByte r 4) || !pZero r 5 8

/-- The domain a POWER_DOMAIN names. -/
def domainOf (r : Request) : Nat := domOf (pByte r 2) (if pByte r 1 = 1 then 8 else pByte r 3)

/-- The partition of the named domain has a plan started, or is being created or destroyed (R380). [log 31 DEDUCED] -/
def domainBusy (r : Request) (s : State) : Bool :=
  let p := ownerOf s (pByte r 2)
  planStarted s p || partChanging s p

/-- A request to wake domain d waits, or its regulator is on its way. -/
def waking (s : State) (d : Nat) : Bool :=
  s.power.wakeQ.any (fun w => w.kind != 3 && w.dom == d) || domState s d == 1 || s.power.entering.any (fun e => e.dom == d)

/-- POWER_DOMAIN off: on-requests of the domain end with BUSY; what was admitted stops where it stands.
[log 31 DEDUCED] -/
def turnOff (d : Nat) (s : State) : State :=
  let s := endJobs (fun w => match w with | .domainOn e => e == d | _ => false) stBusy [] s
  let s := { s with power := { s.power with
    wakeQ := s.power.wakeQ.filter (fun w => w.kind == 3 || w.dom != d), entering := s.power.entering.filter (fun e => e.dom != d) } }
  let s := if d % 9 = 8 ∧ inService s (d / 9) then handOver (d / 9) s else s
  let s := setDefer d 0 (domainOff d (s.set F.PWR_TOKEN_QUEUED s.power.wakeQ.length))
  if d % 9 = 8 then makeHole (d / 9) s else s

/-- The defect map keeps a domain OFF. -/
def heldOff (s : State) (d : Nat) : Bool := (fieldsOut s).contains (d / 9) || (d % 9 != 8 && clusterOut s (d / 9) (d % 9))

/-- POWER_DOMAIN on. A domain that is ON is so at once; one held OFF fails; the lock refuses it (R474).
[log 31 DEDUCED] -/
def turnOn (r : Request) (s : State) : Ans :=
  let d := domainOf r
  let st := domState s d
  if locked s then .done stFaulted [] s
  else if st = 3 then .decided (.domainOn d) stOk (leBytes 0 4) s
  else if st = 5 ∨ heldOff s d then .decided (.domainOn d) stFaulted [] s
  else if waking s d then .later (.domainOn d) s
  else
    let kind := if d % 9 = 8 then 2 else if st = 0 then 1 else 0
    .later (.domainOn d) (requestWake ⟨d, kind, pByte r 4, ownerOf s (d / 9), s.fet⟩ s)

/-! ### RESET (R394, R446-R449, R474) -/

/-- An uncleared class 4 record. -/
def uncleared4 (s : State) : Bool := s.log.recs.any (fun r => r.cls == 4 && !r.cleared)

/-- RESET of KIND 0: what refuses it, else phase W1. [log 32 DEDUCED] -/
def warmReinit (s : State) : Ans :=
  if locked s || uncleared4 s || s.boot.inputLost || decide (stepDone s < 4) then .done stFaulted [] s
  else .later .warm (warmStart s)

/-- RESET of KIND 1: the reply leaves, then the module is in reset. [log 32 DEDUCED] -/
def resetModule (s : State) : Ans := if locked s then .done stFaulted [] s else .doneThen stOk moduleReset s

/-- RESET of KIND 2. [log 32 DEDUCED] -/
def resetPins (s : State) : Ans := if locked s then .done stFaulted [] s else .done stOk [] (pinsSafe s)

/-- The parameters of a RESET are malformed. -/
def resetBad (kind : Nat) (r : Request) : Bool := short r 1 || pByte r 0 != kind

/-! ### Meanings -/

def envelopeSetOp (r : Request) : ScpOp :=
  { code := 0x50, bad := envBad r, busy := fetInvalid, body := envelopeSet r }

def execEnvelopeSet (r : Request) (s : State) : Host.Outcome State Fault Refusal :=
  .next (scarab (.envelopeSet r) (envelopeSetOp r) r s)

def envelopeSetBudgetOp (r : Request) : ScpOp :=
  { code := 0x50
    bad := short r 4 || pByte r 0 != 1 || pByte r 1 == 0 || decide (7 < pByte r 1)
    busy := fun s => partState s (pByte r 1) == 1
    body := budgetSet r }

def execEnvelopeSetBudget (r : Request) (s : State) : Host.Outcome State Fault Refusal :=
  .next (scarab (.envelopeSetBudget r) (envelopeSetBudgetOp r) r s)

def sentinelRunOp (r : Request) : ScpOp :=
  { code := 0x60
    async := true
    bad := short r 16 || pByte r 11 != 0 || pLe r 12 4 == 0
    busy := fun s => partBusy r s || planStarted s (reqPart r)
    body := sentinelRun r }

def execSentinelRun (r : Request) (s : State) : Host.Outcome State Fault Refusal :=
  .next (scarab (.sentinelRun r) (sentinelRunOp r) r s)

def quenchPartitionOp (r : Request) : ScpOp :=
  { code := 0x70, bad := quenchBad 0 r, busy := fun s => partState s (reqPart r) == 1, body := quenchPart r }

def execQuenchPartition (r : Request) (s : State) : Host.Outcome State Fault Refusal :=
  .next (chitin (quenchPartitionOp r) r s)

def quenchModuleOp (r : Request) : ScpOp :=
  { code := 0x70, bad := quenchBad 1 r, body := quenchAll r }

def execQuenchModule (r : Request) (s : State) : Host.Outcome State Fault Refusal :=
  .next (chitin (quenchModuleOp r) r s)

def powerDomainOffOp (r : Request) : ScpOp :=
  { code := 0x71, bad := domainBad 0 r, busy := domainBusy r, body := fun s => .done stOk [] (turnOff (domainOf r) s) }

def execPowerDomainOff (r : Request) (s : State) : Host.Outcome State Fault Refusal :=
  .next (chitin (powerDomainOffOp r) r s)

def powerDomainOnOp (r : Request) : ScpOp :=
  { code := 0x71, async := true, bad := domainBad 1 r, busy := domainBusy r, body := turnOn r }

def execPowerDomainOn (r : Request) (s : State) : Host.Outcome State Fault Refusal :=
  .next (chitin (powerDomainOnOp r) r s)

def powerDomainModuleOffOp (r : Request) : ScpOp :=
  { code := 0x71
    bad := short r 8 || pByte r 0 != 2 || !pZero r 5 8
    busy := anyPlanStarted
    body := fun s => .done stOk [] (powerDown s) }

def execPowerDomainModuleOff (r : Request) (s : State) : Host.Outcome State Fault Refusal :=
  .next (chitin (powerDomainModuleOffOp r) r s)

def resetWarmReinitOp (r : Request) : ScpOp :=
  { code := 0x7f, async := true, bad := resetBad 0 r, busy := fun s => s.flag F.CHT_STATUS_RUNNING, body := warmReinit }

def execResetWarmReinit (r : Request) (s : State) : Host.Outcome State Fault Refusal :=
  .next (chitin (resetWarmReinitOp r) r s)

def resetModuleOp (r : Request) : ScpOp :=
  { code := 0x7f, bad := resetBad 1 r, body := resetModule }

def execResetModule (r : Request) (s : State) : Host.Outcome State Fault Refusal :=
  .next (chitin (resetModuleOp r) r s)

def resetPinSafeOp (r : Request) : ScpOp :=
  { code := 0x7f, bad := resetBad 2 r, body := resetPins }

def execResetPinSafe (r : Request) (s : State) : Host.Outcome State Fault Refusal :=
  .next (chitin (resetPinSafeOp r) r s)

end Sys2Proof.Machine
end

