-- ==== Sys2Proof/Machine/ScpEvents.lean ====
section
/-!
DEFINITION. Machine/ScpEvents.lean: completions of asynchronous commands (12_command_protocol R379, Tables 12.6-12.10), the
failure of the field of a system or lead Scarab (R366), the expiry of a management-port queue (R371).
-/
namespace Sys2Proof.Machine

/-! ### What a command still in progress answers when it finishes -/

/-- The mismatch records of a sentinel run: of its fields, from its first index on (R393). [log 26 DEDUCED] -/
def runRecords (s : State) (mask from_ : Nat) : List FaultRec :=
  s.log.recs.filter (fun r => r.ev.code == 0x0108 && decide (from_ ≤ r.index) && bitOf mask r.ev.collector == 1)

/-- Physical IDs of the two cells a mismatch record names. -/
def recordCells (s : State) (r : FaultRec) : List Nat :=
  let f := r.ev.collector
  let other := (r.ev.detail.getD 0 0 + 256 * r.ev.detail.getD 1 0) % 64
  (72 * f + r.ev.inst) :: (match holderOf s f other with
    | some p => [72 * f + p]
    | none => [])

/-- Every cell of some fields whose clock runs has run its tiles and compared them (R393). [log 156 DESIGN CHOICE] -/
def runEnded (s : State) (mask tiles : Nat) : Bool :=
  (maskFields mask).all (fun f => (servingCells s f).all (fun p =>
    domState s (domOfCell f p) != 3 || (decide (tiles ≤ (s.cell f p).runTiles) && tileDone s f p (s.fieldD f).cyc)))

/-- The result of SENTINEL_RUN (Table 12.10). [log 26 DEDUCED] -/
def runResult (s : State) (mask from_ : Nat) : List Byte :=
  let rs := runRecords s mask from_
  let cells := (rs.flatMap (recordCells s)).foldl (fun l c => setAdd c l) []
  leBytes rs.length 4 ++ leBytes cells.length 2 ++ leBytes 0 2 ++ cells.flatMap (fun c => leBytes c 2)

/-- MIGRATE: its fields are still in the partition. [log 27 DESIGN CHOICE] -/
def migrateHolds (s : State) (p gone : Nat) : Bool := (maskFields gone).any (fun f => (partFields s p).contains f)

/-- MIGRATE goes on: once the plan has stopped the fields are withdrawn, once the variant's STEP bundle has issued it is
done; a quench meanwhile fails it. The outcome where it is decided, with the FET at which the bundle issued (R379), and the
state. [log 28 DEDUCED] -/
def migrateStep (p gone : Nat) (b : Fet) (s : State) : Option (Nat × Fet) × State :=
  if migrateHolds s p gone then
    if planStarted s p then (none, s)
    else if b ≠ 0 ∧ partState s p = 4 then (some (stFaulted, s.fet), s)
    else
      let s := migratePhase2 p gone b s
      (if b = 0 then some (stOk, s.fet) else none, s)
  else if (s.part p).steps.any (fun k => k.base == b) then (some (stOk, b), s)
  else if planStarted s p then (none, s)
  else (some (stFaulted, s.fet), s)

/-- A command in progress that no event decides finishes by itself: status, result, RFET and state where it can.
[log 15 DEDUCED] -/
def finishWork (j : Job) (s : State) : Option (Nat × List Byte × Fet) × State :=
  let now := fun (st : Nat) (res : List Byte) => some (st, res, s.fet)
  match j.work with
  | .partDestroy p => if destroyDone s p then (now stOk [], releasePart p s) else (none, s)
  | .planStop p => if planStarted s p then (none, s) else (now stOk [], s)
  | .stepCommit p b => if stepCommitted s p b then (now stOk (commitResult s p b), s) else (none, s)
  | .planLoad f h (some r) =>
    if dataWaits s (dataRef r 4) then (none, s) else let x := loadPlan f h r [] s; (now x.1 [], x.2)
  | .move p dir tier unit addr l =>
    if moveWaits s dir tier unit addr l then (none, s)
    else
      let x := match dir with
        | 0 => finishMoveIn j p tier unit addr l s
        | 1 => finishMoveOut j p tier unit addr l s
        | _ => finishMoveAcross j p tier unit addr l s
      (now x.1 x.2.1, x.2.2)
  | .ckptRestore p slot =>
    match slotEpoch s p slot with
    | none => (now stFaulted [], s)
    | some e =>
      if restoreWaits p slot e s then (none, s)
      else let x := restoreSlot p slot e s; (if x.1 then now stOk (leBytes e 8) else now stFaulted [], x.2)
  | .migrate p gone b => let x := migrateStep p gone b s; (x.1.map (fun o => (o.1, [], o.2)), x.2)
  | .sentinelRun _ mask tiles from_ => (if runEnded s mask tiles then now stOk (runResult s mask from_) else none, s)
  | _ => (none, s)

/-- A decided command whose completion must wait: a destruction that failed over still zeroes its fields. -/
def holdsBack (s : State) : Work → Bool
  | .partDestroy p => partState s p == 5 && !destroyDone s p
  | _ => false

/-- What goes with the completion of a decided command: a failed creation is undone (R349), a destruction released, the
serialisation of a map update given up (R351). -/
def settleWork (st : Nat) (w : Work) (s : State) : State :=
  match w with
  | .partCreate p _ _ => if st ≠ stOk ∧ partState s p = 1 then undoCreate p s else s
  | .partDestroy p => if partState s p = 5 then releasePart p s else s
  | .mapUpdate _ _ true => setChanging false 0 s
  | _ => s

/-- COMMAND_COMPLETION of the command that a queue's sequence number names. [log 15 DEDUCED] -/
def complete (src : Source) (seq : BitVec 32) (s : State) : State :=
  match s.jobs.find? (fun j => queueKey j.src == queueKey src && j.seq == seq) with
  | none => s
  | some j =>
    match j.fin with
    | some (st, res, rfet) => if holdsBack s j.work then s else postCompletion j st res rfet (settleWork st j.work s)
    | none =>
      let x := finishWork j s
      match x.1 with
      | some (st, res, rfet) => postCompletion j st res rfet x.2
      | none => x.2

/-! ### Management queues (R371) -/

/-- MGMT_QUEUE_EXPIRY: a queue without a datagram for 60 s is freed, with the requests it still waited for.
[log 35 DESIGN CHOICE] -/
def queueExpiry (src : Source) (s : State) : State :=
  match s.queues.find? (fun q => q.src == src) with
  | none => s
  | some q => if s.fet < q.lastFet + 60000000000 then s else { s with queues := s.queues.filter (fun q => q.src != src) }

/-! ### Meanings -/

def execMgmtQueueExpiry (ip : Word) (port : BitVec 16) (s : State) : Host.Outcome State Fault Refusal :=
  .next (queueExpiry (.mgmt ip port) s)

end Sys2Proof.Machine
end

