-- ==== Sys2Proof/Machine/Views.lean ====
section
/-!
DEFINITION. Machine/Views.lean: what a read of each register shows (R10, R11). A register that holds its own value shows
it; the rest, computed from other state, are given here, window by window.
-/
namespace Sys2Proof.Machine

/-- The 64 bytes of a fault record (Table 15.3). -/
def recordBytes (r : FaultRec) : List Byte :=
  let b := fun (x : Bool) (n : Nat) => if x then n else 0
  leBytes r.index 4
    ++ leBytes (r.cls + b r.first 8 + b r.permanent 16 + b r.transient 32 + b r.cleared 64 + b r.ev.injected 128) 1
    ++ leBytes (r.ev.part % 8 + 8 * (r.ev.lanes % 16)) 1 ++ leBytes r.ev.code 2 ++ leBytes r.fet 8
    ++ leBytes r.ev.collector 2 ++ leBytes r.ev.inst 1 ++ leBytes r.ev.unitType 1 ++ leBytes r.ev.access 1
    ++ leBytes r.temp 1 ++ leBytes r.volt 2 ++ leBytes r.ev.addr 8 ++ leBytes r.ev.master 4 ++ leBytes r.ev.op0 4
    ++ leBytes r.ev.op1 4 ++ leBytes r.ev.link 4 ++ leBytes r.repeats 2
    ++ (List.range 14).flatMap (fun k => leBytes (r.ev.detail.getD k 0) 1)

/-- Bytes 4k to 4k + 3 of a list, as a word. -/
def wordAt (l : List Byte) (k : Nat) : Word := BitVec.ofNat 32 (leAt l (4 * k) 4)

/-- The partition a path acts for (R353). -/
def pathPart : Path → Nat
  | .vf _ k => k.val
  | _ => 0

/-! ### The views -/

/-- Milliseconds since a member's last reply, saturating (CHT_MGR_HEALTH0.AGE_MS). [log 56 DESIGN CHOICE] -/
def ageMs (s : State) (t : Nat) : Nat := min 65535 ((s.fet - AMap.get (fun _ => 0) s.mgr.healthAt t) / 1000000)

/-- CHT_PIN_STATUS with the lines the module drives (Table 17.6). [log 55 DESIGN CHOICE, 112 DEDUCED] -/
def pinStatus (s : State) : Word :=
  let w := s.rd R.CHT_PIN_STATUS
  let b := fun (x : Bool) => if x then 1 else 0
  let w := Word.withField (Word.withField w 11 11 (b (alertDriven s))) 10 10 (b (faultDriven s))
  Word.withField w 9 9 (b (!faultDriven s && Config.faultLineFree s.fet))

/-- The defect entry shown in CHT_DEFECT_LO and HI: the one at INDEX, zero where none is held. -/
def defectShown (s : State) (hi : Bool) : Word :=
  match s.boot.defects[s.get F.CHT_DEFECT_CTRL_INDEX]? with
  | some d => if hi then BitVec.ofNat 32 d.time else BitVec.ofNat 32 (65536 * d.loc + 256 * (d.origin % 256) + d.type % 256)
  | none => 0

/-- C of the pending commit of the partition selected, 0 if none (CHT_CFG_C). -/
def shownC (s : State) : Fet := match (s.part (s.get F.CHT_CFG_SEL_PART)).commit with | some c => c.c | none => 0

/-- Registers of the Chitin window, but for the queue pages (Tables 14.8, 16.5, 17.6). -/
def viewChitin (s : State) (r : Nat) (w : Word) : Word :=
  if r = 0xc then (if s.flag F.CHT_RST_STATUS_HELD then Word.withField w 29 0 (holdMs s) else w)
  else if r = 0x24 then Word.withField w 26 16 s.boot.defects.length
  else if r = 0x2c then defectShown s false
  else if r = 0x30 then defectShown s true
  else if r = 0x38 then pinStatus s
  else if r = 0x3c then Word.withField w 14 8 (0x50 + s.get F.CHT_STRAP_SLOT_ID % 16)
  else if 0x80 ≤ r ∧ r < 0xa0 then Word.withField w 10 0 (s.part ((r - 0x80) / 4)).staging.length
  else if r = 0xa4 then BitVec.ofNat 32 (shownC s)
  else if r = 0xa8 then BitVec.ofNat 32 (shownC s / 2 ^ 32)
  else if 0xc0 ≤ r ∧ r < 0xe0 then wordAt (s.part (s.get F.CHT_CFG_SEL_PART)).digest ((r - 0xc0) / 4)
  else if r = 0x10c then Word.withField w 5 0 (s.get F.CHT_STRAP_SLOT_ID)
  else if 0x140 ≤ r ∧ r < 0x180 ∧ r % 8 = 0 then
    (if w.getLsbD 31 then Word.withField w 15 0 (ageMs s ((r - 0x140) / 8)) else w)
  else w

/-- Registers of the fault window (Table 15.11). -/
def viewFaults (s : State) (r : Nat) (w : Word) : Word :=
  if r = 0 then Word.withField (Word.withField w 29 27 (fltHighest s)) 15 0 (fltUncleared s)
  else if 0x40 ≤ r ∧ r < 0x80 then
    match s.log.recs.find? (fun x => x.index == (s.rd R.FLT_LOG_SEL).toNat) with
    | some x => wordAt (recordBytes x) ((r - 0x40) / 4)
    | none => 0
  else if 0x100 ≤ r ∧ r < 0x120 then
    let p := (r - 0x100) / 4
    Word.withField (Word.withField w 31 29 (highestUncleared s.log.recs (fun x => x.ev.part == p))) 28 28
      (if partState s p = 4 then 1 else 0)
  else if 0x1000 ≤ r ∧ r < 0x1580 ∧ r % 16 = 12 then Word.withField w 8 0 (s.fieldD ((r - 0x1000) / 16)).poison.length
  else w

/-- ERU_STATUS (Table 08.5). -/
def viewEru (s : State) (n : Nat) : Word :=
  let b := fun (x : Bool) => if x then 1 else 0
  let on := (List.range 128).any (fun e => s.flag (F.ERU_SCHED0_VALID n e) && planStarted s (entryPart s n e))
  Word.withField (Word.withField (Word.withField 0 2 2 (b (portTrained s n))) 1 1 (b on)) 0 0 (s.get (F.ERU_CTRL_ENABLE n))

/-- Seconds since a port's calibration was captured, saturating (SNL_CAL.AGE_S); 0 before the first.
[log 56 DESIGN CHOICE] -/
def calAge (s : State) (n : Nat) : Nat :=
  if (s.port n).calAt = 0 then 0 else min 65535 ((s.fet - (s.port n).calAt) / 1000000000)

/-- A SENTINEL_RUN of a field is in progress (R393). -/
def sentinelRunning (s : State) (f : Nat) : Bool :=
  s.jobs.any (fun j => j.fin.isNone && match j.work with | .sentinelRun _ mask _ _ => bitOf mask f == 1 | _ => false)

/-- A cell runs sentinel work (CEL_STATUS.SENTINEL): never one that has failed or is gated, a cell in service through a
SENTINEL_RUN of its field too. -/
def sentinelNow (s : State) (f pos : Nat) : Bool :=
  let r := cellRole s f pos
  decide (r < 2) && (s.flag (F.CEL_STATUS_SENTINEL f pos) || (r == 0 && sentinelRunning s f))

/-- The word a register shows to a path. [log 10 DEDUCED] -/
def viewWord (s : State) (via : Path) (off : Nat) : Word :=
  let w := s.rd off
  match winOf off with
  | (.chitin, r) => viewChitin s r w
  | (.queue e q, r) => if r = 0x20 then Word.withField w 23 17 (inflight s (.pcie (Fin.ofNat 2 e) (Fin.ofNat 8 q) 0)) else w
  | (.time, r) =>
    if r = 0 then BitVec.ofNat 32 s.fet
    else if r = 4 then BitVec.ofNat 32 (s.fet / 2 ^ 32)
    else if r = 8 then (growEst s).rd R.TIM_STATUS
    else w
  | (.faults, r) => viewFaults s r w
  | (.partitions, r) =>
    if r = 0 then (if pathPart via = 0 then 0 else BitVec.ofNat 32 (8 + pathPart via))
    else if 0x100 ≤ r ∧ r % 0x40 = 0 then prtStatus s ((r - 0x100) / 0x40)
    else w
  | (.port n, r) => if r = 0x3c then Word.withField w 15 0 (calAge s n) else w
  | (.eru n, r) => if r = 0 then viewEru s n else w
  | (.vault v, r) =>
    if r = 0 then Word.withField w 2 2 (if w.getLsbD 0 && scrubDue s v (s.vault v).scrubAt then 1 else 0)
    else if r = 0x1c then Word.withField w 15 0 (reserveFree s v)
    else w
  | (.fieldTier f, r) =>
    if r = 0x2000 then Word.withField w 2 2 (if w.getLsbD 1 && scrubDue s (vaultOf f) (s.fieldD f).scrubAt then 1 else 0) else w
  | (.field f, r) => if r = 0 then Word.withField w (F.FLD_STATUS_PART f).hi (F.FLD_STATUS_PART f).lo (ownerOf s f) else w
  | (.cell f c, r) =>
    if r = 0 then
      let w := Word.withField w (F.CEL_STATUS_ROLE f c).hi (F.CEL_STATUS_ROLE f c).lo (cellRole s f c)
      Word.withField w 7 7 (if sentinelNow s f c then 1 else 0)
    else w
  | _ => w

end Sys2Proof.Machine
end

