-- ==== Sys2Proof/Machine/Access.lean ====
section
/-!
DEFINITION. Machine/Access.lean: one register access over one path (R10-R15, R81, R353, R354, R537-R545): where it lands,
whether the path and the unit answer, what a read shows and latches, what a write stores and sets off.
-/
namespace Sys2Proof.Machine

/-! ### Paths and places -/

/-- MASTER of a register access (Table 15.4): the PCI Express function, Chitin for the management port and the rack bus,
the source of a management frame. [log 84 DESIGN CHOICE] -/
def pathMaster : Path → Nat
  | .pf ep => 5 * 2 ^ 29 + 2 ^ 16 * ep.val
  | .vf ep k => 5 * 2 ^ 29 + 2 ^ 16 * ep.val + k.val
  | .datagram .. | .rackBus => 7 * 2 ^ 29 + 0x100
  | .snl c => 6 * 2 ^ 29 + 8 * c.toNat

/-- The class 0 note of an access (R11, R15, R354, R537, R538), in the partition the path acts for. [log 37 DEDUCED] -/
def regNote (via : Path) (write : Bool) (sub off : Nat) (s : State) : State :=
  (recordFault 0 { code := 0x060b, part := pathPart via, access := if write then 2 else 1, addr := off
                   master := pathMaster via, detail := [sub] } s).2

/-- A path carries accesses to the module at all (R431, R527, R529, R539, Table 17.3). [log 43 DEDUCED] -/
def pathUp (s : State) : Path → Bool
  | .pf ep => endpointUp s ep
  | .vf ep k => endpointUp s ep && vfEnabled s ep k
  | .datagram .. => chitinRuns s && s.flag F.CHT_MGMT_CFG_SCP_EN
  | .snl c => chitinRuns s && decide (2 ≤ stepDone s) && snlAccepted s c.toNat
  | .rackBus => s.boot.powered && s.flag F.CHT_SMB_CFG_EN

/-- The MSI-X window of a function, in the register file. [log 47 DESIGN CHOICE] -/
def msixBase (ep fn : Nat) : Nat := 0x1100000 + 0x2000 * (8 * ep + fn)

/-- The queue page or MSI-X window a PCI Express function reaches at an offset, or the register every path shares.
[log 47 DESIGN CHOICE] -/
def pciePlace (ep fn off : Nat) : Nat :=
  if 0x8000 ≤ off ∧ off < 0x10000 then off + 0x1000000 * ep
  else if 0xf00000 ≤ off ∧ off < 0xf02000 then msixBase ep fn + off % 0x2000
  else canonOff off

/-- Registers that exist in Vault 0 only (R289). -/
def vaultZeroOnly (off : Nat) : Bool :=
  match winOf off with
  | (.upd v, r) => v != 0 && decide (0x8020 ≤ r) && decide (r < 0x80a0)
  | _ => false

/-- The register an offset names on a path; none where it is unassigned there (R537, R540). -/
def place (via : Path) (off : Nat) : Option Nat :=
  if 0x1000000 ≤ off then none else
  let o := match via with
    | .pf ep => some (pciePlace ep 0 off)
    | .vf ep k => some (pciePlace ep k off)
    | _ => if 0x8000 ≤ off ∧ off < 0x10000 then none else some (canonOff off)
  match o with
  | some o => if (regRow o).isSome && !vaultZeroOnly o then some o else none
  | none => none

/-- The field whose window an offset lies in. -/
def fieldWindow (off : Nat) : Option Nat :=
  if 0x800000 ≤ off ∧ off < 0xd80000 then some ((off - 0x800000) / 0x10000) else none

/-- What VF k may read (R354, R490, Table 18.3). -/
def vfReads (s : State) (k off : Nat) : Bool :=
  match fieldWindow off with
  | some f => ownerOf s f == k
  | none =>
    match winOf off with
    | (.time, r) => r == 0 || r == 4 || r == 8
    | (.faults, r) => r == 0x100 + 4 * k || r == 0x120 + 4 * k
    | (.partitions, r) => r == 0 || (decide (0x100 + 0x40 * k ≤ r) && decide (r < 0x140 + 0x40 * k))
    | (.msix, r) => decide (r < 16) || r == 0x1000
    | _ => false

/-- What VF k may write: its doorbells and its MSI-X vector (R354, R399, Table 18.3). -/
def vfWrites (k off : Nat) : Bool :=
  match winOf off with
  | (.queue _ q, r) => q == k && (r == 0x14 || r == 0x1c)
  | (.msix, r) => decide (r < 16)
  | _ => false

/-- An access the filter of a VF stops (R354). [log 37 DEDUCED] -/
def filtered (s : State) (via : Path) (write : Bool) (off : Nat) : Bool :=
  match via with
  | .vf ep k => if write then !vfWrites k (pciePlace ep k off) else !vfReads s k (pciePlace ep k off)
  | _ => false

/-- The unit that owns a window can answer (R431, R538); an offset no window covers has no unit to wait for (R537). -/
def answers (s : State) (off : Nat) : Bool :=
  match fieldWindow off with
  | some f => decide (2 ≤ stepDone s) && uncoreOn s f
  | none =>
    match winOf off with
    | (.chitin, _) | (.queue _ _, _) | (.power, _) | (.time, _) | (.unassigned, _) => true
    | (.port _, _) | (.eru _, _) => dieOn s
    | _ => decide (2 ≤ stepDone s)

/-! ### Reads -/

/-- The upper half of the pair of RO registers whose lower half lies at an offset (R81). -/
def pairHi (off : Nat) : Option Nat :=
  let lo := match winOf off with
    | (.time, r) => r == 0 || r == 0x38
    | (.power, r) => (decide (0x100 ≤ r) && decide (r < 0x1000) && r % 16 == 0) || (decide (0x1000 ≤ r) && (r - 0x1000) % 32 == 12)
    | (.port _, r) => r == 0x60
    | (.chitin, r) => r == 0xa4
    | _ => false
  if lo then some (off + 4) else none

/-- The lower half of the pair whose upper half lies at an offset. -/
def pairLo (off : Nat) : Option Nat := if 4 ≤ off ∧ pairHi (off - 4) = some off then some (off - 4) else none

/-- The bits of a register a read shows: all but write-only and reserved ones (R11, R14). -/
def readMask (off : Nat) : Word :=
  match regRow off with
  | some r => r.fields.foldl (fun m f => if f.acc = .wo then m else m ||| bitsMask f.hi f.lo) 0
  | none => 0

/-- A latch of a requester set (R542). [log 46 DEDUCED] -/
def setLatch (via : Path) (lo : Nat) (hi : Word) (l : List (Path × Nat × Word)) : List (Path × Nat × Word) :=
  l.filter (fun e => !(e.1 == via && e.2.1 == lo)) ++ [(via, lo, hi)]

/-- The upper half a requester latched. [log 46 DEDUCED] -/
def latched (s : State) (via : Path) (lo : Nat) : Option Word :=
  (s.latches.find? (fun e => e.1 == via && e.2.1 == lo)).map (·.2.2)

/-- PWR_DRAW and PRT_DRAW, whose PEAK clears on a read (R545). [log 46 DEDUCED] -/
def drawPeak (off : Nat) : Option Fld :=
  match winOf off with
  | (.power, 0x14) => some F.PWR_DRAW_PEAK
  | (.partitions, r) => if 0x100 ≤ r ∧ r % 0x40 = 0x18 then some (F.PRT_DRAW_PEAK ((r - 0x100) / 0x40)) else none
  | _ => none

/-- A read of a register that answers. -/
def readHere (via : Path) (o : Nat) (s : State) : Word × State :=
  let w := match pairLo o with
    | some lo => (latched s via lo).getD (viewWord s via o)
    | none => viewWord s via o
  let s := match pairHi o with
    | some hi => { s with latches := setLatch via o (viewWord s via hi) s.latches }
    | none => s
  let s := match drawPeak o with
    | some f => s.set f 0
    | none => s
  (w &&& readMask o, s)

/-- One 32-bit aligned read: the value, and the status the rack bus gives it (R529): 0 OK, 1 a window not available. -/
def accessRead (via : Path) (off : Nat) (s : State) : Word × Nat × State :=
  if filtered s via false off then (0, 2, regNote via false 3 off s)
  else if !answers s off then (0xffffffff, 1, s)
  else match place via off with
  | none => (0, 0, s)
  | some o => let x := readHere via o s; (x.1, 0, x.2)

/-- A read of a width in bytes at an offset (R15): the value, the status, the state. [log 44 DEDUCED] -/
def readReg (via : Path) (off bytes : Nat) (s : State) : Nat × Nat × State :=
  if bytes = 4 ∧ off % 4 = 0 then
    let x := accessRead via off s
    (x.1.toNat, x.2)
  else if bytes = 8 ∧ off % 8 = 0 then
    let x := accessRead via off s
    let y := accessRead via (off + 4) x.2.2
    (x.1.toNat + 2 ^ 32 * y.1.toNat, max x.2.1 y.2.1, y.2.2)
  else (2 ^ (8 * bytes) - 1, 2, regNote via false 1 off s)

/-! ### Writes -/

/-- The word a register holds after a write, by the access type of each field (R11), its RWL fields locked or not. -/
def writtenWord (s : State) (off : Nat) (w : Word) : Word :=
  let old := s.rd off
  let new := loadRule off w
  let rw := accMask .rw off ||| (if s.boot.rwlLocked then 0 else accMask .rwl off)
  (((old &&& ~~~rw) ||| (new &&& rw)) &&& ~~~(w &&& accMask .w1c off)) ||| (w &&& accMask .w1s off)

/-- A write to an Update Engine group or LR entry that a started plan uses (R289). -/
def updInUse (s : State) (off : Nat) : Bool :=
  match winOf off with
  | (.upd v, r) =>
    if 0x8100 ≤ r ∧ r < 0x8500 then planStarted s (grpPart s v ((r - 0x8100) / 0x40)) && grpOn s v ((r - 0x8100) / 0x40)
    else if 0x8800 ≤ r then
      (List.range 16).any (fun g => grpOn s v g && planStarted s (grpPart s v g)
        && decide (s.get (F.UPD_G_CFG_LR_FIRST v g) ≤ (r - 0x8800) / 8) && decide ((r - 0x8800) / 8 ≤ s.get (F.UPD_G_CFG_LR_LAST v g)))
    else false
  | _ => false

/-- A write of a queue's base or size while the queue is enabled (R399). [log 51 DEDUCED] -/
def queueInUse (s : State) (off : Nat) (w : Word) : Bool :=
  match winOf off with
  | (.queue e q, r) => s.flag (F.CHT_Q_CFG_EN e q) &&
      (decide (r < 0x10) || (r == 0x10 && ((loadRule off w ^^^ s.rd off) &&& 0xff00) != 0))
  | _ => false

/-- COLS = 0 for a valid OPT 2 group (R281). -/
def noColumns (s : State) (off : Nat) (w : Word) : Bool :=
  match winOf off with
  | (.upd v, r) =>
    let g := (r - 0x8100) / 0x40
    decide (0x8100 ≤ r ∧ r < 0x8500 ∧ r % 0x40 = 0xc) && grpOn s v g && grpOpt s v g == 2 && Word.field w 15 0 == 0
  | _ => false

/-- A write that is discarded with a note (subcode 5): the partition window (R365), shares beyond 256 (R325), what a
started plan uses (R289), an OPT 2 group without columns (R281), the rings of an enabled queue (R399). -/
def writeRefused (s : State) (off : Nat) (w : Word) : Bool :=
  (match winOf off with | (.partitions, _) => true | _ => false) || shareOver s off w || updInUse s off || noColumns s off w
    || (queueInUse s off w && decide (off % 0x1000 < 0x10))

/-- A reference code in a nibble that Table 02.1 does not define (R59). [log 52 DESIGN CHOICE] -/
def badNibble (w : Word) (lo : Nat) : Bool := decide (4 < Word.field w (lo + 3) lo)

/-- A write that loads something else than written, and is noted (R59, R399, R404). [log 37 DEDUCED, 51 DEDUCED] -/
def writeNoted (s : State) (off : Nat) (w : Word) : Bool :=
  match winOf off with
  | (.time, 0xc) => badNibble w 4
  | (.time, 0x10) => badNibble w 0 || badNibble w 4 || badNibble w 8 || badNibble w 12
  | (.time, r) => decide (0x8000 ≤ r) && r % 16 == 0 && decide (opLimit s ((r - 0x8000) / 16) < Word.field (loadRule off w) 4 0)
  | (.queue _ _, 0x10) => queueInUse s off w
  | _ => false

/-- What a register loads in place of what was written, where that depends on the state (R399, R404). -/
def stateLoad (s : State) (off : Nat) (w : Word) : Word :=
  match winOf off with
  | (.time, r) =>
    if 0x8000 ≤ r ∧ r % 16 = 0 then
      Word.withField w 4 0 (min (Word.field (loadRule off w) 4 0) (opLimit s ((r - 0x8000) / 16)))
    else w
  | (.queue _ _, 0x10) => if queueInUse s off w then (w &&& ~~~0xff00) ||| (s.rd off &&& 0xff00) else w
  | _ => w

/-! ### What a write sets off -/

/-- The completion entries freed let waiting replies out, in order (R370). -/
def flushWaiting (e q : Nat) (s : State) : State :=
  let d := ringOf s e q
  let s := s.putRing e q { d with waiting := [] }
  d.waiting.foldl (fun t x => ringReply e q (.pcie (Fin.ofNat 2 e) (Fin.ofNat 8 q) 0) x.2.1 x.1 x.2.2 t)
    (s.set (F.CHT_Q_STATUS_CQ_FULL e q) 0)

/-- Setting EN of a queue (R370, Table 12.14): NEXT, the heads, the tails, the phase and the stored replies start afresh.
[log 51 DEDUCED] -/
def enableQueue (e q : Nat) (s : State) : State :=
  let s := (s.wr (R.CHT_Q_SEQ e q) 0).wr (R.CHT_SQ_HEAD e q) 0
  let s := (s.wr (R.CHT_SQ_TAIL e q) 0).wr (R.CHT_CQ_HEAD e q) 0
  let s := ((s.set (F.CHT_Q_STATUS_ERR e q) 0).set (F.CHT_Q_STATUS_CQ_FULL e q) 0).set (F.CHT_Q_STATUS_VER e q) 1
  let s := s.putRing e q {}
  { s with queues := s.queues.filter (fun x => x.src != .pcie (Fin.ofNat 2 e) (Fin.ofNat 8 q) 0) }

/-- Registers of the manager that Chitin's flash keeps (R507). [log 54 DEDUCED] -/
def mgrStored (r : Nat) : Bool := [0x108, 0x10c, 0x110, 0x114, 0x118, 0x11c, 0x120, 0x124].contains r

/-- A manager register written into the flash. -/
def storeMgr (r : Nat) (s : State) : State :=
  { s with boot := { s.boot with flashMgr := s.boot.flashMgr.filter (fun e => e.1 != r) ++ [(r, s.rd r)] } }

/-- The strapped manager resumes ACT 1 when its CHT_MGR_FOLLOW names itself (R506). -/
def followWritten (s : State) : State :=
  if s.get F.CHT_MGR_STATUS_ACT = 5 ∧ s.get F.CHT_STRAP_ROLE = 1 ∧ s.flag F.CHT_MGR_FOLLOW_VALID
      ∧ s.get F.CHT_MGR_FOLLOW_COORD = ownCoord s then s.set F.CHT_MGR_STATUS_ACT 1
  else s

/-- CHT_MGR_CTRL.DRIVE and ABORT (R496). -/
def mgrCtrl (w : Word) (s : State) : State :=
  let s := if w.getLsbD 1 && isManager s then startDrive s else s
  if w.getLsbD 0 && s.flag F.CHT_MGR_STATUS_DRIVING then { s with mgr := { s.mgr with abort := true } } else s

/-- Effects of the Chitin window. -/
def chitinEffect (r : Nat) (w : Word) (s : State) : State :=
  match r with
  | 0x4 =>
    let s := if w.getLsbD 8 then buGo (s.get F.CHT_BU_CTRL_TARGET) s else s
    if w.getLsbD 9 then buAbort s else s
  | 0x28 =>
    let s := if w.getLsbD 12 then defectAdd s else s
    if w.getLsbD 13 then defectPurge s else s
  | 0x104 => mgrCtrl w s
  | 0x118 => followWritten (storeMgr r s)
  | _ => if mgrStored r then storeMgr r s else s

/-- FLT_CTRL.CNT_CLEAR (Table 15.11). -/
def fltCntClear (s : State) : State :=
  let s := s.overRegs 0x31000 0x31580 (fun o w =>
    if o % 16 = 4 ∨ o % 16 = 8 then 0 else if o % 16 = 12 then Word.withField w 27 16 0 else w)
  let s := s.overRegs 0x30100 0x30140 (fun o w => if o < 0x30120 then Word.withField w 15 0 0 else Word.withField w 27 0 0)
  { s with log := { s.log with clsCounts := [] } }

/-- FLT_INJECT.ARM (R489): targets 1 to 3 and 5 wait for their checker; target 4 acts at once; a target or domain that
names nothing is noted. [log 53 DEDUCED] -/
def fltInject (off : Nat) (s : State) : State :=
  let t := s.get F.FLT_INJECT_TARGET
  if t = 3 ∨ t = 5 ∨ ((t = 1 ∨ t = 2) ∧ s.get F.FLT_INJECT_DOM ≤ 791) then s
  else if t = 4 then (recordFault 0 { code := 0x060e, injected := true } (s.set F.FLT_INJECT_ARM 0)).2
  else note 5 0 off (s.set F.FLT_INJECT_ARM 0)

/-- Effects of the fault window. -/
def faultsEffect (off r : Nat) (w : Word) (s : State) : State :=
  if r = 4 then (if w.getLsbD 1 then fltCntClear s else s)
  else if r = 0x20 then (if w.getLsbD 0 then fltInject off s else s)
  else if 0x1000 ≤ r ∧ r % 16 = 12 ∧ w.getLsbD 31 then s.set (F.FLT_C_STATUS_HIGHEST ((r - 0x1000) / 16)) 0
  else s

/-- PWR_CTRL (R407, R430). -/
def pwrCtrl (w : Word) (s : State) : State :=
  let s := if w.getLsbD 1 then vminClear s else s
  if w.getLsbD 0 then (s.wr R.PWR_RAMP_CNT 0).wr R.PWR_TOKEN_DEFER 0 else s

/-- SNL_CTRL (R318, R324). -/
def snlCtrl (n : Nat) (w : Word) (s : State) : State :=
  let s := applyEn n s
  let s := if w.getLsbD 2 then requestRetrain n s else s
  if w.getLsbD 3 then portRetry n s else s

/-- CEL_CTRL (R107, R117, R125). -/
def celCtrl (f c : Nat) (w : Word) (s : State) : State :=
  let s := if w.getLsbD 2 then celFuClear f c s else s
  let s := if w.getLsbD 1 then celSpZero f c s else s
  if w.getLsbD 3 then celCntClear f c s else s

/-- Effects of a queue page (R370). `was`: EN before the write. -/
def queueEffect (e q r : Nat) (was ringOk : Bool) (s : State) : State :=
  match r with
  | 0x10 => if !was && s.flag (F.CHT_Q_CFG_EN e q) then enableQueue e q s else s
  | 0x14 => if ringOk then s else ringFailed e q s
  | 0x1c => if ringOk then flushWaiting e q s else ringFailed e q s
  | _ => s

/-- What a write sets off, once the register holds its new value. -/
def writeEffect (off : Nat) (w : Word) (was ringOk : Bool) (s : State) : State :=
  match winOf off with
  | (.chitin, r) => chitinEffect r w s
  | (.queue e q, r) => queueEffect e q r was ringOk s
  | (.power, 0x4) => pwrCtrl w s
  | (.time, r) => if 0x8000 ≤ r ∧ r % 16 = 0 ∧ w.getLsbD 8 then armClock ((r - 0x8000) / 16) s else s
  | (.faults, r) => faultsEffect off r w s
  | (.port n, 0x4) => snlCtrl n w s
  | (.eru n, 0x4) => if w.getLsbD 1 then eruCntClear n s else s
  | (.vault v, 0x4) => if w.getLsbD 0 then vltCntClear v s else s
  | (.upd v, 0x8004) => if w.getLsbD 0 then updCntClear v s else s
  | (.field f, 0x4) => if w.getLsbD 0 then fldCntClear f s else s
  | (.fieldMesh f, 0x1004) => if w.getLsbD 0 then mshCntClear f s else s
  | (.fieldTier f, 0x2004) => if w.getLsbD 0 then vltNCntClear f s else s
  | (.cell f c, 0x4) => celCtrl f c w s
  | _ => s

/-- EN of the queue page an offset lies in. -/
def queueWas (s : State) (off : Nat) : Bool :=
  match winOf off with
  | (.queue e q, _) => s.flag (F.CHT_Q_CFG_EN e q)
  | _ => false

/-- A write to a register of plain access types, and what it sets off. The status is 2 where nothing was taken. -/
def writePlain (via : Path) (o : Nat) (w : Word) (ringOk : Bool) (s : State) : Nat × State :=
  let lock := s.boot.rwlLocked && accMask .rwl o != 0
  let was := queueWas s o
  let s := if lock then regNote via true 2 o s else s
  let s := if writeNoted s o w then regNote via true 5 o s else s
  let s := s.wr o (writtenWord s o (stateLoad s o w))
  (if lock && accMask .rw o == 0 then 2 else 0, writeEffect o w was ringOk s)

/-- A write to a register that answers, and the status the rack bus gives it (R529). The reset mask accepts a write only
while RESET_STUCK (R433); schedule entries and group configurations check what they take (R288, R286). -/
def writeHere (via : Path) (o : Nat) (w : Word) (ringOk : Bool) (s : State) : Nat × State :=
  if writeRefused s o w then (2, regNote via true 5 o s)
  else match winOf o with
  | (.chitin, 0x10) => if w.getLsbD 0 then ((if s.flag F.CHT_RST_STATUS_RESET_STUCK then 0 else 2), maskReset s) else (0, s)
  | (.eru n, r) =>
    if 0x800 ≤ r then (0, eruSchedSet n ((r - 0x800) / 16) (r / 4 % 4) (w &&& accMask .rw o) s) else writePlain via o w ringOk s
  | (.upd v, r) =>
    if 0x8100 ≤ r ∧ r < 0x8500 ∧ r % 0x40 = 0 then (0, updGCfgSet v ((r - 0x8100) / 0x40) (w &&& accMask .rw o) s)
    else writePlain via o w ringOk s
  | _ => writePlain via o w ringOk s

/-- One 32-bit aligned write. -/
def accessWrite (via : Path) (off : Nat) (w : Word) (ringOk : Bool) (s : State) : Nat × State :=
  if filtered s via true off then (2, regNote via true 3 off s)
  else if !answers s off then (1, regNote via true 5 off s)
  else match place via off with
  | none => (2, regNote via true 4 off s)
  | some o => writeHere via o w ringOk s

/-- A write of a width in bytes at an offset (R15). [log 44 DEDUCED] -/
def writeReg (via : Path) (off bytes : Nat) (v : Nat) (ringOk : Bool) (s : State) : Nat × State :=
  if bytes = 4 ∧ off % 4 = 0 then accessWrite via off (BitVec.ofNat 32 v) ringOk s
  else if bytes = 8 ∧ off % 8 = 0 then
    let x := accessWrite via off (BitVec.ofNat 32 v) ringOk s
    let y := accessWrite via (off + 4) (BitVec.ofNat 32 (v / 2 ^ 32)) ringOk x.2
    (max x.1 y.1, y.2)
  else (2, regNote via true 1 off s)

/-- A path in lock reaches the latch alone, which refuses every write (R531, Table 18.3). -/
def latchOnly (s : State) (via : Path) : Bool := locked s && via == .rackBus

/-- A register write as it arrives: nothing where its path is down or ends at the latch. [log 43 DEDUCED] -/
def busWrite (via : Path) (off bytes v : Nat) (ringOk : Bool) (s : State) : State :=
  if !pathUp s via || latchOnly s via then s else (writeReg via off bytes v ringOk s).2

/-- The registers the latch serves in lock (R531). -/
def latchReads (off : Nat) : Bool := [0x34, 0xe0, 0xe4, 0xe8, 0xec, 0xc, 0x3001c].contains off

/-- A register read as it arrives: the value goes back on the path. [log 43 DEDUCED] -/
def busRead (via : Path) (off bytes : Nat) (s : State) : State :=
  if !pathUp s via || (latchOnly s via && !(latchReads off && bytes == 4)) then s
  else if latchOnly s via then
    let x := readHere via off s
    x.2.emit (.readData via off x.1.toNat bytes)
  else
    let x := readReg via off bytes s
    x.2.2.emit (.readData via off x.1 bytes)

end Sys2Proof.Machine
end

