-- ==== Sys2Proof/Machine/AccessCmds.lean ====
section
/-!
DEFINITION. Machine/AccessCmds.lean: the register accesses that the table names one by one, each a write (or a read) of its
register over the path it arrives on.
-/
namespace Sys2Proof.Machine

/-- A path that reaches the queue pages of an endpoint (R399): PCI Express paths reach those of their own.
[log 43 DEDUCED] -/
def onEndpoint : Path → Nat → Bool
  | .pf e, ep => e.val == ep
  | .vf e _, ep => e.val == ep
  | _, _ => true

/-- A write of a register of queue page q over a path. -/
def pageWrite (via : Path) (ep q r : Nat) (value : Word) (ringOk : Bool) (s : State) : State :=
  if onEndpoint via ep then busWrite via (0x8000 + 0x1000 * q + r) 4 value.toNat ringOk s else s

/-- SQ_TAIL_DOORBELL (R370). -/
def execSqTailDoorbell (via : Path) (ep : Fin 2) (q : Fin 8) (value : Word) (ringOk : Bool) (s : State) : Host.Outcome State Fault Refusal :=
  .next (pageWrite via ep q 0x14 value ringOk s)

/-- CQ_HEAD_DOORBELL (R370). -/
def execCqHeadDoorbell (via : Path) (ep : Fin 2) (q : Fin 8) (value : Word) (ringOk : Bool) (s : State) : Host.Outcome State Fault Refusal :=
  .next (pageWrite via ep q 0x1c value ringOk s)

/-- QUEUE_ENABLE (R370). -/
def execQueueEnable (via : Path) (ep : Fin 2) (q : Fin 8) (value : Word) (s : State) : Host.Outcome State Fault Refusal :=
  .next (pageWrite via ep q 0x10 value true s)

/-- BU_GO (R432). -/
def execBuGo (via : Path) (value : Word) (s : State) : Host.Outcome State Fault Refusal :=
  .next (busWrite via R.CHT_BU_CTRL 4 value.toNat true s)

/-- BU_ABORT (R432). -/
def execBuAbort (via : Path) (value : Word) (s : State) : Host.Outcome State Fault Refusal :=
  .next (busWrite via R.CHT_BU_CTRL 4 value.toNat true s)

/-- RST_PIN_MASK_SET (R433). -/
def execRstPinMaskSet (via : Path) (value : Word) (s : State) : Host.Outcome State Fault Refusal :=
  .next (busWrite via R.CHT_RST_PIN_MASK 4 value.toNat true s)

/-- DEFECT_ADD (R444). -/
def execDefectAdd (via : Path) (value : Word) (s : State) : Host.Outcome State Fault Refusal :=
  .next (busWrite via R.CHT_DEFECT_CTRL 4 value.toNat true s)

/-- DEFECT_PURGE (R444). -/
def execDefectPurge (via : Path) (value : Word) (s : State) : Host.Outcome State Fault Refusal :=
  .next (busWrite via R.CHT_DEFECT_CTRL 4 value.toNat true s)

/-- CLK_CTRL_ARM (R54, R404, R405). -/
def execClkCtrlArm (via : Path) (f : Fin 88) (value : Word) (s : State) : Host.Outcome State Fault Refusal :=
  .next (busWrite via (R.CLK_CTRL f) 4 value.toNat true s)

/-- CEL_FU_CLEAR (R107). -/
def execCelFuClear (via : Path) (f : Fin 88) (pos : Fin 72) (value : Word) (s : State) : Host.Outcome State Fault Refusal :=
  .next (busWrite via (R.CEL_CTRL f pos) 4 value.toNat true s)

/-- CEL_SP_ZERO (R117). -/
def execCelSpZero (via : Path) (f : Fin 88) (pos : Fin 72) (value : Word) (s : State) : Host.Outcome State Fault Refusal :=
  .next (busWrite via (R.CEL_CTRL f pos) 4 value.toNat true s)

/-- CEL_CNT_CLEAR (R125). -/
def execCelCntClear (via : Path) (f : Fin 88) (pos : Fin 72) (value : Word) (s : State) : Host.Outcome State Fault Refusal :=
  .next (busWrite via (R.CEL_CTRL f pos) 4 value.toNat true s)

/-- CEL_SP_ARM (R124). -/
def execCelSpArm (via : Path) (f : Fin 88) (pos : Fin 72) (value : Word) (s : State) : Host.Outcome State Fault Refusal :=
  .next (busWrite via (R.CEL_INJECT f pos) 4 value.toNat true s)

/-- CEL_RES_ARM (R124). -/
def execCelResArm (via : Path) (f : Fin 88) (pos : Fin 72) (value : Word) (s : State) : Host.Outcome State Fault Refusal :=
  .next (busWrite via (R.CEL_INJECT f pos) 4 value.toNat true s)

/-- FLD_CNT_CLEAR (R186). -/
def execFldCntClear (via : Path) (f : Fin 88) (value : Word) (s : State) : Host.Outcome State Fault Refusal :=
  .next (busWrite via (R.FLD_CTRL f) 4 value.toNat true s)

/-- MSH_INJECT_ARM (R217). -/
def execMshInjectArm (via : Path) (f : Fin 88) (value : Word) (s : State) : Host.Outcome State Fault Refusal :=
  .next (busWrite via (R.MSH_INJECT f) 4 value.toNat true s)

/-- MSH_CNT_CLEAR (R218). -/
def execMshCntClear (via : Path) (f : Fin 88) (value : Word) (s : State) : Host.Outcome State Fault Refusal :=
  .next (busWrite via (R.MSH_FCTRL f) 4 value.toNat true s)

/-- VLT_N_INJECT (R253). -/
def execVltNInject (via : Path) (f : Fin 88) (value : Word) (s : State) : Host.Outcome State Fault Refusal :=
  .next (busWrite via (R.VLT_N_CTRL f) 4 value.toNat true s)

/-- VLT_C_INJECT (R253). -/
def execVltCInject (via : Path) (v : Fin 12) (value : Word) (s : State) : Host.Outcome State Fault Refusal :=
  .next (busWrite via (R.VLT_CTRL v) 4 value.toNat true s)

/-- VLT_N_CNT_CLEAR (R254). -/
def execVltNCntClear (via : Path) (f : Fin 88) (value : Word) (s : State) : Host.Outcome State Fault Refusal :=
  .next (busWrite via (R.VLT_N_CTRL f) 4 value.toNat true s)

/-- VLT_CNT_CLEAR (R254). -/
def execVltCntClear (via : Path) (v : Fin 12) (value : Word) (s : State) : Host.Outcome State Fault Refusal :=
  .next (busWrite via (R.VLT_CTRL v) 4 value.toNat true s)

/-- ERU_SCHED_WRITE (R288). -/
def execEruSchedWrite (via : Path) (n : Fin 64) (e : Fin 128) (k : Fin 4) (value : Word) (s : State) : Host.Outcome State Fault Refusal :=
  .next (busWrite via (R.ERU_SCHED0 n e + 4 * k) 4 value.toNat true s)

/-- ERU_CNT_CLEAR (R288). -/
def execEruCntClear (via : Path) (n : Fin 64) (value : Word) (s : State) : Host.Outcome State Fault Refusal :=
  .next (busWrite via (R.ERU_CTRL n) 4 value.toNat true s)

/-- ERU_INJECT_ARM (R274). -/
def execEruInjectArm (via : Path) (n : Fin 64) (value : Word) (s : State) : Host.Outcome State Fault Refusal :=
  .next (busWrite via (R.ERU_INJECT n) 4 value.toNat true s)

/-- UPD_G_CFG_WRITE (R286). -/
def execUpdGCfgWrite (via : Path) (v : Fin 12) (g : Fin 16) (value : Word) (s : State) : Host.Outcome State Fault Refusal :=
  .next (busWrite via (R.UPD_G_CFG v g) 4 value.toNat true s)

/-- UPD_CNT_CLEAR (R289). -/
def execUpdCntClear (via : Path) (v : Fin 12) (value : Word) (s : State) : Host.Outcome State Fault Refusal :=
  .next (busWrite via (R.UPD_CTRL v) 4 value.toNat true s)

/-- PORT_ENABLE (R318). -/
def execPortEnable (via : Path) (n : Fin 64) (value : Word) (s : State) : Host.Outcome State Fault Refusal :=
  .next (busWrite via (R.SNL_CTRL n) 4 value.toNat true s)

/-- PORT_RETRY (R318). -/
def execPortRetry (via : Path) (n : Fin 64) (value : Word) (s : State) : Host.Outcome State Fault Refusal :=
  .next (busWrite via (R.SNL_CTRL n) 4 value.toNat true s)

/-- SNL_RETRAIN_REQUEST (R324). -/
def execSnlRetrainRequest (via : Path) (n : Fin 64) (value : Word) (s : State) : Host.Outcome State Fault Refusal :=
  .next (busWrite via (R.SNL_CTRL n) 4 value.toNat true s)

/-- SNL_INJECT_ARM (R489). -/
def execSnlInjectArm (via : Path) (n : Fin 64) (value : Word) (s : State) : Host.Outcome State Fault Refusal :=
  .next (busWrite via (R.SNL_INJECT n) 4 value.toNat true s)

/-- VMIN_CLEAR (R407). -/
def execVminClear (via : Path) (value : Word) (s : State) : Host.Outcome State Fault Refusal :=
  .next (busWrite via R.PWR_CTRL 4 value.toNat true s)

/-- PWR_CNT_CLEAR (R430). -/
def execPwrCntClear (via : Path) (value : Word) (s : State) : Host.Outcome State Fault Refusal :=
  .next (busWrite via R.PWR_CTRL 4 value.toNat true s)

/-- FLT_INJECT_ARM (R489). -/
def execFltInjectArm (via : Path) (value : Word) (s : State) : Host.Outcome State Fault Refusal :=
  .next (busWrite via R.FLT_INJECT 4 value.toNat true s)

/-- FLT_CNT_CLEAR (R490). -/
def execFltCntClear (via : Path) (value : Word) (s : State) : Host.Outcome State Fault Refusal :=
  .next (busWrite via R.FLT_CTRL 4 value.toNat true s)

/-- BRING_UP_DRIVE (R496). -/
def execBringUpDrive (via : Path) (value : Word) (s : State) : Host.Outcome State Fault Refusal :=
  .next (busWrite via R.CHT_MGR_CTRL 4 value.toNat true s)

/-- MGR_DRIVE_ABORT (R496). -/
def execMgrDriveAbort (via : Path) (value : Word) (s : State) : Host.Outcome State Fault Refusal :=
  .next (busWrite via R.CHT_MGR_CTRL 4 value.toNat true s)

/-- MGMT_BASE_WRITE (R507). -/
def execMgmtBaseWrite (via : Path) (value : Word) (s : State) : Host.Outcome State Fault Refusal :=
  .next (busWrite via R.CHT_MGMT_BASE 4 value.toNat true s)

/-- TIM_FET_LO_READ (R81, R542), in the width the requester uses (R15). -/
def execTimFetLoRead (via : Path) (read : RegRead) (s : State) : Host.Outcome State Fault Refusal :=
  .next (busRead via read.off read.bytes s)

/-- DRAW_PEAK_READ (R545), in the width the requester uses (R15). -/
def execDrawPeakRead (via : Path) (read : RegRead) (s : State) : Host.Outcome State Fault Refusal :=
  .next (busRead via read.off read.bytes s)

/-- REGISTER_WRITE (R11). -/
def execRegisterWrite (via : Path) (off : Nat) (bytes : Nat) (value : BitVec 64) (s : State) : Host.Outcome State Fault Refusal :=
  .next (busWrite via off bytes value.toNat true s)

end Sys2Proof.Machine
end

