-- ==== Sys2Proof/Machine/Manager.lean ====
section
/-!
DEFINITION. Machine/Manager.lean: the manager duties (16_manager_role R491-R507): the bring-up drive, the proxy and the ring
commit, health polling, the standby's watch and takeover, yielding and handback. What a member answers over the management
network is an operand; what is sent to a member leaves through `State.out`. The manager is a member of its ring too: its
register accesses to itself act at once, its SCP packets to itself come back as the commands they carry.
-/
namespace Sys2Proof.Machine

/-! ### The members -/

/-- The module's own position on its T ring. -/
def ownT (s : State) : Nat := coordAxis (ownCoord s) 0

/-- The positions that hold a member. -/
def validMembers (s : State) : List Nat := (List.range 8).filter (memberValid s)

/-- A member that does not answer (R503). -/
def unreached (s : State) (t : Nat) : Bool := s.flag (F.CHT_MGR_HEALTH0_UNREACH t)

/-- The members that can be reached. -/
def reachable (s : State) : List Nat := (validMembers s).filter (fun t => !unreached s t)

/-- The registers the manager reads of itself. [log 121 DEDUCED] -/
def ownReply (s : State) (old : Option MemberReply) : MemberReply :=
  let v := fun off => viewWord s .rackBus off
  { old.getD { t := Fin.ofNat 8 (ownT s) } with
    t := Fin.ofNat 8 (ownT s)
    chtStatus := v R.CHT_STATUS, chtStrap := v R.CHT_STRAP, fltStatus := v R.FLT_STATUS, pwrDraw := v R.PWR_DRAW
    pwrAlarm := v R.PWR_ALARM, cfgStatus0 := v (R.CHT_CFG_STATUS 0), tenantRunning := anyRunning s
    standby := (List.range 64).filter (fun n => s.get (F.SNL_STATUS_STATE n) == 6) }

/-- What the members answered, the manager's own registers as they stand. -/
def answered (s : State) (l : List MemberReply) : List MemberReply :=
  let own := ownT s
  let others := l.filter (fun m => m.t.val != own && memberValid s m.t.val)
  if memberValid s own then others ++ [ownReply s (l.find? (fun m => m.t.val == own))] else others

/-- The reply of a position. -/
def replyOf (l : List MemberReply) (t : Nat) : Option MemberReply := l.find? (fun m => m.t.val == t)

/-- STEP_DONE, FAIL of a member's CHT_STATUS. -/
def memberStep (m : MemberReply) : Nat := Word.field m.chtStatus 31 28
def memberFail (m : MemberReply) : Bool := m.chtStatus.getLsbD 26

/-- A register write to a member (R496): over the management port, or to the manager itself. [log 121 DEDUCED] -/
def writeMember (t off : Nat) (w : Word) (s : State) : State :=
  if t = ownT s then (accessWrite (.datagram (s.rd R.CHT_MGMT_BASE) 0) off w true s).2 else s.emit (.memberWrite t off w)

/-- The bytes of a request packet under a sequence number (Table 12.2). -/
def requestPacket (opcode : Nat) (r : Request) (seq : Nat) : List Byte :=
  leBytes r.version.toNat 1 ++ leBytes opcode 1 ++ leBytes r.flags.toNat 1 ++ leBytes r.part.toNat 1 ++ leBytes seq 4
    ++ leBytes r.token.toNat 8 ++ leBytes r.plen.toNat 4 ++ leBytes r.status.toNat 2 ++ leBytes r.sqh.toNat 2
    ++ leBytes r.rfet.toNat 8 ++ r.params

/-- The sequence number of the manager's queue toward a member, which a request takes (R500). -/
def memberSeq (s : State) (t : Nat) : Nat := AMap.get (fun _ => 0) s.mgr.seqs t
def takeSeq (t : Nat) (s : State) : State :=
  { s with mgr := { s.mgr with seqs := AMap.put (fun _ => 0) s.mgr.seqs t ((memberSeq s t + 1) % 2 ^ 32) } }

/-- The coordinate of the member at position t. -/
def memberCoord (s : State) (t : Nat) : Nat := withAxis (ownCoord s) 0 t

/-- The control frame that carries a packet to a member's Scarab over the ring (R372, Table 09.5). -/
def memberFrame (s : State) (t : Nat) (packet : List Byte) : Frame :=
  mkFrame s 2 0 0 (8 * memberCoord s t + 2) 2 (1 :: List.replicate 15 0 ++ packet)

/-- A member that the management port does not reach (no SLOT_ID is held for it, or it missed the last poll), and the ring
does (R500). [log 122 DEDUCED] -/
def overRing (s : State) (t : Nat) : Bool :=
  t != ownT s && !(memberValid s t && AMap.get (fun _ => 0) s.mgr.misses t == 0) && (routeFrame s (memberFrame s t []) none).isSome

/-- An SCP packet to a member on the manager's queue toward it, as a datagram on the management port.
[log 121 DEDUCED] -/
def scpSend (t opcode : Nat) (r : Request) (s : State) : State :=
  (takeSeq t s).emit (.memberScp t (requestPacket opcode r (memberSeq s t)))

/-- A request of a proxy datagram to its target: over the ring where the management port does not reach it (R500).
[log 122 DEDUCED] -/
def scpForward (t opcode : Nat) (r : Request) (s : State) : State :=
  if overRing s t then sendFrame (memberFrame s t (requestPacket opcode r (memberSeq s t))) (takeSeq t s) else scpSend t opcode r s

/-- A request of the manager's own to a member. [log 121 DEDUCED] -/
def scpMember (t opcode p : Nat) (params : List Byte) (s : State) : State :=
  scpSend t opcode { src := .mgmt 0 0, part := BitVec.ofNat 8 p, seq := 0, plen := BitVec.ofNat 32 params.length, params := params } s

/-! ### Health (R503) -/

/-- CHT_MGR_HEALTH0 and 1 of a member that answered. -/
def takeHealth (m : MemberReply) (s : State) : State :=
  let t := m.t.val
  let b := fun (x : Bool) => if x then 1 else 0
  let s := (s.set (F.CHT_MGR_HEALTH0_VALID t) 1).set (F.CHT_MGR_HEALTH0_UNREACH t) 0
  let s := s.set (F.CHT_MGR_HEALTH0_HIGHEST t) (Word.field m.fltStatus 29 27)
  let s := (s.set (F.CHT_MGR_HEALTH0_LOCKED t) (b (m.fltStatus.getLsbD 31))).set (F.CHT_MGR_HEALTH0_QUENCHED t) (b (m.fltStatus.getLsbD 30))
  let s := (s.set (F.CHT_MGR_HEALTH0_STEP_DONE t) (memberStep m)).set (F.CHT_MGR_HEALTH0_BU_FAIL t) (b (memberFail m))
  let s := (s.set (F.CHT_MGR_HEALTH1_DRAW t) (Word.field m.pwrDraw 15 0)).set (F.CHT_MGR_HEALTH1_ALARM t) (Word.field m.pwrAlarm 15 0)
  { s with mgr := { s.mgr with
    misses := AMap.put (fun _ => 0) s.mgr.misses t 0, healthAt := AMap.put (fun _ => 0) s.mgr.healthAt t s.fet } }

/-- A member that missed a poll: UNREACH after the third in a row. -/
def missHealth (t : Nat) (s : State) : State :=
  let n := AMap.get (fun _ => 0) s.mgr.misses t + 1
  let s := { s with mgr := { s.mgr with misses := AMap.put (fun _ => 0) s.mgr.misses t n } }
  if 3 ≤ n then s.set (F.CHT_MGR_HEALTH0_UNREACH t) 1 else s

/-- CHT_MGR_RACK: the draw of the members reached, who answered the last poll, who is quenched. -/
def sumRack (got : List Nat) (s : State) : State :=
  let l := reachable s
  let mask := fun (l : List Nat) => (l.map (2 ^ ·)).sum
  let s := s.set F.CHT_MGR_RACK_DRAW (min 65535 ((l.map (fun t => s.get (F.CHT_MGR_HEALTH1_DRAW t))).sum))
  let s := s.set F.CHT_MGR_RACK_REACH (mask ((validMembers s).filter (got.contains ·)))
  s.set F.CHT_MGR_RACK_QUENCH (mask ((validMembers s).filter (fun t => s.flag (F.CHT_MGR_HEALTH0_QUENCHED t))))

/-- HEALTH_POLL: an acting manager's poll, every HEALTH_MS. [log 121 DEDUCED] -/
def healthPoll (l : List MemberReply) (s : State) : State :=
  if !(isManager s && chitinRuns s) || decide (s.fet < s.mgr.pollDue) then s else
  let l := answered s l
  let s := { s with mgr := { s.mgr with pollDue := s.fet + 1000000 * s.get F.CHT_MGR_CFG_HEALTH_MS } }
  let s := s.forEach (validMembers s) (fun t u => match replyOf l t with | some m => takeHealth m u | none => missHealth t u)
  sumRack (l.map (·.t.val)) s

/-! ### The bring-up drive (R496-R498) -/

/-- The drive is over. [log 120 DEDUCED] -/
def endDrive (s : State) : State :=
  { s.set F.CHT_MGR_STATUS_DRIVING 0 with mgr := { s.mgr with phase := 0, abort := false, commitSent := false, driven := [] } }

/-- The drive enters a phase. -/
def toPhase (k : Nat) (s : State) : State := { s with mgr := { s.mgr with phase := k } }

/-- A member that did not answer, or failed a step, drops out of the drive: its health entry, a class 0 note (R497). -/
def dropMember (t : Nat) (m : Option MemberReply) (s : State) : State :=
  let s := match m with
    | some r => ((s.set (F.CHT_MGR_HEALTH0_VALID t) 1).set (F.CHT_MGR_HEALTH0_BU_FAIL t) 1).set (F.CHT_MGR_HEALTH0_STEP_DONE t) (memberStep r)
    | none => s.set (F.CHT_MGR_HEALTH0_UNREACH t) 1
  note 5 0 (R.CHT_MGR_HEALTH0 t) s

/-- The drive goes on with the members that satisfy a condition; the others drop out. -/
def keepMembers (l : List MemberReply) (ts : List Nat) (ok : MemberReply → Bool) (s : State) : State :=
  let good := ts.filter (fun t => (replyOf l t).any ok)
  let s := s.forEach (ts.filter (fun t => !good.contains t)) (fun t u => dropMember t (replyOf l t) u)
  { s with mgr := { s.mgr with driven := good } }

/-- What D3 writes into a member (Table 16.2). [log 120 DEDUCED] -/
def d3Writes (s : State) (t : Nat) : List (Nat × Word) :=
  [(R.CHT_MGR_FOLLOW, BitVec.ofNat 32 (2 ^ 31 + ownCoord s)), (R.CHT_MGR_STANDBY, s.rd R.CHT_MGR_STANDBY)
   , (R.SNL_COORD 0, BitVec.ofNat 32 (memberCoord s t)), (R.SNL_TORUS 0, s.rd (R.SNL_TORUS 0)), (R.SNL_DETOUR 0, s.rd (R.SNL_DETOUR 0))]
    ++ (List.range 64).flatMap (fun n => [(R.SNL_VC_SHARE0 n, s.rd (R.SNL_VC_SHARE0 n)), (R.SNL_VC_SHARE1 n, s.rd (R.SNL_VC_SHARE1 n))])
    ++ [(R.TIM_QUAL_CFG, s.rd R.TIM_QUAL_CFG), (R.TIM_SLEW_CFG, s.rd R.TIM_SLEW_CFG), (R.TIM_CICADA_CFG, s.rd R.TIM_CICADA_CFG)
       , (R.CHT_BU_CFG, Word.withField (s.rd R.CHT_BU_CFG) 5 5 0)]

/-- Every write of D3 to a member. -/
def d3Member (t : Nat) (s : State) : State := (d3Writes s t).foldl (fun u e => writeMember t e.1 e.2 u) s

/-- A GO to each member of the drive, within 1 ms (D4, D5). -/
def sendGo (target : Nat) (ts : List Nat) (s : State) : State :=
  s.forEach ts (fun t u => writeMember t R.CHT_BU_CTRL (BitVec.ofNat 32 (256 + target)) u)

/-- The lowest SLOT_ID of another module found strapped 01 (R492). -/
def rivalSlots (s : State) (l : List MemberReply) : List Nat :=
  (l.filter (fun m => m.t.val != ownT s && Word.field m.chtStrap 7 6 == 1)).map (fun m => Word.field m.chtStrap 5 0)

/-- D1 has ended: D2 resolves role conflicts, D3 writes. [log 120 DEDUCED] -/
def endD1 (l : List MemberReply) (s : State) : State :=
  let s := keepMembers l (validMembers s) (fun m => decide (1 ≤ memberStep m)) s
  if (rivalSlots s l).any (fun k => decide (k < s.get F.CHT_STRAP_SLOT_ID)) then endDrive (yieldRole s)
  else toPhase 3 (s.forEach s.mgr.driven d3Member)

/-- D3 has ended: the members that acknowledged go on to D4. -/
def endD3 (l : List MemberReply) (s : State) : State :=
  let s := keepMembers l s.mgr.driven (fun _ => true) s
  toPhase 4 (sendGo 6 s.mgr.driven s)

/-- D4 has ended: the members at STEP_DONE 6 or later go on to D5, those at 6 with a GO. -/
def endD4 (l : List MemberReply) (s : State) : State :=
  let s := keepMembers l s.mgr.driven (fun m => decide (6 ≤ memberStep m)) s
  toPhase 5 (sendGo 10 (s.mgr.driven.filter (fun t => (replyOf l t).any (fun m => memberStep m == 6))) s)

/-- A CFG_STAGE entry: TARGET, VALUE, MASK. -/
def stageBytes (target value : Nat) : List Byte := leBytes target 4 ++ leBytes value 4 ++ leBytes 0xffffffff 4

/-- The CFG_STAGE of D6 for a member: its own LIVE0 and LIVE1 (R498). -/
def liveStage (m : MemberReply) : List Byte :=
  let v := (m.standby.map (2 ^ ·)).sum
  [0, 0] ++ leBytes 2 2 ++ stageBytes live0 (v % 2 ^ 32) ++ stageBytes live1 (v / 2 ^ 32)

/-- D5 has ended: D6 stages the live ports, unless R498 skips it. [log 120 DEDUCED] -/
def endD5 (l : List MemberReply) (s : State) : State :=
  let s := keepMembers l s.mgr.driven (fun m => memberStep m == 10 && !memberFail m) s
  let ms := s.mgr.driven.filterMap (replyOf l)
  if !s.flag F.CHT_MGR_CFG_AUTO_COMMIT || ms.any (·.tenantRunning) || ms.isEmpty then endDrive s
  else toPhase 6 (ms.foldl (fun u m => scpMember m.t.val 0x48 0 (liveStage m) u) s)

/-- The parameters of a CFG_COMMIT. -/
def commitBytes (epoch c : Nat) (digest : List Byte) : List Byte := leBytes epoch 2 ++ leBytes 0 6 ++ leBytes c 8 ++ digest.take 32

/-- D6: the staged areas are committed at one C; then the drive is over. [log 120 DEDUCED] -/
def endD6 (l : List MemberReply) (s : State) : State :=
  if s.mgr.commitSent then endDrive s else
  let ms := (s.mgr.driven.filterMap (replyOf l)).filter (fun m => m.stageStatus == stOk)
  let c := roundDown (s.fet + 2000000) 256
  let s := ms.foldl (fun u m => scpMember m.t.val 0x49 0 (commitBytes m.stageEpoch c m.stageDigest) u) s
  { s with mgr := { s.mgr with commitSent := true } }

/-- The phase in progress ends: its condition, or `expired` (Table 16.2). -/
def phaseOver (l : List MemberReply) (expired : Bool) (s : State) : Bool :=
  let all := fun (ts : List Nat) (p : MemberReply → Bool) => ts.all (fun t => (replyOf l t).any p)
  match s.mgr.phase with
  | 1 => expired || all (validMembers s) (fun m => decide (1 ≤ memberStep m))
  | 3 => expired || all s.mgr.driven (fun _ => true)
  | 4 => expired || all s.mgr.driven (fun m => decide (6 ≤ memberStep m))
  | 5 => expired || all s.mgr.driven (fun m => memberStep m == 10 || memberFail m)
  | _ => true

/-- DRIVE_PHASE_COMPLETE. [log 120 DEDUCED] -/
def drivePhase (l : List MemberReply) (expired : Bool) (s : State) : State :=
  if !(s.flag F.CHT_MGR_STATUS_DRIVING && isManager s && chitinRuns s) then s else
  let l := answered s l
  if !phaseOver l expired s then s
  else if s.mgr.abort then endDrive s
  else match s.mgr.phase with
    | 1 => endD1 l s
    | 3 => endD3 l s
    | 4 => endD4 l s
    | 5 => endD5 l s
    | _ => endD6 l s

/-! ### The proxy (R499-R502) -/

/-- The reply to the request of a proxy datagram, under the sender's SEQ and TOKEN (R500). -/
def proxyReplyTo (r : Request) (status : Nat) (rfet : Fet) (result : List Byte) : Reply :=
  { seq := r.seq, token := r.token, status := status, rfet := rfet, result := result, part := reqPart r }

/-- The datagram of a proxy reply: its prefix and its packet (R499, R500). -/
def proxyOut (k : ProxyKept) (replayed : Bool) : Output :=
  .proxyReply k.ip k.port k.pre (scpPacket k.opcode { k.reply with replayed := replayed } k.more false 0)

/-- A proxy reply to its sender, kept for repeats: the last 64 PSEQ values of each sender. [log 122 DEDUCED] -/
def proxyAnswer (k : ProxyKept) (s : State) : State :=
  let mine := s.mgr.proxyReplies.filter (fun x => x.ip == k.ip && x.port == k.port)
  let seqs := (mine.map (·.pre.pseq)).eraseDups
  let old := if seqs.contains k.pre.pseq then [] else seqs.take (seqs.length - 63)
  let kept := s.mgr.proxyReplies.filter (fun x => !(x.ip == k.ip && x.port == k.port && old.contains x.pre.pseq))
  ({ s with mgr := { s.mgr with proxyReplies := kept ++ [k] } } : State).emit (proxyOut k false)

/-- The answer to a proxy datagram from a position, TARGET of its prefix (R499). -/
def proxyFrom (ip : Word) (port : Nat) (pre : ProxyPrefix) (op pos : Nat) (more : Bool) (reply : Reply) : ProxyKept :=
  { ip := ip, port := port, pre := { pre with target := pos }, opcode := op, more := more, reply := reply }

/-- The replies kept for a PSEQ of a sender. [log 122 DEDUCED] -/
def proxyKept (s : State) (ip : Word) (port pseq : Nat) : List ProxyKept :=
  s.mgr.proxyReplies.filter (fun k => k.ip == ip && k.port == port && k.pre.pseq == pseq)

/-- The first FET a packet carries, where R49 counts it as one that carries an FET. [log 122 DEDUCED] -/
def packetFet (op : Nat) (r : Request) : Option Nat :=
  match op with
  | 0x28 | 0x29 | 0x38 | 0x41 => some (pLe r 0 8)
  | 0x40 => some (pLe r 16 8)
  | 0x49 => some (pLe r 8 8)
  | 0x50 => if pByte r 0 = 0 then some (pLe r 8 8) else none
  | 0x59 => if pLe r 8 8 = 0 then none else some (pLe r 8 8)
  | _ => none

/-- What a proxy check answers before anything is forwarded (R499, R501). [log 122 DEDUCED] -/
def proxyCheck (s : State) (pre : ProxyPrefix) (op : Nat) (r : Request) : Option Nat :=
  let soon := fun v => decide (v < s.fet + 2000000)
  if op = 0x18 then some stDenied
  else if !pre.reservedZero || decide (1 < pre.mode) || (decide (7 < pre.target) && pre.target != 0xff) then some stBadParam
  else if pre.mode = 1 then (if op ≠ 0x48 ∨ soon pre.c then some stBadParam else none)
  else if pre.c ≠ 0 ∨ (packetFet op r).any soon then some stBadParam
  else none

/-- The targets of a proxy datagram. -/
def proxyTargets (s : State) (pre : ProxyPrefix) : List Nat := if pre.target = 0xff then reachable s else [pre.target]

/-- A proxy datagram as it arrives: discarded with a note where the module is no manager or PROXY_EN is 0, a repeat
answered from the replies kept, a failed check answered; `k` otherwise. -/
def proxyArrive (ip : Word) (port : Nat) (pre : ProxyPrefix) (op : Nat) (r : Request) (k : State → State) (s : State) : State :=
  if !chitinRuns s then s
  else if !(isManager s && s.flag F.CHT_MGR_CFG_PROXY_EN) then note 5 0 R.CHT_MGR_CFG s
  else
    let kept := proxyKept s ip port pre.pseq
    if !kept.isEmpty then kept.foldl (fun u e => u.emit (proxyOut e true)) s
    else match proxyCheck s pre op r with
      | some st => proxyAnswer (proxyFrom ip port pre op (ownT s) false (proxyReplyTo r st s.fet [])) s
      | none => k s

/-- PROXY_FORWARD: MODE 0 (and MODE values that no rule defines). A target marked UNREACH, or that neither the management
port nor the ring reaches, is answered BUSY by the manager. [log 122 DEDUCED] -/
def proxyForward (ip : Word) (port : Nat) (pre : ProxyPrefix) (op : Nat) (r : Request) (replies : List ScpReply) (s : State) : State :=
  if pre.mode = 1 then s else
  proxyArrive ip port pre op r (fun s =>
    s.forEach (proxyTargets s pre) (fun t u =>
      if unreached u t || !(memberValid u t || overRing u t) then
        proxyAnswer (proxyFrom ip port pre op t false (proxyReplyTo r stBusy u.fet [])) u
      else (replies.filter (fun x => x.t.val == t)).foldl (fun v x =>
        proxyAnswer (proxyFrom ip port pre op t x.more (proxyReplyTo r x.status x.rfet x.result)) v) (scpForward t op r u))) s

/-- The members that agree with the first good reply to the staging: its epoch and digest, and their positions.
[log 122 DEDUCED] -/
def agreement (l : List MemberReply) : Nat × List Byte × List Nat :=
  match l.find? (fun m => m.stageStatus == stOk) with
  | none => (0, List.replicate 32 0, [])
  | some a => (a.stageEpoch, a.stageDigest, (l.filter (fun m =>
      m.stageStatus == stOk && m.stageEpoch == a.stageEpoch && m.stageDigest == a.stageDigest)).map (·.t.val))

/-- PROXY_RING_COMMIT (R502). [log 122 DEDUCED] -/
def ringCommit (ip : Word) (port : Nat) (pre : ProxyPrefix) (op : Nat) (r : Request) (members : List MemberReply) (s : State) : State :=
  if pre.mode ≠ 1 then s else
  proxyArrive ip port pre op r (fun s =>
    let ts := reachable s
    let p := reqPart r
    let s := s.forEach ts (fun t u => scpSend t op r u)
    let l := members.filter (fun m => ts.contains m.t.val)
    let a := agreement l
    let good := !l.isEmpty && a.2.2.length == l.length
    let s := s.forEach ts (fun t u =>
      if good then scpMember t 0x49 p (commitBytes a.1 pre.c a.2.1) u else scpMember t 0x48 p [1, 0, 0, 0] u)
    let mask := fun (l : List Nat) => (l.map (2 ^ ·)).sum
    proxyAnswer (proxyFrom ip port pre op (ownT s) false (proxyReplyTo r stOk s.fet
      (leBytes (if good then stOk else stBadParam) 2 ++ leBytes (mask a.2.2) 1 ++ leBytes (mask (l.map (·.t.val))) 1
        ++ leBytes a.1 2 ++ leBytes 0 2 ++ a.2.1.take 32))) s) s

/-! ### The standby's watch and takeover (R504, R505) -/

/-- The module watches the manager it follows: ACT 2, and a manager named. -/
def watching (s : State) : Bool := s.get F.CHT_MGR_STATUS_ACT == 2 && s.flag F.CHT_MGR_FOLLOW_VALID

/-- A Firefly of the manager followed has arrived: the standby's count clears, and the next is due 100 µs after its TX_FET
(R504). [log 123 DEDUCED] -/
def fireflyHeard (txFet : Fet) (s : State) : State :=
  let s := s.set F.CHT_MGR_STATUS_MISSED 0
  { s with mgr := { s.mgr with missDue := some (txFet + 102000) } }

/-- FIREFLY_RECEIVE (R300, R302, R504): any good frame shows that the partner lives; one of the manager followed, on a T
port, is heard by the standby. -/
def fireflyReceive (n : Nat) (hdr : Frame) (fr : FireflyFrame) (s : State) : State :=
  receiveFrame n hdr (fun h => h.cls == 4) (fun s =>
    if watching s && decide (n < 32) && fr.coord == s.get F.CHT_MGR_FOLLOW_COORD then fireflyHeard fr.txFet s else s) s

/-- The next Firefly of the manager followed is not overdue yet (R504). [log 123 DEDUCED] -/
def missEarly (s : State) : Bool := s.mgr.missDue.any (fun t => decide (s.fet < t))

/-- A miss counts; the next would 100 µs later (R504). [log 123 DEDUCED] -/
def countMiss (s : State) : State :=
  let due := s.mgr.missDue.getD s.fet + 100000
  let s := s.set F.CHT_MGR_STATUS_MISSED (min 255 (s.get F.CHT_MGR_STATUS_MISSED + 1))
  { s with mgr := { s.mgr with missDue := some due } }

/-- FIREFLY_MISS: each third miss in a row reads the manager's CHT_MGR_STATUS. -/
def fireflyMiss (s : State) : State :=
  if !(watching s && chitinRuns s) || missEarly s then s else
  let s := countMiss s
  if s.get F.CHT_MGR_STATUS_MISSED = 3 then s.emit (.memberRead (coordAxis (s.get F.CHT_MGR_FOLLOW_COORD) 0) R.CHT_MGR_STATUS) else s

/-- The takeover notice (R505). -/
def takeoverNotice (s : State) (old : Nat) : Output :=
  .datagram (s.rd R.CHT_MGR_FAC_ADDR) (s.get F.CHT_MGR_FAC_PORT_PORT)
    (leBytes (ownCoord s) 3 ++ [0] ++ leBytes old 3 ++ [0] ++ leBytes s.fet 8 ++ leBytes 0 16)

/-- A module follows another: its CHT_MGR_FOLLOW, in flash too. -/
def setFollow (coord : Nat) (s : State) : State := storeMgr 0x118 (s.wr R.CHT_MGR_FOLLOW (BitVec.ofNat 32 (2 ^ 31 + coord)))

/-- The drive of the lost manager goes on from each member's STEP_DONE (R505): D4 for those below 6, else D5.
[log 123 DEDUCED] -/
def resumeDrive (l : List MemberReply) (s : State) : State :=
  let open_ := l.filter (fun m => decide (memberStep m < 10) && !memberFail m)
  if open_.isEmpty then s else
  let low := open_.filter (fun m => decide (memberStep m < 6))
  let ts := (if low.isEmpty then open_ else low).map (·.t.val)
  let s := { s.set F.CHT_MGR_STATUS_DRIVING 1 with mgr := { s.mgr with abort := false, commitSent := false, driven := open_.map (·.t.val) } }
  if low.isEmpty then toPhase 5 (sendGo 10 ts s) else toPhase 4 (sendGo 6 ts s)

/-- The standby takes over. [log 123 DEDUCED] -/
def takeOver (members : List MemberReply) (s : State) : State :=
  let old := s.get F.CHT_MGR_FOLLOW_COORD
  let s := ((s.set F.CHT_MGR_STATUS_ACT 4).set F.CHT_MGR_STATUS_TAKEOVER 1).set F.CHT_MGR_STATUS_MISSED 0
  let s := if (selected s).1 = 1 then loseSelected s else s
  let s := { setFollow (ownCoord s) s with mgr := { s.mgr with strapped := old, pollDue := s.fet } }
  let l := answered s members
  let s := s.forEach ((l.map (·.t.val)).filter (· != ownT s)) (fun t u =>
    u.emit (.memberWrite t R.CHT_MGR_FOLLOW (BitVec.ofNat 32 (2 ^ 31 + ownCoord s))))
  let s := (l.filter (fun m => !m.cfgStatus0.getLsbD 15)).foldl (fun u m => scpMember m.t.val 0x48 0 [1, 0, 0, 0] u) s
  resumeDrive l (s.emit (takeoverNotice s old))

/-- STANDBY_TAKEOVER: a reply of ACT 1 stops it. -/
def standbyTakeover (reply : Option Nat) (members : List MemberReply) (s : State) : State :=
  if !(watching s && chitinRuns s && decide (3 ≤ s.get F.CHT_MGR_STATUS_MISSED)) then s
  else if reply = some 1 then note 5 0 R.CHT_MGR_STATUS (s.set F.CHT_MGR_STATUS_MISSED 0)
  else takeOver members s

/-! ### Yielding and handback (R492, R494, R506) -/

/-- A standby that gives up its role to another takes ACT 0 (R492). [log 123 DEDUCED] -/
def yieldStandby (s : State) : State :=
  note 5 0 R.CHT_MGR_STATUS ((s.set F.CHT_MGR_STATUS_ACT 0).set F.CHT_MGR_STATUS_CONFLICT 1)

/-- MANAGER_YIELD: the standby acts already, a module strapped the same has a lower SLOT_ID, or a condition of R494. -/
def managerYield (standbyAct rivalSlot : Option Nat) (portsLost : Bool) (s : State) : State :=
  let rival := rivalSlot.any (fun k => decide (k < s.get F.CHT_STRAP_SLOT_ID))
  if !s.boot.powered then s
  else if s.get F.CHT_MGR_STATUS_ACT = 1 then
    if standbyAct = some 4 ∨ rival ∨ portsLost ∨ s.boot.inputLost ∨ locked s then yieldRole s else s
  else if s.get F.CHT_MGR_STATUS_ACT = 2 ∧ rival then yieldStandby s
  else s

/-- HANDBACK: the write, and what its HANDBACK bit does in ACT 4. [log 123 DEDUCED] -/
def handback (via : Path) (w : Word) (strappedAct : Option Nat) (yieldCond : Bool) (members : List MemberReply) (s : State) : State :=
  if !pathUp s via || latchOnly s via || filtered s via true R.CHT_MGR_CTRL then busWrite via R.CHT_MGR_CTRL 4 w.toNat true s else
  let s := busWrite via R.CHT_MGR_CTRL 4 w.toNat true s
  if !(w.getLsbD 2 && s.get F.CHT_MGR_STATUS_ACT == 4) then s
  else if strappedAct = some 5 ∧ !yieldCond then
    let coord := s.mgr.strapped
    let s := s.forEach ((members.map (·.t.val)).filter (· != ownT s)) (fun t u =>
      u.emit (.memberWrite t R.CHT_MGR_FOLLOW (BitVec.ofNat 32 (2 ^ 31 + coord))))
    endDrive ((setFollow coord s).set F.CHT_MGR_STATUS_ACT 2)
  else regNote via true 5 R.CHT_MGR_CTRL s

/-! ### Management-class frames (R539, Table 09.5) -/

/-- The registers an operation names: offset of the first, how many. -/
def regCount (payload : List Byte) : Nat := leAt payload 1 1 % 16 + 1

/-- The reply body of a management operation: OP with bit 7, the count, the status, the offset, the values. -/
def mgmtReply (op count status off : Nat) (values : List Nat) : List Byte :=
  leBytes (op + 128) 1 ++ leBytes (count - 1) 1 ++ leBytes status 2 ++ leBytes off 4 ++ leBytes 0 8 ++ values.flatMap (fun v => leBytes v 4)

/-- Reads registers one after another: the values, the highest access status, the state. [log 124 DEDUCED] -/
def readRun (via : Path) : Nat → Nat → State → List Nat × State
  | _, 0, s => ([], s)
  | off, k + 1, s =>
    let x := readReg via off 4 s
    let y := readRun via (off + 4) k x.2.2
    (x.1 :: y.1, y.2)

/-- Writes registers one after another. [log 124 DEDUCED] -/
def writeRun (via : Path) : Nat → List Nat → State → State
  | _, [], s => s
  | off, v :: l, s => writeRun via (off + 4) l (writeReg via off 4 v true s).2

/-- A management payload carried out: the reply body and the state. Another OP is a bad parameter. [log 124 DEDUCED] -/
def mgmtOperate (via : Path) (p : List Byte) (s : State) : List Byte × State :=
  let op := leAt p 0 1
  let n := regCount p
  let off := leAt p 4 4
  if op = 1 then let x := readRun via off n s; (mgmtReply 1 n stOk off x.1, x.2)
  else if op = 2 then (mgmtReply 2 n stOk off [], writeRun via off ((List.range n).map (fun k => leAt p (16 + 4 * k) 4)) s)
  else (mgmtReply (op % 128) n stBadParam off [], s)

/-- The pad of a payload to whole 128 B units. -/
def padUnit (l : List Byte) : List Byte := l ++ List.replicate ((128 - l.length % 128) % 128) 0

/-- A reply leaves toward the frame's source: on the port it routes to. -/
def replyFrame (n : Nat) (fr : Frame) (body : List Byte) (s : State) : State :=
  let out := mkFrame s 7 0 0 fr.src 5 (padUnit body)
  match routeFrame s out none with
  | some (m, dl) => enqueue m { out with dl := dl } s
  | none => raiseFault (frameEvent 0x0405 n out) (snlErr n 6 0 0 (s.count (F.SNL_DROP_CNT1_ROUTE n) 1))

/-- MANAGEMENT_FRAME_RECEIVE: a request from the followed manager or the standby is carried out; from elsewhere DENIED. -/
def managementFrame (n : Nat) (fr : Frame) (s : State) : State :=
  receiveFrame n fr (fun fr => fr.cls == 7 && decide (leAt fr.payload 0 1 < 128)) (fun s =>
    let from_ := fr.src / 8
    if !chitinRuns s then s
    else if !snlAccepted s from_ then
      replyFrame n fr (mgmtReply (leAt fr.payload 0 1) (regCount fr.payload) stDenied (leAt fr.payload 4 4) []) s
    else
      let x := mgmtOperate (.snl (BitVec.ofNat 17 from_)) fr.payload s
      replyFrame n fr x.1 x.2) s

/-! ### Meanings -/

def execDrivePhaseComplete (members : List MemberReply) (expired : Bool) (s : State) : Host.Outcome State Fault Refusal :=
  .next (drivePhase members expired s)

def execHealthPoll (members : List MemberReply) (s : State) : Host.Outcome State Fault Refusal := .next (healthPoll members s)

def execProxyForward (ip : Word) (port : BitVec 16) (pre : ProxyPrefix) (opcode : BitVec 8) (r : Request) (replies : List ScpReply)
    (s : State) : Host.Outcome State Fault Refusal := .next (proxyForward ip port.toNat pre opcode.toNat r replies s)

def execProxyRingCommit (ip : Word) (port : BitVec 16) (pre : ProxyPrefix) (opcode : BitVec 8) (r : Request)
    (members : List MemberReply) (s : State) : Host.Outcome State Fault Refusal :=
  .next (ringCommit ip port.toNat pre opcode.toNat r members s)

def execFireflyReceive (n : Fin 64) (hdr : Frame) (fr : FireflyFrame) (s : State) : Host.Outcome State Fault Refusal :=
  .next (fireflyReceive n hdr fr s)

def execFireflyMiss (s : State) : Host.Outcome State Fault Refusal := .next (fireflyMiss s)

def execStandbyTakeover (reply : Option (Fin 8)) (members : List MemberReply) (s : State) : Host.Outcome State Fault Refusal :=
  .next (standbyTakeover (reply.map (·.val)) members s)

def execManagerYield (standbyAct : Option (Fin 8)) (rivalSlot : Option (Fin 64)) (portsLost : Bool) (s : State) :
    Host.Outcome State Fault Refusal :=
  .next (managerYield (standbyAct.map (·.val)) (rivalSlot.map (·.val)) portsLost s)

def execHandback (via : Path) (value : Word) (strappedAct : Option (Fin 8)) (yieldCond : Bool) (members : List MemberReply)
    (s : State) : Host.Outcome State Fault Refusal :=
  .next (handback via value (strappedAct.map (·.val)) yieldCond members s)

def execManagementFrameReceive (n : Fin 64) (fr : Frame) (s : State) : Host.Outcome State Fault Refusal :=
  .next (managementFrame n fr s)

end Sys2Proof.Machine
end

