-- ==== Sys2Proof/Machine/External.lean ====
section
/-!
DEFINITION. Machine/External.lean: the external interfaces (17_connector_and_pins R521-R533): register-access datagrams, ARP
and ICMP, PCI Express resets, the rack bus, boundary scan, and the loss of Chitin's rail (15_faults_and_silent_errors R474).
-/
namespace Sys2Proof.Machine

/-! ### Management port (R431, R525) -/

/-- REG_ACCESS_DATAGRAM: a management payload with the rights of the physical function; the reply goes to its source.
[log 124 DEDUCED] -/
def regDatagram (ip : Word) (port : BitVec 16) (payload : List Byte) (s : State) : State :=
  let via := Path.datagram ip port
  if !pathUp s via || decide (payload.length < 16) || decide (128 ≤ leAt payload 0 1) then s
  else
    let x := mgmtOperate via payload s
    x.2.emit (.datagram ip port.toNat x.1)

/-- ARP_ICMP_REQUEST: answered at the module's own address, unless the frame carries an IEEE 802.1Q tag.
[log 54 DEDUCED] -/
def arpIcmp (icmp : Bool) (addr : Word) (tagged : Bool) (s : State) : State :=
  if chitinRuns s && !tagged && addr == viewWord s .rackBus R.CHT_MGMT_BASE then s.emit (.arpIcmp icmp addr) else s

/-! ### PCI Express (R527) -/

/-- A queue page is disabled. [log 49 PRESUMED] -/
def disableQueue (ep q : Nat) (s : State) : State := s.set (F.CHT_Q_CFG_EN ep q) 0

/-- The MSI-X window of a function returns to reset. [log 48 PRESUMED, 49 PRESUMED] -/
def resetMsix (ep fn : Nat) (s : State) : State := s.resetRegs (msixBase ep fn) (msixBase ep fn + 0x2000)

/-- The function of an endpoint that queue page q belongs to: VF q where it is enabled there, else the PF (R353, R370).
[log 50 DEDUCED] -/
def pageFn (s : State) (ep q : Nat) : Nat := if vfEnabled s ep q then q else 0

/-- A function-level reset. [log 49 PRESUMED] -/
def functionReset (ep fn : Nat) (s : State) : State :=
  resetMsix ep fn (s.forEach ((List.range 8).filter (fun q => pageFn s ep q == fn)) (disableQueue ep))

/-- The PERST_L pin of an endpoint. -/
def perstPin (ep : Nat) : Fld := if ep = 0 then F.CHT_PIN_STATUS_PE0_PERST_L else F.CHT_PIN_STATUS_PE1_PERST_L

/-- PERST_ASSERT: the endpoint is in reset, its queues disabled. [log 49 PRESUMED] -/
def perstAssert (ep : Nat) (s : State) : State :=
  if !s.boot.powered then s else
  (s.set (perstPin ep) 0).forEach (List.range 8) (fun q t => resetMsix ep q (disableQueue ep q t))

/-- PERST_RELEASE. -/
def perstRelease (ep : Nat) (s : State) : State := if s.boot.powered then s.set (perstPin ep) 1 else s

/-! ### Rack bus (R528-R531) -/

/-- The interface is there: Chitin's rail, and CHT_SMB_CFG.EN. -/
def busUp (s : State) : Bool := pathUp s .rackBus

/-- REG_READ: status and value; in lock the latch serves four registers and gives the others status 1.
[log 44 DEDUCED, 45 DEDUCED] -/
def busRegRead (off : Word) (s : State) : State :=
  if !busUp s then s
  else if locked s then
    if latchReads off.toNat then
      let x := readHere .rackBus off.toNat s
      x.2.emit (.rackStatus 0 (leBytes x.1.toNat 4))
    else
      let x := s.free
      x.2.emit (.rackStatus 1 (leBytes x.1.toNat 4))
  else
    let x := readReg .rackBus off.toNat 4 s
    x.2.2.emit (.rackStatus x.2.1 (leBytes x.1 4))

/-- REG_WRITE: the status is kept for LAST_STATUS; a write whose PEC fails is discarded and counted.
[log 44 DEDUCED, 45 DEDUCED] -/
def busRegWrite (off value : Word) (pecOk : Bool) (s : State) : State :=
  if !busUp s then s
  else if !pecOk then s.count F.CHT_SMB_CFG_PEC_ERRS 1
  else if locked s then { s with bus := { s.bus with lastStatus := 2 } }
  else
    let x := writeReg .rackBus off.toNat 4 value.toNat true s
    { x.2 with bus := { x.2.bus with lastStatus := x.1 } }

/-- SUMMARY: CHT_STATUS, FLT_STATUS, PWR_DRAW, FLT_LOCK; the read of PWR_DRAW clears its peak. [log 45 DEDUCED] -/
def busSummary (s : State) : State :=
  if !busUp s then s else
  let v := fun off => leBytes (viewWord s .rackBus off &&& readMask off).toNat 4
  let data := v R.CHT_STATUS ++ v R.FLT_STATUS ++ v R.PWR_DRAW ++ v R.FLT_LOCK
  (s.set F.PWR_DRAW_PEAK 0).emit (.rackStatus 0 data)

/-- LAST_STATUS: the status of the last REG_WRITE, 2 of one that the latch refused in lock (R529, R531).
[log 45 DEDUCED] -/
def busLastStatus (s : State) : State := if busUp s then s.emit (.rackStatus s.bus.lastStatus []) else s

/-- ALERT_RESPONSE: the module's own address while it drives ALERT_L and ARA_EN is set. [log 45 DEDUCED] -/
def alertResponse (s : State) : State :=
  if busUp s && !locked s && s.flag F.CHT_SMB_CFG_ARA_EN && alertDriven s then s.emit (.ara (0x50 + s.get F.CHT_STRAP_SLOT_ID % 16)) else s

/-- SMBUS_TIMEOUT: the bus is released and the interface reset. [log 45 DEDUCED] -/
def smbusTimeout (s : State) : State :=
  if busUp s then { s.count F.CHT_SMB_CFG_TIMEOUTS 1 with bus := { s.bus with lastStatus := 0 } } else s

/-! ### Boundary scan (R532) -/

/-- The module is in the Chitin-only state (R512). [log 125 DEDUCED] -/
def chitinOnly (s : State) : Bool := s.boot.powered && decide (stepDone s ≤ 1) && !locked s

/-- An instruction that drives pins. -/
def drivesPins : TapIr → Bool
  | .extest | .clamp | .highz => true
  | _ => false

/-- The word IDCODE shifts out (R532). -/
def tapId (ir : TapIr) : Option Word := if ir = .idcode then some 0x0088a0b3 else none

/-- TAP_INSTRUCTION: in any state but Chitin-only, BYPASS in place of what would drive pins, and a class 0 note.
[log 125 DEDUCED] -/
def tapLoad (ir : TapIr) (s : State) : State :=
  if !s.boot.powered || locked s then s
  else if drivesPins ir && !chitinOnly s then
    note 5 0 0 { s with bus := { s.bus with tapIr := .bypass, tapDriving := false } }
  else ({ s with bus := { s.bus with tapIr := ir, tapDriving := drivesPins ir } } : State).emit (.tap ir (tapId ir))

/-- TAP_RESET: Test-Logic-Reset, every pin released. [log 125 DEDUCED] -/
def tapReset (s : State) : State := { s with bus := { s.bus with tapIr := .idcode, tapDriving := false } }

/-! ### Meanings -/

def execRegAccessDatagram (ip : Word) (port : BitVec 16) (payload : List Byte) (s : State) : Host.Outcome State Fault Refusal :=
  .next (regDatagram ip port payload s)

def execArpIcmpRequest (icmp : Bool) (addr : Word) (tagged : Bool) (s : State) : Host.Outcome State Fault Refusal :=
  .next (arpIcmp icmp addr tagged s)

def execPerstAssert (ep : Fin 2) (s : State) : Host.Outcome State Fault Refusal := .next (perstAssert ep s)

def execPerstRelease (ep : Fin 2) (s : State) : Host.Outcome State Fault Refusal := .next (perstRelease ep s)

def execFunctionLevelReset (ep : Fin 2) (fn : Fin 8) (s : State) : Host.Outcome State Fault Refusal := .next (functionReset ep fn s)

def execRegRead (off : Word) (s : State) : Host.Outcome State Fault Refusal := .next (busRegRead off s)

def execRegWrite (off : Word) (value : Word) (pecOk : Bool) (s : State) : Host.Outcome State Fault Refusal :=
  .next (busRegWrite off value pecOk s)

def execSummary (s : State) : Host.Outcome State Fault Refusal := .next (busSummary s)

def execLastStatus (s : State) : Host.Outcome State Fault Refusal := .next (busLastStatus s)

def execAlertResponse (s : State) : Host.Outcome State Fault Refusal := .next (alertResponse s)

def execSmbusTimeout (s : State) : Host.Outcome State Fault Refusal := .next (smbusTimeout s)

def execTapInstruction (ir : TapIr) (s : State) : Host.Outcome State Fault Refusal := .next (tapLoad ir s)

def execTapReset (s : State) : Host.Outcome State Fault Refusal := .next (tapReset s)

def execChitinRailLoss (s : State) : Host.Outcome State Fault Refusal := .next (railLoss s)

end Sys2Proof.Machine
end

