-- ==== Sys2Proof/Machine/Rerun.lean ====
section
/-!
DEFINITION. Machine/Rerun.lean: what follows a class 2 fault (15_faults_and_silent_errors R475-R487): the rerun at the end
of the pass, the classification of each fault, cell re-route and field re-place, generation across the box.
-/
namespace Sys2Proof.Machine

/-! ### The rerun (R477) -/

/-- The record at an index. -/
def recordOf (s : State) (idx : Nat) : Option FaultRec := s.log.recs.find? (fun r => r.index == idx)

/-- Every field of p that serves it has reached the end of its pass, in a step with class 2 records (R477).
[log 117 DEDUCED, 119 DEDUCED] -/
def rerunDue (s : State) (p : Nat) : Bool :=
  let d := s.part p
  p != 0 && !d.rerunRecs.isEmpty && !d.rerun && planStarted s p
    && (partServing s p).all (fun f => s.flag (F.FLD_STATUS_STARTED f) && atBundle0 s f && (s.fieldD f).base == d.stepBase)

/-- The source of a scratchpad word of field f (R121): the tier it was last loaded from, else the step-boundary
state. [log 118 DESIGN CHOICE] -/
def sourceWord (s : State) (f : Nat) (c : CellState) (k : Nat) : Word :=
  match AMap.get (fun _ => none) c.spSrc k with
  | some (2, a) => BitVec.ofNat 32 (leAt (Mem.rdN (s.fieldD f).tierN a 4) 0 4)
  | some (_, a) =>
    let v := vaultOf f
    BitVec.ofNat 32 (leAt (plainUnit (s.vault v) v (a / 256) ((tierCKey s v (ownerOf s f)).getD [])) (a % 256) 4)
  | none => AMap.get (fun _ => 0) c.spBase k

/-- The failing words of the row and of the column that a parity record names are rewritten from their source (R121).
[log 69 DEDUCED, 118 DESIGN CHOICE] -/
def rewriteWord (r : FaultRec) (s : State) : State :=
  if r.ev.code ≠ 0x0101 then s else
  let f := r.ev.collector
  let a := r.ev.addr / 64
  let column := (List.range 64).map (wordKey (64 * (a / 64) + r.ev.addr % 64) true)
  s.forEach ((List.range 64).map (wordKey a false) ++ column) (fun k s =>
    let c := s.cell f r.ev.inst
    if k ≠ r.ev.addr ∧ spFail c k = 0 then s else
    s.setCell f r.ev.inst { c with
      sp := AMap.put (fun _ => 0) c.sp k (sourceWord s f c k)
      spBad := AMap.put (fun _ => 0) c.spBad k 0
      spInj := setDel k c.spInj })

/-- A Tier N unit found uncorrectable is rewritten from its source, of which it held a copy (R252).
[log 118 DESIGN CHOICE] -/
def rewriteUnit (r : FaultRec) (s : State) : State :=
  if r.ev.code ≠ 0x0302 then s else
  let f := r.ev.collector
  let u := r.ev.addr / 256
  if !(s.fieldD f).tnEcc.contains u then s
  else tnWrite f u (bytesAcc (Mem.rdN (s.fieldD f).tierN (256 * u) 256) false) s

/-- The listed Tier N units of a field are rewritten with +0 and its list is cleared (R477). -/
def repairField (f : Nat) (s : State) : State :=
  let s := (s.fieldD f).poison.foldl (fun t u => tnWrite f u (List.replicate 64 {}) t) s
  s.setField f { s.fieldD f with poison := [] }

/-- RERUN: the repair; the repeat checks of its records then run. -/
def rerunStart (p : Nat) (s : State) : State :=
  if !rerunDue s p then s else
  let d := s.part p
  let recs := d.rerunRecs.filterMap (recordOf s)
  let lanes := recs.foldl (fun m r => m ||| r.ev.lanes) 0
  let units := ((partServing s p).map (fun f => (s.fieldD f).poison.length)).sum
  let s := s.forEach (partServing s p) repairField
  let s := recs.foldl (fun t r => rewriteUnit r (rewriteWord r t)) s
  let s := (s.set (F.FLT_RERUN_LANES p) lanes).set (F.FLT_RERUN_EZERO p) (min 4095 units)
  let s := markStep p (fun k => { k with lanes := lanes }) s
  s.setPart p { s.part p with rerun := true }

/-! ### Classification (R478, Table 15.7) -/

/-- The recurrence a record makes in the step its partition is in. [log 117 DEDUCED] -/
def recurrence (s : State) (r : FaultRec) : Recurrence :=
  ⟨r.ev.part, (s.part r.ev.part).stepNo, r.ev.code, r.ev.collector, r.ev.inst, r.ev.unitType, r.ev.addr, r.ev.op0⟩

/-- The earlier faults of the same unit: same code, field and instance, within the last WINDOW steps.
[log 117 DEDUCED] -/
def recurrences (s : State) (h : Recurrence) : List Recurrence :=
  s.log.history.filter (fun x => x.part == h.part && x.field == h.field && x.inst == h.inst && x.unit == h.unit
    && x.code == h.code && decide (h.step < x.step + s.get F.FLT_CFG_WINDOW) && decide (x.step ≤ h.step))

/-- The faults of a unit showed in so many different steps. -/
def stepsHit (l : List Recurrence) : Nat := (l.map (·.step)).eraseDups.length

/-- The verdict of Table 15.7 on a record: permanent or not. `again`: the check the row asks for failed.
[log 117 DEDUCED] -/
def permanentNow (s : State) (r : FaultRec) (again : Bool) : Bool :=
  let h := recurrence s r
  let l := recurrences s h
  match r.ev.code with
  | 0x0101 | 0x0108 | 0x0109 | 0x0202 | 0x0203 | 0x0302 => again
  | 0x0102 | 0x0103 | 0x0104 => again || decide (2 ≤ stepsHit l)
  | 0x0501 => decide (3 ≤ l.length)
  | 0x0105 | 0x0106 | 0x0107 =>
    let every := fun (same : Recurrence → Bool) => decide (s.get F.FLT_CFG_WINDOW ≤ stepsHit (l.filter same))
    every (fun x => x.tag == h.tag) || every (fun x => x.slot == h.slot)
  | _ => false

/-- The record is marked, and the partition's counts (FLT_RERUN). -/
def markRecord (p idx : Nat) (perm : Bool) (s : State) : State :=
  let s := editRecord idx (fun r => { r with permanent := perm, transient := !perm }) s
  s.count (if perm then F.FLT_RERUN_PERMANENT p else F.FLT_RERUN_TRANSIENT p) 1

/-! ### Permanent faults (R479, R485, R486) -/

/-- A defect entry of origin 2, and the class 3 PERMANENT record of the partition, linked with the record it follows. The
index of the PERMANENT record. -/
def permanentRecord (type loc : Nat) (r : FaultRec) (s : State) : Nat × State :=
  let s := storeDefect { type := type, origin := 2, loc := loc, time := defectTime s } s
  let x := raiseAs 3 (rampLimit s) true { code := 0x0606, part := r.ev.part, collector := r.ev.collector
                                          unitType := r.ev.unitType, inst := r.ev.inst, link := r.index
                                          detail := [type, 0] ++ leNats loc 2 } s
  let i := if x.1 ≤ r.index then r.index + 1 else r.index
  (x.1, editRecord i (fun y => { y with ev := { y.ev with link := x.1 } }) x.2)

/-- A field is lost (R352, R486): its Scarab's roles go on (R366), a creation that names it fails (R349), it is marked failed,
the family variant is bound (R185) or NO_VARIANT raised, a map update makes it a hole. [log 79 DEDUCED] -/
def rePlace (f rec : Nat) (s : State) : State :=
  let p := ownerOf s f
  let s := handOver f s
  let s := failField f (if partState s p = 1 then failCreate p s else s)
  let rest := partServing s p
  let s :=
    if p = 0 ∨ !(rest.any (fun g => s.flag (F.FLD_STATUS_BOUND g))) then s
    else if rest.all (fun g => hasVariant s g (maskOf rest)) then bindVariant p (2 ^ f) s
    else raiseFault { code := 0x0607, part := p, collector := f, unitType := 20, link := rec } s
  postMap { part := p, fieldOk := [(f, false)], gens := [p], record := rec } s

/-- A map update that has not taken effect gives the reserve at a position a logical cell (R31: at most one).
[log 79 DEDUCED] -/
def reserveTaken (s : State) (f pos : Nat) : Bool :=
  (s.mesh.shadow.toList ++ s.mesh.waiting).any (fun m => m.l2p.any (fun e => e.1 / 64 == f && e.2 == pos))

/-- The reserve that takes over from a failed cell (R441): idle and promised to none, of the cell's own cluster first. -/
def reserveFor (s : State) (f pos : Nat) : Option Nat :=
  let idle := (List.range 72).filter (fun q => isReservePos q && s.get (F.CEL_STATUS_ROLE f q) == 1 && !reserveTaken s f q)
  (idle.find? (fun q => clusterOf (q % 8) (q / 8) == clusterOf (pos % 8) (pos / 8))).orElse (fun _ => idle.head?)

/-- A cell re-route (R214, R485); without a passed idle reserve the field is lost. [log 117 DEDUCED] -/
def reRoute (f pos rec : Nat) (s : State) : State :=
  if s.get (F.CEL_STATUS_ROLE f pos) ≠ 0 then s.set (F.CEL_STATUS_ROLE f pos) 2
  else match reserveFor s f pos with
    | none => rePlace f rec (s.set (F.CEL_STATUS_ROLE f pos) 2)
    | some q =>
      let l := logicalId s f pos
      let p := ownerOf s f
      let s := startZero f q (s.set (F.CEL_STATUS_ROLE f pos) 2)
      postMap { part := p, l2p := [(l, q)], gens := [p], copies := [(f, pos, q)], record := rec } s

/-- The west or north router of the link at a router's input, and whether it is an east (0) or south (1) link: LOC of a
type 4 entry (Table 14.3). None for an input that is no mesh link. -/
def linkLoc (f pos port : Nat) : Option Nat :=
  let x := globalX f pos
  let y := globalY f pos
  let phys := fun (x y : Nat) => (routerAt x y).map (fun r => 72 * r.1 + r.2)
  match port with
  | 0 => if y = 0 then none else (phys x (y - 1)).map (fun c => 8 * c + 1)
  | 1 => some (8 * (72 * f + pos))
  | 2 => some (8 * (72 * f + pos) + 1)
  | 3 => if x = 0 then none else (phys (x - 1) y).map (fun c => 8 * c)
  | _ => none

/-- A permanent mesh link (R478): the field that the entry maps out is re-placed. [log 105 DEDUCED] -/
def permanentLink (r : FaultRec) (s : State) : State :=
  let f := r.ev.collector
  match linkLoc f r.ev.inst r.ev.port with
  | some loc =>
    let x := permanentRecord 4 loc r s
    rePlace ((mapsOut { type := 4, origin := 2, loc := loc, time := 0 }).getD f) x.1 x.2
  | none =>
    let x := permanentRecord 1 f r s
    rePlace f x.1 x.2

/-- A permanent Tier N unit (R478): retired; after four in a channel the field is re-placed. [log 105 DEDUCED] -/
def permanentUnit (r : FaultRec) (s : State) : State :=
  let f := r.ev.collector
  let u := r.ev.addr / 256
  let x := permanentRecord 7 (16 * f + u % 16) r s
  let d := x.2.fieldD f
  let s := x.2.setField f { d with retired := setAdd u d.retired, tnEcc := setDel u d.tnEcc }
  if 4 ≤ ((s.fieldD f).retired.filter (fun v => v % 16 == u % 16)).length then rePlace f x.1 s else s

/-- What a permanent classification does (Table 15.7, R479). [log 105 DEDUCED] -/
def permanentAction (r : FaultRec) (s : State) : State :=
  let f := r.ev.collector
  match r.ev.code with
  | 0x0101 | 0x0102 | 0x0103 | 0x0104 | 0x0108 =>
    let x := permanentRecord 3 (72 * f + r.ev.inst) r s
    reRoute f r.ev.inst x.1 x.2
  | 0x0109 =>
    let s := storeDefect { type := 3, origin := 2, loc := 72 * f + r.ev.inst, time := defectTime s } s
    noteAt 5 r.ev.part f r.ev.unitType r.ev.inst (s.set (F.CEL_STATUS_ROLE f r.ev.inst) 2)
  | 0x0202 | 0x0203 => permanentLink r s
  | 0x0302 => permanentUnit r s
  | 0x0501 =>
    let x := if r.ev.inst < 8 then permanentRecord 2 (8 * f + r.ev.inst) r s else permanentRecord 1 f r s
    rePlace f x.1 x.2
  | 0x0105 | 0x0106 | 0x0107 =>
    raiseFault { code := 0x060a, part := r.ev.part, collector := f, unitType := r.ev.unitType, inst := r.ev.inst
                 addr := r.ev.addr, op0 := r.ev.op0, link := r.index } s
  | _ => s

/-- The reread of a rewritten word (R121, R478): a check that fails again finds a half-word upset; the fault repeats where
the word of the same bank and offset fails its parity. The other records keep the outcome of their check.
[log 118 DESIGN CHOICE] -/
def reread (r : FaultRec) (again : Bool) (s : State) : Bool × State :=
  if r.ev.code ≠ 0x0101 then (again, s) else
  let f := r.ev.collector
  let s := if again then
      let (w, s) := s.free
      s.setCell f r.ev.inst (upsetHalf r.ev.addr 0 w { s.cell f r.ev.inst with wrote := [] })
    else s
  (spFail (s.cell f r.ev.inst) r.ev.addr != 0, s)

/-- The record leaves the rerun; after the last one the STEP bundles held may go on (R477). -/
def endCheck (p idx : Nat) (s : State) : State :=
  let d := s.part p
  let l := d.rerunRecs.filter (· != idx)
  if !d.rerunRecs.contains idx then s
  else if l.isEmpty then
    let s := s.setPart p { d with rerunRecs := [], rerun := false }
    s.forEach ((partServing s p).filter (fun f => s.flag (F.FLD_STATUS_STARTED f))) arrive
  else s.setPart p { d with rerunRecs := l }

/-- The repeat check of a fault runs sentinel tiles on its cell (Table 15.7). -/
def checksByTiles (code : Nat) : Bool := (decide (0x0102 ≤ code) && decide (code ≤ 0x0104)) || code == 0x0108 || code == 0x0109

/-- A record whose repeat check can end: one of a rerun in progress, or of a reserve (R478, R480). -/
def checkable (s : State) (r : FaultRec) : Bool :=
  !r.permanent && !r.transient
    && (((s.part r.ev.part).rerun && (s.part r.ev.part).rerunRecs.contains r.index) || r.ev.code == 0x0109)

/-- REPEAT_CHECK_COMPLETE: the fault is classified; an inversion that is armed acted in the check's tiles (R124, R480). -/
def repeatCheck (idx : Nat) (again : Bool) (s : State) : State :=
  match recordOf s idx with
  | none => s.forEach ([1, 2, 3, 4, 5, 6, 7].filter (fun p => (s.part p).rerun)) (fun p t => endCheck p idx t)
  | some r =>
    if !checkable s r then s else
    let p := r.ev.part
    let h := recurrence s r
    let s := { s with log := { s.log with
      history := s.log.history.filter (fun x => x.part != p || decide (h.step < x.step + 255)) ++ [h] } }
    let (again, s) := reread r again s
    let perm := permanentNow s r again
    let s := markRecord p idx perm s
    let s := endCheck p idx (if perm then permanentAction r s else s)
    if checksByTiles r.ev.code then sentinelResidue r.ev.collector r.ev.inst s else s

/-! ### Generation across the box (R487) -/

/-- A GEN that another module's update announced takes effect, and the drain window opens. -/
def genApply (e : Nat × Nat × Fet) (s : State) : State := openDrain [e.1] (s.set (F.MSH_GEN_GEN e.1) e.2.1)

/-- Generations whose FET has come. [log 3 DESIGN CHOICE, 115 DEDUCED] -/
def genDue (s : State) : State :=
  let due := s.log.genPending.filter (fun e => decide (e.2.2 ≤ s.fet))
  if due.isEmpty then s else
  due.foldl (fun t e => genApply e t)
    { s with log := { s.log with genPending := s.log.genPending.filter (fun e => !decide (e.2.2 ≤ s.fet)) } }

/-! ### Notices (R471, R487) -/

/-- A notice acted on already, or the module's own come back. [log 115 DEDUCED] -/
def noticeSeen (s : State) (n : Notice) : Bool := n.origin == ownCoord s || s.log.seenNotices.contains (n.kind, n.origin, n.index)

/-- A notice is recorded as seen, and forwarded on its groups but the one it came on. [log 115 DEDUCED] -/
def forwardNotice (port : Nat) (n : Notice) (s : State) : State :=
  let s := { s with log := { s.log with seenNotices := s.log.seenNotices ++ [(n.kind, n.origin, n.index)] } }
  sendNotice n (some (groupOf port)) s

/-- A tenant partition a notice names. -/
def noticePart (n : Notice) : Bool := decide (1 ≤ n.part) && decide (n.part ≤ 7)

/-- QUENCH_NOTICE_RECEIVE: KIND 0. -/
def quenchNoticeReceive (port : Nat) (n : Notice) (s : State) : State :=
  if n.kind != 0 || !noticePart n || noticeSeen s n then s else
  let st := partState s n.part
  let s := if st = 2 ∨ st = 3 then
      let ev : FaultEvent := { code := 0x0605, part := n.part, collector := 100 + port / 8, unitType := 15, inst := port, access := 4
                               master := 6 * 2 ^ 29 + 8 * n.origin, detail := leNats n.origin 3 ++ [0] ++ leNats n.index 4 }
      (raiseAs 3 (rampLimit s) false ev s).2
    else s
  forwardNotice port n s

/-- GEN_NOTICE_RECEIVE: KIND 1. -/
def genNoticeReceive (port : Nat) (n : Notice) (s : State) : State :=
  if n.kind != 1 || !noticePart n || noticeSeen s n then s else
  let st := partState s n.part
  let e := (n.part, n.gen % 256, n.fet)
  let s :=
    if st = 4 then
      if n.fet ≤ s.fet then genApply e s else { s with log := { s.log with genPending := s.log.genPending ++ [e] } }
    else if st = 3 then noteAt 5 n.part (100 + port / 8) 15 port s
    else s
  forwardNotice port n s

/-- A notice frame at a port: the checks of a frame (R302), then the Port die agent. -/
def noticeFrame (port : Nat) (hdr : Frame) (k : State → State) (s : State) : State := receiveFrame port hdr (fun h => h.cls == 2) k s

/-! ### Meanings -/

def execRerun (p : Fin 8) (s : State) : Host.Outcome State Fault Refusal := .next (rerunStart p s)

def execRepeatCheckComplete (index : Nat) (again : Bool) (s : State) : Host.Outcome State Fault Refusal :=
  .next (repeatCheck index again s)

def execQuenchNoticeReceive (port : Fin 64) (hdr : Frame) (n : Notice) (s : State) : Host.Outcome State Fault Refusal :=
  .next (noticeFrame port hdr (quenchNoticeReceive port n) s)

def execGenNoticeReceive (port : Fin 64) (hdr : Frame) (n : Notice) (s : State) : Host.Outcome State Fault Refusal :=
  .next (noticeFrame port hdr (genNoticeReceive port n) s)

end Sys2Proof.Machine
end

