-- ==== Sys2Proof/Machine/FaultCmds.lean ====
section
/-!
DEFINITION. Machine/FaultCmds.lean: the fault opcodes of Scarab (FAULT_QUERY, FAULT_INJECT, FAULT_CLEAR), a checker's
fault as it reaches its collector, an armed injection that falls due (12_command_protocol R393;
15_faults_and_silent_errors R457-R466, R489).
-/
namespace Sys2Proof.Machine

/-! ### FAULT_CAPTURE (R457, R461) -/

/-- A partition has a fence region in the Tier C or, with `tierP`, the Tier P of Vault v. -/
def hasRegion (s : State) (tierP : Bool) (v p : Nat) : Bool :=
  (List.range 16).any (fun r =>
    if tierP then s.flag (F.VLT_PFENCE_ATTR_VALID v r) && s.get (F.VLT_PFENCE_ATTR_PART v r) == p
    else s.flag (F.VLT_FENCE_ATTR_VALID v r) && s.get (F.VLT_FENCE_ATTR_PART v r) == p)

/-- A partition has a share, a slot or a schedule entry at port n and its ERU. -/
def hasPort (s : State) (n p : Nat) : Bool :=
  vcShare s n p != 0 || ownsSlot s n p
    || (List.range 128).any (fun e => s.flag (F.ERU_SCHED0_VALID n e) && s.get (F.ERU_SCHED0_PART n e) == p)

/-- Whether partition p uses the unit a fault names, for a unit that partitions share and that can be fenced off: a Tier C
channel, a Tier P array, a port, an ERU (R363). None for any other unit. -/
def usesShared (s : State) (ev : FaultEvent) (p : Nat) : Option Bool :=
  match ev.unitType with
  | 11 => some (hasRegion s false (ev.collector - 88) p)
  | 12 => some (ev.collector < 96 && hasRegion s true (ev.collector - 88) p)
  | 14 | 15 => some (hasPort s ev.inst p)
  | _ => none

/-- SHARED_UNIT (R363): class 3 in every tenant that uses a unit that can be fenced off, class 0 in the other partitions; class 4
for a unit that cannot. -/
def sharedUnit (ev : FaultEvent) (s : State) : State :=
  if (usesShared s ev 0).isNone then raiseFault { ev with part := 0 } s else
  let uses := (List.range 8).filter (fun p => p != 0 && partState s p != 0 && usesShared s ev p == some true)
  let others := (List.range 8).filter (fun p => (p == 0 || partState s p != 0) && !uses.contains p)
  let t := s.forEach uses (fun p t => (raiseAs 3 (rampLimit t) true { ev with part := p } t).2)
  t.forEach others (fun p t => (raiseAs 0 (rampLimit t) true { ev with part := p } t).2)

/-- The registers of the tier whose checker reports an error in the unit at an address (R221, R252), before its fault is raised: an
uncorrectable unit is delivered poisoned when it is next read. [log 164 DESIGN CHOICE] -/
def tierReport (ev : FaultEvent) (s : State) : State :=
  let unit := ev.addr / 256
  let f := ev.collector
  let v := ev.collector - 88
  if ev.unitType = 10 ∧ f < 88 ∧ unit < 2 ^ 26 then
    if ev.code = 0x0301 then tnFirst f unit false s
    else if ev.code = 0x0302 ∨ ev.code = 0x0303 then
      let s := tnMark f unit (tnFirst f unit true s)
      s.setField f { s.fieldD f with met := setAdd unit (s.fieldD f).met }
    else s
  else if ev.unitType = 11 ∧ 88 ≤ ev.collector ∧ v < 12 ∧ unit < 2 ^ 30 then
    if ev.code = 0x0301 then tcFirst v unit false s
    else if ev.code = 0x0304 then
      let s := tcMark v unit (tcFirst v unit true s)
      s.setVault v { s.vault v with met := setAdd unit (s.vault v).met }
    else s
  else s

/-- FAULT_CAPTURE: a checker's fault reaches its collector. Uncorrectable Tier P data ends the restore that read it
(Table 07.5). -/
def faultCapture (ev : FaultEvent) (s : State) : State :=
  let s := if ev.code = 0x0609 then sharedUnit ev s else raiseFault ev (tierReport ev s)
  if ev.code = 0x0305 then endJobs (fun w => match w with | .ckptRestore p _ => p == ev.part | _ => false) stFaulted [] s
  else s

/-! ### FAULT_QUERY (R465, R368) -/

/-- The records a query sees: the log, or Chitin's store while no system Scarab runs (R368). -/
def queryRecs (s : State) : List FaultRec := if noScarab s then s.log.chitin.filter (fun x => decide (3 ≤ x.cls)) else s.log.recs

/-- The records a requester may see: a VF those of its own partition. -/
def visible (r : Request) (s : State) : List FaultRec :=
  (queryRecs s).filter (fun x => reqFn r == 0 || x.ev.part == reqFn r)

/-- The lowest index of some records, 0 for none. [log 33 DEDUCED] -/
def lowestIndex (l : List FaultRec) : Nat :=
  l.foldl (fun m x => if m = 0 then x.index else min m x.index) 0

/-- Records of a class since the last count clear: of the module for the PF, of its partition for a VF.
[log 33 DEDUCED] -/
def classCount (r : Request) (s : State) (c : Nat) : Nat :=
  let of := fun p => AMap.get (fun _ => 0) s.log.clsCounts (6 * p + c)
  if reqFn r = 0 then min 65535 (((List.range 8).map of).sum) else of (reqFn r)

/-- The step base of the newest step whose update every group of p finished (R472). -/
def lastUpdate (s : State) (p : Nat) : Fet :=
  let l := (List.range 12).flatMap (fun v => (groupsOf s v p).map (fun g => (groupD s v g).doneAt))
  match l with
  | [] => 0
  | a :: m => m.foldl min a

/-- The summary of SCOPE 0 (R465). -/
def faultSummary (r : Request) (s : State) : List Byte :=
  let p := reqPart r
  let mine := (visible r s).filter (fun x => x.ev.part == p)
  let high := if reqFn r = 0 then highestUncleared (visible r s) (fun _ => true) else highestUncleared mine (fun _ => true)
  leBytes (s.rd R.FLT_LOG_HEAD).toNat 4 ++ leBytes high 1
    ++ leBytes ((if moduleQuenched s then 1 else 0) + 2 * s.get (F.FLT_PART_SUM_STATE_INTACT p)) 1
    ++ leBytes (min 65535 (mine.filter (fun x => !x.cleared)).length) 2
    ++ (List.range 6).flatMap (fun c => leBytes (classCount r s c) 2)
    ++ leBytes (lowestIndex ((visible r s).filter (fun x => !x.cleared))) 4 ++ leBytes (lastUpdate s p) 8

/-- A record read from Chitin's store whose check bit an injection inverted: class 1 on read (Table 15.9). -/
def readStore (idx : Nat) (s : State) : State :=
  if noScarab s && s.log.storeBad.contains idx then
    let s := { s with log := { s.log with storeBad := s.log.storeBad.filter (· != idx) } }
    (raiseAs 1 (rampLimit s) true { code := 0x060b, access := 1, injected := true, detail := [5] } s).2
  else s

/-- FAULT_QUERY. An index that is not held, or is another partition's for a VF, is not a valid parameter.
[log 33 DEDUCED] -/
def faultQuery (r : Request) (s : State) : Ans :=
  match pByte r 0 with
  | 0 => .done stOk (faultSummary r s) s
  | k =>
    let l := visible r s
    let want := if k = 1 then pLe r 4 4 else lowestIndex (l.filter (fun x => !x.cleared))
    match l.find? (fun x => x.index == want) with
    | none => .done stBadParam [] s
    | some x => .done stOk (recordBytes x) (readStore x.index s)

/-! ### FAULT_INJECT (R393, R489) -/

/-- The injection registers of Table 15.9. -/
def injectReg (off : Nat) : Bool :=
  off == R.FLT_INJECT || (List.range 12).any (fun v => off == R.VLT_CTRL v)
    || (List.range 64).any (fun n => off == R.ERU_INJECT n || off == R.SNL_INJECT n)
    || allFields.any (fun f => off == R.MSH_INJECT f || off == R.VLT_N_CTRL f
        || (decide (R.CEL_INJECT f 0 ≤ off) && decide (off < R.CEL_INJECT f 72) && off % 256 == 0x28))

/-- The write of an injection register, as the physical function's. [log 33 DEDUCED, 81 DEDUCED] -/
def injectWrite (off : Nat) (w : Word) (s : State) : Nat × State :=
  let x := accessWrite (.pf 0) off w true s
  (if x.1 = 0 then stOk else stFaulted, x.2)

/-- FAULT_INJECT: at once, or armed for an FET. [log 33 DEDUCED] -/
def faultInject (r : Request) (s : State) : Ans :=
  let off := pLe r 0 4
  let w : Word := BitVec.ofNat 32 (pLe r 4 4)
  let due := pLe r 8 8
  if !injectReg off then .done stBadParam [] s
  else if due = 0 then
    let x := injectWrite off w s
    .done x.1 [] x.2
  else .later (.inject (reqPart r) off due) { s with injects := s.injects ++ [⟨reqPart r, off, w, due⟩] }

/-- Injections whose FET has come are written, and their commands end (R393). -/
def injectDue (s : State) : State :=
  let due := s.injects.filter (fun a => decide (a.due ≤ s.fet))
  due.foldl (fun t a =>
    let x := injectWrite a.off a.value t
    endJobsAt (fun w => match w with | .inject p o d => p == a.part && o == a.off && d == a.due | _ => false) x.1 [] a.due x.2)
    { s with injects := s.injects.filter (fun a => !decide (a.due ≤ s.fet)) }

/-! ### FAULT_CLEAR (R466) -/

/-- The unit that a PERMANENT record names is still mapped in: a cell its L2P entry still names, a field still passable.
[log 34 DEDUCED] -/
def stillMapped (s : State) (x : FaultRec) : Bool :=
  let loc := x.ev.detail.getD 2 0 + 256 * x.ev.detail.getD 3 0
  let d : DefectEntry := { type := x.ev.detail.getD 0 0, origin := 2, loc := loc, time := 0 }
  match d.type with
  | 3 =>
    if s.boot.dead.contains (loc / 72) then passable s (loc / 72)
    else (List.range 64).any (fun l => s.get (F.MSH_L2P_POS (64 * (loc / 72) + l)) == loc % 72)
  | 2 => passable s (loc / 8)
  | 7 => s.boot.dead.contains (loc / 16) && passable s (loc / 16)
  | _ => (mapsOut d).any (passable s)

/-- A quench ramp of partition p, or of the module, has not ended. -/
def ramping (s : State) (p : Nat) : Bool := s.power.ramps.any (fun k => k.scope == p || k.scope == 0)

/-- Some field is as hot as Table 13.7 lets quench the module. -/
def tooHot (s : State) : Bool :=
  let thr := s.get F.PWR_THERM_CFG_THROTTLE_C
  s.power.others.any (fun e => decide (97 ≤ e.2)) || (List.range 792).any (fun d =>
    let t := s.get (F.PWR_DOM_STATUS_TEMP d)
    decide (97 ≤ t ∧ t < 128) || (decide (thr ≤ t ∧ t < 128) && s.get (F.PWR_DOM_CFG_OP_THERM d) == 0))

/-- The condition of a class 4 record's rule still holds. [log 34 DEDUCED] -/
def conditionHolds (s : State) (code : Nat) : Bool :=
  match code with
  | 0x0505 => decide (s.get F.PWR_ENV_NOW_CEILING < s.get F.PWR_DRAW_LAST)
  | 0x0506 => bandHolds s 3
  | 0x0507 => bandHolds s 5
  | 0x0509 => !s.flag F.PWR_STATUS_MAIN_OK
  | 0x050a => s.get F.PWR_HOLDUP_STATE == 3
  | 0x050b => decide (s.get F.PWR_CONV1_N_OK < 30)
  | 0x050c => tooHot s
  | 0x050e => decide (720 < s.get F.PWR_COOLANT0_INLET)
  | 0x050f => !s.flag F.CHT_PIN_STATUS_COOLANT_OK
  | _ => false

/-- The cause of a record is still present (R466). [log 34 DEDUCED] -/
def causePresent (s : State) (x : FaultRec) : Bool :=
  if x.cls = 3 then ramping s x.ev.part || (x.ev.code == 0x0606 && stillMapped s x)
  else if x.cls = 4 then conditionHolds s x.ev.code
  else false

/-- No uncleared class 3 record of p is left. -/
def allCleared (s : State) (p : Nat) : Bool := s.log.recs.all (fun x => x.cleared || x.cls != 3 || x.ev.part != p)

/-- The record is cleared; the partition of the last class 3 record returns to READY, its field hosts running and its
clusters being woken (R413). [log 134 DEDUCED] -/
def clearRecord (x : FaultRec) (s : State) : State :=
  let s := editRecord x.index (fun y => { y with cleared := true }) s
  let p := x.ev.part
  if x.cls = 3 ∧ partState s p = 4 ∧ !moduleQuenched s ∧ allCleared s p then
    let s := (setPartState s p 2).forEach (partFields s p) (fun f t => t.setField f { t.fieldD f with hostsHalted := false })
    wakeFields (partFields s p) s
  else s

/-- FAULT_CLEAR. [log 33 DEDUCED, 34 DEDUCED] -/
def faultClear (r : Request) (s : State) : Ans :=
  match (visible r s).find? (fun x => x.index == pLe r 0 4) with
  | none => .done stBadParam [] s
  | some x =>
    if x.cls = 5 ∨ (x.cls = 4 ∧ reqFn r ≠ 0) then .done stDenied [] s
    else if causePresent s x then .done stFaulted [] s
    else .done stOk [] (clearRecord x s)

/-! ### Meanings -/

def execFaultCapture (ev : FaultEvent) (s : State) : Host.Outcome State Fault Refusal := .next (faultCapture ev s)

def faultQueryOp (r : Request) : ScpOp :=
  { code := 0x58, bad := short r 8 || decide (2 < pByte r 0) || !pZero r 1 4, body := faultQuery r }

def execFaultQuery (r : Request) (s : State) : Host.Outcome State Fault Refusal :=
  .next (scarab (.faultQuery r) (faultQueryOp r) r s)

def faultInjectOp (r : Request) : ScpOp :=
  { code := 0x59
    async := pLe r 8 8 != 0
    bad := short r 16
    busy := fun s => pLe r 8 8 != 0 && fetInvalid s
    body := faultInject r }

def execFaultInject (r : Request) (s : State) : Host.Outcome State Fault Refusal :=
  .next (scarab (.faultInject r) (faultInjectOp r) r s)

def faultClearOp (r : Request) : ScpOp :=
  { code := 0x5a, bad := short r 4, body := faultClear r }

def execFaultClear (r : Request) (s : State) : Host.Outcome State Fault Refusal :=
  .next (scarab (.faultClear r) (faultClearOp r) r s)

def execFaultInjectDue (s : State) : Host.Outcome State Fault Refusal := .next (injectDue s)

end Sys2Proof.Machine
end

