-- ==== Sys2Proof/Machine/Losses.lean ====
section
/-!
DEFINITION. Machine/Losses.lean: what takes a field away while the module is up: a soft start that fails for good, a domain at
its current limit, a Scarab that fails (13_power_and_thermal R409, R410; 11_partitions R352; 12_command_protocol R366).
-/
namespace Sys2Proof.Machine

/-- A field is lost by a fault of its own that is already recorded: in service it is re-placed (R352, R486), and during
bring-up mapped out with a defect entry of origin 1 (R435). -/
def loseField (f rec : Nat) (s : State) : State :=
  if s.flag F.CHT_STATUS_RUNNING || decide (stepDone s < 8) then
    powerOut (newDefect { type := 1, origin := 1, loc := f, time := 0 } s)
  else rePlace f rec s

/-- A soft start succeeds: an uncore is ON, and after the alignment of step 5 measures its branch again (R50), in
step 4 its clusters follow it (R434), and what a tenant left in its field is zeroed (R350); a cluster is GATED, and goes on to ON where a POWER_DOMAIN asked for it.
[log 39 DEDUCED, 134 DEDUCED] -/
def softStarted (d : Nat) (s : State) : State :=
  let f := d / 9
  if d % 9 = 8 then
    let s := s.set (F.PWR_DOM_STATUS_STATE d) 3
    let s := if 5 ≤ stepDone s then measureBranch f s else s
    let s := if s.flag F.CHT_STATUS_RUNNING && stepDone s == 3 then
        s.forEach ((List.range 8).filter (fun k => !clusterOut s f k)) (fun k t => requestWake ⟨domOf f k, 1, 3, ownerOf t f, t.fet⟩ t)
      else s
    let s := if (s.fieldD f).dirty then zeroField f s else s
    makePassable f (setDefer d 0 (endDomainOn d stOk (deferOf s d) s))
  else
    let s := s.set (F.PWR_DOM_STATUS_STATE d) 2
    if hasJob s (fun w => match w with | .domainOn e => e == d | _ => false) then
      requestWake ⟨d, 0, AMap.get (fun _ => 3) s.power.prios d, ownerOf s f, s.fet⟩ s
    else setDefer d 0 s

/-- SOFT_START_CHECK (R409): turned off and retried after 50 ms, three times; then the domain is FAILED and its field lost.
[log 3 DESIGN CHOICE, 57 DEDUCED] -/
def softStartCheck (d : Nat) (ok : Bool) (s : State) : State :=
  if domState s d ≠ 1 then s
  else if ok then softStarted d s
  else if s.get (F.PWR_DOM_STATUS_RETRIES d) < 3 then
    enter ⟨d, 0, 0, s.fet⟩ (holdAt d 0 (s.set (F.PWR_DOM_STATUS_STATE d) 0))
  else
    let f := d / 9
    let s := (holdAt d 0 (s.set (F.PWR_DOM_STATUS_STATE d) 5)).set F.PWR_ALARM_SOFT_FAIL 1
    let s := setDefer d 0 (endDomainOn d stFaulted 0 s)
    let x := raiseAs 3 (rampLimit s) true { code := 0x0502, part := ownerOf s f, collector := f, unitType := 16, inst := d % 9 } s
    loseField f x.1 x.2

/-- CURRENT_LIMIT_TRIP (R410): off at once, class 3, then soft start at PRIO 3. An uncore takes its Scarab with it (R366). -/
def currentLimitTrip (d : Nat) (s : State) : State :=
  if domState s d ≠ 3 then s else
  let f := d / 9
  let s := if d % 9 = 8 then makeHole f (domainOff d (if inService s f then handOver f s else s)) else domainOff d s
  let s := raiseFault { code := 0x0503, part := ownerOf s f, collector := f, unitType := 16, inst := d % 9 } s
  requestWake ⟨d, if d % 9 = 8 then 2 else 1, 3, ownerOf s f, s.fet⟩ s

/-- SYSTEM_SCARAB_FAILOVER (R366, R352): the field of a system or lead Scarab fails: a permanent field fault of its partition,
without a defect entry. [log 27 DESIGN CHOICE, 163 DEDUCED] -/
def scarabFailover (f : Nat) (s : State) : State :=
  if !inService s f then s else
  let s := handOver f s
  let x := raiseAs 3 (rampLimit s) true
    { code := 0x0606, part := ownerOf s f, collector := f, unitType := 20, detail := [1, 0] ++ leNats f 2 } s
  rePlace f x.1 x.2

/-! ### Meanings -/

def execSoftStartCheck (d : Fin 792) (ok : Bool) (s : State) : Host.Outcome State Fault Refusal := .next (softStartCheck d ok s)

def execCurrentLimitTrip (d : Fin 792) (s : State) : Host.Outcome State Fault Refusal := .next (currentLimitTrip d s)

def execSystemScarabFailover (f : Fin 88) (s : State) : Host.Outcome State Fault Refusal := .next (scarabFailover f s)

end Sys2Proof.Machine
end

