-- ==== Sys2Proof/Machine/Serve.lean ====
section
/-!
DEFINITION. Machine/Serve.lean: the rows of the command protocol as one table from a row to what the front ends need of it; a
request out of a received control frame (12_command_protocol R372), and the requests that a FENCE held back (R378).
-/
namespace Sys2Proof.Machine

/-! ### Rows and requests -/

/-- What Scarab needs of a row that it serves, and the row's request. -/
def scarabOp (s : State) : Instr → Option (ScpOp × Request)
  | .nop r => some (nopOp, r)
  | .identify r => some (identifyOp, r)
  | .negotiate r => some (negotiateOp r, r)
  | .timeQuery r => some (timeQueryOp r, r)
  | .partCreate r => some (partCreateOp r s, r)
  | .partDestroy r => some (partDestroyOp r, r)
  | .partQuery r => some (partQueryOp r, r)
  | .keyInstall r => some (keyInstallOp r, r)
  | .planLoad r data => some (planLoadOp r data, r)
  | .planBind r => some (planBindOp r, r)
  | .planStart r => some (planStartOp r, r)
  | .planStopGraceful r => some (planStopGracefulOp r, r)
  | .planStopImmediate r => some (planStopImmediateOp r, r)
  | .stepArm r => some (stepArmOp r, r)
  | .stepCommit r => some (stepCommitOp r, r)
  | .moveIntoTier r data => some (moveIntoTierOp r data, r)
  | .moveOutOfTier r => some (moveOutOfTierOp r, r)
  | .queueConfig r => some (queueConfigOp r, r)
  | .ckptWrite r => some (ckptWriteOp r, r)
  | .ckptRestore r => some (ckptRestoreOp r, r)
  | .migrate r => some (migrateOp r, r)
  | .mapUpdate r => some (mapUpdateOp r, r)
  | .cfgStage r => some (cfgStageOp r, r)
  | .cfgCommit r => some (cfgCommitOp r, r)
  | .envelopeSet r => some (envelopeSetOp r, r)
  | .envelopeSetBudget r => some (envelopeSetBudgetOp r, r)
  | .faultQuery r => some (faultQueryOp r, r)
  | .faultInject r => some (faultInjectOp r, r)
  | .faultClear r => some (faultClearOp r, r)
  | .sentinelRun r => some (sentinelRunOp r, r)
  | .badOpcodeRequest r op => if opDefined op.toNat then none else some (badOpcodeOp op, r)
  | _ => none

/-- What Chitin's front end needs of a row that it takes, and the row's request. -/
def chitinOp : Instr → Option (ScpOp × Request)
  | .quenchPartition r => some (quenchPartitionOp r, r)
  | .quenchModule r => some (quenchModuleOp r, r)
  | .powerDomainOff r => some (powerDomainOffOp r, r)
  | .powerDomainOn r => some (powerDomainOnOp r, r)
  | .powerDomainModuleOff r => some (powerDomainModuleOffOp r, r)
  | .resetWarmReinit r => some (resetWarmReinitOp r, r)
  | .resetModule r => some (resetModuleOp r, r)
  | .resetPinSafe r => some (resetPinSafeOp r, r)
  | _ => none

/-- The row of an opcode; where its first parameter byte selects among rows, that row, and the first for a value none has (it
refuses the format). -/
def rowOf (op : Nat) (r : Request) : Instr :=
  match op with
  | 0x00 => .nop r
  | 0x01 => .identify r
  | 0x02 => .negotiate r
  | 0x08 => .timeQuery r
  | 0x10 => .partCreate r
  | 0x11 => .partDestroy r
  | 0x12 => .partQuery r
  | 0x18 => .keyInstall r
  | 0x20 => .planLoad r []
  | 0x21 => .planBind r
  | 0x22 => .planStart r
  | 0x23 => if pByte r 0 = 1 then .planStopImmediate r else .planStopGraceful r
  | 0x28 => .stepArm r
  | 0x29 => .stepCommit r
  | 0x30 => if pByte r 0 = 1 then .moveOutOfTier r else .moveIntoTier r []
  | 0x31 => .queueConfig r
  | 0x38 => .ckptWrite r
  | 0x39 => .ckptRestore r
  | 0x40 => .migrate r
  | 0x41 => .mapUpdate r
  | 0x48 => .cfgStage r
  | 0x49 => .cfgCommit r
  | 0x50 => if pByte r 0 = 1 then .envelopeSetBudget r else .envelopeSet r
  | 0x58 => .faultQuery r
  | 0x59 => .faultInject r
  | 0x5a => .faultClear r
  | 0x60 => .sentinelRun r
  | 0x70 => if pByte r 0 = 1 then .quenchModule r else .quenchPartition r
  | 0x71 => if pByte r 0 = 1 then .powerDomainOn r else if pByte r 0 = 2 then .powerDomainModuleOff r else .powerDomainOff r
  | 0x7f => if pByte r 0 = 1 then .resetModule r else if pByte r 0 = 2 then .resetPinSafe r else .resetWarmReinit r
  | _ => .badOpcodeRequest r (BitVec.ofNat 8 op)

/-! ### A request in a frame (R372) -/

/-- The request that the bytes of an SCP packet spell (Table 12.2), and its opcode; none where they end within the header.
[log 168 DESIGN CHOICE] -/
def scpRequest (src : Source) (l : List Byte) : Option (Nat × Request) :=
  if l.length < 32 then none else some (leAt l 1 1,
    { src := src, version := l.getD 0 0, flags := l.getD 2 0, part := l.getD 3 0, seq := BitVec.ofNat 32 (leAt l 4 4)
      token := BitVec.ofNat 64 (leAt l 8 8), plen := BitVec.ofNat 32 (leAt l 16 4), status := BitVec.ofNat 16 (leAt l 20 2)
      sqh := BitVec.ofNat 16 (leAt l 22 2), rfet := BitVec.ofNat 64 (leAt l 24 8), params := l.drop 32 })

/-- A control frame of partition 0 that carries a request to this module's Scarab: SUBTYPE 1, DST endpoint class SCARAB. -/
def carriesRequest (fr : Frame) : Bool := fr.cls == 2 && fr.part == 0 && fr.dst % 8 == 2 && leAt fr.payload 0 1 == 1

/-- The request of a frame, from payload byte 16 on, is taken by the front end of its opcode. -/
def frameRequest (n : Fin 64) (fr : Frame) (s : State) : State :=
  match scpRequest (.snl (BitVec.ofNat 17 (fr.src / 8)) n) (fr.payload.drop 16) with
  | none => s
  | some (op, r) =>
    let i := rowOf op r
    match scarabOp s i, chitinOp i with
    | some (o, r), _ => scarab i o r s
    | none, some (o, r) => chitin o r s
    | none, none => s

/-! ### Requests held behind a FENCE (R378) -/

/-- The requests that wait in a queue are served in order, until one must wait again. [log 35 DESIGN CHOICE] -/
def release (src : Source) (s : State) : State :=
  let q := queueOf s src
  if q.held.isEmpty then s else
  q.held.foldl (fun t i => match scarabOp t i with
    | some (o, r) => serve i o r t
    | none => t) (s.putQueue { q with held := [] })

/-! ### Meanings -/

/-- COMMAND_COMPLETION, and what waited for it behind a FENCE. -/
def execCommandCompletion (src : Source) (seq : BitVec 32) (s : State) : Host.Outcome State Fault Refusal :=
  .next (release src (complete src seq s))

/-- FRAME_FORWARD: a frame addressed elsewhere is sent on (R311); one that carries a request for this module's Scarab is taken
(R372). -/
def execFrameForward (n : Fin 64) (fr : Frame) (s : State) : Host.Outcome State Fault Refusal :=
  .next (frameForward n fr carriesRequest (frameRequest n fr) s)

end Sys2Proof.Machine
end

