-- ==== Sys2Proof/Machine/Dispatch.lean ====
section
/-!
DEFINITION. Machine/Dispatch.lean: one arm per command, each one direct call of its meaning.
-/
namespace Sys2Proof.Machine

/-- [log 13 DESIGN CHOICE] -/
def exec (i : Instr) (s : State) : Host.Outcome State Fault Refusal :=
  match i with
  | .nop r => Sys2Proof.Machine.execNop r s
  | .identify r => Sys2Proof.Machine.execIdentify r s
  | .negotiate r => Sys2Proof.Machine.execNegotiate r s
  | .timeQuery r => Sys2Proof.Machine.execTimeQuery r s
  | .partCreate r => Sys2Proof.Machine.execPartCreate r s
  | .partDestroy r => Sys2Proof.Machine.execPartDestroy r s
  | .partQuery r => Sys2Proof.Machine.execPartQuery r s
  | .keyInstall r => Sys2Proof.Machine.execKeyInstall r s
  | .planLoad r data => Sys2Proof.Machine.execPlanLoad r data s
  | .planBind r => Sys2Proof.Machine.execPlanBind r s
  | .planStart r => Sys2Proof.Machine.execPlanStart r s
  | .planStopGraceful r => Sys2Proof.Machine.execPlanStopGraceful r s
  | .planStopImmediate r => Sys2Proof.Machine.execPlanStopImmediate r s
  | .stepArm r => Sys2Proof.Machine.execStepArm r s
  | .stepCommit r => Sys2Proof.Machine.execStepCommit r s
  | .moveIntoTier r data => Sys2Proof.Machine.execMoveIntoTier r data s
  | .moveOutOfTier r => Sys2Proof.Machine.execMoveOutOfTier r s
  | .queueConfig r => Sys2Proof.Machine.execQueueConfig r s
  | .ckptWrite r => Sys2Proof.Machine.execCkptWrite r s
  | .ckptRestore r => Sys2Proof.Machine.execCkptRestore r s
  | .migrate r => Sys2Proof.Machine.execMigrate r s
  | .mapUpdate r => Sys2Proof.Machine.execMapUpdate r s
  | .cfgStage r => Sys2Proof.Machine.execCfgStage r s
  | .cfgCommit r => Sys2Proof.Machine.execCfgCommit r s
  | .envelopeSet r => Sys2Proof.Machine.execEnvelopeSet r s
  | .envelopeSetBudget r => Sys2Proof.Machine.execEnvelopeSetBudget r s
  | .faultQuery r => Sys2Proof.Machine.execFaultQuery r s
  | .faultInject r => Sys2Proof.Machine.execFaultInject r s
  | .faultClear r => Sys2Proof.Machine.execFaultClear r s
  | .sentinelRun r => Sys2Proof.Machine.execSentinelRun r s
  | .quenchPartition r => Sys2Proof.Machine.execQuenchPartition r s
  | .quenchModule r => Sys2Proof.Machine.execQuenchModule r s
  | .powerDomainOff r => Sys2Proof.Machine.execPowerDomainOff r s
  | .powerDomainOn r => Sys2Proof.Machine.execPowerDomainOn r s
  | .powerDomainModuleOff r => Sys2Proof.Machine.execPowerDomainModuleOff r s
  | .resetWarmReinit r => Sys2Proof.Machine.execResetWarmReinit r s
  | .resetModule r => Sys2Proof.Machine.execResetModule r s
  | .resetPinSafe r => Sys2Proof.Machine.execResetPinSafe r s
  | .commandCompletion src seq => Sys2Proof.Machine.execCommandCompletion src seq s
  | .systemScarabFailover f => Sys2Proof.Machine.execSystemScarabFailover f s
  | .sqTailDoorbell via ep q value ringOk => Sys2Proof.Machine.execSqTailDoorbell via ep q value ringOk s
  | .cqHeadDoorbell via ep q value ringOk => Sys2Proof.Machine.execCqHeadDoorbell via ep q value ringOk s
  | .queueEnable via ep q value => Sys2Proof.Machine.execQueueEnable via ep q value s
  | .mgmtQueueExpiry ip port => Sys2Proof.Machine.execMgmtQueueExpiry ip port s
  | .chitinPowerUp pins lockstepOk measured => Sys2Proof.Machine.execChitinPowerUp pins lockstepOk measured s
  | .buGo via value => Sys2Proof.Machine.execBuGo via value s
  | .buAbort via value => Sys2Proof.Machine.execBuAbort via value s
  | .buStepComplete rep => Sys2Proof.Machine.execBuStepComplete rep s
  | .rstLAssert => Sys2Proof.Machine.execRstLAssert s
  | .rstLRelease => Sys2Proof.Machine.execRstLRelease s
  | .resetStuck => Sys2Proof.Machine.execResetStuck s
  | .rstPinMaskSet via value => Sys2Proof.Machine.execRstPinMaskSet via value s
  | .strapSample role slot => Sys2Proof.Machine.execStrapSample role slot s
  | .pwrEnDeassert rstToo => Sys2Proof.Machine.execPwrEnDeassert rstToo s
  | .defectAdd via value => Sys2Proof.Machine.execDefectAdd via value s
  | .defectPurge via value => Sys2Proof.Machine.execDefectPurge via value s
  | .refPpsEdge stampPs refClkOk => Sys2Proof.Machine.execRefPpsEdge stampPs refClkOk s
  | .ptpExchange ev => Sys2Proof.Machine.execPtpExchange ev s
  | .ptpMessageTimeout => Sys2Proof.Machine.execPtpMessageTimeout s
  | .refQualified code port => Sys2Proof.Machine.execRefQualified code port s
  | .refLost code port clkLost => Sys2Proof.Machine.execRefLost code port clkLost s
  | .provisionalTimeout code => Sys2Proof.Machine.execProvisionalTimeout code s
  | .disciplineSample offsetPs => Sys2Proof.Machine.execDisciplineSample offsetPs s
  | .switchComplete residualPs => Sys2Proof.Machine.execSwitchComplete residualPs s
  | .revertTimer code port => Sys2Proof.Machine.execRevertTimer code port s
  | .ovenStable => Sys2Proof.Machine.execOvenStable s
  | .holdoverLearned => Sys2Proof.Machine.execHoldoverLearned s
  | .holdLimitExceeded => Sys2Proof.Machine.execHoldLimitExceeded s
  | .cicadaSend port => Sys2Proof.Machine.execCicadaSend port s
  | .cicadaReceive port hdr frame rxFetPs => Sys2Proof.Machine.execCicadaReceive port hdr frame rxFetPs s
  | .clkCtrlArm via f value => Sys2Proof.Machine.execClkCtrlArm via f value s
  | .opChangeDue f => Sys2Proof.Machine.execOpChangeDue f s
  | .opVoltageReady f => Sys2Proof.Machine.execOpVoltageReady f s
  | .timFetLoRead via read => Sys2Proof.Machine.execTimFetLoRead via read s
  | .drawPeakRead via read => Sys2Proof.Machine.execDrawPeakRead via read s
  | .bundleIssue f cyc => Sys2Proof.Machine.execBundleIssue f cyc s
  | .stepBundle f cyc => Sys2Proof.Machine.execStepBundle f cyc s
  | .gateDue f cyc => Sys2Proof.Machine.execGateDue f cyc s
  | .loopEnd f cyc => Sys2Proof.Machine.execLoopEnd f cyc s
  | .endBundle f cyc => Sys2Proof.Machine.execEndBundle f cyc s
  | .moveBundle f cyc => Sys2Proof.Machine.execMoveBundle f cyc s
  | .sentinelBundle f cyc => Sys2Proof.Machine.execSentinelBundle f cyc s
  | .sentSigCompare f ended => Sys2Proof.Machine.execSentSigCompare f ended s
  | .reserveSentinelTile f pos sigErr => Sys2Proof.Machine.execReserveSentinelTile f pos sigErr s
  | .cellRepetitionBegin f pos cyc sigErr => Sys2Proof.Machine.execCellRepetitionBegin f pos cyc sigErr s
  | .slotBegin f pos cyc id => Sys2Proof.Machine.execSlotBegin f pos cyc id s
  | .slotEnd f pos cyc id => Sys2Proof.Machine.execSlotEnd f pos cyc id s
  | .microOpIssue f pos cyc id op upset => Sys2Proof.Machine.execMicroOpIssue f pos cyc id op upset s
  | .scratchpadAccessGrant f pos cyc wport upset => Sys2Proof.Machine.execScratchpadAccessGrant f pos cyc wport upset s
  | .arrivalRecord f pos cyc => Sys2Proof.Machine.execArrivalRecord f pos cyc s
  | .guardExpiry f pos cyc => Sys2Proof.Machine.execGuardExpiry f pos cyc s
  | .scratchpadZeroDone f pos => Sys2Proof.Machine.execScratchpadZeroDone f pos s
  | .celFuClear via f pos value => Sys2Proof.Machine.execCelFuClear via f pos value s
  | .celSpZero via f pos value => Sys2Proof.Machine.execCelSpZero via f pos value s
  | .celCntClear via f pos value => Sys2Proof.Machine.execCelCntClear via f pos value s
  | .celSpArm via f pos value => Sys2Proof.Machine.execCelSpArm via f pos value s
  | .celResArm via f pos value => Sys2Proof.Machine.execCelResArm via f pos value s
  | .fldCntClear via f value => Sys2Proof.Machine.execFldCntClear via f value s
  | .packetInject f sent => Sys2Proof.Machine.execPacketInject f sent s
  | .packetHop id errs => Sys2Proof.Machine.execPacketHop id errs s
  | .packetReceive id => Sys2Proof.Machine.execPacketReceive id s
  | .busyReceive id => Sys2Proof.Machine.execBusyReceive id s
  | .retryBackoffExpiry f node k => Sys2Proof.Machine.execRetryBackoffExpiry f node k s
  | .retryRecordLapse f node k => Sys2Proof.Machine.execRetryRecordLapse f node k s
  | .mapActivation => Sys2Proof.Machine.execMapActivation s
  | .drainWindowEnd => Sys2Proof.Machine.execDrainWindowEnd s
  | .mshInjectArm via f value => Sys2Proof.Machine.execMshInjectArm via f value s
  | .mshCntClear via f value => Sys2Proof.Machine.execMshCntClear via f value s
  | .descriptorStart f q => Sys2Proof.Machine.execDescriptorStart f q s
  | .moverAccessStart f branch => Sys2Proof.Machine.execMoverAccessStart f branch s
  | .moverAccessComplete f acc ecc => Sys2Proof.Machine.execMoverAccessComplete f acc ecc s
  | .descriptorComplete f q => Sys2Proof.Machine.execDescriptorComplete f q s
  | .tierAckArrival f pos cyc => Sys2Proof.Machine.execTierAckArrival f pos cyc s
  | .tierNZeroDone f => Sys2Proof.Machine.execTierNZeroDone f s
  | .patrolScrub x corrected uncorrectable => Sys2Proof.Machine.execPatrolScrub x corrected uncorrectable s
  | .vltNInject via f value => Sys2Proof.Machine.execVltNInject via f value s
  | .vltCInject via v value => Sys2Proof.Machine.execVltCInject via v value s
  | .vltNCntClear via f value => Sys2Proof.Machine.execVltNCntClear via f value s
  | .vltCntClear via v value => Sys2Proof.Machine.execVltCntClear via v value s
  | .ckptEpoch p => Sys2Proof.Machine.execCkptEpoch p s
  | .segmentSave v => Sys2Proof.Machine.execSegmentSave v s
  | .copyOnWrite v addr ok => Sys2Proof.Machine.execCopyOnWrite v addr ok s
  | .ckptCompletionRecord p => Sys2Proof.Machine.execCkptCompletionRecord p s
  | .journalStagingFlush => Sys2Proof.Machine.execJournalStagingFlush s
  | .eruInputArrival n inp arrival => Sys2Proof.Machine.execEruInputArrival n inp arrival s
  | .eruBusyResend n tag => Sys2Proof.Machine.execEruBusyResend n tag s
  | .eruSlotDeadline n e c => Sys2Proof.Machine.execEruSlotDeadline n e c s
  | .eruResultDeadline n e c => Sys2Proof.Machine.execEruResultDeadline n e c s
  | .verdictTime n e c => Sys2Proof.Machine.execVerdictTime n e c s
  | .abstainNoticeReceive n fr => Sys2Proof.Machine.execAbstainNoticeReceive n fr s
  | .eruSchedWrite via n e k value => Sys2Proof.Machine.execEruSchedWrite via n e k value s
  | .eruCntClear via n value => Sys2Proof.Machine.execEruCntClear via n value s
  | .eruInjectArm via n value => Sys2Proof.Machine.execEruInjectArm via n value s
  | .resultDelivery v => Sys2Proof.Machine.execResultDelivery v s
  | .groupUpdate v g => Sys2Proof.Machine.execGroupUpdate v g s
  | .clipPhase2 p => Sys2Proof.Machine.execClipPhase2 p s
  | .stateDigest p => Sys2Proof.Machine.execStateDigest p s
  | .stateDigestReceive n fr => Sys2Proof.Machine.execStateDigestReceive n fr s
  | .digestTimeout p => Sys2Proof.Machine.execDigestTimeout p s
  | .updGCfgWrite via v g value => Sys2Proof.Machine.execUpdGCfgWrite via v g value s
  | .updCntClear via v value => Sys2Proof.Machine.execUpdCntClear via v value s
  | .lcwReceive n lcw => Sys2Proof.Machine.execLcwReceive n lcw s
  | .blockTransmit n => Sys2Proof.Machine.execBlockTransmit n s
  | .dataFrameReceive n fr => Sys2Proof.Machine.execDataFrameReceive n fr s
  | .frameForward n fr => Sys2Proof.Machine.execFrameForward n fr s
  | .busyFrameReceive n fr => Sys2Proof.Machine.execBusyFrameReceive n fr s
  | .fireflyReceive n hdr fr => Sys2Proof.Machine.execFireflyReceive n hdr fr s
  | .fireflySend n => Sys2Proof.Machine.execFireflySend n s
  | .configDigestSend n => Sys2Proof.Machine.execConfigDigestSend n s
  | .configDigestReceive n fr => Sys2Proof.Machine.execConfigDigestReceive n fr s
  | .managementFrameReceive n fr => Sys2Proof.Machine.execManagementFrameReceive n fr s
  | .partnerLost n => Sys2Proof.Machine.execPartnerLost n s
  | .wakeBurst n => Sys2Proof.Machine.execWakeBurst n s
  | .portEnable via n value => Sys2Proof.Machine.execPortEnable via n value s
  | .partnerSignalDetect n => Sys2Proof.Machine.execPartnerSignalDetect n s
  | .blockLock n => Sys2Proof.Machine.execBlockLock n s
  | .detectTimeout n => Sys2Proof.Machine.execDetectTimeout n s
  | .trainConverged n => Sys2Proof.Machine.execTrainConverged n s
  | .qualifyWindowEnd n errors uncorrectable => Sys2Proof.Machine.execQualifyWindowEnd n errors uncorrectable s
  | .negotiateComplete n neg => Sys2Proof.Machine.execNegotiateComplete n neg s
  | .portRetry via n value => Sys2Proof.Machine.execPortRetry via n value s
  | .snlRetrainRequest via n value => Sys2Proof.Machine.execSnlRetrainRequest via n value s
  | .retrainLinkmsg n accept slot => Sys2Proof.Machine.execRetrainLinkmsg n accept slot s
  | .retrainWindowStart n => Sys2Proof.Machine.execRetrainWindowStart n s
  | .retrainComplete n lockLost restored eq => Sys2Proof.Machine.execRetrainComplete n lockLost restored eq s
  | .retrainSearchTimeout n => Sys2Proof.Machine.execRetrainSearchTimeout n s
  | .marginMonitorArm n => Sys2Proof.Machine.execMarginMonitorArm n s
  | .marginWindow n lanes => Sys2Proof.Machine.execMarginWindow n lanes s
  | .rateChangeProposal msg => Sys2Proof.Machine.execRateChangeProposal msg s
  | .rateChange n => Sys2Proof.Machine.execRateChange n s
  | .snlInjectArm via n value => Sys2Proof.Machine.execSnlInjectArm via n value s
  | .configCommitDue p => Sys2Proof.Machine.execConfigCommitDue p s
  | .partitionPowerWindow p draw => Sys2Proof.Machine.execPartitionPowerWindow p draw s
  | .modulePowerWindow draw => Sys2Proof.Machine.execModulePowerWindow draw s
  | .envelopeBreakpoint => Sys2Proof.Machine.execEnvelopeBreakpoint s
  | .ballastDutyUpdate draw cap => Sys2Proof.Machine.execBallastDutyUpdate draw cap s
  | .quenchReached scope => Sys2Proof.Machine.execQuenchReached scope s
  | .mainInputCondition vin => Sys2Proof.Machine.execMainInputCondition vin s
  | .inputLoss vin => Sys2Proof.Machine.execInputLoss vin s
  | .journalFlushComplete => Sys2Proof.Machine.execJournalFlushComplete s
  | .aux12vLoss => Sys2Proof.Machine.execAux12vLoss s
  | .converterFault c => Sys2Proof.Machine.execConverterFault c s
  | .voltageSample d v => Sys2Proof.Machine.execVoltageSample d v s
  | .vminClear via value => Sys2Proof.Machine.execVminClear via value s
  | .pwrCntClear via value => Sys2Proof.Machine.execPwrCntClear via value s
  | .tokenAdmission => Sys2Proof.Machine.execTokenAdmission s
  | .softStartCheck d ok => Sys2Proof.Machine.execSoftStartCheck d ok s
  | .softStartRetry d => Sys2Proof.Machine.execSoftStartRetry d s
  | .currentLimitTrip d => Sys2Proof.Machine.execCurrentLimitTrip d s
  | .holdupStateChange vbank dq current => Sys2Proof.Machine.execHoldupStateChange vbank dq current s
  | .estimatorDisagree vbank dq => Sys2Proof.Machine.execEstimatorDisagree vbank dq s
  | .holdupCalibration vbank dq => Sys2Proof.Machine.execHoldupCalibration vbank dq s
  | .thermalWindow rep => Sys2Proof.Machine.execThermalWindow rep s
  | .overtempTrip at_ => Sys2Proof.Machine.execOvertempTrip at_ s
  | .coolantOkDeassert => Sys2Proof.Machine.execCoolantOkDeassert s
  | .leakDetAssert => Sys2Proof.Machine.execLeakDetAssert s
  | .faultCapture ev => Sys2Proof.Machine.execFaultCapture ev s
  | .quenchNoticeReceive port hdr n => Sys2Proof.Machine.execQuenchNoticeReceive port hdr n s
  | .genNoticeReceive port hdr n => Sys2Proof.Machine.execGenNoticeReceive port hdr n s
  | .rerun p => Sys2Proof.Machine.execRerun p s
  | .repeatCheckComplete index again => Sys2Proof.Machine.execRepeatCheckComplete index again s
  | .fltInjectArm via value => Sys2Proof.Machine.execFltInjectArm via value s
  | .fltCntClear via value => Sys2Proof.Machine.execFltCntClear via value s
  | .faultInjectDue => Sys2Proof.Machine.execFaultInjectDue s
  | .bringUpDrive via value => Sys2Proof.Machine.execBringUpDrive via value s
  | .drivePhaseComplete members expired => Sys2Proof.Machine.execDrivePhaseComplete members expired s
  | .mgrDriveAbort via value => Sys2Proof.Machine.execMgrDriveAbort via value s
  | .healthPoll members => Sys2Proof.Machine.execHealthPoll members s
  | .proxyForward ip port pre opcode r replies => Sys2Proof.Machine.execProxyForward ip port pre opcode r replies s
  | .proxyRingCommit ip port pre opcode r members => Sys2Proof.Machine.execProxyRingCommit ip port pre opcode r members s
  | .fireflyMiss => Sys2Proof.Machine.execFireflyMiss s
  | .standbyTakeover reply members => Sys2Proof.Machine.execStandbyTakeover reply members s
  | .managerYield standbyAct rivalSlot portsLost => Sys2Proof.Machine.execManagerYield standbyAct rivalSlot portsLost s
  | .handback via value strappedAct yieldCond members => Sys2Proof.Machine.execHandback via value strappedAct yieldCond members s
  | .mgmtBaseWrite via value => Sys2Proof.Machine.execMgmtBaseWrite via value s
  | .regAccessDatagram ip port payload => Sys2Proof.Machine.execRegAccessDatagram ip port payload s
  | .arpIcmpRequest icmp addr tagged => Sys2Proof.Machine.execArpIcmpRequest icmp addr tagged s
  | .perstAssert ep => Sys2Proof.Machine.execPerstAssert ep s
  | .functionLevelReset ep fn => Sys2Proof.Machine.execFunctionLevelReset ep fn s
  | .regRead off => Sys2Proof.Machine.execRegRead off s
  | .regWrite off value pecOk => Sys2Proof.Machine.execRegWrite off value pecOk s
  | .summary => Sys2Proof.Machine.execSummary s
  | .lastStatus => Sys2Proof.Machine.execLastStatus s
  | .alertResponse => Sys2Proof.Machine.execAlertResponse s
  | .smbusTimeout => Sys2Proof.Machine.execSmbusTimeout s
  | .tapInstruction ir => Sys2Proof.Machine.execTapInstruction ir s
  | .tapReset => Sys2Proof.Machine.execTapReset s
  | .registerWrite via off bytes value => Sys2Proof.Machine.execRegisterWrite via off bytes value s
  | .chitinRailLoss => Sys2Proof.Machine.execChitinRailLoss s
  | .perstRelease ep => Sys2Proof.Machine.execPerstRelease ep s
  | .badOpcodeRequest r opcode => Sys2Proof.Machine.execBadOpcodeRequest r opcode s

end Sys2Proof.Machine
end

