-- ==== Sys2Proof/Machine/Tick.lean ====
section
/-!
DEFINITION. Machine/Tick.lean: one tick of the 1 GHz timebase, which is what the module does while no command waits
(DESIGN CHOICE, log 2): the master FET counter counts one nanosecond (R46), the token bucket refills (R412), the
regulators slew (R403) and clusters leave RETENTION (R411), input actions end (R400), the error bound of HOLDOVER follows the
time (R66), and a generation that another module announced takes effect (R487).
-/
namespace Sys2Proof.Machine

/-- The token bucket after a tick: 2 tokens every 10 ns, at most 2,000 (R412). [log 2 DESIGN CHOICE] -/
def refillTokens (s : State) : State :=
  if s.fet % 10 = 0 then s.set F.PWR_TOKEN_LEVEL (min 2000 (s.get F.PWR_TOKEN_LEVEL + 2)) else s

/-- One nanosecond of the Chitin rail. Without power nothing counts. [log 2 DESIGN CHOICE] -/
def tick (s : State) : State :=
  if s.boot.powered then
    genDue (growEst (retainedOn (slewAll (liftInput (refillTokens { s with fet := Fet.wrap (s.fet + 1) })))))
  else s

end Sys2Proof.Machine
end

