-- ==== Sys2Proof/Machine/Step.lean ====
section
/-!
DEFINITION. Machine/Step.lean: the step of the block: the command at the front of the queue takes effect on the rest of
the state; with no command waiting, one tick of the timebase passes.
-/
namespace Sys2Proof.Machine

/-- One step. [log 4 DESIGN CHOICE] -/
def step (s : State) : Host.Outcome State Fault Refusal :=
  match s.pending with
  | [] => .next (tick s)
  | c :: rest => exec c { s with pending := rest }

/-- The state with the command that a table word spells in front of its queue. The table gives its rows no bits, so no
word spells a command. [log 12 DEDUCED] -/
def State.withFetchWord (s : State) (nbits w : Nat) : State :=
  match decodeTableWord nbits w with
  | some c => { s with pending := c :: s.pending }
  | none => s

end Sys2Proof.Machine
end

