-- ==== Sys2Proof/Safety.lean ====
section
/-!
DEFINITION. Safety.lean: what statements about the module are made of: every table of the state is in its canonical form,
the relation of a state to those that a command may make of it, a request whose turn it is and the two ways it is answered.
-/
namespace Sys2Proof.Machine

/-- Every sparse table of the module is in canonical form: keys strictly rising, no entry that only repeats what an
unlisted key reads as. -/
structure Canon (s : State) : Prop where
  regs : AMap.wf regDflt s.regs = true
  rings : AMap.wf (fun _ => {}) s.rings = true
  parts : AMap.wf (fun _ => {}) s.parts = true
  cicada : AMap.wf (fun _ => {}) s.cicada = true
  fields : AMap.wf (fun _ => {}) s.fields = true
  vaults : AMap.wf (fun _ => {}) s.vaults = true
  ports : AMap.wf (fun _ => {}) s.ports = true
  cells : AMap.wf (fun _ => {}) s.cells = true
  nis : AMap.wf (fun _ => {}) s.nis = true
  erus : AMap.wf (fun _ => {}) s.erus = true

/-- What no command breaks: the queue of waiting commands is not touched, what was emitted stays emitted, the counter of
free values never runs back, and canonical tables stay canonical. -/
structure Keeps (s t : State) : Prop where
  pending : t.pending = s.pending
  out : s.out <+: t.out
  free : s.freeIdx ≤ t.freeIdx
  canon : Canon s → Canon t

/-- A request that can be read and whose source may command the module (R370-R372). -/
structure Admitted (r : Request) (s : State) : Prop where
  readable : readable s r = true
  room : noQueue s r.src = false
  manager : ∀ c n, r.src = .snl c n → snlAccepted s c.toNat = true

/-- A request to Scarab whose turn it is: next in its sequence, no fence holding it back (R377, R378). -/
structure ScarabTurn (r : Request) (s : State) : Prop extends Admitted r s where
  fresh : (queueOf (readIn r s) r.src).consumed.contains r.seq = false
  next : queueNext (readIn r s) r.src = r.seq
  unfenced : mustWait r (readIn r s) = false

/-- A request to Chitin's front end that is next in its sequence (R367, R377). -/
structure ChitinTurn (r : Request) (s : State) : Prop extends Admitted r s where
  fresh : (queueOf (readIn r s) r.src).consumed.contains r.seq = false
  next : queueNext (readIn r s) r.src = r.seq

/-- A request to Scarab whose turn it is, that passes every check before its opcode's own (R382), while the system Scarab
runs (R368). `bad`: its parameters are malformed. -/
structure ToScarab (op : Nat) (bad : Bool) (r : Request) (s : State) : Prop extends ScarabTurn r s where
  checks : precheck (readIn r s) op r bad = none
  runs : noScarab (readIn r s) = false

/-- A request to Chitin's front end whose turn it is and that passes every check before its opcode's own. -/
structure ToChitin (op : Nat) (bad : Bool) (r : Request) (s : State) : Prop extends ChitinTurn r s where
  checks : precheck (readIn r s) op r bad = none

/-- A row that goes to Scarab: its opcode, whether its parameters are malformed, and its request. -/
def scarabRow (s : State) (i : Instr) : Option (Nat × Bool × Request) := (scarabOp s i).map (fun x => (x.1.code, x.1.bad, x.2))

/-- A row that goes to Chitin's front end. -/
def chitinRow (i : Instr) : Option (Nat × Bool × Request) := (chitinOp i).map (fun x => (x.1.code, x.1.bad, x.2))

/-- The request is answered with a status and a result, and its queue goes on to the next sequence number. -/
def replied (op : Nat) (r : Request) (status : Nat) (result : List Byte) (t : State) : State :=
  answer r op status result (advance r.src r.seq t)

/-- The request is answered ACCEPTED, and its work is in progress. -/
def taken (op : Nat) (r : Request) (w : Work) (t : State) : State :=
  replied op r stAccepted [] { t with jobs := t.jobs ++ [⟨r.src, reqPart r, r.seq, r.token, op, w, none⟩] }

/-- The request is answered ACCEPTED; what its completion will say is decided. -/
def takenDecided (op : Nat) (r : Request) (w : Work) (status : Nat) (result : List Byte) (fet : Fet) (t : State) : State :=
  replied op r stAccepted [] { t with jobs := t.jobs ++ [⟨r.src, reqPart r, r.seq, r.token, op, w, some (status, result, fet)⟩] }

/-- A 4-byte write at an offset that reaches a register: the path is up and carries it, the unit answers, the register
exists there, and the write is one the register takes (R11, R12, R15, R354, R537, R538). -/
structure Lands (via : Path) (off reg : Nat) (w : Word) (s : State) : Prop where
  aligned : off % 4 = 0
  up : pathUp s via = true
  unlatched : latchOnly s via = false
  passed : filtered s via true off = false
  answered : answers s off = true
  placed : place via off = some reg
  accepted : writeRefused s reg w = false
  quiet : writeNoted s reg w = false
  unlocked : s.boot.rwlLocked = false ∨ accMask .rwl reg = 0

/-- The state in which a register has taken a written word, by the access type of each of its fields (R11). -/
def landed (reg : Nat) (w : Word) (s : State) : State := s.wr reg (writtenWord s reg w)

/-- A field whose sequencer has bundle `w` to issue in a cycle (R163): its plan runs, the cycle lies ahead, and none has
issued in it. -/
structure SeqTurn (f cyc w : Nat) (s : State) : Prop where
  ahead : (s.fieldD f).cyc ≤ cyc
  started : (atCycle f cyc s).flag (F.FLD_STATUS_STARTED f) = true
  idle : ((atCycle f cyc s).fieldD f).seqCyc ≤ cyc
  word : seqWord (atCycle f cyc s) f = w

/-- The state in which a sequencer's bundle acts: the cycle is taken. -/
def seqTaken (f cyc : Nat) (s : State) : State :=
  (atCycle f cyc s).setField f { (atCycle f cyc s).fieldD f with seqCyc := cyc + 1 }

/-- A cell that acts in a cycle (R163, R408): its cluster is ON and the cycle lies ahead. `t` is the state at that cycle. -/
structure CellTurn (f pos cyc : Nat) (s t : State) : Prop where
  on : domState s (domOfCell f pos) = 3
  ahead : (s.fieldD f).cyc ≤ cyc
  after : t = atCycle f cyc s

/-- A frame that its port takes and that is addressed here (R302, R299, R311): the port's state carries its class, the link
layer and the header checks pass it. `t` is the state in which it is delivered. -/
structure Delivered (n : Nat) (fr : Frame) (s t : State) : Prop where
  carried : stateCarries s n fr = true
  link : (linkLayer n fr s).1 = true
  header : (headerOk n fr (linkLayer n fr s).2).1 = true
  after : t = freeCredit n fr (headerOk n fr (linkLayer n fr s).2).2
  here : isHere t fr = true

/-- A schedule entry of an ERU whose chunk `c` has a deadline in slot `k` that has come and has not been acted on (R259,
R265, R268). `r`: 0 the partial's deadline, 1 the result's. -/
structure DeadlineDue (n e c k r : Nat) (s : State) : Prop where
  on : entryOn s n e = true
  reduces : entryOp s n e ≠ 3
  chunk : c ≤ s.get (F.ERU_SCHED2_CHUNKS n e)
  inStep : entryInStep s n e = true
  due : slotFet s n e k ≤ s.fet
  first : acted s n e c r = false

/-- `n` steps one after another, as long as each answers a next state. -/
def run : Nat → State → Option State
  | 0, s => some s
  | n + 1, s => match step s with
    | .next t => run n t
    | _ => none

/-- Every table and structure of the module but its registers, its request queues and rings, its jobs, its outputs and the
part that a frame names otherwise: fields, cells, network interfaces, Vaults, ports and ERUs. -/
structure SameUnits (s t : State) : Prop where
  fields : t.fields = s.fields
  cells : t.cells = s.cells
  nis : t.nis = s.nis
  vaults : t.vaults = s.vaults
  ports : t.ports = s.ports
  erus : t.erus = s.erus

/-- What belongs to the module as a whole: time, partitions, the fault log, power, Chitin, the mesh, the manager and the
rack bus. -/
structure SameModule (s t : State) : Prop where
  fet : t.fet = s.fet
  time : t.time = s.time
  cicada : t.cicada = s.cicada
  parts : t.parts = s.parts
  log : t.log = s.log
  injects : t.injects = s.injects
  power : t.power = s.power
  boot : t.boot = s.boot
  mesh : t.mesh = s.mesh
  mgr : t.mgr = s.mgr
  bus : t.bus = s.bus

end Sys2Proof.Machine
end

