-- ==== Sys2Proof/Certificates/Slice0/Obligations.lean ====
section
/-!
DEFINITION. Certificates/Slice0/Obligations.lean: the statements about the module.
-/
open Sys2Proof Sys2Proof.Machine

/-! ### The command protocol (12_command_protocol) -/

/-- R385, R386, R387, R382: the opcodes that only ask, and an opcode nothing defines. NOP answers OK; IDENTIFY and
TIME_QUERY also answer while no system Scarab runs (R368); NEGOTIATE settles the queue's version or answers VERSION;
PART_QUERY clears the peak it reports. Model's choices: log entries 14, 17, 35, 36. -/
def Obligations.AskingOpcodesAnswer : Prop := ∀ (r : Request) (op : BitVec 8) (s : State),
  (ToScarab 0x00 false r s → exec (.nop r) s = .next (replied 0x00 r stOk [] (readIn r s))) ∧
  (ScarabTurn r s → precheck (readIn r s) 0x01 r false = none →
    exec (.identify r) s = .next (replied 0x01 r stOk (identity (readIn r s)) (readIn r s))) ∧
  (ToScarab 0x02 (short r 8 || !pZero r 6 8) r s → (settled r).1 = 0 →
    exec (.negotiate r) s = .next (replied 0x02 r stVersion [] (readIn r s))) ∧
  (ToScarab 0x02 (short r 8 || !pZero r 6 8) r s → (settled r).1 ≠ 0 →
    exec (.negotiate r) s = .next (replied 0x02 r stOk
      (leBytes (settled r).1 1 ++ leBytes (settled r).2.1 1 ++ leBytes (settled r).2.2 1 ++ [0])
      (setVer r.src (settled r).1 (readIn r s)))) ∧
  (ScarabTurn r s → precheck (readIn r s) 0x08 r false = none →
    exec (.timeQuery r) s = .next (replied 0x08 r stOk (timeResult (readIn r s) (reqPart r)) (readIn r s))) ∧
  (ToScarab 0x12 false r s →
    exec (.partQuery r) s = .next (replied 0x12 r stOk (partResult (readIn r s) (reqPart r))
      ((readIn r s).set (F.PRT_DRAW_PEAK (reqPart r)) 0))) ∧
  (ScarabTurn r s → opDefined op.toNat = false → noScpVersion (readIn r s) r.src = false →
    r.version.toNat = queueVer (readIn r s) r.src →
    exec (.badOpcodeRequest r op) s = .next (replied op.toNat r stBadOpcode [] (readIn r s)))

/-- R349, R350, R229, R387, R351: the opcodes that change partitions and keys. PART_CREATE, its checks passed and its regions
placed, grants the power, marks the partition CREATING, takes the fields and stages the share; PART_DESTROY of an existing
tenant begins the destruction; KEY_INSTALL of distinct key halves loads the keys it selects, else answers BAD_PARAM. Model's
choices: log entries 14, 16, 17, 18, 36, 38. -/
def Obligations.PartitionOpcodesTakeEffect : Prop := ∀ (r : Request) (s : State),
  (∀ u, ToScarab 0x10 (createBad s r) r s → changeBusy (readIn r s) = false → inflight (readIn r s) r.src < 64 →
    createCheck (readIn r s) r = none → placeRegions (reqPart r) r (readIn r s) = some u →
    ∃ v, v = stageShare (reqPart r) (pByte r 14) (ownFields (reqPart r) (pMask r 0) r
        (setChanging true (reqPart r) (setPartState
          (scaleBudgets (u.set (F.PRT_POWER_GRANTED (reqPart r)) (pLe r 12 2))) (reqPart r) 1))) ∧
      exec (.partCreate r) s = .next (taken 0x10 r
        (.partCreate (reqPart r) (pMask r 0) ((v.part (reqPart r)).commit.map (·.c) |>.getD 0)) v)) ∧
  (∀ st, ToScarab 0x10 (createBad s r) r s → changeBusy (readIn r s) = false → inflight (readIn r s) r.src < 64 →
    createCheck (readIn r s) r = some st → st ≠ stRetry →
    exec (.partCreate r) s = .next (replied 0x10 r st [] (readIn r s))) ∧
  (ToScarab 0x11 false r s → changeBusy (readIn r s) = false → partChanging (readIn r s) (reqPart r) = false →
    inflight (readIn r s) r.src < 64 → reqPart r ≠ 0 → partState (readIn r s) (reqPart r) ≠ 0 →
    exec (.partDestroy r) s = .next (taken 0x11 r (.partDestroy (reqPart r))
      (setChanging true (reqPart r) (beginDestroy (reqPart r) (readIn r s))))) ∧
  (ToScarab 0x11 false r s → changeBusy (readIn r s) = false → partChanging (readIn r s) (reqPart r) = false →
    inflight (readIn r s) r.src < 64 → reqPart r = 0 ∨ partState (readIn r s) (reqPart r) = 0 →
    exec (.partDestroy r) s = .next (replied 0x11 r stBadParam [] (readIn r s))) ∧
  (ToScarab 0x18 (short r 164 || decide (8 ≤ pByte r 0) || !pZero r 1 4) r s → keyBusy (reqPart r) (readIn r s) = false →
    keysEqual r = false → exec (.keyInstall r) s = .next (replied 0x18 r stOk [] (installKeys (reqPart r) r (readIn r s)))) ∧
  (ToScarab 0x18 (short r 164 || decide (8 ≤ pByte r 0) || !pZero r 1 4) r s → keyBusy (reqPart r) (readIn r s) = false →
    keysEqual r = true → exec (.keyInstall r) s = .next (replied 0x18 r stBadParam [] (readIn r s)))

/-- R182, R183, R184, R153, R154, R388: the plan opcodes. PLAN_LOAD stores the image that passes every check of Table 05.3,
or keeps the first failure, and waits for mover requests that reached its data before it; PLAN_BIND binds each field in service to its handle; PLAN_START starts every field in service
and makes the partition RUNNING; PLAN_STOP stops at once in MODE 1, and in MODE 0 marks each started field. Model's choices:
log entries 14, 15, 17, 18, 19, 20, 21, 22, 23, 25, 36, 63, 136, 167. -/
def Obligations.PlanOpcodesTakeEffect : Prop := ∀ (r : Request) (data : List Byte) (s : State),
  (∀ img u, ToScarab 0x20 (short r 20 || !pZero r 2 4 || decide (87 < pByte r 0) || decide (15 < pByte r 1) || dataRefBad r 4
      || inlineShort r 4) r s → partBusy r (readIn r s) = false → loading (readIn r s) (pByte r 0) (pByte r 1) = false →
    inflight (readIn r s) r.src < 64 → dataWaits (readIn r s) (dataRef r 4) = false →
    fetchData r (dataRef r 4) data (readIn r s) = (img, u) →
    (img = none → exec (.planLoad r data) s = .next (takenDecided 0x20 r (.planLoad (pByte r 0) (pByte r 1) none) stFaulted []
      (readIn r s).fet u)) ∧
    (∀ l, img = some l → loadFault u (reqPart r) (pByte r 0) (pByte r 1) l = none →
      exec (.planLoad r data) s = .next (takenDecided 0x20 r (.planLoad (pByte r 0) (pByte r 1) none) stOk [] (readIn r s).fet
        (showStore (pByte r 0) (u.setField (pByte r 0) { u.fieldD (pByte r 0) with
          store := AMap.put (fun _ => []) (u.fieldD (pByte r 0)).store (pByte r 1) l })))) ∧
    (∀ l e, img = some l → loadFault u (reqPart r) (pByte r 0) (pByte r 1) l = some e →
      exec (.planLoad r data) s = .next (takenDecided 0x20 r (.planLoad (pByte r 0) (pByte r 1) none)
        (loadStatus e.1) [] (readIn r s).fet (recordLoadErr (reqPart r) (pByte r 0) (pByte r 1) e u)))) ∧
  (ToScarab 0x20 (short r 20 || !pZero r 2 4 || decide (87 < pByte r 0) || decide (15 < pByte r 1) || dataRefBad r 4
      || inlineShort r 4) r s → partBusy r (readIn r s) = false → loading (readIn r s) (pByte r 0) (pByte r 1) = false →
    inflight (readIn r s) r.src < 64 → dataWaits (readIn r s) (dataRef r 4) = true →
    exec (.planLoad r data) s = .next (taken 0x20 r (.planLoad (pByte r 0) (pByte r 1) (some r)) (readIn r s))) ∧
  (ToScarab 0x21 (short r 44) r s → partBusy r (readIn r s) = false → planStarted (readIn r s) (reqPart r) = false →
    (partServing (readIn r s) (reqPart r)).any (fun f => loading (readIn r s) f (bindHandle r f)) = false → reqPart r ≠ 0 →
    allFields.any (fun f => bindHandle r f != 0 && !(partFields (readIn r s) (reqPart r)).contains f) = false →
    bindable (readIn r s) (partServing (readIn r s) (reqPart r)) (bindHandle r) = true →
    exec (.planBind r) s = .next (replied 0x21 r stOk []
      (((readIn r s).forEach (partFields (readIn r s) (reqPart r))
          (fun f t => (t.set (F.FLD_STATUS_BOUND f) 0).set (F.FLD_STATUS_IMAGE f) 0)).forEach
        (partServing (readIn r s) (reqPart r)) (fun f t => bindField f (bindHandle r f) t)))) ∧
  (ToScarab 0x21 (short r 44) r s → partBusy r (readIn r s) = false → planStarted (readIn r s) (reqPart r) = false →
    (partServing (readIn r s) (reqPart r)).any (fun f => loading (readIn r s) f (bindHandle r f)) = false →
    reqPart r = 0 ∨ allFields.any (fun f => bindHandle r f != 0 && !(partFields (readIn r s) (reqPart r)).contains f) = true ∨
      bindable (readIn r s) (partServing (readIn r s) (reqPart r)) (bindHandle r) = false →
    exec (.planBind r) s = .next (replied 0x21 r stBadParam [] (readIn r s))) ∧
  (ToScarab 0x22 false r s → partBusy r (readIn r s) = false →
    partState (readIn r s) (reqPart r) ≠ 2 ∨ (partServing (readIn r s) (reqPart r)).isEmpty = true ∨
      (partServing (readIn r s) (reqPart r)).any (fun f => !(readIn r s).flag (F.FLD_STATUS_BOUND f)) = true →
    exec (.planStart r) s = .next (replied 0x22 r stBadParam [] (readIn r s))) ∧
  (ToScarab 0x22 false r s → partBusy r (readIn r s) = false → partState (readIn r s) (reqPart r) = 2 →
    (partServing (readIn r s) (reqPart r)).isEmpty = false →
    (partServing (readIn r s) (reqPart r)).any (fun f => !(readIn r s).flag (F.FLD_STATUS_BOUND f)) = false →
    ∀ t u, t = resetUpdates (reqPart r) ((readIn r s).setPart (reqPart r) { (readIn r s).part (reqPart r) with
        rerun := false, rerunRecs := [], nextRecs := [] }) →
      u = { t with power := { t.power with firstPlan := some (t.power.firstPlan.getD t.fet) } } →
      exec (.planStart r) s = .next (replied 0x22 r stOk []
        (unqualifyFars (setPartState (u.forEach (partServing (readIn r s) (reqPart r)) startField) (reqPart r) 3)))) ∧
  (ToScarab 0x23 (short r 1 || pByte r 0 != 0) r s → partBusy r (readIn r s) = false →
    stopPending (readIn r s) (reqPart r) = false → inflight (readIn r s) r.src < 64 →
    planStarted (readIn r s) (reqPart r) = false →
    exec (.planStopGraceful r) s = .next (replied 0x23 r stOk [] (readIn r s))) ∧
  (∀ fs, ToScarab 0x23 (short r 1 || pByte r 0 != 0) r s → partBusy r (readIn r s) = false →
    stopPending (readIn r s) (reqPart r) = false → inflight (readIn r s) r.src < 64 →
    planStarted (readIn r s) (reqPart r) = true →
    fs = (partFields (readIn r s) (reqPart r)).filter (fun f => (readIn r s).flag (F.FLD_STATUS_STARTED f)) →
    exec (.planStopGraceful r) s = .next (taken 0x23 r (.planStop (reqPart r))
      (((closeSteps (reqPart r) (readIn r s)).forEach fs (fun f t => t.set (F.FLD_STATUS_STOP_PENDING f) 1)).forEach fs
        (fun f t => if bKind (seqWord t f) = 1 then stopAtZero f t else t)))) ∧
  (ToScarab 0x23 (short r 1 || pByte r 0 != 1) r s → partBusy r (readIn r s) = false →
    planStarted (readIn r s) (reqPart r) = false →
    exec (.planStopImmediate r) s = .next (replied 0x23 r stOk [] (readIn r s))) ∧
  (∀ u, ToScarab 0x23 (short r 1 || pByte r 0 != 1) r s → partBusy r (readIn r s) = false →
    planStarted (readIn r s) (reqPart r) = true →
    u = (loseStep (reqPart r) (closeSteps (reqPart r) (readIn r s))).forEach (partFields (readIn r s) (reqPart r)) stopField →
    exec (.planStopImmediate r) s = .next (replied 0x23 r stOk []
      (endJobs (fun w => match w with | .planStop q => q == reqPart r | _ => false) stOk []
        (if partState u (reqPart r) = 3 then setPartState u (reqPart r) 2 else u))))

/-- R389, R390, R73: STEP_ARM arms a boundary at least 100 µs ahead and later than every armed one, else answers BAD_PARAM;
STEP_COMMIT of a boundary armed or begun waits until the step is committed, answers its result at once where it is, and
QUENCHED where the step was given up. Model's choices: log entries 14, 17, 23, 24, 36. -/
def Obligations.StepOpcodesTakeEffect : Prop := ∀ (r : Request) (s : State),
  (ToScarab 0x28 (short r 8) r s → partBusy r (readIn r s) = false → fetInvalid (readIn r s) = false →
    ((readIn r s).part (reqPart r)).armed.length < 4 →
    (tooSoon (readIn r s) (pLe r 0 8) = false →
      ((readIn r s).part (reqPart r)).armed.any (fun a => decide (pBoundary r 0 ≤ a)) = false →
      exec (.stepArm r) s = .next (replied 0x28 r stOk [] ((readIn r s).setPart (reqPart r)
        { (readIn r s).part (reqPart r) with armed := ((readIn r s).part (reqPart r)).armed ++ [pBoundary r 0] }))) ∧
    (tooSoon (readIn r s) (pLe r 0 8) = true ∨
      ((readIn r s).part (reqPart r)).armed.any (fun a => decide (pBoundary r 0 ≤ a)) = true →
      exec (.stepArm r) s = .next (replied 0x28 r stBadParam [] (readIn r s)))) ∧
  (ToScarab 0x28 (short r 8) r s → partBusy r (readIn r s) = false → fetInvalid (readIn r s) = false →
    4 ≤ ((readIn r s).part (reqPart r)).armed.length →
    exec (.stepArm r) s = .next (replied 0x28 r stBusy [] (readIn r s))) ∧
  (ToScarab 0x29 (short r 8) r s → partBusy r (readIn r s) = false → fetInvalid (readIn r s) = false →
    inflight (readIn r s) r.src < 64 → ((readIn r s).part (reqPart r)).armed.contains (pBoundary r 0) = false →
    ((readIn r s).part (reqPart r)).steps.any (fun k => k.base == pBoundary r 0) = false →
    exec (.stepCommit r) s = .next (replied 0x29 r stBadParam [] (readIn r s))) ∧
  (ToScarab 0x29 (short r 8) r s → partBusy r (readIn r s) = false → fetInvalid (readIn r s) = false →
    inflight (readIn r s) r.src < 64 →
    ((readIn r s).part (reqPart r)).armed.contains (pBoundary r 0) = true ∨
      ((readIn r s).part (reqPart r)).steps.any (fun k => k.base == pBoundary r 0) = true →
    (stepCommitted (readIn r s) (reqPart r) (pBoundary r 0) = true →
      exec (.stepCommit r) s = .next (takenDecided 0x29 r (.stepCommit (reqPart r) (pBoundary r 0)) stOk
        (commitResult (readIn r s) (reqPart r) (pBoundary r 0)) (readIn r s).fet (readIn r s))) ∧
    (stepCommitted (readIn r s) (reqPart r) (pBoundary r 0) = false →
      ((readIn r s).part (reqPart r)).steps.any (fun k => k.base == pBoundary r 0 && k.lost) = true →
      exec (.stepCommit r) s = .next (takenDecided 0x29 r (.stepCommit (reqPart r) (pBoundary r 0)) stQuenched []
        (readIn r s).fet (readIn r s))) ∧
    (stepCommitted (readIn r s) (reqPart r) (pBoundary r 0) = false →
      ((readIn r s).part (reqPart r)).steps.any (fun k => k.base == pBoundary r 0 && k.lost) = false →
      exec (.stepCommit r) s = .next (taken 0x29 r (.stepCommit (reqPart r) (pBoundary r 0)) (readIn r s))))

/-- R391, R238, R233: the data opcodes. A MOVE into a tier reads its source, or names it in Tier C, and is on its way; a MOVE
out of a tier keeps its data reference; QUEUE_CONFIG of idle queues of the requester's own fields sets priority, limit and depth; CKPT_WRITE arms the
checkpoint; CKPT_RESTORE names the slot it restores. Model's choices: log entries 14, 17, 20, 24, 36. -/
def Obligations.DataOpcodesTakeEffect : Prop := ∀ (r : Request) (data : List Byte) (s : State),
  (∀ l u, ToScarab 0x30 (moveBad 0 r) r s → partBusy r (readIn r s) = false → inflight (readIn r s) r.src < 64 →
    moveCheck (readIn r s) r = none → (dataRef r 16).kind ≠ 2 → fetchData r (dataRef r 16) data (readIn r s) = (some l, u) →
    exec (.moveIntoTier r data) s = .next (taken 0x30 r (.move (reqPart r) 0 (pByte r 1) (pByte r 2) (pLe r 8 8) l) u)) ∧
  (ToScarab 0x30 (moveBad 0 r) r s → partBusy r (readIn r s) = false → inflight (readIn r s) r.src < 64 →
    moveCheck (readIn r s) r = none → (dataRef r 16).kind = 2 → exec (.moveIntoTier r data) s = .next (taken 0x30 r
      (.move (reqPart r) 2 (pByte r 1) (pByte r 2) (pLe r 8 8) ((r.params.drop 16).take 16)) (readIn r s))) ∧
  (∀ st, ToScarab 0x30 (moveBad 1 r) r s → partBusy r (readIn r s) = false → inflight (readIn r s) r.src < 64 →
    moveCheck (readIn r s) r = some st → exec (.moveOutOfTier r) s = .next (replied 0x30 r st [] (readIn r s))) ∧
  (∀ st, ToScarab 0x30 (moveBad 0 r) r s → partBusy r (readIn r s) = false → inflight (readIn r s) r.src < 64 →
    moveCheck (readIn r s) r = some st → exec (.moveIntoTier r data) s = .next (replied 0x30 r st [] (readIn r s))) ∧
  (ToScarab 0x30 (moveBad 1 r) r s → partBusy r (readIn r s) = false → inflight (readIn r s) r.src < 64 →
    moveCheck (readIn r s) r = none →
    exec (.moveOutOfTier r) s = .next (taken 0x30 r
      (.move (reqPart r) 1 (pByte r 1) (pByte r 2) (pLe r 8 8) ((r.params.drop 16).take 16)) (readIn r s))) ∧
  (ToScarab 0x31 (queueBad r) r s → partBusy r (readIn r s) = false →
    (maskFields (pMask r 0)).any (fun f => ownerOf (readIn r s) f != reqPart r) = false →
    (maskFields (pMask r 0)).any (fun f => decide (512 < depthSum (readIn r s) f (pByte r 11) (pLe r 14 2))) = false →
    queueHeld (readIn r s) r = false →
    exec (.queueConfig r) s = .next (replied 0x31 r stOk [] ((readIn r s).forEach (maskFields (pMask r 0)) (fun f t =>
      ((t.set (F.VLT_MQ_CFG_PRIO f (pByte r 11)) (pByte r 12)).set (F.VLT_MQ_CFG_OUT_LIMIT f (pByte r 11)) (pByte r 13)).set
        (F.VLT_MQ_CFG_DEPTH f (pByte r 11)) (pLe r 14 2))))) ∧
  (∀ slot, ToScarab 0x38 (ckptBad r) r s → partBusy r (readIn r s) = false → fetInvalid (readIn r s) = false →
    ckptBusy (readIn r s) (reqPart r) (ckptRegions r) = false → inflight (readIn r s) r.src < 64 →
    tooSoon (readIn r s) (pLe r 0 8) = false → ckptRefused (readIn r s) (reqPart r) (ckptRegions r) = false →
    slot = (match newestCkpt (readIn r s) (reqPart r) with | some (k, _) => 1 - k | none => 0) →
    exec (.ckptWrite r) s = .next (taken 0x38 r (.ckptWrite (reqPart r)) ((readIn r s).setPart (reqPart r)
      { (readIn r s).part (reqPart r) with ckptAt := some (pBoundary r 0), ckptRegions := ckptRegions r, ckptSlot := slot }))) ∧
  (ToScarab 0x38 (ckptBad r) r s → partBusy r (readIn r s) = false → fetInvalid (readIn r s) = false →
    ckptBusy (readIn r s) (reqPart r) (ckptRegions r) = false → inflight (readIn r s) r.src < 64 →
    tooSoon (readIn r s) (pLe r 0 8) = true ∨ ckptRefused (readIn r s) (reqPart r) (ckptRegions r) = true →
    exec (.ckptWrite r) s = .next (replied 0x38 r stBadParam [] (readIn r s))) ∧
  (∀ slot, ToScarab 0x39 (short r 1 || decide (2 < pByte r 0)) r s →
    partState (readIn r s) (reqPart r) = 2 ∨ partState (readIn r s) (reqPart r) = 4 →
    ckptWriting (readIn r s) (reqPart r) = false → inflight (readIn r s) r.src < 64 →
    slot = (if pByte r 0 = 0 then (newestCkpt (readIn r s) (reqPart r)).map (·.1) else some (pByte r 0 - 1)) →
    (∀ k, slot = some k → (slotEpoch (readIn r s) (reqPart r) k).isSome = true →
      exec (.ckptRestore r) s = .next (taken 0x39 r (.ckptRestore (reqPart r) k) (readIn r s))) ∧
    (slot.any (fun k => (slotEpoch (readIn r s) (reqPart r) k).isSome) = false →
      exec (.ckptRestore r) s = .next (replied 0x39 r stBadParam [] (readIn r s))))

/-- R392, R212: the placement opcodes. MIGRATE of a partition whose plan is not running waits for its withdrawal; MAP_UPDATE
fills the shadow copies and starts to zero the reserves it brings in. Model's choices: log entries 14, 17, 25, 28, 29, 36. -/
def Obligations.PlacementOpcodesTakeEffect : Prop := ∀ (r : Request) (s : State),
  (ToScarab 0x40 (short r 24 || !pZero r 11 16 || !([1, 2].contains (maskFields (pMask r 0)).length)) r s →
    migrateBusy (reqPart r) (readIn r s) = false →
    inflight (readIn r s) r.src < 64 →
    (migrateOk (readIn r s) (reqPart r) (pMask r 0) (pLe r 16 8) = false →
      exec (.migrate r) s = .next (replied 0x40 r stBadParam [] (readIn r s))) ∧
    (migrateOk (readIn r s) (reqPart r) (pMask r 0) (pLe r 16 8) = true → partState (readIn r s) (reqPart r) ≠ 3 →
      exec (.migrate r) s = .next (taken 0x40 r (.migrate (reqPart r) (pMask r 0) 0) (readIn r s))) ∧
    (∀ w t, migrateOk (readIn r s) (reqPart r) (pMask r 0) (pLe r 16 8) = true → partState (readIn r s) (reqPart r) = 3 →
      planStopGraceful (reqPart r) (readIn r s) = .later w t →
      exec (.migrate r) s = .next (taken 0x40 r (.migrate (reqPart r) (pMask r 0) (pBoundary r 16)) t))) ∧
  (ToScarab 0x41 (mapBad r) r s →
    partBusy r (readIn r s) = false → fetInvalid (readIn r s) = false → mapBusy (readIn r s) r = false →
    inflight (readIn r s) r.src < 64 → mapOk (readIn r s) r = false →
    exec (.mapUpdate r) s = .next (replied 0x41 r stBadParam [] (readIn r s))) ∧
  (∀ u v, ToScarab 0x41 (mapBad r) r s →
    partBusy r (readIn r s) = false → fetInvalid (readIn r s) = false → mapBusy (readIn r s) r = false →
    inflight (readIn r s) r.src < 64 → mapOk (readIn r s) r = true →
    u = ((readIn r s).forEach (List.range (mapCells r).length) (fun i t =>
      match (mapCells r)[i]? with
      | some e => startZero (e.1 / 64) e.2 t
      | none => t)) →
    v = (({ u with mesh := { u.mesh with shadow := some {
        at_ := pLe r 0 8, part := reqPart r, l2p := mapCells r, fieldOk := (mapPass r).map (fun e => (e.1, e.2 == 1))
        owner := mapMoves r
        gens := ((mapCells r).map (fun e => ownerOf (readIn r s) (e.1 / 64))
          ++ (mapMoves r).map (fun e => ownerOf (readIn r s) e.1) ++ (mapMoves r).map (·.2)
          ++ (mapPass r).map (fun e => ownerOf (readIn r s) e.1)).eraseDups } } } : State).set F.MSH_MAP_STATUS_PENDING 1) →
    exec (.mapUpdate r) s = .next (taken 0x41 r (.mapUpdate (reqPart r) (pLe r 0 8) (!(mapMoves r).isEmpty))
      (if (mapMoves r).isEmpty then v else setChanging true (reqPart r) v)))

/-- R395, R397, R398, R393, R358, R415, R482: the configuration, envelope and sentinel opcodes. Model's choices: log entries
14, 17, 24, 26, 30, 36, 50. -/
def Obligations.ConfigurationOpcodesTakeEffect : Prop := ∀ (r : Request) (s : State),
  (∀ base l, ToScarab 0x48 (stageBad r) r s → partBusy r (readIn r s) = false → commitPending (readIn r s) r = false →
    base = (if pByte r 0 = 1 then [] else ((readIn r s).part (reqPart r)).staging) →
    base.length + ((List.range (pLe r 2 2)).map (stageEntry r)).length ≤ 1024 →
    stageAll (readIn r s) (reqPart r) (reqFn r != 0) base ((List.range (pLe r 2 2)).map (stageEntry r)) = some l →
    ∃ u, u = (readIn r s).setPart (reqPart r) { (readIn r s).part (reqPart r) with staging := l, staged := true } ∧
      exec (.cfgStage r) s = .next (replied 0x48 r stOk (stageResult u (reqPart r)) u)) ∧
  (∀ base, ToScarab 0x48 (stageBad r) r s → partBusy r (readIn r s) = false → commitPending (readIn r s) r = false →
    base = (if pByte r 0 = 1 then [] else ((readIn r s).part (reqPart r)).staging) →
    1024 < base.length + ((List.range (pLe r 2 2)).map (stageEntry r)).length ∨
      stageAll (readIn r s) (reqPart r) (reqFn r != 0) base ((List.range (pLe r 2 2)).map (stageEntry r)) = none →
    exec (.cfgStage r) s = .next (replied 0x48 r stBadParam [] (readIn r s))) ∧
  (ToScarab 0x49 (short r 48 || !pZero r 2 8) r s → partBusy r (readIn r s) = false → fetInvalid (readIn r s) = false →
    commitPending (readIn r s) r = false → inflight (readIn r s) r.src < 64 → commitOk (readIn r s) r = true →
    exec (.cfgCommit r) s = .next (taken 0x49 r (.cfgCommit (reqPart r) (pBoundary r 8))
      (((readIn r s).setPart (reqPart r) { (readIn r s).part (reqPart r) with
          commit := some ⟨pBoundary r 8, stagedEpoch (readIn r s) (reqPart r),
            stagedDigest (readIn r s) (reqPart r) ((readIn r s).part (reqPart r)).staging⟩ }).set
        (F.CHT_CFG_STATUS_PENDING (reqPart r)) 1))) ∧
  (ToScarab 0x49 (short r 48 || !pZero r 2 8) r s → partBusy r (readIn r s) = false → fetInvalid (readIn r s) = false →
    commitPending (readIn r s) r = false → inflight (readIn r s) r.src < 64 → commitOk (readIn r s) r = false →
    exec (.cfgCommit r) s = .next (replied 0x49 r stBadParam [] (readIn r s))) ∧
  (∀ all, ToScarab 0x50 (envBad r) r s → fetInvalid (readIn r s) = false →
    all = (breakpoints (readIn r s)).filter (fun b => decide (b.fet < ((envPoints r).headD ⟨0, 0, 0, 0⟩).fet)) ++ envPoints r →
    (rising (envPoints r) = true → tooSoon (readIn r s) (pLe r 8 8) = false →
      (envPoints r).all pointOk = true → all.length ≤ 12 →
      exec (.envelopeSet r) s = .next (replied 0x50 r stOk [] (setBreakpoints all (readIn r s)))) ∧
    (rising (envPoints r) = false ∨ tooSoon (readIn r s) (pLe r 8 8) = true ∨
      (envPoints r).all pointOk = false ∨ 12 < all.length →
      exec (.envelopeSet r) s = .next (replied 0x50 r stBadParam [] (readIn r s)))) ∧
  (ToScarab 0x50 (short r 4 || pByte r 0 != 1 || pByte r 1 == 0 || decide (7 < pByte r 1)) r s →
    partState (readIn r s) (pByte r 1) ≠ 0 → partState (readIn r s) (pByte r 1) ≠ 1 → partState (readIn r s) (pByte r 1) ≠ 5 →
    grantedSum (readIn r s) - (readIn r s).get (F.PRT_POWER_GRANTED (pByte r 1)) + pLe r 2 2 ≤ tenantPool (readIn r s) →
    exec (.envelopeSetBudget r) s = .next (replied 0x50 r stOk []
      (scaleBudgets ((readIn r s).set (F.PRT_POWER_GRANTED (pByte r 1)) (pLe r 2 2))))) ∧
  (ToScarab 0x60 (short r 16 || pByte r 11 != 0 || pLe r 12 4 == 0) r s → partBusy r (readIn r s) = false →
    planStarted (readIn r s) (reqPart r) = false → inflight (readIn r s) r.src < 64 →
    (maskFields (pMask r 0)).any (fun f => ownerOf (readIn r s) f != reqPart r) = false →
    exec (.sentinelRun r) s = .next (taken 0x60 r
      (.sentinelRun (reqPart r) (pMask r 0) (pLe r 12 4) ((readIn r s).rd R.FLT_LOG_HEAD).toNat)
      ((readIn r s).forEach (((readIn r s).cells.map (·.1)).filter (fun k => (maskFields (pMask r 0)).contains (k / 72)))
        (fun k t => t.setCell (k / 72) (k % 72) { t.cell (k / 72) (k % 72) with runTiles := 0, tile := none }))))

/-- R393, R465, R466, R489: the fault opcodes. Model's choices: log entries 14, 17, 33, 34, 35, 36, 50, 81, 134. -/
def Obligations.FaultOpcodesTakeEffect : Prop := ∀ (r : Request) (s : State),
  (ScarabTurn r s → precheck (readIn r s) 0x58 r (short r 8 || decide (2 < pByte r 0) || !pZero r 1 4) = none → pByte r 0 = 0 →
    exec (.faultQuery r) s = .next (replied 0x58 r stOk (faultSummary r (readIn r s)) (readIn r s))) ∧
  (∀ k, ScarabTurn r s → precheck (readIn r s) 0x58 r (short r 8 || decide (2 < pByte r 0) || !pZero r 1 4) = none →
    pByte r 0 ≠ 0 →
    k = (if pByte r 0 = 1 then pLe r 4 4 else lowestIndex ((visible r (readIn r s)).filter (fun x => !x.cleared))) →
    (∀ x, (visible r (readIn r s)).find? (fun y => y.index == k) = some x →
      exec (.faultQuery r) s = .next (replied 0x58 r stOk (recordBytes x) (readStore x.index (readIn r s)))) ∧
    ((visible r (readIn r s)).find? (fun y => y.index == k) = none →
      exec (.faultQuery r) s = .next (replied 0x58 r stBadParam [] (readIn r s)))) ∧
  (ToScarab 0x59 (short r 16) r s → injectReg (pLe r 0 4) = true → pLe r 8 8 = 0 →
    exec (.faultInject r) s = .next (replied 0x59 r
      (injectWrite (pLe r 0 4) (BitVec.ofNat 32 (pLe r 4 4)) (readIn r s)).1 []
      (injectWrite (pLe r 0 4) (BitVec.ofNat 32 (pLe r 4 4)) (readIn r s)).2)) ∧
  (ToScarab 0x59 (short r 16) r s → injectReg (pLe r 0 4) = true → pLe r 8 8 ≠ 0 → fetInvalid (readIn r s) = false →
    inflight (readIn r s) r.src < 64 →
    exec (.faultInject r) s = .next (taken 0x59 r (.inject (reqPart r) (pLe r 0 4) (pLe r 8 8)) { readIn r s with
      injects := (readIn r s).injects ++ [⟨reqPart r, pLe r 0 4, BitVec.ofNat 32 (pLe r 4 4), pLe r 8 8⟩] })) ∧
  (ToScarab 0x59 (short r 16) r s → injectReg (pLe r 0 4) = false → pLe r 8 8 = 0 →
    exec (.faultInject r) s = .next (replied 0x59 r stBadParam [] (readIn r s))) ∧
  (∀ x, ToScarab 0x5a (short r 4) r s → (visible r (readIn r s)).find? (fun y => y.index == pLe r 0 4) = some x →
    (x.cls = 5 ∨ (x.cls = 4 ∧ reqFn r ≠ 0) →
      exec (.faultClear r) s = .next (replied 0x5a r stDenied [] (readIn r s))) ∧
    (x.cls ≠ 5 → (x.cls = 4 → reqFn r = 0) → causePresent (readIn r s) x = true →
      exec (.faultClear r) s = .next (replied 0x5a r stFaulted [] (readIn r s))) ∧
    (x.cls ≠ 5 → (x.cls = 4 → reqFn r = 0) → causePresent (readIn r s) x = false →
      exec (.faultClear r) s = .next (replied 0x5a r stOk [] (clearRecord x (readIn r s)))))

/-- R394, R413, R414, R446, R449, R470, R474: the opcodes of Chitin's front end. Model's choices: log entries 14, 17, 18, 27,
31, 32, 35, 36, 104, 108, 116. -/
def Obligations.ChitinOpcodesTakeEffect : Prop := ∀ (r : Request) (s : State),
  (ToChitin 0x70 (quenchBad 0 r) r s → reqPart r ≠ 0 →
    partState (readIn r s) (reqPart r) = 2 ∨ partState (readIn r s) (reqPart r) = 3 →
    exec (.quenchPartition r) s = .next (advance r.src r.seq
      { (raiseAs 3 (quenchSlew r (readIn r s)) true (quenchEvent (reqPart r) r) (readIn r s)).2 with
        jobs := (raiseAs 3 (quenchSlew r (readIn r s)) true (quenchEvent (reqPart r) r) (readIn r s)).2.jobs
          ++ [⟨r.src, reqPart r, r.seq, r.token, 0x70, .quench (reqPart r), none⟩] })) ∧
  (ToChitin 0x70 (quenchBad 0 r) r s → reqPart r ≠ 0 →
    partState (readIn r s) (reqPart r) = 4 ∨ partState (readIn r s) (reqPart r) = 5 →
    exec (.quenchPartition r) s = .next (replied 0x70 r stOk [] (readIn r s))) ∧
  (ToChitin 0x70 (quenchBad 0 r) r s → reqPart r = 0 ∨ partState (readIn r s) (reqPart r) = 0 →
    partState (readIn r s) (reqPart r) ≠ 1 →
    exec (.quenchPartition r) s = .next (replied 0x70 r stBadParam [] (readIn r s))) ∧
  (ToChitin 0x70 (quenchBad 1 r) r s → moduleQuenched (readIn r s) = false →
    exec (.quenchModule r) s = .next (advance r.src r.seq
      { (raiseAs 4 (quenchSlew r (readIn r s)) true (quenchEvent 0 r) (readIn r s)).2 with
        jobs := (raiseAs 4 (quenchSlew r (readIn r s)) true (quenchEvent 0 r) (readIn r s)).2.jobs
          ++ [⟨r.src, reqPart r, r.seq, r.token, 0x70, .quench 0, none⟩] })) ∧
  (ToChitin 0x70 (quenchBad 1 r) r s → moduleQuenched (readIn r s) = true →
    exec (.quenchModule r) s = .next (replied 0x70 r stOk [] (readIn r s))) ∧
  (ToChitin 0x71 (domainBad 0 r) r s → domainBusy r (readIn r s) = false →
    exec (.powerDomainOff r) s = .next (replied 0x71 r stOk [] (turnOff (domainOf r) (readIn r s)))) ∧
  (ToChitin 0x71 (domainBad 1 r) r s → domainBusy r (readIn r s) = false → inflight (readIn r s) r.src < 64 →
    locked (readIn r s) = false →
    (domState (readIn r s) (domainOf r) = 3 → exec (.powerDomainOn r) s = .next
      (takenDecided 0x71 r (.domainOn (domainOf r)) stOk (leBytes 0 4) (readIn r s).fet (readIn r s))) ∧
    (domState (readIn r s) (domainOf r) ≠ 3 → domState (readIn r s) (domainOf r) = 5 ∨ heldOff (readIn r s) (domainOf r) = true →
      exec (.powerDomainOn r) s = .next
        (takenDecided 0x71 r (.domainOn (domainOf r)) stFaulted [] (readIn r s).fet (readIn r s))) ∧
    (domState (readIn r s) (domainOf r) ≠ 3 → domState (readIn r s) (domainOf r) ≠ 5 → heldOff (readIn r s) (domainOf r) = false →
      (waking (readIn r s) (domainOf r) = true →
        exec (.powerDomainOn r) s = .next (taken 0x71 r (.domainOn (domainOf r)) (readIn r s))) ∧
      (waking (readIn r s) (domainOf r) = false → exec (.powerDomainOn r) s = .next (taken 0x71 r (.domainOn (domainOf r))
        (requestWake ⟨domainOf r, if domainOf r % 9 = 8 then 2 else if domState (readIn r s) (domainOf r) = 0 then 1 else 0,
          pByte r 4, ownerOf (readIn r s) (domainOf r / 9), (readIn r s).fet⟩ (readIn r s)))))) ∧
  (∀ c bad, c ∈ [(Instr.powerDomainOn r, 0x71, domainBad 1 r), (.resetModule r, 0x7f, resetBad 1 r), (.resetPinSafe r, 0x7f, resetBad 2 r)] →
    bad = c.2.2 → ToChitin c.2.1 bad r s →
    (c.2.1 = 0x71 → domainBusy r (readIn r s) = false ∧ inflight (readIn r s) r.src < 64) → locked (readIn r s) = true →
    exec c.1 s = .next (replied c.2.1 r stFaulted [] (readIn r s))) ∧
  (ToChitin 0x71 (short r 8 || pByte r 0 != 2 || !pZero r 5 8) r s → anyPlanStarted (readIn r s) = false →
    exec (.powerDomainModuleOff r) s = .next (replied 0x71 r stOk [] (powerDown (readIn r s)))) ∧
  (ToChitin 0x7f (resetBad 0 r) r s → (readIn r s).flag F.CHT_STATUS_RUNNING = false → inflight (readIn r s) r.src < 64 →
    locked (readIn r s) = false → uncleared4 (readIn r s) = false → (readIn r s).boot.inputLost = false → 4 ≤ stepDone (readIn r s) →
    exec (.resetWarmReinit r) s = .next (taken 0x7f r .warm (warmStart (readIn r s)))) ∧
  (ToChitin 0x7f (resetBad 0 r) r s → (readIn r s).flag F.CHT_STATUS_RUNNING = false → inflight (readIn r s) r.src < 64 →
    locked (readIn r s) = true ∨ uncleared4 (readIn r s) = true ∨ (readIn r s).boot.inputLost = true ∨ stepDone (readIn r s) < 4 →
    exec (.resetWarmReinit r) s = .next (replied 0x7f r stFaulted [] (readIn r s))) ∧
  (ToChitin 0x7f (resetBad 1 r) r s → locked (readIn r s) = false →
    exec (.resetModule r) s = .next (moduleReset (replied 0x7f r stOk [] (readIn r s)))) ∧
  (ToChitin 0x7f (resetBad 2 r) r s → locked (readIn r s) = false →
    exec (.resetPinSafe r) s = .next (replied 0x7f r stOk [] (pinsSafe (readIn r s))))

/-- R382, R375, R353, R383: whatever the opcode, a request whose turn it is and that a check refuses is answered with that
check's status and changes nothing else; its place in the sequence is taken. Model's choices: log entries 14, 17, 35. -/
def Obligations.RefusedRequestsChangeNothing : Prop := ∀ (i : Instr) (s : State) (op : Nat) (bad : Bool) (r : Request) (st : Nat),
  precheck (readIn r s) op r bad = some st →
  (scarabRow s i = some (op, bad, r) → ScarabTurn r s → exec i s = .next (replied op r st [] (readIn r s))) ∧
  (chitinRow i = some (op, bad, r) → ChitinTurn r s → exec i s = .next (replied op r st [] (readIn r s)))

/-- R377, R378: a request whose sequence number lies 1 to 64 behind is a duplicate: it does not act again, the stored reply goes
out again. One farther behind answers BAD_PARAM; one ahead answers RETRY with the number the queue expects. One whose turn it
is and that carries FENCE while an earlier one has not completed waits, with no reply, and every later one behind it.
Model's choices: log entries 14, 35, 112, 127. -/
def Obligations.SequenceAndFenceHold : Prop := ∀ (i : Instr) (s : State) (op : Nat) (bad : Bool) (r : Request),
  scarabRow s i = some (op, bad, r) → Admitted r s → (queueOf (readIn r s) r.src).consumed.contains r.seq = false →
  (∀ n, n = (queueNext (readIn r s) r.src - r.seq).toNat →
    (1 ≤ n → n ≤ 64 → exec i s = .next (replay op r (readIn r s))) ∧
    (64 < n → n < 2 ^ 31 → exec i s = .next (answerOnly r op stBadParam [] (readIn r s))) ∧
    (2 ^ 31 ≤ n → (queueOf (readIn r s) r.src).held = [] → exec i s = .next (answerOnly r op stRetry
      (leBytes (queueNext (readIn r s) r.src).toNat 4) (readIn r s))) ∧
    (n = 0 → r.flags &&& 2 ≠ 0 → unfinished (readIn r s) r.src ≠ 0 → exec i s = .next (holdRequest i r (readIn r s))) ∧
    (n = 0 ∨ 2 ^ 31 ≤ n → (queueOf (readIn r s) r.src).held ≠ [] → exec i s = .next (holdRequest i r (readIn r s))))

/-- R382, R321: the checks before an opcode's own stand in the order of their statuses: VERSION, which also answers a request
over a port that settled no SCP version, BAD_OPCODE, DENIED, BAD_PARAM, QUENCHED, and a check answers only where every earlier
one passes. Model's choices: log entries 14, 17, 36. -/
def Obligations.HeaderChecksStandInOrder : Prop := ∀ (s : State) (op : Nat) (r : Request) (bad : Bool),
  (precheck s op r bad = some stVersion ↔
    ((∃ c n, r.src = .snl c n ∧ s.get (F.SNL_NEG_SCP n) = 0) ∨ (op ≠ 0x02 ∧ r.version.toNat ≠ queueVer s r.src))) ∧
  ((∀ c n, r.src = .snl c n → s.get (F.SNL_NEG_SCP n) ≠ 0) →
    (precheck s op r bad = some stBadOpcode ↔ ((op = 0x02 ∨ r.version.toNat = queueVer s r.src) ∧ opDefined op = false)) ∧
    (precheck s op r bad = some stDenied ↔
      ((op = 0x02 ∨ r.version.toNat = queueVer s r.src) ∧ opDefined op = true ∧ deniedBy s op r = true)) ∧
    (precheck s op r bad = some stBadParam ↔
      ((op = 0x02 ∨ r.version.toNat = queueVer s r.src) ∧ opDefined op = true ∧ deniedBy s op r = false
        ∧ (headerBad r = true ∨ bad = true))) ∧
    (precheck s op r bad = some stQuenched ↔
      ((op = 0x02 ∨ r.version.toNat = queueVer s r.src) ∧ opDefined op = true ∧ deniedBy s op r = false
        ∧ headerBad r = false ∧ bad = false ∧ quenchRefuses s op r = true)))

/-- R379, R376, Table 12.2: a reply over a management port or SNL carries the request's SEQ and TOKEN, the status, the FET
now; a result longer than a packet is cut into packets of the carrier's size, MORE in all but the last, and the pieces are
the result; over SNL each packet is a control frame to the module that asked. Model's choices: log entries 14, 145. -/
def Obligations.RepliesCarrySequenceAndToken : Prop := ∀ (r : Request) (op st : Nat) (res : List Byte) (t : State),
  ∃ ps : List (List Byte), ps.flatten = res ∧ ps ≠ [] ∧ (∀ p ∈ ps, p.length ≤ carrierLimit r.src) ∧
    (∀ ip port, r.src = .mgmt ip port →
      (answer r op st res t).out = t.out ++ (ps.zipIdx.map (fun x => Output.reply r.src op
        { seq := r.seq, token := r.token, status := st, rfet := t.fet, result := x.1, part := reqPart r } 0 false
        (x.2 + 1 != ps.length) (scpPacket op { seq := r.seq, token := r.token, status := st, rfet := t.fet, result := x.1
                                               part := reqPart r } (x.2 + 1 != ps.length) false 0)))) ∧
    (∀ c n u, r.src = .snl c n →
      u = storeReply r.src { seq := r.seq, token := r.token, status := st, rfet := t.fet, result := res, part := reqPart r } t →
      answer r op st res t = ps.zipIdx.foldl (fun u x => sendFrame (mkFrame u 2 0 0 (8 * c.toNat + 2) 2
        (2 :: List.replicate 15 0 ++ scpPacket op
          { seq := r.seq, token := r.token, status := st, rfet := t.fet, result := x.1, part := reqPart r }
          (x.2 + 1 != ps.length) false 0)) u) u)

/-- R379, R366, R371: COMMAND_COMPLETION posts the final status of a decided command, removes it and serves what waited behind
a FENCE; SYSTEM_SCARAB_FAILOVER of a field out of service does nothing, and in service it ends the commands that Scarab was
executing FAULTED, records the loss and re-places the field; MGMT_QUEUE_EXPIRY frees a queue after 60 s without a datagram and
not before. Model's choices: log entries 15, 27, 35, 79, 163. -/
def Obligations.ProtocolEventsTakeEffect : Prop :=
  (∀ (src : Source) (seq : BitVec 32) (j : Job) (st : Nat) (res : List Byte) (fet : Fet) (s : State),
    s.jobs.find? (fun j => queueKey j.src == queueKey src && j.seq == seq) = some j → j.fin = some (st, res, fet) →
    holdsBack s j.work = false →
    exec (.commandCompletion src seq) s = .next (release src (postCompletion j st res fet (settleWork st j.work s)))) ∧
  (∀ (src : Source) (seq : BitVec 32) (s : State),
    s.jobs.find? (fun j => queueKey j.src == queueKey src && j.seq == seq) = none →
    exec (.commandCompletion src seq) s = .next (release src s)) ∧
  (∀ (f : Fin 88) (s : State), inService s f = false → exec (.systemScarabFailover f) s = .next s) ∧
  (∀ (f : Fin 88) (rec : Nat) (s t u : State), inService s f = true → t = handOver f s →
    raiseAs 3 (rampLimit t) true { code := 0x0606, part := ownerOf t f, collector := f, unitType := 20, detail := [1, 0] ++ leNats f 2 } t
      = (rec, u) → exec (.systemScarabFailover f) s = .next (rePlace f rec u)) ∧
  (∀ (f : Fin 88) (g : Nat) (s : State), systemField s = some f.val → g ∈ serving s → g ≠ f →
    handOver f s = endJobs (fun w => workPart s w == some 0
      || (ownerOf s f != 0 && leadField s (ownerOf s f) == some f.val && workPart s w == some (ownerOf s f))) stFaulted [] s) ∧
  (∀ (ip : Word) (port : BitVec 16) (q : QueueData) (s : State), s.queues.find? (fun q => q.src == Source.mgmt ip port) = some q →
    (q.lastFet + 60000000000 ≤ s.fet → exec (.mgmtQueueExpiry ip port) s =
      .next { s with queues := s.queues.filter (fun q => q.src != Source.mgmt ip port) }) ∧
    (s.fet < q.lastFet + 60000000000 → exec (.mgmtQueueExpiry ip port) s = .next s))

/-! ### Register accesses (00_overview R10-R15, 18_address_map) -/

/-- R370, R399: the queue registers. A doorbell on a readable ring takes its value, and freed completion entries let waiting
replies out; where the ring access fails on PCI Express the queue stops with ERR. Setting EN starts the queue afresh.
Model's choices: log entries 37, 43, 51. -/
def Obligations.QueueRegistersTakeEffect : Prop := ∀ (via : Path) (ep : Fin 2) (q : Fin 8) (v : Word) (ok : Bool) (s : State),
  onEndpoint via ep = true →
  (Lands via (0x8000 + 0x1000 * q.val + 0x14) (R.CHT_SQ_TAIL ep q) v s →
    exec (.sqTailDoorbell via ep q v ok) s = .next (if ok then landed (R.CHT_SQ_TAIL ep q) v s
      else note 5 0 (R.CHT_Q_STATUS ep q) ((landed (R.CHT_SQ_TAIL ep q) v s).set (F.CHT_Q_STATUS_ERR ep q) 1))) ∧
  (Lands via (0x8000 + 0x1000 * q.val + 0x1c) (R.CHT_CQ_HEAD ep q) v s →
    exec (.cqHeadDoorbell via ep q v ok) s = .next (if ok then flushWaiting ep q (landed (R.CHT_CQ_HEAD ep q) v s)
      else note 5 0 (R.CHT_Q_STATUS ep q) ((landed (R.CHT_CQ_HEAD ep q) v s).set (F.CHT_Q_STATUS_ERR ep q) 1))) ∧
  (Lands via (0x8000 + 0x1000 * q.val + 0x10) (R.CHT_Q_CFG ep q) v s → s.flag (F.CHT_Q_CFG_EN ep q) = false →
    (landed (R.CHT_Q_CFG ep q) v s).flag (F.CHT_Q_CFG_EN ep q) = true →
    exec (.queueEnable via ep q v) s = .next (enableQueue ep q (landed (R.CHT_Q_CFG ep q) v s)))

/-- R432, R433, R444, R54, R404, R496, R507: the control registers of Chitin, of the clocks and of the manager; an operating
point above its limit is noted and the limit loaded. Model's choices: log entries 37, 43, 51, 54, 111. -/
def Obligations.ControlRegistersTakeEffect : Prop := ∀ (via : Path) (f : Fin 88) (v : Word) (s : State),
  (Lands via R.CHT_BU_CTRL R.CHT_BU_CTRL v s →
    (v.getLsbD 8 = true → v.getLsbD 9 = false → exec (.buGo via v) s =
      .next (buGo ((landed R.CHT_BU_CTRL v s).get F.CHT_BU_CTRL_TARGET) (landed R.CHT_BU_CTRL v s))) ∧
    (v.getLsbD 8 = false → v.getLsbD 9 = true → (landed R.CHT_BU_CTRL v s).flag F.CHT_STATUS_RUNNING = true →
      s.boot.warmPhase = 0 → exec (.buAbort via v) s =
        .next { landed R.CHT_BU_CTRL v s with boot := { s.boot with abort := true } })) ∧
  (Lands via R.CHT_RST_PIN_MASK R.CHT_RST_PIN_MASK v s → v.getLsbD 0 = true → s.flag F.CHT_RST_STATUS_RESET_STUCK = true →
    exec (.rstPinMaskSet via v) s =
      .next { s.set F.CHT_RST_PIN_MASK_MASK 1 with boot := { s.boot with strapsFrozen := true } }) ∧
  (Lands via R.CHT_RST_PIN_MASK R.CHT_RST_PIN_MASK v s → v.getLsbD 0 = true → s.flag F.CHT_RST_STATUS_RESET_STUCK = false →
    exec (.rstPinMaskSet via v) s = .next s) ∧
  (Lands via R.CHT_DEFECT_CTRL R.CHT_DEFECT_CTRL v s →
    (v.getLsbD 12 = true → v.getLsbD 13 = false → exec (.defectAdd via v) s = .next (storeDefect
      { type := (landed R.CHT_DEFECT_CTRL v s).get F.CHT_DEFECT_LO_TYPE, origin := 3
        loc := (landed R.CHT_DEFECT_CTRL v s).get F.CHT_DEFECT_LO_LOC
        time := (landed R.CHT_DEFECT_CTRL v s).get F.CHT_DEFECT_HI_TIME } (landed R.CHT_DEFECT_CTRL v s))) ∧
    (v.getLsbD 12 = false → v.getLsbD 13 = true → exec (.defectPurge via v) s =
      .next { landed R.CHT_DEFECT_CTRL v s with boot := { s.boot with purge := true } })) ∧
  (Lands via (R.CLK_CTRL f) (R.CLK_CTRL f) v s → v.getLsbD 8 = true → exec (.clkCtrlArm via f v) s =
    .next (armClock f (s.wr (R.CLK_CTRL f) (writtenWord s (R.CLK_CTRL f) (stateLoad s (R.CLK_CTRL f) v))))) ∧
  (∀ t, pathUp s via = true → latchOnly s via = false → filtered s via true (R.CLK_CTRL f) = false →
    answers s (R.CLK_CTRL f) = true → place via (R.CLK_CTRL f) = some (R.CLK_CTRL f) → writeNoted s (R.CLK_CTRL f) v = true →
    v.getLsbD 8 = true → t = regNote via true 5 (R.CLK_CTRL f) s → exec (.clkCtrlArm via f v) s =
    .next (armClock f (t.wr (R.CLK_CTRL f) (writtenWord t (R.CLK_CTRL f) (stateLoad t (R.CLK_CTRL f) v))))) ∧
  (Lands via R.CHT_MGR_CTRL R.CHT_MGR_CTRL v s →
    (v.getLsbD 0 = false → v.getLsbD 1 = true → isManager (landed R.CHT_MGR_CTRL v s) = true →
      exec (.bringUpDrive via v) s = .next (startDrive (landed R.CHT_MGR_CTRL v s))) ∧
    (v.getLsbD 0 = true → v.getLsbD 1 = false → (landed R.CHT_MGR_CTRL v s).flag F.CHT_MGR_STATUS_DRIVING = true →
      exec (.mgrDriveAbort via v) s = .next { landed R.CHT_MGR_CTRL v s with mgr := { s.mgr with abort := true } })) ∧
  (Lands via R.CHT_MGMT_BASE R.CHT_MGMT_BASE v s → exec (.mgmtBaseWrite via v) s =
    .next (storeMgr 0x10c (landed R.CHT_MGMT_BASE v s)))

/-- R107, R117, R125, R124, R186, R217, R218, R253, R254: the write-only bits of cells, fields, mesh, tiers and Vaults. The
landed word is all an injection register holds; a clear bit zeroes its counters; FU_CLEAR and SP_ZERO act where the field's
plan is idle. Model's choices: log entries 37, 43, 51. -/
def Obligations.UnitClearsAndArmsTakeEffect : Prop := ∀ (via : Path) (f : Fin 88) (pos : Fin 72) (n : Fin 12) (v : Word) (s : State),
  (Lands via (R.CEL_CTRL f pos) (R.CEL_CTRL f pos) v s →
    (v.getLsbD 2 = true → v.getLsbD 1 = false → v.getLsbD 3 = false → planIdle (landed (R.CEL_CTRL f pos) v s) f = true →
      exec (.celFuClear via f pos v) s = .next (clearTags f pos (landed (R.CEL_CTRL f pos) v s))) ∧
    (v.getLsbD 2 = false → v.getLsbD 1 = true → v.getLsbD 3 = false → planIdle (landed (R.CEL_CTRL f pos) v s) f = true →
      exec (.celSpZero via f pos v) s = .next (startZero f pos (landed (R.CEL_CTRL f pos) v s))) ∧
    (v.getLsbD 2 = false → v.getLsbD 1 = false → v.getLsbD 3 = true →
      exec (.celCntClear via f pos v) s = .next (celCntClear f pos (landed (R.CEL_CTRL f pos) v s)))) ∧
  (Lands via (R.CEL_INJECT f pos) (R.CEL_INJECT f pos) v s →
    exec (.celSpArm via f pos v) s = .next (landed (R.CEL_INJECT f pos) v s) ∧
    exec (.celResArm via f pos v) s = .next (landed (R.CEL_INJECT f pos) v s)) ∧
  (Lands via (R.FLD_CTRL f) (R.FLD_CTRL f) v s → v.getLsbD 0 = true →
    exec (.fldCntClear via f v) s = .next ((((((landed (R.FLD_CTRL f) v s).set (F.FLD_STATUS_QMAX f) 0).wr
      (R.FLD_LATE_GATE f) 0).wr (R.FLD_BP_CYCLES f) 0).wr (R.FLD_HOLD_CYCLES f) 0).set (F.FLD_SENT_ERR_COUNT f) 0)) ∧
  (Lands via (R.MSH_INJECT f) (R.MSH_INJECT f) v s →
    exec (.mshInjectArm via f v) s = .next (landed (R.MSH_INJECT f) v s)) ∧
  (Lands via (R.MSH_FCTRL f) (R.MSH_FCTRL f) v s → v.getLsbD 0 = true →
    exec (.mshCntClear via f v) s = .next (mshCntClear f (landed (R.MSH_FCTRL f) v s))) ∧
  (Lands via (R.VLT_N_CTRL f) (R.VLT_N_CTRL f) v s →
    (v.getLsbD 0 = false → exec (.vltNInject via f v) s = .next (landed (R.VLT_N_CTRL f) v s)) ∧
    (v.getLsbD 0 = true → exec (.vltNCntClear via f v) s = .next (vltNCntClear f (landed (R.VLT_N_CTRL f) v s)))) ∧
  (Lands via (R.VLT_CTRL n) (R.VLT_CTRL n) v s →
    (v.getLsbD 0 = false → exec (.vltCInject via n v) s = .next (landed (R.VLT_CTRL n) v s)) ∧
    (v.getLsbD 0 = true → exec (.vltCntClear via n v) s = .next
      ((((landed (R.VLT_CTRL n) v s).set (F.VLT_C_ECC_CNT_CORR n) 0).set (F.VLT_C_ECC_CNT_UNCORR n) 0).set
        (F.VLT_COW_STATUS_UE_WAITS n) 0)))

/-- R288, R274, R286, R289, R318, R324, R407, R430, R489, R490: the registers of Edge Reduction Units, Update Engines, ports,
power and faults. A schedule word or a group configuration that no started plan uses is taken; a shape without columns is
discarded for a group of OPT 2, with a note (R281). Model's choices: log entries 37, 43, 51, 53, 96. -/
def Obligations.EdgeAndPowerRegistersTakeEffect : Prop := ∀ (via : Path) (n : Fin 64) (e : Fin 128) (k : Fin 4) (u : Fin 12)
    (g : Fin 16) (v : Word) (s : State),
  (Lands via (R.ERU_SCHED0 n e + 4 * k.val) (R.ERU_SCHED0 n e + 4 * k.val) v s →
    exec (.eruSchedWrite via n e k v) s =
      .next (eruSchedSet n e k (v &&& accMask .rw (R.ERU_SCHED0 n e + 4 * k.val)) s)) ∧
  (Lands via (R.ERU_CTRL n) (R.ERU_CTRL n) v s → v.getLsbD 1 = true →
    exec (.eruCntClear via n v) s = .next (((((landed (R.ERU_CTRL n) v s).set (F.ERU_WIN_HIGH_WATER n) 0).wr
      (R.ERU_ABST_CNT n) 0).wr (R.ERU_LATE_CNT n) 0).wr (R.ERU_BUSY_CNT n) 0)) ∧
  (Lands via (R.ERU_INJECT n) (R.ERU_INJECT n) v s →
    exec (.eruInjectArm via n v) s = .next (landed (R.ERU_INJECT n) v s)) ∧
  (Lands via (R.UPD_G_CFG u g) (R.UPD_G_CFG u g) v s →
    exec (.updGCfgWrite via u g v) s = .next (updGCfgSet u g (v &&& accMask .rw (R.UPD_G_CFG u g)) s)) ∧
  (pathUp s via = true → latchOnly s via = false → filtered s via true (R.UPD_G_SHAPE u g) = false →
    answers s (R.UPD_G_SHAPE u g) = true → place via (R.UPD_G_SHAPE u g) = some (R.UPD_G_SHAPE u g) → grpOn s u g = true →
    grpOpt s u g = 2 → v.toNat % 2 ^ 16 = 0 → exec (.registerWrite via (R.UPD_G_SHAPE u g) 4 (v.setWidth 64)) s =
      .next (regNote via true 5 (R.UPD_G_SHAPE u g) s)) ∧
  (Lands via (R.UPD_CTRL u) (R.UPD_CTRL u) v s → v.getLsbD 0 = true →
    exec (.updCntClear via u v) s = .next (updCntClear u (landed (R.UPD_CTRL u) v s))) ∧
  (Lands via (R.SNL_CTRL n) (R.SNL_CTRL n) v s →
    (v.getLsbD 2 = false → v.getLsbD 3 = false →
      exec (.portEnable via n v) s = .next (applyEn n (landed (R.SNL_CTRL n) v s))) ∧
    (v.getLsbD 2 = false → v.getLsbD 3 = true →
      exec (.portRetry via n v) s = .next (portRetry n (applyEn n (landed (R.SNL_CTRL n) v s)))) ∧
    (v.getLsbD 2 = true → v.getLsbD 3 = false →
      exec (.snlRetrainRequest via n v) s = .next (requestRetrain n (applyEn n (landed (R.SNL_CTRL n) v s))))) ∧
  (Lands via (R.SNL_INJECT n) (R.SNL_INJECT n) v s →
    exec (.snlInjectArm via n v) s = .next (landed (R.SNL_INJECT n) v s)) ∧
  (Lands via R.PWR_CTRL R.PWR_CTRL v s →
    (v.getLsbD 1 = true → v.getLsbD 0 = false →
      exec (.vminClear via v) s = .next (vminClear (landed R.PWR_CTRL v s))) ∧
    (v.getLsbD 1 = false → v.getLsbD 0 = true →
      exec (.pwrCntClear via v) s = .next (((landed R.PWR_CTRL v s).wr R.PWR_RAMP_CNT 0).wr R.PWR_TOKEN_DEFER 0))) ∧
  (Lands via R.FLT_INJECT R.FLT_INJECT v s → v.getLsbD 0 = true →
    exec (.fltInjectArm via v) s = .next (fltInject R.FLT_INJECT (landed R.FLT_INJECT v s))) ∧
  (Lands via R.FLT_CTRL R.FLT_CTRL v s → v.getLsbD 1 = true →
    exec (.fltCntClear via v) s = .next (fltCntClear (landed R.FLT_CTRL v s)))

/-- R11, R12, R15, R537, R81, R545: register writes and reads of any register. A write of 4 aligned bytes that lands
gives each field what its access type says; an access of another width, or not aligned, changes only the notes, and a
read so gets all ones; a write at an unassigned offset is discarded with a note. A read answers the value; FET_LO's
read latches FET_HI for its requester, and its 8-byte read carries the whole of one FET; the read of PWR_DRAW clears
PEAK. Model's choices: log entries 37, 43, 46, 51. -/
def Obligations.RegisterAccessesFollowTheirType : Prop := ∀ (via : Path) (off reg : Nat) (v : BitVec 64) (s : State),
  (Lands via off reg (v.setWidth 32) s → (∀ r, winOf reg = (.chitin, r) → r ≠ 0x10) → (∀ n r, winOf reg = (.eru n, r) → r < 0x800) →
    (∀ u r, winOf reg = (.upd u, r) → r < 0x8100) →
    exec (.registerWrite via off 4 v) s = .next (writeEffect reg (v.setWidth 32) (queueWas s reg) true
      (s.wr reg (writtenWord s reg (stateLoad s reg (v.setWidth 32)))))) ∧
  (∀ bytes, pathUp s via = true → latchOnly s via = false → ¬ (bytes = 4 ∧ off % 4 = 0) → ¬ (bytes = 8 ∧ off % 8 = 0) →
    exec (.registerWrite via off bytes v) s = .next (regNote via true 1 off s) ∧
    exec (.timFetLoRead via ⟨off, bytes⟩) s = .next ((regNote via false 1 off s).emit (.readData via off (2 ^ (8 * bytes) - 1) bytes))) ∧
  (pathUp s via = true → latchOnly s via = false → off % 4 = 0 → filtered s via true off = false → answers s off = true →
    place via off = none → exec (.registerWrite via off 4 v) s = .next (regNote via true 4 off s)) ∧
  (pathUp s via = true → locked s = false → filtered s via false R.TIM_FET_LO = false →
    exec (.timFetLoRead via ⟨R.TIM_FET_LO, 4⟩) s = .next
      (({ s with latches := setLatch via R.TIM_FET_LO (BitVec.ofNat 32 (s.fet / 2 ^ 32)) s.latches } : State).emit
        (.readData via R.TIM_FET_LO (s.fet % 2 ^ 32) 4))) ∧
  (pathUp s via = true → locked s = false → filtered s via false R.TIM_FET_LO = false →
    filtered s via false (R.TIM_FET_LO + 4) = false → exec (.timFetLoRead via ⟨R.TIM_FET_LO, 8⟩) s = .next
      (({ s with latches := setLatch via R.TIM_FET_LO (BitVec.ofNat 32 (s.fet / 2 ^ 32)) s.latches } : State).emit
        (.readData via R.TIM_FET_LO (s.fet % 2 ^ 64) 8))) ∧
  (pathUp s via = true → locked s = false → filtered s via false R.PWR_DRAW = false →
    exec (.drawPeakRead via ⟨R.PWR_DRAW, 4⟩) s = .next ((s.set F.PWR_DRAW_PEAK 0).emit
      (.readData via R.PWR_DRAW (s.rd R.PWR_DRAW &&& readMask R.PWR_DRAW).toNat 4)))

/-- R11 with Table 00.5: what a write makes of each bit of a register. A read-write bit takes the value the register loads for
the word; a write-once-locked bit does where the live configuration is not locked; a bit that is cleared by writing 1 is
cleared, one that is set by writing 1 is set; every other bit keeps its value. -/
def Obligations.WrittenBitsFollowAccessType : Prop := ∀ (s : State) (reg : Nat) (w : Word) (i : Nat), i < 32 →
  ((accMask .rw reg).getLsbD i = true → (accMask .w1c reg).getLsbD i = false → (accMask .w1s reg).getLsbD i = false →
    (writtenWord s reg w).getLsbD i = (loadRule reg w).getLsbD i) ∧
  ((accMask .rwl reg).getLsbD i = true → (accMask .rw reg).getLsbD i = false → (accMask .w1c reg).getLsbD i = false →
    (accMask .w1s reg).getLsbD i = false →
    (writtenWord s reg w).getLsbD i = if s.boot.rwlLocked then (s.rd reg).getLsbD i else (loadRule reg w).getLsbD i) ∧
  ((accMask .w1c reg).getLsbD i = true → (accMask .rw reg).getLsbD i = false → (accMask .rwl reg).getLsbD i = false →
    (accMask .w1s reg).getLsbD i = false →
    (writtenWord s reg w).getLsbD i = ((s.rd reg).getLsbD i && !w.getLsbD i)) ∧
  ((accMask .w1s reg).getLsbD i = true → (accMask .rw reg).getLsbD i = false → (accMask .rwl reg).getLsbD i = false →
    (accMask .w1c reg).getLsbD i = false →
    (writtenWord s reg w).getLsbD i = ((s.rd reg).getLsbD i || w.getLsbD i)) ∧
  ((accMask .rw reg).getLsbD i = false → (accMask .rwl reg).getLsbD i = false → (accMask .w1c reg).getLsbD i = false →
    (accMask .w1s reg).getLsbD i = false → (writtenWord s reg w).getLsbD i = (s.rd reg).getLsbD i)

/-! ### Time (02_fabric_time) -/

/-- R55, R57, R58, R61, R62, R63, R65, R66: the references and the disciplining loop. A PPS edge gives the offset of
its stamp less the antenna delay, counts toward qualification where the spacing is 1 s within 100 ns, and raises
PPS_BAD and starts again where it is not; PTP messages count only while PTP_EN is 1; a PTP reference is lost by
silence. In FREE the highest-priority reference that qualifies, or does so provisionally, is acquired. 100 consecutive samples
of at most 2 ns in ACQUIRE, what the step left being slewed away, reach LOCKED and set VALID; another starts the count again; a SWITCH ends at a residual of at most 2 ns, not before SLEW_PPB has removed the offset; a higher
reference is taken back after REVERT_MS; OVEN_OK and LOCKED held for 15 minutes set LEARNED. Model's choices: log entries 3,
58, 60, 135, 152, 157, 158. -/
def Obligations.ReferencesDisciplineTheClock : Prop := ∀ (s : State),
  (∀ (stamp : Nat) (clk : Bool) (t off : Int) (good : Bool) (u v : State),
    t = (stamp : Int) - (s.set F.CHT_PIN_STATUS_REF_CLK_OK (if clk then 1 else 0)).geti F.TIM_PPS_DELAY_DELAY_PS →
    off = (t + 500000000000) % 1000000000000 - 500000000000 →
    (∀ l, s.time.ppsLastPs = some l → good = decide (((stamp : Int) - l - 1000000000000).natAbs ≤ 100000)) →
    (s.time.ppsLastPs = none → good = true) →
    u = (if good then s.set F.CHT_PIN_STATUS_REF_CLK_OK (if clk then 1 else 0)
      else (s.set F.CHT_PIN_STATUS_REF_CLK_OK (if clk then 1 else 0)).set F.TIM_ALARM_PPS_BAD 1) →
    v = noteFar 3 0 (setCodeBit F.TIM_REF_QUAL_PRESENT 3 true { u with time := { s.time with
      ppsLastPs := some stamp, ppsRun := if good then s.time.ppsRun + 1 else 1
      offsets := AMap.put (fun _ => 0) s.time.offsets 3 off } }) →
    exec (.refPpsEdge stamp clk) s = .next (if isSelected v 3 0 then loopSample off v else v)) ∧
  (∀ ev, s.flag F.TIM_CTRL_PTP_EN = false → exec (.ptpExchange ev) s = .next s) ∧
  (∀ gm l, s.flag F.TIM_CTRL_PTP_EN = true → (s.time.ptpGm = none ∨ s.time.ptpGm = some gm) →
    exec (.ptpExchange (.announce gm l)) s = .next (setCodeBit F.TIM_REF_QUAL_PRESENT 4 true
      { s with time := { s.time with ptpGm := some gm, ptpLog := l, ptpAnnounceAt := s.fet } })) ∧
  (ptpLost s = true → exec .ptpMessageTimeout s = .next (loseRef 4 0 (refreshFars (setCodeBit F.TIM_REF_QUAL_PRESENT 4 false
    { s with time := { s.time with ptpGm := none, ptpOffsets := [], offsets := AMap.put (fun _ => 0) s.time.offsets 4 0 } })))) ∧
  (lostNow s 4 0 false = false → exec .ptpMessageTimeout s = .next s) ∧
  (∀ (code : Fin 5) (port : Fin 64) (u t : State) (c n : Nat), u = noteFar code port s → loopOn s = true → loopState u = 0 →
    qualifies u code port = false → provisionally u code port = true →
    u.time.provisional.any (fun e => e.1 == code.val && e.2.1 == port.val) = false →
    t = { u with time := { u.time with provisional := u.time.provisional ++ [(code.val, port.val, u.fet)] } } →
    bestAcquire t = some (c, n) →
    exec (.refQualified code port) s = .next (enterAcquire c n true (markProvisional c n t))) ∧
  (∀ (code : Fin 5) (port : Fin 64), loopOn s = false → exec (.refQualified code port) s = .next s) ∧
  (∀ (code : Fin 5) (port : Fin 64) (clk : Bool), lostTable s code port clk = true →
    exec (.refLost code port clk) s = .next (loseRef code port (dropEvidence code port clk s))) ∧
  (∀ (code : Fin 5) (port : Fin 64) (clk : Bool), lostTable s code port clk = false → isFar s code port = true →
    anyPlanStarted s = true → loopState s ≠ 3 → exec (.refLost code port clk) s = .next (loseRef code port s)) ∧
  (∀ (code : Fin 5) (port : Fin 64) (clk : Bool), lostNow s code port clk = false →
    exec (.refLost code port clk) s = .next s) ∧
  (∀ (code : Fin 5), (∀ e ∈ s.time.provisional, overdue s code e = false) → exec (.provisionalTimeout code) s = .next s) ∧
  (∀ (code : Fin 5) (port : Nat) (since : Fet), s.time.provisional = [(code.val, port, since)] → since + 3000000000 ≤ s.fet →
    (isSelected s code port = false →
      exec (.provisionalTimeout code) s = .next { s with time := { s.time with provisional := [] } }) ∧
    (isSelected s code port = true →
      exec (.provisionalTimeout code) s = .next (loseRef code port { s with time := { s.time with provisional := [] } }))) ∧
  (∀ (off : Int), loopOn s = true → loopState s = 1 →
    (off.natAbs ≤ 2000 → (slewLeft s).natAbs ≤ 2000 → 99 ≤ s.time.goodRun → exec (.disciplineSample off) s = .next
      (refreshEst ((enterState 2 { s with time := { s.time with residualPs := off } }).set F.TIM_STATUS_VALID 1))) ∧
    (off.natAbs ≤ 2000 → (slewLeft s).natAbs ≤ 2000 → s.time.goodRun < 99 → exec (.disciplineSample off) s =
      .next (refreshEst { s with time := { s.time with residualPs := off, goodRun := s.time.goodRun + 1 } })) ∧
    (2000 < off.natAbs ∨ 2000 < (slewLeft s).natAbs → exec (.disciplineSample off) s =
      .next (refreshEst { s with time := { s.time with residualPs := off, goodRun := 0 } }))) ∧
  ((slewLeft s).natAbs = s.time.switchOff.natAbs - (s.fet - s.time.switchAt) * s.get F.TIM_SLEW_CFG_SLEW_PPB / 1000000) ∧
  (loopState s = 2 ∨ loopState s = 3 ∨ (loopState s = 1 ∧ s.flag F.TIM_STATUS_VALID = true) →
    refreshEst s = s.set F.TIM_STATUS_EST_ERR (estOf s (s.get F.TIM_STATUS_REF) (s.get F.TIM_REF_QUAL_SEL_PORT))) ∧
  (loopState s = 1 → s.flag F.TIM_STATUS_VALID = false → refreshEst s = s) ∧
  (∀ (off : Int), loopOn s = false → exec (.disciplineSample off) s = .next s) ∧
  (∀ (r : Int), loopOn s = true → loopState s = 3 → r.natAbs ≤ 2000 →
    s.time.switchOff.natAbs ≤ 2000 + (s.fet - s.time.switchAt) * s.get F.TIM_SLEW_CFG_SLEW_PPB / 1000000 → ∀ u,
    u = refreshEst ((enterState 2 s).set F.TIM_ALARM_SWITCH_DONE 1) →
    exec (.switchComplete r) s = .next { u with time := { u.time with switchEnd := u.fet, residualPs := r } }) ∧
  (∀ (r : Int), loopState s ≠ 3 ∨ 2000 < r.natAbs ∨
      2000 + (s.fet - s.time.switchAt) * s.get F.TIM_SLEW_CFG_SLEW_PPB / 1000000 < s.time.switchOff.natAbs →
    exec (.switchComplete r) s = .next s) ∧
  (∀ (code : Fin 5) (port : Fin 64) (q : Fet) (c n : Nat), qualifiedSince s code port = some q → loopOn s = true →
    loopState s = 2 → higherThanSelected s code port = true → qualifies s code port = true →
    max q s.time.switchEnd + s.get F.TIM_QUAL_CFG_REVERT_MS * 1000000 ≤ s.fet → revertTo s = some (c, n) →
    exec (.revertTimer code port) s = .next (takeUp c n s)) ∧
  (∀ (code : Fin 5) (port : Fin 64), loopOn s = false → exec (.revertTimer code port) s = .next s) ∧
  (∀ (code : Fin 5) (port : Fin 64) (q : Fet), qualifiedSince s code port = some q →
    s.fet < max q s.time.switchEnd + s.get F.TIM_QUAL_CFG_REVERT_MS * 1000000 →
    exec (.revertTimer code port) s = .next s) ∧
  (s.flag F.TIM_STATUS_OVEN_OK = false → loopState (s.set F.TIM_STATUS_OVEN_OK 1) = 2 → exec .ovenStable s =
    .next { s.set F.TIM_STATUS_OVEN_OK 1 with time := { s.time with learnSince := some s.fet } }) ∧
  (s.flag F.TIM_STATUS_OVEN_OK = false → loopState (s.set F.TIM_STATUS_OVEN_OK 1) ≠ 2 → exec .ovenStable s =
    .next (s.set F.TIM_STATUS_OVEN_OK 1)) ∧
  (∀ t, s.time.learnSince = some t → exec .holdoverLearned s =
    .next (if t + 900000000000 ≤ s.fet then s.set F.TIM_STATUS_LEARNED 1 else s)) ∧
  (loopState s = 4 → ∀ u, u = s.set F.TIM_STATUS_EST_ERR (holdEst s) → loopState u = 4 →
    u.get F.TIM_HOLD_CFG_HOLD_LIMIT_NS < u.get F.TIM_STATUS_EST_ERR →
    exec .holdLimitExceeded s = .next (noteAt 5 0 108 18 4 (u.set F.TIM_ALARM_HOLD_LIMIT 1))) ∧
  (loopState s ≠ 4 → exec .holdLimitExceeded s = .next s)

/-- R67, R69, R404, R405, R54: a Cicada frame carries the sequence number, the state and the error bound, its FET is that of
the block it begins in, and a period in which none came is counted; a change of operating point takes effect at the first
20 ns multiple at or after its FET, an upward one not before its voltage. Model's choices: log entries 60, 61. -/
def Obligations.CicadaAndClocksAct : Prop := ∀ (s : State),
  (∀ (n : Fin 64) (t u : State), portTrained s n = true → loopState s ≠ 4 → s.flag F.TIM_CTRL_CICADA_TX_EN = true →
    t = (if (s.cic n).got = true then s else s.count (F.TIM_PORT_STATUS_MISSED n) 1) →
    u = t.setCic n { s.cic n with seq := ((s.cic n).seq + 1) % 65536, got := false } →
    exec (.cicadaSend n) s = .next (enqueue n (mkFrame u 3 0 0 (8 * coordAlong u n 1) 0 (cicadaBytes
      { txFetPs := 0, lastRxFetPs := (s.cic n).rxFetPs, seq := ((s.cic n).seq + 1) % 65536
        lastRxSeq := (s.cic n).rxSeq, steps := t.get F.TIM_STATUS_STEPS, state := loopState t
        ref := t.get F.TIM_STATUS_REF, estErr := t.get F.TIM_STATUS_EST_ERR, utcOffset := t.time.utcOffset
        gmCoord := if t.get F.TIM_STATUS_STEPS = 0 then ownCoord t else (t.cic (t.get F.TIM_REF_QUAL_SEL_PORT)).gm })) u)) ∧
  (∀ (n : Fin 64) (fr : Frame), fr.cls = 3 → stampTx s n fr =
    { fr with payload := leBytes (blockStart s n / 3) 8 ++ fr.payload.drop 8 }) ∧
  (∀ (n : Fin 64), portTrained s n = false → exec (.cicadaSend n) s = .next s) ∧
  (∀ (f : Fin 88), s.power.opOwn.find? (fun o => o.field == f.val) = none → s.flag (F.CLK_CTRL_ARM f) = true → opFet s f ≤ s.fet →
    s.fet % 20 = 0 → opUpward s f = false ∨ fieldSettled s f = true → exec (.opChangeDue f) s = .next (applyArmed f s)) ∧
  (∀ (f : Fin 88), s.power.opOwn.find? (fun o => o.field == f.val) = none →
    s.flag (F.CLK_CTRL_ARM f) = false ∨ s.fet < opFet s f ∨ s.fet % 20 ≠ 0 ∨ (opUpward s f = true ∧ fieldSettled s f = false) →
    exec (.opChangeDue f) s = .next s) ∧
  (∀ (f : Fin 88) (o : OwnOp) (t : State), s.power.opOwn.find? (fun o => o.field == f.val) = some o → o.at_ ≤ s.fet →
    s.fet % 20 = 0 → o.op ≤ s.get (F.CLK_STATUS_OP_NOW f) ∨ fieldSettled s f = true →
    t = applyOp f (min o.op (opLimit s f))
      { s with power := { s.power with opOwn := s.power.opOwn.filter (fun o => o.field != f.val) } } →
    exec (.opChangeDue f) s = .next (armedDue f t)) ∧
  (∀ (f : Fin 88), s.power.opOwn.find? (fun o => o.field == f.val) = none → s.flag (F.CLK_CTRL_ARM f) = true →
    (fieldSettled s f = true → opFet s f ≤ s.fet → s.fet % 20 = 0 → exec (.opVoltageReady f) s = .next (applyArmed f s)) ∧
    (fieldSettled s f = false ∨ s.fet < opFet s f → exec (.opVoltageReady f) s = .next s))

/-- R48: a step of FET discards everything armed against FET: no partition keeps an armed boundary, a pending commit
or an armed checkpoint, no port a scheduled frame, no injection waits, no operating-point change is armed, the shadow
map is dropped, and the step raises its alarm; FET moves by the offset rounded to whole units. Model's choices: log entries
48, 59. -/
def Obligations.SteppingDiscardsWhatIsArmed : Prop := ∀ (off : Int) (s : State), Canon s →
  (∀ p, (s.part p).armed ≠ [] ∨ (s.part p).commit ≠ none ∨ (s.part p).ckptAt ≠ none → p < 8) →
  (∀ n, (s.port n).sched ≠ [] → n < 64) →
  (∀ p, ((stepFet off s).part p).armed = [] ∧ ((stepFet off s).part p).commit = none ∧ ((stepFet off s).part p).ckptAt = none) ∧
  (∀ n, ((stepFet off s).port n).sched = []) ∧
  (stepFet off s).injects = [] ∧ (∀ f : Fin 88, (stepFet off s).flag (F.CLK_CTRL_ARM f) = false) ∧
  (stepFet off s).mesh.shadow = none ∧
  (stepFet off s).flag F.TIM_ALARM_STEPPED = true ∧
  (stepDone s < 5 → (stepFet off s).fet = (((s.fet : Int) - (off + 500) / 1000) % 18446744073709551616).toNat)

/-! ### Cycle plans (05_cycle_plans) -/

/-- R163, R176, R168, R174, R156, R177, R178: what the sequencer does with the bundle it stands at, one in a cycle. A WORK
bundle reaches every queue in service, is skipped with its lane, or waits where a queue is full; a gated one waits for its FET
and counts a late gate; LOOP_END returns while its counter is below its trips; END returns to bundle 0; MOVE posts its
descriptors where they all fit; a SENTINEL bundle takes the next tile index. Sentinel signatures (R179, R181): once both have
ended tile s, the cell of a local index is compared with the one whose index differs by 2^(s mod 6): equal signatures are the
pair's last agreement, unequal ones are counted, recorded and raised as class 1. An idle reserve runs its tile, in which an
armed inversion acts, and is compared with the reserve of rank j XOR 2^(s mod 3) once that one has run it too. Model's
choices: log entries 63, 66, 69, 70, 74, 151. -/
def Obligations.BundlesIssueAndSentinelsCompare : Prop :=
  (∀ (f : Fin 88) (cyc w : Nat) (s t : State), SeqTurn f cyc w s → t = seqTaken f cyc s →
  (bKind w = 0 → bCond w ≠ 1 →
    (laneOn t f w = false → exec (.bundleIssue f cyc) s = .next (goto f (seqPc t f + 1) t)) ∧
    (laneOn t f w = true → queuesFree t f = true →
      exec (.bundleIssue f cyc) s = .next (goto f (seqPc t f + 1) (broadcast f cyc w 0 t))) ∧
    (laneOn t f w = true → queuesFree t f = false →
      exec (.bundleIssue f cyc) s = .next ((t.set (F.FLD_STATUS_BP f) 1).count (F.FLD_BP_CYCLES_CYCLES f) 1))) ∧
  (bKind w = 0 ∨ bKind w = 5 → bCond w = 1 →
    (t.fet < gateFet t f w → exec (.gateDue f cyc) s = .next t) ∧
    (∀ u, gateFet t f w ≤ t.fet →
      u = (if (t.fieldD f).gateDone = false ∧ t.flag (F.FLD_STATUS_WAIT_GATE f) = false then
        lateGate f (t.fet - gateFet t f w) t else t) →
      exec (.gateDue f cyc) s = .next (issueWork f cyc w
        ((u.setField f { u.fieldD f with gateDone := true }).set (F.FLD_STATUS_WAIT_GATE f) 0)))) ∧
  (bKind w = 3 →
    (t.get (iterFld f (bLevel w)) < bTrips w → exec (.loopEnd f cyc) s = .next (goto f (seqPc t f - bBack w)
      (t.set (iterFld f (bLevel w)) (t.get (iterFld f (bLevel w)) + 1)))) ∧
    (bTrips w ≤ t.get (iterFld f (bLevel w)) →
      exec (.loopEnd f cyc) s = .next (goto f (seqPc t f + 1) (t.set (iterFld f (bLevel w)) 0)))) ∧
  (bKind w = 4 → exec (.endBundle f cyc) s = .next (goto f 0 t)) ∧
  (bKind w = 5 → bCond w ≠ 1 →
    (laneOn t f w = false → exec (.moveBundle f cyc) s = .next (goto f (seqPc t f + 1) t)) ∧
    (laneOn t f w = true → movesFit t f w = true →
      exec (.moveBundle f cyc) s = .next (goto f (seqPc t f + 1) (postMoves f w t))) ∧
    (laneOn t f w = true → movesFit t f w = false →
      exec (.moveBundle f cyc) s = .next ((t.set (F.FLD_STATUS_BP f) 1).count (F.FLD_BP_CYCLES_CYCLES f) 1))) ∧
  (bKind w = 2 →
    (queuesFree t f = true → exec (.sentinelBundle f cyc) s = .next (goto f (seqPc t f + 1)
      ((broadcast f cyc w (t.get (F.FLD_SENT_IDX_INDEX f)) t).set (F.FLD_SENT_IDX_INDEX f) (t.get (F.FLD_SENT_IDX_INDEX f) + 1)))) ∧
    (queuesFree t f = false →
      exec (.sentinelBundle f cyc) s = .next ((t.set (F.FLD_STATUS_BP f) 1).count (F.FLD_BP_CYCLES_CYCLES f) 1)))) ∧
  (∀ (f : Fin 88) (s t : State),
  (∀ (cyc : Nat) (i : Fin 64), cyc < (s.fieldD f).cyc → exec (.sentSigCompare f ⟨cyc, i⟩) s = .next s) ∧
  (∀ (cyc : Nat) (i : Fin 64), (s.fieldD f).cyc ≤ cyc → t = atCycle f cyc s → holderOf t f i = none →
    exec (.sentSigCompare f ⟨cyc, i⟩) s = .next t) ∧
  (∀ (cyc : Nat) (i : Fin 64) (p : Nat), (s.fieldD f).cyc ≤ cyc → t = atCycle f cyc s → holderOf t f i = some p →
    (∀ idx, tileEnded (t.cell f p) cyc ≠ some (idx, false)) → exec (.sentSigCompare f ⟨cyc, i⟩) s = .next t) ∧
  (∀ (cyc : Nat) (i : Fin 64) (p q idx : Nat) (u : State), (s.fieldD f).cyc ≤ cyc → t = atCycle f cyc s →
    holderOf t f i = some p → tileEnded (t.cell f p) cyc = some (idx, false) →
    holderOf t f (i.val ^^^ 2 ^ (idx % 6)) = some q →
    u = (t.set (F.CEL_STATUS_SENTINEL f p) 0).setCell f p { t.cell f p with tile := some (idx, true) } →
    ((tileEnded (t.cell f q) cyc).any (fun e => e.1 == idx) = false → exec (.sentSigCompare f ⟨cyc, i⟩) s = .next t) ∧
    ((tileEnded (t.cell f q) cyc).any (fun e => e.1 == idx) = true → u.rd (R.CEL_SENT_SIG f p) = u.rd (R.CEL_SENT_SIG f q) →
      exec (.sentSigCompare f ⟨cyc, i⟩) s = .next (u.setCell f p { u.cell f p with lastGood := (t.cell f p).sentAt })) ∧
    ((tileEnded (t.cell f q) cyc).any (fun e => e.1 == idx) = true → u.rd (R.CEL_SENT_SIG f p) ≠ u.rd (R.CEL_SENT_SIG f q) →
      exec (.sentSigCompare f ⟨cyc, i⟩) s = .next (raiseFault { cellEvent u f p 0x0108 1 0 with
        access := 3
        detail := leNats (64 * f + (i.val ^^^ 2 ^ (idx % 6))) 2 ++ List.replicate 6 0 ++ leNats (t.cell f p).lastGood 6 }
        (recordSent f i (i.val ^^^ 2 ^ (idx % 6)) 0 u)))) ∧
  (∀ (pos : Fin 72) (err : Word), (idleReserves s f).contains pos.val = false →
    exec (.reserveSentinelTile f pos err) s = .next s) ∧
  (∀ (pos : Fin 72) (err sig : Word) (idx j : Nat), (idleReserves s f).contains pos.val = true →
    idx = (s.cell f pos).sentIdx → j = (idleReserves s f).idxOf pos.val →
    sig = Config.sentinel (s.rd (R.CEL_SENT_SEED f pos)) idx ^^^ err →
    t = ((sentinelResidue f pos (s.setCell f pos { s.cell f pos with sentIdx := idx + 1 })).wr
      (R.CEL_SENT_SIG f pos) sig).set (F.CEL_STATUS_SENTINEL f pos) 1 →
    ((idleReserves s f)[j ^^^ 2 ^ (idx % 3)]? = none → exec (.reserveSentinelTile f pos err) s = .next t) ∧
    (∀ q, (idleReserves s f)[j ^^^ 2 ^ (idx % 3)]? = some q →
      ((t.cell f q).sentIdx ≠ idx + 1 ∨ t.rd (R.CEL_SENT_SIG f q) = sig →
        exec (.reserveSentinelTile f pos err) s = .next t) ∧
      ((t.cell f q).sentIdx = idx + 1 → t.rd (R.CEL_SENT_SIG f q) ≠ sig →
        exec (.reserveSentinelTile f pos err) s =
          .next (raiseFault { cellEvent t f pos 0x0109 1 0 with access := 3 } (recordSent f j (j ^^^ 2 ^ (idx % 3)) 1 t))))))

/-- R167, R398, R453, R67: a STEP bundle, after the commits and the map activation that fall due with it, waits for the
earliest boundary its field has not used; there it counts a late arrival, begins the partition's step, makes that boundary the
base of the field, swaps its lane enables, counts the step, clears its loops and is broadcast. A Cicada frame that passes the
checks of a frame reaches the engine of its port. Model's choices: log entries 3, 29, 30, 60, 63, 66, 70, 119, 151. -/
def Obligations.StepBoundariesTakeEffect : Prop := ∀ (s : State),
  (∀ (f : Fin 88) (cyc w : Nat) (t : State), SeqTurn f cyc w (settle s) → t = seqTaken f cyc (settle s) → bKind w = 1 →
    (nextBoundary t f = none → exec (.stepBundle f cyc) s = .next t) ∧
    (∀ b, nextBoundary t f = some b → t.fet < b ∨ rerunHolds t f = true → exec (.stepBundle f cyc) s = .next t) ∧
    (∀ b, nextBoundary t f = some b → b ≤ t.fet → rerunHolds t f = false → queuesFree t f = false →
      exec (.stepBundle f cyc) s = .next ((t.set (F.FLD_STATUS_BP f) 1).count (F.FLD_BP_CYCLES_CYCLES f) 1)) ∧
    (∀ b u v, nextBoundary t f = some b → b ≤ t.fet → rerunHolds t f = false → queuesFree t f = true →
      u = (if t.flag (F.FLD_STATUS_WAIT_STEP f) = true then t else lateGate f (t.fet - b) t) →
      v = beginStep (ownerOf u f) b (u.get (F.FLD_STEP_CNT_COUNT f) + 1) u →
      ∃ x, x = (v.setField f { v.fieldD f with base := b, poison := [] }) ∧
        ∃ y, y = x.set (F.FLD_LANE_EN_NOW f) (x.get (F.FLD_LANE_EN_NEXT f)) ∧
          ∃ z, z = clearLoops f (y.set (F.FLD_STEP_CNT_COUNT f) (y.get (F.FLD_STEP_CNT_COUNT f) + 1)) ∧
            exec (.stepBundle f cyc) s =
              .next (dropUsed (ownerOf u f) (goto f (seqPc z f + 1) (broadcast f cyc w 0 z))))) ∧
  (∀ (p : Fin 8), (commitDue s p = false → exec (.configCommitDue p) s = .next s) ∧
    (commitDue s p = true → exec (.configCommitDue p) s =
      .next (s.forEach (List.range 8) (fun q t => if commitDue t q then applyCommit q t else t)))) ∧
  (∀ t, t = settleCommits s → (t.mesh.shadow = none → exec .mapActivation s = .next t) ∧
    (∀ m, t.mesh.shadow = some m → t.fet < m.at_ → exec .mapActivation s = .next t) ∧
    (∀ m, t.mesh.shadow = some m → m.at_ ≤ t.fet → exec .mapActivation s = .next (mapActivation t))) ∧
  (∀ (n : Fin 64) (hdr : Frame) (fr : CicadaFrame) (rx : Nat), portTrained s n = false →
    exec (.cicadaReceive n hdr fr rx) s = .next (receiveFrame n hdr (fun h => h.cls == 3) (cicadaReceive n fr rx) s)) ∧
  (∀ (n : Fin 64) (hdr : Frame) (fr : CicadaFrame) (rx : Nat), portTrained s n = true →
    (crcGood hdr = true →
      exec (.cicadaReceive n hdr fr rx) s = .next (receiveFrame n hdr (fun h => h.cls == 3) (cicadaReceive n fr rx) s)) ∧
    (crcGood hdr = false → exec (.cicadaReceive n hdr fr rx) s = .next
      (receiveFrame n hdr (fun h => h.cls == 3) (cicadaReceive n fr rx) (s.setCic n { s.cic n with good := 0 }))))

/-! ### Cells (03_cell) -/

/-- R164, R165, R169, R84, R107, R123, R393, R408: a cell's next repetition. It begins only where the cell's cluster is ON, the
cell is in service and the last one has ended; a cell with an empty queue runs its next tile of a SENTINEL_RUN: a STEP bundle sweeps the tag table; a guarded slot arms its guard and parks, or stalls where eight wait; a
sentinel tile waits for the MX units, then leaves its signature; an unguarded slot waits for its units and its order group.
Model's choices: log entries 63, 64, 65, 67, 68, 74, 133, 156. -/
def Obligations.CellRepetitionsBegin : Prop := ∀ (f : Fin 88) (pos : Fin 72) (cyc : Nat) (err : Word) (s t : State),
  (domState s (domOfCell f pos) ≠ 3 → exec (.cellRepetitionBegin f pos cyc err) s = .next s ∧
    ∀ id err' upset, exec (.slotBegin f pos cyc id) s = .next s ∧ exec (.microOpIssue f pos cyc id err' upset) s = .next s ∧
      exec (.slotEnd f pos cyc id) s = .next s) ∧
  (CellTurn f pos cyc s t →
  (cellServes t f pos = false ∨ repEnded (t.cell f pos) cyc = false ∨
      nextRep (t.cell f pos) cyc = none ∧ nextRunTile t f pos cyc = none →
    exec (.cellRepetitionBegin f pos cyc err) s = .next t) ∧
  (∀ e v, cellServes t f pos = true → repEnded (t.cell f pos) cyc = true → nextRep (t.cell f pos) cyc = none →
    nextRunTile t f pos cyc = some e → v = t.setCell f pos { t.cell f pos with runTiles := (t.cell f pos).runTiles + 1 } →
    (v.cell f pos).running.any (fun r => r.guarded && r.units &&& 7 != 0) = false →
    ∃ u, u = sentinelResidue f pos (v.setCell f pos { v.cell f pos with tile := some (e.sent, false), sentAt := v.fet }) ∧
      exec (.cellRepetitionBegin f pos cyc err) s = .next (startRep f pos cyc 512 e 0 true none
        (u.wr (R.CEL_SENT_SIG f pos) (Config.sentinel (u.rd (R.CEL_SENT_SEED f pos)) e.sent ^^^ err)))) ∧
  (∀ e i q, cellServes t f pos = true → repEnded (t.cell f pos) cyc = true → nextRep (t.cell f pos) cyc = some (e, i, q) →
    (bKind e.word = 1 → exec (.cellRepetitionBegin f pos cyc err) s =
      .next (let u := sweepTags f pos (startRep f pos cyc 1 e 0 true none t)
        u.setCell f pos { u.cell f pos with spBase := (u.cell f pos).sp })) ∧
    (bKind e.word = 2 → (t.cell f pos).running.any (fun r => r.guarded && r.units &&& 7 != 0) = true →
      exec (.cellRepetitionBegin f pos cyc err) s = .next t) ∧
    (bKind e.word = 2 → (t.cell f pos).running.any (fun r => r.guarded && r.units &&& 7 != 0) = false →
      ∃ u, u = sentinelResidue f pos (t.setCell f pos { t.cell f pos with tile := some (e.sent, false), sentAt := t.fet }) ∧
        exec (.cellRepetitionBegin f pos cyc err) s = .next (startRep f pos cyc 512 e 0 true none
          (u.wr (R.CEL_SENT_SIG f pos) (Config.sentinel (u.rd (R.CEL_SENT_SEED f pos)) e.sent ^^^ err)))) ∧
    (∀ x, bKind e.word = 0 → x = makeSlot t f pos (t.cell f pos).next i e →
      (slotGuarded e.word x.cluster = true → 8 ≤ (waiting (t.cell f pos)).length →
        exec (.cellRepetitionBegin f pos cyc err) s = .next (stall f pos cyc t)) ∧
      (slotGuarded e.word x.cluster = true → (waiting (t.cell f pos)).length < 8 →
        exec (.cellRepetitionBegin f pos cyc err) s = .next (armGuard f pos cyc
          (bTag e.word / 4096 * 4096 + (bTag e.word % 4096 + i) % 4096) (bCount e.word) (bWindow e.word) x
          (startRep f pos cyc x.span e i q none t))) ∧
      (slotGuarded e.word x.cluster = false → unitsFree (t.cell f pos) x.units = false ∨ groupBusy (t.cell f pos) x.order x.seq = true →
        exec (.cellRepetitionBegin f pos cyc err) s = .next (hold f pos cyc t)) ∧
      (slotGuarded e.word x.cluster = false → unitsFree (t.cell f pos) x.units = true → groupBusy (t.cell f pos) x.order x.seq = false →
        x.units ≠ 0 → ∃ u, u = startRep f pos cyc x.span e i q (some x.seq) t ∧
          exec (.cellRepetitionBegin f pos cyc err) s = .next (u.setCell f pos { u.cell f pos with
            running := (u.cell f pos).running ++ [{ slot := x, guarded := false }] })) ∧
      (slotGuarded e.word x.cluster = false → unitsFree (t.cell f pos) x.units = true → groupBusy (t.cell f pos) x.order x.seq = false →
        x.units = 0 → exec (.cellRepetitionBegin f pos cyc err) s = .next (startRep f pos cyc x.span e i q none t)))))

/-- R165, R170, R171, R173, R84, R191: parked and running slots. A fired slot takes its units and runs; an expired one marks
what it would have written; a running slot issues at most one access to port A, one request to port B, one unit operation,
the next rows of a DRAIN and one write in a cycle; a slot that is done releases its units. Model's choices: log entries 63,
64, 67, 68, 154. -/
def Obligations.SlotsRunAndEnd : Prop := ∀ (f : Fin 88) (pos : Fin 72) (cyc id : Nat) (s t : State), CellTurn f pos cyc s t →
  (∀ p, (t.cell f pos).parked.find? (fun p => p.slot.seq == id) = some p →
    (p.phase = 0 → exec (.slotBegin f pos cyc id) s = .next t) ∧
    (p.phase = 1 → groupBusy (t.cell f pos) p.slot.order p.slot.seq = false → unitsFree (t.cell f pos) p.slot.units = true →
      (readyInOrder t f pos cyc).any (fun y => y.units &&& p.slot.units != 0) = false → inSentinel (t.cell f pos) cyc = false →
      exec (.slotBegin f pos cyc id) s = .next (putCell f pos { t.cell f pos with
        parked := (t.cell f pos).parked.filter (fun q => q.slot.seq != id)
        running := (t.cell f pos).running ++ [{ slot := p.slot, guarded := true }] } t)) ∧
    (p.phase = 2 → markReqs p.slot ≠ [] → groupBusy (t.cell f pos) p.slot.order p.slot.seq = false →
      unitsFree (t.cell f pos) 32 = true → (readyInOrder t f pos cyc).any (fun y => y.units &&& 32 != 0) = false →
      inSentinel (t.cell f pos) cyc = false →
      exec (.slotBegin f pos cyc id) s = .next (putCell f pos { t.cell f pos with
        parked := (t.cell f pos).parked.filter (fun q => q.slot.seq != id)
        running := (t.cell f pos).running ++
          [{ slot := p.slot, guarded := true, marking := true, formed := true, out := markReqs p.slot }] } t))) ∧
  ((t.cell f pos).parked.find? (fun p => p.slot.seq == id) = none → exec (.slotBegin f pos cyc id) s = .next t) ∧
  (∀ (err : Nat) (col : BitVec 3) (upset : BitVec 128),
    ((t.cell f pos).running.find? (fun r => r.slot.seq == id) = none →
      exec (.microOpIssue f pos cyc id ⟨err, col⟩ upset) s = .next t) ∧
    (∀ r, (t.cell f pos).running.find? (fun r => r.slot.seq == id) = some r → cyc < r.last →
      exec (.microOpIssue f pos cyc id ⟨err, col⟩ upset) s = .next t) ∧
    (∀ r a b u d w x, (t.cell f pos).running.find? (fun r => r.slot.seq == id) = some r → r.last ≤ cyc → r.marking = false →
      a = issueA f pos cyc { r with last := cyc + 1 } (col.getLsbD 0) upset t → b = issueB f pos cyc a.1 (col.getLsbD 1) a.2 →
      u = issueU f pos cyc b.1 err b.2.2 → d = issueD f pos cyc u.1 err u.2.2 →
      w = issueW f pos cyc (formWrites d.1) (col.getLsbD 2) d.2.2 →
      x = w.2.2.setCell f pos (setRunning w.1 (w.2.2.cell f pos)) →
      ((b.2.1 || u.2.1 || d.2.1 || w.2.1) = true →
        exec (.microOpIssue f pos cyc id ⟨err, col⟩ upset) s = .next (stall f pos cyc x)) ∧
      ((b.2.1 || u.2.1 || d.2.1 || w.2.1) = false → (x.cell f pos).stallAt ≤ cyc →
        exec (.microOpIssue f pos cyc id ⟨err, col⟩ upset) s = .next (x.set (F.CEL_STATUS_STALLED f pos) 0))) ∧
    (∀ r w x, (t.cell f pos).running.find? (fun r => r.slot.seq == id) = some r → r.last ≤ cyc → r.marking = true → r.formed = true →
      w = issueW f pos cyc { r with last := cyc + 1 } (col.getLsbD 2) t →
      x = w.2.2.setCell f pos (setRunning w.1 (w.2.2.cell f pos)) →
      (w.2.1 = true → exec (.microOpIssue f pos cyc id ⟨err, col⟩ upset) s = .next (stall f pos cyc x)) ∧
      (w.2.1 = false → (x.cell f pos).stallAt ≤ cyc →
        exec (.microOpIssue f pos cyc id ⟨err, col⟩ upset) s = .next (x.set (F.CEL_STATUS_STALLED f pos) 0)))) ∧
  (∀ r c, (t.cell f pos).running.find? (fun r => r.slot.seq == id) = some r →
    c = installSlot r { t.cell f pos with
      running := (t.cell f pos).running.filter (fun q => q.slot.seq != id)
      rep := (t.cell f pos).rep.map (fun p => if p.slot = some id then { p with slot := none } else p) } →
    (slotDone r = false → exec (.slotEnd f pos cyc id) s = .next t) ∧
    (slotDone r = true → exec (.slotEnd f pos cyc id) s = .next (t.setCell f pos c)))

/-- R113, R117, R102, R104, R105, R242: scratchpad ports and arrivals. A port grants one request a cycle, in the order
its wheel position prefers, and none while the scratchpad is zeroed; an arrival committed earlier is recorded, one a
cycle, and a tier's acknowledgement in a cycle without one; what an arrival lets fire fires as the field's clock moves
on; a read for the NI waits while the injection buffer is full (R203); a guard whose window has passed is a slot miss. A cell whose cluster is not ON does none of it (R408).
Model's choices: log entries 64, 65, 66. -/
def Obligations.PortsGrantAndArrivalsCount : Prop := ∀ (f : Fin 88) (pos : Fin 72) (cyc : Nat) (s t : State),
  (domState s (domOfCell f pos) ≠ 3 → (∀ wport upset, exec (.scratchpadAccessGrant f pos cyc wport upset) s = .next s) ∧
    exec (.arrivalRecord f pos cyc) s = .next s ∧ exec (.tierAckArrival f pos cyc) s = .next s ∧
    exec (.guardExpiry f pos cyc) s = .next s) ∧
  (CellTurn f pos cyc s t →
  (∀ (wport : Bool) (upset : BitVec 128), t.flag (F.CEL_STATUS_SP_ZEROING f pos) = true →
    exec (.scratchpadAccessGrant f pos cyc wport upset) s = .next t) ∧
  (∀ (upset : BitVec 128) (r : PortReq) (l : List PortReq), t.flag (F.CEL_STATUS_SP_ZEROING f pos) = false →
    ((t.cell f pos).grantW ≤ cyc → pickReq cyc (fun _ => false) (t.cell f pos).wport = some (r, l) →
      exec (.scratchpadAccessGrant f pos cyc true upset) s = .next (grantWrite f pos cyc r
        (noteWait f pos cyc r (t.setCell f pos { t.cell f pos with wport := l, grantW := cyc + 1 })))) ∧
    ((t.cell f pos).grantB ≤ cyc → pickReq cyc (sendWaits t f pos) (t.cell f pos).portB = some (r, l) →
      exec (.scratchpadAccessGrant f pos cyc false upset) s = .next (grantRead f pos cyc r upset
        (noteWait f pos cyc r (t.setCell f pos { t.cell f pos with portB := l, grantB := cyc + 1 }))))) ∧
  (∀ tag at_ l, (t.cell f pos).arrivals = (tag, at_) :: l →
    (at_ < cyc → (t.cell f pos).lastArrival ≤ cyc → exec (.arrivalRecord f pos cyc) s = .next
      (recordArrival f pos cyc tag (t.setCell f pos { t.cell f pos with arrivals := l, lastArrival := cyc + 1 }))) ∧
    (cyc ≤ at_ ∨ cyc < (t.cell f pos).lastArrival → exec (.arrivalRecord f pos cyc) s = .next t)) ∧
  ((t.cell f pos).arrivals = [] → exec (.arrivalRecord f pos cyc) s = .next t) ∧
  (∀ tag l, (t.cell f pos).acks = tag :: l → (t.cell f pos).lastArrival ≤ cyc →
    (t.cell f pos).arrivals.any (fun e => decide (e.2 < cyc)) = false → exec (.tierAckArrival f pos cyc) s = .next
      (recordArrival f pos cyc tag (t.setCell f pos { t.cell f pos with acks := l, lastArrival := cyc + 1 }))) ∧
  ((t.cell f pos).acks = [] ∨ cyc < (t.cell f pos).lastArrival → exec (.tierAckArrival f pos cyc) s = .next t) ∧
  (expireList cyc (t.cell f pos).parked = none → exec (.guardExpiry f pos cyc) s = .next t) ∧
  (∀ p l u, expireList cyc (t.cell f pos).parked = some (p, l) →
    u = slotMiss f pos p (putCell f pos { t.cell f pos with parked := l } t) →
    exec (.guardExpiry f pos cyc) s = .next (putCell f pos (fireTag p.tag cyc (u.cell f pos)) u))) ∧
  (∀ u, u = s.set (F.CEL_STATUS_SP_ZEROING f pos) 0 →
    (u.power.entering.find? (fun e => e.dom == domOfCell f pos && e.kind == 1) = none →
      exec (.scratchpadZeroDone f pos) s = .next u) ∧
    (∀ (e : Waking) (v : State), u.power.entering.find? (fun e => e.dom == domOfCell f pos && e.kind == 1) = some e →
      v = { u with power := { u.power with
        entering := u.power.entering.filter (fun e => !(e.dom == domOfCell f pos && e.kind == 1)) } } →
      ((clusterCells (domOfCell f pos)).any (fun q => u.flag (F.CEL_STATUS_SP_ZEROING f q)) = true →
        exec (.scratchpadZeroDone f pos) s = .next u) ∧
      ((clusterCells (domOfCell f pos)).any (fun q => u.flag (F.CEL_STATUS_SP_ZEROING f q)) = false →
        exec (.scratchpadZeroDone f pos) s =
          .next (endDomainOn (domOfCell f pos) stOk e.defer (clusterOn (domOfCell f pos) v)))))

/-! ### The wafer mesh (06_wafer_mesh) -/

/-- R188, R191, R193, R197, R204, R208: a network interface injects its next packet once its router's local input is free and
its turn at a shared local port has come: the header filled, the packet on the mesh with its planned route and a retry record;
without a route it is dropped. A backoff that has passed, in uncore cycles of 0.8 ns, sends the whole packet again, its data
read anew; a record that has waited 2,048 cycles without a resend or a BUSY lapses. Model's choices: log entries 64, 68, 76. -/
def Obligations.PacketsAreInjectedAndRetried : Prop := ∀ (f : Fin 88) (node : Fin 78) (s : State),
  (∀ errs, nextOut (s.ni f node) = none → exec (.packetInject f ⟨node, errs⟩) s = .next s) ∧
  (∀ p errs, nextOut (s.ni f node) = some p → uncoreOn s f = false ∨ yields f node s = true ∨
    bufHeld s (fillHeader s f node p).id (headBuf (fillHeader s f node p)) = true →
    exec (.packetInject f ⟨node, errs⟩) s = .next s) ∧
  (∀ p q t u errs, nextOut (s.ni f node) = some p → q = fillHeader s f node p →
    uncoreOn s f = true → yields f node s = false → bufHeld s q.id (headBuf q) = false →
    t = s.setNi f node { s.ni f node with out := (s.ni f node).out.erase p } →
    u = { t with mesh := { t.mesh with nextId := if p.id = 0 then t.mesh.nextId + 1 else t.mesh.nextId } } →
    (locate u q.dst q.src = none → exec (.packetInject f ⟨node, errs⟩) s = .next (unreachable f node q u)) ∧
    (∀ g lc pos, locate u q.dst q.src = some (g, lc, pos) →
      (chooseRoute u q.part (q.x, q.y) (globalX g pos, globalY g pos) = none →
        exec (.packetInject f ⟨node, errs⟩) s = .next (unreachable f node q u)) ∧
      (∀ r x v, chooseRoute u q.part (q.x, q.y) (globalX g pos, globalY g pos) = some r →
        x = { q with route := r.hops, order := r.order, exp := r.exp, dstX := globalX g pos, dstY := globalY g pos } →
        v = u.setNi f node { u.ni f node with retry := keepRecord node u.fet x (u.ni f node).retry } →
        exec (.packetInject f ⟨node, errs⟩) s = .next (checkFlits f (nodePos node x.src) 4 x.id errs
          (closeUp { v with mesh := { v.mesh with
              packets := v.mesh.packets ++ [x]
              localTurns := AMap.put (fun _ => 0) v.mesh.localTurns (72 * f + nodePos node x.src) (sideOf node) } }))))) ∧
  (∀ k r t u, (s.ni f node).retry[k]? = some r →
    (r.waiting = false ∨ s.fet < r.at_ + cdiv (4 * r.backoff) 5 → exec (.retryBackoffExpiry f node k) s = .next s) ∧
    (r.waiting = true → r.at_ + cdiv (4 * r.backoff) 5 ≤ s.fet → u = (s.setNi f node { s.ni f node with
        retry := (s.ni f node).retry.set k { r with pkt := { r.pkt with id := s.mesh.nextId }, waiting := false, at_ := s.fet }
        out := (s.ni f node).out ++ [{ r.pkt with id := s.mesh.nextId, refusals := r.refusals }]
        rereads := (s.ni f node).rereads ++ (if node.val < 72 then [⟨s.mesh.nextId, r.pkt.src0, r.len⟩] else []) }) →
      t = ({ u with mesh := { u.mesh with nextId := u.mesh.nextId + 1 } } : State).count (F.MSH_BUSY_CNT_RETRIED f) 1 →
      exec (.retryBackoffExpiry f node k) s =
        .next (if node.val < 72 then fillQueue (refillReads f node (t.fieldD f).cyc) t else t)) ∧
    (r.waiting = true ∨ (s.ni f node).out.any (fun p => p.id == r.pkt.id) = true ∨ s.fet < r.at_ + cdiv (4 * 2048) 5 →
      exec (.retryRecordLapse f node k) s = .next s) ∧
    (r.waiting = false → (s.ni f node).out.any (fun p => p.id == r.pkt.id) = false → r.at_ + cdiv (4 * 2048) 5 ≤ s.fet →
      exec (.retryRecordLapse f node k) s =
      .next (s.setNi f node { s.ni f node with retry := (s.ni f node).retry.eraseIdx k }))) ∧
  (∀ k, (s.ni f node).retry[k]? = none →
    exec (.retryBackoffExpiry f node k) s = .next s ∧ exec (.retryRecordLapse f node k) s = .next s)

/-- R187, R188, R189, R202, R205, R207, R208, R213, R215, R217: packets on the mesh. A hop waits for a virtual channel
that another packet holds or that has no credit, for its turn at the output, for the injections of an express stop, or for
power at either router; it is dropped by the seam firewall where its partition may not cross, and otherwise its head enters
the next router of its route, where the input may find errors in its flits. At its destination a packet leaves the mesh by the
local output and passes the header checks; a control packet takes the entry reserved for it and ends there, a data packet takes
a context or is refused with a BUSY, which the sender's retry record takes. A drain window ends at
its time. Model's choices: log entries 68, 76, 78, 139. -/
def Obligations.PacketsTravelAndArrive : Prop := ∀ (id : Nat) (s : State) (p : Packet),
  s.mesh.packets.find? (fun p => p.id == id) = some p →
  (∀ errs h rest, p.route = h :: rest → ∀ f pos g gpos, routerAt p.x p.y = some (f, pos) → routerAt h.x h.y = some (g, gpos) →
    (inputHeld s p h = true ∨ headWaits s p = true ∨ stopWaits s h g gpos = true ∨ uncoreOn s f = false ∨ uncoreOn s g = false →
      exec (.packetHop id errs) s = .next s) ∧
    (inputHeld s p h = false → headWaits s p = false → stopWaits s h g gpos = false → uncoreOn s f = true → uncoreOn s g = true →
      (s.flag F.MSH_MODE_MODE = true → p.part ≠ 0 → h.via = 0 → decide (p.x < 40) ≠ decide (h.x < 40) →
        bitOf (s.get F.MSH_MODE_SEAM_ALLOW) p.part = 0 → exec (.packetHop id errs) s = .next (seamDrop f g p s)) ∧
      (∀ t u, s.flag F.MSH_MODE_MODE = false ∨ p.part = 0 ∨ h.via ≠ 0 ∨ decide (p.x < 40) = decide (h.x < 40) ∨
          bitOf (s.get F.MSH_MODE_SEAM_ALLOW) p.part ≠ 0 →
        t = stepHead p h rest (passStop h g gpos (passTurn p s)) →
        u = wormInject p.id (wormOuts p (hopPorts p h).2 (nextBuf p h)) t →
        exec (.packetHop id errs) s = .next (checkFlits g gpos (hopPorts p h).1 p.id errs u)))) ∧
  (p.route = [] → (∀ errs, exec (.packetHop id errs) s = .next s) ∧
    (∀ f node c q t, ejectNode p = some (f, node) → ejectPacket p f s = some (q, t) → q.injected = true →
      c = headerChecks f node q t →
      (p.ctl ≠ 1 →
        (c.1 = false → exec (.packetReceive id) s = .next c.2) ∧
        (c.1 = true → q.cls = 0 → exec (.packetReceive id) s = .next (takeControl f node c.2)) ∧
        (c.1 = true → q.cls ≠ 0 → contextLimit node ≤ contextsHeld c.2 f node + rivalsAhead c.2 q (f, node) →
          exec (.packetReceive id) s = .next (sendBusy f node q c.2)) ∧
        (c.1 = true → q.cls ≠ 0 → contextsHeld c.2 f node + rivalsAhead c.2 q (f, node) < contextLimit node →
          exec (.packetReceive id) s = .next (grantContext f node q c.2))) ∧
      (p.ctl = 1 → exec (.busyReceive id) s =
        .next (if c.1 then refused f node (leAt q.body 0 16) (takeControl f node c.2) else c.2))) ∧
    (∀ f node, ejectNode p = some (f, node) → headWaits s p = true ∨ uncoreOn s f = false →
      exec (.packetReceive id) s = .next s ∧ exec (.busyReceive id) s = .next s)) ∧
  (s.fet < s.mesh.drainEnd → exec .drainWindowEnd s = .next s) ∧
  (s.mesh.drainEnd ≤ s.fet → exec .drainWindowEnd s = .next (nextMap (s.set F.MSH_MAP_STATUS_FENCE 0)))

/-! ### Weight streaming and the tiers (07_weight_streaming) -/

/-- R237, R239, R240, R224, R227, R285, R241, R242: mover descriptors. A queue's oldest unstarted descriptor starts while fewer
than OUT_LIMIT run ahead of it, and ends at once if it is malformed; an access that a branch has room for starts, one in an uncore cycle, held where
its group updates, or is refused by a fence or a missing key; once nothing stands ahead of it at its units its completion
moves the data; done descriptors leave their queue in post order. Model's choices: log entries 1, 75, 80, 128, 146, 171. -/
def Obligations.MoversRunDescriptors : Prop := ∀ (f : Fin 88) (s : State),
  (∀ (q : Fin 32), oldest (inQueue (s.fieldD f) q) = none → exec (.descriptorStart f q) s = .next s) ∧
  (∀ (q : Fin 32) e ahead n, oldest (inQueue (s.fieldD f) q) = some (e, ahead) →
    n = (ahead.filter (fun x => x.running && !descDone (s.fieldD f) x)).length →
    (moversRun s f = false ∨ s.get (F.VLT_MQ_CFG_OUT_LIMIT f q) ≤ n ∨
        (dAfter e.word = true ∧ ahead.all (descDone (s.fieldD f)) = false) →
      exec (.descriptorStart f q) s = .next s) ∧
    (∀ t u, moversRun s f = true → n < s.get (F.VLT_MQ_CFG_OUT_LIMIT f q) →
      (dAfter e.word = true → ahead.all (descDone (s.fieldD f)) = true) →
      t = setDesc f { e with
          running := !descBad e.word, ended := descBad e.word
          started := List.replicate (dUnits e.word) 0, completed := List.replicate (dUnits e.word) 0 }
        (s.high (F.VLT_MQ_STATUS_HOLD_HW f q) (((s.fieldD f).cyc - e.since) / 64)) →
      u = (match oldest (inQueue (t.fieldD f) q) with
        | some (m, _) => setDesc f { m with since := (t.fieldD f).cyc } t
        | none => t) →
      exec (.descriptorStart f q) s = .next (showQueue f q (if descBad e.word then malformed f q e.index u else u)))) ∧
  (∀ (branch : Fin 9), moversRun s f = false ∨ 1536 ≤ (s.fieldD f).accs.length ∨
      AMap.get (fun _ => 0) (s.fieldD f).branchAt branch = uncoreCycle s + 1 → exec (.moverAccessStart f branch) s = .next s) ∧
  (∀ (branch : Fin 9) e i bad, moversRun s f = true → (s.fieldD f).accs.length < 1536 →
    AMap.get (fun _ => 0) (s.fieldD f).branchAt branch ≠ uncoreCycle s + 1 →
    (serveOrder s f branch).findSome? (fun e => (nextCell s f branch e).map (fun i => (e, i))) = some (e, i) →
    bad = (tcAddrs e.word i (e.started.getD i 0)).findSome? (fun a =>
      if accessRefused s (vaultOf f) (ownerOf s f) a (a + 256) false = 0 then none
      else some (accessRefused s (vaultOf f) (ownerOf s f) a (a + 256) false, a)) →
    (∀ r a, bad = some (r, a) → exec (.moverAccessStart f branch) s = .next (refuseAccess f (vaultOf f) r a i e s)) ∧
    (bad = none → exec (.moverAccessStart f branch) s = .next (beginAccess f branch i e (s.setField f { s.fieldD f with
      branchAt := AMap.put (fun _ => 0) (s.fieldD f).branchAt branch (uncoreCycle s + 1) })))) ∧
  (∀ (branch : Fin 9), moversRun s f = true → (s.fieldD f).accs.length < 1536 →
    (serveOrder s f branch).findSome? (fun e => (nextCell s f branch e).map (fun i => (e, i))) = none →
    exec (.moverAccessStart f branch) s = .next s) ∧
  (∀ (id : Nat) (ecc : Fin 3) (a : MoverAcc), (s.fieldD f).accs.find? (fun a => a.id == id) = some a →
    (a.stage = 3 → exec (.moverAccessComplete f id ecc) s = .next (finishAccess f a s)) ∧
    (a.stage = 0 ∨ a.stage = 2 → exec (.moverAccessComplete f id ecc) s = .next s) ∧
    (a.stage = 1 → a.held = true ∨ behindOther (s.fieldD f) a = true ∨ accBusy s f a = true ∨
        moverAhead s (vaultOf f) a.reached (accTierC a).contains = true →
      exec (.moverAccessComplete f id ecc) s = .next s) ∧
    (∀ r, a.stage = 1 → a.held = false → behindOther (s.fieldD f) a = false → accBusy s f a = false →
      moverAhead s (vaultOf f) a.reached (accTierC a).contains = false →
      r = (if dSrc a.word = 1 then (a.data, s) else tierRead f ecc a s) →
      (toScratch a.word = true → roomW s f (dstPos s f a.word (if a.cell = 64 then 0 else a.cell)) = true →
        exec (.moverAccessComplete f id ecc) s = .next (queueWrites f a r.1 r.2)) ∧
      (toScratch a.word = false →
        exec (.moverAccessComplete f id ecc) s = .next (finishAccess f a (tierWrite f a r.1 r.2))))) ∧
  (∀ (q : Fin 32), exec (.descriptorComplete f q) s = .next (freeEntries f q
    ((inQueue (s.fieldD f) q).foldl (fun s e => if e.running then ackArrivals f e s else s) s)))

/-- R220, R221, R230, R231, R233, R234: the tiers' own events. A zeroed Tier N stack shows it; the patrol scrub, once PERIOD_H
has passed, counts what it corrected and marks what it could not, in Tier N and in Tier C; at the epoch of a checkpoint every
segment of its regions is unsaved and its slot holds nothing more; the writer saves the lowest segment, after the mover
requests that reached it before, unless a fence or an absent key refuses it; a segment about to be written goes to the reserve, waits for room, or ends the checkpoint where its
copy fails; the completion record is journaled once every segment is saved; staged journal records are flushed when due.
Model's choices: log entries 28, 41, 42, 80, 81, 82, 83, 146. -/
def Obligations.TierEventsTakeEffect : Prop := ∀ (s : State),
  (∀ (f : Fin 88), exec (.tierNZeroDone f) s =
    .next ((s.setField f { s.fieldD f with zeroing := false }).set (F.VLT_N_STATUS_ZEROING f) 0)) ∧
  (∀ (x : Fin 100) (corr unc bad good : List Nat), x.val < 88 →
    (s.fet < (s.fieldD x).scrubAt + s.get (F.VLT_SCRUB_CFG_PERIOD_H (vaultOf x)) * 3600000000000 →
      exec (.patrolScrub x corr unc) s = .next s) ∧
    ((s.fieldD x).scrubAt + s.get (F.VLT_SCRUB_CFG_PERIOD_H (vaultOf x)) * 3600000000000 ≤ s.fet →
      bad = ((unc ++ (s.fieldD x).tnEcc).filter (fun u => decide (u < 2 ^ 26))).eraseDups →
      good = (((corr.filter (fun u => decide (u < 2 ^ 26))).eraseDups).filter (fun u => !bad.contains u)) →
      exec (.patrolScrub x corr unc) s = .next (((s.setField x { s.fieldD x with scrubAt := s.fet }).forEach good
        (tnCorrected x)).forEach bad (fun u t => tnUncorrectable x u 0 false t)))) ∧
  (∀ (x : Fin 100) (v : Nat) (corr unc bad good : List Nat), x.val = 88 + v →
    (s.fet < (s.vault v).scrubAt + s.get (F.VLT_SCRUB_CFG_PERIOD_H v) * 3600000000000 →
      exec (.patrolScrub x corr unc) s = .next s) ∧
    ((s.vault v).scrubAt + s.get (F.VLT_SCRUB_CFG_PERIOD_H v) * 3600000000000 ≤ s.fet →
      bad = ((unc ++ (s.vault v).tcEcc).filter (fun u => decide (u < 2 ^ 30))).eraseDups →
      good = (((corr.filter (fun u => decide (u < 2 ^ 30))).eraseDups).filter (fun u => !bad.contains u)) →
      exec (.patrolScrub x corr unc) s = .next (((s.setVault v { s.vault v with scrubAt := s.fet }).forEach good
        (fun u t => tcCorrected v u (regionPart t v u) 0 t)).forEach bad
          (fun u t => tcUncorrectable v u (regionPart t v u) 0 t)))) ∧
  (∀ (p : Fin 8), (s.part p).ckptAt = none → exec (.ckptEpoch p) s = .next s) ∧
  (∀ (p : Fin 8) e, (s.part p).ckptAt = some e →
    (s.fet < e → exec (.ckptEpoch p) s = .next s) ∧
    (e ≤ s.fet → exec (.ckptEpoch p) s = .next ((dropSlot p (s.part p).ckptSlot
      (s.setPart p { s.part p with ckptAt := none })).forEach
      (((s.part p).ckptRegions.map (·.1)).eraseDups) (fun v t => showCkpt v (t.setVault v { t.vault v with
        ckpt := some
          { vault := v, part := p, slot := (s.part p).ckptSlot, epoch := e, pkey := (s.part p).keyP.getD []
            unsaved := (((((s.part p).ckptRegions.filter (fun r => r.1 == v)).map (fun r => regionSegs t v r.2)).flatten)).foldl
              (fun l g => setAdd g l) [] } }))))) ∧
  (∀ (v : Fin 12) k g place code, (s.vault v).ckpt = some k → nextSave k = some (g, place) →
    code = tierPRefused s (flashVault v g) k.part →
    (s.boot.inputLost = true ∨ vaultBusy s v = true ∨ moverBefore s v (4096 * place) 4096 = true →
      exec (.segmentSave v) s = .next s) ∧
    (s.boot.inputLost = false → vaultBusy s v = false → moverBefore s v (4096 * place) 4096 = false → code ≠ 0 →
      exec (.segmentSave v) s =
      .next (refusedTierP (flashVault v g) k.part code (4096 * Config.slotPlace (flashVault v g) v k.part k.slot g) s)) ∧
    (s.boot.inputLost = false → vaultBusy s v = false → moverBefore s v (4096 * place) 4096 = false → code = 0 →
      tierCKey s v k.part = none → exec (.segmentSave v) s = .next (refusalFault v k.part 3 (segBytes * place) 0 s)) ∧
    (∀ key, s.boot.inputLost = false → vaultBusy s v = false → moverBefore s v (4096 * place) 4096 = false → code = 0 →
      tierCKey s v k.part = some key → exec (.segmentSave v) s =
      .next (segErrors v k.part place (showCkpt v (intoFlash k
        (readSegment (s.vault v) v key g place)
        (s.setVault v { s.vault v with ckpt := some { k with
          unsaved := setDel g k.unsaved, reserve := k.reserve.filter (fun x => x.1 != g) } })))))) ∧
  (∀ (v : Fin 12) k, (s.vault v).ckpt = some k → k.unsaved = [] → k.reserve = [] → exec (.segmentSave v) s = .next s) ∧
  (∀ (k : CkptState) (g place : Nat), nextSave k = some (g, place) →
    ((g, place) ∈ k.reserve ∨ (g ∈ k.unsaved ∧ place = g)) ∧ (∀ h ∈ k.unsaved, g ≤ h) ∧ (∀ x ∈ k.reserve, g ≤ x.1)) ∧
  (∀ (v : Fin 12), (s.vault v).ckpt = none → exec (.segmentSave v) s = .next s) ∧
  (∀ (v : Fin 12) (addr : Nat) (ok : Bool) k, (s.vault v).ckpt = some k →
    (k.unsaved.contains (addr / segBytes) = false → exec (.copyOnWrite v addr ok) s = .next s) ∧
    (vaultBusy s v = true ∨ moverBefore s v (4096 * (addr / segBytes)) 4096 = true →
      exec (.copyOnWrite v addr ok) s = .next s) ∧
    (k.unsaved.contains (addr / segBytes) = true → vaultBusy s v = false → moverBefore s v (4096 * (addr / segBytes)) 4096 = false →
      (∀ g ∈ reserveSegs s v k.part, ∃ x ∈ k.reserve, x.2 = g) →
      exec (.copyOnWrite v addr ok) s = .next (s.count (F.VLT_COW_STATUS_UE_WAITS v) 1)) ∧
    (∀ place t u, k.unsaved.contains (addr / segBytes) = true → vaultBusy s v = false →
      moverBefore s v (4096 * (addr / segBytes)) 4096 = false → freeReserve s v k = some place →
      (moverBefore s v (4096 * place) 4096 = true → exec (.copyOnWrite v addr ok) s = .next s) ∧
      (∀ key, moverBefore s v (4096 * place) 4096 = false → ok = true → tierCKey s v k.part = some key →
        exec (.copyOnWrite v addr ok) s = .next (noteCopied v (addr / segBytes) place
          (segErrors v k.part (addr / segBytes) (copySegment v key (addr / segBytes) place s)))) ∧
      (moverBefore s v (4096 * place) 4096 = false → ok = false ∨ tierCKey s v k.part = none →
        t = (if (tierCKey s v k.part).isNone = true then refusalFault v k.part 3 addr 0 s else s) →
        u = raiseFault { tierEvent 0x0309 k.part (88 + v) 11 (tcChannel t v (addr / 256)) addr 0 with access := 2 } t →
        exec (.copyOnWrite v addr ok) s = .next (endCkpt k.part 0x0400 [] u.fet u)))) ∧
  (∀ (p : Fin 8) (vs : List Nat) (ok : Nat → Bool), vs = ((s.part p).ckptRegions.map (·.1)).eraseDups →
    ok = (fun v => (s.vault v).ckpt.any (fun k => k.part == p.val && k.unsaved.isEmpty && k.reserve.isEmpty)) →
    ((s.part p).ckptAt ≠ none ∨ vs = [] ∨ vs.all ok = false → exec (.ckptCompletionRecord p) s = .next s) ∧
    (∀ e, (s.part p).ckptAt = none → vs ≠ [] → vs.all ok = true → e = (((s.vault (vs.headD 0)).ckpt.map (·.epoch)).getD 0) →
      exec (.ckptCompletionRecord p) s = .next
      (endCkpt p 0 (leBytes (s.part p).ckptSlot 8 ++
          leBytes (segBytes * ((s.part p).ckptRegions.map (fun r => (regionSegs s r.1 r.2).length)).sum) 8) e
        (s.journal (.completion p (s.part p).ckptSlot e))))) ∧
  ((s.vault 0).staging ≠ [] → 131072 ≤ (s.vault 0).staging.length ∨ (s.vault 0).stagedAt + 10000000 ≤ s.fet →
    exec .journalStagingFlush s = .next (flushJournal s)) ∧
  ((s.vault 0).staging = [] ∨ ((s.vault 0).staging.length < 131072 ∧ s.fet < (s.vault 0).stagedAt + 10000000) →
    exec .journalStagingFlush s = .next s)

/-! ### Gradients and the update (08_gradients_and_update) -/

/-- R256, R257, R262, R265, R266, R268, R269, R271: Edge Reduction Units. A frame delivered to a port is taken by the ERU whose
entry holds its tag, and its first flit claims its buffers; a field's packet is taken from its sub-channel, and one that no entry names leaves as a data frame; at its deadline an entry takes what its window holds and
reduces it, a scalar or a chunk; at the result's deadline it delivers and forwards the result, or raises RESULT_MISSING; at V
each verdict owed goes to its cell; a notice turns its chunk's verdict into an abstention; a refused frame goes out again
in a slot of its partition, its entry and chunk kept, once its backoff has passed. Model's choices: log entries 9, 76, 85,
86, 87, 88, 89, 94, 95, 139. -/
def Obligations.EruEventsTakeEffect : Prop := ∀ (n : Fin 64) (s : State),
  (∀ fr (ecc : Fin 3) early t, Delivered n fr s t → scheduled fr = true →
    exec (.eruInputArrival n (.frame fr) ⟨false, ecc, early⟩) s = .next (dropFrameClaim n fr (takeFrame n ecc early fr t))) ∧
  (∀ fr (ecc : Fin 3) early m e c kind, stateCarries s n fr = true → scheduled fr = true → isHere s fr = true →
    frameEntry s n fr = some (m, e, c) → entryOp s m e ≠ 3 → fr.part = entryPart s m e → frameGenOk s fr = true →
    kind = (redInput e c fr).kind → inputLate s m e c kind = false → exec (.eruInputArrival n (.frame fr) ⟨true, ecc, early⟩) s =
      .next (claimInput m e c kind (frameLen fr) (rivalBufs s m (leAt fr.payload 18 1)) (linkBusy n fr) s)) ∧
  (∀ (f : Fin 88) (ecc : Fin 3) early first, (s.fieldD f).portIn = [] →
    exec (.eruInputArrival n (.mesh f) ⟨first, ecc, early⟩) s = .next s) ∧
  (∀ (f : Fin 88) coord dst addr (ecc : Fin 3) early first p rest fr, (s.fieldD f).portIn = p :: rest → portDieOf f = n.val / 8 →
    p.src < 5632 → p.data ≠ [] → p.data.length ≤ 255 → (∀ m, m / 8 = n.val / 8 → findEntry s m p.tag = none) →
    fr = mkFrame s 0 p.part p.tag (8 * coord.toNat + 3) 3 (dataPayload dst.toNat addr.toNat p.data) →
    exec (.eruInputArrival n (.outbound f coord dst addr) ⟨first, ecc, early⟩) s =
      .next (sendFrame { fr with poison := p.data.any (fun l => l.any (·.bad)) } (s.setField f { s.fieldD f with portIn := rest }))) ∧
  (∀ (f : Fin 88) (ecc : Fin 3) early p rest e c, (s.fieldD f).portIn = p :: rest → portDieOf f = n.val / 8 → p.src < 5632 →
    findEntry s n p.tag = some (e, c) → exec (.eruInputArrival n (.mesh f) ⟨false, ecc, early⟩) s =
      .next (takeLocal n e c f ecc early p (s.setField f { s.fieldD f with portIn := rest }))) ∧
  (∀ (e : Fin 128) (c : Nat) t u, DeadlineDue n e c (deadlineSlot s n e c) 0 s → t = markActed n e c 0 s →
    u = setWindow n ((t.eru n).win.filter (fun w => !(w.entry == e.val && w.chunk == c && w.kind % 4 != 2))) t →
    (moduleQuenched u = true → exec (.eruSlotDeadline n e c) s = .next (quenchDeadline n e c u)) ∧
    (moduleQuenched u = false → entryOp u n e = 2 →
      exec (.eruSlotDeadline n e c) s = .next (scalarDeadline n e c (winGet s n e c 0) (winGet s n e c 1) u)) ∧
    (moduleQuenched u = false → entryOp u n e ≠ 2 →
      exec (.eruSlotDeadline n e c) s = .next (chunkDeadline n e c (winGet s n e c 0) (winGet s n e c 1) u))) ∧
  (∀ (e : Fin 128) (c : Nat), s.fet < slotFet s n e (deadlineSlot s n e c) ∨ acted s n e c 0 = true ∨ entryOn s n e = false →
    exec (.eruSlotDeadline n e c) s = .next s) ∧
  (∀ (e : Fin 128) (c k : Nat) t u, resultSlot s n e c = some k → DeadlineDue n e c k 1 s → moduleQuenched s = false →
    t = markActed n e c 1 s →
    u = setWindow n ((t.eru n).win.filter (fun w => !(w.entry == e.val && w.chunk == c && w.kind % 4 == 2))) t →
    (winGet s n e c 2 = none → exec (.eruResultDeadline n e c) s =
      .next (raiseFault (eruEvent 0x0409 n (entryPart u n e) (chunkTag u n e c)) (eruErr n 1 (entryPart u n e) (chunkTag u n e c) u))) ∧
    (∀ w v, winGet s n e c 2 = some w → v = deliverResult n e (resultMsg u n e c w) u →
      (forwardsResult v n e c = false → exec (.eruResultDeadline n e c) s = .next v) ∧
      (forwardsResult v n e c = true → exec (.eruResultDeadline n e c) s = .next (eruSend n (resultPort v n e) e c k
        (redFrame v n e c (resultDir v n e) w.mask w.count (if w.empty then 3 else 1) (w.e / 256 - 1) w.body) v)))) ∧
  (∀ (e : Fin 128) (c : Nat), resultSlot s n e c = none → exec (.eruResultDeadline n e c) s = .next s) ∧
  (∀ (e : Fin 128) (c : Nat) (v : Verdict), entryOn s n e = true → entryInStep s n e = true →
    slotFet s n e (verdictSlot s n e c) ≤ s.fet →
    (s.eru n).verdicts.filter (fun v => v.entry == e.val && v.chunk == c && !v.sent) = [v] →
    ∃ t, t = s.setEru n { s.eru n with verdicts := (s.eru n).verdicts.map (fun v =>
        if v.entry = e.val ∧ v.chunk = c then { v with sent := true } else v) } ∧
      exec (.verdictTime n e c) s = .next (t.setNi v.field 75 { t.ni v.field 75 with
        out := (t.ni v.field 75).out ++ [{ id := 0, part := v.part, dst := v.src, tag := v.tag, addr := v.addr, len := 1
                                           data := [List.replicate 64 { w := if v.abstained then 0xbf800000 else 0 }] }] })) ∧
  (∀ (e : Fin 128) (c : Nat), s.fet < slotFet s n e (verdictSlot s n e c) → exec (.verdictTime n e c) s = .next s) ∧
  (∀ fr t, Delivered n fr s t → fr.cls = 2 → leAt fr.payload 0 1 = 3 →
    exec (.abstainNoticeReceive n fr) s = .next (noticeVerdict n fr.part fr.tag t)) ∧
  (∀ (tag : BitVec 24), (∀ x ∈ (s.eru n).refused, x.1 = tag.toNat → x.2.2 = 0 ∨ s.fet < x.2.2) →
    exec (.eruBusyResend n tag) s = .next s) ∧
  (∀ (tag : BitVec 24) fr t x, x ∈ (s.eru n).refused → x.1 = tag.toNat → x.2.2 ≠ 0 → x.2.2 ≤ s.fet →
    t = s.setEru n { s.eru n with
      refused := (s.eru n).refused.map (fun x => if x.1 = tag.toNat then (x.1, x.2.1, 0) else x) } →
    (s.eru n).sent.find? (fun x => x.fr.tag == tag.toNat) = some fr → exec (.eruBusyResend n tag) s =
      .next (handFrame n (resendSlot t n fr.fr.part) fr.entry fr.chunk fr.fr (t.count (F.ERU_BUSY_CNT_RETRIED n) 1)))

/-- R36, R277, R280, R281, R283, R284: results and the update. The first result of a Vault that does not wait, each partition's
in its own order, is lost in a quench, enters the norm where it is a scalar, or is taken by its group; a group that updates as
its chunks come applies each chunk it has and not applied, and writes its record after the last; once the norm total is known
the clip factor reaches every clipped group that waits, or a total that is not finite skips the step. State digests (R276,
R489): once every group of a partition has finished its update the digest is formed once for the step, shown, sent where it is
enabled, and compared with those that came first; a digest that comes later is compared at once, one of a step not finished is
held, an old one is dropped; where none has come within one step a note is raised. Model's choices: log entries 9, 90, 91,
94, 95, 137, 165. -/
def Obligations.ResultsAreAppliedAndDigested : Prop := ∀ (s : State),
  (∀ (v : Fin 12), firstFree (resultHeld s v) (s.vault v).inbox [] = none → exec (.resultDelivery v) s = .next s) ∧
  (∀ (v : Fin 12) m rest, (s.vault v).inbox = m :: rest → resultHeld s v m = false →
    firstFree (resultHeld s v) (s.vault v).inbox [] = some m) ∧
  (∀ (v : Fin 12) m t, firstFree (resultHeld s v) (s.vault v).inbox [] = some m →
    t = s.setVault v { s.vault v with inbox := (s.vault v).inbox.erase m } →
    (moduleQuenched s = true ∨ partState s m.part = 4 → exec (.resultDelivery v) s = .next t) ∧
    (moduleQuenched s = false → partState s m.part ≠ 4 →
      (m.scalar = true → exec (.resultDelivery v) s = .next (if v.val = 0 then normResult m t else t)) ∧
      (m.scalar = false → takerOf t v m = none → exec (.resultDelivery v) s = .next t) ∧
      (∀ g j, m.scalar = false → takerOf t v m = some (g, j) →
        (resultOver t v g m.part = false → exec (.resultDelivery v) s = .next (takeResult v g j m t)) ∧
        (resultOver t v g m.part = true → exec (.resultDelivery v) s = .next t)))) ∧
  (∀ (v : Fin 12) (g : Fin 16), grpActs s v g = false → exec (.groupUpdate v g) s = .next s) ∧
  (∀ (v : Fin 12) (g : Fin 16), grpActs s v g = true →
    (grpOpt s v g ≠ 3 →
      (∀ t, usesGbuf s v g = false →
        t = setGroup v g { groupD s v g with done := (groupD s v g).got.map (·.1) }
          ((readyChunks (groupD s v g)).foldl (fun s x =>
            if x.2.2 then countSkipped v (grpE s v g) s
            else updChunk v g x.1 (optPars s v g) (some x.2.1) s) s) →
        exec (.groupUpdate v g) s =
          .next (if grpChunks s v g ≤ (groupD s v g).got.length then finishGroup v g (optPars s v g) t else t)) ∧
      (usesGbuf s v g = true → (groupD s v g).got.length < grpChunks s v g ∨
          (clipped s v g = true ∧ (groupD s v g).factor = none) →
        exec (.groupUpdate v g) s = .next s) ∧
      (usesGbuf s v g = true → grpChunks s v g ≤ (groupD s v g).got.length →
        clipped s v g = false ∨ (groupD s v g).factor ≠ none →
        (grpOpt s v g = 2 →
          exec (.groupUpdate v g) s = .next (finishGroup v g (optPars s v g) (updFactored v g (optPars s v g) s))) ∧
        (grpOpt s v g ≠ 2 → exec (.groupUpdate v g) s = .next (finishGroup v g (optPars s v g)
          (s.forEach (List.range (grpChunks s v g)) (fun j t => updChunk v g j (optPars s v g) none t))))))) ∧
  (∀ (p : Fin 8), (s.vault 0).normTotal.find? (fun e => e.1 == p.val) = none → exec (.clipPhase2 p) s = .next s) ∧
  (∀ (p : Fin 8) q n t, (s.vault 0).normTotal.find? (fun e => e.1 == p.val) = some (q, n) →
    t = (s.setVault 0 { s.vault 0 with normTotal := (s.vault 0).normTotal.filter (fun e => e.1 != p.val) }).forEach (List.range 12)
      (fun v u => u.wr (R.UPD_NORM_SQ v) (BitVec.ofNat 32 n)) →
    ((decodeNum 7 n).isFin = false → exec (.clipPhase2 p) s = .next (skipStep p t)) ∧
    ((decodeNum 7 n).isFin = true → exec (.clipPhase2 p) s = .next
      ((t.forEach (totalVaults t p) (fun v t => t.set (F.UPD_STATUS_NONFINITE v) 0)).forEach (List.range 12) (fun v u =>
        let l := (clippedGroups u v p).filter (updating u v)
        let w := (u.wr (R.UPD_CLIP v) (BitVec.ofNat 32 (clipFactor n (t.get (F.UPD_CLIP_MAX_MAX 0 p))))).forEach l
          (fun g w => setGroup v g { groupD w v g with factor := some (clipFactor n (t.get (F.UPD_CLIP_MAX_MAX 0 p))) } w)
        showPhases v w)))) ∧
  (∀ (p : Fin 8), p.val = 0 ∨ digestStep s p = none → exec (.stateDigest p) s = .next s) ∧
  (∀ p base, digestStep s p = some base → (s.part p).digestBase < base ∧
    ∃ k ∈ (s.part p).steps, k.base = base ∧ stepUpdated s p k = true) ∧
  (∀ (p : Fin 8) base inj l body t t' m u v, p.val ≠ 0 → digestStep s p = some base → inj = digestInjected s p →
    l = (if inj then flipFirst (stateDigestOf s p base) else stateDigestOf s p base) →
    t = (if inj then s.set F.FLT_INJECT_ARM 0 else s) → t' = (if digestMissing t p then noteAt 5 p 88 13 0 t else t) →
    m = markStepAt p base (fun k => { k with digest := l }) t' →
    u = showDigest l (m.setPart p { m.part p with
      stateDigest := l, digestInj := inj, digestBase := base, digestAt := m.fet
      peerDigest := (m.part p).peerDigest.filter (fun e => decide (base < e.1)) }) →
    body = [2, BitVec.ofNat 8 p] ++ List.replicate 2 0 ++ leBytes (cfgEpoch u p) 2 ++ List.replicate 2 0 ++ leBytes base 8 ++ l →
    v = (if u.flag (F.UPD_DIGEST_CFG_EN 0 p) = true then
      enqueue (u.get (F.UPD_DIGEST_CFG_PORT 0 p)) (mkFrame u 6 p 0 (8 * coordAlong u (u.get (F.UPD_DIGEST_CFG_PORT 0 p)) 1 + 4) 4
        (body ++ List.replicate (128 - body.length) 0)) u else u) →
    exec (.stateDigest p) s = .next (((s.part p).peerDigest.filter (fun e => e.1 == base)).foldl
      (fun t e => digestCompare p e.2.1 base e.2.2 t) v)) ∧
  (∀ (n : Fin 64) fr t, Delivered n fr s t → fr.cls = 6 → leAt fr.payload 0 1 = 2 →
    ((t.part fr.part).digestBase = leAt fr.payload 8 8 → leAt fr.payload 8 8 ≠ 0 → exec (.stateDigestReceive n fr) s =
      .next (digestCompare fr.part (fr.src / 8) (leAt fr.payload 8 8) ((fr.payload.drop 16).take 32) t)) ∧
    (leAt fr.payload 8 8 < (t.part fr.part).digestBase → exec (.stateDigestReceive n fr) s = .next t) ∧
    ((t.part fr.part).digestBase < leAt fr.payload 8 8 → exec (.stateDigestReceive n fr) s =
      .next (t.setPart fr.part { t.part fr.part with
        peerDigest := (t.part fr.part).peerDigest ++ [(leAt fr.payload 8 8, fr.src / 8, (fr.payload.drop 16).take 32)] }))) ∧
  (∀ (p : Fin 8),
    (s.flag (F.UPD_DIGEST_CFG_EN 0 p) = true → (s.part p).digestBase ≠ 0 → (s.part p).digestGot ≠ (s.part p).digestBase →
      (s.part p).digestBase < (s.part p).stepBase →
      (s.part p).digestAt + ((s.part p).stepBase - (s.part p).digestBase) ≤ s.fet →
      exec (.digestTimeout p) s = .next (noteAt 5 p 88 13 0 (s.setPart p { s.part p with digestGot := (s.part p).digestBase }))) ∧
    (s.flag (F.UPD_DIGEST_CFG_EN 0 p) = false ∨ (s.part p).digestBase = 0 ∨ (s.part p).digestGot = (s.part p).digestBase ∨
        (s.part p).stepBase ≤ (s.part p).digestBase ∨
        s.fet < (s.part p).digestAt + ((s.part p).stepBase - (s.part p).digestBase) →
      exec (.digestTimeout p) s = .next s))

/-! ### Synael Links (09_synael_link) -/

/-- R318, R314, R320, R301: the states of a port. DARK to DETECT on signal, unless it is held dark or its pins are safe; DETECT
to TRAIN on block lock, or to DARK after 50 ms; TRAIN to QUALIFY; the error count of QUALIFY passes to NEGOTIATE, retrains
once, then trains at reduced rate, and there fails; a port in STANDBY or ACTIVE goes DARK with the error kept when its partner
is lost. In any other state each changes nothing. Model's choices: log entries 3, 93, 96, 97. -/
def Obligations.PortStatesFollowTheTable : Prop := ∀ (n : Fin 64) (s : State) (st : Nat), st = s.get (F.SNL_STATUS_STATE n) →
  (st = 1 → s.flag (F.SNL_CTRL_HOLD_DARK n) = false → s.boot.pinSafe = false →
    (∀ t, t = portTo n 2 s → exec (.partnerSignalDetect n) s = .next (t.setPort n { t.port n with detectSince := t.fet, qualFails := 0 })) ∧
    exec (.wakeBurst n) s = .next ((s.setPort n { s.port n with bursts := (s.port n).bursts + 1 }).emit (.burst n))) ∧
  (st ≠ 1 ∨ s.flag (F.SNL_CTRL_HOLD_DARK n) = true ∨ s.boot.pinSafe = true →
    exec (.partnerSignalDetect n) s = .next s ∧ exec (.wakeBurst n) s = .next s) ∧
  (st = 2 → exec (.blockLock n) s = .next (s.set (F.SNL_STATUS_STATE n) 3)) ∧
  (st ≠ 2 → exec (.blockLock n) s = .next s ∧ exec (.detectTimeout n) s = .next s) ∧
  (st = 2 → (s.port n).detectSince + 50000000 ≤ s.fet → exec (.detectTimeout n) s = .next (portTo n 1 s)) ∧
  (s.fet < (s.port n).detectSince + 50000000 → exec (.detectTimeout n) s = .next s) ∧
  (st = 3 → exec (.trainConverged n) s = .next (s.set (F.SNL_STATUS_STATE n) 4)) ∧
  (st ≠ 3 → exec (.trainConverged n) s = .next s) ∧
  (∀ (errors : List Nat) (unc good : Bool),
    good = (!unc && errors.all (fun e => decide (e ≤ if s.flag (F.SNL_STATUS_REDUCED n) then 84000 else 112000))) →
    (st ≠ 4 → exec (.qualifyWindowEnd n errors unc) s = .next s) ∧
    (st = 4 → good = true → exec (.qualifyWindowEnd n errors unc) s = .next (s.set (F.SNL_STATUS_STATE n) 5)) ∧
    (st = 4 → good = false → s.flag (F.SNL_STATUS_REDUCED n) = true →
      exec (.qualifyWindowEnd n errors unc) s = .next (snlErr n 8 0 0 (portTo n 9 s))) ∧
    (∀ t, st = 4 → good = false → s.flag (F.SNL_STATUS_REDUCED n) = false →
      t = (s.setPort n { s.port n with qualFails := (s.port n).qualFails + 1 }).set (F.SNL_STATUS_STATE n) 3 →
      exec (.qualifyWindowEnd n errors unc) s =
        .next (if (s.port n).qualFails = 0 then t else t.set (F.SNL_STATUS_REDUCED n) 1))) ∧
  (st = 6 ∨ st = 7 → exec (.partnerLost n) s =
    .next (raiseFault (portEvent 0x0407 n) (snlErr n 10 0 0 (leaveLive n 1 s)))) ∧
  (st ≠ 6 → st ≠ 7 → exec (.partnerLost n) s = .next s)

/-- R321, R322, R327: negotiation. Without a common SNL or version it fails with the error kept; with one, the versions, the
partner's coordinate and the calibration are recorded and the port reaches STANDBY; a partner that is not the one the torus
expects is a class 0 record. Model's choices: log entries 6, 96, 97, 114. -/
def Obligations.NegotiationSettlesThePort : Prop := ∀ (n : Fin 64) (g : Negotiation) (s : State),
  (s.get (F.SNL_STATUS_STATE n) ≠ 5 → exec (.negotiateComplete n g) s = .next s) ∧
  (s.get (F.SNL_STATUS_STATE n) = 5 →
    (commonVersion (s.get (F.SNL_CAP0_SNL_MASK n)) g.snl = 0 ∨ commonVersion (s.get (F.SNL_CAP0_VER_MASK n)) g.ver = 0 →
      exec (.negotiateComplete n g) s = .next (snlErr n 9 0 0 (portTo n 9 s))) ∧
    (∀ a b c d x, commonVersion (s.get (F.SNL_CAP0_SNL_MASK n)) g.snl ≠ 0 → commonVersion (s.get (F.SNL_CAP0_VER_MASK n)) g.ver ≠ 0 →
      a = (s.set (F.SNL_NEG_SNL n) (commonVersion (s.get (F.SNL_CAP0_SNL_MASK n)) g.snl)).set (F.SNL_NEG_VER n)
        (commonVersion (s.get (F.SNL_CAP0_VER_MASK n)) g.ver) →
      b = a.set (F.SNL_NEG_SCP n) (commonVersion (a.get (F.SNL_CAP1_SCP_MASK n)) g.scp) →
      c = b.set (F.SNL_NEG_FWI n) (commonVersion (b.get (F.SNL_CAP1_FWI_MASK n)) g.fwi) →
      d = ((((((c.set (F.SNL_NEG_PLAN n) (commonVersion (c.get (F.SNL_CAP2_PLAN_MASK n)) g.plan)).set (F.SNL_PEER_PEER_PORT n)
        g.peerPort).set (F.SNL_PEER_PEER_COORD n) g.peerCoord).wr (R.TIM_PORT_ASYM n) (Config.portAsym n)).count
        (F.SNL_TRAIN_TRAINS n) 1).set (F.SNL_TRAIN_LAST_MS n) (min 65535 g.ms)) →
      x = (capture n g.eq d).set (F.SNL_STATUS_STATE n) 6 →
      ∃ y, y = x.setPort n { x.port n with lastGood := x.fet, qualFails := 0 } ∧
        (g.peerCoord = expectedPeer y n → exec (.negotiateComplete n g) s = .next y) ∧
        (g.peerCoord ≠ expectedPeer y n → exec (.negotiateComplete n g) s = .next (recordFault 0
          { portEvent 0x060b n with addr := 2 ^ 32 * g.peerCoord, master := 6 * 2 ^ 29 + 8 * ownCoord y, detail := [5] } y).2)))

/-- R292, R293, R294, R305, R306, R308, R307, R300, R304: what a port sends and its link control words. A port that is not
OFF, DARK or FAILED sends one 896-byte block in each block time: the frame area, the link control word, the parity, byte b on
lane b mod 16. In STANDBY
or ACTIVE it drops the scheduled frames that are past, begins the one due in the block, else chooses among what waits; a
control word acknowledges, returns credit, and on NAK replays what is left; a block that is lost fails the frame it carries; a
Firefly and the digests of the port's partitions are queued with their intervals, the third interval in a row without a digest
noted. Model's choices: log entries 1, 3, 92, 94, 95, 96, 97, 140, 144. -/
def Obligations.PortsTransmit : Prop := ∀ (n : Fin 64) (s : State),
  (s.get (F.SNL_STATUS_STATE n) < 2 ∨ 8 < s.get (F.SNL_STATUS_STATE n) ∨ blockStart s n < (s.port n).nextBlock →
    exec (.blockTransmit n) s = .next s) ∧
  (2 ≤ s.get (F.SNL_STATUS_STATE n) → s.get (F.SNL_STATUS_STATE n) ≤ 8 → s.get (F.SNL_STATUS_STATE n) ≠ 6 →
    s.get (F.SNL_STATUS_STATE n) ≠ 7 → (s.port n).nextBlock ≤ blockStart s n →
    exec (.blockTransmit n) s = .next (sendBlock n s)) ∧
  (∃ l : List Byte, (sendBlock n s).out = s.out ++ [.block n (stripe l)] ∧ l.length = 896 ∧
    l.take 816 = (frameArea n s).1 ++ (takeLcw n (frameArea n s).2).1) ∧
  (∀ (l : List Byte) (b : Nat), b < l.length → ((stripe l)[b % 16]?.bind (fun k => k[b / 16]?)) = l[b]?) ∧
  (∀ due t, s.get (F.SNL_STATUS_STATE n) = 6 ∨ s.get (F.SNL_STATUS_STATE n) = 7 → (s.port n).nextBlock ≤ blockStart s n →
    due = (if blockNow s n = schedBlock s n then
      (s.port n).sched.find? (fun x => x.slot == s.fet / 256 && quenchCarries s x.fr) else none) →
    t = s.setPort n { s.port n with sched := (s.port n).sched.filter (fun x =>
      !(decide (x.slot < s.fet / 256) || (x.slot == s.fet / 256 && decide (schedBlock s n ≤ blockNow s n)))) } →
    (blockStart t n < (s.port n).txFree → exec (.blockTransmit n) s = .next (sendBlock n (strictEarn n t))) ∧
    (∀ x, (s.port n).txFree ≤ blockStart t n → due = some x →
      exec (.blockTransmit n) s = .next (sendBlock n (strictEarn n (beginFrame n x.fr t)))) ∧
    ((s.port n).txFree ≤ blockStart t n → due = none →
      exec (.blockTransmit n) s = .next (sendBlock n (strictEarn n (sendUnscheduled n t))))) ∧
  (∀ w : Lcw, s.get (F.SNL_STATUS_STATE n) < 3 ∨ 8 < s.get (F.SNL_STATUS_STATE n) → exec (.lcwReceive n w) s = .next s) ∧
  (∀ (w : Lcw) t, 3 ≤ s.get (F.SNL_STATUS_STATE n) → s.get (F.SNL_STATUS_STATE n) ≤ 8 →
    t = s.count (F.SNL_FEC_CNT_CORR n) (fecCorrected w) →
    (fecLost w = true → exec (.lcwReceive n w) s =
      .next ((t.setPort n { t.port n with rxLost := true }).count (F.SNL_FEC_UNCORR_BLOCKS n) 1)) ∧
    (fecLost w = false → s.get (F.SNL_STATUS_STATE n) ≠ 6 → s.get (F.SNL_STATUS_STATE n) ≠ 7 →
      exec (.lcwReceive n w) s = .next t) ∧
    (∀ left again u v, fecLost w = false → s.get (F.SNL_STATUS_STATE n) = 6 ∨ s.get (F.SNL_STATUS_STATE n) = 7 →
      left = (t.port n).unacked.filter (fun e => decide (2048 ≤ (w.ackSeq + 4096 - e.1) % 4096)) →
      again = (t.port n).replaying.filter (fun e => left.any (fun x => x.1 == e.1)) →
      u = t.setPort n { t.port n with
        rxLost := (t.port n).rxLost && !w.sof
        returned := AMap.put (fun _ => 0) (t.port n).returned (w.crSel % 16) (w.crCount % 4096)
        unacked := left, replaying := again
        failRun := if left.length < (t.port n).unacked.length then 0 else (t.port n).failRun } →
      v = (if w.nak = true ∧ again = [] then replayFrom n u else u) →
      (w.btype ≠ 2 → w.btype ≠ 3 → w.btype ≠ 4 → exec (.lcwReceive n w) s = .next v) ∧
      (w.btype = 3 → exec (.lcwReceive n w) s = .next (retrainMsg n false w.slot v)) ∧
      (w.btype = 4 → exec (.lcwReceive n w) s = .next (retrainMsg n true w.slot v)) ∧
      (w.btype = 2 → exec (.lcwReceive n w) s = .next (if (v.port n).rateSlot.isSome then v else scheduleRate n w.slot v)))) ∧
  (portUp s n = false → exec (.fireflySend n) s = .next s ∧ exec (.configDigestSend n) s = .next s) ∧
  (portUp s n = true → exec (.fireflySend n) s = .next (enqueue n (mkFrame s 4 0 0 (8 * coordAlong s n 1) 0 (fireflyBytes s n))
    (s.setPort n { s.port n with fireflySeq := ((s.port n).fireflySeq + 1) % 65536, fireflyMark := s.log.events }))) ∧
  (∀ t miss, portUp s n = true →
    t = s.forEach (digestParts s n) (fun p t => enqueue n (mkFrame t 6 0 0 (8 * coordAlong t n 1) 0
      (([1, BitVec.ofNat 8 p] ++ List.replicate 2 0 ++ leBytes (cfgEpoch t p) 2 ++ List.replicate 2 0 ++ leBytes t.fet 8 ++ cfgDigest t p)
        ++ List.replicate (128 - ([1, BitVec.ofNat 8 p] ++ List.replicate 2 0 ++ leBytes (cfgEpoch t p) 2 ++ List.replicate 2 0
          ++ leBytes t.fet 8 ++ cfgDigest t p).length) 0)) t) →
    miss = (fun p => if (t.port n).digestSeen.contains p then 0 else AMap.get (fun _ => 0) (t.port n).digestMiss p + 1) →
    exec (.configDigestSend n) s = .next ((t.setPort n { t.port n with
        digestSeen := [], digestMiss := (digestParts s n).foldl (fun m p => AMap.put (fun _ => 0) m p (miss p)) [] }).forEach
      ((digestParts s n).filter (fun p => miss p == 3)) (fun p t => noteAt 5 p (100 + n.val / 8) 15 n t)))

/-- R299, R298, R302, R311, R312, R271, R304: frames that come in. A data frame delivered here enters the wafer as a packet of
its partition at the port sub-channel of the field its destination chooses, or is dropped as having no route; a BUSY frame
owes a resend; a digest of the same epoch that differs is a mismatch; a frame that is not for this module is forwarded, and a
frame its port's state does not carry changes nothing. Model's choices: log entries 1, 3, 9, 76, 92, 93, 94, 95, 96, 97,
141. -/
def Obligations.FramesAreDelivered : Prop := ∀ (n : Fin 64) (fr : Frame) (s : State),
  (stateCarries s n fr = false → exec (.dataFrameReceive n fr) s = .next s ∧ exec (.busyFrameReceive n fr) s = .next s ∧
    exec (.configDigestReceive n fr) s = .next s) ∧
  (∀ t, Delivered n fr s t → fr.cls = 0 →
    (deliverField t n fr.part ((locate t (leAt fr.payload 0 2 % 8192) 0).map (·.1) |>.getD 0) = none →
      exec (.dataFrameReceive n fr) s = .next (raiseFault (frameEvent 0x0405 n fr)
        (snlErr n 6 fr.part fr.tag (t.count (F.SNL_DROP_CNT1_ROUTE n) 1)))) ∧
    (∀ g, deliverField t n fr.part ((locate t (leAt fr.payload 0 2 % 8192) 0).map (·.1) |>.getD 0) = some g →
      exec (.dataFrameReceive n fr) s = .next (t.setNi g 75 { t.ni g 75 with out := (t.ni g 75).out ++
        [{ id := 0, part := fr.part, gen := fr.gen, fromLink := true, dst := leAt fr.payload 0 2 % 8192, tag := fr.tag
           addr := leAt fr.payload 2 2 % 32768, len := leAt fr.payload 4 2 % 256
           data := (List.range (leAt fr.payload 4 2 % 256)).map (fun j =>
             bytesAcc ((fr.payload.drop (128 + 256 * j)).take 256) (bitOf (leAt fr.payload 8 32) j == 1)) }] }))) ∧
  (∀ t, Delivered n fr s t → fr.cls = 2 → leAt fr.payload 0 1 = 4 →
    (∀ x k, (t.eru n).sent.find? (fun x => x.fr.tag == fr.tag) = some x →
      k = (((t.eru n).refused.find? (fun x => x.1 == fr.tag)).map (·.2.1)).getD 0 →
      exec (.busyFrameReceive n fr) s = .next (t.setEru n { t.eru n with
        refused := (t.eru n).refused.filter (fun x => x.1 != fr.tag)
          ++ [(fr.tag, k + 1, t.fet + cdiv (4 * (16 * 2 ^ min k 6 + leAt x.fr.payload 18 1 % 16)) 5)] })) ∧
    ((t.eru n).sent.find? (fun x => x.fr.tag == fr.tag) = none → exec (.busyFrameReceive n fr) s = .next t)) ∧
  (∀ t p u, Delivered n fr s t → fr.cls = 6 → leAt fr.payload 0 1 = 1 → p = leAt fr.payload 1 1 % 8 →
    u = t.setPort n { t.port n with digestSeen := setAdd p (t.port n).digestSeen } →
    (leAt fr.payload 4 2 ≠ cfgEpoch u p ∨ (fr.payload.drop 16).take 32 = cfgDigest u p →
      exec (.configDigestReceive n fr) s = .next u) ∧
    (leAt fr.payload 4 2 = cfgEpoch u p → (fr.payload.drop 16).take 32 ≠ cfgDigest u p →
      exec (.configDigestReceive n fr) s = .next (cfgMismatch n { fr with part := p } u))) ∧
  (∀ t m dl, (s.port n).rxLost = false → crcGood fr = true →
    authPasses s n (AMap.get (fun _ => 0) (s.port n).authRx fr.part) fr = true → stateCarries s n fr = true → (linkLayer n fr s).1 = true →
    (headerOk n fr (linkLayer n fr s).2).1 = true → t = freeCredit n fr (headerOk n fr (linkLayer n fr s).2).2 →
    isHere t fr = false → routeFrame t fr (some n) = some (m, dl) →
    exec (.frameForward n fr) s = .next (enqueue m { fr with dl := dl } t))

/-- R322, R323, R324, R318: retrains, margins and rate changes. A retrain is agreed in an idle window both ends have, begins at
it, out of the live set, and returns to ACTIVE with a new calibration, or to DETECT where lock is lost; a search of 10 s is
noted and goes on; the monitors are armed in STANDBY and ACTIVE once a step has reached the record's load or 10 s have passed
since the first PLAN_START; a rate change is agreed for a later slot and made there. Model's choices: log entries 48, 93,
96, 97. -/
def Obligations.RetrainsAndRatesChange : Prop := ∀ (n : Fin 64) (s : State),
  (∀ accept slot, s.get (F.SNL_STATUS_STATE n) ≠ 7 → exec (.retrainLinkmsg n accept slot) s = .next s) ∧
  (∀ slot t, s.get (F.SNL_STATUS_STATE n) = 7 → t = s.set (F.SNL_STATUS_RETRAIN_PEND n) 1 →
    (s.flag (F.SNL_STATUS_RETRAIN_PEND n) = true → (s.port n).searchSince ≠ none → (s.port n).proposed = slot →
      exec (.retrainLinkmsg n true slot) s = .next (agreeWindow n slot s)) ∧
    (s.flag (F.SNL_STATUS_RETRAIN_PEND n) = false ∨ (s.port n).searchSince = none ∨ (s.port n).proposed ≠ slot →
      exec (.retrainLinkmsg n true slot) s = .next s) ∧
    (idleFrom (dueSlots t n) slot = true → t.fet / 256 < slot →
      exec (.retrainLinkmsg n false slot) s = .next (pushMsg n 4 slot (agreeWindow n slot t))) ∧
    (idleFrom (dueSlots t n) slot = false ∨ slot ≤ t.fet / 256 →
      exec (.retrainLinkmsg n false slot) s = .next (pushMsg n 3 (ownIdle t n (max slot (t.fet / 256 + 1)))
        (t.setPort n { s.port n with
          searchSince := some ((s.port n).searchSince.getD t.fet), proposed := ownIdle t n (max slot (t.fet / 256 + 1)) })))) ∧
  (∀ w, w = rdPair s (R.SNL_RETRAIN_LO n) (R.SNL_RETRAIN_HI n) →
    (s.get (F.SNL_STATUS_STATE n) = 7 → w ≠ 0 → w ≤ s.fet → exec (.retrainWindowStart n) s =
      .next (leaveLive n 8 (wrPair s (R.SNL_RETRAIN_LO n) (R.SNL_RETRAIN_HI n) 0))) ∧
    (s.get (F.SNL_STATUS_STATE n) ≠ 7 ∨ w = 0 ∨ s.fet < w → exec (.retrainWindowStart n) s = .next s)) ∧
  (∀ lost restored eq, s.get (F.SNL_STATUS_STATE n) ≠ 8 → exec (.retrainComplete n lost restored eq) s = .next s) ∧
  (∀ restored eq t u v, s.get (F.SNL_STATUS_STATE n) = 8 → t = s.set (F.SNL_STATUS_RETRAIN_PEND n) 0 →
    (u = leaveLive n 2 t → exec (.retrainComplete n true restored eq) s =
      .next (u.setPort n { u.port n with detectSince := u.fet, qualFails := 0 })) ∧
    (v = (t.count (F.SNL_TRAIN_RETRAINS n) 1).set (F.SNL_STATUS_STATE n) 7 →
      u = capture n eq (v.set (F.SNL_STATUS_LIVE n) (bitOf v.boot.live n)) →
      (restored = false → exec (.retrainComplete n false restored eq) s = .next (retrainFailed n u)) ∧
      (restored = true → exec (.retrainComplete n false restored eq) s =
        .next (if u.flag (F.SNL_STATUS_REDUCED n) = true ∧ (u.port n).stayReduced = false then proposeRate n u else u)))) ∧
  ((s.port n).searchSince = none → exec (.retrainSearchTimeout n) s = .next s) ∧
  (∀ t, (s.port n).searchSince = some t →
    (s.fet < t + 10000000000 → exec (.retrainSearchTimeout n) s = .next s) ∧
    (t + 10000000000 ≤ s.fet → exec (.retrainSearchTimeout n) s =
      .next (noteAt 5 0 (100 + n.val / 8) 15 n (s.setPort n { s.port n with searchSince := some s.fet })))) ∧
  (portUp s n = true → (s.port n).armDue = true ∨ (∃ t, s.power.firstPlan = some t ∧ t + 10000000000 ≤ s.fet) →
    exec (.marginMonitorArm n) s = .next (s.set (F.SNL_STATUS_MARGIN_ARMED n) 1)) ∧
  (portUp s n = false ∨ ((s.port n).armDue = false ∧ ∀ t, s.power.firstPlan = some t → s.fet < t + 10000000000) →
    exec (.marginMonitorArm n) s = .next s) ∧
  (∀ lanes, s.flag (F.SNL_STATUS_MARGIN_ARMED n) = false ∨ portUp s n = false → exec (.marginWindow n lanes) s = .next s) ∧
  (∀ lanes, s.flag (F.SNL_STATUS_MARGIN_ARMED n) = true → portUp s n = true →
    ∃ t, exec (.marginWindow n lanes) s = .next t ∧
      (Canon s → lanes ≠ [] → lanes.length ≤ 16 → t.get (F.SNL_MARGIN_BER_WORST n) = min 65535 ((lanes.map (·.1)).foldl max 0) ∧
        t.get (F.SNL_MARGIN_EYE_WORST n) = min 255 ((lanes.map (·.2)).foldl min ((lanes.map (·.2)).headD 0)))) ∧
  (∀ slot, portUp s n = true → (s.port n).rateSlot = none →
    exec (.rateChangeProposal ⟨n, slot⟩) s = .next (s.setPort n { s.port n with rateSlot := some slot })) ∧
  (∀ slot, portUp s n = false ∨ (s.port n).rateSlot ≠ none → exec (.rateChangeProposal ⟨n, slot⟩) s = .next s) ∧
  ((s.port n).rateSlot = none → exec (.rateChange n) s = .next s) ∧
  (∀ k t, (s.port n).rateSlot = some k →
    (s.fet < 256 * k ∨ portUp s n = false → exec (.rateChange n) s = .next s) ∧
    (256 * k ≤ s.fet → portUp s n = true → t = s.set (F.SNL_STATUS_REDUCED n) (1 - s.get (F.SNL_STATUS_REDUCED n)) →
      exec (.rateChange n) s = .next (t.setPort n { t.port n with
        rateSlot := none, txFrame := [], txSched := false, txFree := 768 * k + blockUnits t n * schedBlock t n })))

/-! ### Power and cooling (13_power_and_thermal) -/

/-- R359, R415, R417, R419, R420, R421: the power windows. A partition above 105 per cent of its effective budget for
ten windows has each field go one operating point down, or, at 0, is faulted after ten more; after a hundred windows
at most at 95 per cent it goes one up; the module's windows do the same against the ceiling after the ramp of the
envelope; a breakpoint whose FET has come becomes the target; the ballast fills the draw to the hold level; a quench
ramp that has ended leaves its clusters in RETENTION. Model's choices: log entries 15, 99, 101, 104, 116, 132, 146, 147,
160, 161. -/
def Obligations.PowerWindowsActOnDraw : Prop := ∀ (s : State),
  (∀ (p : Fin 8) (draw : BitVec 16) x t d, x = (if p.val = 0 then min 65535 (draw.toNat + s.get F.PWR_BALLAST_NOW) else draw.toNat) →
    t = (s.high (F.PRT_DRAW_PEAK p) x).set (F.PRT_DRAW_LAST p) x → d = t.part p →
    (p.val = 0 ∨ partState t p = 0 ∨ partState t p = 4 → exec (.partitionPowerWindow p draw) s = .next t) ∧
    (p.val ≠ 0 → partState t p ≠ 0 → partState t p ≠ 4 → t.get (F.PRT_POWER_EFFECTIVE p) * 105 < draw.toNat * 100 →
      ∃ u, u = t.setPart p { d with overRun := d.overRun + 1, under := 0 } ∧
        (d.overRun + 1 < 10 → exec (.partitionPowerWindow p draw) s = .next u) ∧
        (10 ≤ d.overRun + 1 → 0 < topOp u (partFields u p) →
          ∃ v, v = noteAt 5 p 108 18 p
              ((u.set (F.PRT_LIMIT_OP_NOW p) (topOp u (partFields u p) - 1)).count (F.PRT_LIMIT_EVENTS p) 1) ∧
            exec (.partitionPowerWindow p draw) s = .next (v.forEach (partFields v p) stepDown)) ∧
        (10 ≤ d.overRun + 1 → topOp u (partFields u p) = 0 →
          ∃ v, v = u.setPart p { d with overRun := d.overRun + 1, under := 0, stuck := d.stuck + 1 } ∧
            (d.stuck + 1 < 10 → exec (.partitionPowerWindow p draw) s = .next v) ∧
            (10 ≤ d.stuck + 1 → exec (.partitionPowerWindow p draw) s =
              .next (raiseFault { code := 0x0504, part := p, unitType := 18 } v)))) ∧
    (p.val ≠ 0 → partState t p ≠ 0 → partState t p ≠ 4 → draw.toNat * 100 ≤ t.get (F.PRT_POWER_EFFECTIVE p) * 95 →
      ∃ u, u = t.setPart p { d with overRun := 0, stuck := 0, under := d.under + 1 } ∧
        (100 ≤ d.under + 1 → u.get (F.PRT_LIMIT_OP_NOW p) < u.get (F.PRT_CFG_OP_MAX p) →
          ∃ v, v = u.set (F.PRT_LIMIT_OP_NOW p) (u.get (F.PRT_LIMIT_OP_NOW p) + 1) ∧
            exec (.partitionPowerWindow p draw) s = .next (v.forEach (partFields v p) raiseToLimit)) ∧
        (d.under + 1 < 100 ∨ u.get (F.PRT_CFG_OP_MAX p) ≤ u.get (F.PRT_LIMIT_OP_NOW p) →
          exec (.partitionPowerWindow p draw) s = .next u)) ∧
    (p.val ≠ 0 → partState t p ≠ 0 → partState t p ≠ 4 → draw.toNat * 100 ≤ t.get (F.PRT_POWER_EFFECTIVE p) * 105 →
      t.get (F.PRT_POWER_EFFECTIVE p) * 95 < draw.toNat * 100 →
      exec (.partitionPowerWindow p draw) s = .next (t.setPart p { d with overRun := 0, under := 0, stuck := 0 }))) ∧
  (∀ (mean : BitVec 16) r d t, r = rampEmulation (rampEnvelope s) → d = max mean.toNat r.power.emulDraw →
    t = recalTiers d (calStale d (recordStepPeaks d (recordDraw d r))) →
    (t.get F.PWR_ENV_NOW_CEILING < d → exec (.modulePowerWindow mean) s = .next (windowBudgets (setCharger (aboveCeiling t)))) ∧
    (d ≤ t.get F.PWR_ENV_NOW_CEILING → exec (.modulePowerWindow mean) s = .next (windowBudgets (setCharger (withinCeiling d t))))) ∧
  (windowBudgets s = if budgetCeiling s = s.power.budgetAt then s else scaleBudgets s) ∧
  (breakpoints s = [] → exec .envelopeBreakpoint s = .next s) ∧
  (∀ b rest t, breakpoints s = b :: rest →
    (s.fet < b.fet → exec .envelopeBreakpoint s = .next s) ∧
    (b.fet ≤ s.fet → t = (setBreakpoints rest s).set F.PWR_ENV_RAMP_RAMP b.ramp →
      exec .envelopeBreakpoint s =
        .next (scaleBudgets { t with power := { t.power with targetCeil := b.ceil, targetFloor := b.floor } }))) ∧
  (∀ (draw cap : BitVec 16) work room want u t, work = draw.toNat - s.get F.PWR_BALLAST_NOW → u = addSample draw.toNat s →
    room = ballastRoom cap.toNat u →
    want = min (max (if moduleQuenched u then 0 else holdLevel u / 1000 - work) (rampsBallast u)) (u.get F.PWR_ENV_NOW_CEILING - work) →
    t = (u.set F.PWR_BALLAST_CAP room).set F.PWR_BALLAST_NOW (min room want) →
    (room < want →
      exec (.ballastDutyUpdate draw cap) s = .next ((t.set F.PWR_STATUS_FLOOR_SHORT 1).set F.PWR_ALARM_FLOOR_SHORT 1)) ∧
    (want ≤ room → exec (.ballastDutyUpdate draw cap) s = .next (t.set F.PWR_STATUS_FLOOR_SHORT 0))) ∧
  (s.get F.PWR_ENV_NOW_FLOOR * 1000 ≤ holdLevel s ∧
    (∀ e ∈ s.power.samples, e.2 * 1000 - rampLimit s * (s.fet - e.1) / 1000 ≤ holdLevel s) ∧
    (holdLevel s = s.get F.PWR_ENV_NOW_FLOOR * 1000 ∨
      ∃ e ∈ s.power.samples, holdLevel s = e.2 * 1000 - rampLimit s * (s.fet - e.1) / 1000)) ∧
  (∀ draw, (s.fet, draw) ∈ (addSample draw s).power.samples) ∧
  (∀ (scope : Fin 8), rampEnded s scope = false → exec (.quenchReached scope) s = .next s) ∧
  (∀ (scope : Fin 8) t u v w, rampEnded s scope = true →
    t = s.forEach (scopeFields s scope) (fun f t => t.forEach (List.range 8) (fun k u =>
      if domState u (domOf f k) = 3 then slewTo (domOf f k) 240 (u.set (F.PWR_DOM_STATUS_STATE (domOf f k)) 4) else u)) →
    u = { t with power := { t.power with ramps := t.power.ramps.filter (fun r => r.scope != scope.val) } } →
    v = (if scope.val = 0 then u.set F.PWR_STATUS_RAMP_DOWN 0 else u) →
    w = endJobs (fun w => match w with | .quench q => q == scope.val | _ => false) stOk [] v →
    (scope.val ≠ 0 ∨ w.boot.pwrOffPending = false → exec (.quenchReached scope) s = .next w) ∧
    (scope.val = 0 → w.boot.pwrOffPending = true → ∃ x, x = powerDown w ∧
      exec (.quenchReached scope) s = .next { x with boot := { w.boot with pwrOffPending := false } }))

/-- R406, R407, R409, R410, R412, R413: power domains. The head of the wake queue is admitted once the bucket holds its cost; a
soft start that succeeds turns an uncore ON and a cluster GATED, one that fails is retried three times and then fails the
domain and its field; a voltage sample is recorded, kept where it is
the lowest, and a droop raises its alarm and fault. Model's choices: log entries 1, 3, 9, 31, 53, 57, 78, 134, 167. -/
def Obligations.DomainsWakeAndTrip : Prop := ∀ (s : State),
  (wakeHead s = none → exec .tokenAdmission s = .next s) ∧
  (∀ w, wakeHead s = some w → s.get F.PWR_TOKEN_LEVEL < tokenCost w.kind → exec .tokenAdmission s = .next s) ∧
  (∀ w t u v, wakeHead s = some w → tokenCost w.kind ≤ s.get F.PWR_TOKEN_LEVEL →
    t = s.set F.PWR_TOKEN_LEVEL (s.get F.PWR_TOKEN_LEVEL - tokenCost w.kind) →
    u = { t with power := { t.power with
      wakeQ := t.power.wakeQ.erase w, lastServed := AMap.put (fun _ => 7) t.power.lastServed w.prio w.part } } →
    v = ((u.set F.PWR_TOKEN_QUEUED u.power.wakeQ.length).set F.PWR_TOKEN_DEFER_LAST_US (min 65535 ((s.fet - w.reqAt + 999) / 1000))).high
      F.PWR_TOKEN_DEFER_MAX_US ((s.fet - w.reqAt + 999) / 1000) →
    (w.kind = 0 → exec .tokenAdmission s =
      .next (clusterWake w.dom (deferOf v w.dom + (s.fet - w.reqAt + 999) / 1000) (setDefer w.dom 0 v))) ∧
    (∀ x, w.kind = 1 ∨ w.kind = 2 → x = setDefer w.dom ((s.fet - w.reqAt + 999) / 1000) v → exec .tokenAdmission s =
      .next (softStart w.dom (({ x with power := { x.power with
        prios := AMap.put (fun _ => 3) x.power.prios w.dom w.prio } } : State).set (F.PWR_DOM_STATUS_RETRIES w.dom) 0))) ∧
    (3 ≤ w.kind → exec .tokenAdmission s = .next { v with power := { v.power with poweredStacks := setAdd w.dom v.power.poweredStacks } })) ∧
  (∀ (d : Fin 792) (ok : Bool), domState s d ≠ 1 → exec (.softStartCheck d ok) s = .next s) ∧
  (∀ (d : Fin 792), domState s d = 1 →
    (∀ t u v w, d.val % 9 = 8 → t = s.set (F.PWR_DOM_STATUS_STATE d) 3 →
      u = (if 5 ≤ stepDone t then measureBranch (d.val / 9) t else t) →
      v = (if u.flag F.CHT_STATUS_RUNNING = true ∧ stepDone u = 3 then
          u.forEach ((List.range 8).filter (fun k => !clusterOut u (d.val / 9) k))
            (fun k t => requestWake ⟨domOf (d.val / 9) k, 1, 3, ownerOf t (d.val / 9), t.fet⟩ t) else u) →
      w = (if (v.fieldD (d.val / 9)).dirty = true then zeroField (d.val / 9) v else v) →
      exec (.softStartCheck d true) s =
        .next (makePassable (d.val / 9) (setDefer d 0 (endDomainOn d stOk (deferOf w d) w)))) ∧
    (∀ t, d.val % 9 ≠ 8 → t = s.set (F.PWR_DOM_STATUS_STATE d) 2 → exec (.softStartCheck d true) s =
      .next (if hasJob t (fun w => match w with | .domainOn e => e == d.val | _ => false) then
        requestWake ⟨d, 0, AMap.get (fun _ => 3) t.power.prios d, ownerOf t (d.val / 9), t.fet⟩ t else setDefer d 0 t)) ∧
    (∀ t, s.get (F.PWR_DOM_STATUS_RETRIES d) < 3 → t = holdAt d 0 (s.set (F.PWR_DOM_STATUS_STATE d) 0) →
      exec (.softStartCheck d false) s =
        .next { t with power := { t.power with entering := t.power.entering ++ [⟨d, 0, 0, s.fet⟩] } }) ∧
    (∀ t rec u, 3 ≤ s.get (F.PWR_DOM_STATUS_RETRIES d) → t = setDefer d 0 (endDomainOn d stFaulted 0
        ((holdAt d 0 (s.set (F.PWR_DOM_STATUS_STATE d) 5)).set F.PWR_ALARM_SOFT_FAIL 1)) →
      raiseAs 3 (rampLimit t) true { code := 0x0502, part := ownerOf t (d.val / 9), collector := d.val / 9, unitType := 16
                                     inst := d.val % 9 } t = (rec, u) →
      exec (.softStartCheck d false) s = .next (loseField (d.val / 9) rec u))) ∧
  (∀ (d : Fin 792), s.power.entering.any (fun e => e.dom == d.val && e.kind == 0 && decide (e.at_ + 50000000 ≤ s.fet)) = true →
    exec (.softStartRetry d) s = .next (softStart d (({ s with power := { s.power with
      entering := s.power.entering.filter (fun e => !(e.dom == d.val && e.kind == 0)) } } : State).count
        (F.PWR_DOM_STATUS_RETRIES d) 1))) ∧
  (∀ (d : Fin 792), s.power.entering.any (fun e => e.dom == d.val && e.kind == 0 && decide (e.at_ + 50000000 ≤ s.fet)) = false →
    exec (.softStartRetry d) s = .next s) ∧
  (∀ (d : Fin 792) (x : BitVec 9) v t u, v = (if (takeDroopInject d s).1 then x.toNat - 24 else x.toNat) →
    t = (takeDroopInject d s).2.set (F.PWR_DOM_STATUS_VNOW d) v →
    (domState t d ≠ 3 → exec (.voltageSample d x) s = .next t) ∧
    (domState t d = 3 →
      u = (if t.flag (F.PWR_DOM_VMIN_VALID d) = false ∨ v < t.get (F.PWR_DOM_VMIN_VMIN d) then
        wrPair ((t.set (F.PWR_DOM_VMIN_VALID d) 1).set (F.PWR_DOM_VMIN_VMIN d) v) (R.PWR_DOM_VMIN_FET_LO d) (R.PWR_DOM_VMIN_FET_HI d)
          ((t.set (F.PWR_DOM_VMIN_VALID d) 1).set (F.PWR_DOM_VMIN_VMIN d) v).fet else t) →
      (u.get (F.PWR_DOM_CFG_VSET d) ≤ v + 20 → exec (.voltageSample d x) s = .next u) ∧
      (v + 20 < u.get (F.PWR_DOM_CFG_VSET d) → ∃ w, w = u.set F.PWR_ALARM_DROOP 1 ∧ exec (.voltageSample d x) s =
        .next (raiseFault { code := 0x0501, part := ownerOf w (d.val / 9), collector := d.val / 9, unitType := 16
                            inst := d.val % 9, access := 7, injected := (takeDroopInject d s).1 } w))))

/-- R400, R401, R402, R423, R424, R425, R427, R429: the inputs, the reserve and the cooling. The busbar's conditions derate,
quench or trip by their ranges, and end 10 ms after they are left; a lost input powers everything off and leaves Chitin on the
reserve with its pins safe, and the journal's flush follows; a lost converter lowers the ceiling and below 30 quenches; the two
estimates come from voltage, capacitance and counted charge, the reserve's state follows the lower, estimates that disagree
schedule a calibration, and a calibration needs a bank that has been full for 10 s; a thermal window acts on each field by its
hottest sensor, quenches at 97 °C, and acts on the coolant's limits; a trip, lost coolant and a leak raise their faults.
Model's choices: log entries 9, 48, 53, 83, 100, 103, 104, 116, 160, 162. -/
def Obligations.InputsAndCoolingAct : Prop := ∀ (s : State),
  (∀ (x : BitVec 16) v t, v = x.toNat → t = enterBand v (liftInput s) →
    (4800 ≤ v → v ≤ 6000 → t.power.bandLeft = [] → exec (.mainInputCondition x) s = .next (t.set F.PWR_STATUS_MAIN_OK 1)) ∧
    (4800 ≤ v → v ≤ 6000 → t.power.bandLeft ≠ [] → exec (.mainInputCondition x) s = .next t) ∧
    (6000 < v → v ≤ 6100 → exec (.mainInputCondition x) s = .next (noteAt 5 0 108 18 0 (t.set F.PWR_STATUS_MAIN_OK 0))) ∧
    (4400 ≤ v → v < 4800 → ∃ u, u = noteAt 5 0 108 18 0
        (((t.set F.PWR_STATUS_MAIN_OK 0).set F.PWR_STATUS_UV_DERATE 1).set F.PWR_ALARM_UV_DERATE 1) ∧
      exec (.mainInputCondition x) s = .next (updateCeiling { u with power := { u.power with uvLimit := 365 * v / 1000 } })) ∧
    (4200 ≤ v → v < 4400 → exec (.mainInputCondition x) s =
      .next (raiseFault { code := 0x0506, unitType := 18, access := 7 } (t.set F.PWR_STATUS_MAIN_OK 0))) ∧
    (6100 < v → v ≤ 6400 → exec (.mainInputCondition x) s = .next (raiseFault { code := 0x0507, unitType := 18, access := 7 }
      ((t.set F.PWR_STATUS_MAIN_OK 0).set F.PWR_ALARM_OV_QUENCH 1))) ∧
    (6400 < v → exec (.mainInputCondition x) s =
      .next (raiseFault { code := 0x0508, unitType := 18, access := 7 } (t.set F.PWR_STATUS_MAIN_OK 0))) ∧
    (v < 4200 → exec (.mainInputCondition x) s = .next (t.set F.PWR_STATUS_MAIN_OK 0)) ∧
    (4200 ≤ v → exec (.inputLoss x) s = .next s) ∧
    (v < 4200 → ∃ u, u = (powerDown (raiseFault { code := 0x0509, unitType := 18, access := 7 }
        (t.set F.PWR_STATUS_MAIN_OK 0))).forEach (List.range 8) stopCkpt ∧
      ∃ w, w = (u.set F.PWR_HOLDUP_ON_HOLDUP 1).set F.PWR_HOLDUP_STATE 4 ∧
        exec (.inputLoss x) s = .next (pinsSafe { w with boot := { w.boot with inputLost := true } }))) ∧
  ((∀ e ∈ s.power.bandLeft, s.fet < e.2 + 10000000) → liftInput s = s) ∧
  (∀ e t, s.power.bandLeft = [e] → e.2 + 10000000 ≤ s.fet → s.power.band = 0 →
    t = { s with power := { s.power with bandLeft := [], uvLimit := 65535 } } →
    liftInput s = (updateCeiling (t.set F.PWR_STATUS_UV_DERATE 0)).set F.PWR_STATUS_MAIN_OK 1) ∧
  (∀ l, l = (s.vault 0).journal ++ (s.vault 0).staging → exec .journalFlushComplete s =
    .next (s.setVault 0 { s.vault 0 with journal := l.drop (l.length - 2 ^ 30), staging := [] })) ∧
  (exec .aux12vLoss s = .next (setCharger (noteAt 5 0 108 18 1
    (((s.set F.PWR_STATUS_AUX_OK 0).set F.PWR_ALARM_AUX_LOST 1).set F.PWR_HOLDUP_ON_HOLDUP 1)))) ∧
  (∀ (c : Fin 48), converterOk s c = false → exec (.converterFault c) s = .next s) ∧
  (∀ (c : Fin 48) n t u v, converterOk s c = true → n = (dropConverter c s).get F.PWR_CONV1_N_OK - 1 →
    t = ((dropConverter c s).set F.PWR_CONV1_N_OK n).set F.PWR_ALARM_CONV_FAIL 1 →
    u = (raiseAs 1 (rampLimit t) true { code := 0x060b, unitType := 17, inst := c, detail := [5] } t).2 →
    v = updateCeiling { u with power := { u.power with convLimit := n * 40 } } →
    (30 ≤ n → exec (.converterFault c) s = .next v) ∧
    (n < 30 → exec (.converterFault c) s = .next (raiseFault { code := 0x050b, unitType := 17, inst := c } v))) ∧
  (∀ (vb cur : BitVec 16) (dq : Int) t, t = watchFull cur.toNat (readBank vb.toNat dq s) →
    exec (.holdupStateChange vb dq cur) s = .next (holdupState (meanEnergy t) t)) ∧
  (∀ (vb : BitVec 16) (dq : Int) c q u, Canon s → c = s.get F.PWR_HOLDUP_CAL_C_CAL → q = (s.power.charge + dq).toNat →
    u = readBank vb.toNat dq s → u.power.charge = q ∧
      u.get F.PWR_HOLDUP_EST_E_V = min 65535 (c * (vb.toNat * vb.toNat - 5760000) / 20000000) ∧
      u.get F.PWR_HOLDUP_EST_E_Q = min 65535 ((q * q - c * c * 5760000) / (20000000 * c)) ∧
      u.get F.PWR_HOLDUP_USABLE = min (u.get F.PWR_HOLDUP_EST_E_V) (u.get F.PWR_HOLDUP_EST_E_Q)) ∧
  (∀ e st, st = s.get F.PWR_HOLDUP_STATE →
    (st ≠ 4 → 1200 ≤ e → holdupState e s = s.set F.PWR_HOLDUP_STATE 1) ∧
    (st = 1 → 500 ≤ e → e < 1000 →
      holdupState e s = setCharger ((s.set F.PWR_HOLDUP_STATE 2).set F.PWR_ALARM_HOLDUP_LOW 1)) ∧
    (st = 1 ∨ st = 2 → e < 500 → holdupState e s = raiseFault { code := 0x050a, unitType := 18, inst := 2 }
      (flushJournal ((s.set F.PWR_HOLDUP_STATE 3).set F.PWR_ALARM_HOLDUP_EMPTY 1))) ∧
    (st = 4 → 500 ≤ e ∨ s.flag F.PWR_STATUS_AUX_OK = true → holdupState e s = s) ∧
    (st = 4 → e < 500 → s.flag F.PWR_STATUS_AUX_OK = false → 2400 < (commitStore s).get F.PWR_HOLDUP_CAL_VBANK →
      holdupState e s = commitStore s)) ∧
  (∀ (vb : BitVec 16) (dq : Int) t ev eq, t = readBank vb.toNat dq s → ev = t.get F.PWR_HOLDUP_EST_E_V →
    eq = t.get F.PWR_HOLDUP_EST_E_Q → ∃ u, u = (t.set F.PWR_ALARM_ESTIMATOR_DISAGREE 1).set F.PWR_HOLDUP_CAL_PENDING 1 ∧
    ((ev < 500 ∧ 500 ≤ eq) ∨ (eq < 500 ∧ 500 ≤ ev) ∨ (∃ a, t.power.apartSince = some a ∧ a + 1000000000 ≤ t.fet) →
      exec (.estimatorDisagree vb dq) s = .next (holdupState (u.get F.PWR_HOLDUP_USABLE) u)) ∧
    ((ev < 500 ↔ eq < 500) → (∀ a, t.power.apartSince = some a → t.fet < a + 1000000000) →
      exec (.estimatorDisagree vb dq) s = .next t)) ∧
  (∀ (vb : BitVec 16) (dq : BitVec 32) c t, c = max 1 (min 65535 (dq.toNat / 800)) →
    t = (s.set F.PWR_HOLDUP_CAL_C_CAL c).set F.PWR_HOLDUP_CAL_VBANK vb.toNat →
    (vb.toNat < 4780 ∨ s.power.fullSince = none → exec (.holdupCalibration vb dq) s = .next s) ∧
    (∀ a, s.power.fullSince = some a → s.fet < a + 10000000000 → exec (.holdupCalibration vb dq) s = .next s) ∧
    (∀ a, s.power.fullSince = some a → 4780 ≤ vb.toNat → a + 10000000000 ≤ s.fet → exec (.holdupCalibration vb dq) s = .next
      ((showEnergy { t with power := { t.power with charge := c * vb.toNat } }).set F.PWR_HOLDUP_CAL_PENDING 0))) ∧
  (∀ (rep : ThermReport) (temps : List (Nat × Nat)) (all : List (Sensor × Nat)) (r t t' u u' v w x : State) (top : Nat × Nat),
    temps = rep.domains.map (fun e => if injectArmed s 2 && e.1 == s.get F.FLT_INJECT_DOM then
      (e.1, max e.2 (s.get F.PWR_THERM_CFG_THROTTLE_C)) else e) →
    r = (if injectArmed s 2 && rep.domains.any (fun e => e.1 == s.get F.FLT_INJECT_DOM) then s.set F.FLT_INJECT_ARM 0 else s) →
    t = temps.foldl (fun t e => t.set (F.PWR_DOM_STATUS_TEMP e.1) e.2) r →
    t' = { t with power := { t.power with others := rep.others } } →
    top = temps.foldl (fun m e => if m.2 < e.2 then e else m) (0, 0) →
    all = temps.filterMap (fun e => if h : e.1 < 792 then some (Sensor.domain ⟨e.1, h⟩, e.2) else none) ++ rep.others →
    u = ((t'.set F.PWR_THERM_HOT_C top.2).set F.PWR_THERM_HOT_DOM top.1).forEach
      ((all.filterMap (fun e => sensorField e.1)).eraseDups)
      (fun f t => fieldThermal f (all.foldl (fun m e => if sensorField e.1 = some f then max m e.2 else m) 0) t) →
    u' = (match all.find? (fun e => decide (97 ≤ e.2)) with
      | some e => raiseFault { code := 0x050c, collector := sensorCollector e.1, unitType := 18, inst := sensorInst e.1, access := 7 } u
      | none => u) →
    v = (((u'.set F.PWR_STATUS_THROTTLE
        (if allFields.any (fun f => decide (u'.get (F.PWR_DOM_CFG_OP_THERM (domOf f 8)) < 10)) then 1 else 0)).set
      F.PWR_COOLANT0_INLET rep.inlet).set F.PWR_COOLANT0_OUT_TOP rep.outTop).set F.PWR_COOLANT1_OUT_BOTTOM rep.outBottom →
    w = (if 640 < rep.inlet then updateCeiling { v.set F.PWR_ALARM_INLET_HIGH 1 with power := { v.power with
        inletLimit := 1750 - 100 * (rep.inlet - 640) / 16 } }
      else updateCeiling { v with power := { v.power with inletLimit := 65535 } }) →
    x = (if 720 < rep.inlet ∧ rep.inletHotSecond = true then raiseFault { code := 0x050e, unitType := 18, access := 7 } w else w) →
    exec (.thermalWindow rep) s = .next (if rep.inlet + 192 < max rep.outTop rep.outBottom then
      noteAt 5 0 108 18 3 (x.set F.PWR_ALARM_FLOW_LOW 1) else x)) ∧
  (∀ (x : Sensor), exec (.overtempTrip x) s =
    .next (raiseFault { code := 0x050d, collector := sensorCollector x, unitType := 18, inst := sensorInst x, access := 7 } s)) ∧
  (exec .coolantOkDeassert s = .next (raiseFault { code := 0x050f, unitType := 18, access := 7 }
    ((s.set F.CHT_PIN_STATUS_COOLANT_OK 0).set F.PWR_ALARM_COOLANT_NOT_OK 1))) ∧
  (exec .leakDetAssert s = .next (raiseFault { code := 0x0510, unitType := 18, access := 7 } (s.set F.CHT_PIN_STATUS_LEAK_DET 1)))

/-! ### Bring-up (14_bring_up) -/

/-- R432, R433, R434, R446, R447, R517, R519: bring-up and its pins. Chitin powers up once and runs step 1, which a failed
self-check or measurement ends; a cold step that completes is recorded and the next one starts, or the run ends at its target,
on an abort, or with a fail code; a warm phase that completes starts the next; RST_L freezes and samples the straps, resets
the module and reports a hold of 30 s; PWR_EN deasserted ends the run or quenches, then powers off. Model's choices: log
entries 9, 15, 62, 104, 107, 108, 112, 116. -/
def Obligations.BringUpRunsStepByStep : Prop := ∀ (s : State),
  (∀ pins a b, s.boot.powered = true → exec (.chitinPowerUp pins a b) s = .next s) ∧
  (∀ pins a b t u v, s.boot.powered = false →
    t = takeStraps pins.role pins.slotId (takePins pins { s with boot := { s.boot with
      powered := true, strapsFrozen := !(!pins.rstL), active := s.boot.defects, holdStart := s.fet } }) →
    u = (t.set F.CHT_RST_STATUS_HELD (if !pins.rstL then 1 else 0)).set F.CHT_STATUS_LOCKSTEP_OK (if a then 1 else 0) →
    (a = false → exec (.chitinPowerUp pins a b) s =
      .next (raiseFault { code := 0x0601, unitType := 19 } ((u.set F.CHT_STATUS_FAIL 1).set F.CHT_STATUS_FAIL_CODE 10))) ∧
    (a = true → b = false → exec (.chitinPowerUp pins a b) s = .next (raiseFault { code := 0x0602, unitType := 19 }
      (((u.set F.CHT_STATUS_FW_MEASURED 0).set F.CHT_STATUS_FAIL 1).set F.CHT_STATUS_FAIL_CODE 1))) ∧
    (a = true → b = true → v = (loadMgr (loadSerial (loadTime (u.set F.CHT_STATUS_FW_MEASURED 1)))).set F.CHT_STATUS_STEP_DONE 1 →
      ∃ w, w = v.set (F.CHT_BU_TIME_MS 0) (min 65535 (v.fet / 1000000)) ∧ exec (.chitinPowerUp pins a b) s =
        .next (if w.get F.CHT_MGR_STATUS_ACT = 1 ∧ w.flag F.CHT_MGR_CFG_AUTO_DRIVE = true then startDrive w else w))) ∧
  (∀ rep, s.flag F.CHT_STATUS_RUNNING = false → exec (.buStepComplete rep) s = .next s) ∧
  (∀ rep k r t, s.flag F.CHT_STATUS_RUNNING = true → s.boot.warmPhase = 0 → k = stepDone s + 1 →
    stepOver k rep s = true → r = stepEffect k rep s →
    t = (r.2.set (F.CHT_BU_TIME_MS (k - 1)) (min 65535 rep.ms)).set F.CHT_STATUS_STEP_DONE k →
    (r.1 ≠ 0 → exec (.buStepComplete rep) s = .next (failRun r.1 r.2)) ∧
    (r.1 = 0 → t.boot.abort = true ∨ t.boot.runTarget ≤ k → exec (.buStepComplete rep) s =
      .next { t.set F.CHT_STATUS_RUNNING 0 with boot := { t.boot with runTarget := 0, abort := false } }) ∧
    (r.1 = 0 → t.boot.abort = false → k < t.boot.runTarget → exec (.buStepComplete rep) s = .next (startStep (k + 1) t))) ∧
  (∀ rep, s.flag F.CHT_STATUS_RUNNING = true → s.boot.warmPhase = 0 ∧ stepOver (stepDone s + 1) rep s = false ∨
      s.boot.warmPhase = 2 ∧ wakesOver s = false → exec (.buStepComplete rep) s = .next s) ∧
  (∀ rep ph t r code, s.flag F.CHT_STATUS_RUNNING = true → s.boot.warmPhase = ph → ph ≠ 0 → ph ≠ 2 ∨ wakesOver s = true →
    t = (if 2 < ph then powerOut (rep.defects.foldl (fun t d => newDefect d t) s) else s) → r = warmEffect ph rep t →
    code = (if r.1 = 0 ∧ 4 ≤ ph ∧ (serving r.2).length < r.2.get F.CHT_BU_CFG_MIN_FIELDS then 7 else r.1) →
    (code ≠ 0 → exec (.buStepComplete rep) s = .next (failRun code r.2)) ∧
    (code = 0 → ∃ u, u = r.2.set (F.CHT_BU_TIME_MS (ph - 1)) (min 65535 rep.ms) ∧
      (ph < 6 → exec (.buStepComplete rep) s = .next { u with boot := { u.boot with warmPhase := ph + 1 } }) ∧
      (6 ≤ ph → exec (.buStepComplete rep) s = .next (endJobs (fun w => match w with | .warm => true | _ => false) stOk []
        { u.set F.CHT_STATUS_RUNNING 0 with boot := { u.boot with warmPhase := 0 } })))) ∧
  (s.flag F.CHT_RST_STATUS_HELD = true → exec .rstLAssert s = .next s) ∧
  (∀ t u, s.flag F.CHT_RST_STATUS_HELD = false →
    t = ((s.set F.CHT_RST_STATUS_HELD 1).set F.CHT_RST_STATUS_HOLD_MS 0).set F.CHT_PIN_STATUS_RST_L 0 →
    u = { t with boot := { t.boot with holdStart := t.fet } } →
    (u.flag F.CHT_RST_PIN_MASK_MASK = true → exec .rstLAssert s = .next u) ∧
    (u.flag F.CHT_RST_PIN_MASK_MASK = false → ∃ v, v = { u with boot := { u.boot with strapsFrozen := false } } ∧
      exec .rstLAssert s = .next (if 2 ≤ stepDone v ∨ v.flag F.CHT_STATUS_RUNNING = true then moduleReset (endRun 2 v) else v))) ∧
  (s.flag F.CHT_RST_STATUS_HELD = false → exec .rstLRelease s = .next s) ∧
  (∀ t, s.flag F.CHT_RST_STATUS_HELD = true →
    t = (((s.set F.CHT_RST_STATUS_HOLD_MS (holdMs s)).set F.CHT_RST_STATUS_HELD 0).set F.CHT_RST_STATUS_RESET_STUCK 0).set
      F.CHT_PIN_STATUS_RST_L 1 →
    exec .rstLRelease s = .next { t with boot := { t.boot with strapsFrozen := true } }) ∧
  (s.flag F.CHT_RST_STATUS_HELD = true → s.flag F.CHT_RST_PIN_MASK_MASK = false → s.flag F.CHT_RST_STATUS_RESET_STUCK = false →
    30000 ≤ holdMs s → exec .resetStuck s = .next (noteAt 5 0 108 19 0 (s.set F.CHT_RST_STATUS_RESET_STUCK 1))) ∧
  (s.flag F.CHT_RST_STATUS_HELD = false ∨ s.flag F.CHT_RST_PIN_MASK_MASK = true ∨ s.flag F.CHT_RST_STATUS_RESET_STUCK = true ∨
    holdMs s < 30000 → exec .resetStuck s = .next s) ∧
  (∀ (role : Fin 4) (slot : Fin 64),
    (s.flag F.CHT_RST_STATUS_HELD = true → s.flag F.CHT_RST_PIN_MASK_MASK = false → s.boot.strapsFrozen = false →
      exec (.strapSample role slot) s = .next (takeStraps role slot s)) ∧
    (s.flag F.CHT_RST_STATUS_HELD = false ∨ s.flag F.CHT_RST_PIN_MASK_MASK = true ∨ s.boot.strapsFrozen = true →
      exec (.strapSample role slot) s = .next s)) ∧
  (∀ rstToo t, t = (if rstToo then rstAssert (s.set F.CHT_PIN_STATUS_PWR_EN 0) else s.set F.CHT_PIN_STATUS_PWR_EN 0) →
    (t.flag F.CHT_STATUS_RUNNING = true → t.boot.warmPhase = 0 →
      exec (.pwrEnDeassert rstToo) s = .next (powerDown (failRun 3 t))) ∧
    (t.flag F.CHT_STATUS_RUNNING = false ∨ t.boot.warmPhase ≠ 0 → stepDone t < 2 → exec (.pwrEnDeassert rstToo) s = .next t) ∧
    (t.flag F.CHT_STATUS_RUNNING = false ∨ t.boot.warmPhase ≠ 0 → 2 ≤ stepDone t →
      (moduleQuenched t = true → t.power.ramps.any (fun r => r.scope == 0) = false →
        exec (.pwrEnDeassert rstToo) s = .next (powerDown t)) ∧
      (∀ u, u = { t with boot := { t.boot with pwrOffPending := true } } →
        (moduleQuenched t = true → t.power.ramps.any (fun r => r.scope == 0) = true →
          exec (.pwrEnDeassert rstToo) s = .next u) ∧
        (moduleQuenched t = false → exec (.pwrEnDeassert rstToo) s = .next (raiseFault { code := 0x0604, access := 7 } u)))))

/-! ### Faults (15_faults_and_silent_errors) -/

/-- R457, R458, R459, R461, R462, R468, R477, R363, R393: a fault that reaches its collector takes its place in the log: an index
after every fault of an earlier time, before those of the same time that follow it in the order of R459, whose indices move up;
it coalesces with an equal one, or overflows the log, which counts LOG_OVERFLOW once; class 3 and above are kept in Chitin's
store and the journal. Its class then acts: 2 joins its partition's rerun, 3 quenches a tenant that is READY or RUNNING, 4
quenches the module, 5 locks it. A fault of a shared unit is class 3 to every tenant that uses it and class 0 to the others.
Injections that have fallen due are written and their commands end. Model's choices: log entries 14, 15, 27, 33, 81, 102,
113, 114, 115, 116, 155, 164. -/
def Obligations.FaultsAreRecordedAndActedOn : Prop := ∀ (s : State),
  (∀ ev b x, ev.code ≠ 0x0609 → eventClass ev ≠ 1 → eventClass ev ≠ 2 → b = tierReport ev s → x = recordFault (eventClass ev) ev b →
    ∃ u, u = react (eventClass ev) x.1 (rampLimit b) true ev x.2 ∧
      (ev.code ≠ 0x0305 → exec (.faultCapture ev) s = .next u) ∧
      (ev.code = 0x0305 → exec (.faultCapture ev) s =
        .next (endJobs (fun w => match w with | .ckptRestore p _ => p == ev.part | _ => false) stFaulted [] u))) ∧
  (∀ ev b e x, ev.code ≠ 0x0609 → eventClass ev = 2 → b = tierReport ev s → e = { ev with lanes := eventLanes b ev } →
    x = recordFault 2 e b → ev.code ≠ 0x0305 → exec (.faultCapture ev) s = .next (react 2 x.1 (rampLimit b) true e x.2)) ∧
  (∀ ev b c, ev.code ≠ 0x0609 → eventClass ev = 1 → ev.code ≠ 0x0305 → b = tierReport ev s → c = (recordFault 1 ev b).2 →
    ∃ r u, r = countCorr c.fet (c.get F.FLT_CORR_CFG_CORR_LIMIT) (ev.collector, ev.unitType, ev.inst) c.log.corr ∧
      u = { c with log := { c.log with corr := r.1 } } ∧
      exec (.faultCapture ev) s = .next (if r.2 then (recordFault 0 { ev with code := 0x060d, detail := [] } u).2 else u)) ∧
  (∀ ev uses others, ev.code = 0x0609 →
    uses = (List.range 8).filter (fun p => p != 0 && partState s p != 0 && usesShared s ev p == some true) →
    others = (List.range 8).filter (fun p => (p == 0 || partState s p != 0) && !uses.contains p) →
    (usesShared s ev 0 = none → exec (.faultCapture ev) s = .next (raiseFault { ev with part := 0 } s)) ∧
    (usesShared s ev 0 ≠ none → exec (.faultCapture ev) s = .next ((s.forEach uses (fun p t =>
        (raiseAs 3 (rampLimit t) true { ev with part := p } t).2)).forEach others (fun p t =>
        (raiseAs 0 (rampLimit t) true { ev with part := p } t).2)))) ∧
  (∀ cls ev u, u = countEvent cls ev s → u.log.recs.any (coalesces u.fet cls ev) = true →
    recordFault cls ev s = (0, { u with log := { u.log with
      recs := editFirst (coalesces u.fet cls ev) (fun r => { r with repeats := min 65535 (r.repeats + 1) }) u.log.recs } })) ∧
  (∀ cls ev u, u = countEvent cls ev s → u.log.recs.any (coalesces u.fet cls ev) = false →
    (makeRoom cls u.log.recs = none → u.log.overflowed = true → recordFault cls ev s = (0, u)) ∧
    (∀ w, makeRoom cls u.log.recs = none → u.log.overflowed = false →
      w = countEvent 0 { code := 0x060c, collector := 108, unitType := 20, inst := 0 } u →
      recordFault cls ev s = (0, { w with log := { w.log with overflowed := true } })) ∧
    (∀ l idx b e r v h w, makeRoom cls u.log.recs = some l → idx = placeOf u ev →
      b = shiftFrom idx { u with log := { u.log with recs := l } } →
      e = { ev with link := if idx ≤ ev.link then ev.link + 1 else ev.link } →
      r = ({ index := idx, cls := cls, ev := e, fet := b.fet, first := takesFirst b cls e,
             temp := (eventSensors b ev).1, volt := (eventSensors b ev).2 } : FaultRec) →
      h = captureFirst cls idx e b → v = h.wr R.FLT_LOG_HEAD (h.rd R.FLT_LOG_HEAD + 1) →
      w = { v with log := { v.log with
        recs := v.log.recs.filter (fun x => decide (x.index < idx)) ++ r :: v.log.recs.filter (fun x => decide (idx < x.index)) } } →
      recordFault cls ev s = (idx, if 3 ≤ cls then (keepInChitin r w).journal (.fault r) else w))) ∧
  (∀ ev idx slew, (partState s ev.part = 2 ∨ partState s ev.part = 3) → ev.part ≠ 0 →
    react 3 idx slew true ev s = quenchNotice ev.part idx (quenchPartition ev.part slew s)) ∧
  (∀ ev idx slew, react 4 idx slew true ev s = failStep 10 (quenchModule slew (quenchNotices idx (failCreates s)))) ∧
  (∀ ev idx slew, react 5 idx slew true ev s =
    yieldRole (setLock (lockCause ev.code) (failStep 10 (quenchNotices idx (failCreates s))))) ∧
  (exec .faultInjectDue s = .next ((s.injects.filter (fun a => decide (a.due ≤ s.fet))).foldl (fun t a =>
    endJobsAt (fun w => match w with | .inject p o d => p == a.part && o == a.off && d == a.due | _ => false)
      (injectWrite a.off a.value t).1 [] a.due (injectWrite a.off a.value t).2)
    { s with injects := s.injects.filter (fun a => !decide (a.due ≤ s.fet)) }))

/-- R477, R478, R471, R487: reruns, repeat checks and notices. When every field of a partition stands at the end of its pass
after a class 2 fault, the poisoned units and words are repaired and the checks run; a check that ends classifies its fault,
acts on a permanent one and leaves the rerun; a quench notice quenches a READY or RUNNING tenant once and goes on; a
generation notice sets GEN at its FET in a quenched one. A notice seen before, or this module's own, changes nothing.
Model's choices: log entries 2, 4, 9, 69, 74, 94, 95, 105, 115, 117, 118, 119. -/
def Obligations.RerunsAndNoticesTakeEffect : Prop := ∀ (s : State),
  (∀ (p : Fin 8), rerunDue s p = false → exec (.rerun p) s = .next s) ∧
  (∀ (p : Fin 8) recs lanes t u, rerunDue s p = true → recs = (s.part p).rerunRecs.filterMap (recordOf s) →
    lanes = recs.foldl (fun m r => m ||| r.ev.lanes) 0 →
    t = recs.foldl (fun t r => rewriteUnit r (rewriteWord r t)) (s.forEach (partServing s p) repairField) →
    u = markStep p (fun k => { k with lanes := lanes }) ((t.set (F.FLT_RERUN_LANES p) lanes).set (F.FLT_RERUN_EZERO p)
      (min 4095 ((partServing s p).map (fun f => (s.fieldD f).poison.length)).sum)) →
    exec (.rerun p) s = .next (u.setPart p { u.part p with rerun := true })) ∧
  (∀ idx again r, recordOf s idx = some r → checkable s r = false → exec (.repeatCheckComplete idx again) s = .next s) ∧
  (∀ idx again r t u x, recordOf s idx = some r → checkable s r = true →
    t = { s with log := { s.log with
      history := s.log.history.filter (fun x => x.part != r.ev.part || decide ((recurrence s r).step < x.step + 255))
        ++ [recurrence s r] } } →
    x = reread r again t → u = markRecord r.ev.part idx (permanentNow x.2 r x.1) x.2 →
    ∃ v, v = endCheck r.ev.part idx (if permanentNow x.2 r x.1 then permanentAction r u else u) ∧
      exec (.repeatCheckComplete idx again) s =
        .next (if checksByTiles r.ev.code then sentinelResidue r.ev.collector r.ev.inst v else v)) ∧
  (∀ idx again, recordOf s idx = none → exec (.repeatCheckComplete idx again) s =
    .next (s.forEach ([1, 2, 3, 4, 5, 6, 7].filter (fun p => (s.part p).rerun)) (fun p t => endCheck p idx t))) ∧
  (∀ (port : Fin 64) hdr n t, Delivered port hdr s t → hdr.cls = 2 →
    (n.kind ≠ 0 ∨ noticePart n = false ∨ noticeSeen t n = true → exec (.quenchNoticeReceive port hdr n) s = .next t) ∧
    (n.kind = 0 → noticePart n = true → noticeSeen t n = false →
      (partState t n.part ≠ 2 → partState t n.part ≠ 3 →
        exec (.quenchNoticeReceive port hdr n) s = .next (forwardNotice port n t)) ∧
      (partState t n.part = 2 ∨ partState t n.part = 3 → exec (.quenchNoticeReceive port hdr n) s = .next (forwardNotice port n
        (raiseAs 3 (rampLimit t) false
          { code := 0x0605, part := n.part, collector := 100 + port.val / 8, unitType := 15, inst := port, access := 4
            master := 6 * 2 ^ 29 + 8 * n.origin, detail := leNats n.origin 3 ++ [0] ++ leNats n.index 4 } t).2))) ∧
    (n.kind ≠ 1 ∨ noticePart n = false ∨ noticeSeen t n = true → exec (.genNoticeReceive port hdr n) s = .next t) ∧
    (n.kind = 1 → noticePart n = true → noticeSeen t n = false →
      (partState t n.part = 4 → n.fet ≤ t.fet → exec (.genNoticeReceive port hdr n) s =
        .next (forwardNotice port n (genApply (n.part, n.gen % 256, n.fet) t))) ∧
      (partState t n.part = 4 → t.fet < n.fet → exec (.genNoticeReceive port hdr n) s = .next (forwardNotice port n
        { t with log := { t.log with genPending := t.log.genPending ++ [(n.part, n.gen % 256, n.fet)] } })) ∧
      (partState t n.part = 3 → exec (.genNoticeReceive port hdr n) s =
        .next (forwardNotice port n (noteAt 5 n.part (100 + port.val / 8) 15 port t))) ∧
      (partState t n.part ≠ 3 → partState t n.part ≠ 4 →
        exec (.genNoticeReceive port hdr n) s = .next (forwardNotice port n t))))

/-! ### The manager's role (16_manager_role) -/

/-- R496, R497, R498, R503, R499-R502: what an acting manager does. A drive phase ends on its condition or on expiry and the next
begins, with the members that met it, unless the drive was aborted; a health poll, once it is due, takes each member's
answer or counts its miss; a proxy datagram that passes its checks goes to its targets and their replies go back, a repeat is answered from what
was kept; a ring commit stages everywhere and commits where all agree. A module that is no manager does none of it. Model's
choices: log entries 14, 37, 111, 116, 120, 121, 122, 124. -/
def Obligations.ManagerDrivesPollsAndProxies : Prop := ∀ (s : State),
  (∀ l ex, s.flag F.CHT_MGR_STATUS_DRIVING = false ∨ isManager s = false ∨ chitinRuns s = false →
    exec (.drivePhaseComplete l ex) s = .next s) ∧
  (∀ l ex, s.flag F.CHT_MGR_STATUS_DRIVING = true → isManager s = true → chitinRuns s = true →
    (phaseOver (answered s l) ex s = false → exec (.drivePhaseComplete l ex) s = .next s) ∧
    (phaseOver (answered s l) ex s = true → s.mgr.abort = true → exec (.drivePhaseComplete l ex) s = .next (endDrive s)) ∧
    (phaseOver (answered s l) ex s = true → s.mgr.abort = false →
      (∀ t, s.mgr.phase = 1 → t = keepMembers (answered s l) (validMembers s) (fun m => decide (1 ≤ memberStep m)) s →
        exec (.drivePhaseComplete l ex) s =
          .next (if (rivalSlots t (answered s l)).any (fun k => decide (k < t.get F.CHT_STRAP_SLOT_ID)) then endDrive (yieldRole t)
            else toPhase 3 (t.forEach t.mgr.driven d3Member))) ∧
      (∀ t, s.mgr.phase = 3 → t = keepMembers (answered s l) s.mgr.driven (fun _ => true) s →
        exec (.drivePhaseComplete l ex) s = .next (toPhase 4 (sendGo 6 t.mgr.driven t))) ∧
      (∀ t, s.mgr.phase = 4 → t = keepMembers (answered s l) s.mgr.driven (fun m => decide (6 ≤ memberStep m)) s →
        exec (.drivePhaseComplete l ex) s = .next (toPhase 5 (sendGo 10 t.mgr.driven t))) ∧
      (∀ t ms, s.mgr.phase = 5 → t = keepMembers (answered s l) s.mgr.driven (fun m => memberStep m == 10 && !memberFail m) s →
        ms = t.mgr.driven.filterMap (replyOf (answered s l)) →
        exec (.drivePhaseComplete l ex) s =
          .next (if t.flag F.CHT_MGR_CFG_AUTO_COMMIT = false ∨ ms.any (·.tenantRunning) = true ∨ ms = [] then endDrive t
            else toPhase 6 (ms.foldl (fun u m => scpMember m.t.val 0x48 0 (liveStage m) u) t))) ∧
      (s.mgr.phase = 6 → exec (.drivePhaseComplete l ex) s = .next (endD6 (answered s l) s)))) ∧
  (∀ l, isManager s = false ∨ chitinRuns s = false ∨ s.fet < s.mgr.pollDue → exec (.healthPoll l) s = .next s) ∧
  (∀ l t, isManager s = true → chitinRuns s = true → s.mgr.pollDue ≤ s.fet →
    t = ({ s with mgr := { s.mgr with pollDue := s.fet + 1000000 * s.get F.CHT_MGR_CFG_HEALTH_MS } } : State).forEach (validMembers s)
      (fun t u => match replyOf (answered s l) t with
        | some m => takeHealth m u
        | none => missHealth t u) →
    exec (.healthPoll l) s = .next (sumRack ((answered s l).map (·.t.val)) t)) ∧
  (∀ ip (port : BitVec 16) pre (op : BitVec 8) r reps ms, chitinRuns s = false →
    exec (.proxyForward ip port pre op r reps) s = .next s ∧ exec (.proxyRingCommit ip port pre op r ms) s = .next s) ∧
  (∀ ip (port : BitVec 16) pre (op : BitVec 8) r reps ms, chitinRuns s = true →
    isManager s = false ∨ s.flag F.CHT_MGR_CFG_PROXY_EN = false →
    (pre.mode ≠ 1 → exec (.proxyForward ip port pre op r reps) s = .next (note 5 0 R.CHT_MGR_CFG s)) ∧
    (pre.mode = 1 → exec (.proxyRingCommit ip port pre op r ms) s = .next (note 5 0 R.CHT_MGR_CFG s))) ∧
  (∀ ip (port : BitVec 16) pre (op : BitVec 8) r reps ms, chitinRuns s = true → isManager s = true →
    s.flag F.CHT_MGR_CFG_PROXY_EN = true →
    (∀ t, proxyKept s ip port.toNat pre.pseq ≠ [] → t = (proxyKept s ip port.toNat pre.pseq).foldl
        (fun u e => u.emit (proxyOut e true)) s →
      (pre.mode ≠ 1 → exec (.proxyForward ip port pre op r reps) s = .next t) ∧
      (pre.mode = 1 → exec (.proxyRingCommit ip port pre op r ms) s = .next t)) ∧
    (∀ st, proxyKept s ip port.toNat pre.pseq = [] → proxyCheck s pre op.toNat r = some st →
      (pre.mode ≠ 1 → exec (.proxyForward ip port pre op r reps) s =
        .next (proxyAnswer (proxyFrom ip port.toNat pre op.toNat (ownT s) false (proxyReplyTo r st s.fet [])) s)) ∧
      (pre.mode = 1 → exec (.proxyRingCommit ip port pre op r ms) s =
        .next (proxyAnswer (proxyFrom ip port.toNat pre op.toNat (ownT s) false (proxyReplyTo r st s.fet [])) s))) ∧
    (proxyKept s ip port.toNat pre.pseq = [] → proxyCheck s pre op.toNat r = none →
      (pre.mode ≠ 1 → exec (.proxyForward ip port pre op r reps) s = .next (s.forEach (proxyTargets s pre) (fun t u =>
        if unreached u t = true ∨ (memberValid u t = false ∧ overRing u t = false) then
          proxyAnswer (proxyFrom ip port.toNat pre op.toNat t false (proxyReplyTo r stBusy u.fet [])) u
        else (reps.filter (fun x => x.t.val == t)).foldl
          (fun v x => proxyAnswer (proxyFrom ip port.toNat pre op.toNat t x.more (proxyReplyTo r x.status x.rfet x.result)) v)
          (if overRing u t then sendFrame (memberFrame u t (requestPacket op.toNat r (memberSeq u t))) (takeSeq t u)
            else (takeSeq t u).emit (.memberScp t (requestPacket op.toNat r (memberSeq u t))))))) ∧
      (∀ t u l a good, pre.mode = 1 →
        t = s.forEach (reachable s) (fun t u => scpSend t op.toNat r u) →
        l = ms.filter (fun m => (reachable s).contains m.t.val) → a = agreement l →
        good = (!l.isEmpty && a.2.2.length == l.length) →
        u = t.forEach (reachable s) (fun t u => if good then scpMember t 0x49 (reqPart r) (commitBytes a.1 pre.c a.2.1) u
          else scpMember t 0x48 (reqPart r) [1, 0, 0, 0] u) →
        exec (.proxyRingCommit ip port pre op r ms) s = .next (proxyAnswer (proxyFrom ip port.toNat pre op.toNat (ownT u) false
          (proxyReplyTo r stOk u.fet (leBytes (if good then stOk else stBadParam) 2 ++ leBytes ((a.2.2.map (2 ^ ·)).sum) 1
            ++ leBytes (((l.map (·.t.val)).map (2 ^ ·)).sum) 1 ++ leBytes a.1 2 ++ leBytes 0 2 ++ a.2.1.take 32))) u))))

/-- R492, R494, R504, R505, R506, R300, R539: who is the manager. A Firefly of the manager followed clears the standby's count
and dates the next; each overdue one counts, the third in a row reads the manager's status; the standby then takes over unless the answer is ACT 1; a manager yields
on its conditions and a standby to a rival of a lower slot; HANDBACK returns the role where the strapped manager has yielded
and no condition holds. A management frame is carried out for the manager followed or the standby and denied to others.
Model's choices: log entries 9, 37, 43, 94, 95, 111, 112, 116, 120, 123, 124. -/
def Obligations.ManagerRoleChanges : Prop := ∀ (s : State),
  (∀ (n : Fin 64) hdr fr t, Delivered n hdr s t → hdr.cls = 4 →
    (watching t = true → n.val < 32 → fr.coord = t.get F.CHT_MGR_FOLLOW_COORD →
      ∃ u, u = t.set F.CHT_MGR_STATUS_MISSED 0 ∧
        exec (.fireflyReceive n hdr fr) s = .next { u with mgr := { u.mgr with missDue := some (fr.txFet + 102000) } }) ∧
    (watching t = false ∨ 32 ≤ n.val ∨ fr.coord ≠ t.get F.CHT_MGR_FOLLOW_COORD →
      exec (.fireflyReceive n hdr fr) s = .next t)) ∧
  (watching s = false ∨ chitinRuns s = false ∨ missEarly s = true → exec .fireflyMiss s = .next s) ∧
  (∀ n t u, watching s = true → chitinRuns s = true → missEarly s = false → n = min 255 (s.get F.CHT_MGR_STATUS_MISSED + 1) →
    u = s.set F.CHT_MGR_STATUS_MISSED n → t = { u with mgr := { u.mgr with missDue := some (s.mgr.missDue.getD s.fet + 100000) } } →
    (n = 3 → exec .fireflyMiss s =
      .next (t.emit (.memberRead (coordAxis (t.get F.CHT_MGR_FOLLOW_COORD) 0) R.CHT_MGR_STATUS))) ∧
    (n ≠ 3 → exec .fireflyMiss s = .next t)) ∧
  (∀ reply ms, watching s = true → chitinRuns s = true → 3 ≤ s.get F.CHT_MGR_STATUS_MISSED →
    (reply = some 1 → exec (.standbyTakeover reply ms) s = .next (note 5 0 R.CHT_MGR_STATUS (s.set F.CHT_MGR_STATUS_MISSED 0))) ∧
    (reply ≠ some 1 → exec (.standbyTakeover reply ms) s = .next (takeOver ms s))) ∧
  (∀ reply ms, watching s = false ∨ chitinRuns s = false ∨ s.get F.CHT_MGR_STATUS_MISSED < 3 →
    exec (.standbyTakeover reply ms) s = .next s) ∧
  (∀ standby (rival : Option (Fin 64)) lost beaten, beaten = rival.any (fun k => decide (k.val < s.get F.CHT_STRAP_SLOT_ID)) →
    (s.boot.powered = false → exec (.managerYield standby rival lost) s = .next s) ∧
    (s.boot.powered = true → s.get F.CHT_MGR_STATUS_ACT = 1 →
      (standby = some 4 ∨ beaten = true ∨ lost = true ∨ s.boot.inputLost = true ∨ locked s = true →
        exec (.managerYield standby rival lost) s = .next (yieldRole s)) ∧
      (standby ≠ some 4 → beaten = false → lost = false → s.boot.inputLost = false → locked s = false →
        exec (.managerYield standby rival lost) s = .next s)) ∧
    (s.boot.powered = true → s.get F.CHT_MGR_STATUS_ACT = 2 → exec (.managerYield standby rival lost) s =
      .next (if beaten then note 5 0 R.CHT_MGR_STATUS ((s.set F.CHT_MGR_STATUS_ACT 0).set F.CHT_MGR_STATUS_CONFLICT 1) else s)) ∧
    (s.boot.powered = true → s.get F.CHT_MGR_STATUS_ACT ≠ 1 → s.get F.CHT_MGR_STATUS_ACT ≠ 2 →
      exec (.managerYield standby rival lost) s = .next s)) ∧
  (∀ via w act yc ms t, t = busWrite via R.CHT_MGR_CTRL 4 w.toNat true s → pathUp s via = true → latchOnly s via = false →
    filtered s via true R.CHT_MGR_CTRL = false →
    (w.getLsbD 2 = false ∨ t.get F.CHT_MGR_STATUS_ACT ≠ 4 → exec (.handback via w act yc ms) s = .next t) ∧
    (w.getLsbD 2 = true → t.get F.CHT_MGR_STATUS_ACT = 4 → act = some 5 → yc = false →
      exec (.handback via w act yc ms) s = .next (endDrive ((setFollow t.mgr.strapped
        (t.forEach ((ms.map (·.t.val)).filter (· != ownT t)) (fun k u =>
          u.emit (.memberWrite k R.CHT_MGR_FOLLOW (BitVec.ofNat 32 (2 ^ 31 + t.mgr.strapped)))))).set F.CHT_MGR_STATUS_ACT 2))) ∧
    (w.getLsbD 2 = true → t.get F.CHT_MGR_STATUS_ACT = 4 → act ≠ some 5 ∨ yc = true →
      exec (.handback via w act yc ms) s = .next (regNote via true 5 R.CHT_MGR_CTRL t))) ∧
  (∀ (n : Fin 64) fr t, Delivered n fr s t → fr.cls = 7 → leAt fr.payload 0 1 < 128 → chitinRuns t = true →
    (snlAccepted t (fr.src / 8) = false → exec (.managementFrameReceive n fr) s = .next (replyFrame n fr
      (mgmtReply (leAt fr.payload 0 1) (regCount fr.payload) stDenied (leAt fr.payload 4 4) []) t)) ∧
    (snlAccepted t (fr.src / 8) = true → exec (.managementFrameReceive n fr) s =
      .next (replyFrame n fr (mgmtOperate (.snl (BitVec.ofNat 17 (fr.src / 8))) fr.payload t).1
        (mgmtOperate (.snl (BitVec.ofNat 17 (fr.src / 8))) fr.payload t).2)))

/-! ### The connector (17_connector_and_pins) -/

/-- R431, R525, R527, R353, R370: the management port and PCI Express. A register-access datagram is carried out with the rights
of the physical function and answered to its source; an ARP or ICMP request for the module's own address is answered, a tagged
one is not; PERST and a function-level reset disable the queues and return the MSI-X windows of what they reset. Model's
choices: log entries 43, 47, 49, 50, 54, 111, 124. -/
def Obligations.ManagementPortAndResetsAct : Prop := ∀ (s : State),
  (∀ ip (port : BitVec 16) payload, pathUp s (.datagram ip port) = true → 16 ≤ payload.length → leAt payload 0 1 < 128 →
    exec (.regAccessDatagram ip port payload) s = .next
      ((mgmtOperate (.datagram ip port) payload s).2.emit (.datagram ip port.toNat (mgmtOperate (.datagram ip port) payload s).1))) ∧
  (∀ ip (port : BitVec 16) payload, pathUp s (.datagram ip port) = false ∨ payload.length < 16 ∨ 128 ≤ leAt payload 0 1 →
    exec (.regAccessDatagram ip port payload) s = .next s) ∧
  (∀ icmp addr, chitinRuns s = true → addr = viewWord s .rackBus R.CHT_MGMT_BASE →
    exec (.arpIcmpRequest icmp addr false) s = .next (s.emit (.arpIcmp icmp addr))) ∧
  (∀ icmp addr tagged, chitinRuns s = false ∨ tagged = true ∨ addr ≠ viewWord s .rackBus R.CHT_MGMT_BASE →
    exec (.arpIcmpRequest icmp addr tagged) s = .next s) ∧
  (∀ (ep : Fin 2), s.boot.powered = false → exec (.perstAssert ep) s = .next s ∧ exec (.perstRelease ep) s = .next s) ∧
  (∀ (ep : Fin 2), s.boot.powered = true →
    exec (.perstAssert ep) s = .next ((s.set (perstPin ep) 0).forEach (List.range 8) (fun q t =>
      (t.set (F.CHT_Q_CFG_EN ep q) 0).resetRegs (msixBase ep q) (msixBase ep q + 0x2000))) ∧
    exec (.perstRelease ep) s = .next (s.set (perstPin ep) 1)) ∧
  (∀ (ep : Fin 2) (fn : Fin 8), exec (.functionLevelReset ep fn) s = .next
    ((s.forEach ((List.range 8).filter (fun q => pageFn s ep q == fn.val)) (fun q t => t.set (F.CHT_Q_CFG_EN ep q) 0)).resetRegs
      (msixBase ep fn) (msixBase ep fn + 0x2000)))

/-- R528-R531, R474, R532: the rack bus, boundary scan and Chitin's rail. A read answers status and value, in lock only the
latch's registers; a write keeps its status for LAST_STATUS, one whose PEC fails is only counted; SUMMARY answers four
registers and clears the draw's peak; ALERT_RESPONSE and a timeout act as stated; the TAP loads BYPASS in place of what would
drive pins outside the Chitin-only state, and IDCODE shifts out the module's word. The loss of Chitin's rail keeps only what flash keeps.
Model's choices: log entries 37, 44, 45, 48, 114, 125, 126. -/
def Obligations.RackBusTapAndRailLoss : Prop := ∀ (s : State),
  (busUp s = false → ∀ off v pec, exec (.regRead off) s = .next s ∧ exec (.regWrite off v pec) s = .next s ∧
    exec .summary s = .next s ∧ exec .lastStatus s = .next s ∧ exec .alertResponse s = .next s ∧ exec .smbusTimeout s = .next s) ∧
  (busUp s = true →
    (∀ off, locked s = false → exec (.regRead off) s = .next ((readReg .rackBus off.toNat 4 s).2.2.emit
      (.rackStatus (readReg .rackBus off.toNat 4 s).2.1 (leBytes (readReg .rackBus off.toNat 4 s).1 4)))) ∧
    (∀ off, locked s = true → latchReads off.toNat = true → exec (.regRead off) s =
      .next ((readHere .rackBus off.toNat s).2.emit (.rackStatus 0 (leBytes (readHere .rackBus off.toNat s).1.toNat 4)))) ∧
    (∀ off, locked s = true → latchReads off.toNat = false → exec (.regRead off) s =
      .next (({ s with freeIdx := s.freeIdx + 1 } : State).emit (.rackStatus 1 (leBytes (Config.freeWord s.freeIdx).toNat 4)))) ∧
    (∀ off v, exec (.regWrite off v false) s = .next (s.count F.CHT_SMB_CFG_PEC_ERRS 1)) ∧
    (∀ off v, locked s = true → exec (.regWrite off v true) s = .next { s with bus := { s.bus with lastStatus := 2 } }) ∧
    (∀ off v x, locked s = false → x = writeReg .rackBus off.toNat 4 v.toNat true s →
      exec (.regWrite off v true) s = .next { x.2 with bus := { x.2.bus with lastStatus := x.1 } }) ∧
    (∀ v, v = (fun off => leBytes (viewWord s .rackBus off &&& readMask off).toNat 4) →
      exec .summary s = .next ((s.set F.PWR_DRAW_PEAK 0).emit
        (.rackStatus 0 (v R.CHT_STATUS ++ v R.FLT_STATUS ++ v R.PWR_DRAW ++ v R.FLT_LOCK)))) ∧
    exec .lastStatus s = .next (s.emit (.rackStatus s.bus.lastStatus [])) ∧
    (locked s = false → s.flag F.CHT_SMB_CFG_ARA_EN = true → alertDriven s = true →
      exec .alertResponse s = .next (s.emit (.ara (0x50 + s.get F.CHT_STRAP_SLOT_ID % 16)))) ∧
    (locked s = true ∨ s.flag F.CHT_SMB_CFG_ARA_EN = false ∨ alertDriven s = false → exec .alertResponse s = .next s) ∧
    exec .smbusTimeout s = .next { s.count F.CHT_SMB_CFG_TIMEOUTS 1 with bus := { s.bus with lastStatus := 0 } }) ∧
  (∀ ir, s.boot.powered = false ∨ locked s = true → exec (.tapInstruction ir) s = .next s) ∧
  (∀ ir, s.boot.powered = true → locked s = false →
    (drivesPins ir = true → chitinOnly s = false → exec (.tapInstruction ir) s =
      .next (note 5 0 0 { s with bus := { s.bus with tapIr := .bypass, tapDriving := false } })) ∧
    (drivesPins ir = false ∨ chitinOnly s = true → exec (.tapInstruction ir) s =
      .next (({ s with bus := { s.bus with tapIr := ir, tapDriving := drivesPins ir } } : State).emit
        (.tap ir (if ir = .idcode then some 0x0088a0b3 else none))))) ∧
  (exec .tapReset s = .next { s with bus := { s.bus with tapIr := .idcode, tapDriving := false } }) ∧
  (∃ t, exec .chitinRailLoss s = .next t ∧ t.boot.powered = false ∧ t.regs = [] ∧ t.fields = [] ∧ t.cells = [] ∧ t.log.recs = [] ∧
    t.log.chitin = s.log.chitin ∧ t.boot.defects = s.boot.defects ∧ t.boot.storedCfg = s.boot.storedCfg ∧
    t.boot.bankA = s.boot.bankA ∧ t.boot.bankB = s.boot.bankB ∧ t.boot.flashMgr = s.boot.flashMgr ∧
    (Canon s → ∀ v, (t.vault v).journal = (s.vault v).journal ∧ (t.vault v).slots = (s.vault v).slots ∧ (t.vault v).tierC = []))

/-! ### Rules stated whole -/

/-- R531: in lock the latch serves SUMMARY, and REG_READ of FLT_LOCK, CHT_STRAP, CHT_SERIAL and CHT_RST_STATUS; every other
register read returns status 1 (with a value nothing fixes), and every write returns status 2, which LAST_STATUS then
reports. -/
def Obligations.LatchServesTheRackBusInLock : Prop := ∀ (s : State), busUp s = true → locked s = true →
  (∀ v, v = (fun off => leBytes (viewWord s .rackBus off &&& readMask off).toNat 4) →
    exec .summary s = .next ((s.set F.PWR_DRAW_PEAK 0).emit
      (.rackStatus 0 (v R.CHT_STATUS ++ v R.FLT_STATUS ++ v R.PWR_DRAW ++ v R.FLT_LOCK))) ∧
    (∀ off : Word, off.toNat ∈ [R.FLT_LOCK, R.CHT_STRAP, R.CHT_SERIAL 0, R.CHT_SERIAL 1, R.CHT_SERIAL 2, R.CHT_SERIAL 3, R.CHT_RST_STATUS] →
      exec (.regRead off) s = .next (s.emit (.rackStatus 0 (v off.toNat))))) ∧
  (∀ off : Word, off.toNat ∉ [R.FLT_LOCK, R.CHT_STRAP, R.CHT_SERIAL 0, R.CHT_SERIAL 1, R.CHT_SERIAL 2, R.CHT_SERIAL 3, R.CHT_RST_STATUS] →
    ∃ w : Word, exec (.regRead off) s =
      .next (({ s with freeIdx := s.freeIdx + 1 } : State).emit (.rackStatus 1 (leBytes w.toNat 4)))) ∧
  (∀ off w, ∃ t, exec (.regWrite off w true) s = .next t ∧ t = { s with bus := { s.bus with lastStatus := 2 } } ∧
    exec .lastStatus t = .next (t.emit (.rackStatus 2 [])))

/-- R545: PWR_DRAW.PEAK and PRT_DRAW.PEAK clear on any read that reaches them by any path, on SUMMARY and on PART_QUERY;
a read changes no other register field; a read of a LO register changes only its requester's latch of that pair. -/
def Obligations.ReadsChangeOnlyPeaksAndLatches : Prop := ∀ (s : State), Canon s →
  (∀ (via : Path) (off : Nat) (c : Instr) (t : State), c ∈ [.timFetLoRead via ⟨off, 4⟩, .drawPeakRead via ⟨off, 4⟩] →
    exec c s = .next t → off % 4 = 0 → filtered s via false off = false →
    (∀ reg, reg ≠ R.PWR_DRAW → (∀ p, p < 8 → reg ≠ R.PRT_DRAW p) → t.rd reg = s.rd reg) ∧
    (t.rd R.PWR_DRAW = s.rd R.PWR_DRAW ∨ t.rd R.PWR_DRAW = (s.set F.PWR_DRAW_PEAK 0).rd R.PWR_DRAW) ∧
    (∀ p, p < 8 → t.rd (R.PRT_DRAW p) = s.rd (R.PRT_DRAW p) ∨
      t.rd (R.PRT_DRAW p) = (s.set (F.PRT_DRAW_PEAK p) 0).rd (R.PRT_DRAW p)) ∧
    { t with regs := s.regs, latches := s.latches, out := s.out } = s ∧
    (∀ via' lo, via' ≠ via → latched t via' lo = latched s via' lo) ∧
    (∀ reg, place via off = some reg → pairHi reg ≠ none → t.regs = s.regs ∧
      ∀ lo, lo ≠ reg → latched t via lo = latched s via lo) ∧
    (pathUp s via = true → latchOnly s via = false → answers s off = true →
      (place via off = some R.PWR_DRAW → t.get F.PWR_DRAW_PEAK = 0) ∧
      (∀ p, p < 8 → place via off = some (R.PRT_DRAW p) → t.get (F.PRT_DRAW_PEAK p) = 0))) ∧
  (busUp s = true → ∃ t, exec .summary s = .next t ∧ t.get F.PWR_DRAW_PEAK = 0) ∧
  (∀ r : Request, ToScarab 0x12 false r s → ∃ t, exec (.partQuery r) s = .next t ∧ t.get (F.PRT_DRAW_PEAK (reqPart r)) = 0)

/-- R213: what a network interface makes of the GEN of a header that passed the checks before it, its partition's scope not
quenched. Equal passes; exactly 1 behind within the drain window passes only where SRC_PHYS is the active map's position for
SRC, and is counted as ACCEPTED; any other difference fails. -/
def Obligations.GenerationsAreCompared : Prop := ∀ (f node : Nat) (p : Packet) (s : State) (own : Nat),
  p.dst = meshId s f node → p.part = ownerOf s f → quenchDrops s p = false → own = s.get (F.MSH_GEN_GEN p.part) → p.gen < 256 →
  (own = p.gen → headerChecks f node p s = (true, s)) ∧
  (own ≠ p.gen → own = (p.gen + 1) % 256 → s.fet < s.mesh.drainEnd →
    (∀ l, locate s p.src p.src = some l → 72 * l.1 + l.2.2 = p.srcPhys →
      headerChecks f node p s = (true, s.count (F.MSH_FENCE_CNT_ACCEPTED f) 1)) ∧
    ((∀ l, locate s p.src p.src = some l → 72 * l.1 + l.2.2 ≠ p.srcPhys) → (headerChecks f node p s).1 = false)) ∧
  (own ≠ p.gen → own ≠ (p.gen + 1) % 256 ∨ s.mesh.drainEnd ≤ s.fet → (headerChecks f node p s).1 = false)

/-- R410: a domain in ON whose current stays at its limit for 100 µs is turned off at once, with the scratchpads of its cells;
that is a class 3 fault in its partition, and the domain's soft start is requested at PRIO 3; a field whose uncore it
is becomes a hole, and the commands of its SCARAB agent end FAULTED where it was the one that served them. A domain in any other state is not touched. -/
def Obligations.CurrentLimitTurnsDomainOff : Prop := ∀ (d : Fin 792) (s : State),
  (domState s d ≠ 3 → exec (.currentLimitTrip d) s = .next s) ∧
  (∀ t u, domState s d = 3 → t = (if d.val % 9 = 8 then makeHole (d.val / 9) (domainOff d
        (if inService s (d.val / 9) then handOver (d.val / 9) s else s)) else domainOff d s) →
    u = raiseFault { code := 0x0503, part := ownerOf t (d.val / 9), collector := d.val / 9, unitType := 16, inst := d.val % 9 } t →
    exec (.currentLimitTrip d) s =
      .next (requestWake ⟨d, if d.val % 9 = 8 then 2 else 1, 3, ownerOf u (d.val / 9), u.fet⟩ u))

/-! ### The module as a whole -/

/-- The command at the front of the queue takes effect on the state with the rest of the queue. With no command waiting a
module with power lets one tick of the timebase pass: FET counts one nanosecond, tokens refill, an input's action that has
been held its 10 ms is lifted, regulators move, wakes from RETENTION end, the error bound follows, announced generations take
effect; without power nothing happens. That a step without a command is a tick is the model's
choice (log entry 2). -/
def Obligations.StepRunsFrontCommand : Prop := ∀ (s : State),
  (∀ c rest, s.pending = c :: rest → step s = exec c { s with pending := rest }) ∧
  (s.pending = [] → s.boot.powered = true →
    step s = .next (genDue (growEst (retainedOn (slewAll (liftInput
      (refillTokens { s with fet := Fet.wrap (s.fet + 1) }))))))) ∧
  (s.pending = [] → s.boot.powered = false → step s = .next s)

/-- Every command completes in every state, whatever its operands: it leaves the queue of waiting commands alone, takes back
nothing it emitted, and keeps every table of the module canonical (what it does is stated row by row above). -/
def Obligations.EveryCommandCompletes : Prop := ∀ (c : Instr) (s : State), ∃ t, exec c s = .next t ∧ Keeps s t

/-- An invariant of every step: the registers and every table of partitions, rings, Cicada engines, fields, Vaults, ports,
cells, network interfaces and ERUs keep their canonical form, so that equal contents are equal states. -/
def Obligations.StepKeepsTablesCanonical : Prop := ∀ (s t : State), Canon s → step s = .next t → Canon t

/-- A queue of any length drains: after as many steps as commands wait it is empty, nothing emitted was taken back, and the
tables are canonical still. -/
def Obligations.QueueOfCommandsDrains : Prop := ∀ (s : State), ∃ t,
  run s.pending.length s = some t ∧ t.pending = [] ∧ s.out <+: t.out ∧ s.freeIdx ≤ t.freeIdx ∧ (Canon s → Canon t)

/-- Right after reset no command waits, FET is 0, Chitin has no power, every register holds its reset value, partition 0
holds all 88 fields, every other partition is FREE, every port is OFF, no plan is started, no fault record is held, the
lock latch is clear, and every table is canonical (Table 11.6, R16, R47, R435). Model's choices: log entries 1, 48, 129,
130. -/
def Obligations.ResetLeavesTheModule : Prop :=
  Canon State.reset ∧ State.reset.pending = [] ∧ State.reset.fet = 0 ∧ State.reset.boot.powered = false ∧
  (∀ off, State.reset.rd off = regDflt off) ∧ partFields State.reset 0 = allFields ∧
  (∀ p, 1 ≤ p → p < 8 → partState State.reset p = 0) ∧ (∀ f, f < 88 → ownerOf State.reset f = 0) ∧
  (∀ n, n < 64 → State.reset.get (F.SNL_STATUS_STATE n) = 0) ∧
  (∀ f, f < 88 → State.reset.flag (F.FLD_STATUS_STARTED f) = false) ∧
  State.reset.log.recs = [] ∧ locked State.reset = false ∧ State.reset.jobs = [] ∧ State.reset.queues = []

/-- A register field set by the hardware reads as the low bits it has room for; bits outside it, and every other register,
are unchanged. Bytes stored in a memory read back, every other byte reads as before, zeroing zeroes exactly its range, each
keeps the canonical form, and canonical memories that read alike are equal. A whole unit written to Tier C under an
installed key, with no poison and no injected error, reads back under that key with no fault (R222, R228). Model's choices:
log entries 1, 9, 48. -/
def Obligations.StoredDataReadsBack : Prop :=
  (∀ (s : State) (f g : Fld) (v : Nat) (off : Nat), Canon s → f.lo ≤ f.hi → f.hi ≤ 31 →
    (s.set f v).get f = v % 2 ^ f.width ∧
    (g.reg = f.reg → g.lo ≤ g.hi → g.hi ≤ 31 → g.hi < f.lo ∨ f.hi < g.lo → (s.set f v).get g = s.get g) ∧
    (off ≠ f.reg → (s.set f v).rd off = s.rd off) ∧
    Canon (s.set f v) ∧ { s.set f v with regs := s.regs } = s) ∧
  (∀ (m : Mem) (a : Nat) (l : List Byte) (c : Nat), Mem.wf m = true →
    Mem.wf (Mem.wrN m a l) = true ∧
    Mem.rdN (Mem.wrN m a l) a l.length = l ∧
    (c < a ∨ a + l.length ≤ c → Mem.rd (Mem.wrN m a l) c = Mem.rd m c)) ∧
  (∀ (m : Mem) (lo hi c : Nat), Mem.wf m = true →
    Mem.wf (Mem.clear m lo hi) = true ∧ Mem.rd (Mem.clear m lo hi) c = if lo ≤ c ∧ c < hi then 0 else Mem.rd m c) ∧
  (∀ (m k : Mem), Mem.wf m = true → Mem.wf k = true → (∀ a, Mem.rd m a = Mem.rd k a) → m = k) ∧
  (∀ (v unit p master : Nat) (l : List PWord) (s : State), Canon s → Mem.wf (s.vault v).tierC = true →
    AMap.wf (fun _ => []) (s.vault v).keyOfC = true → (tierCKey s v p).isSome = true → l.length = 64 →
    l.any (·.bad) = false → s.flag (F.VLT_CTRL_INJECT v) = false →
    tcRead v unit p 0 master (tcWrite v unit p l s) = ((l, false), tcWrite v unit p l s))

/-- Frames. A command that moves a port through its states, arms its margin monitor or agrees a rate leaves every
unit, the fault log, the partitions, time, power and every other port as they were, and every register but the port's
status and its retrain window. A sequencer's bundle or loop reaches only its field, that field's cells (never their scratchpads, accumulators
or registers files) and its partition's status. A request that only asks, whose
ring access completes, changes no unit of the module; its reply over SNL waits at a port. -/
def Obligations.CommandsStayInTheirUnit : Prop := ∀ (s t : State), Canon s →
  (∀ (n : Fin 64) (slot : Nat) (c : Instr), c ∈ [.partnerSignalDetect n, .blockLock n, .detectTimeout n, .trainConverged n, .wakeBurst n,
      .marginMonitorArm n, .rateChangeProposal ⟨n, slot⟩, .rateChange n] → exec c s = .next t →
    SameUnits { s with ports := t.ports } t ∧ SameModule s t ∧ t.jobs = s.jobs ∧ t.queues = s.queues ∧ t.rings = s.rings ∧
    (∀ m : Nat, m ≠ n → t.port m = s.port m) ∧
    (∀ off, off ∉ [R.SNL_STATUS n, R.SNL_RETRAIN_LO n, R.SNL_RETRAIN_HI n] → t.rd off = s.rd off)) ∧
  (∀ (f : Fin 88) (cyc : Nat) (c : Instr), c ∈ [.bundleIssue f cyc, .loopEnd f cyc, .endBundle f cyc, .sentinelBundle f cyc] →
    exec c s = .next t →
    SameUnits { s with fields := t.fields, cells := t.cells } t ∧ SameModule s t ∧ t.jobs = s.jobs ∧ t.queues = s.queues ∧
    t.rings = s.rings ∧ t.out = s.out ∧ (∀ g : Nat, g ≠ f → t.fieldD g = s.fieldD g) ∧
    (t.fieldD f).tierN = (s.fieldD f).tierN ∧ (t.fieldD f).store = (s.fieldD f).store ∧
    (∀ g pos : Nat, g ≠ f → pos < 72 → t.cell g pos = s.cell g pos) ∧
    (∀ pos, pos < 72 → (t.cell f pos).sp = (s.cell f pos).sp ∧ (t.cell f pos).acc = (s.cell f pos).acc ∧
      (t.cell f pos).vregs = (s.cell f pos).vregs ∧ (t.cell f pos).active = (s.cell f pos).active) ∧
    (∀ off, off ∉ [R.FLD_STATUS f, R.FLD_PC f, R.FLD_LOOP01 f, R.FLD_LOOP23 f, R.FLD_BP_CYCLES f, R.FLD_SENT_IDX f,
        R.PRT_STATUS (ownerOf s f)] → (∀ pos, pos < 72 → off ≠ R.CEL_STATUS f pos ∧ off ≠ R.CEL_FU_STATUS f pos) →
      t.rd off = s.rd off)) ∧
  (∀ (r : Request) (c : Instr), c ∈ [.nop r, .identify r, .negotiate r, .timeQuery r] → r.ringOk = true → exec c s = .next t →
    SameUnits { s with ports := t.ports } t ∧ ((∀ c n, r.src ≠ .snl c n) → t.ports = s.ports) ∧
    t.parts = s.parts ∧ t.time = s.time ∧ t.power = s.power ∧ t.mesh = s.mesh ∧ t.boot = s.boot ∧
    t.jobs = s.jobs ∧ t.fet = s.fet)
end

