-- ==== Sys2Proof/Laws/Access.lean ====
section
/-!
SUPPORT. Laws/Access.lean: which window the registers of the table's access rows lie in, and what a write that lands does.
-/
namespace Sys2Proof.Machine

theorem winOf_queue {e q r : Nat} (he : e < 2) (hq : q < 8) (hr : r < 0x1000) :
    winOf (0x8000 + 0x1000000 * e + 0x1000 * q + r) = (.queue e q, r) := by
  have h : e = 0 ∨ e = 1 := by omega
  rcases h with rfl | rfl
  · unfold winOf
    rw [if_neg (by omega), if_pos (by omega)]
    congr 2
    · omega
    · omega
  · unfold winOf
    iterate 15 rw [if_neg (by omega)]
    rw [if_pos (by omega)]
    congr 2
    · omega
    · omega

theorem winOf_cell {f c r : Nat} (hf : f < 88) (hc : c < 72) (hr : r < 0x100) :
    winOf (0x808000 + 0x10000 * f + 0x100 * c + r) = (.cell f c, r) := by
  unfold winOf
  iterate 13 rw [if_neg (by omega)]
  rw [if_pos (by omega)]
  simp only
  rw [if_neg (by omega), if_neg (by omega), if_neg (by omega), if_pos (by omega)]
  congr 2
  · omega
  · omega
  · omega

theorem winOf_field {f r : Nat} (hf : f < 88) (hr : r < 0x1000) : winOf (0x800000 + 0x10000 * f + r) = (.field f, r) := by
  unfold winOf
  iterate 13 rw [if_neg (by omega)]
  rw [if_pos (by omega)]
  simp only
  rw [if_pos (by omega)]
  congr 2
  · omega
  · omega

theorem winOf_fieldMesh {f r : Nat} (hf : f < 88) (h1 : 0x1000 ≤ r) (h2 : r < 0x2000) :
    winOf (0x800000 + 0x10000 * f + r) = (.fieldMesh f, r) := by
  unfold winOf
  iterate 13 rw [if_neg (by omega)]
  rw [if_pos (by omega)]
  simp only
  rw [if_neg (by omega), if_pos (by omega)]
  congr 2
  · omega
  · omega

theorem winOf_fieldTier {f r : Nat} (hf : f < 88) (h1 : 0x2000 ≤ r) (h2 : r < 0x3000) :
    winOf (0x800000 + 0x10000 * f + r) = (.fieldTier f, r) := by
  unfold winOf
  iterate 13 rw [if_neg (by omega)]
  rw [if_pos (by omega)]
  simp only
  rw [if_neg (by omega), if_neg (by omega), if_pos (by omega)]
  congr 2
  · omega
  · omega

theorem winOf_vault {v r : Nat} (hv : v < 12) (hr : r < 0x8000) : winOf (0x200000 + 0x10000 * v + r) = (.vault v, r) := by
  unfold winOf
  iterate 11 rw [if_neg (by omega)]
  rw [if_pos (by omega)]
  simp only
  rw [if_pos (by omega)]
  congr 2
  · omega
  · omega

theorem winOf_upd {v r : Nat} (hv : v < 12) (h1 : 0x8000 ≤ r) (h2 : r < 0x10000) :
    winOf (0x200000 + 0x10000 * v + r) = (.upd v, r) := by
  unfold winOf
  iterate 11 rw [if_neg (by omega)]
  rw [if_pos (by omega)]
  simp only
  rw [if_neg (by omega)]
  congr 2
  · omega
  · omega

theorem winOf_port {n r : Nat} (hn : n < 64) (hr : r < 0x1000) : winOf (0x100000 + 0x1000 * n + r) = (.port n, r) := by
  unfold winOf
  iterate 8 rw [if_neg (by omega)]
  rw [if_pos (by omega)]
  congr 2
  · omega
  · omega

theorem winOf_eru {n r : Nat} (hn : n < 64) (hr : r < 0x1000) : winOf (0x140000 + 0x1000 * n + r) = (.eru n, r) := by
  unfold winOf
  iterate 8 rw [if_neg (by omega)]
  rw [if_neg (by omega), if_pos (by omega)]
  congr 2
  · omega
  · omega

theorem winOf_clock {f : Nat} (hf : f < 88) : winOf (0x28000 + 16 * f) = (.time, 0x8000 + 16 * f) := by
  unfold winOf
  rw [if_neg (by omega), if_neg (by omega), if_neg (by omega), if_pos (by omega)]
  exact Prod.ext rfl (by simp only; omega)

/-- A write of a word that lands: the register holds it, then what it sets off. -/
theorem busWrite_lands {via : Path} {off reg : Nat} {w : Word} {ok : Bool} {s : State} (h : Lands via off reg w s)
    (hp : writeHere via reg w ok s = writePlain via reg w ok s) :
    busWrite via off 4 w.toNat ok s
      = writeEffect reg w (queueWas s reg) ok (s.wr reg (writtenWord s reg (stateLoad s reg w))) := by
  have hl : (s.boot.rwlLocked && accMask .rwl reg != 0) = false := by
    rcases h.unlocked with e | e <;> simp [e]
  simp only [busWrite, h.up, h.unlatched, writeReg, h.aligned, accessWrite, h.passed, h.answered, h.placed, Bool.not_true,
    Bool.or_false, Bool.false_eq_true, if_false, and_self, if_true, BitVec.ofNat_toNat, BitVec.setWidth_eq, hp, writePlain, hl,
    h.quiet]

/-- A write that lands where the register is no exception of `writeHere`. -/
theorem writeHere_plain {via : Path} {reg r : Nat} {x : Win} {w : Word} {ok : Bool} {s : State} (hr : writeRefused s reg w = false)
    (hw : winOf reg = (x, r)) (h1 : x = .chitin → r ≠ 0x10) (h2 : ∀ n, x = .eru n → r < 0x800)
    (h3 : ∀ v, x = .upd v → r < 0x8100) : writeHere via reg w ok s = writePlain via reg w ok s := by
  unfold writeHere
  rw [hr, hw]
  simp only [Bool.false_eq_true, if_false]
  split
  · next e => cases e; exact absurd rfl (h1 rfl)
  · next e => cases e; rw [if_neg (by have := h2 _ rfl; omega)]
  · next e => cases e; rw [if_neg (by have := h3 _ rfl; omega)]
  · rfl

end Sys2Proof.Machine
end

