-- ==== Sys2Proof/Laws/Maps.lean ====
section
/-!
SUPPORT. Laws/Maps.lean: what reading a sparse table gives after a write, and that every operation on a table keeps its
canonical form (keys strictly rising, no entry equal to the default).
-/
namespace Sys2Proof.Machine

variable {α : Type} [DecidableEq α] {d : Nat → α}

theorem AMap.get_cons_same (k : Nat) (v : α) (m : AMap α) (h : AMap.get d m k = d k) : AMap.get d (AMap.cons d k v m) k = v := by
  unfold AMap.cons
  split
  · next e => rw [h, e]
  · simp [AMap.get]

theorem AMap.get_cons_other (k j : Nat) (v : α) (m : AMap α) (h : j ≠ k) :
    AMap.get d (AMap.cons d k v m) j = AMap.get d m j := by
  unfold AMap.cons
  split
  · rfl
  · simp [AMap.get, h]

omit [DecidableEq α] in
/-- A key below every key of a table is not listed. -/
theorem AMap.get_above (k : Nat) (m : AMap α) (h : AMap.above k m = true) (j : Nat) (hj : j ≤ k) : AMap.get d m j = d j := by
  induction m with
  | nil => rfl
  | cons e m ih =>
    obtain ⟨i, w⟩ := e
    simp only [AMap.above, Bool.and_eq_true, decide_eq_true_eq] at h
    have hji : j ≠ i := by omega
    simp only [AMap.get, hji, if_false]
    exact ih h.2

omit [DecidableEq α] in
theorem AMap.above_mono {k j : Nat} {m : AMap α} (h : AMap.above k m = true) (hj : j ≤ k) : AMap.above j m = true := by
  induction m with
  | nil => rfl
  | cons e m ih =>
    obtain ⟨i, w⟩ := e
    simp only [AMap.above, Bool.and_eq_true, decide_eq_true_eq] at h ⊢
    exact ⟨by omega, ih h.2⟩

/-- Reading the key just written. -/
theorem AMap.get_put_same (m : AMap α) (k : Nat) (v : α) (hm : AMap.wf d m = true) : AMap.get d (AMap.put d m k v) k = v := by
  induction m with
  | nil => exact AMap.get_cons_same k v [] rfl
  | cons e m ih =>
    obtain ⟨i, w⟩ := e
    simp only [AMap.wf, Bool.and_eq_true] at hm
    unfold AMap.put
    split
    · next hk =>
      apply AMap.get_cons_same
      have hki : k ≠ i := by omega
      simp only [AMap.get, hki, if_false]
      exact AMap.get_above i m hm.1.2 k (by omega)
    · split
      · next _ hk => subst hk; exact AMap.get_cons_same k v m (AMap.get_above k m hm.1.2 k (Nat.le_refl k))
      · next _ hk => simp only [AMap.get, hk, if_false]; exact ih hm.2

/-- Reading any other key. -/
theorem AMap.get_put_other (m : AMap α) (k j : Nat) (v : α) (h : j ≠ k) (hm : AMap.wf d m = true) :
    AMap.get d (AMap.put d m k v) j = AMap.get d m j := by
  induction m with
  | nil => exact AMap.get_cons_other k j v [] h
  | cons e m ih =>
    obtain ⟨i, w⟩ := e
    simp only [AMap.wf, Bool.and_eq_true] at hm
    unfold AMap.put
    split
    · exact AMap.get_cons_other k j v _ h
    · split
      · next _ hk => subst hk; rw [AMap.get_cons_other k j v m h]; simp [AMap.get, h]
      · simp only [AMap.get]; split
        · rfl
        · exact ih hm.2

theorem AMap.above_put {i k : Nat} {v : α} {m : AMap α} (h : AMap.above i m = true) (hk : i < k) :
    AMap.above i (AMap.put d m k v) = true := by
  induction m with
  | nil => unfold AMap.put AMap.cons; split <;> simp [AMap.above, hk]
  | cons e m ih =>
    obtain ⟨j, w⟩ := e
    simp only [AMap.above, Bool.and_eq_true, decide_eq_true_eq] at h
    unfold AMap.put
    split
    · unfold AMap.cons; split <;> simp [AMap.above, hk, h]
    · split
      · unfold AMap.cons; split <;> simp [AMap.above, hk, h.2]
      · simp [AMap.above, h.1, ih h.2]

theorem AMap.wf_cons {k : Nat} {v : α} {m : AMap α} (hm : AMap.wf d m = true) (hk : AMap.above k m = true) :
    AMap.wf d (AMap.cons d k v m) = true := by
  unfold AMap.cons
  split
  · exact hm
  · next h => simp [AMap.wf, hm, hk, h]

/-- A write keeps the canonical form. -/
theorem AMap.wf_put {m : AMap α} (k : Nat) (v : α) (hm : AMap.wf d m = true) : AMap.wf d (AMap.put d m k v) = true := by
  induction m with
  | nil => exact AMap.wf_cons rfl rfl
  | cons e m ih =>
    obtain ⟨i, w⟩ := e
    have hm' := hm
    simp only [AMap.wf, Bool.and_eq_true] at hm'
    unfold AMap.put
    split
    · next hk =>
      refine AMap.wf_cons hm ?_
      simp only [AMap.above, Bool.and_eq_true, decide_eq_true_eq]
      exact ⟨hk, AMap.above_mono hm'.1.2 (by omega)⟩
    · split
      · next _ hk => subst hk; exact AMap.wf_cons hm'.2 hm'.1.2
      · next h1 h2 =>
        simp only [AMap.wf, Bool.and_eq_true]
        exact ⟨⟨hm'.1.1, AMap.above_put hm'.1.2 (by omega)⟩, ih hm'.2⟩

omit [DecidableEq α] in
theorem AMap.above_filter {k : Nat} {m : AMap α} (p : Nat × α → Bool) (h : AMap.above k m = true) :
    AMap.above k (m.filter p) = true := by
  induction m with
  | nil => rfl
  | cons e m ih =>
    obtain ⟨i, w⟩ := e
    simp only [AMap.above, Bool.and_eq_true] at h
    simp only [List.filter_cons]
    split
    · simp only [AMap.above, Bool.and_eq_true]; exact ⟨h.1, ih h.2⟩
    · exact ih h.2

/-- Dropping entries keeps the canonical form. -/
theorem AMap.wf_filter {m : AMap α} (p : Nat × α → Bool) (hm : AMap.wf d m = true) : AMap.wf d (m.filter p) = true := by
  induction m with
  | nil => rfl
  | cons e m ih =>
    obtain ⟨i, w⟩ := e
    simp only [AMap.wf, Bool.and_eq_true] at hm
    simp only [List.filter_cons]
    split
    · simp only [AMap.wf, Bool.and_eq_true]
      exact ⟨⟨hm.1.1, AMap.above_filter p hm.1.2⟩, ih hm.2⟩
    · exact ih hm.2

/-- A memory keeps its canonical form under one byte's store, under a run of bytes and under zeroing. -/
theorem Mem.wf_wr {m : Mem} (a : Nat) (b : Byte) (hm : Mem.wf m = true) : Mem.wf (Mem.wr m a b) = true := AMap.wf_put a b hm

theorem Mem.wf_wrN (l : List Byte) {m : Mem} (a : Nat) (hm : Mem.wf m = true) : Mem.wf (Mem.wrN m a l) = true := by
  induction l generalizing m a with
  | nil => exact hm
  | cons b l ih => exact ih (a + 1) (Mem.wf_wr a b hm)

theorem Mem.wf_clear {m : Mem} (lo hi : Nat) (hm : Mem.wf m = true) : Mem.wf (Mem.clear m lo hi) = true := AMap.wf_filter _ hm

/-- A byte stored is the byte read; every other byte reads as before. -/
theorem Mem.rd_wr_same (m : Mem) (a : Nat) (b : Byte) (hm : Mem.wf m = true) : Mem.rd (Mem.wr m a b) a = b :=
  AMap.get_put_same m a b hm

theorem Mem.rd_wr_other (m : Mem) (a c : Nat) (b : Byte) (h : c ≠ a) (hm : Mem.wf m = true) :
    Mem.rd (Mem.wr m a b) c = Mem.rd m c := AMap.get_put_other m a c b h hm

/-- Bytes outside a stored run read as before. -/
theorem Mem.rd_wrN_other (l : List Byte) (m : Mem) (a c : Nat) (h : c < a ∨ a + l.length ≤ c) (hm : Mem.wf m = true) : Mem.rd (Mem.wrN m a l) c = Mem.rd m c := by
  induction l generalizing m a with
  | nil => rfl
  | cons b l ih =>
    simp only [List.length_cons] at h
    rw [Mem.wrN, ih _ _ (by omega) (Mem.wf_wr a b hm), Mem.rd_wr_other _ _ _ _ (by omega) hm]

/-- A stored run reads back. -/
theorem Mem.rdN_wrN (l : List Byte) (m : Mem) (a : Nat) (hm : Mem.wf m = true) : Mem.rdN (Mem.wrN m a l) a l.length = l := by
  induction l generalizing m a with
  | nil => rfl
  | cons b l ih =>
    simp only [List.length_cons, Mem.rdN, Mem.wrN, ih _ _ (Mem.wf_wr a b hm)]
    rw [Mem.rd_wrN_other _ _ _ _ (by omega) (Mem.wf_wr a b hm), Mem.rd_wr_same _ _ _ hm]

/-- Canonical tables that read alike are equal. -/
theorem AMap.ext (m k : AMap α) (hm : AMap.wf d m = true) (hk : AMap.wf d k = true)
    (h : ∀ a, AMap.get d m a = AMap.get d k a) : m = k := by
  induction m generalizing k with
  | nil =>
    cases k with
    | nil => rfl
    | cons e k =>
      obtain ⟨j, w⟩ := e
      have := h j
      simp [AMap.get] at this
      simp [AMap.wf] at hk
      exact absurd this.symm hk.1.1
  | cons e m ih =>
    obtain ⟨i, v⟩ := e
    cases k with
    | nil =>
      have := h i
      simp [AMap.get] at this
      simp [AMap.wf] at hm
      exact absurd this hm.1.1
    | cons e k =>
      obtain ⟨j, w⟩ := e
      simp only [AMap.wf, Bool.and_eq_true, decide_eq_true_eq] at hm hk
      have hij : i = j := by
        rcases Nat.lt_trichotomy i j with lt | eq | gt
        · have := h i
          simp only [AMap.get, if_true] at this
          rw [if_neg (by omega), AMap.get_above j k hk.1.2 i (by omega)] at this
          exact absurd this hm.1.1
        · exact eq
        · have := h j
          simp only [AMap.get, if_true] at this
          rw [if_neg (by omega), AMap.get_above i m hm.1.2 j (by omega)] at this
          exact absurd this.symm hk.1.1
      subst hij
      have hv : v = w := by have := h i; simpa [AMap.get] using this
      subst hv
      rw [ih k hm.2 hk.2]
      intro a
      by_cases ha : a = i
      · subst ha; rw [AMap.get_above a m hm.1.2 a (Nat.le_refl _), AMap.get_above a k hk.1.2 a (Nat.le_refl _)]
      · have := h a; simpa [AMap.get, ha] using this

/-- Dropping keys leaves the others. -/
theorem AMap.get_filter (p : Nat → Bool) (m : AMap α) (hm : AMap.wf d m = true) (c : Nat) :
    AMap.get d (m.filter (fun e => p e.1)) c = if p c then AMap.get d m c else d c := by
  induction m with
  | nil => simp [AMap.get]
  | cons e m ih =>
    obtain ⟨i, v⟩ := e
    simp only [AMap.wf, Bool.and_eq_true, decide_eq_true_eq] at hm
    simp only [List.filter_cons]
    by_cases hc : c = i
    · subst hc
      by_cases hp : p c = true
      · simp [hp, AMap.get]
      · simp [hp, ih hm.2]
    · by_cases hp : p i = true
      · simp [hp, AMap.get, hc, ih hm.2]
      · simp [hp, AMap.get, hc, ih hm.2]

end Sys2Proof.Machine
end

