-- ==== Sys2Proof/Laws/Keeps.lean ====
section
/-!
SUPPORT. Laws/Keeps.lean: `Keeps` holds of every update the machine makes, and of every way it puts updates together.
-/
namespace Sys2Proof.Machine

theorem Keeps.refl (s : State) : Keeps s s := ⟨rfl, List.prefix_refl _, Nat.le_refl _, id⟩

theorem Keeps.trans {a b c : State} (h : Keeps a b) (k : Keeps b c) : Keeps a c :=
  ⟨k.pending.trans h.pending, h.out.trans k.out, Nat.le_trans h.free k.free, fun x => k.canon (h.canon x)⟩

/-- An update of fields that `Keeps` does not speak of. -/
theorem Keeps.upd {a s : State} {fet latches queues mgmtDropped jobs log injects time boot power mgr bus mesh}
    (h : Keeps a s) :
    Keeps a ⟨s.pending, fet, s.regs, latches, queues, mgmtDropped, s.rings, jobs, s.parts, log, injects, time, s.cicada, boot,
      power, mgr, bus, s.fields, s.vaults, s.ports, s.cells, s.nis, mesh, s.erus, s.out, s.freeIdx⟩ :=
  h.trans ⟨rfl, List.prefix_refl _, Nat.le_refl _, fun c => ⟨c.1, c.2, c.3, c.4, c.5, c.6, c.7, c.8, c.9, c.10⟩⟩

/-- An update of fields that `Keeps` does not speak of may be taken off. -/
theorem Keeps.upd_iff {a s : State} {fet latches queues mgmtDropped jobs log injects time boot power mgr bus mesh} :
    Keeps a ⟨s.pending, fet, s.regs, latches, queues, mgmtDropped, s.rings, jobs, s.parts, log, injects, time, s.cicada, boot,
      power, mgr, bus, s.fields, s.vaults, s.ports, s.cells, s.nis, mesh, s.erus, s.out, s.freeIdx⟩ ↔ Keeps a s :=
  ⟨fun h => h.trans ⟨rfl, List.prefix_refl _, Nat.le_refl _, fun c => ⟨c.1, c.2, c.3, c.4, c.5, c.6, c.7, c.8, c.9, c.10⟩⟩, Keeps.upd⟩

/-- An update of any field: each table's new value is canonical if the old one was, the output grows, the counter too. -/
theorem Keeps.updAll {a s : State} {fet regs latches queues mgmtDropped rings jobs parts log injects time cicada boot power mgr
    bus fields vaults ports cells nis mesh erus out freeIdx} (h : Keeps a s)
    (o : s.out <+: out) (f : s.freeIdx ≤ freeIdx)
    (h1 : AMap.wf regDflt s.regs = true → AMap.wf regDflt regs = true)
    (h2 : AMap.wf (fun _ => {}) s.rings = true → AMap.wf (fun _ => {}) rings = true)
    (h3 : AMap.wf (fun _ => {}) s.parts = true → AMap.wf (fun _ => {}) parts = true)
    (h4 : AMap.wf (fun _ => {}) s.cicada = true → AMap.wf (fun _ => {}) cicada = true)
    (h5 : AMap.wf (fun _ => {}) s.fields = true → AMap.wf (fun _ => {}) fields = true)
    (h6 : AMap.wf (fun _ => {}) s.vaults = true → AMap.wf (fun _ => {}) vaults = true)
    (h7 : AMap.wf (fun _ => {}) s.ports = true → AMap.wf (fun _ => {}) ports = true)
    (h8 : AMap.wf (fun _ => {}) s.cells = true → AMap.wf (fun _ => {}) cells = true)
    (h9 : AMap.wf (fun _ => {}) s.nis = true → AMap.wf (fun _ => {}) nis = true)
    (h10 : AMap.wf (fun _ => {}) s.erus = true → AMap.wf (fun _ => {}) erus = true) :
    Keeps a ⟨s.pending, fet, regs, latches, queues, mgmtDropped, rings, jobs, parts, log, injects, time, cicada, boot,
      power, mgr, bus, fields, vaults, ports, cells, nis, mesh, erus, out, freeIdx⟩ :=
  h.trans ⟨rfl, o, f, fun c => ⟨h1 c.1, h2 c.2, h3 c.3, h4 c.4, h5 c.5, h6 c.6, h7 c.7, h8 c.8, h9 c.9, h10 c.10⟩⟩

theorem Keeps.unchanged {a s : State} (h : Keeps a s) : Keeps a (id s) := h

theorem Keeps.of_snd {α : Type} {a s : State} {p : α × State} {l : α} (e : p = (l, s)) (h : Keeps a p.2) : Keeps a s := by
  subst e; exact h

theorem Keeps.of_third {α β : Type} {a s : State} {p : α × β × State} {l : α} {m : β} (e : p = (l, m, s))
    (h : Keeps a p.2.2) : Keeps a s := by
  subst e; exact h

theorem Keeps.of_fst {α : Type} {a s : State} {p : State × α} {l : α} (e : p = (s, l)) (h : Keeps a p.1) : Keeps a s := by
  subst e; exact h

theorem Keeps.ite {a s t : State} {p : Prop} [Decidable p] (h : Keeps a s) (k : Keeps a t) : Keeps a (if p then s else t) := by
  split
  · exact h
  · exact k

theorem Keeps.ite_snd {α : Type} {a : State} {x y : α × State} {p : Prop} [Decidable p] (h : Keeps a x.2) (k : Keeps a y.2) :
    Keeps a (if p then x else y).2 := by
  split
  · exact h
  · exact k

theorem Keeps.foldl {α : Type} {a s : State} {g : State → α → State} {l : List α} (h : Keeps a s)
    (k : ∀ t e, Keeps a t → Keeps a (g t e)) : Keeps a (l.foldl g s) := by
  induction l generalizing s with
  | nil => exact h
  | cons e l ih => exact ih (k s e h)

/-- A fold that carries a state beside what it gathers. -/
theorem Keeps.foldl_snd {α β : Type} {s0 : State} {g : β × State → α → β × State} {l : List α} {x : β × State}
    (h : Keeps s0 x.2) (k : ∀ t e, Keeps s0 t.2 → Keeps s0 (g t e).2) : Keeps s0 (l.foldl g x).2 := by
  induction l generalizing x with
  | nil => exact h
  | cons e l ih => exact ih (k x e h)

theorem Keeps.foldl_third {α β γ : Type} {s0 : State} {g : β × γ × State → α → β × γ × State} {l : List α} {x : β × γ × State}
    (h : Keeps s0 x.2.2) (k : ∀ t e, Keeps s0 t.2.2 → Keeps s0 (g t e).2.2) : Keeps s0 (l.foldl g x).2.2 := by
  induction l generalizing x with
  | nil => exact h
  | cons e l ih => exact ih (k x e h)

theorem Keeps.forEach {a s : State} {l : List Nat} {g : Nat → State → State} (h : Keeps a s)
    (k : ∀ e t, Keeps a t → Keeps a (g e t)) : Keeps a (s.forEach l g) := Keeps.foldl h (fun t e => k e t)

theorem wf_nil {α : Type} [DecidableEq α] {d : Nat → α} {p : Prop} : p → AMap.wf d ([] : AMap α) = true := fun _ => rfl

theorem wf_put_imp {α : Type} [DecidableEq α] {d : Nat → α} {m n : AMap α} {k : Nat} {v : α}
    (h : AMap.wf d n = true → AMap.wf d m = true) : AMap.wf d n = true → AMap.wf d (AMap.put d m k v) = true :=
  fun x => AMap.wf_put k v (h x)

theorem wf_filter_imp {α : Type} [DecidableEq α] {d : Nat → α} {m n : AMap α} {p : Nat × α → Bool}
    (h : AMap.wf d n = true → AMap.wf d m = true) : AMap.wf d n = true → AMap.wf d (m.filter p) = true :=
  fun x => AMap.wf_filter p (h x)

theorem wf_of_nil {α : Type} [DecidableEq α] {d : Nat → α} {m : AMap α} (h : m = []) {p : Prop} : p → AMap.wf d m = true :=
  fun _ => h ▸ rfl

theorem wf_mapVals {α : Type} [DecidableEq α] {d : Nat → α} {f : α → α} {m : AMap α} {p : Prop} :
    p → AMap.wf d (AMap.mapVals d f m) = true := by
  intro _
  have key : ∀ (l a : AMap α), AMap.wf d a = true → AMap.wf d (l.foldl (fun a e => AMap.put d a e.1 (f e.2)) a) = true := by
    intro l
    induction l with
    | nil => exact fun _ h => h
    | cons e l ih => exact fun a h => ih _ (AMap.wf_put _ _ h)
  exact key m [] rfl

/-- What an opcode's checks and effect answer keeps: the state it carries, and what follows its reply. -/
inductive AnsKeeps (s0 : State) : Ans → Prop
  | done {s : State} {st r} (h : Keeps s0 s) : AnsKeeps s0 (.done st r s)
  | later {s : State} {w} (h : Keeps s0 s) : AnsKeeps s0 (.later w s)
  | silent {s : State} {w} (h : Keeps s0 s) : AnsKeeps s0 (.silent w s)
  | decided {s : State} {w st r} (h : Keeps s0 s) : AnsKeeps s0 (.decided w st r s)
  | doneThen {s : State} {st f} (h : Keeps s0 s) (k : ∀ t, Keeps s0 t → Keeps s0 (f t)) : AnsKeeps s0 (.doneThen st f s)
  | retry : AnsKeeps s0 .retry

theorem AnsKeeps.of_later {s0 t : State} {x : Ans} {w : Work} (e : x = .later w t) (h : AnsKeeps s0 x) : Keeps s0 t := by
  subst e
  cases h
  assumption

theorem AnsKeeps.ite {a : State} {x y : Ans} {p : Prop} [Decidable p] (h : AnsKeeps a x) (k : AnsKeeps a y) :
    AnsKeeps a (if p then x else y) := by
  split
  · exact h
  · exact k

end Sys2Proof.Machine
end

