-- ==== Sys2Proof/Laws/KeepsOps.lean ====
section
/-!
SUPPORT. Laws/KeepsOps.lean: each state transformer of Machine/Ops.lean keeps what `Keeps` says: the queue of waiting
commands, what was emitted, the counter of free values, the canonical form of every table.
-/
set_option linter.unusedTactic false
set_option linter.unreachableTactic false
set_option linter.unusedSimpArgs false
namespace Sys2Proof.Machine

theorem State.wr_keeps {s0 : State} {s : State} {off : Nat} {w : Word} (hs : Keeps s0 s) : Keeps s0 (State.wr s off w) := by
  unfold State.wr
  repeat' (first
    | (with_reducible assumption) | (with_reducible exact wf_nil) | (with_reducible exact wf_mapVals) | (intro _)
    | (simp only [↓Keeps.upd_iff]) | (with_reducible apply Keeps.updAll) | (with_reducible exact List.prefix_refl _)
    | (with_reducible exact List.prefix_append _ _) | (with_reducible exact Nat.le_refl _)
    | (with_reducible exact Nat.le_succ _) | (with_reducible exact Nat.le_add_right _ _) | (with_reducible exact id)
    | (with_reducible apply wf_put_imp) | (with_reducible apply wf_filter_imp) | (split) | (dsimp only))

theorem State.set_keeps {s0 : State} {s : State} {f : Fld} {v : Nat} (hs : Keeps s0 s) : Keeps s0 (State.set s f v) := by
  unfold State.set
  repeat' (first
    | (with_reducible assumption) | (intro _) | (with_reducible apply State.wr_keeps) | (split) | (dsimp only))

theorem State.count_keeps {s0 : State} {s : State} {f : Fld} {n : Nat} (hs : Keeps s0 s) : Keeps s0 (State.count s f n) := by
  unfold State.count
  repeat' (first
    | (with_reducible assumption) | (intro _) | (with_reducible apply State.set_keeps) | (split) | (dsimp only))

theorem State.emit_keeps {s0 : State} {s : State} {o : Output} (hs : Keeps s0 s) : Keeps s0 (State.emit s o) := by
  unfold State.emit
  repeat' (first
    | (with_reducible assumption) | (with_reducible exact wf_nil) | (with_reducible exact wf_mapVals) | (intro _)
    | (simp only [↓Keeps.upd_iff]) | (with_reducible apply Keeps.updAll) | (with_reducible exact List.prefix_refl _)
    | (with_reducible exact List.prefix_append _ _) | (with_reducible exact Nat.le_refl _)
    | (with_reducible exact Nat.le_succ _) | (with_reducible exact Nat.le_add_right _ _) | (with_reducible exact id)
    | (with_reducible apply wf_put_imp) | (with_reducible apply wf_filter_imp) | (split) | (dsimp only))

theorem State.free_keeps {s0 : State} {s : State} (hs : Keeps s0 s) : Keeps s0 (State.free s).2 := by
  unfold State.free
  repeat' (first
    | (with_reducible assumption) | (with_reducible exact wf_nil) | (with_reducible exact wf_mapVals) | (intro _)
    | (simp only [↓Keeps.upd_iff]) | (with_reducible apply Keeps.updAll) | (with_reducible exact List.prefix_refl _)
    | (with_reducible exact List.prefix_append _ _) | (with_reducible exact Nat.le_refl _)
    | (with_reducible exact Nat.le_succ _) | (with_reducible exact Nat.le_add_right _ _) | (with_reducible exact id)
    | (with_reducible apply wf_put_imp) | (with_reducible apply wf_filter_imp) | (split) | (dsimp only))

theorem State.high_keeps {s0 : State} {s : State} {f : Fld} {v : Nat} (hs : Keeps s0 s) : Keeps s0 (State.high s f v) := by
  unfold State.high
  repeat' (first
    | (with_reducible assumption) | (intro _) | (with_reducible apply Keeps.ite) | (with_reducible apply State.set_keeps)
    | (split) | (dsimp only))

theorem State.setVault_keeps {s0 : State} {s : State} {v : Nat} {d : VaultState} (hs : Keeps s0 s)
    : Keeps s0 (State.setVault s v d) := by
  unfold State.setVault
  repeat' (first
    | (with_reducible assumption) | (with_reducible exact wf_nil) | (with_reducible exact wf_mapVals) | (intro _)
    | (simp only [↓Keeps.upd_iff]) | (with_reducible apply Keeps.updAll) | (with_reducible exact List.prefix_refl _)
    | (with_reducible exact List.prefix_append _ _) | (with_reducible exact Nat.le_refl _)
    | (with_reducible exact Nat.le_succ _) | (with_reducible exact Nat.le_add_right _ _) | (with_reducible exact id)
    | (with_reducible apply wf_put_imp) | (with_reducible apply wf_filter_imp) | (split) | (dsimp only))

theorem State.journal_keeps {s0 : State} {s : State} {r : JournalRec} (hs : Keeps s0 s) : Keeps s0 (State.journal s r) := by
  unfold State.journal
  repeat' (first
    | (with_reducible assumption) | (intro _) | (with_reducible apply Keeps.ite)
    | (with_reducible apply State.setVault_keeps) | (split) | (dsimp only))

theorem State.resetRegs_keeps {s0 : State} {s : State} {lo : Nat} {hi : Nat} (hs : Keeps s0 s)
    : Keeps s0 (State.resetRegs s lo hi) := by
  unfold State.resetRegs
  repeat' (first
    | (with_reducible assumption) | (with_reducible exact wf_nil) | (with_reducible exact wf_mapVals) | (intro _)
    | (simp only [↓Keeps.upd_iff]) | (with_reducible apply Keeps.updAll) | (with_reducible exact List.prefix_refl _)
    | (with_reducible exact List.prefix_append _ _) | (with_reducible exact Nat.le_refl _)
    | (with_reducible exact Nat.le_succ _) | (with_reducible exact Nat.le_add_right _ _) | (with_reducible exact id)
    | (with_reducible apply wf_put_imp) | (with_reducible apply wf_filter_imp) | (split) | (dsimp only))

theorem State.setCell_keeps {s0 : State} {s : State} {f : Nat} {pos : Nat} {c : CellState} (hs : Keeps s0 s)
    : Keeps s0 (State.setCell s f pos c) := by
  unfold State.setCell
  repeat' (first
    | (with_reducible assumption) | (with_reducible exact wf_nil) | (with_reducible exact wf_mapVals) | (intro _)
    | (simp only [↓Keeps.upd_iff]) | (with_reducible apply Keeps.updAll) | (with_reducible exact List.prefix_refl _)
    | (with_reducible exact List.prefix_append _ _) | (with_reducible exact Nat.le_refl _)
    | (with_reducible exact Nat.le_succ _) | (with_reducible exact Nat.le_add_right _ _) | (with_reducible exact id)
    | (with_reducible apply wf_put_imp) | (with_reducible apply wf_filter_imp) | (split) | (dsimp only))

theorem State.setCic_keeps {s0 : State} {s : State} {n : Nat} {d : CicadaPort} (hs : Keeps s0 s)
    : Keeps s0 (State.setCic s n d) := by
  unfold State.setCic
  repeat' (first
    | (with_reducible assumption) | (with_reducible exact wf_nil) | (with_reducible exact wf_mapVals) | (intro _)
    | (simp only [↓Keeps.upd_iff]) | (with_reducible apply Keeps.updAll) | (with_reducible exact List.prefix_refl _)
    | (with_reducible exact List.prefix_append _ _) | (with_reducible exact Nat.le_refl _)
    | (with_reducible exact Nat.le_succ _) | (with_reducible exact Nat.le_add_right _ _) | (with_reducible exact id)
    | (with_reducible apply wf_put_imp) | (with_reducible apply wf_filter_imp) | (split) | (dsimp only))

theorem State.setEru_keeps {s0 : State} {s : State} {n : Nat} {d : EruState} (hs : Keeps s0 s)
    : Keeps s0 (State.setEru s n d) := by
  unfold State.setEru
  repeat' (first
    | (with_reducible assumption) | (with_reducible exact wf_nil) | (with_reducible exact wf_mapVals) | (intro _)
    | (simp only [↓Keeps.upd_iff]) | (with_reducible apply Keeps.updAll) | (with_reducible exact List.prefix_refl _)
    | (with_reducible exact List.prefix_append _ _) | (with_reducible exact Nat.le_refl _)
    | (with_reducible exact Nat.le_succ _) | (with_reducible exact Nat.le_add_right _ _) | (with_reducible exact id)
    | (with_reducible apply wf_put_imp) | (with_reducible apply wf_filter_imp) | (split) | (dsimp only))

theorem State.setField_keeps {s0 : State} {s : State} {f : Nat} {d : FieldState} (hs : Keeps s0 s)
    : Keeps s0 (State.setField s f d) := by
  unfold State.setField
  repeat' (first
    | (with_reducible assumption) | (with_reducible exact wf_nil) | (with_reducible exact wf_mapVals) | (intro _)
    | (simp only [↓Keeps.upd_iff]) | (with_reducible apply Keeps.updAll) | (with_reducible exact List.prefix_refl _)
    | (with_reducible exact List.prefix_append _ _) | (with_reducible exact Nat.le_refl _)
    | (with_reducible exact Nat.le_succ _) | (with_reducible exact Nat.le_add_right _ _) | (with_reducible exact id)
    | (with_reducible apply wf_put_imp) | (with_reducible apply wf_filter_imp) | (split) | (dsimp only))

theorem State.setNi_keeps {s0 : State} {s : State} {f : Nat} {node : Nat} {d : NiState} (hs : Keeps s0 s)
    : Keeps s0 (State.setNi s f node d) := by
  unfold State.setNi
  repeat' (first
    | (with_reducible assumption) | (with_reducible exact wf_nil) | (with_reducible exact wf_mapVals) | (intro _)
    | (simp only [↓Keeps.upd_iff]) | (with_reducible apply Keeps.updAll) | (with_reducible exact List.prefix_refl _)
    | (with_reducible exact List.prefix_append _ _) | (with_reducible exact Nat.le_refl _)
    | (with_reducible exact Nat.le_succ _) | (with_reducible exact Nat.le_add_right _ _) | (with_reducible exact id)
    | (with_reducible apply wf_put_imp) | (with_reducible apply wf_filter_imp) | (split) | (dsimp only))

theorem State.setPart_keeps {s0 : State} {s : State} {p : Nat} {d : PartData} (hs : Keeps s0 s)
    : Keeps s0 (State.setPart s p d) := by
  unfold State.setPart
  repeat' (first
    | (with_reducible assumption) | (with_reducible exact wf_nil) | (with_reducible exact wf_mapVals) | (intro _)
    | (simp only [↓Keeps.upd_iff]) | (with_reducible apply Keeps.updAll) | (with_reducible exact List.prefix_refl _)
    | (with_reducible exact List.prefix_append _ _) | (with_reducible exact Nat.le_refl _)
    | (with_reducible exact Nat.le_succ _) | (with_reducible exact Nat.le_add_right _ _) | (with_reducible exact id)
    | (with_reducible apply wf_put_imp) | (with_reducible apply wf_filter_imp) | (split) | (dsimp only))

theorem State.setPort_keeps {s0 : State} {s : State} {n : Nat} {d : PortState} (hs : Keeps s0 s)
    : Keeps s0 (State.setPort s n d) := by
  unfold State.setPort
  repeat' (first
    | (with_reducible assumption) | (with_reducible exact wf_nil) | (with_reducible exact wf_mapVals) | (intro _)
    | (simp only [↓Keeps.upd_iff]) | (with_reducible apply Keeps.updAll) | (with_reducible exact List.prefix_refl _)
    | (with_reducible exact List.prefix_append _ _) | (with_reducible exact Nat.le_refl _)
    | (with_reducible exact Nat.le_succ _) | (with_reducible exact Nat.le_add_right _ _) | (with_reducible exact id)
    | (with_reducible apply wf_put_imp) | (with_reducible apply wf_filter_imp) | (split) | (dsimp only))

theorem State.when_keeps {s0 : State} {s : State} {b : Bool} {f : State → State} (hs : Keeps s0 s)
    (hf : ∀ x0, Keeps s0 x0 → Keeps s0 (f x0)) : Keeps s0 (State.when s b f) := by
  unfold State.when
  repeat' (first
    | (with_reducible assumption) | (intro _) | (with_reducible apply Keeps.ite) | (with_reducible apply hf) | (split)
    | (dsimp only))

theorem setPartState_keeps {s0 : State} {s : State} {p : Nat} {st : Nat} (hs : Keeps s0 s)
    : Keeps s0 (setPartState s p st) := by
  unfold setPartState
  repeat' (first
    | (with_reducible assumption) | (intro _) | (with_reducible apply State.set_keeps) | (split) | (dsimp only))

theorem wrPair_keeps {s0 : State} {s : State} {lo : Nat} {hi : Nat} {v : Nat} (hs : Keeps s0 s)
    : Keeps s0 (wrPair s lo hi v) := by
  unfold wrPair
  repeat' (first
    | (with_reducible assumption) | (intro _) | (with_reducible apply State.wr_keeps) | (split) | (dsimp only))

theorem markStep_keeps {s0 : State} {p : Nat} {g : StepLog → StepLog} {s : State} (hs : Keeps s0 s)
    : Keeps s0 (markStep p g s) := by
  unfold markStep
  repeat' (first
    | (with_reducible assumption) | (intro _) | (with_reducible apply State.setPart_keeps) | (split) | (dsimp only))

theorem markStepAt_keeps {s0 : State} {p : Nat} {base : Fet} {g : StepLog → StepLog} {s : State} (hs : Keeps s0 s)
    : Keeps s0 (markStepAt p base g s) := by
  unfold markStepAt
  repeat' (first
    | (with_reducible assumption) | (intro _) | (with_reducible apply Keeps.ite)
    | (with_reducible apply State.setPart_keeps) | (split) | (dsimp only))

theorem setPartMask_keeps {s0 : State} {s : State} {p : Nat} {m : Nat} (hs : Keeps s0 s) : Keeps s0 (setPartMask s p m) := by
  unfold setPartMask
  repeat' (first
    | (with_reducible assumption) | (intro _) | (with_reducible apply State.wr_keeps) | (split) | (dsimp only))

theorem flushJournal_keeps {s0 : State} {s : State} (hs : Keeps s0 s) : Keeps s0 (flushJournal s) := by
  unfold flushJournal
  repeat' (first
    | (with_reducible assumption) | (intro _) | (with_reducible apply State.setVault_keeps) | (split) | (dsimp only))

end Sys2Proof.Machine
end

