-- ==== Sys2Proof/Laws/KeepsFrames.lean ====
section
/-!
SUPPORT. Laws/KeepsFrames.lean: each state transformer of Machine/Frames.lean keeps what `Keeps` says: the queue of waiting
commands, what was emitted, the counter of free values, the canonical form of every table.
-/
set_option linter.unusedTactic false
set_option linter.unreachableTactic false
set_option linter.unusedSimpArgs false
namespace Sys2Proof.Machine

theorem enqueue_keeps {s0 : State} {n : Nat} {fr : Frame} {s : State} (hs : Keeps s0 s) : Keeps s0 (enqueue n fr s) := by
  unfold enqueue
  repeat' (first
    | (with_reducible assumption) | (intro _) | (with_reducible apply Keeps.ite) | (with_reducible apply State.count_keeps)
    | (with_reducible apply State.setPort_keeps) | (split) | (dsimp only))

theorem sendFrame_keeps {s0 : State} {fr : Frame} {s : State} (hs : Keeps s0 s) : Keeps s0 (sendFrame fr s) := by
  unfold sendFrame
  repeat' (first
    | (with_reducible assumption) | (intro _) | (with_reducible apply enqueue_keeps) | (split) | (dsimp only))

end Sys2Proof.Machine
end

