-- ==== Sys2Proof/Laws/KeepsSteps.lean ====
section
/-!
SUPPORT. Laws/KeepsSteps.lean: each state transformer of Machine/Steps.lean keeps what `Keeps` says: the queue of waiting
commands, what was emitted, the counter of free values, the canonical form of every table.
-/
set_option linter.unusedTactic false
set_option linter.unreachableTactic false
set_option linter.unusedSimpArgs false
namespace Sys2Proof.Machine

theorem closeSteps_keeps {s0 : State} {p : Nat} {s : State} (hs : Keeps s0 s) : Keeps s0 (closeSteps p s) := by
  unfold closeSteps
  repeat' (first
    | (with_reducible assumption) | (intro _) | (with_reducible apply State.setPart_keeps) | (split) | (dsimp only))

theorem loseSteps_keeps {s0 : State} {p : Nat} {s : State} (hs : Keeps s0 s) : Keeps s0 (loseSteps p s) := by
  unfold loseSteps
  repeat' (first
    | (with_reducible assumption) | (intro _) | (with_reducible apply closeSteps_keeps)
    | (with_reducible apply State.setPart_keeps) | (split) | (dsimp only))

theorem noteUpdated_keeps {s0 : State} {p : Nat} {base : Fet} {v : Nat} {g : Nat} {s : State} (hs : Keeps s0 s)
    : Keeps s0 (noteUpdated p base v g s) := by
  unfold noteUpdated
  repeat' (first
    | (with_reducible assumption) | (intro _) | (with_reducible apply Keeps.ite) | (with_reducible apply markStepAt_keeps)
    | (split) | (dsimp only))

end Sys2Proof.Machine
end

