-- ==== Sys2Proof/Laws/KeepsQuench.lean ====
section
/-!
SUPPORT. Laws/KeepsQuench.lean: each state transformer of Machine/Quench.lean keeps what `Keeps` says: the queue of waiting
commands, what was emitted, the counter of free values, the canonical form of every table.
-/
set_option linter.unusedTactic false
set_option linter.unreachableTactic false
set_option linter.unusedSimpArgs false
namespace Sys2Proof.Machine

theorem State.overRegs_keeps {s0 : State} {s : State} {lo : Nat} {hi : Nat} {f : Nat → Word → Word} (hs : Keeps s0 s)
    : Keeps s0 (State.overRegs s lo hi f) := by
  unfold State.overRegs
  repeat' (first
    | (with_reducible assumption) | (intro _) | (with_reducible apply Keeps.foldl) | (with_reducible apply Keeps.foldl_snd)
    | (with_reducible apply Keeps.foldl_third) | (with_reducible apply State.wr_keeps) | (split) | (dsimp only))

theorem haltHosts_keeps {s0 : State} {f : Nat} {s : State} (hs : Keeps s0 s) : Keeps s0 (haltHosts f s) := by
  unfold haltHosts
  repeat' (first
    | (with_reducible assumption) | (intro _) | (with_reducible apply State.setField_keeps) | (split) | (dsimp only))

theorem dropMovers_keeps {s0 : State} {f : Nat} {s : State} (hs : Keeps s0 s) : Keeps s0 (dropMovers f s) := by
  unfold dropMovers
  repeat' (first
    | (with_reducible assumption) | (intro _) | (with_reducible apply Keeps.ite) | (with_reducible apply State.count_keeps)
    | (with_reducible apply State.setField_keeps) | (with_reducible apply Keeps.forEach)
    | (with_reducible apply State.set_keeps) | (with_reducible apply State.setCell_keeps) | (split) | (dsimp only))

theorem dropPartials_keeps {s0 : State} {f : Nat} {s : State} (hs : Keeps s0 s) : Keeps s0 (dropPartials f s) := by
  unfold dropPartials
  repeat' (first
    | (with_reducible assumption) | (with_reducible exact wf_nil) | (with_reducible exact wf_mapVals) | (intro _)
    | (with_reducible apply Keeps.forEach) | (with_reducible apply State.setNi_keeps) | (simp only [↓Keeps.upd_iff])
    | (with_reducible apply Keeps.updAll) | (with_reducible exact List.prefix_refl _)
    | (with_reducible exact List.prefix_append _ _) | (with_reducible exact Nat.le_refl _)
    | (with_reducible exact Nat.le_succ _) | (with_reducible exact Nat.le_add_right _ _) | (with_reducible exact id)
    | (with_reducible apply wf_put_imp) | (with_reducible apply wf_filter_imp) | (split) | (dsimp only))

theorem stopCells_keeps {s0 : State} {f : Nat} {s : State} (hs : Keeps s0 s) : Keeps s0 (stopCells f s) := by
  unfold stopCells
  repeat' (first
    | (with_reducible assumption) | (intro _) | (with_reducible apply Keeps.forEach)
    | (with_reducible apply State.setCell_keeps) | (with_reducible apply State.set_keeps) | (split) | (dsimp only))

theorem haltSeq_keeps {s0 : State} {f : Nat} {s : State} (hs : Keeps s0 s) : Keeps s0 (haltSeq f s) := by
  unfold haltSeq
  repeat' (first
    | (with_reducible assumption) | (intro _) | (with_reducible apply State.set_keeps) | (split) | (dsimp only))

theorem stopField_keeps {s0 : State} {f : Nat} {s : State} (hs : Keeps s0 s) : Keeps s0 (stopField f s) := by
  unfold stopField
  repeat' (first
    | (with_reducible assumption) | (intro _) | (with_reducible apply dropPartials_keeps)
    | (with_reducible apply stopCells_keeps) | (with_reducible apply haltSeq_keeps) | (split) | (dsimp only))

theorem stopCkpt_keeps {s0 : State} {p : Nat} {s : State} (hs : Keeps s0 s) : Keeps s0 (stopCkpt p s) := by
  unfold stopCkpt
  repeat' (first
    | (with_reducible assumption) | (intro _) | (with_reducible apply Keeps.ite) | (with_reducible apply Keeps.forEach)
    | (with_reducible apply State.setVault_keeps) | (with_reducible apply State.set_keeps)
    | (with_reducible apply State.setPart_keeps) | (split) | (dsimp only))

theorem dropPortFrames_keeps {s0 : State} {p : Nat} {s : State} (hs : Keeps s0 s) : Keeps s0 (dropPortFrames p s) := by
  unfold dropPortFrames
  repeat' (first
    | (with_reducible assumption) | (intro _) | (with_reducible apply Keeps.forEach)
    | (with_reducible apply State.setPort_keeps) | (with_reducible apply State.count_keeps) | (split) | (dsimp only))

theorem dropShadow_keeps {s0 : State} {s : State} (hs : Keeps s0 s) : Keeps s0 (dropShadow s) := by
  unfold dropShadow
  repeat' (first
    | (with_reducible assumption) | (intro _) | (with_reducible apply State.set_keeps) | (simp only [↓Keeps.upd_iff])
    | (split) | (dsimp only))

theorem quenchJobs_keeps {s0 : State} {p : Option Nat} {s : State} (hs : Keeps s0 s) : Keeps s0 (quenchJobs p s) := by
  unfold quenchJobs
  repeat' (first
    | (with_reducible assumption) | (intro _) | (with_reducible apply Keeps.ite) | (with_reducible apply dropShadow_keeps)
    | (with_reducible apply State.set_keeps) | (with_reducible apply State.setPart_keeps) | (simp only [↓Keeps.upd_iff])
    | (split) | (dsimp only))

theorem startRamp_keeps {s0 : State} {scope : Nat} {slew : Nat} {fs : List Nat} {s : State} (hs : Keeps s0 s)
    : Keeps s0 (startRamp scope slew fs s) := by
  unfold startRamp
  repeat' (first
    | (with_reducible assumption) | (intro _) | (with_reducible apply State.free_keeps)
    | (with_reducible apply State.set_keeps) | (simp only [↓Keeps.upd_iff]) | (split) | (dsimp only))

theorem quenchPartition_keeps {s0 : State} {p : Nat} {slew : Nat} {s : State} (hs : Keeps s0 s)
    : Keeps s0 (quenchPartition p slew s) := by
  unfold quenchPartition
  repeat' (first
    | (with_reducible assumption) | (intro _) | (with_reducible apply Keeps.ite) | (with_reducible apply Keeps.foldl)
    | (with_reducible apply Keeps.foldl_snd) | (with_reducible apply Keeps.foldl_third)
    | (with_reducible apply loseSteps_keeps) | (with_reducible apply Keeps.forEach) | (with_reducible apply haltHosts_keeps)
    | (with_reducible apply dropMovers_keeps) | (with_reducible apply stopField_keeps)
    | (with_reducible apply stopCkpt_keeps) | (with_reducible apply dropPortFrames_keeps)
    | (with_reducible apply quenchJobs_keeps) | (with_reducible apply State.setPart_keeps)
    | (with_reducible apply State.set_keeps) | (with_reducible apply setPartState_keeps)
    | (with_reducible apply startRamp_keeps) | (simp only [↓Keeps.upd_iff]) | (split) | (dsimp only))

theorem sendNotice_keeps {s0 : State} {n : Notice} {except : Option Nat} {s : State} (hs : Keeps s0 s)
    : Keeps s0 (sendNotice n except s) := by
  unfold sendNotice
  repeat' (first
    | (with_reducible assumption) | (intro _) | (with_reducible apply Keeps.forEach) | (with_reducible apply enqueue_keeps)
    | (split) | (dsimp only))

theorem quenchModule_keeps {s0 : State} {slew : Nat} {s : State} (hs : Keeps s0 s) : Keeps s0 (quenchModule slew s) := by
  unfold quenchModule
  repeat' (first
    | (with_reducible assumption) | (intro _) | (with_reducible apply Keeps.ite) | (with_reducible apply Keeps.foldl)
    | (with_reducible apply Keeps.foldl_snd) | (with_reducible apply Keeps.foldl_third)
    | (with_reducible apply Keeps.forEach) | (with_reducible apply quenchPartition_keeps)
    | (with_reducible apply quenchJobs_keeps) | (with_reducible apply haltHosts_keeps)
    | (with_reducible apply dropMovers_keeps) | (with_reducible apply stopField_keeps)
    | (with_reducible apply State.set_keeps) | (with_reducible apply startRamp_keeps) | (simp only [↓Keeps.upd_iff])
    | (split) | (dsimp only))

theorem quietPort_keeps {s0 : State} {n : Nat} {s : State} (hs : Keeps s0 s) : Keeps s0 (quietPort n s) := by
  unfold quietPort
  repeat' (first
    | (with_reducible assumption) | (intro _) | (with_reducible apply State.setPort_keeps) | (split) | (dsimp only))

theorem portTo_keeps {s0 : State} {n : Nat} {st : Nat} {s : State} (hs : Keeps s0 s) : Keeps s0 (portTo n st s) := by
  unfold portTo
  repeat' (first
    | (with_reducible assumption) | (intro _) | (with_reducible apply State.set_keeps)
    | (with_reducible apply quietPort_keeps) | (with_reducible apply wrPair_keeps) | (split) | (dsimp only))

theorem powerOffAll_keeps {s0 : State} {s : State} (hs : Keeps s0 s) : Keeps s0 (powerOffAll s) := by
  unfold powerOffAll
  repeat' (first
    | (with_reducible assumption) | (with_reducible exact wf_nil) | (with_reducible exact wf_mapVals) | (intro _)
    | (with_reducible apply Keeps.ite) | (with_reducible apply State.overRegs_keeps)
    | (with_reducible apply State.set_keeps) | (with_reducible apply Keeps.forEach) | (with_reducible apply portTo_keeps)
    | (simp only [↓Keeps.upd_iff]) | (with_reducible apply Keeps.updAll) | (with_reducible exact List.prefix_refl _)
    | (with_reducible exact List.prefix_append _ _) | (with_reducible exact Nat.le_refl _)
    | (with_reducible exact Nat.le_succ _) | (with_reducible exact Nat.le_add_right _ _) | (with_reducible exact id)
    | (with_reducible apply wf_put_imp) | (with_reducible apply wf_filter_imp) | (split) | (dsimp only))

theorem pinsSafe_keeps {s0 : State} {s : State} (hs : Keeps s0 s) : Keeps s0 (pinsSafe s) := by
  unfold pinsSafe
  repeat' (first
    | (with_reducible assumption) | (intro _) | (with_reducible apply Keeps.ite) | (with_reducible apply State.set_keeps)
    | (with_reducible apply Keeps.forEach) | (with_reducible apply portTo_keeps) | (simp only [↓Keeps.upd_iff]) | (split)
    | (dsimp only))

theorem commitStore_keeps {s0 : State} {s : State} (hs : Keeps s0 s) : Keeps s0 (commitStore s) := by
  unfold commitStore
  repeat' (first
    | (with_reducible assumption) | (intro _) | (simp only [↓Keeps.upd_iff]) | (split) | (dsimp only))

theorem setLock_keeps {s0 : State} {cause : Nat} {s : State} (hs : Keeps s0 s) : Keeps s0 (setLock cause s) := by
  unfold setLock
  repeat' (first
    | (with_reducible assumption) | (intro _) | (with_reducible apply Keeps.ite) | (with_reducible apply quenchModule_keeps)
    | (with_reducible apply powerOffAll_keeps) | (with_reducible apply pinsSafe_keeps)
    | (with_reducible apply State.set_keeps) | (with_reducible apply commitStore_keeps) | (split) | (dsimp only))

theorem holdAt_keeps {s0 : State} {d : Nat} {v : Nat} {s : State} (hs : Keeps s0 s) : Keeps s0 (holdAt d v s) := by
  unfold holdAt
  repeat' (first
    | (with_reducible assumption) | (intro _) | (with_reducible apply State.set_keeps) | (simp only [↓Keeps.upd_iff])
    | (split) | (dsimp only))

theorem loseScratch_keeps {s0 : State} {f : Nat} {pos : Nat} {s : State} (hs : Keeps s0 s)
    : Keeps s0 (loseScratch f pos s) := by
  unfold loseScratch
  repeat' (first
    | (with_reducible assumption) | (intro _) | (with_reducible apply State.set_keeps)
    | (with_reducible apply State.setCell_keeps) | (split) | (dsimp only))

theorem loseMesh_keeps {s0 : State} {f : Nat} {s : State} (hs : Keeps s0 s) : Keeps s0 (loseMesh f s) := by
  unfold loseMesh
  repeat' (first
    | (with_reducible assumption) | (with_reducible exact wf_nil) | (with_reducible exact wf_mapVals) | (intro _)
    | (simp only [↓Keeps.upd_iff]) | (with_reducible apply Keeps.updAll) | (with_reducible exact List.prefix_refl _)
    | (with_reducible exact List.prefix_append _ _) | (with_reducible exact Nat.le_refl _)
    | (with_reducible exact Nat.le_succ _) | (with_reducible exact Nat.le_add_right _ _) | (with_reducible exact id)
    | (with_reducible apply wf_put_imp) | (with_reducible apply wf_filter_imp) | (split) | (dsimp only))

theorem domainOff_keeps {s0 : State} {d : Nat} {s : State} (hs : Keeps s0 s) : Keeps s0 (domainOff d s) := by
  unfold domainOff
  repeat' (first
    | (with_reducible assumption) | (intro _) | (with_reducible apply Keeps.ite) | (with_reducible apply holdAt_keeps)
    | (with_reducible apply State.set_keeps) | (with_reducible apply Keeps.forEach)
    | (with_reducible apply loseScratch_keeps) | (with_reducible apply loseMesh_keeps) | (split) | (dsimp only))

theorem slewTo_keeps {s0 : State} {d : Nat} {v : Nat} {s : State} (hs : Keeps s0 s) : Keeps s0 (slewTo d v s) := by
  unfold slewTo
  repeat' (first
    | (with_reducible assumption) | (intro _) | (with_reducible apply Keeps.ite) | (with_reducible apply holdAt_keeps)
    | (simp only [↓Keeps.upd_iff]) | (split) | (dsimp only))

theorem retain_keeps {s0 : State} {d : Nat} {s : State} (hs : Keeps s0 s) : Keeps s0 (retain d s) := by
  unfold retain
  repeat' (first
    | (with_reducible assumption) | (intro _) | (with_reducible apply slewTo_keeps) | (with_reducible apply State.set_keeps)
    | (split) | (dsimp only))

theorem slewAll_keeps {s0 : State} {s : State} (hs : Keeps s0 s) : Keeps s0 (slewAll s) := by
  unfold slewAll
  repeat' (first
    | (with_reducible assumption) | (intro _) | (with_reducible apply Keeps.foldl) | (with_reducible apply Keeps.foldl_snd)
    | (with_reducible apply Keeps.foldl_third) | (with_reducible apply State.set_keeps) | (simp only [↓Keeps.upd_iff])
    | (split) | (dsimp only))

end Sys2Proof.Machine
end

