-- ==== Sys2Proof/Laws/KeepsFaults.lean ====
section
/-!
SUPPORT. Laws/KeepsFaults.lean: each state transformer of Machine/Faults.lean keeps what `Keeps` says: the queue of waiting
commands, what was emitted, the counter of free values, the canonical form of every table.
-/
set_option linter.unusedTactic false
set_option linter.unreachableTactic false
set_option linter.unusedSimpArgs false
namespace Sys2Proof.Machine

theorem countEvent_keeps {s0 : State} {cls : Nat} {ev : FaultEvent} {s : State} (hs : Keeps s0 s)
    : Keeps s0 (countEvent cls ev s) := by
  unfold countEvent
  repeat' (first
    | (with_reducible assumption) | (intro _) | (with_reducible apply State.count_keeps) | (simp only [↓Keeps.upd_iff])
    | (split) | (dsimp only))

theorem overflow_keeps {s0 : State} {s : State} (hs : Keeps s0 s) : Keeps s0 (overflow s) := by
  unfold overflow
  repeat' (first
    | (with_reducible assumption) | (intro _) | (with_reducible apply Keeps.ite) | (with_reducible apply countEvent_keeps)
    | (simp only [↓Keeps.upd_iff]) | (split) | (dsimp only))

theorem shiftFrom_keeps {s0 : State} {k : Nat} {s : State} (hs : Keeps s0 s) : Keeps s0 (shiftFrom k s) := by
  unfold shiftFrom
  repeat' (first
    | (with_reducible assumption) | (intro _) | (with_reducible apply Keeps.ite)
    | (with_reducible apply State.setVault_keeps) | (with_reducible apply Keeps.forEach)
    | (with_reducible apply State.setPart_keeps) | (with_reducible apply State.wr_keeps) | (simp only [↓Keeps.upd_iff])
    | (split) | (dsimp only))

theorem editRecord_keeps {s0 : State} {idx : Nat} {f : FaultRec → FaultRec} {s : State} (hs : Keeps s0 s)
    : Keeps s0 (editRecord idx f s) := by
  unfold editRecord
  repeat' (first
    | (with_reducible assumption) | (intro _) | (with_reducible apply Keeps.ite) | (simp only [↓Keeps.upd_iff]) | (split)
    | (dsimp only))

theorem captureFirst_keeps {s0 : State} {cls : Nat} {idx : Nat} {ev : FaultEvent} {s : State} (hs : Keeps s0 s)
    : Keeps s0 (captureFirst cls idx ev s) := by
  unfold captureFirst
  repeat' (first
    | (with_reducible assumption) | (intro _) | (with_reducible apply Keeps.ite) | (with_reducible apply editRecord_keeps)
    | (with_reducible apply State.set_keeps) | (with_reducible apply State.wr_keeps)
    | (with_reducible apply State.high_keeps) | (split) | (dsimp only))

theorem keepInChitin_keeps {s0 : State} {r : FaultRec} {s : State} (hs : Keeps s0 s) : Keeps s0 (keepInChitin r s) := by
  unfold keepInChitin
  repeat' (first
    | (with_reducible assumption) | (intro _) | (with_reducible apply Keeps.ite) | (with_reducible apply State.set_keeps)
    | (simp only [↓Keeps.upd_iff]) | (split) | (dsimp only))

theorem recordFault_keeps {s0 : State} {cls : Nat} {ev : FaultEvent} {s : State} (hs : Keeps s0 s)
    : Keeps s0 (recordFault cls ev s).2 := by
  unfold recordFault
  repeat' (first
    | (with_reducible assumption) | (intro _) | (with_reducible apply Keeps.ite) | (with_reducible apply countEvent_keeps)
    | (with_reducible apply overflow_keeps) | (with_reducible apply shiftFrom_keeps)
    | (with_reducible apply captureFirst_keeps) | (with_reducible apply State.wr_keeps)
    | (with_reducible apply State.journal_keeps) | (with_reducible apply keepInChitin_keeps) | (simp only [↓Keeps.upd_iff])
    | (split) | (dsimp only))

theorem failCreate_keeps {s0 : State} {p : Nat} {s : State} (hs : Keeps s0 s) : Keeps s0 (failCreate p s) := by
  unfold failCreate
  repeat' (first
    | (with_reducible assumption) | (intro _) | (with_reducible apply Keeps.ite) | (simp only [↓Keeps.upd_iff]) | (split)
    | (dsimp only))

theorem quenchNotice_keeps {s0 : State} {p : Nat} {idx : Nat} {s : State} (hs : Keeps s0 s)
    : Keeps s0 (quenchNotice p idx s) := by
  unfold quenchNotice
  repeat' (first
    | (with_reducible assumption) | (intro _) | (with_reducible apply Keeps.ite) | (with_reducible apply sendNotice_keeps)
    | (split) | (dsimp only))

theorem failStep_keeps {s0 : State} {code : Nat} {s : State} (hs : Keeps s0 s) : Keeps s0 (failStep code s) := by
  unfold failStep
  repeat' (first
    | (with_reducible assumption) | (intro _) | (with_reducible apply Keeps.ite) | (with_reducible apply State.set_keeps)
    | (simp only [↓Keeps.upd_iff]) | (split) | (dsimp only))

theorem quenchNotices_keeps {s0 : State} {idx : Nat} {s : State} (hs : Keeps s0 s) : Keeps s0 (quenchNotices idx s) := by
  unfold quenchNotices
  repeat' (first
    | (with_reducible assumption) | (intro _) | (with_reducible apply Keeps.ite) | (with_reducible apply Keeps.forEach)
    | (with_reducible apply quenchNotice_keeps) | (split) | (dsimp only))

theorem failCreates_keeps {s0 : State} {s : State} (hs : Keeps s0 s) : Keeps s0 (failCreates s) := by
  unfold failCreates
  repeat' (first
    | (with_reducible assumption) | (intro _) | (with_reducible apply Keeps.forEach)
    | (with_reducible apply failCreate_keeps) | (split) | (dsimp only))

theorem note_keeps {s0 : State} {subcode : Nat} {part : Nat} {off : Nat} {s : State} (hs : Keeps s0 s)
    : Keeps s0 (note subcode part off s) := by
  unfold note
  repeat' (first
    | (with_reducible assumption) | (intro _) | (with_reducible apply recordFault_keeps) | (split) | (dsimp only))

theorem yieldRole_keeps {s0 : State} {s : State} (hs : Keeps s0 s) : Keeps s0 (yieldRole s) := by
  unfold yieldRole
  repeat' (first
    | (with_reducible assumption) | (intro _) | (with_reducible apply Keeps.ite) | (with_reducible apply State.set_keeps)
    | (with_reducible apply note_keeps) | (simp only [↓Keeps.upd_iff]) | (split) | (dsimp only))

theorem react_keeps {s0 : State} {cls : Nat} {idx : Nat} {slew : Nat} {notice : Bool} {ev : FaultEvent}
    {s : State} (hs : Keeps s0 s) : Keeps s0 (react cls idx slew notice ev s) := by
  unfold react
  repeat' (first
    | (with_reducible assumption) | (intro _) | (with_reducible apply Keeps.ite)
    | (with_reducible apply State.setPart_keeps) | (with_reducible apply failCreate_keeps)
    | (with_reducible apply quenchPartition_keeps) | (with_reducible apply quenchNotice_keeps)
    | (with_reducible apply failStep_keeps) | (with_reducible apply quenchModule_keeps)
    | (with_reducible apply quenchNotices_keeps) | (with_reducible apply failCreates_keeps)
    | (with_reducible apply yieldRole_keeps) | (with_reducible apply setLock_keeps) | (split) | (dsimp only))

theorem raiseAs_keeps {s0 : State} {cls : Nat} {slew : Nat} {notice : Bool} {ev : FaultEvent} {s : State} (hs : Keeps s0 s)
    : Keeps s0 (raiseAs cls slew notice ev s).2 := by
  unfold raiseAs
  repeat' (first
    | (with_reducible assumption) | (intro _) | (with_reducible apply Keeps.ite) | (with_reducible apply recordFault_keeps)
    | (with_reducible apply react_keeps) | (simp only [↓Keeps.upd_iff]) | (split) | (dsimp only))

theorem raiseFault_keeps {s0 : State} {ev : FaultEvent} {s : State} (hs : Keeps s0 s) : Keeps s0 (raiseFault ev s) := by
  unfold raiseFault
  repeat' (first
    | (with_reducible assumption) | (intro _) | (with_reducible apply raiseAs_keeps) | (split) | (dsimp only))

theorem noteAt_keeps {s0 : State} {subcode : Nat} {part : Nat} {collector : Nat} {unitType : Nat} {inst : Nat}
    {s : State} (hs : Keeps s0 s) : Keeps s0 (noteAt subcode part collector unitType inst s) := by
  unfold noteAt
  repeat' (first
    | (with_reducible assumption) | (intro _) | (with_reducible apply recordFault_keeps) | (split) | (dsimp only))

theorem powerDown_keeps {s0 : State} {s : State} (hs : Keeps s0 s) : Keeps s0 (powerDown s) := by
  unfold powerDown
  repeat' (first
    | (with_reducible assumption) | (intro _) | (with_reducible apply powerOffAll_keeps)
    | (with_reducible apply yieldRole_keeps) | (split) | (dsimp only))

end Sys2Proof.Machine
end

