-- ==== Sys2Proof/Laws/KeepsCells.lean ====
section
/-!
SUPPORT. Laws/KeepsCells.lean: each state transformer of Machine/Cells.lean keeps what `Keeps` says: the queue of waiting
commands, what was emitted, the counter of free values, the canonical form of every table.
-/
set_option linter.unusedTactic false
set_option linter.unreachableTactic false
set_option linter.unusedSimpArgs false
namespace Sys2Proof.Machine

theorem putCell_keeps {s0 : State} {f : Nat} {pos : Nat} {c : CellState} {s : State} (hs : Keeps s0 s)
    : Keeps s0 (putCell f pos c s) := by
  unfold putCell
  repeat' (first
    | (with_reducible assumption) | (intro _) | (with_reducible apply Keeps.ite)
    | (with_reducible apply State.setCell_keeps) | (with_reducible apply State.set_keeps)
    | (with_reducible apply State.high_keeps) | (split) | (dsimp only))

theorem fireDue_keeps {s0 : State} {f : Nat} {l : List (Fin 72 × Nat × Nat)} {s : State} (hs : Keeps s0 s)
    : Keeps s0 (fireDue f l s) := by
  unfold fireDue
  repeat' (first
    | (with_reducible assumption) | (intro _) | (with_reducible apply Keeps.foldl) | (with_reducible apply Keeps.foldl_snd)
    | (with_reducible apply Keeps.foldl_third) | (with_reducible apply putCell_keeps) | (split) | (dsimp only))

theorem atCycle_keeps {s0 : State} {f : Nat} {cyc : Nat} {s : State} (hs : Keeps s0 s) : Keeps s0 (atCycle f cyc s) := by
  unfold atCycle
  repeat' (first
    | (with_reducible assumption) | (intro _) | (with_reducible apply Keeps.ite) | (with_reducible apply fireDue_keeps)
    | (with_reducible apply State.setField_keeps) | (split) | (dsimp only))

theorem onCycle_keeps {s0 : State} {f : Nat} {cyc : Nat} {s : State} {g : State → State} (hs : Keeps s0 s)
    (hg : ∀ x0, Keeps s0 x0 → Keeps s0 (g x0)) : Keeps s0 (onCycle f cyc s g) := by
  unfold onCycle
  repeat' (first
    | (with_reducible assumption) | (intro _) | (with_reducible apply Keeps.ite) | (with_reducible apply atCycle_keeps)
    | (with_reducible apply hg) | (split) | (dsimp only))

theorem onCell_keeps {s0 : State} {f : Nat} {pos : Nat} {cyc : Nat} {s : State} {g : State → State} (hs : Keeps s0 s)
    (hg : ∀ x0, Keeps s0 x0 → Keeps s0 (g x0)) : Keeps s0 (onCell f pos cyc s g) := by
  unfold onCell
  repeat' (first
    | (with_reducible assumption) | (intro _) | (with_reducible apply Keeps.ite) | (with_reducible apply onCycle_keeps)
    | (with_reducible apply hg) | (split) | (dsimp only))

theorem refillWrites_keeps {s0 : State} {f : Nat} {pos : Nat} {cyc : Nat} {s : State} (hs : Keeps s0 s)
    : Keeps s0 (refillWrites f pos cyc s) := by
  unfold refillWrites
  repeat' (first
    | (with_reducible assumption) | (intro _) | (with_reducible apply Keeps.ite)
    | (with_reducible apply State.setCell_keeps) | (split) | (dsimp only))

theorem packetCommit_keeps {s0 : State} {f : Nat} {pos : Nat} {cyc : Nat} {id : Nat} {s : State} (hs : Keeps s0 s)
    : Keeps s0 (packetCommit f pos cyc id s) := by
  unfold packetCommit
  repeat' (first
    | (with_reducible assumption) | (intro _) | (with_reducible apply Keeps.ite) | (with_reducible apply refillWrites_keeps)
    | (with_reducible apply State.setNi_keeps) | (split) | (dsimp only))

theorem toMover_keeps {s0 : State} {f : Nat} {id : Nat} {l : List PWord} {s : State} (hs : Keeps s0 s)
    : Keeps s0 (toMover f id l s) := by
  unfold toMover
  repeat' (first
    | (with_reducible assumption) | (intro _) | (with_reducible apply Keeps.ite)
    | (with_reducible apply State.setField_keeps) | (split) | (dsimp only))

theorem grantWrite_keeps {s0 : State} {f : Nat} {pos : Nat} {cyc : Nat} {r : PortReq} {s : State} (hs : Keeps s0 s)
    : Keeps s0 (grantWrite f pos cyc r s) := by
  unfold grantWrite
  repeat' (first
    | (with_reducible assumption) | (intro _) | (with_reducible apply Keeps.ite) | (with_reducible apply State.set_keeps)
    | (with_reducible apply State.setCell_keeps) | (with_reducible apply packetCommit_keeps)
    | (with_reducible apply toMover_keeps) | (split) | (dsimp only))

theorem noteWait_keeps {s0 : State} {f : Nat} {pos : Nat} {cyc : Nat} {r : PortReq} {s : State} (hs : Keeps s0 s)
    : Keeps s0 (noteWait f pos cyc r s) := by
  unfold noteWait
  repeat' (first
    | (with_reducible assumption) | (intro _) | (with_reducible apply State.high_keeps) | (split) | (dsimp only))

theorem applyUpset_keeps {s0 : State} {f : Nat} {pos : Nat} {addr : Nat} {col : Bool} {upset : BitVec 128}
    {s : State} (hs : Keeps s0 s) : Keeps s0 (applyUpset f pos addr col upset s) := by
  unfold applyUpset
  repeat' (first
    | (with_reducible assumption) | (intro _) | (with_reducible apply Keeps.ite) | (with_reducible apply Keeps.forEach)
    | (with_reducible apply State.free_keeps) | (with_reducible apply State.setCell_keeps) | (split) | (dsimp only))

theorem recordParity_keeps {s0 : State} {f : Nat} {pos : Nat} {port : Nat} {cls : Nat} {lane : Nat} {k : Nat} {half : Nat}
    {s : State} (hs : Keeps s0 s) : Keeps s0 (recordParity f pos port cls lane k half s) := by
  unfold recordParity
  repeat' (first
    | (with_reducible assumption) | (intro _) | (with_reducible apply Keeps.ite) | (with_reducible apply State.count_keeps)
    | (with_reducible apply State.set_keeps) | (split) | (dsimp only))

theorem portRead_keeps {s0 : State} {f : Nat} {pos : Nat} {cyc : Nat} {port : Nat} {cls : Nat} {lane : Nat} {ev : FaultEvent}
    {addr : Nat} {col : Bool} {upset : BitVec 128} {s : State} (hs : Keeps s0 s)
    : Keeps s0 (portRead f pos cyc port cls lane ev addr col upset s).2 := by
  unfold portRead
  repeat' (first
    | (with_reducible assumption) | (intro _) | (with_reducible apply applyUpset_keeps)
    | (with_reducible apply State.setCell_keeps) | (with_reducible apply recordParity_keeps)
    | (with_reducible apply raiseFault_keeps) | (split) | (dsimp only))

theorem closeUpOne_keeps {s0 : State} {s : State} {id : Nat} (hs : Keeps s0 s) : Keeps s0 (closeUpOne s id) := by
  unfold closeUpOne
  repeat' (first
    | (with_reducible assumption) | (intro _) | (with_reducible apply Keeps.ite) | (simp only [↓Keeps.upd_iff]) | (split)
    | (dsimp only))

theorem closeUp_keeps {s0 : State} {s : State} (hs : Keeps s0 s) : Keeps s0 (closeUp s) := by
  unfold closeUp
  repeat' (first
    | (with_reducible assumption) | (intro _) | (with_reducible apply Keeps.foldl) | (with_reducible apply Keeps.foldl_snd)
    | (with_reducible apply Keeps.foldl_third) | (with_reducible apply closeUpOne_keeps) | (split) | (dsimp only))

theorem fillQueue_keeps {s0 : State} {g : State → State} {s : State} (hs : Keeps s0 s)
    (hg : ∀ x0, Keeps s0 x0 → Keeps s0 (g x0)) : Keeps s0 (fillQueue g s) := by
  unfold fillQueue
  repeat' (first
    | (with_reducible assumption) | (intro _) | (with_reducible apply hg) | (split) | (dsimp only))

theorem endpointDone_keeps {s0 : State} {f : Nat} {node : Nat} {s : State} (hs : Keeps s0 s)
    : Keeps s0 (endpointDone f node s) := by
  unfold endpointDone
  repeat' (first
    | (with_reducible assumption) | (intro _) | (with_reducible apply Keeps.ite) | (with_reducible apply State.setNi_keeps)
    | (with_reducible apply State.setField_keeps) | (split) | (dsimp only))

theorem receiveMore_keeps {s0 : State} {f : Nat} {node : Nat} {s : State} (hs : Keeps s0 s)
    : Keeps s0 (receiveMore f node s) := by
  unfold receiveMore
  repeat' (first
    | (with_reducible assumption) | (intro _) | (with_reducible apply Keeps.ite) | (with_reducible apply fillQueue_keeps)
    | (with_reducible apply refillWrites_keeps) | (with_reducible apply endpointDone_keeps) | (split) | (dsimp only))

theorem feedPacket_keeps {s0 : State} {id : Nat} {l : List PWord} {s : State} (hs : Keeps s0 s)
    : Keeps s0 (feedPacket id l s) := by
  unfold feedPacket
  repeat' (first
    | (with_reducible assumption) | (with_reducible exact wf_nil) | (with_reducible exact wf_mapVals) | (intro _)
    | (with_reducible apply closeUp_keeps) | (with_reducible apply Keeps.forEach) | (with_reducible apply receiveMore_keeps)
    | (simp only [↓Keeps.upd_iff]) | (with_reducible apply Keeps.updAll) | (with_reducible exact List.prefix_refl _)
    | (with_reducible exact List.prefix_append _ _) | (with_reducible exact Nat.le_refl _)
    | (with_reducible exact Nat.le_succ _) | (with_reducible exact Nat.le_add_right _ _) | (with_reducible exact id)
    | (with_reducible apply wf_put_imp) | (with_reducible apply wf_filter_imp) | (split) | (dsimp only))

theorem toSend_keeps {s0 : State} {f : Nat} {pos : Nat} {owner : Nat} {l : List PWord} {s : State} (hs : Keeps s0 s)
    : Keeps s0 (toSend f pos owner l s) := by
  unfold toSend
  repeat' (first
    | (with_reducible assumption) | (intro _) | (with_reducible apply Keeps.ite) | (with_reducible apply feedPacket_keeps)
    | (with_reducible apply State.setNi_keeps) | (with_reducible apply State.setCell_keeps) | (simp only [↓Keeps.upd_iff])
    | (split) | (dsimp only))

theorem refillReads_keeps {s0 : State} {f : Nat} {pos : Nat} {cyc : Nat} {s : State} (hs : Keeps s0 s)
    : Keeps s0 (refillReads f pos cyc s) := by
  unfold refillReads
  repeat' (first
    | (with_reducible assumption) | (intro _) | (with_reducible apply Keeps.ite) | (with_reducible apply State.setNi_keeps)
    | (with_reducible apply State.setCell_keeps) | (split) | (dsimp only))

theorem toPacket_keeps {s0 : State} {f : Nat} {pos : Nat} {cyc : Nat} {id : Nat} {l : List PWord}
    {s : State} (hs : Keeps s0 s) : Keeps s0 (toPacket f pos cyc id l s) := by
  unfold toPacket
  repeat' (first
    | (with_reducible assumption) | (intro _) | (with_reducible apply refillReads_keeps)
    | (with_reducible apply feedPacket_keeps) | (split) | (dsimp only))

theorem grantRead_keeps {s0 : State} {f : Nat} {pos : Nat} {cyc : Nat} {r : PortReq} {upset : BitVec 128}
    {s : State} (hs : Keeps s0 s) : Keeps s0 (grantRead f pos cyc r upset s) := by
  unfold grantRead
  repeat' (first
    | (with_reducible assumption) | (intro _) | (with_reducible apply portRead_keeps) | (with_reducible apply toSend_keeps)
    | (with_reducible apply State.setCell_keeps) | (with_reducible apply toPacket_keeps)
    | (with_reducible apply toMover_keeps) | (with_reducible apply Keeps.unchanged) | (split) | (dsimp only)
    | (refine Keeps.of_snd (by assumption) ?_) | (refine Keeps.of_third (by assumption) ?_)
    | (refine Keeps.of_fst (by assumption) ?_))

theorem accessGrant_keeps {s0 : State} {f : Nat} {pos : Nat} {cyc : Nat} {wport : Bool} {upset : BitVec 128}
    {s : State} (hs : Keeps s0 s) : Keeps s0 (accessGrant f pos cyc wport upset s) := by
  unfold accessGrant
  repeat' (first
    | (with_reducible assumption) | (intro _) | (with_reducible apply Keeps.ite) | (with_reducible apply onCell_keeps)
    | (with_reducible apply grantWrite_keeps) | (with_reducible apply noteWait_keeps)
    | (with_reducible apply State.setCell_keeps) | (with_reducible apply grantRead_keeps) | (split) | (dsimp only))

theorem clearTags_keeps {s0 : State} {f : Nat} {pos : Nat} {s : State} (hs : Keeps s0 s) : Keeps s0 (clearTags f pos s) := by
  unfold clearTags
  repeat' (first
    | (with_reducible assumption) | (intro _) | (with_reducible apply State.setField_keeps)
    | (with_reducible apply putCell_keeps) | (split) | (dsimp only))

theorem celFuClear_keeps {s0 : State} {f : Nat} {pos : Nat} {s : State} (hs : Keeps s0 s) : Keeps s0 (celFuClear f pos s) := by
  unfold celFuClear
  repeat' (first
    | (with_reducible assumption) | (intro _) | (with_reducible apply Keeps.ite) | (with_reducible apply clearTags_keeps)
    | (split) | (dsimp only))

theorem startZero_keeps {s0 : State} {f : Nat} {pos : Nat} {s : State} (hs : Keeps s0 s) : Keeps s0 (startZero f pos s) := by
  unfold startZero
  repeat' (first
    | (with_reducible assumption) | (intro _) | (with_reducible apply State.set_keeps)
    | (with_reducible apply State.setCell_keeps) | (split) | (dsimp only))

theorem celSpZero_keeps {s0 : State} {f : Nat} {pos : Nat} {s : State} (hs : Keeps s0 s) : Keeps s0 (celSpZero f pos s) := by
  unfold celSpZero
  repeat' (first
    | (with_reducible assumption) | (intro _) | (with_reducible apply Keeps.ite) | (with_reducible apply startZero_keeps)
    | (split) | (dsimp only))

theorem celCntClear_keeps {s0 : State} {f : Nat} {pos : Nat} {s : State} (hs : Keeps s0 s)
    : Keeps s0 (celCntClear f pos s) := by
  unfold celCntClear
  repeat' (first
    | (with_reducible assumption) | (intro _) | (with_reducible apply State.set_keeps) | (split) | (dsimp only))

theorem slotMiss_keeps {s0 : State} {f : Nat} {pos : Nat} {p : Parked} {s : State} (hs : Keeps s0 s)
    : Keeps s0 (slotMiss f pos p s) := by
  unfold slotMiss
  repeat' (first
    | (with_reducible assumption) | (intro _) | (with_reducible apply Keeps.ite) | (with_reducible apply State.count_keeps)
    | (with_reducible apply State.set_keeps) | (with_reducible apply raiseFault_keeps) | (split) | (dsimp only))

theorem tagOverflow_keeps {s0 : State} {f : Nat} {pos : Nat} {tag : Nat} {ev : FaultEvent} {s : State} (hs : Keeps s0 s)
    : Keeps s0 (tagOverflow f pos tag ev s) := by
  unfold tagOverflow
  repeat' (first
    | (with_reducible assumption) | (intro _) | (with_reducible apply raiseFault_keeps)
    | (with_reducible apply State.count_keeps) | (split) | (dsimp only))

theorem armGuard_keeps {s0 : State} {f : Nat} {pos : Nat} {cyc : Nat} {tag : Nat} {need : Nat} {window : Nat} {x : Slot}
    {s : State} (hs : Keeps s0 s) : Keeps s0 (armGuard f pos cyc tag need window x s) := by
  unfold armGuard
  repeat' (first
    | (with_reducible assumption) | (intro _) | (with_reducible apply Keeps.ite) | (with_reducible apply putCell_keeps)
    | (with_reducible apply slotMiss_keeps) | (with_reducible apply tagOverflow_keeps) | (split) | (dsimp only))

theorem recordArrival_keeps {s0 : State} {f : Nat} {pos : Nat} {cyc : Nat} {tag : Nat} {s : State} (hs : Keeps s0 s)
    : Keeps s0 (recordArrival f pos cyc tag s) := by
  unfold recordArrival
  repeat' (first
    | (with_reducible assumption) | (intro _) | (with_reducible apply Keeps.ite) | (with_reducible apply tagOverflow_keeps)
    | (with_reducible apply putCell_keeps) | (with_reducible apply State.setField_keeps) | (split) | (dsimp only))

theorem arrivalRecord_keeps {s0 : State} {f : Nat} {pos : Nat} {cyc : Nat} {s : State} (hs : Keeps s0 s)
    : Keeps s0 (arrivalRecord f pos cyc s) := by
  unfold arrivalRecord
  repeat' (first
    | (with_reducible assumption) | (intro _) | (with_reducible apply Keeps.ite) | (with_reducible apply onCell_keeps)
    | (with_reducible apply recordArrival_keeps) | (with_reducible apply State.setCell_keeps) | (split) | (dsimp only))

theorem residueFault_keeps {s0 : State} {f : Nat} {pos : Nat} {u : Nat} {lane : Nat} {injected : Bool} {ev : FaultEvent}
    {s : State} (hs : Keeps s0 s) : Keeps s0 (residueFault f pos u lane injected ev s) := by
  unfold residueFault
  repeat' (first
    | (with_reducible assumption) | (intro _) | (with_reducible apply Keeps.ite) | (with_reducible apply State.count_keeps)
    | (with_reducible apply State.set_keeps) | (with_reducible apply raiseFault_keeps) | (split) | (dsimp only))

theorem sentinelResidue_keeps {s0 : State} {f : Nat} {pos : Nat} {s : State} (hs : Keeps s0 s)
    : Keeps s0 (sentinelResidue f pos s) := by
  unfold sentinelResidue
  repeat' (first
    | (with_reducible assumption) | (intro _) | (with_reducible apply residueFault_keeps)
    | (with_reducible apply State.set_keeps) | (split) | (dsimp only))

theorem startRep_keeps {s0 : State} {f : Nat} {pos : Nat} {cyc : Nat} {span : Nat} {e : QEntry} {i : Nat} {q : Bool}
    {slot : Option Nat} {s : State} (hs : Keeps s0 s) : Keeps s0 (startRep f pos cyc span e i q slot s) := by
  unfold startRep
  repeat' (first
    | (with_reducible assumption) | (intro _) | (with_reducible apply Keeps.ite) | (with_reducible apply State.set_keeps)
    | (with_reducible apply State.setCell_keeps) | (split) | (dsimp only))

theorem runSentinel_keeps {s0 : State} {f : Nat} {pos : Nat} {cyc : Nat} {e : QEntry} {sigErr : Word}
    {s : State} (hs : Keeps s0 s) : Keeps s0 (runSentinel f pos cyc e sigErr s) := by
  unfold runSentinel
  repeat' (first
    | (with_reducible assumption) | (intro _) | (with_reducible apply Keeps.ite)
    | (with_reducible apply sentinelResidue_keeps) | (with_reducible apply State.setCell_keeps)
    | (with_reducible apply startRep_keeps) | (with_reducible apply State.wr_keeps) | (split) | (dsimp only))

theorem beginRunTile_keeps {s0 : State} {f : Nat} {pos : Nat} {cyc : Nat} {e : QEntry} {sigErr : Word}
    {s : State} (hs : Keeps s0 s) : Keeps s0 (beginRunTile f pos cyc e sigErr s) := by
  unfold beginRunTile
  repeat' (first
    | (with_reducible assumption) | (intro _) | (with_reducible apply runSentinel_keeps)
    | (with_reducible apply State.setCell_keeps) | (split) | (dsimp only))

theorem stall_keeps {s0 : State} {f : Nat} {pos : Nat} {cyc : Nat} {s : State} (hs : Keeps s0 s)
    : Keeps s0 (stall f pos cyc s) := by
  unfold stall
  repeat' (first
    | (with_reducible assumption) | (intro _) | (with_reducible apply Keeps.ite) | (with_reducible apply State.set_keeps)
    | (with_reducible apply State.count_keeps) | (with_reducible apply State.setCell_keeps) | (split) | (dsimp only))

theorem hold_keeps {s0 : State} {f : Nat} {pos : Nat} {cyc : Nat} {s : State} (hs : Keeps s0 s)
    : Keeps s0 (hold f pos cyc s) := by
  unfold hold
  repeat' (first
    | (with_reducible assumption) | (intro _) | (with_reducible apply Keeps.ite) | (with_reducible apply State.count_keeps)
    | (with_reducible apply State.setCell_keeps) | (split) | (dsimp only))

theorem beginWork_keeps {s0 : State} {f : Nat} {pos : Nat} {cyc : Nat} {e : QEntry} {i : Nat} {q : Bool}
    {s : State} (hs : Keeps s0 s) : Keeps s0 (beginWork f pos cyc e i q s) := by
  unfold beginWork
  repeat' (first
    | (with_reducible assumption) | (intro _) | (with_reducible apply Keeps.ite) | (with_reducible apply stall_keeps)
    | (with_reducible apply armGuard_keeps) | (with_reducible apply startRep_keeps) | (with_reducible apply hold_keeps)
    | (with_reducible apply State.setCell_keeps) | (split) | (dsimp only))

theorem capacityFault_keeps {s0 : State} {f : Nat} {pos : Nat} {x : Slot} {s : State} (hs : Keeps s0 s)
    : Keeps s0 (capacityFault f pos x s) := by
  unfold capacityFault
  repeat' (first
    | (with_reducible assumption) | (intro _) | (with_reducible apply State.set_keeps)
    | (with_reducible apply State.count_keeps) | (with_reducible apply raiseFault_keeps) | (split) | (dsimp only))

theorem sweepTags_keeps {s0 : State} {f : Nat} {pos : Nat} {s : State} (hs : Keeps s0 s) : Keeps s0 (sweepTags f pos s) := by
  unfold sweepTags
  repeat' (first
    | (with_reducible assumption) | (intro _) | (with_reducible apply Keeps.ite) | (with_reducible apply putCell_keeps)
    | (with_reducible apply raiseFault_keeps) | (with_reducible apply State.count_keeps) | (split) | (dsimp only))

theorem repetitionBegin_keeps {s0 : State} {f : Nat} {pos : Nat} {cyc : Nat} {sigErr : Word} {s : State} (hs : Keeps s0 s)
    : Keeps s0 (repetitionBegin f pos cyc sigErr s) := by
  unfold repetitionBegin
  repeat' (first
    | (with_reducible assumption) | (intro _) | (with_reducible apply Keeps.ite) | (with_reducible apply onCell_keeps)
    | (with_reducible apply beginRunTile_keeps) | (with_reducible apply sweepTags_keeps)
    | (with_reducible apply startRep_keeps) | (with_reducible apply State.setCell_keeps)
    | (with_reducible apply runSentinel_keeps) | (with_reducible apply beginWork_keeps) | (split) | (dsimp only))

theorem slotBegin_keeps {s0 : State} {f : Nat} {pos : Nat} {cyc : Nat} {id : Nat} {s : State} (hs : Keeps s0 s)
    : Keeps s0 (slotBegin f pos cyc id s) := by
  unfold slotBegin
  repeat' (first
    | (with_reducible assumption) | (intro _) | (with_reducible apply Keeps.ite) | (with_reducible apply onCell_keeps)
    | (with_reducible apply putCell_keeps) | (split) | (dsimp only))

theorem slotEnd_keeps {s0 : State} {f : Nat} {pos : Nat} {cyc : Nat} {id : Nat} {s : State} (hs : Keeps s0 s)
    : Keeps s0 (slotEnd f pos cyc id s) := by
  unfold slotEnd
  repeat' (first
    | (with_reducible assumption) | (intro _) | (with_reducible apply Keeps.ite) | (with_reducible apply onCell_keeps)
    | (with_reducible apply State.setCell_keeps) | (split) | (dsimp only))

theorem issueA_keeps {s0 : State} {f : Nat} {pos : Nat} {cyc : Nat} {r : Running} {col : Bool} {upset : BitVec 128}
    {s : State} (hs : Keeps s0 s) : Keeps s0 (issueA f pos cyc r col upset s).2 := by
  unfold issueA
  repeat' (first
    | (with_reducible assumption) | (intro _) | (with_reducible apply Keeps.ite) | (with_reducible apply portRead_keeps)
    | (split) | (dsimp only))

theorem issueB_keeps {s0 : State} {f : Nat} {pos : Nat} {cyc : Nat} {r : Running} {col : Bool} {s : State} (hs : Keeps s0 s)
    : Keeps s0 (issueB f pos cyc r col s).2.2 := by
  unfold issueB
  repeat' (first
    | (with_reducible assumption) | (intro _) | (with_reducible apply Keeps.ite)
    | (with_reducible apply State.setCell_keeps) | (split) | (dsimp only))

theorem residueCheck_keeps {s0 : State} {f : Nat} {pos : Nat} {x : Slot} {err : Bool} {s : State} (hs : Keeps s0 s)
    : Keeps s0 (residueCheck f pos x err s).2 := by
  unfold residueCheck
  repeat' (first
    | (with_reducible assumption) | (intro _) | (with_reducible apply Keeps.ite) | (with_reducible apply State.set_keeps)
    | (with_reducible apply residueFault_keeps) | (split) | (dsimp only))

theorem unitOp_keeps {s0 : State} {f : Nat} {pos : Nat} {cyc : Nat} {r : Running} {err : Nat} {s : State} (hs : Keeps s0 s)
    : Keeps s0 (unitOp f pos cyc r err s).2 := by
  unfold unitOp
  repeat' (first
    | (with_reducible assumption) | (intro _) | (with_reducible apply Keeps.ite) | (with_reducible apply residueCheck_keeps)
    | (with_reducible apply State.setCell_keeps) | (with_reducible apply capacityFault_keeps) | (split) | (dsimp only))

theorem issueU_keeps {s0 : State} {f : Nat} {pos : Nat} {cyc : Nat} {r : Running} {err : Nat} {s : State} (hs : Keeps s0 s)
    : Keeps s0 (issueU f pos cyc r err s).2.2 := by
  unfold issueU
  repeat' (first
    | (with_reducible assumption) | (intro _) | (with_reducible apply Keeps.ite) | (with_reducible apply unitOp_keeps)
    | (split) | (dsimp only))

theorem issueD_keeps {s0 : State} {f : Nat} {pos : Nat} {cyc : Nat} {r : Running} {err : Nat} {s : State} (hs : Keeps s0 s)
    : Keeps s0 (issueD f pos cyc r err s).2.2 := by
  unfold issueD
  repeat' (first
    | (with_reducible assumption) | (intro _) | (with_reducible apply Keeps.ite) | (with_reducible apply residueCheck_keeps)
    | (with_reducible apply State.setCell_keeps) | (split) | (dsimp only))

theorem issueParts_keeps {s0 : State} {f : Nat} {pos : Nat} {cyc : Nat} {r : Running} {err : Nat} {col : BitVec 3}
    {upset : BitVec 128} {s : State} (hs : Keeps s0 s) : Keeps s0 (issueParts f pos cyc r err col upset s).2.2 := by
  unfold issueParts
  repeat' (first
    | (with_reducible assumption) | (intro _) | (with_reducible apply issueA_keeps) | (with_reducible apply issueB_keeps)
    | (with_reducible apply issueU_keeps) | (with_reducible apply issueD_keeps) | (split) | (dsimp only))

theorem issueW_keeps {s0 : State} {f : Nat} {pos : Nat} {cyc : Nat} {r : Running} {col : Bool} {s : State} (hs : Keeps s0 s)
    : Keeps s0 (issueW f pos cyc r col s).2.2 := by
  unfold issueW
  repeat' (first
    | (with_reducible assumption) | (intro _) | (with_reducible apply Keeps.ite)
    | (with_reducible apply State.setCell_keeps) | (split) | (dsimp only))

theorem microOpIssue_keeps {s0 : State} {f : Nat} {pos : Nat} {cyc : Nat} {id : Nat} {err : Nat} {col : BitVec 3}
    {upset : BitVec 128} {s : State} (hs : Keeps s0 s) : Keeps s0 (microOpIssue f pos cyc id err col upset s) := by
  unfold microOpIssue
  repeat' (first
    | (with_reducible assumption) | (intro _) | (with_reducible apply Keeps.ite) | (with_reducible apply onCell_keeps)
    | (with_reducible apply issueParts_keeps) | (with_reducible apply issueW_keeps)
    | (with_reducible apply State.setCell_keeps) | (with_reducible apply stall_keeps)
    | (with_reducible apply State.set_keeps) | (split) | (dsimp only))

theorem guardExpiry_keeps {s0 : State} {f : Nat} {pos : Nat} {cyc : Nat} {s : State} (hs : Keeps s0 s)
    : Keeps s0 (guardExpiry f pos cyc s) := by
  unfold guardExpiry
  repeat' (first
    | (with_reducible assumption) | (intro _) | (with_reducible apply onCell_keeps) | (with_reducible apply slotMiss_keeps)
    | (with_reducible apply putCell_keeps) | (split) | (dsimp only))

theorem tierAckArrival_keeps {s0 : State} {f : Nat} {pos : Nat} {cyc : Nat} {s : State} (hs : Keeps s0 s)
    : Keeps s0 (tierAckArrival f pos cyc s) := by
  unfold tierAckArrival
  repeat' (first
    | (with_reducible assumption) | (intro _) | (with_reducible apply Keeps.ite) | (with_reducible apply onCell_keeps)
    | (with_reducible apply recordArrival_keeps) | (with_reducible apply State.setCell_keeps) | (split) | (dsimp only))

end Sys2Proof.Machine
end

