-- ==== Sys2Proof/Laws/KeepsGroups.lean ====
section
/-!
SUPPORT. Laws/KeepsGroups.lean: each state transformer of Machine/Groups.lean keeps what `Keeps` says: the queue of waiting
commands, what was emitted, the counter of free values, the canonical form of every table.
-/
set_option linter.unusedTactic false
set_option linter.unreachableTactic false
set_option linter.unusedSimpArgs false
namespace Sys2Proof.Machine

theorem setGroup_keeps {s0 : State} {v : Nat} {g : Nat} {d : GroupState} {s : State} (hs : Keeps s0 s)
    : Keeps s0 (setGroup v g d s) := by
  unfold setGroup
  repeat' (first
    | (with_reducible assumption) | (intro _) | (with_reducible apply State.setVault_keeps) | (split) | (dsimp only))

theorem showPhases_keeps {s0 : State} {v : Nat} {s : State} (hs : Keeps s0 s) : Keeps s0 (showPhases v s) := by
  unfold showPhases
  repeat' (first
    | (with_reducible assumption) | (intro _) | (with_reducible apply Keeps.ite) | (with_reducible apply State.set_keeps)
    | (split) | (dsimp only))

theorem releaseReads_keeps {s0 : State} {v : Nat} {s : State} (hs : Keeps s0 s) : Keeps s0 (releaseReads v s) := by
  unfold releaseReads
  repeat' (first
    | (with_reducible assumption) | (intro _) | (with_reducible apply Keeps.forEach)
    | (with_reducible apply State.setField_keeps) | (split) | (dsimp only))

theorem setUpdating_keeps {s0 : State} {v : Nat} {g : Nat} {on : Bool} {d : GroupState} {s : State} (hs : Keeps s0 s)
    : Keeps s0 (setUpdating v g on d s) := by
  unfold setUpdating
  repeat' (first
    | (with_reducible assumption) | (intro _) | (with_reducible apply Keeps.ite) | (with_reducible apply setGroup_keeps)
    | (with_reducible apply State.set_keeps) | (with_reducible apply showPhases_keeps)
    | (with_reducible apply releaseReads_keeps) | (split) | (dsimp only))

theorem clearGroup_keeps {s0 : State} {v : Nat} {g : Nat} {doneAt : Fet} {s : State} (hs : Keeps s0 s)
    : Keeps s0 (clearGroup v g doneAt s) := by
  unfold clearGroup
  repeat' (first
    | (with_reducible assumption) | (intro _) | (with_reducible apply setUpdating_keeps) | (split) | (dsimp only))

theorem dropGroups_keeps {s0 : State} {p : Nat} {cond : State → Nat → Nat → Bool} {s : State} (hs : Keeps s0 s)
    : Keeps s0 (dropGroups p cond s) := by
  unfold dropGroups
  repeat' (first
    | (with_reducible assumption) | (intro _) | (with_reducible apply Keeps.forEach)
    | (with_reducible apply clearGroup_keeps) | (split) | (dsimp only))

theorem startUpdates_keeps {s0 : State} {p : Nat} {s : State} (hs : Keeps s0 s) : Keeps s0 (startUpdates p s) := by
  unfold startUpdates
  repeat' (first
    | (with_reducible assumption) | (intro _) | (with_reducible apply dropGroups_keeps)
    | (with_reducible apply State.setVault_keeps) | (with_reducible apply Keeps.forEach)
    | (with_reducible apply State.setEru_keeps) | (split) | (dsimp only))

theorem closeGroup_keeps {s0 : State} {v : Nat} {g : Nat} {base : Fet} {s : State} (hs : Keeps s0 s)
    : Keeps s0 (closeGroup v g base s) := by
  unfold closeGroup
  repeat' (first
    | (with_reducible assumption) | (intro _) | (with_reducible apply clearGroup_keeps)
    | (with_reducible apply noteUpdated_keeps) | (split) | (dsimp only))

theorem resetUpdates_keeps {s0 : State} {p : Nat} {s : State} (hs : Keeps s0 s) : Keeps s0 (resetUpdates p s) := by
  unfold resetUpdates
  repeat' (first
    | (with_reducible assumption) | (intro _) | (with_reducible apply dropGroups_keeps)
    | (with_reducible apply State.setVault_keeps) | (with_reducible apply startUpdates_keeps)
    | (with_reducible apply Keeps.forEach) | (split) | (dsimp only))

end Sys2Proof.Machine
end

