-- ==== Sys2Proof/Laws/KeepsTiers.lean ====
section
/-!
SUPPORT. Laws/KeepsTiers.lean: each state transformer of Machine/Tiers.lean keeps what `Keeps` says: the queue of waiting
commands, what was emitted, the counter of free values, the canonical form of every table.
-/
set_option linter.unusedTactic false
set_option linter.unreachableTactic false
set_option linter.unusedSimpArgs false
namespace Sys2Proof.Machine

theorem vltCntClear_keeps {s0 : State} {v : Nat} {s : State} (hs : Keeps s0 s) : Keeps s0 (vltCntClear v s) := by
  unfold vltCntClear
  repeat' (first
    | (with_reducible assumption) | (intro _) | (with_reducible apply State.set_keeps) | (split) | (dsimp only))

theorem vltNCntClear_keeps {s0 : State} {f : Nat} {s : State} (hs : Keeps s0 s) : Keeps s0 (vltNCntClear f s) := by
  unfold vltNCntClear
  repeat' (first
    | (with_reducible assumption) | (intro _) | (with_reducible apply State.set_keeps)
    | (with_reducible apply Keeps.forEach) | (split) | (dsimp only))

theorem refusedTierP_keeps {s0 : State} {w : Nat} {p : Nat} {code : Nat} {addr : Nat} {s : State} (hs : Keeps s0 s)
    : Keeps s0 (refusedTierP w p code addr s) := by
  unfold refusedTierP
  repeat' (first
    | (with_reducible assumption) | (intro _) | (with_reducible apply Keeps.ite) | (with_reducible apply raiseFault_keeps)
    | (split) | (dsimp only))

theorem refusalFault_keeps {s0 : State} {v : Nat} {p : Nat} {code : Nat} {addr : Nat} {master : Nat}
    {s : State} (hs : Keeps s0 s) : Keeps s0 (refusalFault v p code addr master s) := by
  unfold refusalFault
  repeat' (first
    | (with_reducible assumption) | (intro _) | (with_reducible apply Keeps.ite) | (with_reducible apply raiseFault_keeps)
    | (split) | (dsimp only))

theorem tcMark_keeps {s0 : State} {v : Nat} {unit : Nat} {s : State} (hs : Keeps s0 s) : Keeps s0 (tcMark v unit s) := by
  unfold tcMark
  repeat' (first
    | (with_reducible assumption) | (intro _) | (with_reducible apply State.setVault_keeps) | (split) | (dsimp only))

theorem tcFirst_keeps {s0 : State} {v : Nat} {unit : Nat} {unc : Bool} {s : State} (hs : Keeps s0 s)
    : Keeps s0 (tcFirst v unit unc s) := by
  unfold tcFirst
  repeat' (first
    | (with_reducible assumption) | (intro _) | (with_reducible apply Keeps.ite) | (with_reducible apply State.count_keeps)
    | (with_reducible apply State.set_keeps) | (split) | (dsimp only))

theorem tcUncorrectable_keeps {s0 : State} {v : Nat} {unit : Nat} {p : Nat} {master : Nat} {s : State} (hs : Keeps s0 s)
    : Keeps s0 (tcUncorrectable v unit p master s) := by
  unfold tcUncorrectable
  repeat' (first
    | (with_reducible assumption) | (intro _) | (with_reducible apply raiseFault_keeps)
    | (with_reducible apply tcMark_keeps) | (with_reducible apply tcFirst_keeps) | (split) | (dsimp only))

theorem tcCorrected_keeps {s0 : State} {v : Nat} {unit : Nat} {p : Nat} {master : Nat} {s : State} (hs : Keeps s0 s)
    : Keeps s0 (tcCorrected v unit p master s) := by
  unfold tcCorrected
  repeat' (first
    | (with_reducible assumption) | (intro _) | (with_reducible apply raiseFault_keeps)
    | (with_reducible apply tcFirst_keeps) | (split) | (dsimp only))

theorem tcRead_keeps {s0 : State} {v : Nat} {unit : Nat} {p : Nat} {ecc : Nat} {master : Nat} {s : State} (hs : Keeps s0 s)
    : Keeps s0 (tcRead v unit p ecc master s).2 := by
  unfold tcRead
  repeat' (first
    | (with_reducible assumption) | (intro _) | (with_reducible apply Keeps.ite)
    | (with_reducible apply State.setVault_keeps) | (with_reducible apply tcUncorrectable_keeps)
    | (with_reducible apply tcCorrected_keeps) | (split) | (dsimp only))

theorem startTierNZero_keeps {s0 : State} {f : Nat} {s : State} (hs : Keeps s0 s) : Keeps s0 (startTierNZero f s) := by
  unfold startTierNZero
  repeat' (first
    | (with_reducible assumption) | (intro _) | (with_reducible apply State.set_keeps)
    | (with_reducible apply State.setField_keeps) | (split) | (dsimp only))

theorem captureTiers_keeps {s0 : State} {fields : List Nat} {s : State} (hs : Keeps s0 s)
    : Keeps s0 (captureTiers fields s) := by
  unfold captureTiers
  repeat' (first
    | (with_reducible assumption) | (intro _) | (with_reducible apply Keeps.forEach)
    | (with_reducible apply State.setField_keeps) | (with_reducible apply State.setVault_keeps) | (split) | (dsimp only))

theorem showCkpt_keeps {s0 : State} {v : Nat} {s : State} (hs : Keeps s0 s) : Keeps s0 (showCkpt v s) := by
  unfold showCkpt
  repeat' (first
    | (with_reducible assumption) | (intro _) | (with_reducible apply State.set_keeps) | (split) | (dsimp only))

theorem endCkpt_keeps {s0 : State} {p : Nat} {status : Nat} {result : List Byte} {rfet : Fet} {s : State} (hs : Keeps s0 s)
    : Keeps s0 (endCkpt p status result rfet s) := by
  unfold endCkpt
  repeat' (first
    | (with_reducible assumption) | (intro _) | (with_reducible apply Keeps.ite) | (with_reducible apply Keeps.forEach)
    | (with_reducible apply showCkpt_keeps) | (with_reducible apply State.setVault_keeps)
    | (with_reducible apply State.setPart_keeps) | (simp only [↓Keeps.upd_iff]) | (split) | (dsimp only))

theorem ckptCompletionRecord_keeps {s0 : State} {p : Nat} {s : State} (hs : Keeps s0 s)
    : Keeps s0 (ckptCompletionRecord p s) := by
  unfold ckptCompletionRecord
  repeat' (first
    | (with_reducible assumption) | (intro _) | (with_reducible apply Keeps.ite)
    | (with_reducible apply State.journal_keeps) | (with_reducible apply endCkpt_keeps) | (split) | (dsimp only))

theorem dropSlot_keeps {s0 : State} {p : Nat} {slot : Nat} {s : State} (hs : Keeps s0 s) : Keeps s0 (dropSlot p slot s) := by
  unfold dropSlot
  repeat' (first
    | (with_reducible assumption) | (intro _) | (with_reducible apply Keeps.forEach)
    | (with_reducible apply State.setVault_keeps) | (split) | (dsimp only))

theorem ckptEpoch_keeps {s0 : State} {p : Nat} {s : State} (hs : Keeps s0 s) : Keeps s0 (ckptEpoch p s) := by
  unfold ckptEpoch
  repeat' (first
    | (with_reducible assumption) | (intro _) | (with_reducible apply Keeps.ite) | (with_reducible apply Keeps.foldl)
    | (with_reducible apply Keeps.foldl_snd) | (with_reducible apply Keeps.foldl_third)
    | (with_reducible apply dropSlot_keeps) | (with_reducible apply State.setPart_keeps)
    | (with_reducible apply Keeps.forEach) | (with_reducible apply showCkpt_keeps)
    | (with_reducible apply State.setVault_keeps) | (split) | (dsimp only))

theorem tnWrite_keeps {s0 : State} {f : Nat} {unit : Nat} {l : List PWord} {s : State} (hs : Keeps s0 s)
    : Keeps s0 (tnWrite f unit l s) := by
  unfold tnWrite
  repeat' (first
    | (with_reducible assumption) | (intro _) | (with_reducible apply Keeps.ite) | (with_reducible apply State.set_keeps)
    | (with_reducible apply State.setField_keeps) | (with_reducible apply raiseFault_keeps) | (split) | (dsimp only))

theorem tcStore_keeps {s0 : State} {v : Nat} {unit : Nat} {key : List Byte} {l : List Byte} {bad : Bool}
    {s : State} (hs : Keeps s0 s) : Keeps s0 (tcStore v unit key l bad s) := by
  unfold tcStore
  repeat' (first
    | (with_reducible assumption) | (intro _) | (with_reducible apply Keeps.ite) | (with_reducible apply State.set_keeps)
    | (with_reducible apply State.setVault_keeps) | (split) | (dsimp only))

theorem tcWrite_keeps {s0 : State} {v : Nat} {unit : Nat} {p : Nat} {l : List PWord} {s : State} (hs : Keeps s0 s)
    : Keeps s0 (tcWrite v unit p l s) := by
  unfold tcWrite
  repeat' (first
    | (with_reducible assumption) | (intro _) | (with_reducible apply tcStore_keeps) | (split) | (dsimp only))

theorem tnMark_keeps {s0 : State} {f : Nat} {unit : Nat} {s : State} (hs : Keeps s0 s) : Keeps s0 (tnMark f unit s) := by
  unfold tnMark
  repeat' (first
    | (with_reducible assumption) | (intro _) | (with_reducible apply State.setField_keeps) | (split) | (dsimp only))

theorem tnFirst_keeps {s0 : State} {f : Nat} {unit : Nat} {unc : Bool} {s : State} (hs : Keeps s0 s)
    : Keeps s0 (tnFirst f unit unc s) := by
  unfold tnFirst
  repeat' (first
    | (with_reducible assumption) | (intro _) | (with_reducible apply Keeps.ite) | (with_reducible apply State.count_keeps)
    | (with_reducible apply State.set_keeps) | (split) | (dsimp only))

theorem tnUncorrectable_keeps {s0 : State} {f : Nat} {unit : Nat} {master : Nat} {sole : Bool} {s : State} (hs : Keeps s0 s)
    : Keeps s0 (tnUncorrectable f unit master sole s) := by
  unfold tnUncorrectable
  repeat' (first
    | (with_reducible assumption) | (intro _) | (with_reducible apply Keeps.ite) | (with_reducible apply tnMark_keeps)
    | (with_reducible apply tnFirst_keeps) | (with_reducible apply raiseFault_keeps) | (split) | (dsimp only))

theorem tnCorrected_keeps {s0 : State} {f : Nat} {unit : Nat} {s : State} (hs : Keeps s0 s)
    : Keeps s0 (tnCorrected f unit s) := by
  unfold tnCorrected
  repeat' (first
    | (with_reducible assumption) | (intro _) | (with_reducible apply tnFirst_keeps)
    | (with_reducible apply raiseFault_keeps) | (split) | (dsimp only))

theorem tnRead_keeps {s0 : State} {f : Nat} {unit : Nat} {ecc : Nat} {master : Nat} {sole : Bool}
    {s : State} (hs : Keeps s0 s) : Keeps s0 (tnRead f unit ecc master sole s).2 := by
  unfold tnRead
  repeat' (first
    | (with_reducible assumption) | (intro _) | (with_reducible apply Keeps.ite)
    | (with_reducible apply State.setField_keeps) | (with_reducible apply tnUncorrectable_keeps)
    | (with_reducible apply tnCorrected_keeps) | (split) | (dsimp only))

theorem restoreSegment_keeps {s0 : State} {w : Nat} {k : CkptState} {g : Segment} {s : State} (hs : Keeps s0 s)
    : Keeps s0 (restoreSegment w k g s) := by
  unfold restoreSegment
  repeat' (first
    | (with_reducible assumption) | (intro _) | (with_reducible apply Keeps.ite)
    | (with_reducible apply State.setVault_keeps) | (with_reducible apply Keeps.forEach)
    | (with_reducible apply tcStore_keeps) | (split) | (dsimp only))

theorem restoreSlot_keeps {s0 : State} {p : Nat} {slot : Nat} {e : Fet} {s : State} (hs : Keeps s0 s)
    : Keeps s0 (restoreSlot p slot e s).2 := by
  unfold restoreSlot
  repeat' (first
    | (with_reducible assumption) | (intro _) | (with_reducible apply Keeps.ite) | (with_reducible apply Keeps.foldl)
    | (with_reducible apply Keeps.foldl_snd) | (with_reducible apply Keeps.foldl_third)
    | (with_reducible apply refusedTierP_keeps) | (with_reducible apply refusalFault_keeps)
    | (with_reducible apply restoreSegment_keeps) | (split) | (dsimp only))

theorem noteCopied_keeps {s0 : State} {v : Nat} {g : Nat} {place : Nat} {s : State} (hs : Keeps s0 s)
    : Keeps s0 (noteCopied v g place s) := by
  unfold noteCopied
  repeat' (first
    | (with_reducible assumption) | (intro _) | (with_reducible apply showCkpt_keeps)
    | (with_reducible apply State.setVault_keeps) | (split) | (dsimp only))

theorem segErrors_keeps {s0 : State} {v : Nat} {p : Nat} {place : Nat} {s : State} (hs : Keeps s0 s)
    : Keeps s0 (segErrors v p place s) := by
  unfold segErrors
  repeat' (first
    | (with_reducible assumption) | (intro _) | (with_reducible apply Keeps.ite) | (with_reducible apply Keeps.forEach)
    | (with_reducible apply State.setVault_keeps) | (with_reducible apply tcUncorrectable_keeps) | (split) | (dsimp only))

theorem copySegment_keeps {s0 s : State} {v g place : Nat} {key : List Byte} (h : Keeps s0 s) :
    Keeps s0 (copySegment v key g place s) := by
  unfold copySegment
  exact Keeps.forEach h (fun _ _ k => tcStore_keeps k)

theorem copyOnWrite_keeps {s0 : State} {v : Nat} {addr : Nat} {ok : Bool} {s : State} (hs : Keeps s0 s)
    : Keeps s0 (copyOnWrite v addr ok s) := by
  unfold copyOnWrite
  repeat' (first
    | (with_reducible assumption) | (intro _) | (with_reducible apply Keeps.ite) | (with_reducible apply State.count_keeps)
    | (with_reducible apply noteCopied_keeps) | (with_reducible apply segErrors_keeps)
    | (with_reducible apply copySegment_keeps) | (with_reducible apply refusalFault_keeps)
    | (with_reducible apply raiseFault_keeps) | (with_reducible apply endCkpt_keeps) | (split) | (dsimp only))

theorem tierNZeroDone_keeps {s0 : State} {f : Nat} {s : State} (hs : Keeps s0 s) : Keeps s0 (tierNZeroDone f s) := by
  unfold tierNZeroDone
  repeat' (first
    | (with_reducible assumption) | (intro _) | (with_reducible apply State.set_keeps)
    | (with_reducible apply State.setField_keeps) | (split) | (dsimp only))

theorem patrolScrub_keeps {s0 : State} {x : Nat} {corr : List Nat} {unc : List Nat} {s : State} (hs : Keeps s0 s)
    : Keeps s0 (patrolScrub x corr unc s) := by
  unfold patrolScrub
  repeat' (first
    | (with_reducible assumption) | (intro _) | (with_reducible apply Keeps.ite)
    | (with_reducible apply State.setField_keeps) | (with_reducible apply Keeps.forEach)
    | (with_reducible apply tnCorrected_keeps) | (with_reducible apply tnUncorrectable_keeps)
    | (with_reducible apply State.setVault_keeps) | (with_reducible apply tcCorrected_keeps)
    | (with_reducible apply tcUncorrectable_keeps) | (split) | (dsimp only))

theorem intoFlash_keeps {s0 : State} {k : CkptState} {g : Segment} {s : State} (hs : Keeps s0 s)
    : Keeps s0 (intoFlash k g s) := by
  unfold intoFlash
  repeat' (first
    | (with_reducible assumption) | (intro _) | (with_reducible apply State.setVault_keeps) | (split) | (dsimp only))

theorem segmentSave_keeps {s0 : State} {v : Nat} {s : State} (hs : Keeps s0 s) : Keeps s0 (segmentSave v s) := by
  unfold segmentSave
  repeat' (first
    | (with_reducible assumption) | (intro _) | (with_reducible apply Keeps.ite) | (with_reducible apply refusedTierP_keeps)
    | (with_reducible apply refusalFault_keeps) | (with_reducible apply segErrors_keeps)
    | (with_reducible apply showCkpt_keeps) | (with_reducible apply intoFlash_keeps)
    | (with_reducible apply State.setVault_keeps) | (split) | (dsimp only))

theorem journalStagingFlush_keeps {s0 : State} {s : State} (hs : Keeps s0 s) : Keeps s0 (journalStagingFlush s) := by
  unfold journalStagingFlush
  repeat' (first
    | (with_reducible assumption) | (intro _) | (with_reducible apply Keeps.ite) | (with_reducible apply flushJournal_keeps)
    | (split) | (dsimp only))

theorem recalTiers_keeps {s0 : State} {draw : Nat} {s : State} (hs : Keeps s0 s) : Keeps s0 (recalTiers draw s) := by
  unfold recalTiers
  repeat' (first
    | (with_reducible assumption) | (intro _) | (with_reducible apply Keeps.forEach)
    | (with_reducible apply State.setField_keeps) | (with_reducible apply State.setVault_keeps) | (split) | (dsimp only))

end Sys2Proof.Machine
end

