-- ==== Sys2Proof/Laws/KeepsMovers.lean ====
section
/-!
SUPPORT. Laws/KeepsMovers.lean: each state transformer of Machine/Movers.lean keeps what `Keeps` says: the queue of waiting
commands, what was emitted, the counter of free values, the canonical form of every table.
-/
set_option linter.unusedTactic false
set_option linter.unreachableTactic false
set_option linter.unusedSimpArgs false
namespace Sys2Proof.Machine

theorem setDesc_keeps {s0 : State} {f : Nat} {e : Desc} {s : State} (hs : Keeps s0 s) : Keeps s0 (setDesc f e s) := by
  unfold setDesc
  repeat' (first
    | (with_reducible assumption) | (intro _) | (with_reducible apply Keeps.ite)
    | (with_reducible apply State.setField_keeps) | (split) | (dsimp only))

theorem ackArrivals_keeps {s0 : State} {f : Nat} {e : Desc} {s : State} (hs : Keeps s0 s) : Keeps s0 (ackArrivals f e s) := by
  unfold ackArrivals
  repeat' (first
    | (with_reducible assumption) | (intro _) | (with_reducible apply Keeps.ite) | (with_reducible apply Keeps.foldl)
    | (with_reducible apply Keeps.foldl_snd) | (with_reducible apply Keeps.foldl_third)
    | (with_reducible apply setDesc_keeps) | (with_reducible apply State.setCell_keeps) | (split) | (dsimp only))

theorem beginAccess_keeps {s0 : State} {f : Nat} {branch : Nat} {i : Nat} {e : Desc} {s : State} (hs : Keeps s0 s)
    : Keeps s0 (beginAccess f branch i e s) := by
  unfold beginAccess
  repeat' (first
    | (with_reducible assumption) | (intro _) | (with_reducible apply Keeps.ite)
    | (with_reducible apply State.setField_keeps) | (with_reducible apply State.count_keeps)
    | (with_reducible apply setDesc_keeps) | (with_reducible apply State.high_keeps)
    | (with_reducible apply State.setCell_keeps) | (split) | (dsimp only))

theorem showQueue_keeps {s0 : State} {f : Nat} {q : Nat} {s : State} (hs : Keeps s0 s) : Keeps s0 (showQueue f q s) := by
  unfold showQueue
  repeat' (first
    | (with_reducible assumption) | (intro _) | (with_reducible apply State.set_keeps) | (split) | (dsimp only))

theorem freeEntries_keeps {s0 : State} {f : Nat} {q : Nat} {s : State} (hs : Keeps s0 s) : Keeps s0 (freeEntries f q s) := by
  unfold freeEntries
  repeat' (first
    | (with_reducible assumption) | (intro _) | (with_reducible apply showQueue_keeps)
    | (with_reducible apply State.setField_keeps) | (split) | (dsimp only))

theorem descriptorComplete_keeps {s0 : State} {f : Nat} {q : Nat} {s : State} (hs : Keeps s0 s)
    : Keeps s0 (descriptorComplete f q s) := by
  unfold descriptorComplete
  repeat' (first
    | (with_reducible assumption) | (intro _) | (with_reducible apply Keeps.ite) | (with_reducible apply Keeps.foldl)
    | (with_reducible apply Keeps.foldl_snd) | (with_reducible apply Keeps.foldl_third)
    | (with_reducible apply freeEntries_keeps) | (with_reducible apply ackArrivals_keeps) | (split) | (dsimp only))

theorem moverError_keeps {s0 : State} {f : Nat} {code : Nat} {q : Nat} {idx : Nat} {cell : Nat} {s : State} (hs : Keeps s0 s)
    : Keeps s0 (moverError f code q idx cell s) := by
  unfold moverError
  repeat' (first
    | (with_reducible assumption) | (intro _) | (with_reducible apply Keeps.ite) | (with_reducible apply State.count_keeps)
    | (with_reducible apply State.set_keeps) | (split) | (dsimp only))

theorem malformed_keeps {s0 : State} {f : Nat} {q : Nat} {idx : Nat} {s : State} (hs : Keeps s0 s)
    : Keeps s0 (malformed f q idx s) := by
  unfold malformed
  repeat' (first
    | (with_reducible assumption) | (intro _) | (with_reducible apply moverError_keeps)
    | (with_reducible apply raiseFault_keeps) | (split) | (dsimp only))

theorem descriptorStart_keeps {s0 : State} {f : Nat} {q : Nat} {s : State} (hs : Keeps s0 s)
    : Keeps s0 (descriptorStart f q s) := by
  unfold descriptorStart
  repeat' (first
    | (with_reducible assumption) | (intro _) | (with_reducible apply Keeps.ite) | (with_reducible apply State.high_keeps)
    | (with_reducible apply setDesc_keeps) | (with_reducible apply showQueue_keeps) | (with_reducible apply malformed_keeps)
    | (split) | (dsimp only))

theorem postDesc_keeps {s0 : State} {f : Nat} {q : Nat} {idx : Nat} {word : Nat} {s : State} (hs : Keeps s0 s)
    : Keeps s0 (postDesc f q idx word s) := by
  unfold postDesc
  repeat' (first
    | (with_reducible assumption) | (intro _) | (with_reducible apply showQueue_keeps)
    | (with_reducible apply State.setField_keeps) | (split) | (dsimp only))

theorem refuseAccess_keeps {s0 : State} {f : Nat} {v : Nat} {code : Nat} {addr : Nat} {i : Nat} {e : Desc}
    {s : State} (hs : Keeps s0 s) : Keeps s0 (refuseAccess f v code addr i e s) := by
  unfold refuseAccess
  repeat' (first
    | (with_reducible assumption) | (intro _) | (with_reducible apply Keeps.ite) | (with_reducible apply moverError_keeps)
    | (with_reducible apply setDesc_keeps) | (with_reducible apply showQueue_keeps)
    | (with_reducible apply refusalFault_keeps) | (split) | (dsimp only))

theorem moverAccessStart_keeps {s0 : State} {f : Nat} {branch : Nat} {s : State} (hs : Keeps s0 s)
    : Keeps s0 (moverAccessStart f branch s) := by
  unfold moverAccessStart
  repeat' (first
    | (with_reducible assumption) | (intro _) | (with_reducible apply Keeps.ite) | (with_reducible apply refuseAccess_keeps)
    | (with_reducible apply beginAccess_keeps) | (with_reducible apply State.setField_keeps) | (split) | (dsimp only))

theorem finishAccess_keeps {s0 : State} {f : Nat} {a : MoverAcc} {s : State} (hs : Keeps s0 s)
    : Keeps s0 (finishAccess f a s) := by
  unfold finishAccess
  repeat' (first
    | (with_reducible assumption) | (intro _) | (with_reducible apply Keeps.ite)
    | (with_reducible apply State.setField_keeps) | (with_reducible apply setDesc_keeps) | (split) | (dsimp only))

theorem tierRead_keeps {s0 : State} {f : Nat} {ecc : Nat} {a : MoverAcc} {s : State} (hs : Keeps s0 s)
    : Keeps s0 (tierRead f ecc a s).2 := by
  unfold tierRead
  repeat' (first
    | (with_reducible assumption) | (intro _) | (with_reducible apply Keeps.ite) | (with_reducible apply tnRead_keeps)
    | (with_reducible apply tcRead_keeps) | (with_reducible apply moverError_keeps) | (split) | (dsimp only))

theorem setAccess_keeps {s0 : State} {f : Nat} {a : MoverAcc} {s : State} (hs : Keeps s0 s) : Keeps s0 (setAccess f a s) := by
  unfold setAccess
  repeat' (first
    | (with_reducible assumption) | (intro _) | (with_reducible apply Keeps.ite)
    | (with_reducible apply State.setField_keeps) | (split) | (dsimp only))

theorem queueWrites_keeps {s0 : State} {f : Nat} {a : MoverAcc} {l : List PWord} {s : State} (hs : Keeps s0 s)
    : Keeps s0 (queueWrites f a l s) := by
  unfold queueWrites
  repeat' (first
    | (with_reducible assumption) | (intro _) | (with_reducible apply Keeps.ite) | (with_reducible apply Keeps.foldl)
    | (with_reducible apply Keeps.foldl_snd) | (with_reducible apply Keeps.foldl_third)
    | (with_reducible apply State.setCell_keeps) | (with_reducible apply setAccess_keeps) | (split) | (dsimp only))

theorem tierWrite_keeps {s0 : State} {f : Nat} {a : MoverAcc} {l : List PWord} {s : State} (hs : Keeps s0 s)
    : Keeps s0 (tierWrite f a l s) := by
  unfold tierWrite
  repeat' (first
    | (with_reducible assumption) | (intro _) | (with_reducible apply Keeps.ite) | (with_reducible apply tnWrite_keeps)
    | (with_reducible apply tcWrite_keeps) | (split) | (dsimp only))

theorem moverAccessComplete_keeps {s0 : State} {f : Nat} {id : Nat} {ecc : Nat} {s : State} (hs : Keeps s0 s)
    : Keeps s0 (moverAccessComplete f id ecc s) := by
  unfold moverAccessComplete
  repeat' (first
    | (with_reducible assumption) | (intro _) | (with_reducible apply Keeps.ite) | (with_reducible apply finishAccess_keeps)
    | (with_reducible apply tierRead_keeps) | (with_reducible apply queueWrites_keeps)
    | (with_reducible apply tierWrite_keeps) | (split) | (dsimp only))

end Sys2Proof.Machine
end

