-- ==== Sys2Proof/Laws/KeepsPlans.lean ====
section
/-!
SUPPORT. Laws/KeepsPlans.lean: each state transformer of Machine/Plans.lean keeps what `Keeps` says: the queue of waiting
commands, what was emitted, the counter of free values, the canonical form of every table.
-/
set_option linter.unusedTactic false
set_option linter.unreachableTactic false
set_option linter.unusedSimpArgs false
namespace Sys2Proof.Machine

theorem fldCntClear_keeps {s0 : State} {f : Nat} {s : State} (hs : Keeps s0 s) : Keeps s0 (fldCntClear f s) := by
  unfold fldCntClear
  repeat' (first
    | (with_reducible assumption) | (intro _) | (with_reducible apply State.set_keeps)
    | (with_reducible apply State.wr_keeps) | (split) | (dsimp only))

theorem armTriggers_keeps {s0 : State} {p : Nat} {s : State} (hs : Keeps s0 s) : Keeps s0 (armTriggers p s) := by
  unfold armTriggers
  repeat' (first
    | (with_reducible assumption) | (intro _) | (with_reducible apply Keeps.ite) | (with_reducible apply Keeps.forEach)
    | (with_reducible apply State.setPort_keeps) | (split) | (dsimp only))

theorem stopAtZero_keeps {s0 : State} {f : Nat} {s : State} (hs : Keeps s0 s) : Keeps s0 (stopAtZero f s) := by
  unfold stopAtZero
  repeat' (first
    | (with_reducible assumption) | (intro _) | (with_reducible apply Keeps.ite) | (with_reducible apply haltSeq_keeps)
    | (with_reducible apply Keeps.forEach) | (with_reducible apply clearTags_keeps)
    | (with_reducible apply setPartState_keeps) | (split) | (dsimp only))

theorem arrive_keeps {s0 : State} {f : Nat} {s : State} (hs : Keeps s0 s) : Keeps s0 (arrive f s) := by
  unfold arrive
  repeat' (first
    | (with_reducible assumption) | (intro _) | (with_reducible apply Keeps.ite)
    | (with_reducible apply State.setField_keeps) | (with_reducible apply stopAtZero_keeps)
    | (with_reducible apply State.set_keeps) | (split) | (dsimp only))

theorem backPressure_keeps {s0 : State} {f : Nat} {s : State} (hs : Keeps s0 s) : Keeps s0 (backPressure f s) := by
  unfold backPressure
  repeat' (first
    | (with_reducible assumption) | (intro _) | (with_reducible apply State.count_keeps)
    | (with_reducible apply State.set_keeps) | (split) | (dsimp only))

theorem freeStore_keeps {s0 : State} {f : Nat} {s : State} (hs : Keeps s0 s) : Keeps s0 (freeStore f s) := by
  unfold freeStore
  repeat' (first
    | (with_reducible assumption) | (intro _) | (with_reducible apply State.setField_keeps)
    | (with_reducible apply State.set_keeps) | (split) | (dsimp only))

theorem zeroField_keeps {s0 : State} {f : Nat} {s : State} (hs : Keeps s0 s) : Keeps s0 (zeroField f s) := by
  unfold zeroField
  repeat' (first
    | (with_reducible assumption) | (intro _) | (with_reducible apply State.setField_keeps)
    | (with_reducible apply startTierNZero_keeps) | (with_reducible apply Keeps.forEach)
    | (with_reducible apply startZero_keeps) | (split) | (dsimp only))

theorem clearField_keeps {s0 : State} {f : Nat} {s : State} (hs : Keeps s0 s) : Keeps s0 (clearField f s) := by
  unfold clearField
  repeat' (first
    | (with_reducible assumption) | (intro _) | (with_reducible apply Keeps.ite) | (with_reducible apply freeStore_keeps)
    | (with_reducible apply dropMovers_keeps) | (with_reducible apply stopField_keeps)
    | (with_reducible apply zeroField_keeps) | (with_reducible apply State.setField_keeps) | (split) | (dsimp only))

theorem beginStep_keeps {s0 : State} {p : Nat} {b : Fet} {count : Nat} {s : State} (hs : Keeps s0 s)
    : Keeps s0 (beginStep p b count s) := by
  unfold beginStep
  repeat' (first
    | (with_reducible assumption) | (intro _) | (with_reducible apply Keeps.ite) | (with_reducible apply armTriggers_keeps)
    | (with_reducible apply State.setPart_keeps) | (with_reducible apply startUpdates_keeps) | (split) | (dsimp only))

theorem clearLoops_keeps {s0 : State} {f : Nat} {s : State} (hs : Keeps s0 s) : Keeps s0 (clearLoops f s) := by
  unfold clearLoops
  repeat' (first
    | (with_reducible assumption) | (intro _) | (with_reducible apply State.wr_keeps) | (split) | (dsimp only))

theorem broadcast_keeps {s0 : State} {f : Nat} {cyc : Nat} {w : Nat} {sent : Nat} {s : State} (hs : Keeps s0 s)
    : Keeps s0 (broadcast f cyc w sent s) := by
  unfold broadcast
  repeat' (first
    | (with_reducible assumption) | (intro _) | (with_reducible apply State.set_keeps)
    | (with_reducible apply Keeps.forEach) | (with_reducible apply State.high_keeps)
    | (with_reducible apply State.setCell_keeps) | (split) | (dsimp only))

theorem onBundle_keeps {s0 : State} {f : Nat} {cyc : Nat} {kind : Nat → Bool} {s : State}
    {g : Nat → State → State} (hs : Keeps s0 s) (hg : ∀ x0 x1, Keeps s0 x1 → Keeps s0 (g x0 x1))
    : Keeps s0 (onBundle f cyc kind s g) := by
  unfold onBundle
  repeat' (first
    | (with_reducible assumption) | (intro _) | (with_reducible apply Keeps.ite) | (with_reducible apply onCycle_keeps)
    | (with_reducible apply State.setField_keeps) | (with_reducible apply hg) | (split) | (dsimp only))

theorem goto_keeps {s0 : State} {f : Nat} {pc : Nat} {s : State} (hs : Keeps s0 s) : Keeps s0 (goto f pc s) := by
  unfold goto
  repeat' (first
    | (with_reducible assumption) | (intro _) | (with_reducible apply arrive_keeps) | (with_reducible apply State.set_keeps)
    | (split) | (dsimp only))

theorem bundleIssue_keeps {s0 : State} {f : Nat} {cyc : Nat} {s : State} (hs : Keeps s0 s)
    : Keeps s0 (bundleIssue f cyc s) := by
  unfold bundleIssue
  repeat' (first
    | (with_reducible assumption) | (intro _) | (with_reducible apply Keeps.ite) | (with_reducible apply onBundle_keeps)
    | (with_reducible apply goto_keeps) | (with_reducible apply broadcast_keeps) | (with_reducible apply backPressure_keeps)
    | (split) | (dsimp only))

theorem recordSent_keeps {s0 : State} {f : Nat} {a : Nat} {b : Nat} {reserve : Nat} {s : State} (hs : Keeps s0 s)
    : Keeps s0 (recordSent f a b reserve s) := by
  unfold recordSent
  repeat' (first
    | (with_reducible assumption) | (intro _) | (with_reducible apply Keeps.ite) | (with_reducible apply State.count_keeps)
    | (with_reducible apply State.set_keeps) | (split) | (dsimp only))

theorem compareTiles_keeps {s0 : State} {f : Nat} {i : Nat} {j : Nat} {p : Nat} {q : Nat} {s : State} (hs : Keeps s0 s)
    : Keeps s0 (compareTiles f i j p q s) := by
  unfold compareTiles
  repeat' (first
    | (with_reducible assumption) | (intro _) | (with_reducible apply Keeps.ite)
    | (with_reducible apply State.setCell_keeps) | (with_reducible apply State.set_keeps)
    | (with_reducible apply raiseFault_keeps) | (with_reducible apply recordSent_keeps) | (split) | (dsimp only))

theorem dropUsed_keeps {s0 : State} {p : Nat} {s : State} (hs : Keeps s0 s) : Keeps s0 (dropUsed p s) := by
  unfold dropUsed
  repeat' (first
    | (with_reducible assumption) | (intro _) | (with_reducible apply State.setPart_keeps) | (split) | (dsimp only))

theorem endBundle_keeps {s0 : State} {f : Nat} {cyc : Nat} {s : State} (hs : Keeps s0 s) : Keeps s0 (endBundle f cyc s) := by
  unfold endBundle
  repeat' (first
    | (with_reducible assumption) | (intro _) | (with_reducible apply onBundle_keeps) | (with_reducible apply goto_keeps)
    | (split) | (dsimp only))

theorem lateGate_keeps {s0 : State} {f : Nat} {ns : Nat} {s : State} (hs : Keeps s0 s) : Keeps s0 (lateGate f ns s) := by
  unfold lateGate
  repeat' (first
    | (with_reducible assumption) | (intro _) | (with_reducible apply State.set_keeps)
    | (with_reducible apply State.count_keeps) | (with_reducible apply raiseFault_keeps) | (split) | (dsimp only))

theorem stepBundle_keeps {s0 : State} {f : Nat} {cyc : Nat} {s : State} (hs : Keeps s0 s) : Keeps s0 (stepBundle f cyc s) := by
  unfold stepBundle
  repeat' (first
    | (with_reducible assumption) | (intro _) | (with_reducible apply Keeps.ite) | (with_reducible apply onBundle_keeps)
    | (with_reducible apply backPressure_keeps) | (with_reducible apply lateGate_keeps)
    | (with_reducible apply beginStep_keeps) | (with_reducible apply State.setField_keeps)
    | (with_reducible apply State.set_keeps) | (with_reducible apply clearLoops_keeps)
    | (with_reducible apply dropUsed_keeps) | (with_reducible apply goto_keeps) | (with_reducible apply broadcast_keeps)
    | (split) | (dsimp only))

theorem postMoves_keeps {s0 : State} {f : Nat} {w : Nat} {s : State} (hs : Keeps s0 s) : Keeps s0 (postMoves f w s) := by
  unfold postMoves
  repeat' (first
    | (with_reducible assumption) | (intro _) | (with_reducible apply Keeps.ite) | (with_reducible apply Keeps.foldl)
    | (with_reducible apply Keeps.foldl_snd) | (with_reducible apply Keeps.foldl_third)
    | (with_reducible apply malformed_keeps) | (with_reducible apply postDesc_keeps)
    | (with_reducible apply State.set_keeps) | (split) | (dsimp only))

theorem issueWork_keeps {s0 : State} {f : Nat} {cyc : Nat} {w : Nat} {s : State} (hs : Keeps s0 s)
    : Keeps s0 (issueWork f cyc w s) := by
  unfold issueWork
  repeat' (first
    | (with_reducible assumption) | (intro _) | (with_reducible apply Keeps.ite) | (with_reducible apply goto_keeps)
    | (with_reducible apply postMoves_keeps) | (with_reducible apply backPressure_keeps)
    | (with_reducible apply broadcast_keeps) | (split) | (dsimp only))

theorem gateDue_keeps {s0 : State} {f : Nat} {cyc : Nat} {s : State} (hs : Keeps s0 s) : Keeps s0 (gateDue f cyc s) := by
  unfold gateDue
  repeat' (first
    | (with_reducible assumption) | (intro _) | (with_reducible apply Keeps.ite) | (with_reducible apply onBundle_keeps)
    | (with_reducible apply lateGate_keeps) | (with_reducible apply State.set_keeps)
    | (with_reducible apply State.setField_keeps) | (with_reducible apply issueWork_keeps) | (split) | (dsimp only))

theorem loopEnd_keeps {s0 : State} {f : Nat} {cyc : Nat} {s : State} (hs : Keeps s0 s) : Keeps s0 (loopEnd f cyc s) := by
  unfold loopEnd
  repeat' (first
    | (with_reducible assumption) | (intro _) | (with_reducible apply Keeps.ite) | (with_reducible apply onBundle_keeps)
    | (with_reducible apply goto_keeps) | (with_reducible apply State.set_keeps) | (split) | (dsimp only))

theorem moveBundle_keeps {s0 : State} {f : Nat} {cyc : Nat} {s : State} (hs : Keeps s0 s) : Keeps s0 (moveBundle f cyc s) := by
  unfold moveBundle
  repeat' (first
    | (with_reducible assumption) | (intro _) | (with_reducible apply onBundle_keeps)
    | (with_reducible apply issueWork_keeps) | (split) | (dsimp only))

theorem sentinelBundle_keeps {s0 : State} {f : Nat} {cyc : Nat} {s : State} (hs : Keeps s0 s)
    : Keeps s0 (sentinelBundle f cyc s) := by
  unfold sentinelBundle
  repeat' (first
    | (with_reducible assumption) | (intro _) | (with_reducible apply Keeps.ite) | (with_reducible apply onBundle_keeps)
    | (with_reducible apply goto_keeps) | (with_reducible apply State.set_keeps) | (with_reducible apply broadcast_keeps)
    | (with_reducible apply backPressure_keeps) | (split) | (dsimp only))

theorem sentSigCompare_keeps {s0 : State} {f : Nat} {cyc : Nat} {i : Nat} {s : State} (hs : Keeps s0 s)
    : Keeps s0 (sentSigCompare f cyc i s) := by
  unfold sentSigCompare
  repeat' (first
    | (with_reducible assumption) | (intro _) | (with_reducible apply Keeps.ite) | (with_reducible apply onCycle_keeps)
    | (with_reducible apply compareTiles_keeps) | (split) | (dsimp only))

theorem reserveSentinelTile_keeps {s0 : State} {f : Nat} {pos : Nat} {sigErr : Word} {s : State} (hs : Keeps s0 s)
    : Keeps s0 (reserveSentinelTile f pos sigErr s) := by
  unfold reserveSentinelTile
  repeat' (first
    | (with_reducible assumption) | (intro _) | (with_reducible apply Keeps.ite) | (with_reducible apply State.wr_keeps)
    | (with_reducible apply sentinelResidue_keeps) | (with_reducible apply State.setCell_keeps)
    | (with_reducible apply State.set_keeps) | (with_reducible apply raiseFault_keeps)
    | (with_reducible apply recordSent_keeps) | (split) | (dsimp only))

end Sys2Proof.Machine
end

