-- ==== Sys2Proof/Laws/KeepsMesh.lean ====
section
/-!
SUPPORT. Laws/KeepsMesh.lean: each state transformer of Machine/Mesh.lean keeps what `Keeps` says: the queue of waiting
commands, what was emitted, the counter of free values, the canonical form of every table.
-/
set_option linter.unusedTactic false
set_option linter.unreachableTactic false
set_option linter.unusedSimpArgs false
namespace Sys2Proof.Machine

theorem abandonPacket_keeps {s0 : State} {f : Nat} {node : Nat} {p : Packet} {s : State} (hs : Keeps s0 s)
    : Keeps s0 (abandonPacket f node p s) := by
  unfold abandonPacket
  repeat' (first
    | (with_reducible assumption) | (intro _) | (with_reducible apply Keeps.ite) | (with_reducible apply State.count_keeps)
    | (with_reducible apply State.set_keeps) | (with_reducible apply raiseFault_keeps) | (split) | (dsimp only))

theorem mshCntClear_keeps {s0 : State} {f : Nat} {s : State} (hs : Keeps s0 s) : Keeps s0 (mshCntClear f s) := by
  unfold mshCntClear
  repeat' (first
    | (with_reducible assumption) | (intro _) | (with_reducible apply State.set_keeps)
    | (with_reducible apply State.wr_keeps) | (split) | (dsimp only))

theorem activateMap_keeps {s0 : State} {m : MapShadow} {s : State} (hs : Keeps s0 s) : Keeps s0 (activateMap m s) := by
  unfold activateMap
  repeat' (first
    | (with_reducible assumption) | (intro _) | (with_reducible apply Keeps.ite) | (with_reducible apply State.set_keeps)
    | (with_reducible apply sendNotice_keeps) | (simp only [↓Keeps.upd_iff]) | (split) | (dsimp only))

theorem injected_keeps {s0 : State} {f : Nat} {pos : Nat} {out : Nat} {s : State} (hs : Keeps s0 s)
    : Keeps s0 (injected f pos out s).2 := by
  unfold injected
  repeat' (first
    | (with_reducible assumption) | (intro _) | (with_reducible apply Keeps.ite) | (with_reducible apply State.set_keeps)
    | (split) | (dsimp only))

theorem flitError_keeps {s0 : State} {f : Nat} {pos : Nat} {port : Nat} {quarter : Nat} {unc : Bool}
    {s : State} (hs : Keeps s0 s) : Keeps s0 (flitError f pos port quarter unc s) := by
  unfold flitError
  repeat' (first
    | (with_reducible assumption) | (intro _) | (with_reducible apply Keeps.ite) | (with_reducible apply State.count_keeps)
    | (with_reducible apply State.set_keeps) | (split) | (dsimp only))

theorem takeOff_keeps {s0 : State} {id : Nat} {s : State} (hs : Keeps s0 s) : Keeps s0 (takeOff id s) := by
  unfold takeOff
  repeat' (first
    | (with_reducible assumption) | (intro _) | (with_reducible apply Keeps.ite) | (with_reducible apply closeUp_keeps)
    | (simp only [↓Keeps.upd_iff]) | (split) | (dsimp only))

theorem putPacket_keeps {s0 : State} {p : Packet} {s : State} (hs : Keeps s0 s) : Keeps s0 (putPacket p s) := by
  unfold putPacket
  repeat' (first
    | (with_reducible assumption) | (intro _) | (with_reducible apply Keeps.ite) | (simp only [↓Keeps.upd_iff]) | (split)
    | (dsimp only))

theorem flitFault_keeps {s0 : State} {f : Nat} {pos : Nat} {port : Nat} {inj : Bool} {id : Nat} {s : State}
    {e : FlitErr} (hs : Keeps s0 s) : Keeps s0 (flitFault f pos port inj id s e) := by
  unfold flitFault
  repeat' (first
    | (with_reducible assumption) | (intro _) | (with_reducible apply Keeps.ite) | (with_reducible apply flitError_keeps)
    | (with_reducible apply raiseFault_keeps) | (with_reducible apply takeOff_keeps)
    | (with_reducible apply putPacket_keeps) | (split) | (dsimp only))

theorem wormInject_keeps {s0 : State} {id : Nat} {l : List (Nat × Nat × Nat × MeshBuf × Nat)} {s : State} (hs : Keeps s0 s)
    : Keeps s0 (wormInject id l s) := by
  unfold wormInject
  repeat' (first
    | (with_reducible assumption) | (intro _) | (with_reducible apply Keeps.foldl) | (with_reducible apply Keeps.foldl_snd)
    | (with_reducible apply Keeps.foldl_third) | (with_reducible apply injected_keeps)
    | (with_reducible apply flitFault_keeps) | (with_reducible apply Keeps.unchanged) | (split) | (dsimp only)
    | (refine Keeps.of_snd (by assumption) ?_) | (refine Keeps.of_third (by assumption) ?_)
    | (refine Keeps.of_fst (by assumption) ?_))

theorem passTurn_keeps {s0 : State} {p : Packet} {s : State} (hs : Keeps s0 s) : Keeps s0 (passTurn p s) := by
  unfold passTurn
  repeat' (first
    | (with_reducible assumption) | (intro _) | (with_reducible apply Keeps.ite) | (simp only [↓Keeps.upd_iff]) | (split)
    | (dsimp only))

theorem ejectPacket_keeps {s0 s t : State} {p q : Packet} {f : Nat} (h : Keeps s0 s) (e : ejectPacket p f s = some (q, t)) :
    Keeps s0 t := by
  unfold ejectPacket at e
  split at e
  · cases e
  · cases e; exact takeOff_keeps (wormInject_keeps (passTurn_keeps h))

theorem headerChecks_keeps {s0 : State} {f : Nat} {node : Nat} {p : Packet} {s : State} (hs : Keeps s0 s)
    : Keeps s0 (headerChecks f node p s).2 := by
  unfold headerChecks
  repeat' (first
    | (with_reducible assumption) | (intro _) | (with_reducible apply Keeps.ite) | (with_reducible apply State.count_keeps)
    | (with_reducible apply raiseFault_keeps) | (with_reducible apply noteAt_keeps) | (split) | (dsimp only))

theorem refused_keeps {s0 : State} {f : Nat} {node : Nat} {header : Nat} {s : State} (hs : Keeps s0 s)
    : Keeps s0 (refused f node header s) := by
  unfold refused
  repeat' (first
    | (with_reducible assumption) | (intro _) | (with_reducible apply Keeps.ite) | (with_reducible apply State.setNi_keeps)
    | (with_reducible apply abandonPacket_keeps) | (split) | (dsimp only))

theorem takeControl_keeps {s0 : State} {f : Nat} {node : Nat} {s : State} (hs : Keeps s0 s)
    : Keeps s0 (takeControl f node s) := by
  unfold takeControl
  repeat' (first
    | (with_reducible assumption) | (intro _) | (with_reducible apply Keeps.ite) | (with_reducible apply State.high_keeps)
    | (split) | (dsimp only))

theorem busyReceive_keeps {s0 : State} {id : Nat} {s : State} (hs : Keeps s0 s) : Keeps s0 (busyReceive id s) := by
  unfold busyReceive
  repeat' (first
    | (with_reducible assumption) | (intro _) | (with_reducible apply Keeps.ite)
    | (refine ejectPacket_keeps ?_ (by assumption)) | (with_reducible apply headerChecks_keeps)
    | (with_reducible apply refused_keeps) | (with_reducible apply takeControl_keeps) | (split) | (dsimp only))

theorem checkFlits_keeps {s0 : State} {f : Nat} {pos : Nat} {port : Nat} {id : Nat} {errs : List FlitErr}
    {s : State} (hs : Keeps s0 s) : Keeps s0 (checkFlits f pos port id errs s) := by
  unfold checkFlits
  repeat' (first
    | (with_reducible assumption) | (intro _) | (with_reducible apply Keeps.foldl) | (with_reducible apply Keeps.foldl_snd)
    | (with_reducible apply Keeps.foldl_third) | (with_reducible apply flitFault_keeps) | (split) | (dsimp only))

theorem moveLogical_keeps {s0 : State} {l : Nat} {pos : Nat} {s : State} (hs : Keeps s0 s)
    : Keeps s0 (moveLogical l pos s) := by
  unfold moveLogical
  repeat' (first
    | (with_reducible assumption) | (intro _) | (with_reducible apply Keeps.ite) | (with_reducible apply State.set_keeps)
    | (with_reducible apply State.setCell_keeps) | (split) | (dsimp only))

theorem moveField_keeps {s0 : State} {f : Nat} {p : Nat} {s : State} (hs : Keeps s0 s) : Keeps s0 (moveField f p s) := by
  unfold moveField
  repeat' (first
    | (with_reducible assumption) | (intro _) | (with_reducible apply Keeps.ite) | (with_reducible apply clearField_keeps)
    | (with_reducible apply setPartMask_keeps) | (with_reducible apply State.setPart_keeps) | (split) | (dsimp only))

theorem copyCell_keeps {s0 : State} {rec : Nat} {e : Nat × Nat × Nat} {s : State} (hs : Keeps s0 s)
    : Keeps s0 (copyCell rec e s) := by
  unfold copyCell
  repeat' (first
    | (with_reducible assumption) | (intro _) | (with_reducible apply Keeps.ite)
    | (with_reducible apply State.setCell_keeps) | (with_reducible apply editRecord_keeps) | (split) | (dsimp only))

theorem nextMap_keeps {s0 : State} {s : State} (hs : Keeps s0 s) : Keeps s0 (nextMap s) := by
  unfold nextMap
  repeat' (first
    | (with_reducible assumption) | (intro _) | (with_reducible apply Keeps.ite) | (with_reducible apply activateMap_keeps)
    | (simp only [↓Keeps.upd_iff]) | (split) | (dsimp only))

theorem drainWindowEnd_keeps {s0 : State} {s : State} (hs : Keeps s0 s) : Keeps s0 (drainWindowEnd s) := by
  unfold drainWindowEnd
  repeat' (first
    | (with_reducible assumption) | (intro _) | (with_reducible apply Keeps.ite) | (with_reducible apply nextMap_keeps)
    | (with_reducible apply State.set_keeps) | (split) | (dsimp only))

theorem stepHead_keeps {s0 : State} {p : Packet} {h : Hop} {rest : List Hop} {s : State} (hs : Keeps s0 s)
    : Keeps s0 (stepHead p h rest s) := by
  unfold stepHead
  repeat' (first
    | (with_reducible assumption) | (intro _) | (with_reducible apply closeUp_keeps) | (simp only [↓Keeps.upd_iff])
    | (split) | (dsimp only))

theorem passStop_keeps {s0 : State} {h : Hop} {g : Nat} {gpos : Nat} {s : State} (hs : Keeps s0 s)
    : Keeps s0 (passStop h g gpos s) := by
  unfold passStop
  repeat' (first
    | (with_reducible assumption) | (intro _) | (with_reducible apply Keeps.ite) | (simp only [↓Keeps.upd_iff]) | (split)
    | (dsimp only))

theorem enterRouter_keeps {s0 : State} {p : Packet} {h : Hop} {rest : List Hop} {g : Nat} {gpos : Nat} {errs : List FlitErr}
    {s : State} (hs : Keeps s0 s) : Keeps s0 (enterRouter p h rest g gpos errs s) := by
  unfold enterRouter
  repeat' (first
    | (with_reducible assumption) | (intro _) | (with_reducible apply stepHead_keeps)
    | (with_reducible apply passStop_keeps) | (with_reducible apply passTurn_keeps)
    | (with_reducible apply wormInject_keeps) | (with_reducible apply checkFlits_keeps) | (split) | (dsimp only))

theorem sendBusy_keeps {s0 : State} {f : Nat} {node : Nat} {p : Packet} {s : State} (hs : Keeps s0 s)
    : Keeps s0 (sendBusy f node p s) := by
  unfold sendBusy
  repeat' (first
    | (with_reducible assumption) | (intro _) | (with_reducible apply State.count_keeps)
    | (with_reducible apply State.setNi_keeps) | (split) | (dsimp only))

theorem postMap_keeps {s0 : State} {m : MapShadow} {s : State} (hs : Keeps s0 s) : Keeps s0 (postMap m s) := by
  unfold postMap
  repeat' (first
    | (with_reducible assumption) | (intro _) | (with_reducible apply Keeps.ite) | (with_reducible apply activateMap_keeps)
    | (simp only [↓Keeps.upd_iff]) | (split) | (dsimp only))

theorem setPassable_keeps {s0 : State} {f : Nat} {ok : Bool} {s : State} (hs : Keeps s0 s) : Keeps s0 (setPassable f ok s) := by
  unfold setPassable
  repeat' (first
    | (with_reducible assumption) | (intro _) | (with_reducible apply Keeps.ite) | (with_reducible apply State.wr_keeps)
    | (split) | (dsimp only))

theorem mapActivation_keeps {s0 : State} {s : State} (hs : Keeps s0 s) : Keeps s0 (mapActivation s) := by
  unfold mapActivation
  repeat' (first
    | (with_reducible assumption) | (intro _) | (with_reducible apply Keeps.ite) | (with_reducible apply Keeps.foldl)
    | (with_reducible apply Keeps.foldl_snd) | (with_reducible apply Keeps.foldl_third)
    | (with_reducible apply moveLogical_keeps) | (with_reducible apply copyCell_keeps)
    | (with_reducible apply setPassable_keeps) | (with_reducible apply moveField_keeps)
    | (with_reducible apply Keeps.forEach) | (with_reducible apply State.set_keeps) | (with_reducible apply nextMap_keeps)
    | (with_reducible apply raiseFault_keeps) | (simp only [↓Keeps.upd_iff]) | (split) | (dsimp only))

theorem unreachable_keeps {s0 : State} {f : Nat} {node : Nat} {p : Packet} {s : State} (hs : Keeps s0 s)
    : Keeps s0 (unreachable f node p s) := by
  unfold unreachable
  repeat' (first
    | (with_reducible assumption) | (intro _) | (with_reducible apply Keeps.ite) | (with_reducible apply State.count_keeps)
    | (with_reducible apply raiseFault_keeps) | (split) | (dsimp only))

theorem putOnMesh_keeps {s0 : State} {f : Nat} {node : Nat} {q : Packet} {errs : List FlitErr} {s : State} (hs : Keeps s0 s)
    : Keeps s0 (putOnMesh f node q errs s) := by
  unfold putOnMesh
  repeat' (first
    | (with_reducible assumption) | (intro _) | (with_reducible apply State.setNi_keeps)
    | (with_reducible apply checkFlits_keeps) | (with_reducible apply closeUp_keeps) | (simp only [↓Keeps.upd_iff])
    | (split) | (dsimp only))

theorem packetInject_keeps {s0 : State} {f : Nat} {node : Nat} {errs : List FlitErr} {s : State} (hs : Keeps s0 s)
    : Keeps s0 (packetInject f node errs s) := by
  unfold packetInject
  repeat' (first
    | (with_reducible assumption) | (intro _) | (with_reducible apply Keeps.ite) | (with_reducible apply State.setNi_keeps)
    | (with_reducible apply unreachable_keeps) | (with_reducible apply putOnMesh_keeps) | (simp only [↓Keeps.upd_iff])
    | (split) | (dsimp only))

theorem seamDrop_keeps {s0 : State} {f : Nat} {g : Nat} {p : Packet} {s : State} (hs : Keeps s0 s)
    : Keeps s0 (seamDrop f g p s) := by
  unfold seamDrop
  repeat' (first
    | (with_reducible assumption) | (intro _) | (with_reducible apply takeOff_keeps)
    | (with_reducible apply State.count_keeps) | (with_reducible apply raiseFault_keeps)
    | (with_reducible apply noteAt_keeps) | (split) | (dsimp only))

theorem packetHop_keeps {s0 : State} {id : Nat} {errs : List FlitErr} {s : State} (hs : Keeps s0 s)
    : Keeps s0 (packetHop id errs s) := by
  unfold packetHop
  repeat' (first
    | (with_reducible assumption) | (intro _) | (with_reducible apply Keeps.ite) | (with_reducible apply seamDrop_keeps)
    | (with_reducible apply enterRouter_keeps) | (split) | (dsimp only))

theorem grantContext_keeps {s0 : State} {f : Nat} {node : Nat} {p : Packet} {s : State} (hs : Keeps s0 s)
    : Keeps s0 (grantContext f node p s) := by
  unfold grantContext
  repeat' (first
    | (with_reducible assumption) | (intro _) | (with_reducible apply Keeps.ite) | (with_reducible apply State.setNi_keeps)
    | (with_reducible apply State.high_keeps) | (with_reducible apply receiveMore_keeps) | (split) | (dsimp only))

theorem packetReceive_keeps {s0 : State} {id : Nat} {s : State} (hs : Keeps s0 s) : Keeps s0 (packetReceive id s) := by
  unfold packetReceive
  repeat' (first
    | (with_reducible assumption) | (intro _) | (with_reducible apply Keeps.ite)
    | (refine ejectPacket_keeps ?_ (by assumption)) | (with_reducible apply headerChecks_keeps)
    | (with_reducible apply takeControl_keeps) | (with_reducible apply sendBusy_keeps)
    | (with_reducible apply grantContext_keeps) | (split) | (dsimp only))

theorem retryBackoffExpiry_keeps {s0 : State} {f : Nat} {node : Nat} {k : Nat} {s : State} (hs : Keeps s0 s)
    : Keeps s0 (retryBackoffExpiry f node k s) := by
  unfold retryBackoffExpiry
  repeat' (first
    | (with_reducible assumption) | (intro _) | (with_reducible apply Keeps.ite) | (with_reducible apply State.setNi_keeps)
    | (with_reducible apply State.count_keeps) | (with_reducible apply fillQueue_keeps)
    | (with_reducible apply refillReads_keeps) | (simp only [↓Keeps.upd_iff]) | (split) | (dsimp only))

theorem retryRecordLapse_keeps {s0 : State} {f : Nat} {node : Nat} {k : Nat} {s : State} (hs : Keeps s0 s)
    : Keeps s0 (retryRecordLapse f node k s) := by
  unfold retryRecordLapse
  repeat' (first
    | (with_reducible assumption) | (intro _) | (with_reducible apply Keeps.ite) | (with_reducible apply State.setNi_keeps)
    | (split) | (dsimp only))

end Sys2Proof.Machine
end

