-- ==== Sys2Proof/Laws/KeepsPorts.lean ====
section
/-!
SUPPORT. Laws/KeepsPorts.lean: each state transformer of Machine/Ports.lean keeps what `Keeps` says: the queue of waiting
commands, what was emitted, the counter of free values, the canonical form of every table.
-/
set_option linter.unusedTactic false
set_option linter.unreachableTactic false
set_option linter.unusedSimpArgs false
namespace Sys2Proof.Machine

theorem snlErr_keeps {s0 : State} {n : Nat} {code : Nat} {part : Nat} {tag : Nat} {s : State} (hs : Keeps s0 s)
    : Keeps s0 (snlErr n code part tag s) := by
  unfold snlErr
  repeat' (first
    | (with_reducible assumption) | (intro _) | (with_reducible apply Keeps.ite) | (with_reducible apply State.set_keeps)
    | (split) | (dsimp only))

theorem linkLayer_keeps {s0 : State} {n : Nat} {fr : Frame} {s : State} (hs : Keeps s0 s) : Keeps s0 (linkLayer n fr s).2 := by
  unfold linkLayer
  repeat' (first
    | (with_reducible assumption) | (intro _) | (with_reducible apply Keeps.ite)
    | (with_reducible apply State.setPort_keeps) | (with_reducible apply snlErr_keeps)
    | (with_reducible apply State.count_keeps) | (split) | (dsimp only))

theorem portNote_keeps {s0 : State} {n : Nat} {s : State} (hs : Keeps s0 s) : Keeps s0 (portNote n s) := by
  unfold portNote
  repeat' (first
    | (with_reducible assumption) | (intro _) | (with_reducible apply Keeps.ite) | (with_reducible apply noteAt_keeps)
    | (with_reducible apply State.setPort_keeps) | (split) | (dsimp only))

theorem leaveLive_keeps {s0 : State} {n : Nat} {st : Nat} {s : State} (hs : Keeps s0 s) : Keeps s0 (leaveLive n st s) := by
  unfold leaveLive
  repeat' (first
    | (with_reducible assumption) | (intro _) | (with_reducible apply Keeps.foldl) | (with_reducible apply Keeps.foldl_snd)
    | (with_reducible apply Keeps.foldl_third) | (with_reducible apply portTo_keeps)
    | (with_reducible apply State.count_keeps) | (with_reducible apply enqueue_keeps) | (split) | (dsimp only))

theorem cfgMismatch_keeps {s0 : State} {n : Nat} {fr : Frame} {s : State} (hs : Keeps s0 s)
    : Keeps s0 (cfgMismatch n fr s) := by
  unfold cfgMismatch
  repeat' (first
    | (with_reducible assumption) | (intro _) | (with_reducible apply Keeps.ite) | (with_reducible apply snlErr_keeps)
    | (with_reducible apply raiseFault_keeps) | (with_reducible apply leaveLive_keeps)
    | (with_reducible apply Keeps.forEach) | (split) | (dsimp only))

theorem headerOk_keeps {s0 : State} {n : Nat} {fr : Frame} {s : State} (hs : Keeps s0 s) : Keeps s0 (headerOk n fr s).2 := by
  unfold headerOk
  repeat' (first
    | (with_reducible assumption) | (intro _) | (with_reducible apply Keeps.ite) | (with_reducible apply portNote_keeps)
    | (with_reducible apply State.count_keeps) | (with_reducible apply snlErr_keeps)
    | (with_reducible apply raiseFault_keeps) | (with_reducible apply cfgMismatch_keeps) | (split) | (dsimp only))

theorem freeCredit_keeps {s0 : State} {n : Nat} {fr : Frame} {s : State} (hs : Keeps s0 s) : Keeps s0 (freeCredit n fr s) := by
  unfold freeCredit
  repeat' (first
    | (with_reducible assumption) | (intro _) | (with_reducible apply Keeps.ite)
    | (with_reducible apply State.setPort_keeps) | (split) | (dsimp only))

theorem receiveFrame_keeps {s0 : State} {n : Nat} {fr : Frame} {mine : Frame → Bool} {k : State → State}
    {s : State} (hs : Keeps s0 s) (hk : ∀ x0, Keeps s0 x0 → Keeps s0 (k x0)) : Keeps s0 (receiveFrame n fr mine k s) := by
  unfold receiveFrame
  repeat' (first
    | (with_reducible assumption) | (intro _) | (with_reducible apply Keeps.ite) | (with_reducible apply linkLayer_keeps)
    | (with_reducible apply headerOk_keeps) | (with_reducible apply freeCredit_keeps) | (with_reducible apply enqueue_keeps)
    | (with_reducible apply hk) | (split) | (dsimp only))

end Sys2Proof.Machine
end

