-- ==== Sys2Proof/Laws/KeepsEru.lean ====
section
/-!
SUPPORT. Laws/KeepsEru.lean: each state transformer of Machine/Eru.lean keeps what `Keeps` says: the queue of waiting
commands, what was emitted, the counter of free values, the canonical form of every table.
-/
set_option linter.unusedTactic false
set_option linter.unreachableTactic false
set_option linter.unusedSimpArgs false
namespace Sys2Proof.Machine

theorem sourceAbstained_keeps {s0 : State} {n : Nat} {p : Nat} {tag : Nat} {s : State} (hs : Keeps s0 s)
    : Keeps s0 (sourceAbstained n p tag s) := by
  unfold sourceAbstained
  repeat' (first
    | (with_reducible assumption) | (intro _) | (with_reducible apply Keeps.ite) | (with_reducible apply markStep_keeps)
    | (with_reducible apply State.setPart_keeps) | (with_reducible apply raiseFault_keeps) | (split) | (dsimp only))

theorem abstainLocal_keeps {s0 : State} {n : Nat} {e : Nat} {c : Nat} {s : State} (hs : Keeps s0 s)
    : Keeps s0 (abstainLocal n e c s) := by
  unfold abstainLocal
  repeat' (first
    | (with_reducible assumption) | (intro _) | (with_reducible apply Keeps.ite) | (with_reducible apply State.count_keeps)
    | (with_reducible apply State.setEru_keeps) | (with_reducible apply sourceAbstained_keeps) | (split) | (dsimp only))

theorem eruErr_keeps {s0 : State} {n : Nat} {code : Nat} {part : Nat} {tag : Nat} {s : State} (hs : Keeps s0 s)
    : Keeps s0 (eruErr n code part tag s) := by
  unfold eruErr
  repeat' (first
    | (with_reducible assumption) | (intro _) | (with_reducible apply Keeps.ite) | (with_reducible apply State.set_keeps)
    | (split) | (dsimp only))

theorem noticeVerdict_keeps {s0 : State} {n : Nat} {part : Nat} {tag : Nat} {s : State} (hs : Keeps s0 s)
    : Keeps s0 (noticeVerdict n part tag s) := by
  unfold noticeVerdict
  repeat' (first
    | (with_reducible assumption) | (intro _) | (with_reducible apply Keeps.ite)
    | (with_reducible apply sourceAbstained_keeps) | (with_reducible apply raiseFault_keeps)
    | (with_reducible apply eruErr_keeps) | (with_reducible apply State.setEru_keeps) | (split) | (dsimp only))

theorem abstainNotice_keeps {s0 : State} {n : Nat} {fr : Frame} {s : State} (hs : Keeps s0 s)
    : Keeps s0 (abstainNotice n fr s) := by
  unfold abstainNotice
  repeat' (first
    | (with_reducible assumption) | (intro _) | (with_reducible apply receiveFrame_keeps)
    | (with_reducible apply noticeVerdict_keeps) | (split) | (dsimp only))

theorem abstainPartial_keeps {s0 : State} {n : Nat} {e : Nat} {c : Nat} {i : Nat} {s : State} (hs : Keeps s0 s)
    : Keeps s0 (abstainPartial n e c i s) := by
  unfold abstainPartial
  repeat' (first
    | (with_reducible assumption) | (intro _) | (with_reducible apply State.count_keeps)
    | (with_reducible apply Keeps.forEach) | (with_reducible apply sendFrame_keeps) | (split) | (dsimp only))

theorem eruSchedSet_keeps {s0 : State} {n : Nat} {e : Nat} {k : Nat} {w : Word} {s : State} (hs : Keeps s0 s)
    : Keeps s0 (eruSchedSet n e k w s) := by
  unfold eruSchedSet
  repeat' (first
    | (with_reducible assumption) | (intro _) | (with_reducible apply Keeps.ite) | (with_reducible apply noteAt_keeps)
    | (with_reducible apply State.wr_keeps) | (with_reducible apply State.set_keeps) | (with_reducible apply eruErr_keeps)
    | (split) | (dsimp only))

theorem eruCntClear_keeps {s0 : State} {n : Nat} {s : State} (hs : Keeps s0 s) : Keeps s0 (eruCntClear n s) := by
  unfold eruCntClear
  repeat' (first
    | (with_reducible assumption) | (intro _) | (with_reducible apply State.set_keeps)
    | (with_reducible apply State.wr_keeps) | (split) | (dsimp only))

theorem eruRefused_keeps {s0 : State} {n : Nat} {tag : Nat} {s : State} (hs : Keeps s0 s) : Keeps s0 (eruRefused n tag s) := by
  unfold eruRefused
  repeat' (first
    | (with_reducible assumption) | (intro _) | (with_reducible apply State.setEru_keeps) | (split) | (dsimp only))

theorem gatherAtD_keeps {s0 : State} {n : Nat} {e : Nat} {c : Nat} {p : Option WinIn} {q : Option WinIn}
    {s : State} (hs : Keeps s0 s) : Keeps s0 (gatherAtD n e c p q s).2 := by
  unfold gatherAtD
  repeat' (first
    | (with_reducible assumption) | (intro _) | (with_reducible apply Keeps.ite)
    | (with_reducible apply abstainPartial_keeps) | (with_reducible apply abstainLocal_keeps) | (split) | (dsimp only))

theorem sizeAtD_keeps {s0 : State} {a : AtD} {p : Option WinIn} {s : State} (hs : Keeps s0 s) : Keeps s0 (sizeAtD a p s).2 := by
  unfold sizeAtD
  repeat' (first
    | (with_reducible assumption) | (intro _) | (with_reducible apply State.free_keeps) | (split) | (dsimp only))

theorem deliverResult_keeps {s0 : State} {n : Nat} {e : Nat} {m : ResultMsg} {s : State} (hs : Keeps s0 s)
    : Keeps s0 (deliverResult n e m s) := by
  unfold deliverResult
  repeat' (first
    | (with_reducible assumption) | (intro _) | (with_reducible apply Keeps.ite)
    | (with_reducible apply State.setVault_keeps) | (split) | (dsimp only))

theorem slotDrop_keeps {s0 : State} {m : Nat} {fr : Frame} {s : State} (hs : Keeps s0 s) : Keeps s0 (slotDrop m fr s) := by
  unfold slotDrop
  repeat' (first
    | (with_reducible assumption) | (intro _) | (with_reducible apply raiseFault_keeps)
    | (with_reducible apply snlErr_keeps) | (with_reducible apply State.count_keeps) | (split) | (dsimp only))

theorem handFrame_keeps {s0 : State} {m : Nat} {slot : Nat} {e : Nat} {c : Nat} {fr : Frame} {s : State} (hs : Keeps s0 s)
    : Keeps s0 (handFrame m slot e c fr s) := by
  unfold handFrame
  repeat' (first
    | (with_reducible assumption) | (intro _) | (with_reducible apply Keeps.ite) | (with_reducible apply State.count_keeps)
    | (with_reducible apply slotDrop_keeps) | (with_reducible apply State.setPort_keeps) | (split) | (dsimp only))

theorem eruSend_keeps {s0 : State} {n : Nat} {m : Nat} {e : Nat} {c : Nat} {slot : Nat} {fr : Frame}
    {s : State} (hs : Keeps s0 s) : Keeps s0 (eruSend n m e c slot fr s) := by
  unfold eruSend
  repeat' (first
    | (with_reducible assumption) | (intro _) | (with_reducible apply State.setEru_keeps)
    | (with_reducible apply handFrame_keeps) | (split) | (dsimp only))

theorem ownerDone_keeps {s0 : State} {n : Nat} {e : Nat} {c : Nat} {w : WinIn} {e256 : Nat} {s : State} (hs : Keeps s0 s)
    : Keeps s0 (ownerDone n e c w e256 s) := by
  unfold ownerDone
  repeat' (first
    | (with_reducible assumption) | (intro _) | (with_reducible apply Keeps.ite)
    | (with_reducible apply deliverResult_keeps) | (with_reducible apply eruSend_keeps) | (split) | (dsimp only))

theorem padNums_keeps {s0 s : State} {len : Nat} {l : List Num} (h : Keeps s0 s) : Keeps s0 (padNums len l s).2 := by
  unfold padNums
  split
  · exact h
  · exact Keeps.updAll h (List.prefix_refl _) (Nat.le_add_right _ _) id id id id id id id id id id

theorem sumAtD_keeps {s0 : State} {a : AtD} {s : State} (hs : Keeps s0 s) : Keeps s0 (sumAtD a s).2 := by
  unfold sumAtD
  repeat' (first
    | (with_reducible assumption) | (intro _) | (with_reducible apply padNums_keeps) | (split) | (dsimp only))

theorem partialDone_keeps {s0 : State} {n : Nat} {e : Nat} {c : Nat} {mask : Nat} {count : Nat} {e256 : Nat} {empty : Bool}
    {body : List Byte} {s : State} (hs : Keeps s0 s) : Keeps s0 (partialDone n e c mask count e256 empty body s) := by
  unfold partialDone
  repeat' (first
    | (with_reducible assumption) | (intro _) | (with_reducible apply Keeps.ite) | (with_reducible apply eruSend_keeps)
    | (split) | (dsimp only))

theorem chunkDeadline_keeps {s0 : State} {n : Nat} {e : Nat} {c : Nat} {p : Option WinIn} {q : Option WinIn}
    {s : State} (hs : Keeps s0 s) : Keeps s0 (chunkDeadline n e c p q s) := by
  unfold chunkDeadline
  repeat' (first
    | (with_reducible assumption) | (intro _) | (with_reducible apply Keeps.ite) | (with_reducible apply gatherAtD_keeps)
    | (with_reducible apply sizeAtD_keeps) | (with_reducible apply ownerDone_keeps) | (with_reducible apply sumAtD_keeps)
    | (with_reducible apply partialDone_keeps) | (split) | (dsimp only))

theorem setWindow_keeps {s0 : State} {n : Nat} {l : List WinIn} {s : State} (hs : Keeps s0 s) : Keeps s0 (setWindow n l s) := by
  unfold setWindow
  repeat' (first
    | (with_reducible assumption) | (intro _) | (with_reducible apply State.setEru_keeps)
    | (with_reducible apply State.high_keeps) | (with_reducible apply State.set_keeps) | (split) | (dsimp only))

theorem putInput_keeps {s0 : State} {n : Nat} {w : WinIn} {s : State} (hs : Keeps s0 s) : Keeps s0 (putInput n w s) := by
  unfold putInput
  repeat' (first
    | (with_reducible assumption) | (intro _) | (with_reducible apply setWindow_keeps) | (split) | (dsimp only))

theorem claimInput_keeps {s0 : State} {n : Nat} {e : Nat} {c : Nat} {kind : Nat} {bufs : Nat} {rival : Nat}
    {busy : State → State} {s : State} (hs : Keeps s0 s) (hbusy : ∀ x0, Keeps s0 x0 → Keeps s0 (busy x0))
    : Keeps s0 (claimInput n e c kind bufs rival busy s) := by
  unfold claimInput
  repeat' (first
    | (with_reducible assumption) | (intro _) | (with_reducible apply Keeps.ite) | (with_reducible apply putInput_keeps)
    | (with_reducible apply hbusy) | (split) | (dsimp only))

theorem dropClaim_keeps {s0 : State} {n : Nat} {e : Nat} {c : Nat} {kind : Nat} {s : State} (hs : Keeps s0 s)
    : Keeps s0 (dropClaim n e c kind s) := by
  unfold dropClaim
  repeat' (first
    | (with_reducible assumption) | (intro _) | (with_reducible apply Keeps.ite) | (with_reducible apply setWindow_keeps)
    | (split) | (dsimp only))

theorem dropFrameClaim_keeps {s0 : State} {n : Nat} {fr : Frame} {s : State} (hs : Keeps s0 s)
    : Keeps s0 (dropFrameClaim n fr s) := by
  unfold dropFrameClaim
  repeat' (first
    | (with_reducible assumption) | (intro _) | (with_reducible apply dropClaim_keeps) | (split) | (dsimp only))

theorem wrongPart_keeps {s0 : State} {n : Nat} {part : Nat} {tag : Nat} {s : State} (hs : Keeps s0 s)
    : Keeps s0 (wrongPart n part tag s) := by
  unfold wrongPart
  repeat' (first
    | (with_reducible assumption) | (intro _) | (with_reducible apply raiseFault_keeps)
    | (with_reducible apply eruErr_keeps) | (split) | (dsimp only))

theorem windowWrite_keeps {s0 : State} {n : Nat} {part : Nat} {tag : Nat} {ecc : Nat} {s : State} (hs : Keeps s0 s)
    : Keeps s0 (windowWrite n part tag ecc s).2 := by
  unfold windowWrite
  repeat' (first
    | (with_reducible assumption) | (intro _) | (with_reducible apply Keeps.ite) | (with_reducible apply State.set_keeps)
    | (with_reducible apply raiseFault_keeps) | (with_reducible apply eruErr_keeps) | (split) | (dsimp only))

theorem eruBusyResend_keeps {s0 : State} {n : Nat} {tag : Nat} {s : State} (hs : Keeps s0 s)
    : Keeps s0 (eruBusyResend n tag s) := by
  unfold eruBusyResend
  repeat' (first
    | (with_reducible assumption) | (intro _) | (with_reducible apply Keeps.ite) | (with_reducible apply State.setEru_keeps)
    | (with_reducible apply handFrame_keeps) | (with_reducible apply State.count_keeps) | (split) | (dsimp only))

theorem markActed_keeps {s0 : State} {n : Nat} {e : Nat} {c : Nat} {kind : Nat} {s : State} (hs : Keeps s0 s)
    : Keeps s0 (markActed n e c kind s) := by
  unfold markActed
  repeat' (first
    | (with_reducible assumption) | (intro _) | (with_reducible apply State.setEru_keeps) | (split) | (dsimp only))

theorem quenchDeadline_keeps {s0 : State} {n : Nat} {e : Nat} {c : Nat} {s : State} (hs : Keeps s0 s)
    : Keeps s0 (quenchDeadline n e c s) := by
  unfold quenchDeadline
  repeat' (first
    | (with_reducible assumption) | (intro _) | (with_reducible apply Keeps.ite) | (with_reducible apply State.free_keeps)
    | (with_reducible apply partialDone_keeps) | (split) | (dsimp only))

theorem scalarDeadline_keeps {s0 : State} {n : Nat} {e : Nat} {c : Nat} {p : Option WinIn} {q : Option WinIn}
    {s : State} (hs : Keeps s0 s) : Keeps s0 (scalarDeadline n e c p q s) := by
  unfold scalarDeadline
  repeat' (first
    | (with_reducible assumption) | (intro _) | (with_reducible apply Keeps.ite) | (with_reducible apply raiseFault_keeps)
    | (with_reducible apply eruErr_keeps) | (with_reducible apply ownerDone_keeps)
    | (with_reducible apply partialDone_keeps) | (split) | (dsimp only))

theorem eruDeadline_keeps {s0 : State} {n : Nat} {e : Nat} {c : Nat} {s : State} (hs : Keeps s0 s)
    : Keeps s0 (eruDeadline n e c s) := by
  unfold eruDeadline
  repeat' (first
    | (with_reducible assumption) | (intro _) | (with_reducible apply Keeps.ite) | (with_reducible apply markActed_keeps)
    | (with_reducible apply setWindow_keeps) | (with_reducible apply quenchDeadline_keeps)
    | (with_reducible apply scalarDeadline_keeps) | (with_reducible apply chunkDeadline_keeps) | (split) | (dsimp only))

theorem linkBusy_keeps {s0 : State} {n : Nat} {fr : Frame} {s : State} (hs : Keeps s0 s) : Keeps s0 (linkBusy n fr s) := by
  unfold linkBusy
  repeat' (first
    | (with_reducible assumption) | (intro _) | (with_reducible apply enqueue_keeps)
    | (with_reducible apply State.count_keeps) | (split) | (dsimp only))

theorem frameFirst_keeps {s0 : State} {n : Nat} {fr : Frame} {s : State} (hs : Keeps s0 s) : Keeps s0 (frameFirst n fr s) := by
  unfold frameFirst
  repeat' (first
    | (with_reducible assumption) | (intro _) | (with_reducible apply Keeps.ite) | (with_reducible apply claimInput_keeps)
    | (with_reducible apply linkBusy_keeps) | (split) | (dsimp only))

theorem unscheduled_keeps {s0 : State} {n : Nat} {part : Nat} {tag : Nat} {s : State} (hs : Keeps s0 s)
    : Keeps s0 (unscheduled n part tag s) := by
  unfold unscheduled
  repeat' (first
    | (with_reducible assumption) | (intro _) | (with_reducible apply raiseFault_keeps)
    | (with_reducible apply eruErr_keeps) | (split) | (dsimp only))

theorem takePartial_keeps {s0 : State} {n : Nat} {e : Nat} {c : Nat} {ecc : Nat} {bufs : Nat} {flits : Nat} {early : Nat}
    {rival : Nat} {fr : Frame} {busy : State → State} {s : State} (hs : Keeps s0 s)
    (hbusy : ∀ x0, Keeps s0 x0 → Keeps s0 (busy x0)) : Keeps s0 (takePartial n e c ecc bufs flits early rival fr busy s) := by
  unfold takePartial
  repeat' (first
    | (with_reducible assumption) | (intro _) | (with_reducible apply Keeps.ite) | (with_reducible apply dropClaim_keeps)
    | (with_reducible apply wrongPart_keeps) | (with_reducible apply State.count_keeps)
    | (with_reducible apply windowWrite_keeps) | (with_reducible apply putInput_keeps) | (with_reducible apply hbusy)
    | (split) | (dsimp only))

theorem relay_keeps {s0 : State} {n : Nat} {e : Nat} {ecc : Nat} {early : Nat} {fr : Frame} {s : State} (hs : Keeps s0 s)
    : Keeps s0 (relay n e ecc early fr s) := by
  unfold relay
  repeat' (first
    | (with_reducible assumption) | (intro _) | (with_reducible apply Keeps.ite) | (with_reducible apply wrongPart_keeps)
    | (with_reducible apply unscheduled_keeps) | (with_reducible apply takePartial_keeps)
    | (with_reducible apply linkBusy_keeps) | (with_reducible apply State.setNi_keeps) | (split) | (dsimp only))

theorem takeFrame_keeps {s0 : State} {n : Nat} {ecc : Nat} {early : Nat} {fr : Frame} {s : State} (hs : Keeps s0 s)
    : Keeps s0 (takeFrame n ecc early fr s) := by
  unfold takeFrame
  repeat' (first
    | (with_reducible assumption) | (intro _) | (with_reducible apply Keeps.ite) | (with_reducible apply relay_keeps)
    | (with_reducible apply takePartial_keeps) | (with_reducible apply linkBusy_keeps)
    | (with_reducible apply unscheduled_keeps) | (split) | (dsimp only))

theorem packetFirst_keeps {s0 : State} {n : Nat} {f : Nat} {s : State} (hs : Keeps s0 s) : Keeps s0 (packetFirst n f s) := by
  unfold packetFirst
  repeat' (first
    | (with_reducible assumption) | (intro _) | (with_reducible apply Keeps.ite) | (with_reducible apply claimInput_keeps)
    | (with_reducible apply sendBusy_keeps) | (with_reducible apply State.count_keeps)
    | (with_reducible apply State.setField_keeps) | (with_reducible apply Keeps.unchanged) | (split) | (dsimp only))

theorem oweVerdict_keeps {s0 : State} {n : Nat} {e : Nat} {c : Nat} {f : Nat} {p : Packet} {abst : Bool}
    {s : State} (hs : Keeps s0 s) : Keeps s0 (oweVerdict n e c f p abst s) := by
  unfold oweVerdict
  repeat' (first
    | (with_reducible assumption) | (intro _) | (with_reducible apply State.setEru_keeps) | (split) | (dsimp only))

theorem takeLocal_keeps {s0 : State} {n : Nat} {e : Nat} {c : Nat} {f : Nat} {ecc : Nat} {early : Nat} {p : Packet}
    {s : State} (hs : Keeps s0 s) : Keeps s0 (takeLocal n e c f ecc early p s) := by
  unfold takeLocal
  repeat' (first
    | (with_reducible assumption) | (intro _) | (with_reducible apply Keeps.ite) | (with_reducible apply dropClaim_keeps)
    | (with_reducible apply wrongPart_keeps) | (with_reducible apply State.count_keeps)
    | (with_reducible apply oweVerdict_keeps) | (with_reducible apply unscheduled_keeps)
    | (with_reducible apply sendBusy_keeps) | (with_reducible apply windowWrite_keeps)
    | (with_reducible apply putInput_keeps) | (split) | (dsimp only))

theorem takePacket_keeps {s0 : State} {n : Nat} {f : Nat} {ecc : Nat} {early : Nat} {s : State} (hs : Keeps s0 s)
    : Keeps s0 (takePacket n f ecc early s) := by
  unfold takePacket
  repeat' (first
    | (with_reducible assumption) | (intro _) | (with_reducible apply Keeps.ite)
    | (with_reducible apply State.setField_keeps) | (with_reducible apply takePartial_keeps)
    | (with_reducible apply sendBusy_keeps) | (with_reducible apply takeLocal_keeps)
    | (with_reducible apply unscheduled_keeps) | (split) | (dsimp only))

theorem originate_keeps {s0 : State} {n : Nat} {f : Nat} {coord : Nat} {dst : Nat} {addr : Nat} {s : State} (hs : Keeps s0 s)
    : Keeps s0 (originate n f coord dst addr s) := by
  unfold originate
  repeat' (first
    | (with_reducible assumption) | (intro _) | (with_reducible apply Keeps.ite) | (with_reducible apply sendFrame_keeps)
    | (with_reducible apply State.setField_keeps) | (split) | (dsimp only))

theorem eruInput_keeps {s0 : State} {n : Nat} {inp : EruIn} {a : EruArrival} {s : State} (hs : Keeps s0 s)
    : Keeps s0 (eruInput n inp a s) := by
  unfold eruInput
  repeat' (first
    | (with_reducible assumption) | (intro _) | (with_reducible apply Keeps.ite) | (with_reducible apply frameFirst_keeps)
    | (with_reducible apply dropFrameClaim_keeps) | (with_reducible apply receiveFrame_keeps)
    | (with_reducible apply takeFrame_keeps) | (with_reducible apply packetFirst_keeps)
    | (with_reducible apply takePacket_keeps) | (with_reducible apply originate_keeps) | (split) | (dsimp only))

theorem eruResultDeadline_keeps {s0 : State} {n : Nat} {e : Nat} {c : Nat} {s : State} (hs : Keeps s0 s)
    : Keeps s0 (eruResultDeadline n e c s) := by
  unfold eruResultDeadline
  repeat' (first
    | (with_reducible assumption) | (intro _) | (with_reducible apply Keeps.ite) | (with_reducible apply markActed_keeps)
    | (with_reducible apply setWindow_keeps) | (with_reducible apply raiseFault_keeps) | (with_reducible apply eruErr_keeps)
    | (with_reducible apply deliverResult_keeps) | (with_reducible apply eruSend_keeps) | (split) | (dsimp only))

theorem verdictTime_keeps {s0 : State} {n : Nat} {e : Nat} {c : Nat} {s : State} (hs : Keeps s0 s)
    : Keeps s0 (verdictTime n e c s) := by
  unfold verdictTime
  repeat' (first
    | (with_reducible assumption) | (intro _) | (with_reducible apply Keeps.ite) | (with_reducible apply Keeps.foldl)
    | (with_reducible apply Keeps.foldl_snd) | (with_reducible apply Keeps.foldl_third)
    | (with_reducible apply State.setEru_keeps) | (with_reducible apply State.setNi_keeps) | (split) | (dsimp only))

end Sys2Proof.Machine
end

