-- ==== Sys2Proof/Laws/KeepsLink.lean ====
section
/-!
SUPPORT. Laws/KeepsLink.lean: each state transformer of Machine/Link.lean keeps what `Keeps` says: the queue of waiting
commands, what was emitted, the counter of free values, the canonical form of every table.
-/
set_option linter.unusedTactic false
set_option linter.unreachableTactic false
set_option linter.unusedSimpArgs false
namespace Sys2Proof.Machine

theorem toDetect_keeps {s0 : State} {n : Nat} {s : State} (hs : Keeps s0 s) : Keeps s0 (toDetect n s) := by
  unfold toDetect
  repeat' (first
    | (with_reducible assumption) | (intro _) | (with_reducible apply portTo_keeps)
    | (with_reducible apply State.setPort_keeps) | (split) | (dsimp only))

theorem applyEn_keeps {s0 : State} {n : Nat} {s : State} (hs : Keeps s0 s) : Keeps s0 (applyEn n s) := by
  unfold applyEn
  repeat' (first
    | (with_reducible assumption) | (intro _) | (with_reducible apply Keeps.ite) | (with_reducible apply State.set_keeps)
    | (with_reducible apply leaveLive_keeps) | (split) | (dsimp only))

theorem pushMsg_keeps {s0 : State} {n : Nat} {btype : Nat} {slot : Nat} {s : State} (hs : Keeps s0 s)
    : Keeps s0 (pushMsg n btype slot s) := by
  unfold pushMsg
  repeat' (first
    | (with_reducible assumption) | (intro _) | (with_reducible apply State.setPort_keeps) | (split) | (dsimp only))

theorem requestRetrain_keeps {s0 : State} {n : Nat} {s : State} (hs : Keeps s0 s) : Keeps s0 (requestRetrain n s) := by
  unfold requestRetrain
  repeat' (first
    | (with_reducible assumption) | (intro _) | (with_reducible apply Keeps.ite) | (with_reducible apply State.set_keeps)
    | (with_reducible apply pushMsg_keeps) | (with_reducible apply State.setPort_keeps) | (split) | (dsimp only))

theorem portRetry_keeps {s0 : State} {n : Nat} {s : State} (hs : Keeps s0 s) : Keeps s0 (portRetry n s) := by
  unfold portRetry
  repeat' (first
    | (with_reducible assumption) | (intro _) | (with_reducible apply Keeps.ite) | (with_reducible apply toDetect_keeps)
    | (split) | (dsimp only))

theorem agreeWindow_keeps {s0 : State} {n : Nat} {slot : Nat} {s : State} (hs : Keeps s0 s)
    : Keeps s0 (agreeWindow n slot s) := by
  unfold agreeWindow
  repeat' (first
    | (with_reducible assumption) | (intro _) | (with_reducible apply wrPair_keeps)
    | (with_reducible apply State.setPort_keeps) | (split) | (dsimp only))

theorem sealFrame_keeps {s0 : State} {n : Nat} {fr : Frame} {s : State} (hs : Keeps s0 s) : Keeps s0 (sealFrame n fr s).2 := by
  unfold sealFrame
  repeat' (first
    | (with_reducible assumption) | (intro _) | (with_reducible apply Keeps.ite)
    | (with_reducible apply State.setPort_keeps) | (split) | (dsimp only))

theorem injectFrame_keeps {s0 : State} {n : Nat} {fr : Frame} {s : State} (hs : Keeps s0 s)
    : Keeps s0 (injectFrame n fr s).2 := by
  unfold injectFrame
  repeat' (first
    | (with_reducible assumption) | (intro _) | (with_reducible apply Keeps.ite) | (with_reducible apply State.set_keeps)
    | (split) | (dsimp only))

theorem startFrame_keeps {s0 : State} {n : Nat} {fr : Frame} {s : State} (hs : Keeps s0 s) : Keeps s0 (startFrame n fr s) := by
  unfold startFrame
  repeat' (first
    | (with_reducible assumption) | (intro _) | (with_reducible apply Keeps.ite)
    | (with_reducible apply State.setPort_keeps) | (with_reducible apply State.setCic_keeps)
    | (with_reducible apply State.emit_keeps) | (split) | (dsimp only))

theorem beginFrame_keeps {s0 : State} {n : Nat} {fr : Frame} {s : State} (hs : Keeps s0 s) : Keeps s0 (beginFrame n fr s) := by
  unfold beginFrame
  repeat' (first
    | (with_reducible assumption) | (intro _) | (with_reducible apply sealFrame_keeps)
    | (with_reducible apply injectFrame_keeps) | (with_reducible apply startFrame_keeps) | (split) | (dsimp only))

theorem beginSpoilt_keeps {s0 : State} {n : Nat} {fr : Frame} {s : State} (hs : Keeps s0 s)
    : Keeps s0 (beginSpoilt n fr s) := by
  unfold beginSpoilt
  repeat' (first
    | (with_reducible assumption) | (intro _) | (with_reducible apply sealFrame_keeps)
    | (with_reducible apply startFrame_keeps) | (split) | (dsimp only))

theorem blockLock_keeps {s0 : State} {n : Nat} {s : State} (hs : Keeps s0 s) : Keeps s0 (blockLock n s) := by
  unfold blockLock
  repeat' (first
    | (with_reducible assumption) | (intro _) | (with_reducible apply Keeps.ite) | (with_reducible apply State.set_keeps)
    | (split) | (dsimp only))

theorem frameArea_keeps {s0 : State} {n : Nat} {s : State} (hs : Keeps s0 s) : Keeps s0 (frameArea n s).2 := by
  unfold frameArea
  repeat' (first
    | (with_reducible assumption) | (intro _) | (with_reducible apply Keeps.ite)
    | (with_reducible apply State.setPort_keeps) | (split) | (dsimp only))

theorem takeLcw_keeps {s0 : State} {n : Nat} {s : State} (hs : Keeps s0 s) : Keeps s0 (takeLcw n s).2 := by
  unfold takeLcw
  repeat' (first
    | (with_reducible assumption) | (intro _) | (with_reducible apply Keeps.ite)
    | (with_reducible apply State.setPort_keeps) | (split) | (dsimp only))

theorem injectBlock_keeps {s0 : State} {n : Nat} {l : List Byte} {s : State} (hs : Keeps s0 s)
    : Keeps s0 (injectBlock n l s).2 := by
  unfold injectBlock
  repeat' (first
    | (with_reducible assumption) | (intro _) | (with_reducible apply Keeps.ite) | (with_reducible apply State.set_keeps)
    | (split) | (dsimp only))

theorem sendBlock_keeps {s0 : State} {n : Nat} {s : State} (hs : Keeps s0 s) : Keeps s0 (sendBlock n s) := by
  unfold sendBlock
  repeat' (first
    | (with_reducible assumption) | (intro _) | (with_reducible apply frameArea_keeps)
    | (with_reducible apply takeLcw_keeps) | (with_reducible apply injectBlock_keeps)
    | (with_reducible apply State.emit_keeps) | (with_reducible apply State.setPort_keeps) | (split) | (dsimp only))

theorem strictEarn_keeps {s0 : State} {n : Nat} {s : State} (hs : Keeps s0 s) : Keeps s0 (strictEarn n s) := by
  unfold strictEarn
  repeat' (first
    | (with_reducible assumption) | (intro _) | (with_reducible apply Keeps.ite) | (with_reducible apply Keeps.foldl)
    | (with_reducible apply Keeps.foldl_snd) | (with_reducible apply Keeps.foldl_third)
    | (with_reducible apply State.setPort_keeps) | (split) | (dsimp only))

theorem closeReplay_keeps {s0 : State} {n : Nat} {s : State} (hs : Keeps s0 s) : Keeps s0 (closeReplay n s) := by
  unfold closeReplay
  repeat' (first
    | (with_reducible assumption) | (intro _) | (with_reducible apply Keeps.ite) | (with_reducible apply State.count_keeps)
    | (with_reducible apply State.setPort_keeps) | (split) | (dsimp only))

theorem sendNew_keeps {s0 : State} {n : Nat} {fr : Frame} {s : State} (hs : Keeps s0 s) : Keeps s0 (sendNew n fr s) := by
  unfold sendNew
  repeat' (first
    | (with_reducible assumption) | (intro _) | (with_reducible apply Keeps.ite) | (with_reducible apply beginFrame_keeps)
    | (with_reducible apply State.setPort_keeps) | (split) | (dsimp only))

theorem sendFresh_keeps {s0 : State} {n : Nat} {s : State} (hs : Keeps s0 s) : Keeps s0 (sendFresh n s) := by
  unfold sendFresh
  repeat' (first
    | (with_reducible assumption) | (intro _) | (with_reducible apply sendNew_keeps)
    | (with_reducible apply State.setPort_keeps) | (split) | (dsimp only))

theorem sendUnscheduled_keeps {s0 : State} {n : Nat} {s : State} (hs : Keeps s0 s) : Keeps s0 (sendUnscheduled n s) := by
  unfold sendUnscheduled
  repeat' (first
    | (with_reducible assumption) | (intro _) | (with_reducible apply Keeps.ite) | (with_reducible apply closeReplay_keeps)
    | (with_reducible apply beginFrame_keeps) | (with_reducible apply State.setPort_keeps)
    | (with_reducible apply sendFresh_keeps) | (split) | (dsimp only))

theorem chooseFrame_keeps {s0 : State} {n : Nat} {s : State} (hs : Keeps s0 s) : Keeps s0 (chooseFrame n s) := by
  unfold chooseFrame
  repeat' (first
    | (with_reducible assumption) | (intro _) | (with_reducible apply Keeps.ite)
    | (with_reducible apply State.setPort_keeps) | (with_reducible apply beginFrame_keeps)
    | (with_reducible apply sendUnscheduled_keeps) | (split) | (dsimp only))

theorem blockTransmit_keeps {s0 : State} {n : Nat} {s : State} (hs : Keeps s0 s) : Keeps s0 (blockTransmit n s) := by
  unfold blockTransmit
  repeat' (first
    | (with_reducible assumption) | (intro _) | (with_reducible apply Keeps.ite) | (with_reducible apply sendBlock_keeps)
    | (with_reducible apply strictEarn_keeps) | (with_reducible apply chooseFrame_keeps) | (split) | (dsimp only))

theorem busyFrame_keeps {s0 : State} {n : Nat} {fr : Frame} {s : State} (hs : Keeps s0 s) : Keeps s0 (busyFrame n fr s) := by
  unfold busyFrame
  repeat' (first
    | (with_reducible assumption) | (intro _) | (with_reducible apply receiveFrame_keeps)
    | (with_reducible apply eruRefused_keeps) | (split) | (dsimp only))

theorem scheduleRate_keeps {s0 : State} {n : Nat} {slot : Nat} {s : State} (hs : Keeps s0 s)
    : Keeps s0 (scheduleRate n slot s) := by
  unfold scheduleRate
  repeat' (first
    | (with_reducible assumption) | (intro _) | (with_reducible apply State.setPort_keeps) | (split) | (dsimp only))

theorem proposeRate_keeps {s0 : State} {n : Nat} {s : State} (hs : Keeps s0 s) : Keeps s0 (proposeRate n s) := by
  unfold proposeRate
  repeat' (first
    | (with_reducible assumption) | (intro _) | (with_reducible apply Keeps.ite) | (with_reducible apply pushMsg_keeps)
    | (with_reducible apply scheduleRate_keeps) | (split) | (dsimp only))

theorem giveMargin_keeps {s0 : State} {n : Nat} {s : State} (hs : Keeps s0 s) : Keeps s0 (giveMargin n s) := by
  unfold giveMargin
  repeat' (first
    | (with_reducible assumption) | (intro _) | (with_reducible apply Keeps.ite)
    | (with_reducible apply requestRetrain_keeps) | (with_reducible apply proposeRate_keeps) | (split) | (dsimp only))

theorem capture_keeps {s0 : State} {n : Nat} {eq : List (List Nat)} {s : State} (hs : Keeps s0 s)
    : Keeps s0 (capture n eq s) := by
  unfold capture
  repeat' (first
    | (with_reducible assumption) | (intro _) | (with_reducible apply State.set_keeps)
    | (with_reducible apply State.setPort_keeps) | (split) | (dsimp only))

theorem configDigestReceive_keeps {s0 : State} {n : Nat} {fr : Frame} {s : State} (hs : Keeps s0 s)
    : Keeps s0 (configDigestReceive n fr s) := by
  unfold configDigestReceive
  repeat' (first
    | (with_reducible assumption) | (intro _) | (with_reducible apply Keeps.ite) | (with_reducible apply receiveFrame_keeps)
    | (with_reducible apply State.setPort_keeps) | (with_reducible apply cfgMismatch_keeps) | (split) | (dsimp only))

theorem configDigestSend_keeps {s0 : State} {n : Nat} {s : State} (hs : Keeps s0 s) : Keeps s0 (configDigestSend n s) := by
  unfold configDigestSend
  repeat' (first
    | (with_reducible assumption) | (intro _) | (with_reducible apply Keeps.ite) | (with_reducible apply Keeps.foldl)
    | (with_reducible apply Keeps.foldl_snd) | (with_reducible apply Keeps.foldl_third)
    | (with_reducible apply Keeps.forEach) | (with_reducible apply enqueue_keeps)
    | (with_reducible apply State.setPort_keeps) | (with_reducible apply noteAt_keeps) | (split) | (dsimp only))

theorem cutThroughBad_keeps {s0 : State} {n : Nat} {fr : Frame} {s : State} (hs : Keeps s0 s)
    : Keeps s0 (cutThroughBad n fr s) := by
  unfold cutThroughBad
  repeat' (first
    | (with_reducible assumption) | (intro _) | (with_reducible apply Keeps.ite) | (with_reducible apply beginSpoilt_keeps)
    | (split) | (dsimp only))

theorem deliverData_keeps {s0 : State} {n : Nat} {fr : Frame} {s : State} (hs : Keeps s0 s)
    : Keeps s0 (deliverData n fr s) := by
  unfold deliverData
  repeat' (first
    | (with_reducible assumption) | (intro _) | (with_reducible apply raiseFault_keeps)
    | (with_reducible apply snlErr_keeps) | (with_reducible apply State.count_keeps)
    | (with_reducible apply State.setNi_keeps) | (split) | (dsimp only))

theorem detectTimeout_keeps {s0 : State} {n : Nat} {s : State} (hs : Keeps s0 s) : Keeps s0 (detectTimeout n s) := by
  unfold detectTimeout
  repeat' (first
    | (with_reducible assumption) | (intro _) | (with_reducible apply Keeps.ite) | (with_reducible apply portTo_keeps)
    | (split) | (dsimp only))

theorem replayFrom_keeps {s0 : State} {n : Nat} {s : State} (hs : Keeps s0 s) : Keeps s0 (replayFrom n s) := by
  unfold replayFrom
  repeat' (first
    | (with_reducible assumption) | (intro _) | (with_reducible apply Keeps.ite)
    | (with_reducible apply State.setPort_keeps) | (with_reducible apply State.count_keeps)
    | (with_reducible apply raiseFault_keeps) | (with_reducible apply leaveLive_keeps) | (split) | (dsimp only))

theorem retrainMsg_keeps {s0 : State} {n : Nat} {accept : Bool} {slot : Nat} {s : State} (hs : Keeps s0 s)
    : Keeps s0 (retrainMsg n accept slot s) := by
  unfold retrainMsg
  repeat' (first
    | (with_reducible assumption) | (intro _) | (with_reducible apply Keeps.ite) | (with_reducible apply agreeWindow_keeps)
    | (with_reducible apply State.set_keeps) | (with_reducible apply pushMsg_keeps)
    | (with_reducible apply State.setPort_keeps) | (split) | (dsimp only))

theorem lcwReceive_keeps {s0 : State} {n : Nat} {w : Lcw} {s : State} (hs : Keeps s0 s) : Keeps s0 (lcwReceive n w s) := by
  unfold lcwReceive
  repeat' (first
    | (with_reducible assumption) | (intro _) | (with_reducible apply Keeps.ite) | (with_reducible apply State.count_keeps)
    | (with_reducible apply State.setPort_keeps) | (with_reducible apply replayFrom_keeps)
    | (with_reducible apply scheduleRate_keeps) | (with_reducible apply retrainMsg_keeps) | (split) | (dsimp only))

theorem frameForward_keeps {s0 : State} {n : Nat} {fr : Frame} {mine : Frame → Bool} {k : State → State}
    {s : State} (hs : Keeps s0 s) (hk : ∀ x0, Keeps s0 x0 → Keeps s0 (k x0)) : Keeps s0 (frameForward n fr mine k s) := by
  unfold frameForward
  repeat' (first
    | (with_reducible assumption) | (intro _) | (with_reducible apply receiveFrame_keeps)
    | (with_reducible apply cutThroughBad_keeps) | (with_reducible apply hk) | (with_reducible apply Keeps.unchanged)
    | (split) | (dsimp only) | (refine Keeps.of_snd (by assumption) ?_) | (refine Keeps.of_third (by assumption) ?_)
    | (refine Keeps.of_fst (by assumption) ?_))

theorem fireflySend_keeps {s0 : State} {n : Nat} {s : State} (hs : Keeps s0 s) : Keeps s0 (fireflySend n s) := by
  unfold fireflySend
  repeat' (first
    | (with_reducible assumption) | (intro _) | (with_reducible apply Keeps.ite) | (with_reducible apply enqueue_keeps)
    | (with_reducible apply State.setPort_keeps) | (split) | (dsimp only))

theorem partnerLost_keeps {s0 : State} {n : Nat} {s : State} (hs : Keeps s0 s) : Keeps s0 (partnerLost n s) := by
  unfold partnerLost
  repeat' (first
    | (with_reducible assumption) | (intro _) | (with_reducible apply Keeps.ite) | (with_reducible apply raiseFault_keeps)
    | (with_reducible apply snlErr_keeps) | (with_reducible apply leaveLive_keeps) | (split) | (dsimp only))

theorem wakeBurst_keeps {s0 : State} {n : Nat} {s : State} (hs : Keeps s0 s) : Keeps s0 (wakeBurst n s) := by
  unfold wakeBurst
  repeat' (first
    | (with_reducible assumption) | (intro _) | (with_reducible apply Keeps.ite) | (with_reducible apply State.emit_keeps)
    | (with_reducible apply State.setPort_keeps) | (split) | (dsimp only))

theorem signalDetect_keeps {s0 : State} {n : Nat} {s : State} (hs : Keeps s0 s) : Keeps s0 (signalDetect n s) := by
  unfold signalDetect
  repeat' (first
    | (with_reducible assumption) | (intro _) | (with_reducible apply Keeps.ite) | (with_reducible apply toDetect_keeps)
    | (split) | (dsimp only))

theorem trainConverged_keeps {s0 : State} {n : Nat} {s : State} (hs : Keeps s0 s) : Keeps s0 (trainConverged n s) := by
  unfold trainConverged
  repeat' (first
    | (with_reducible assumption) | (intro _) | (with_reducible apply Keeps.ite) | (with_reducible apply State.set_keeps)
    | (split) | (dsimp only))

theorem qualifyEnd_keeps {s0 : State} {n : Nat} {errors : List Nat} {unc : Bool} {s : State} (hs : Keeps s0 s)
    : Keeps s0 (qualifyEnd n errors unc s) := by
  unfold qualifyEnd
  repeat' (first
    | (with_reducible assumption) | (intro _) | (with_reducible apply Keeps.ite) | (with_reducible apply State.set_keeps)
    | (with_reducible apply snlErr_keeps) | (with_reducible apply portTo_keeps) | (with_reducible apply State.setPort_keeps)
    | (split) | (dsimp only))

theorem negotiateComplete_keeps {s0 : State} {n : Nat} {g : Negotiation} {s : State} (hs : Keeps s0 s)
    : Keeps s0 (negotiateComplete n g s) := by
  unfold negotiateComplete
  repeat' (first
    | (with_reducible assumption) | (intro _) | (with_reducible apply Keeps.ite) | (with_reducible apply snlErr_keeps)
    | (with_reducible apply portTo_keeps) | (with_reducible apply State.set_keeps) | (with_reducible apply State.wr_keeps)
    | (with_reducible apply State.count_keeps) | (with_reducible apply capture_keeps)
    | (with_reducible apply State.setPort_keeps) | (with_reducible apply recordFault_keeps) | (split) | (dsimp only))

theorem retrainStart_keeps {s0 : State} {n : Nat} {s : State} (hs : Keeps s0 s) : Keeps s0 (retrainStart n s) := by
  unfold retrainStart
  repeat' (first
    | (with_reducible assumption) | (intro _) | (with_reducible apply Keeps.ite) | (with_reducible apply leaveLive_keeps)
    | (with_reducible apply wrPair_keeps) | (split) | (dsimp only))

theorem retrainFailed_keeps {s0 : State} {n : Nat} {s : State} (hs : Keeps s0 s) : Keeps s0 (retrainFailed n s) := by
  unfold retrainFailed
  repeat' (first
    | (with_reducible assumption) | (intro _) | (with_reducible apply Keeps.ite)
    | (with_reducible apply State.setPort_keeps) | (with_reducible apply snlErr_keeps) | (split) | (dsimp only))

theorem retrainComplete_keeps {s0 : State} {n : Nat} {lockLost : Bool} {restored : Bool} {eq : List (List Nat)}
    {s : State} (hs : Keeps s0 s) : Keeps s0 (retrainComplete n lockLost restored eq s) := by
  unfold retrainComplete
  repeat' (first
    | (with_reducible assumption) | (intro _) | (with_reducible apply Keeps.ite) | (with_reducible apply State.set_keeps)
    | (with_reducible apply leaveLive_keeps) | (with_reducible apply State.setPort_keeps)
    | (with_reducible apply State.count_keeps) | (with_reducible apply capture_keeps)
    | (with_reducible apply proposeRate_keeps) | (with_reducible apply retrainFailed_keeps) | (split) | (dsimp only))

theorem retrainTimeout_keeps {s0 : State} {n : Nat} {s : State} (hs : Keeps s0 s) : Keeps s0 (retrainTimeout n s) := by
  unfold retrainTimeout
  repeat' (first
    | (with_reducible assumption) | (intro _) | (with_reducible apply Keeps.ite) | (with_reducible apply noteAt_keeps)
    | (with_reducible apply State.setPort_keeps) | (split) | (dsimp only))

theorem marginArm_keeps {s0 : State} {n : Nat} {s : State} (hs : Keeps s0 s) : Keeps s0 (marginArm n s) := by
  unfold marginArm
  repeat' (first
    | (with_reducible assumption) | (intro _) | (with_reducible apply Keeps.ite) | (with_reducible apply State.set_keeps)
    | (split) | (dsimp only))

theorem marginWindow_keeps {s0 : State} {n : Nat} {lanes : List (Nat × Nat)} {s : State} (hs : Keeps s0 s)
    : Keeps s0 (marginWindow n lanes s) := by
  unfold marginWindow
  repeat' (first
    | (with_reducible assumption) | (intro _) | (with_reducible apply Keeps.ite) | (with_reducible apply Keeps.foldl)
    | (with_reducible apply Keeps.foldl_snd) | (with_reducible apply Keeps.foldl_third)
    | (with_reducible apply State.set_keeps) | (with_reducible apply State.setPort_keeps)
    | (with_reducible apply giveMargin_keeps) | (split) | (dsimp only))

theorem rateProposal_keeps {s0 : State} {n : Nat} {slot : Nat} {s : State} (hs : Keeps s0 s)
    : Keeps s0 (rateProposal n slot s) := by
  unfold rateProposal
  repeat' (first
    | (with_reducible assumption) | (intro _) | (with_reducible apply Keeps.ite) | (with_reducible apply scheduleRate_keeps)
    | (split) | (dsimp only))

theorem rateChange_keeps {s0 : State} {n : Nat} {s : State} (hs : Keeps s0 s) : Keeps s0 (rateChange n s) := by
  unfold rateChange
  repeat' (first
    | (with_reducible assumption) | (intro _) | (with_reducible apply Keeps.ite) | (with_reducible apply State.set_keeps)
    | (with_reducible apply State.setPort_keeps) | (split) | (dsimp only))

end Sys2Proof.Machine
end

