-- ==== Sys2Proof/Laws/KeepsScp.lean ====
section
/-!
SUPPORT. Laws/KeepsScp.lean: each state transformer of Machine/Scp.lean keeps what `Keeps` says: the queue of waiting
commands, what was emitted, the counter of free values, the canonical form of every table.
-/
set_option linter.unusedTactic false
set_option linter.unreachableTactic false
set_option linter.unusedSimpArgs false
namespace Sys2Proof.Machine

theorem State.putQueue_keeps {s0 : State} {s : State} {q : QueueData} (hs : Keeps s0 s) : Keeps s0 (State.putQueue s q) := by
  unfold State.putQueue
  repeat' (first
    | (with_reducible assumption) | (intro _) | (simp only [↓Keeps.upd_iff]) | (split) | (dsimp only))

theorem State.putRing_keeps {s0 : State} {s : State} {ep : Nat} {q : Nat} {d : RingData} (hs : Keeps s0 s)
    : Keeps s0 (State.putRing s ep q d) := by
  unfold State.putRing
  repeat' (first
    | (with_reducible assumption) | (with_reducible exact wf_nil) | (with_reducible exact wf_mapVals) | (intro _)
    | (simp only [↓Keeps.upd_iff]) | (with_reducible apply Keeps.updAll) | (with_reducible exact List.prefix_refl _)
    | (with_reducible exact List.prefix_append _ _) | (with_reducible exact Nat.le_refl _)
    | (with_reducible exact Nat.le_succ _) | (with_reducible exact Nat.le_add_right _ _) | (with_reducible exact id)
    | (with_reducible apply wf_put_imp) | (with_reducible apply wf_filter_imp) | (split) | (dsimp only))

theorem endJobsAt_keeps {s0 : State} {p : Work → Bool} {status : Nat} {result : List Byte} {rfet : Fet}
    {s : State} (hs : Keeps s0 s) : Keeps s0 (endJobsAt p status result rfet s) := by
  unfold endJobsAt
  repeat' (first
    | (with_reducible assumption) | (intro _) | (with_reducible apply Keeps.ite) | (simp only [↓Keeps.upd_iff]) | (split)
    | (dsimp only))

theorem endJobs_keeps {s0 : State} {p : Work → Bool} {status : Nat} {result : List Byte} {s : State} (hs : Keeps s0 s)
    : Keeps s0 (endJobs p status result s) := by
  unfold endJobs
  repeat' (first
    | (with_reducible assumption) | (intro _) | (with_reducible apply endJobsAt_keeps) | (split) | (dsimp only))

theorem ringFailed_keeps {s0 : State} {e : Nat} {q : Nat} {s : State} (hs : Keeps s0 s) : Keeps s0 (ringFailed e q s) := by
  unfold ringFailed
  repeat' (first
    | (with_reducible assumption) | (intro _) | (with_reducible apply note_keeps) | (with_reducible apply State.set_keeps)
    | (split) | (dsimp only))

theorem ringReply_keeps {s0 : State} {ep : Nat} {q : Nat} {src : Source} {opcode : Nat} {r : Reply} {more : Bool}
    {s : State} (hs : Keeps s0 s) : Keeps s0 (ringReply ep q src opcode r more s) := by
  unfold ringReply
  repeat' (first
    | (with_reducible assumption) | (intro _) | (with_reducible apply Keeps.ite) | (with_reducible apply State.set_keeps)
    | (with_reducible apply State.putRing_keeps) | (with_reducible apply ringFailed_keeps)
    | (with_reducible apply State.emit_keeps) | (split) | (dsimp only))

theorem setNext_keeps {s0 : State} {src : Source} {n : BitVec 32} {s : State} (hs : Keeps s0 s)
    : Keeps s0 (setNext src n s) := by
  unfold setNext
  repeat' (first
    | (with_reducible assumption) | (intro _) | (with_reducible apply State.wr_keeps)
    | (with_reducible apply State.putQueue_keeps) | (split) | (dsimp only))

theorem advance_keeps {s0 : State} {src : Source} {seq : BitVec 32} {s : State} (hs : Keeps s0 s)
    : Keeps s0 (advance src seq s) := by
  unfold advance
  repeat' (first
    | (with_reducible assumption) | (intro _) | (with_reducible apply Keeps.ite)
    | (with_reducible apply State.putQueue_keeps) | (with_reducible apply setNext_keeps) | (split) | (dsimp only))

theorem snlReply_keeps {s0 : State} {coord : Nat} {opcode : Nat} {r : Reply} {more : Bool} {s : State} (hs : Keeps s0 s)
    : Keeps s0 (snlReply coord opcode r more s) := by
  unfold snlReply
  repeat' (first
    | (with_reducible assumption) | (intro _) | (with_reducible apply sendFrame_keeps) | (split) | (dsimp only))

theorem replyPacket_keeps {s0 : State} {src : Source} {opcode : Nat} {r : Reply} {more : Bool} {s : State} (hs : Keeps s0 s)
    : Keeps s0 (replyPacket src opcode r more s) := by
  unfold replyPacket
  repeat' (first
    | (with_reducible assumption) | (intro _) | (with_reducible apply ringReply_keeps)
    | (with_reducible apply snlReply_keeps) | (with_reducible apply State.emit_keeps) | (split) | (dsimp only))

theorem sendPackets_keeps {s0 s : State} {src : Source} {opcode : Nat} {r : Reply} {l : List (List Byte)} (h : Keeps s0 s) :
    Keeps s0 (sendPackets src opcode r l s) := by
  induction l generalizing s with
  | nil => exact h
  | cons p l ih =>
    cases l with
    | nil => exact replyPacket_keeps h
    | cons q l => exact ih (replyPacket_keeps h)

theorem sendReply_keeps {s0 : State} {src : Source} {opcode : Nat} {r : Reply} {s : State} (hs : Keeps s0 s)
    : Keeps s0 (sendReply src opcode r s) := by
  unfold sendReply
  repeat' (first
    | (with_reducible assumption) | (intro _) | (with_reducible apply sendPackets_keeps) | (split) | (dsimp only))

theorem storeReply_keeps {s0 : State} {src : Source} {r : Reply} {s : State} (hs : Keeps s0 s)
    : Keeps s0 (storeReply src r s) := by
  unfold storeReply
  repeat' (first
    | (with_reducible assumption) | (intro _) | (with_reducible apply State.putQueue_keeps) | (split) | (dsimp only))

theorem answer_keeps {s0 : State} {req : Request} {opcode : Nat} {status : Nat} {result : List Byte}
    {s : State} (hs : Keeps s0 s) : Keeps s0 (answer req opcode status result s) := by
  unfold answer
  repeat' (first
    | (with_reducible assumption) | (intro _) | (with_reducible apply sendReply_keeps)
    | (with_reducible apply storeReply_keeps) | (split) | (dsimp only))

theorem answerOnly_keeps {s0 : State} {req : Request} {opcode : Nat} {status : Nat} {result : List Byte}
    {s : State} (hs : Keeps s0 s) : Keeps s0 (answerOnly req opcode status result s) := by
  unfold answerOnly
  repeat' (first
    | (with_reducible assumption) | (intro _) | (with_reducible apply sendReply_keeps) | (split) | (dsimp only))

theorem setChanging_keeps {s0 : State} {on : Bool} {p : Nat} {s : State} (hs : Keeps s0 s) : Keeps s0 (setChanging on p s) := by
  unfold setChanging
  repeat' (first
    | (with_reducible assumption) | (intro _) | (with_reducible apply Keeps.ite) | (with_reducible apply State.set_keeps)
    | (split) | (dsimp only))

theorem readEntry_keeps {s0 : State} {r : Request} {s : State} (hs : Keeps s0 s) : Keeps s0 (readEntry r s) := by
  unfold readEntry
  repeat' (first
    | (with_reducible assumption) | (intro _) | (with_reducible apply State.putRing_keeps)
    | (with_reducible apply State.set_keeps) | (split) | (dsimp only))

theorem freeSnlQueue_keeps {s0 : State} {src : Source} {s : State} (hs : Keeps s0 s) : Keeps s0 (freeSnlQueue src s) := by
  unfold freeSnlQueue
  repeat' (first
    | (with_reducible assumption) | (intro _) | (with_reducible apply Keeps.ite) | (simp only [↓Keeps.upd_iff]) | (split)
    | (dsimp only))

theorem openQueue_keeps {s0 : State} {r : Request} {s : State} (hs : Keeps s0 s) : Keeps s0 (openQueue r s) := by
  unfold openQueue
  repeat' (first
    | (with_reducible assumption) | (intro _) | (with_reducible apply Keeps.ite)
    | (with_reducible apply State.putQueue_keeps) | (with_reducible apply freeSnlQueue_keeps) | (split) | (dsimp only))

theorem readIn_keeps {s0 : State} {r : Request} {s : State} (hs : Keeps s0 s) : Keeps s0 (readIn r s) := by
  unfold readIn
  repeat' (first
    | (with_reducible assumption) | (intro _) | (with_reducible apply readEntry_keeps)
    | (with_reducible apply openQueue_keeps) | (split) | (dsimp only))

theorem atFrontEnd_keeps {s0 : State} {op : Nat} {r : Request} {k : State → State} {s : State} (hs : Keeps s0 s)
    (hk : ∀ x0, Keeps s0 x0 → Keeps s0 (k x0)) : Keeps s0 (atFrontEnd op r k s) := by
  unfold atFrontEnd
  repeat' (first
    | (with_reducible assumption) | (intro _) | (with_reducible apply Keeps.ite) | (with_reducible apply answerOnly_keeps)
    | (with_reducible apply readIn_keeps) | (simp only [↓Keeps.upd_iff]) | (with_reducible apply hk) | (split) | (dsimp only))

theorem replay_keeps {s0 : State} {op : Nat} {r : Request} {s : State} (hs : Keeps s0 s) : Keeps s0 (replay op r s) := by
  unfold replay
  repeat' (first
    | (with_reducible assumption) | (intro _) | (with_reducible apply Keeps.ite) | (with_reducible apply sendReply_keeps)
    | (with_reducible apply answerOnly_keeps) | (split) | (dsimp only))

theorem conclude_keeps {s0 : State} {op : Nat} {r : Request} {take : State → State} {s : State} {x : Ans} (h : Keeps s0 s)
    (hans : AnsKeeps s0 x) (htake : ∀ t, Keeps s0 t → Keeps s0 (take t)) : Keeps s0 (conclude op r take s x) := by
  cases hans with
  | done g => exact answer_keeps (htake _ g)
  | later g => exact answer_keeps (htake _ (Keeps.upd_iff.mpr g))
  | decided g => exact answer_keeps (htake _ (Keeps.upd_iff.mpr g))
  | silent g => exact htake _ (Keeps.upd_iff.mpr g)
  | doneThen g k => exact k _ (answer_keeps (htake _ g))
  | retry => exact answerOnly_keeps h

theorem serveNow_keeps {s0 : State} {o : ScpOp} {r : Request} {s : State} (hs : Keeps s0 s)
    (ho : ∀ t, Keeps s0 t → AnsKeeps s0 (o.body t)) : Keeps s0 (serveNow o r s) := by
  unfold serveNow
  repeat' (first
    | (with_reducible assumption) | (intro _) | (with_reducible apply Keeps.ite) | (with_reducible apply replay_keeps)
    | (with_reducible apply answerOnly_keeps) | (with_reducible apply advance_keeps)
    | (with_reducible apply State.putQueue_keeps) | (with_reducible apply answer_keeps)
    | (with_reducible apply conclude_keeps) | (with_reducible apply ho) | (split) | (dsimp only))

theorem chitin_keeps {s0 : State} {o : ScpOp} {r : Request} {s : State} (hs : Keeps s0 s)
    (ho : ∀ t, Keeps s0 t → AnsKeeps s0 (o.body t)) : Keeps s0 (chitin o r s) := by
  unfold chitin
  repeat' (first
    | (with_reducible assumption) | (intro _) | (with_reducible apply atFrontEnd_keeps)
    | (with_reducible apply serveNow_keeps) | (with_reducible apply ho) | (split) | (dsimp only))

theorem postCompletion_keeps {s0 : State} {j : Job} {status : Nat} {result : List Byte} {rfet : Fet}
    {s : State} (hs : Keeps s0 s) : Keeps s0 (postCompletion j status result rfet s) := by
  unfold postCompletion
  repeat' (first
    | (with_reducible assumption) | (intro _) | (with_reducible apply sendReply_keeps)
    | (with_reducible apply storeReply_keeps) | (simp only [↓Keeps.upd_iff]) | (split) | (dsimp only))

theorem holdRequest_keeps {s0 : State} {i : Instr} {r : Request} {s : State} (hs : Keeps s0 s)
    : Keeps s0 (holdRequest i r s) := by
  unfold holdRequest
  repeat' (first
    | (with_reducible assumption) | (intro _) | (with_reducible apply State.putQueue_keeps) | (split) | (dsimp only))

theorem serve_keeps {s0 : State} {i : Instr} {o : ScpOp} {r : Request} {s : State} (hs : Keeps s0 s)
    (ho : ∀ t, Keeps s0 t → AnsKeeps s0 (o.body t)) : Keeps s0 (serve i o r s) := by
  unfold serve
  repeat' (first
    | (with_reducible assumption) | (intro _) | (with_reducible apply Keeps.ite) | (with_reducible apply replay_keeps)
    | (with_reducible apply holdRequest_keeps) | (with_reducible apply advance_keeps) | (with_reducible apply answer_keeps)
    | (with_reducible apply answerOnly_keeps) | (with_reducible apply conclude_keeps) | (with_reducible apply ho) | (split)
    | (dsimp only))

theorem scarab_keeps {s0 : State} {i : Instr} {o : ScpOp} {r : Request} {s : State} (hs : Keeps s0 s)
    (ho : ∀ t, Keeps s0 t → AnsKeeps s0 (o.body t)) : Keeps s0 (scarab i o r s) := by
  unfold scarab
  repeat' (first
    | (with_reducible assumption) | (intro _) | (with_reducible apply atFrontEnd_keeps) | (with_reducible apply serve_keeps)
    | (with_reducible apply ho) | (split) | (dsimp only))

theorem setVer_keeps {s0 : State} {src : Source} {v : Nat} {s : State} (hs : Keeps s0 s) : Keeps s0 (setVer src v s) := by
  unfold setVer
  repeat' (first
    | (with_reducible assumption) | (intro _) | (with_reducible apply State.set_keeps)
    | (with_reducible apply State.putQueue_keeps) | (split) | (dsimp only))

end Sys2Proof.Machine
end

