-- ==== Sys2Proof/Laws/KeepsTime.lean ====
section
/-!
SUPPORT. Laws/KeepsTime.lean: each state transformer of Machine/Time.lean keeps what `Keeps` says: the queue of waiting
commands, what was emitted, the counter of free values, the canonical form of every table.
-/
set_option linter.unusedTactic false
set_option linter.unreachableTactic false
set_option linter.unusedSimpArgs false
namespace Sys2Proof.Machine

theorem armOwn_keeps {s0 : State} {f : Nat} {op : Nat} {s : State} (hs : Keeps s0 s) : Keeps s0 (armOwn f op s) := by
  unfold armOwn
  repeat' (first
    | (with_reducible assumption) | (intro _) | (simp only [↓Keeps.upd_iff]) | (split) | (dsimp only))

theorem lowerTo_keeps {s0 : State} {l : Nat} {f : Nat} {s : State} (hs : Keeps s0 s) : Keeps s0 (lowerTo l f s) := by
  unfold lowerTo
  repeat' (first
    | (with_reducible assumption) | (intro _) | (with_reducible apply Keeps.ite) | (with_reducible apply State.set_keeps)
    | (with_reducible apply armOwn_keeps) | (split) | (dsimp only))

theorem stepDown_keeps {s0 : State} {f : Nat} {s : State} (hs : Keeps s0 s) : Keeps s0 (stepDown f s) := by
  unfold stepDown
  repeat' (first
    | (with_reducible assumption) | (intro _) | (with_reducible apply lowerTo_keeps) | (split) | (dsimp only))

theorem aimField_keeps {s0 : State} {f : Nat} {op : Nat} {s : State} (hs : Keeps s0 s) : Keeps s0 (aimField f op s) := by
  unfold aimField
  repeat' (first
    | (with_reducible assumption) | (intro _) | (with_reducible apply Keeps.ite) | (with_reducible apply Keeps.forEach)
    | (with_reducible apply slewTo_keeps) | (split) | (dsimp only))

theorem armClock_keeps {s0 : State} {f : Nat} {s : State} (hs : Keeps s0 s) : Keeps s0 (armClock f s) := by
  unfold armClock
  repeat' (first
    | (with_reducible assumption) | (intro _) | (with_reducible apply Keeps.ite) | (with_reducible apply note_keeps)
    | (with_reducible apply State.set_keeps) | (with_reducible apply aimField_keeps) | (split) | (dsimp only))

theorem applyOp_keeps {s0 : State} {f : Nat} {op : Nat} {s : State} (hs : Keeps s0 s) : Keeps s0 (applyOp f op s) := by
  unfold applyOp
  repeat' (first
    | (with_reducible assumption) | (intro _) | (with_reducible apply aimField_keeps)
    | (with_reducible apply State.set_keeps) | (split) | (dsimp only))

theorem applyArmed_keeps {s0 : State} {f : Nat} {s : State} (hs : Keeps s0 s) : Keeps s0 (applyArmed f s) := by
  unfold applyArmed
  repeat' (first
    | (with_reducible assumption) | (intro _) | (with_reducible apply applyOp_keeps)
    | (with_reducible apply State.set_keeps) | (split) | (dsimp only))

theorem armedDue_keeps {s0 : State} {f : Nat} {s : State} (hs : Keeps s0 s) : Keeps s0 (armedDue f s) := by
  unfold armedDue
  repeat' (first
    | (with_reducible assumption) | (intro _) | (with_reducible apply Keeps.ite) | (with_reducible apply applyArmed_keeps)
    | (split) | (dsimp only))

theorem raiseToLimit_keeps {s0 : State} {f : Nat} {s : State} (hs : Keeps s0 s) : Keeps s0 (raiseToLimit f s) := by
  unfold raiseToLimit
  repeat' (first
    | (with_reducible assumption) | (intro _) | (with_reducible apply Keeps.ite) | (with_reducible apply aimField_keeps)
    | (with_reducible apply armOwn_keeps) | (split) | (dsimp only))

theorem setCodeBit_keeps {s0 : State} {f : Fld} {code : Nat} {on : Bool} {s : State} (hs : Keeps s0 s)
    : Keeps s0 (setCodeBit f code on s) := by
  unfold setCodeBit
  repeat' (first
    | (with_reducible assumption) | (intro _) | (with_reducible apply Keeps.ite) | (with_reducible apply State.set_keeps)
    | (split) | (dsimp only))

theorem refreshEst_keeps {s0 : State} {s : State} (hs : Keeps s0 s) : Keeps s0 (refreshEst s) := by
  unfold refreshEst
  repeat' (first
    | (with_reducible assumption) | (intro _) | (with_reducible apply Keeps.ite) | (with_reducible apply State.set_keeps)
    | (split) | (dsimp only))

theorem neighbourSample_keeps {s0 : State} {n : Nat} {off : ℤ} {s : State} (hs : Keeps s0 s)
    : Keeps s0 (neighbourSample n off s) := by
  unfold neighbourSample
  repeat' (first
    | (with_reducible assumption) | (intro _) | (with_reducible apply Keeps.ite) | (with_reducible apply State.setCic_keeps)
    | (with_reducible apply noteAt_keeps) | (with_reducible apply State.set_keeps) | (split) | (dsimp only))

theorem updateFar_keeps {s0 : State} {s : State} (hs : Keeps s0 s) : Keeps s0 (updateFar s) := by
  unfold updateFar
  repeat' (first
    | (with_reducible assumption) | (intro _) | (with_reducible apply Keeps.ite) | (with_reducible apply State.set_keeps)
    | (split) | (dsimp only))

theorem unqualifyFar_keeps {s0 : State} {code : Nat} {port : Nat} {s : State} (hs : Keeps s0 s)
    : Keeps s0 (unqualifyFar code port s) := by
  unfold unqualifyFar
  repeat' (first
    | (with_reducible assumption) | (intro _) | (with_reducible apply Keeps.ite) | (with_reducible apply State.setCic_keeps)
    | (with_reducible apply setCodeBit_keeps) | (simp only [↓Keeps.upd_iff]) | (split) | (dsimp only))

theorem noteFar_keeps {s0 : State} {code : Nat} {port : Nat} {s : State} (hs : Keeps s0 s)
    : Keeps s0 (noteFar code port s) := by
  unfold noteFar
  repeat' (first
    | (with_reducible assumption) | (intro _) | (with_reducible apply Keeps.ite) | (with_reducible apply setCodeBit_keeps)
    | (with_reducible apply noteAt_keeps) | (with_reducible apply State.set_keeps) | (with_reducible apply updateFar_keeps)
    | (with_reducible apply unqualifyFar_keeps) | (split) | (dsimp only))

theorem enterState_keeps {s0 : State} {st : Nat} {s : State} (hs : Keeps s0 s) : Keeps s0 (enterState st s) := by
  unfold enterState
  repeat' (first
    | (with_reducible assumption) | (intro _) | (with_reducible apply Keeps.ite) | (with_reducible apply State.set_keeps)
    | (simp only [↓Keeps.upd_iff]) | (split) | (dsimp only))

theorem loopSample_keeps {s0 : State} {off : ℤ} {s : State} (hs : Keeps s0 s) : Keeps s0 (loopSample off s) := by
  unfold loopSample
  repeat' (first
    | (with_reducible assumption) | (intro _) | (with_reducible apply Keeps.ite) | (with_reducible apply refreshEst_keeps)
    | (with_reducible apply State.set_keeps) | (with_reducible apply enterState_keeps) | (simp only [↓Keeps.upd_iff])
    | (split) | (dsimp only))

theorem coarseOffset_keeps {s0 : State} {n : Nat} {fr : CicadaFrame} {rxPs : Nat} {s : State} (hs : Keeps s0 s)
    : Keeps s0 (coarseOffset n fr rxPs s) := by
  unfold coarseOffset
  repeat' (first
    | (with_reducible assumption) | (intro _) | (with_reducible apply Keeps.ite) | (with_reducible apply noteFar_keeps)
    | (with_reducible apply State.setCic_keeps) | (split) | (dsimp only))

theorem cicadaReceive_keeps {s0 : State} {n : Nat} {fr : CicadaFrame} {rxPs : Nat} {s : State} (hs : Keeps s0 s)
    : Keeps s0 (cicadaReceive n fr rxPs s) := by
  unfold cicadaReceive
  repeat' (first
    | (with_reducible assumption) | (intro _) | (with_reducible apply Keeps.ite) | (with_reducible apply State.set_keeps)
    | (with_reducible apply setCodeBit_keeps) | (with_reducible apply State.setCic_keeps)
    | (with_reducible apply refreshEst_keeps) | (with_reducible apply neighbourSample_keeps)
    | (with_reducible apply noteFar_keeps) | (with_reducible apply loopSample_keeps)
    | (with_reducible apply coarseOffset_keeps) | (split) | (dsimp only))

theorem growEst_keeps {s0 : State} {s : State} (hs : Keeps s0 s) : Keeps s0 (growEst s) := by
  unfold growEst
  repeat' (first
    | (with_reducible assumption) | (intro _) | (with_reducible apply Keeps.ite) | (with_reducible apply State.set_keeps)
    | (split) | (dsimp only))

theorem cicadaSend_keeps {s0 : State} {n : Nat} {s : State} (hs : Keeps s0 s) : Keeps s0 (cicadaSend n s) := by
  unfold cicadaSend
  repeat' (first
    | (with_reducible assumption) | (intro _) | (with_reducible apply Keeps.ite) | (with_reducible apply State.count_keeps)
    | (with_reducible apply growEst_keeps) | (with_reducible apply State.setCic_keeps)
    | (with_reducible apply enqueue_keeps) | (split) | (dsimp only))

theorem discardPart_keeps {s0 : State} {p : Nat} {s : State} (hs : Keeps s0 s) : Keeps s0 (discardPart p s) := by
  unfold discardPart
  repeat' (first
    | (with_reducible assumption) | (intro _) | (with_reducible apply State.set_keeps)
    | (with_reducible apply State.setPart_keeps) | (split) | (dsimp only))

theorem discardSlots_keeps {s0 : State} {n : Nat} {s : State} (hs : Keeps s0 s) : Keeps s0 (discardSlots n s) := by
  unfold discardSlots
  repeat' (first
    | (with_reducible assumption) | (intro _) | (with_reducible apply State.setEru_keeps)
    | (with_reducible apply State.setPort_keeps) | (split) | (dsimp only))

theorem discardArmed_keeps {s0 : State} {s : State} (hs : Keeps s0 s) : Keeps s0 (discardArmed s) := by
  unfold discardArmed
  repeat' (first
    | (with_reducible assumption) | (intro _) | (with_reducible apply Keeps.ite) | (with_reducible apply Keeps.forEach)
    | (with_reducible apply discardPart_keeps) | (with_reducible apply discardSlots_keeps)
    | (with_reducible apply State.overRegs_keeps) | (with_reducible apply State.set_keeps)
    | (with_reducible apply dropShadow_keeps) | (with_reducible apply endJobs_keeps) | (simp only [↓Keeps.upd_iff])
    | (split) | (dsimp only))

theorem refreshFars_keeps {s0 : State} {s : State} (hs : Keeps s0 s) : Keeps s0 (refreshFars s) := by
  unfold refreshFars
  repeat' (first
    | (with_reducible assumption) | (intro _) | (with_reducible apply updateFar_keeps)
    | (with_reducible apply Keeps.forEach) | (with_reducible apply setCodeBit_keeps) | (split) | (dsimp only))

theorem dropEvidence_keeps {s0 : State} {code : Nat} {port : Nat} {clkLost : Bool} {s : State} (hs : Keeps s0 s)
    : Keeps s0 (dropEvidence code port clkLost s) := by
  unfold dropEvidence
  repeat' (first
    | (with_reducible assumption) | (intro _) | (with_reducible apply Keeps.ite) | (with_reducible apply State.setCic_keeps)
    | (with_reducible apply State.set_keeps) | (with_reducible apply refreshFars_keeps)
    | (with_reducible apply setCodeBit_keeps) | (simp only [↓Keeps.upd_iff]) | (split) | (dsimp only))

theorem selectRef_keeps {s0 : State} {code : Nat} {port : Nat} {s : State} (hs : Keeps s0 s)
    : Keeps s0 (selectRef code port s) := by
  unfold selectRef
  repeat' (first
    | (with_reducible assumption) | (intro _) | (with_reducible apply Keeps.ite) | (with_reducible apply State.set_keeps)
    | (split) | (dsimp only))

theorem rebasePorts_keeps {s0 : State} {d : ℤ} {s : State} (hs : Keeps s0 s) : Keeps s0 (rebasePorts d s) := by
  unfold rebasePorts
  repeat' (first
    | (with_reducible assumption) | (intro _) | (with_reducible apply Keeps.forEach)
    | (with_reducible apply State.setPort_keeps) | (with_reducible apply State.setCic_keeps) | (split) | (dsimp only))

theorem rebaseMarks_keeps {s0 : State} {d : ℤ} {s : State} (hs : Keeps s0 s) : Keeps s0 (rebaseMarks d s) := by
  unfold rebaseMarks
  repeat' (first
    | (with_reducible assumption) | (with_reducible exact wf_nil) | (with_reducible exact wf_mapVals) | (intro _)
    | (with_reducible apply Keeps.foldl) | (with_reducible apply Keeps.foldl_snd) | (with_reducible apply Keeps.foldl_third)
    | (simp only [↓Keeps.upd_iff]) | (with_reducible apply Keeps.updAll) | (with_reducible exact List.prefix_refl _)
    | (with_reducible exact List.prefix_append _ _) | (with_reducible exact Nat.le_refl _)
    | (with_reducible exact Nat.le_succ _) | (with_reducible exact Nat.le_add_right _ _) | (with_reducible exact id)
    | (with_reducible apply wf_put_imp) | (with_reducible apply wf_filter_imp) | (split) | (dsimp only))

theorem rebase_keeps {s0 : State} {d : ℤ} {s : State} (hs : Keeps s0 s) : Keeps s0 (rebase d s) := by
  unfold rebase
  repeat' (first
    | (with_reducible assumption) | (intro _) | (with_reducible apply rebasePorts_keeps)
    | (with_reducible apply rebaseMarks_keeps) | (split) | (dsimp only))

theorem stepFet_keeps {s0 : State} {offPs : ℤ} {s : State} (hs : Keeps s0 s) : Keeps s0 (stepFet offPs s) := by
  unfold stepFet
  repeat' (first
    | (with_reducible assumption) | (intro _) | (with_reducible apply Keeps.ite) | (with_reducible apply discardArmed_keeps)
    | (with_reducible apply rebase_keeps) | (with_reducible apply refreshFars_keeps)
    | (with_reducible apply State.set_keeps) | (simp only [↓Keeps.upd_iff]) | (split) | (dsimp only))

theorem enterAcquire_keeps {s0 : State} {code : Nat} {port : Nat} {fromFree : Bool} {s : State} (hs : Keeps s0 s)
    : Keeps s0 (enterAcquire code port fromFree s) := by
  unfold enterAcquire
  repeat' (first
    | (with_reducible assumption) | (intro _) | (with_reducible apply enterState_keeps)
    | (with_reducible apply selectRef_keeps) | (with_reducible apply refreshEst_keeps)
    | (with_reducible apply stepFet_keeps) | (simp only [↓Keeps.upd_iff]) | (split) | (dsimp only))

theorem enterFree_keeps {s0 : State} {s : State} (hs : Keeps s0 s) : Keeps s0 (enterFree s) := by
  unfold enterFree
  repeat' (first
    | (with_reducible assumption) | (intro _) | (with_reducible apply enterState_keeps)
    | (with_reducible apply State.set_keeps) | (split) | (dsimp only))

theorem enterHoldover_keeps {s0 : State} {s : State} (hs : Keeps s0 s) : Keeps s0 (enterHoldover s) := by
  unfold enterHoldover
  repeat' (first
    | (with_reducible assumption) | (intro _) | (with_reducible apply enterState_keeps)
    | (with_reducible apply State.set_keeps) | (simp only [↓Keeps.upd_iff]) | (split) | (dsimp only))

theorem enterSwitch_keeps {s0 : State} {code : Nat} {port : Nat} {s : State} (hs : Keeps s0 s)
    : Keeps s0 (enterSwitch code port s) := by
  unfold enterSwitch
  repeat' (first
    | (with_reducible assumption) | (intro _) | (with_reducible apply refreshEst_keeps)
    | (with_reducible apply enterState_keeps) | (with_reducible apply selectRef_keeps) | (simp only [↓Keeps.upd_iff])
    | (split) | (dsimp only))

theorem lowerToLimit_keeps {s0 : State} {f : Nat} {s : State} (hs : Keeps s0 s) : Keeps s0 (lowerToLimit f s) := by
  unfold lowerToLimit
  repeat' (first
    | (with_reducible assumption) | (intro _) | (with_reducible apply lowerTo_keeps) | (split) | (dsimp only))

theorem unqualifyFars_keeps {s0 : State} {s : State} (hs : Keeps s0 s) : Keeps s0 (unqualifyFars s) := by
  unfold unqualifyFars
  repeat' (first
    | (with_reducible assumption) | (intro _) | (with_reducible apply Keeps.forEach)
    | (with_reducible apply unqualifyFar_keeps) | (split) | (dsimp only))

theorem refPpsEdge_keeps {s0 : State} {stampPs : Nat} {refClkOk : Bool} {s : State} (hs : Keeps s0 s)
    : Keeps s0 (refPpsEdge stampPs refClkOk s) := by
  unfold refPpsEdge
  repeat' (first
    | (with_reducible assumption) | (intro _) | (with_reducible apply Keeps.ite) | (with_reducible apply State.set_keeps)
    | (with_reducible apply setCodeBit_keeps) | (with_reducible apply noteFar_keeps)
    | (with_reducible apply loopSample_keeps) | (simp only [↓Keeps.upd_iff]) | (split) | (dsimp only))

theorem ptpEvent_keeps {s0 : State} {ev : PtpEvent} {s : State} (hs : Keeps s0 s) : Keeps s0 (ptpEvent ev s) := by
  unfold ptpEvent
  repeat' (first
    | (with_reducible assumption) | (intro _) | (with_reducible apply Keeps.ite) | (with_reducible apply setCodeBit_keeps)
    | (with_reducible apply noteFar_keeps) | (with_reducible apply loopSample_keeps) | (simp only [↓Keeps.upd_iff])
    | (split) | (dsimp only))

theorem takeUp_keeps {s0 : State} {code : Nat} {port : Nat} {s : State} (hs : Keeps s0 s) : Keeps s0 (takeUp code port s) := by
  unfold takeUp
  repeat' (first
    | (with_reducible assumption) | (intro _) | (with_reducible apply Keeps.ite) | (with_reducible apply enterAcquire_keeps)
    | (with_reducible apply enterSwitch_keeps) | (split) | (dsimp only))

theorem loseSelected_keeps {s0 : State} {s : State} (hs : Keeps s0 s) : Keeps s0 (loseSelected s) := by
  unfold loseSelected
  repeat' (first
    | (with_reducible assumption) | (intro _) | (with_reducible apply Keeps.ite) | (with_reducible apply enterFree_keeps)
    | (with_reducible apply State.set_keeps) | (with_reducible apply takeUp_keeps)
    | (with_reducible apply enterHoldover_keeps) | (simp only [↓Keeps.upd_iff]) | (split) | (dsimp only))

theorem loseRef_keeps {s0 : State} {code : Nat} {port : Nat} {s : State} (hs : Keeps s0 s)
    : Keeps s0 (loseRef code port s) := by
  unfold loseRef
  repeat' (first
    | (with_reducible assumption) | (intro _) | (with_reducible apply Keeps.ite) | (with_reducible apply State.setCic_keeps)
    | (with_reducible apply setCodeBit_keeps) | (with_reducible apply loseSelected_keeps) | (simp only [↓Keeps.upd_iff])
    | (split) | (dsimp only))

theorem refLost_keeps {s0 : State} {code : Nat} {port : Nat} {clkLost : Bool} {s : State} (hs : Keeps s0 s)
    : Keeps s0 (refLost code port clkLost s) := by
  unfold refLost
  repeat' (first
    | (with_reducible assumption) | (intro _) | (with_reducible apply Keeps.ite) | (with_reducible apply loseRef_keeps)
    | (with_reducible apply dropEvidence_keeps) | (split) | (dsimp only))

theorem markProvisional_keeps {s0 : State} {code : Nat} {port : Nat} {s : State} (hs : Keeps s0 s)
    : Keeps s0 (markProvisional code port s) := by
  unfold markProvisional
  repeat' (first
    | (with_reducible assumption) | (intro _) | (with_reducible apply Keeps.ite) | (simp only [↓Keeps.upd_iff]) | (split)
    | (dsimp only))

theorem refQualified_keeps {s0 : State} {code : Nat} {port : Nat} {s : State} (hs : Keeps s0 s)
    : Keeps s0 (refQualified code port s) := by
  unfold refQualified
  repeat' (first
    | (with_reducible assumption) | (intro _) | (with_reducible apply Keeps.ite) | (with_reducible apply noteFar_keeps)
    | (with_reducible apply setCodeBit_keeps) | (with_reducible apply markProvisional_keeps)
    | (with_reducible apply enterAcquire_keeps) | (with_reducible apply takeUp_keeps) | (simp only [↓Keeps.upd_iff])
    | (split) | (dsimp only))

theorem provisionalTimeout_keeps {s0 : State} {code : Nat} {s : State} (hs : Keeps s0 s)
    : Keeps s0 (provisionalTimeout code s) := by
  unfold provisionalTimeout
  repeat' (first
    | (with_reducible assumption) | (intro _) | (with_reducible apply loseRef_keeps) | (simp only [↓Keeps.upd_iff])
    | (split) | (dsimp only))

theorem switchComplete_keeps {s0 : State} {residualPs : ℤ} {s : State} (hs : Keeps s0 s)
    : Keeps s0 (switchComplete residualPs s) := by
  unfold switchComplete
  repeat' (first
    | (with_reducible assumption) | (intro _) | (with_reducible apply Keeps.ite) | (with_reducible apply refreshEst_keeps)
    | (with_reducible apply State.set_keeps) | (with_reducible apply enterState_keeps) | (simp only [↓Keeps.upd_iff])
    | (split) | (dsimp only))

theorem revertTimer_keeps {s0 : State} {code : Nat} {port : Nat} {s : State} (hs : Keeps s0 s)
    : Keeps s0 (revertTimer code port s) := by
  unfold revertTimer
  repeat' (first
    | (with_reducible assumption) | (intro _) | (with_reducible apply Keeps.ite) | (with_reducible apply takeUp_keeps)
    | (split) | (dsimp only))

theorem ovenStable_keeps {s0 : State} {s : State} (hs : Keeps s0 s) : Keeps s0 (ovenStable s) := by
  unfold ovenStable
  repeat' (first
    | (with_reducible assumption) | (intro _) | (with_reducible apply Keeps.ite) | (with_reducible apply State.set_keeps)
    | (simp only [↓Keeps.upd_iff]) | (split) | (dsimp only))

theorem holdoverLearned_keeps {s0 : State} {s : State} (hs : Keeps s0 s) : Keeps s0 (holdoverLearned s) := by
  unfold holdoverLearned
  repeat' (first
    | (with_reducible assumption) | (intro _) | (with_reducible apply Keeps.ite) | (with_reducible apply State.set_keeps)
    | (split) | (dsimp only))

theorem holdLimitExceeded_keeps {s0 : State} {s : State} (hs : Keeps s0 s) : Keeps s0 (holdLimitExceeded s) := by
  unfold holdLimitExceeded
  repeat' (first
    | (with_reducible assumption) | (intro _) | (with_reducible apply Keeps.ite) | (with_reducible apply growEst_keeps)
    | (with_reducible apply noteAt_keeps) | (with_reducible apply State.set_keeps) | (split) | (dsimp only))

theorem ownDue_keeps {s0 : State} {f : Nat} {s : State} (hs : Keeps s0 s) : Keeps s0 (ownDue f s) := by
  unfold ownDue
  repeat' (first
    | (with_reducible assumption) | (intro _) | (with_reducible apply Keeps.ite) | (with_reducible apply applyOp_keeps)
    | (simp only [↓Keeps.upd_iff]) | (split) | (dsimp only))

theorem opChangeDue_keeps {s0 : State} {f : Nat} {s : State} (hs : Keeps s0 s) : Keeps s0 (opChangeDue f s) := by
  unfold opChangeDue
  repeat' (first
    | (with_reducible assumption) | (intro _) | (with_reducible apply Keeps.ite) | (with_reducible apply armedDue_keeps)
    | (with_reducible apply ownDue_keeps) | (split) | (dsimp only))

theorem opVoltageReady_keeps {s0 : State} {f : Nat} {s : State} (hs : Keeps s0 s) : Keeps s0 (opVoltageReady f s) := by
  unfold opVoltageReady
  repeat' (first
    | (with_reducible assumption) | (intro _) | (with_reducible apply Keeps.ite) | (with_reducible apply armedDue_keeps)
    | (with_reducible apply ownDue_keeps) | (split) | (dsimp only))

end Sys2Proof.Machine
end

