-- ==== Sys2Proof/Laws/KeepsPower.lean ====
section
/-!
SUPPORT. Laws/KeepsPower.lean: each state transformer of Machine/Power.lean keeps what `Keeps` says: the queue of waiting
commands, what was emitted, the counter of free values, the canonical form of every table.
-/
set_option linter.unusedTactic false
set_option linter.unreachableTactic false
set_option linter.unusedSimpArgs false
namespace Sys2Proof.Machine

theorem setCeilOp_keeps {s0 : State} {f : Nat} {v : Nat} {s : State} (hs : Keeps s0 s) : Keeps s0 (setCeilOp f v s) := by
  unfold setCeilOp
  repeat' (first
    | (with_reducible assumption) | (intro _) | (simp only [↓Keeps.upd_iff]) | (split) | (dsimp only))

theorem ceilDown_keeps {s0 : State} {f : Nat} {s : State} (hs : Keeps s0 s) : Keeps s0 (ceilDown f s) := by
  unfold ceilDown
  repeat' (first
    | (with_reducible assumption) | (intro _) | (with_reducible apply stepDown_keeps)
    | (with_reducible apply setCeilOp_keeps) | (split) | (dsimp only))

theorem aboveCeiling_keeps {s0 : State} {s : State} (hs : Keeps s0 s) : Keeps s0 (aboveCeiling s) := by
  unfold aboveCeiling
  repeat' (first
    | (with_reducible assumption) | (intro _) | (with_reducible apply Keeps.ite) | (with_reducible apply State.set_keeps)
    | (with_reducible apply State.count_keeps) | (with_reducible apply Keeps.forEach)
    | (with_reducible apply ceilDown_keeps) | (with_reducible apply raiseFault_keeps) | (simp only [↓Keeps.upd_iff])
    | (split) | (dsimp only))

theorem requestWake_keeps {s0 : State} {w : WakeReq} {s : State} (hs : Keeps s0 s) : Keeps s0 (requestWake w s) := by
  unfold requestWake
  repeat' (first
    | (with_reducible assumption) | (intro _) | (with_reducible apply State.set_keeps) | (simp only [↓Keeps.upd_iff])
    | (split) | (dsimp only))

theorem makeHole_keeps {s0 : State} {f : Nat} {s : State} (hs : Keeps s0 s) : Keeps s0 (makeHole f s) := by
  unfold makeHole
  repeat' (first
    | (with_reducible assumption) | (intro _) | (with_reducible apply Keeps.ite) | (with_reducible apply State.wr_keeps)
    | (split) | (dsimp only))

theorem clearClusterCells_keeps {s0 : State} {d : Nat} {s : State} (hs : Keeps s0 s) : Keeps s0 (clearClusterCells d s) := by
  unfold clearClusterCells
  repeat' (first
    | (with_reducible assumption) | (intro _) | (with_reducible apply Keeps.forEach)
    | (with_reducible apply loseScratch_keeps) | (split) | (dsimp only))

theorem vminClear_keeps {s0 : State} {s : State} (hs : Keeps s0 s) : Keeps s0 (vminClear s) := by
  unfold vminClear
  repeat' (first
    | (with_reducible assumption) | (intro _) | (with_reducible apply Keeps.ite)
    | (with_reducible apply State.overRegs_keeps) | (split) | (dsimp only))

theorem addSample_keeps {s0 : State} {draw : Nat} {s : State} (hs : Keeps s0 s) : Keeps s0 (addSample draw s) := by
  unfold addSample
  repeat' (first
    | (with_reducible assumption) | (intro _) | (simp only [↓Keeps.upd_iff]) | (split) | (dsimp only))

theorem setCharger_keeps {s0 : State} {s : State} (hs : Keeps s0 s) : Keeps s0 (setCharger s) := by
  unfold setCharger
  repeat' (first
    | (with_reducible assumption) | (intro _) | (with_reducible apply Keeps.ite) | (simp only [↓Keeps.upd_iff]) | (split)
    | (dsimp only))

theorem auxLoss_keeps {s0 : State} {s : State} (hs : Keeps s0 s) : Keeps s0 (auxLoss s) := by
  unfold auxLoss
  repeat' (first
    | (with_reducible assumption) | (intro _) | (with_reducible apply State.set_keeps)
    | (with_reducible apply setCharger_keeps) | (with_reducible apply noteAt_keeps) | (split) | (dsimp only))

theorem ballastUpdate_keeps {s0 : State} {draw : Nat} {cap : Nat} {s : State} (hs : Keeps s0 s)
    : Keeps s0 (ballastUpdate draw cap s) := by
  unfold ballastUpdate
  repeat' (first
    | (with_reducible assumption) | (intro _) | (with_reducible apply Keeps.ite) | (with_reducible apply addSample_keeps)
    | (with_reducible apply State.set_keeps) | (split) | (dsimp only))

theorem scaleBudgets_keeps {s0 : State} {s : State} (hs : Keeps s0 s) : Keeps s0 (scaleBudgets s) := by
  unfold scaleBudgets
  repeat' (first
    | (with_reducible assumption) | (intro _) | (with_reducible apply State.set_keeps)
    | (with_reducible apply Keeps.forEach) | (simp only [↓Keeps.upd_iff]) | (split) | (dsimp only))

theorem calStale_keeps {s0 : State} {draw : Nat} {s : State} (hs : Keeps s0 s) : Keeps s0 (calStale draw s) := by
  unfold calStale
  repeat' (first
    | (with_reducible assumption) | (intro _) | (with_reducible apply Keeps.ite) | (with_reducible apply Keeps.forEach)
    | (with_reducible apply State.set_keeps) | (with_reducible apply giveMargin_keeps) | (split) | (dsimp only))

theorem ceilUp_keeps {s0 : State} {f : Nat} {s : State} (hs : Keeps s0 s) : Keeps s0 (ceilUp f s) := by
  unfold ceilUp
  repeat' (first
    | (with_reducible assumption) | (intro _) | (with_reducible apply raiseToLimit_keeps)
    | (with_reducible apply setCeilOp_keeps) | (split) | (dsimp only))

theorem wakeFields_keeps {s0 : State} {fs : List Nat} {s : State} (hs : Keeps s0 s) : Keeps s0 (wakeFields fs s) := by
  unfold wakeFields
  repeat' (first
    | (with_reducible assumption) | (intro _) | (with_reducible apply Keeps.ite) | (with_reducible apply Keeps.forEach)
    | (with_reducible apply requestWake_keeps) | (simp only [↓Keeps.upd_iff]) | (split) | (dsimp only))

theorem clusterOn_keeps {s0 : State} {d : Nat} {s : State} (hs : Keeps s0 s) : Keeps s0 (clusterOn d s) := by
  unfold clusterOn
  repeat' (first
    | (with_reducible assumption) | (intro _) | (with_reducible apply Keeps.ite) | (with_reducible apply retain_keeps)
    | (with_reducible apply slewTo_keeps) | (with_reducible apply State.set_keeps) | (split) | (dsimp only))

theorem enter_keeps {s0 : State} {w : Waking} {s : State} (hs : Keeps s0 s) : Keeps s0 (enter w s) := by
  unfold enter
  repeat' (first
    | (with_reducible assumption) | (intro _) | (simp only [↓Keeps.upd_iff]) | (split) | (dsimp only))

theorem clusterWake_keeps {s0 : State} {d : Nat} {defer : Nat} {s : State} (hs : Keeps s0 s)
    : Keeps s0 (clusterWake d defer s) := by
  unfold clusterWake
  repeat' (first
    | (with_reducible assumption) | (intro _) | (with_reducible apply Keeps.ite) | (with_reducible apply slewTo_keeps)
    | (with_reducible apply enter_keeps) | (with_reducible apply Keeps.forEach) | (with_reducible apply startZero_keeps)
    | (split) | (dsimp only))

theorem enterBand_keeps {s0 : State} {vin : Nat} {s : State} (hs : Keeps s0 s) : Keeps s0 (enterBand vin s) := by
  unfold enterBand
  repeat' (first
    | (with_reducible assumption) | (intro _) | (with_reducible apply Keeps.ite) | (with_reducible apply State.set_keeps)
    | (simp only [↓Keeps.upd_iff]) | (split) | (dsimp only))

theorem updateCeiling_keeps {s0 : State} {s : State} (hs : Keeps s0 s) : Keeps s0 (updateCeiling s) := by
  unfold updateCeiling
  repeat' (first
    | (with_reducible assumption) | (intro _) | (with_reducible apply State.set_keeps) | (split) | (dsimp only))

theorem liftInput_keeps {s0 : State} {s : State} (hs : Keeps s0 s) : Keeps s0 (liftInput s) := by
  unfold liftInput
  repeat' (first
    | (with_reducible assumption) | (intro _) | (with_reducible apply Keeps.ite)
    | (with_reducible apply updateCeiling_keeps) | (with_reducible apply State.set_keeps) | (simp only [↓Keeps.upd_iff])
    | (split) | (dsimp only))

theorem measureBranch_keeps {s0 : State} {f : Nat} {s : State} (hs : Keeps s0 s) : Keeps s0 (measureBranch f s) := by
  unfold measureBranch
  repeat' (first
    | (with_reducible assumption) | (intro _) | (with_reducible apply State.free_keeps)
    | (with_reducible apply State.set_keeps) | (split) | (dsimp only))

theorem makePassable_keeps {s0 : State} {f : Nat} {s : State} (hs : Keeps s0 s) : Keeps s0 (makePassable f s) := by
  unfold makePassable
  repeat' (first
    | (with_reducible assumption) | (intro _) | (with_reducible apply Keeps.ite) | (with_reducible apply State.wr_keeps)
    | (split) | (dsimp only))

theorem dropConverter_keeps {s0 : State} {c : Nat} {s : State} (hs : Keeps s0 s) : Keeps s0 (dropConverter c s) := by
  unfold dropConverter
  repeat' (first
    | (with_reducible assumption) | (intro _) | (with_reducible apply Keeps.ite) | (with_reducible apply State.wr_keeps)
    | (split) | (dsimp only))

theorem converterFault_keeps {s0 : State} {c : Nat} {s : State} (hs : Keeps s0 s) : Keeps s0 (converterFault c s) := by
  unfold converterFault
  repeat' (first
    | (with_reducible assumption) | (intro _) | (with_reducible apply Keeps.ite)
    | (with_reducible apply dropConverter_keeps) | (with_reducible apply State.set_keeps)
    | (with_reducible apply raiseAs_keeps) | (with_reducible apply updateCeiling_keeps)
    | (with_reducible apply raiseFault_keeps) | (simp only [↓Keeps.upd_iff]) | (split) | (dsimp only))

theorem endDomainOn_keeps {s0 : State} {d : Nat} {status : Nat} {defer : Nat} {s : State} (hs : Keeps s0 s)
    : Keeps s0 (endDomainOn d status defer s) := by
  unfold endDomainOn
  repeat' (first
    | (with_reducible assumption) | (intro _) | (with_reducible apply Keeps.ite) | (with_reducible apply endJobs_keeps)
    | (split) | (dsimp only))

theorem setBreakpoints_keeps {s0 : State} {l : List Breakpoint} {s : State} (hs : Keeps s0 s)
    : Keeps s0 (setBreakpoints l s) := by
  unfold setBreakpoints
  repeat' (first
    | (with_reducible assumption) | (intro _) | (with_reducible apply State.set_keeps)
    | (with_reducible apply Keeps.forEach) | (with_reducible apply wrPair_keeps) | (with_reducible apply State.wr_keeps)
    | (split) | (dsimp only))

theorem envelopeBreakpoint_keeps {s0 : State} {s : State} (hs : Keeps s0 s) : Keeps s0 (envelopeBreakpoint s) := by
  unfold envelopeBreakpoint
  repeat' (first
    | (with_reducible assumption) | (intro _) | (with_reducible apply Keeps.ite)
    | (with_reducible apply setBreakpoints_keeps) | (with_reducible apply State.set_keeps)
    | (with_reducible apply scaleBudgets_keeps) | (simp only [↓Keeps.upd_iff]) | (split) | (dsimp only))

theorem showEnergy_keeps {s0 : State} {s : State} (hs : Keeps s0 s) : Keeps s0 (showEnergy s) := by
  unfold showEnergy
  repeat' (first
    | (with_reducible assumption) | (intro _) | (with_reducible apply Keeps.ite) | (with_reducible apply State.set_keeps)
    | (simp only [↓Keeps.upd_iff]) | (split) | (dsimp only))

theorem readBank_keeps {s0 : State} {vbank : Nat} {dq : ℤ} {s : State} (hs : Keeps s0 s) : Keeps s0 (readBank vbank dq s) := by
  unfold readBank
  repeat' (first
    | (with_reducible assumption) | (intro _) | (with_reducible apply State.set_keeps)
    | (with_reducible apply showEnergy_keeps) | (simp only [↓Keeps.upd_iff]) | (split) | (dsimp only))

theorem railLoss_keeps {s0 : State} {s : State} (hs : Keeps s0 s) : Keeps s0 (railLoss s) := by
  unfold railLoss
  repeat' (first
    | (with_reducible assumption) | (with_reducible exact wf_nil) | (with_reducible exact wf_mapVals)
    | (exact wf_of_nil rfl) | (intro _) | (with_reducible apply State.reset_keeps) | (simp only [↓Keeps.upd_iff])
    | (with_reducible apply Keeps.updAll) | (with_reducible exact List.prefix_refl _)
    | (with_reducible exact List.prefix_append _ _) | (with_reducible exact Nat.le_refl _)
    | (with_reducible exact Nat.le_succ _) | (with_reducible exact Nat.le_add_right _ _) | (with_reducible exact id)
    | (with_reducible apply wf_put_imp) | (with_reducible apply wf_filter_imp) | (split) | (dsimp only))

theorem holdupState_keeps {s0 : State} {e : Nat} {s : State} (hs : Keeps s0 s) : Keeps s0 (holdupState e s) := by
  unfold holdupState
  repeat' (first
    | (with_reducible assumption) | (intro _) | (with_reducible apply Keeps.ite) | (with_reducible apply commitStore_keeps)
    | (with_reducible apply railLoss_keeps) | (with_reducible apply State.set_keeps)
    | (with_reducible apply raiseFault_keeps) | (with_reducible apply flushJournal_keeps)
    | (with_reducible apply setCharger_keeps) | (split) | (dsimp only))

theorem estimatorDisagree_keeps {s0 : State} {vbank : Nat} {dq : ℤ} {s : State} (hs : Keeps s0 s)
    : Keeps s0 (estimatorDisagree vbank dq s) := by
  unfold estimatorDisagree
  repeat' (first
    | (with_reducible assumption) | (intro _) | (with_reducible apply Keeps.ite) | (with_reducible apply readBank_keeps)
    | (with_reducible apply State.set_keeps) | (with_reducible apply holdupState_keeps) | (split) | (dsimp only))

theorem setDefer_keeps {s0 : State} {d : Nat} {v : Nat} {s : State} (hs : Keeps s0 s) : Keeps s0 (setDefer d v s) := by
  unfold setDefer
  repeat' (first
    | (with_reducible assumption) | (intro _) | (simp only [↓Keeps.upd_iff]) | (split) | (dsimp only))

theorem failField_keeps {s0 : State} {f : Nat} {s : State} (hs : Keeps s0 s) : Keeps s0 (failField f s) := by
  unfold failField
  repeat' (first
    | (with_reducible assumption) | (intro _) | (with_reducible apply State.setPart_keeps) | (simp only [↓Keeps.upd_iff])
    | (split) | (dsimp only))

theorem resetEnvelope_keeps {s0 : State} {s : State} (hs : Keeps s0 s) : Keeps s0 (resetEnvelope s) := by
  unfold resetEnvelope
  repeat' (first
    | (with_reducible assumption) | (intro _) | (with_reducible apply setBreakpoints_keeps)
    | (with_reducible apply State.set_keeps) | (with_reducible apply scaleBudgets_keeps)
    | (with_reducible apply updateCeiling_keeps) | (simp only [↓Keeps.upd_iff]) | (split) | (dsimp only))

theorem leave_keeps {s0 : State} {d : Nat} {kind : Nat} {s : State} (hs : Keeps s0 s) : Keeps s0 (leave d kind s) := by
  unfold leave
  repeat' (first
    | (with_reducible assumption) | (intro _) | (simp only [↓Keeps.upd_iff]) | (split) | (dsimp only))

theorem scratchpadZeroDone_keeps {s0 : State} {f : Nat} {pos : Nat} {s : State} (hs : Keeps s0 s)
    : Keeps s0 (scratchpadZeroDone f pos s) := by
  unfold scratchpadZeroDone
  repeat' (first
    | (with_reducible assumption) | (intro _) | (with_reducible apply Keeps.ite) | (with_reducible apply State.set_keeps)
    | (with_reducible apply endDomainOn_keeps) | (with_reducible apply clusterOn_keeps) | (with_reducible apply leave_keeps)
    | (split) | (dsimp only))

theorem partitionWindow_keeps {s0 : State} {p : Nat} {work : Nat} {s : State} (hs : Keeps s0 s)
    : Keeps s0 (partitionWindow p work s) := by
  unfold partitionWindow
  repeat' (first
    | (with_reducible assumption) | (intro _) | (with_reducible apply Keeps.ite) | (with_reducible apply State.high_keeps)
    | (with_reducible apply State.set_keeps) | (with_reducible apply State.setPart_keeps)
    | (with_reducible apply raiseFault_keeps) | (with_reducible apply State.count_keeps)
    | (with_reducible apply noteAt_keeps) | (with_reducible apply Keeps.forEach) | (with_reducible apply stepDown_keeps)
    | (with_reducible apply raiseToLimit_keeps) | (split) | (dsimp only))

theorem rampEmulation_keeps {s0 : State} {s : State} (hs : Keeps s0 s) : Keeps s0 (rampEmulation s) := by
  unfold rampEmulation
  repeat' (first
    | (with_reducible assumption) | (intro _) | (simp only [↓Keeps.upd_iff]) | (split) | (dsimp only))

theorem rampEnvelope_keeps {s0 : State} {s : State} (hs : Keeps s0 s) : Keeps s0 (rampEnvelope s) := by
  unfold rampEnvelope
  repeat' (first
    | (with_reducible assumption) | (intro _) | (with_reducible apply updateCeiling_keeps)
    | (with_reducible apply State.set_keeps) | (simp only [↓Keeps.upd_iff]) | (split) | (dsimp only))

theorem recordStepPeaks_keeps {s0 : State} {draw : Nat} {s : State} (hs : Keeps s0 s) : Keeps s0 (recordStepPeaks draw s) := by
  unfold recordStepPeaks
  repeat' (first
    | (with_reducible assumption) | (intro _) | (with_reducible apply Keeps.forEach)
    | (with_reducible apply State.setPart_keeps) | (split) | (dsimp only))

theorem recordDraw_keeps {s0 : State} {draw : Nat} {s : State} (hs : Keeps s0 s) : Keeps s0 (recordDraw draw s) := by
  unfold recordDraw
  repeat' (first
    | (with_reducible assumption) | (intro _) | (with_reducible apply Keeps.ite) | (with_reducible apply State.set_keeps)
    | (with_reducible apply State.high_keeps) | (with_reducible apply State.count_keeps) | (split) | (dsimp only))

theorem windowBudgets_keeps {s0 : State} {s : State} (hs : Keeps s0 s) : Keeps s0 (windowBudgets s) := by
  unfold windowBudgets
  repeat' (first
    | (with_reducible assumption) | (intro _) | (with_reducible apply Keeps.ite) | (with_reducible apply scaleBudgets_keeps)
    | (split) | (dsimp only))

theorem withinCeiling_keeps {s0 : State} {draw : Nat} {s : State} (hs : Keeps s0 s) : Keeps s0 (withinCeiling draw s) := by
  unfold withinCeiling
  repeat' (first
    | (with_reducible assumption) | (intro _) | (with_reducible apply Keeps.ite) | (with_reducible apply Keeps.forEach)
    | (with_reducible apply ceilUp_keeps) | (with_reducible apply State.set_keeps) | (simp only [↓Keeps.upd_iff]) | (split)
    | (dsimp only))

theorem moduleWindow_keeps {s0 : State} {mean : Nat} {s : State} (hs : Keeps s0 s) : Keeps s0 (moduleWindow mean s) := by
  unfold moduleWindow
  repeat' (first
    | (with_reducible assumption) | (intro _) | (with_reducible apply Keeps.ite)
    | (with_reducible apply rampEmulation_keeps) | (with_reducible apply rampEnvelope_keeps)
    | (with_reducible apply recalTiers_keeps) | (with_reducible apply calStale_keeps)
    | (with_reducible apply recordStepPeaks_keeps) | (with_reducible apply recordDraw_keeps)
    | (with_reducible apply windowBudgets_keeps) | (with_reducible apply setCharger_keeps)
    | (with_reducible apply aboveCeiling_keeps) | (with_reducible apply withinCeiling_keeps) | (split) | (dsimp only))

theorem quenchReached_keeps {s0 : State} {scope : Nat} {s : State} (hs : Keeps s0 s) : Keeps s0 (quenchReached scope s) := by
  unfold quenchReached
  repeat' (first
    | (with_reducible assumption) | (intro _) | (with_reducible apply Keeps.ite) | (with_reducible apply Keeps.forEach)
    | (with_reducible apply retain_keeps) | (with_reducible apply State.set_keeps) | (with_reducible apply endJobs_keeps)
    | (with_reducible apply powerDown_keeps) | (simp only [↓Keeps.upd_iff]) | (split) | (dsimp only))

theorem mainInput_keeps {s0 : State} {vin : Nat} {s : State} (hs : Keeps s0 s) : Keeps s0 (mainInput vin s) := by
  unfold mainInput
  repeat' (first
    | (with_reducible assumption) | (intro _) | (with_reducible apply Keeps.ite) | (with_reducible apply enterBand_keeps)
    | (with_reducible apply liftInput_keeps) | (with_reducible apply State.set_keeps) | (with_reducible apply noteAt_keeps)
    | (with_reducible apply updateCeiling_keeps) | (with_reducible apply raiseFault_keeps) | (simp only [↓Keeps.upd_iff])
    | (split) | (dsimp only))

theorem inputLoss_keeps {s0 : State} {vin : Nat} {s : State} (hs : Keeps s0 s) : Keeps s0 (inputLoss vin s) := by
  unfold inputLoss
  repeat' (first
    | (with_reducible assumption) | (intro _) | (with_reducible apply Keeps.ite) | (with_reducible apply State.set_keeps)
    | (with_reducible apply enterBand_keeps) | (with_reducible apply liftInput_keeps)
    | (with_reducible apply raiseFault_keeps) | (with_reducible apply Keeps.forEach)
    | (with_reducible apply powerDown_keeps) | (with_reducible apply stopCkpt_keeps) | (with_reducible apply pinsSafe_keeps)
    | (simp only [↓Keeps.upd_iff]) | (split) | (dsimp only))

theorem takeDroopInject_keeps {s0 : State} {d : Nat} {s : State} (hs : Keeps s0 s) : Keeps s0 (takeDroopInject d s).2 := by
  unfold takeDroopInject
  repeat' (first
    | (with_reducible assumption) | (intro _) | (with_reducible apply Keeps.ite) | (with_reducible apply State.set_keeps)
    | (split) | (dsimp only))

theorem voltageSample_keeps {s0 : State} {d : Nat} {v : Nat} {s : State} (hs : Keeps s0 s)
    : Keeps s0 (voltageSample d v s) := by
  unfold voltageSample
  repeat' (first
    | (with_reducible assumption) | (intro _) | (with_reducible apply Keeps.ite)
    | (with_reducible apply takeDroopInject_keeps) | (with_reducible apply State.set_keeps)
    | (with_reducible apply wrPair_keeps) | (with_reducible apply raiseFault_keeps) | (split) | (dsimp only))

theorem softStart_keeps {s0 : State} {d : Nat} {s : State} (hs : Keeps s0 s) : Keeps s0 (softStart d s) := by
  unfold softStart
  repeat' (first
    | (with_reducible assumption) | (intro _) | (with_reducible apply holdAt_keeps) | (with_reducible apply State.set_keeps)
    | (split) | (dsimp only))

theorem tokenAdmission_keeps {s0 : State} {s : State} (hs : Keeps s0 s) : Keeps s0 (tokenAdmission s) := by
  unfold tokenAdmission
  repeat' (first
    | (with_reducible assumption) | (intro _) | (with_reducible apply Keeps.ite) | (with_reducible apply State.set_keeps)
    | (with_reducible apply State.high_keeps) | (with_reducible apply clusterWake_keeps)
    | (with_reducible apply setDefer_keeps) | (with_reducible apply softStart_keeps) | (simp only [↓Keeps.upd_iff])
    | (split) | (dsimp only))

theorem softStartRetry_keeps {s0 : State} {d : Nat} {s : State} (hs : Keeps s0 s) : Keeps s0 (softStartRetry d s) := by
  unfold softStartRetry
  repeat' (first
    | (with_reducible assumption) | (intro _) | (with_reducible apply Keeps.ite) | (with_reducible apply softStart_keeps)
    | (with_reducible apply State.count_keeps) | (with_reducible apply leave_keeps) | (split) | (dsimp only))

theorem watchFull_keeps {s0 : State} {current : Nat} {s : State} (hs : Keeps s0 s) : Keeps s0 (watchFull current s) := by
  unfold watchFull
  repeat' (first
    | (with_reducible assumption) | (intro _) | (with_reducible apply Keeps.ite) | (simp only [↓Keeps.upd_iff]) | (split)
    | (dsimp only))

theorem holdupChange_keeps {s0 : State} {vbank : Nat} {dq : ℤ} {current : Nat} {s : State} (hs : Keeps s0 s)
    : Keeps s0 (holdupChange vbank dq current s) := by
  unfold holdupChange
  repeat' (first
    | (with_reducible assumption) | (intro _) | (with_reducible apply watchFull_keeps)
    | (with_reducible apply readBank_keeps) | (with_reducible apply holdupState_keeps) | (split) | (dsimp only))

theorem holdupCalibration_keeps {s0 : State} {vbank : Nat} {dq : Nat} {s : State} (hs : Keeps s0 s)
    : Keeps s0 (holdupCalibration vbank dq s) := by
  unfold holdupCalibration
  repeat' (first
    | (with_reducible assumption) | (intro _) | (with_reducible apply Keeps.ite) | (with_reducible apply State.set_keeps)
    | (with_reducible apply showEnergy_keeps) | (simp only [↓Keeps.upd_iff]) | (split) | (dsimp only))

theorem setOpTherm_keeps {s0 : State} {f : Nat} {v : Nat} {s : State} (hs : Keeps s0 s) : Keeps s0 (setOpTherm f v s) := by
  unfold setOpTherm
  repeat' (first
    | (with_reducible assumption) | (intro _) | (with_reducible apply Keeps.forEach)
    | (with_reducible apply State.set_keeps) | (split) | (dsimp only))

theorem fieldThermal_keeps {s0 : State} {f : Nat} {t : Nat} {s : State} (hs : Keeps s0 s) : Keeps s0 (fieldThermal f t s) := by
  unfold fieldThermal
  repeat' (first
    | (with_reducible assumption) | (intro _) | (with_reducible apply Keeps.ite) | (with_reducible apply State.set_keeps)
    | (with_reducible apply noteAt_keeps) | (with_reducible apply raiseFault_keeps)
    | (with_reducible apply lowerToLimit_keeps) | (with_reducible apply setOpTherm_keeps)
    | (with_reducible apply raiseToLimit_keeps) | (simp only [↓Keeps.upd_iff]) | (split) | (dsimp only))

theorem thermalWindow_keeps {s0 : State} {rep : ThermReport} {s : State} (hs : Keeps s0 s)
    : Keeps s0 (thermalWindow rep s) := by
  unfold thermalWindow
  repeat' (first
    | (with_reducible assumption) | (intro _) | (with_reducible apply Keeps.ite) | (with_reducible apply Keeps.foldl)
    | (with_reducible apply Keeps.foldl_snd) | (with_reducible apply Keeps.foldl_third)
    | (with_reducible apply State.set_keeps) | (with_reducible apply Keeps.forEach)
    | (with_reducible apply fieldThermal_keeps) | (with_reducible apply raiseFault_keeps)
    | (with_reducible apply updateCeiling_keeps) | (with_reducible apply noteAt_keeps) | (simp only [↓Keeps.upd_iff])
    | (split) | (dsimp only))

theorem retainedOn_keeps {s0 : State} {s : State} (hs : Keeps s0 s) : Keeps s0 (retainedOn s) := by
  unfold retainedOn
  repeat' (first
    | (with_reducible assumption) | (intro _) | (with_reducible apply Keeps.foldl) | (with_reducible apply Keeps.foldl_snd)
    | (with_reducible apply Keeps.foldl_third) | (with_reducible apply endDomainOn_keeps)
    | (with_reducible apply clusterOn_keeps) | (with_reducible apply leave_keeps) | (split) | (dsimp only))

end Sys2Proof.Machine
end

