-- ==== Sys2Proof/Laws/KeepsParts.lean ====
section
/-!
SUPPORT. Laws/KeepsParts.lean: each state transformer of Machine/Parts.lean keeps what `Keeps` says: the queue of waiting
commands, what was emitted, the counter of free values, the canonical form of every table.
-/
set_option linter.unusedTactic false
set_option linter.unreachableTactic false
set_option linter.unusedSimpArgs false
namespace Sys2Proof.Machine

theorem takeStaged_keeps {s0 : State} {l : List StageEntry} {t : Nat} {s : State} (hs : Keeps s0 s)
    : Keeps s0 (takeStaged l t s) := by
  unfold takeStaged
  repeat' (first
    | (with_reducible assumption) | (intro _) | (with_reducible apply Keeps.ite) | (with_reducible apply note_keeps)
    | (with_reducible apply State.wr_keeps) | (simp only [↓Keeps.upd_iff]) | (split) | (dsimp only))

theorem storeConfig_keeps {s0 : State} {epoch : Nat} {digest : List Byte} {s : State} (hs : Keeps s0 s)
    : Keeps s0 (storeConfig epoch digest s) := by
  unfold storeConfig
  repeat' (first
    | (with_reducible assumption) | (intro _) | (simp only [↓Keeps.upd_iff]) | (split) | (dsimp only))

theorem applyLive_keeps {s0 : State} {s : State} (hs : Keeps s0 s) : Keeps s0 (applyLive s) := by
  unfold applyLive
  repeat' (first
    | (with_reducible assumption) | (intro _) | (with_reducible apply Keeps.ite) | (with_reducible apply Keeps.forEach)
    | (with_reducible apply State.set_keeps) | (with_reducible apply noteAt_keeps) | (with_reducible apply leaveLive_keeps)
    | (split) | (dsimp only))

theorem applyCommit_keeps {s0 : State} {p : Nat} {s : State} (hs : Keeps s0 s) : Keeps s0 (applyCommit p s) := by
  unfold applyCommit
  repeat' (first
    | (with_reducible assumption) | (intro _) | (with_reducible apply Keeps.ite) | (with_reducible apply Keeps.foldl)
    | (with_reducible apply Keeps.foldl_snd) | (with_reducible apply Keeps.foldl_third)
    | (with_reducible apply State.set_keeps) | (with_reducible apply State.setPart_keeps)
    | (with_reducible apply takeStaged_keeps) | (with_reducible apply State.journal_keeps)
    | (with_reducible apply storeConfig_keeps) | (with_reducible apply applyLive_keeps)
    | (with_reducible apply setChanging_keeps) | (with_reducible apply setPartState_keeps)
    | (with_reducible apply endJobs_keeps) | (simp only [↓Keeps.upd_iff]) | (split) | (dsimp only))

theorem dropSchedules_keeps {s0 : State} {p : Nat} {s : State} (hs : Keeps s0 s) : Keeps s0 (dropSchedules p s) := by
  unfold dropSchedules
  repeat' (first
    | (with_reducible assumption) | (intro _) | (with_reducible apply Keeps.ite) | (with_reducible apply Keeps.forEach)
    | (with_reducible apply State.set_keeps) | (with_reducible apply State.wr_keeps)
    | (with_reducible apply setUpdating_keeps) | (split) | (dsimp only))

theorem setKeyBit_keeps {s0 : State} {f : Fld} {p : Nat} {on : Bool} {s : State} (hs : Keeps s0 s)
    : Keeps s0 (setKeyBit f p on s) := by
  unfold setKeyBit
  repeat' (first
    | (with_reducible assumption) | (intro _) | (with_reducible apply Keeps.ite) | (with_reducible apply State.set_keeps)
    | (split) | (dsimp only))

theorem eraseKeys_keeps {s0 : State} {p : Nat} {s : State} (hs : Keeps s0 s) : Keeps s0 (eraseKeys p s) := by
  unfold eraseKeys
  repeat' (first
    | (with_reducible assumption) | (intro _) | (with_reducible apply State.setPart_keeps)
    | (with_reducible apply Keeps.forEach) | (with_reducible apply setKeyBit_keeps) | (split) | (dsimp only))

theorem setShares_keeps {s0 : State} {p : Nat} {v : Nat} {s : State} (hs : Keeps s0 s) : Keeps s0 (setShares p v s) := by
  unfold setShares
  repeat' (first
    | (with_reducible assumption) | (intro _) | (with_reducible apply Keeps.forEach) | (with_reducible apply State.wr_keeps)
    | (split) | (dsimp only))

theorem freeFences_keeps {s0 : State} {p : Nat} {s : State} (hs : Keeps s0 s) : Keeps s0 (freeFences p s) := by
  unfold freeFences
  repeat' (first
    | (with_reducible assumption) | (intro _) | (with_reducible apply Keeps.ite) | (with_reducible apply Keeps.forEach)
    | (with_reducible apply State.wr_keeps) | (split) | (dsimp only))

theorem endPartJobs_keeps {s0 : State} {p : Nat} {status : Nat} {s : State} (hs : Keeps s0 s)
    : Keeps s0 (endPartJobs p status s) := by
  unfold endPartJobs
  repeat' (first
    | (with_reducible assumption) | (intro _) | (with_reducible apply endJobs_keeps) | (split) | (dsimp only))

theorem beginDestroy_keeps {s0 : State} {p : Nat} {s : State} (hs : Keeps s0 s) : Keeps s0 (beginDestroy p s) := by
  unfold beginDestroy
  repeat' (first
    | (with_reducible assumption) | (intro _) | (with_reducible apply Keeps.ite) | (with_reducible apply setPartState_keeps)
    | (with_reducible apply dropSchedules_keeps) | (with_reducible apply eraseKeys_keeps)
    | (with_reducible apply stopCkpt_keeps) | (with_reducible apply Keeps.forEach)
    | (with_reducible apply State.setVault_keeps) | (with_reducible apply setShares_keeps)
    | (with_reducible apply freeFences_keeps) | (with_reducible apply dropPortFrames_keeps)
    | (with_reducible apply endPartJobs_keeps) | (with_reducible apply State.setPart_keeps)
    | (with_reducible apply State.set_keeps) | (with_reducible apply clearField_keeps) | (split) | (dsimp only))

theorem cicadaFrame_keeps {s0 : State} {n : Nat} {hdr : Frame} {fr : CicadaFrame} {rxPs : Nat} {s : State} (hs : Keeps s0 s)
    : Keeps s0 (cicadaFrame n hdr fr rxPs s) := by
  unfold cicadaFrame
  repeat' (first
    | (with_reducible assumption) | (intro _) | (with_reducible apply Keeps.ite) | (with_reducible apply State.setCic_keeps)
    | (with_reducible apply receiveFrame_keeps) | (with_reducible apply cicadaReceive_keeps) | (split) | (dsimp only))

theorem releasePart_keeps {s0 : State} {p : Nat} {s : State} (hs : Keeps s0 s) : Keeps s0 (releasePart p s) := by
  unfold releasePart
  repeat' (first
    | (with_reducible assumption) | (intro _) | (with_reducible apply Keeps.foldl) | (with_reducible apply Keeps.foldl_snd)
    | (with_reducible apply Keeps.foldl_third) | (with_reducible apply setPartMask_keeps)
    | (with_reducible apply State.setPart_keeps) | (with_reducible apply State.resetRegs_keeps)
    | (with_reducible apply State.set_keeps) | (with_reducible apply wakeFields_keeps)
    | (with_reducible apply setChanging_keeps) | (with_reducible apply scaleBudgets_keeps) | (split) | (dsimp only))

theorem undoCreate_keeps {s0 : State} {p : Nat} {s : State} (hs : Keeps s0 s) : Keeps s0 (undoCreate p s) := by
  unfold undoCreate
  repeat' (first
    | (with_reducible assumption) | (intro _) | (with_reducible apply releasePart_keeps)
    | (with_reducible apply freeFences_keeps) | (with_reducible apply setShares_keeps) | (split) | (dsimp only))

theorem settleCommits_keeps {s0 : State} {s : State} (hs : Keeps s0 s) : Keeps s0 (settleCommits s) := by
  unfold settleCommits
  repeat' (first
    | (with_reducible assumption) | (intro _) | (with_reducible apply Keeps.ite) | (with_reducible apply Keeps.forEach)
    | (with_reducible apply applyCommit_keeps) | (split) | (dsimp only))

theorem configCommitDue_keeps {s0 : State} {p : Nat} {s : State} (hs : Keeps s0 s) : Keeps s0 (configCommitDue p s) := by
  unfold configCommitDue
  repeat' (first
    | (with_reducible assumption) | (intro _) | (with_reducible apply Keeps.ite)
    | (with_reducible apply settleCommits_keeps) | (split) | (dsimp only))

theorem placeC_keeps {s0 : State} {p : Nat} {v : Nat} {kind : Nat} {mover : Nat} {ue : Nat} {base : Nat} {limit : Nat}
    {s : State} (hs : Keeps s0 s) : Keeps s0 (placeC p v kind mover ue base limit s) := by
  unfold placeC
  repeat' (first
    | (with_reducible assumption) | (intro _) | (with_reducible apply State.set_keeps) | (split) | (dsimp only))

theorem placeP_keeps {s0 : State} {p : Nat} {v : Nat} {base : Nat} {limit : Nat} {s : State} (hs : Keeps s0 s)
    : Keeps s0 (placeP p v base limit s) := by
  unfold placeP
  repeat' (first
    | (with_reducible assumption) | (intro _) | (with_reducible apply State.set_keeps) | (split) | (dsimp only))

theorem settle_keeps {s0 : State} {s : State} (hs : Keeps s0 s) : Keeps s0 (settle s) := by
  unfold settle
  repeat' (first
    | (with_reducible assumption) | (intro _) | (with_reducible apply mapActivation_keeps)
    | (with_reducible apply settleCommits_keeps) | (split) | (dsimp only))

end Sys2Proof.Machine
end

