-- ==== Sys2Proof/Laws/KeepsBringUp.lean ====
section
/-!
SUPPORT. Laws/KeepsBringUp.lean: each state transformer of Machine/BringUp.lean keeps what `Keeps` says: the queue of waiting
commands, what was emitted, the counter of free values, the canonical form of every table.
-/
set_option linter.unusedTactic false
set_option linter.unreachableTactic false
set_option linter.unusedSimpArgs false
namespace Sys2Proof.Machine

theorem maskReset_keeps {s0 : State} {s : State} (hs : Keeps s0 s) : Keeps s0 (maskReset s) := by
  unfold maskReset
  repeat' (first
    | (with_reducible assumption) | (intro _) | (with_reducible apply Keeps.ite) | (with_reducible apply State.set_keeps)
    | (simp only [↓Keeps.upd_iff]) | (split) | (dsimp only))

theorem endEmulation_keeps {s0 : State} {s : State} (hs : Keeps s0 s) : Keeps s0 (endEmulation s) := by
  unfold endEmulation
  repeat' (first
    | (with_reducible assumption) | (intro _) | (simp only [↓Keeps.upd_iff]) | (split) | (dsimp only))

theorem failRun_keeps {s0 : State} {code : Nat} {s : State} (hs : Keeps s0 s) : Keeps s0 (failRun code s) := by
  unfold failRun
  repeat' (first
    | (with_reducible assumption) | (intro _) | (with_reducible apply Keeps.ite) | (with_reducible apply State.set_keeps)
    | (with_reducible apply endEmulation_keeps) | (with_reducible apply endJobs_keeps)
    | (with_reducible apply raiseFault_keeps) | (simp only [↓Keeps.upd_iff]) | (split) | (dsimp only))

theorem keepRwl_keeps {s0 : State} {old : State} {s : State} (hs : Keeps s0 s) : Keeps s0 (keepRwl old s) := by
  unfold keepRwl
  repeat' (first
    | (with_reducible assumption) | (intro _) | (with_reducible apply Keeps.ite) | (with_reducible apply Keeps.foldl)
    | (with_reducible apply Keeps.foldl_snd) | (with_reducible apply Keeps.foldl_third)
    | (with_reducible apply State.wr_keeps) | (simp only [↓Keeps.upd_iff]) | (split) | (dsimp only))

theorem clearConfig_keeps {s0 : State} {s : State} (hs : Keeps s0 s) : Keeps s0 (clearConfig s) := by
  unfold clearConfig
  repeat' (first
    | (with_reducible assumption) | (intro _) | (with_reducible apply Keeps.forEach)
    | (with_reducible apply State.set_keeps) | (simp only [↓Keeps.upd_iff]) | (split) | (dsimp only))

theorem clearUnits_keeps {s0 : State} {s : State} (hs : Keeps s0 s) : Keeps s0 (clearUnits s) := by
  unfold clearUnits
  repeat' (first
    | (with_reducible assumption) | (with_reducible exact wf_nil) | (with_reducible exact wf_mapVals) | (intro _)
    | (simp only [↓Keeps.upd_iff]) | (with_reducible apply Keeps.updAll) | (with_reducible exact List.prefix_refl _)
    | (with_reducible exact List.prefix_append _ _) | (with_reducible exact Nat.le_refl _)
    | (with_reducible exact Nat.le_succ _) | (with_reducible exact Nat.le_add_right _ _) | (with_reducible exact id)
    | (with_reducible apply wf_put_imp) | (with_reducible apply wf_filter_imp) | (split) | (dsimp only))

theorem loseWafer_keeps {s0 : State} {s : State} (hs : Keeps s0 s) : Keeps s0 (loseWafer s) := by
  unfold loseWafer
  repeat' (first
    | (with_reducible assumption) | (with_reducible exact wf_nil) | (with_reducible exact wf_mapVals) | (intro _)
    | (with_reducible apply clearConfig_keeps) | (with_reducible apply clearUnits_keeps)
    | (with_reducible apply State.resetRegs_keeps) | (simp only [↓Keeps.upd_iff]) | (with_reducible apply Keeps.updAll)
    | (with_reducible exact List.prefix_refl _) | (with_reducible exact List.prefix_append _ _)
    | (with_reducible exact Nat.le_refl _) | (with_reducible exact Nat.le_succ _)
    | (with_reducible exact Nat.le_add_right _ _) | (with_reducible exact id) | (with_reducible apply wf_put_imp)
    | (with_reducible apply wf_filter_imp) | (split) | (dsimp only))

theorem restartLog_keeps {s0 : State} {s : State} (hs : Keeps s0 s) : Keeps s0 (restartLog s) := by
  unfold restartLog
  repeat' (first
    | (with_reducible assumption) | (intro _) | (with_reducible apply State.wr_keeps) | (simp only [↓Keeps.upd_iff])
    | (split) | (dsimp only))

theorem coldStart_keeps {s0 : State} {s : State} (hs : Keeps s0 s) : Keeps s0 (coldStart s) := by
  unfold coldStart
  repeat' (first
    | (with_reducible assumption) | (intro _) | (with_reducible apply Keeps.ite) | (with_reducible apply keepRwl_keeps)
    | (with_reducible apply loseWafer_keeps) | (with_reducible apply State.set_keeps)
    | (with_reducible apply restartLog_keeps) | (simp only [↓Keeps.upd_iff]) | (split) | (dsimp only))

theorem startStacks_keeps {s0 : State} {s : State} (hs : Keeps s0 s) : Keeps s0 (startStacks s) := by
  unfold startStacks
  repeat' (first
    | (with_reducible assumption) | (intro _) | (with_reducible apply Keeps.forEach)
    | (with_reducible apply requestWake_keeps) | (split) | (dsimp only))

theorem powerOut_keeps {s0 : State} {s : State} (hs : Keeps s0 s) : Keeps s0 (powerOut s) := by
  unfold powerOut
  repeat' (first
    | (with_reducible assumption) | (intro _) | (with_reducible apply Keeps.forEach) | (with_reducible apply makeHole_keeps)
    | (with_reducible apply domainOff_keeps) | (split) | (dsimp only))

theorem startUncores_keeps {s0 : State} {s : State} (hs : Keeps s0 s) : Keeps s0 (startUncores s) := by
  unfold startUncores
  repeat' (first
    | (with_reducible assumption) | (intro _) | (with_reducible apply Keeps.forEach) | (with_reducible apply powerOut_keeps)
    | (with_reducible apply requestWake_keeps) | (split) | (dsimp only))

theorem loadStored_keeps {s0 : State} {s : State} (hs : Keeps s0 s) : Keeps s0 (loadStored s) := by
  unfold loadStored
  repeat' (first
    | (with_reducible assumption) | (intro _) | (with_reducible apply Keeps.ite) | (with_reducible apply Keeps.foldl)
    | (with_reducible apply Keeps.foldl_snd) | (with_reducible apply Keeps.foldl_third)
    | (with_reducible apply State.wr_keeps) | (split) | (dsimp only))

theorem wakeAll_keeps {s0 : State} {s : State} (hs : Keeps s0 s) : Keeps s0 (wakeAll s) := by
  unfold wakeAll
  repeat' (first
    | (with_reducible assumption) | (intro _) | (with_reducible apply Keeps.ite) | (with_reducible apply Keeps.forEach)
    | (with_reducible apply domainOff_keeps) | (with_reducible apply slewTo_keeps) | (with_reducible apply State.set_keeps)
    | (with_reducible apply clearClusterCells_keeps) | (with_reducible apply requestWake_keeps) | (split) | (dsimp only))

theorem startPorts_keeps {s0 : State} {s : State} (hs : Keeps s0 s) : Keeps s0 (startPorts s) := by
  unfold startPorts
  repeat' (first
    | (with_reducible assumption) | (intro _) | (with_reducible apply Keeps.ite) | (with_reducible apply Keeps.forEach)
    | (with_reducible apply State.set_keeps) | (with_reducible apply toDetect_keeps) | (with_reducible apply applyEn_keeps)
    | (split) | (dsimp only))

theorem startStep_keeps {s0 : State} {k : Nat} {s : State} (hs : Keeps s0 s) : Keeps s0 (startStep k s) := by
  unfold startStep
  repeat' (first
    | (with_reducible assumption) | (intro _) | (with_reducible apply coldStart_keeps)
    | (with_reducible apply startStacks_keeps) | (with_reducible apply startUncores_keeps)
    | (with_reducible apply loadStored_keeps) | (with_reducible apply wakeAll_keeps)
    | (with_reducible apply startPorts_keeps) | (simp only [↓Keeps.upd_iff]) | (split) | (dsimp only))

theorem buGo_keeps {s0 : State} {n : Nat} {s : State} (hs : Keeps s0 s) : Keeps s0 (buGo n s) := by
  unfold buGo
  repeat' (first
    | (with_reducible assumption) | (intro _) | (with_reducible apply Keeps.ite) | (with_reducible apply note_keeps)
    | (with_reducible apply State.set_keeps) | (with_reducible apply failRun_keeps) | (with_reducible apply startStep_keeps)
    | (simp only [↓Keeps.upd_iff]) | (split) | (dsimp only))

theorem buAbort_keeps {s0 : State} {s : State} (hs : Keeps s0 s) : Keeps s0 (buAbort s) := by
  unfold buAbort
  repeat' (first
    | (with_reducible assumption) | (intro _) | (with_reducible apply Keeps.ite) | (simp only [↓Keeps.upd_iff]) | (split)
    | (dsimp only))

theorem storeDefect_keeps {s0 : State} {d : DefectEntry} {s : State} (hs : Keeps s0 s) : Keeps s0 (storeDefect d s) := by
  unfold storeDefect
  repeat' (first
    | (with_reducible assumption) | (intro _) | (with_reducible apply Keeps.ite) | (with_reducible apply State.set_keeps)
    | (with_reducible apply State.journal_keeps) | (simp only [↓Keeps.upd_iff]) | (split) | (dsimp only))

theorem defectAdd_keeps {s0 : State} {s : State} (hs : Keeps s0 s) : Keeps s0 (defectAdd s) := by
  unfold defectAdd
  repeat' (first
    | (with_reducible assumption) | (intro _) | (with_reducible apply storeDefect_keeps) | (split) | (dsimp only))

theorem defectPurge_keeps {s0 : State} {s : State} (hs : Keeps s0 s) : Keeps s0 (defectPurge s) := by
  unfold defectPurge
  repeat' (first
    | (with_reducible assumption) | (intro _) | (simp only [↓Keeps.upd_iff]) | (split) | (dsimp only))

theorem startDrive_keeps {s0 : State} {s : State} (hs : Keeps s0 s) : Keeps s0 (startDrive s) := by
  unfold startDrive
  repeat' (first
    | (with_reducible assumption) | (intro _) | (with_reducible apply Keeps.ite) | (with_reducible apply State.set_keeps)
    | (simp only [↓Keeps.upd_iff]) | (split) | (dsimp only))

theorem newDefect_keeps {s0 : State} {d : DefectEntry} {s : State} (hs : Keeps s0 s) : Keeps s0 (newDefect d s) := by
  unfold newDefect
  repeat' (first
    | (with_reducible assumption) | (intro _) | (with_reducible apply storeDefect_keeps)
    | (with_reducible apply noteAt_keeps) | (simp only [↓Keeps.upd_iff]) | (split) | (dsimp only))

theorem broadcastFw_keeps {s0 : State} {bundle : List Byte} {bad : List Nat} {s : State} (hs : Keeps s0 s)
    : Keeps s0 (broadcastFw bundle bad s) := by
  unfold broadcastFw
  repeat' (first
    | (with_reducible assumption) | (intro _) | (with_reducible apply Keeps.ite) | (with_reducible apply Keeps.forEach)
    | (with_reducible apply newDefect_keeps) | (with_reducible apply State.setField_keeps)
    | (with_reducible apply powerOut_keeps) | (split) | (dsimp only))

theorem chargeAgain_keeps {s0 : State} {s : State} (hs : Keeps s0 s) : Keeps s0 (chargeAgain s) := by
  unfold chargeAgain
  repeat' (first
    | (with_reducible assumption) | (intro _) | (with_reducible apply Keeps.ite) | (with_reducible apply State.set_keeps)
    | (split) | (dsimp only))

theorem step2_keeps {s0 : State} {rep : StepReport} {s : State} (hs : Keeps s0 s) : Keeps s0 (step2 rep s).2 := by
  unfold step2
  repeat' (first
    | (with_reducible assumption) | (intro _) | (with_reducible apply Keeps.ite) | (with_reducible apply Keeps.ite_snd)
    | (with_reducible apply Keeps.foldl) | (with_reducible apply Keeps.foldl_snd) | (with_reducible apply Keeps.foldl_third)
    | (with_reducible apply State.set_keeps) | (with_reducible apply enterBand_keeps)
    | (with_reducible apply liftInput_keeps) | (with_reducible apply State.wr_keeps)
    | (with_reducible apply setCharger_keeps) | (with_reducible apply updateCeiling_keeps)
    | (with_reducible apply chargeAgain_keeps) | (simp only [↓Keeps.upd_iff]) | (split) | (dsimp only))

theorem step3_keeps {s0 : State} {s : State} (hs : Keeps s0 s) : Keeps s0 (step3 s) := by
  unfold step3
  repeat' (first
    | (with_reducible assumption) | (intro _) | (with_reducible apply Keeps.forEach)
    | (with_reducible apply State.set_keeps) | (split) | (dsimp only))

theorem step5_keeps {s0 : State} {align : Nat} {s : State} (hs : Keeps s0 s) : Keeps s0 (step5 align s) := by
  unfold step5
  repeat' (first
    | (with_reducible assumption) | (intro _) | (with_reducible apply wrPair_keeps) | (with_reducible apply Keeps.forEach)
    | (with_reducible apply measureBranch_keeps) | (split) | (dsimp only))

theorem placePart0_keeps {s0 : State} {s : State} (hs : Keeps s0 s) : Keeps s0 (placePart0 s) := by
  unfold placePart0
  repeat' (first
    | (with_reducible assumption) | (intro _) | (with_reducible apply State.set_keeps) | (split) | (dsimp only))

theorem reportTiers_keeps {s0 : State} {s : State} (hs : Keeps s0 s) : Keeps s0 (reportTiers s) := by
  unfold reportTiers
  repeat' (first
    | (with_reducible assumption) | (intro _) | (with_reducible apply Keeps.ite) | (with_reducible apply Keeps.forEach)
    | (with_reducible apply State.set_keeps) | (split) | (dsimp only))

theorem freeBytes_keeps {s0 s : State} {n : Nat} (h : Keeps s0 s) : Keeps s0 (freeBytes s n).2 := by
  induction n generalizing s with
  | zero => exact h
  | succ n ih => exact ih (State.free_keeps h)

theorem loadPart0Keys_keeps {s0 : State} {s : State} (hs : Keeps s0 s) : Keeps s0 (loadPart0Keys s) := by
  unfold loadPart0Keys
  repeat' (first
    | (with_reducible assumption) | (intro _) | (with_reducible apply State.setPart_keeps)
    | (with_reducible apply Keeps.forEach) | (with_reducible apply setKeyBit_keeps) | (split) | (dsimp only))

theorem step6_keeps {s0 : State} {s : State} (hs : Keeps s0 s) : Keeps s0 (step6 s) := by
  unfold step6
  repeat' (first
    | (with_reducible assumption) | (with_reducible exact wf_nil) | (with_reducible exact wf_mapVals) | (intro _)
    | (with_reducible apply placePart0_keeps) | (with_reducible apply reportTiers_keeps)
    | (with_reducible apply Keeps.forEach) | (with_reducible apply State.setField_keeps)
    | (with_reducible apply captureTiers_keeps) | (with_reducible apply freeBytes_keeps)
    | (with_reducible apply loadPart0Keys_keeps) | (with_reducible apply State.setPart_keeps) | (simp only [↓Keeps.upd_iff])
    | (with_reducible apply Keeps.updAll) | (with_reducible exact List.prefix_refl _)
    | (with_reducible exact List.prefix_append _ _) | (with_reducible exact Nat.le_refl _)
    | (with_reducible exact Nat.le_succ _) | (with_reducible exact Nat.le_add_right _ _) | (with_reducible exact id)
    | (with_reducible apply wf_put_imp) | (with_reducible apply wf_filter_imp) | (split) | (dsimp only))

theorem failCell_keeps {s0 : State} {f : Nat} {pos : Nat} {s : State} (hs : Keeps s0 s) : Keeps s0 (failCell f pos s) := by
  unfold failCell
  repeat' (first
    | (with_reducible assumption) | (intro _) | (with_reducible apply Keeps.ite) | (with_reducible apply moveLogical_keeps)
    | (with_reducible apply State.set_keeps) | (simp only [↓Keeps.upd_iff]) | (split) | (dsimp only))

theorem mapField_keeps {s0 : State} {f : Nat} {s : State} (hs : Keeps s0 s) : Keeps s0 (mapField f s) := by
  unfold mapField
  repeat' (first
    | (with_reducible assumption) | (intro _) | (with_reducible apply Keeps.ite) | (with_reducible apply Keeps.forEach)
    | (with_reducible apply State.set_keeps) | (with_reducible apply failCell_keeps) | (split) | (dsimp only))

theorem step8_keeps {s0 : State} {s : State} (hs : Keeps s0 s) : Keeps s0 (step8 s) := by
  unfold step8
  repeat' (first
    | (with_reducible assumption) | (intro _) | (with_reducible apply Keeps.ite) | (with_reducible apply Keeps.forEach)
    | (with_reducible apply mapField_keeps) | (with_reducible apply makePassable_keeps)
    | (with_reducible apply makeHole_keeps) | (simp only [↓Keeps.upd_iff]) | (split) | (dsimp only))

theorem runFirmware_keeps {s0 : State} {rep : StepReport} {b : FwBank} {s : State} (hs : Keeps s0 s)
    : Keeps s0 (runFirmware rep b s) := by
  unfold runFirmware
  repeat' (first
    | (with_reducible assumption) | (intro _) | (with_reducible apply broadcastFw_keeps)
    | (with_reducible apply State.set_keeps) | (with_reducible apply Keeps.forEach)
    | (with_reducible apply State.setField_keeps) | (split) | (dsimp only))

theorem commitBundle_keeps {s0 : State} {w : FwBank} {s : State} (hs : Keeps s0 s) : Keeps s0 (commitBundle w s) := by
  unfold commitBundle
  repeat' (first
    | (with_reducible assumption) | (intro _) | (with_reducible apply Keeps.ite) | (simp only [↓Keeps.upd_iff]) | (split)
    | (dsimp only))

theorem tryBank_keeps {s0 : State} {rep : StepReport} {b : Bool} {s : State} (hs : Keeps s0 s)
    : Keeps s0 (tryBank rep b s).2 := by
  unfold tryBank
  repeat' (first
    | (with_reducible assumption) | (intro _) | (with_reducible apply Keeps.ite) | (with_reducible apply State.set_keeps)
    | (with_reducible apply noteAt_keeps) | (split) | (dsimp only))

theorem step9_keeps {s0 : State} {rep : StepReport} {s : State} (hs : Keeps s0 s) : Keeps s0 (step9 rep s).2 := by
  unfold step9
  repeat' (first
    | (with_reducible assumption) | (intro _) | (with_reducible apply Keeps.ite) | (with_reducible apply State.set_keeps)
    | (with_reducible apply State.emit_keeps) | (with_reducible apply runFirmware_keeps)
    | (with_reducible apply commitBundle_keeps) | (with_reducible apply tryBank_keeps) | (simp only [↓Keeps.upd_iff])
    | (split) | (dsimp only))

theorem sweepNotes_keeps {s0 : State} {us : List (Nat × Nat × Nat)} {s : State} (hs : Keeps s0 s)
    : Keeps s0 (sweepNotes us s) := by
  unfold sweepNotes
  repeat' (first
    | (with_reducible assumption) | (intro _) | (with_reducible apply State.wr_keeps) | (with_reducible apply Keeps.forEach)
    | (with_reducible apply State.count_keeps) | (simp only [↓Keeps.upd_iff]) | (split) | (dsimp only))

theorem failTested_keeps {s0 : State} {id : Nat} {s : State} (hs : Keeps s0 s) : Keeps s0 (failTested id s) := by
  unfold failTested
  repeat' (first
    | (with_reducible assumption) | (intro _) | (with_reducible apply failCell_keeps)
    | (with_reducible apply newDefect_keeps) | (split) | (dsimp only))

theorem leaveQuench_keeps {s0 : State} {s : State} (hs : Keeps s0 s) : Keeps s0 (leaveQuench s) := by
  unfold leaveQuench
  repeat' (first
    | (with_reducible assumption) | (intro _) | (with_reducible apply State.set_keeps) | (simp only [↓Keeps.upd_iff])
    | (split) | (dsimp only))

theorem step10_keeps {s0 : State} {rep : StepReport} {s : State} (hs : Keeps s0 s) : Keeps s0 (step10 rep s).2 := by
  unfold step10
  repeat' (first
    | (with_reducible assumption) | (intro _) | (with_reducible apply Keeps.ite) | (with_reducible apply sweepNotes_keeps)
    | (with_reducible apply Keeps.forEach) | (with_reducible apply failTested_keeps) | (with_reducible apply State.wr_keeps)
    | (with_reducible apply leaveQuench_keeps) | (with_reducible apply setPartState_keeps) | (split) | (dsimp only))

theorem stepEffect_keeps {s0 : State} {k : Nat} {rep : StepReport} {s : State} (hs : Keeps s0 s)
    : Keeps s0 (stepEffect k rep s).2 := by
  unfold stepEffect
  repeat' (first
    | (with_reducible assumption) | (intro _) | (with_reducible apply Keeps.ite) | (with_reducible apply Keeps.foldl)
    | (with_reducible apply Keeps.foldl_snd) | (with_reducible apply Keeps.foldl_third)
    | (with_reducible apply powerOut_keeps) | (with_reducible apply newDefect_keeps) | (with_reducible apply step2_keeps)
    | (with_reducible apply step3_keeps) | (with_reducible apply step5_keeps) | (with_reducible apply step6_keeps)
    | (with_reducible apply endEmulation_keeps) | (with_reducible apply step8_keeps) | (with_reducible apply step9_keeps)
    | (with_reducible apply step10_keeps) | (split) | (dsimp only))

theorem coldComplete_keeps {s0 : State} {rep : StepReport} {s : State} (hs : Keeps s0 s) : Keeps s0 (coldComplete rep s) := by
  unfold coldComplete
  repeat' (first
    | (with_reducible assumption) | (intro _) | (with_reducible apply Keeps.ite) | (with_reducible apply stepEffect_keeps)
    | (with_reducible apply failRun_keeps) | (with_reducible apply State.set_keeps) | (with_reducible apply startStep_keeps)
    | (simp only [↓Keeps.upd_iff]) | (split) | (dsimp only))

theorem endRun_keeps {s0 : State} {code : Nat} {s : State} (hs : Keeps s0 s) : Keeps s0 (endRun code s) := by
  unfold endRun
  repeat' (first
    | (with_reducible assumption) | (intro _) | (with_reducible apply Keeps.ite) | (with_reducible apply failRun_keeps)
    | (split) | (dsimp only))

theorem warmStart_keeps {s0 : State} {s : State} (hs : Keeps s0 s) : Keeps s0 (warmStart s) := by
  unfold warmStart
  repeat' (first
    | (with_reducible assumption) | (intro _) | (with_reducible apply Keeps.ite) | (with_reducible apply quenchModule_keeps)
    | (with_reducible apply endJobs_keeps) | (with_reducible apply Keeps.forEach)
    | (with_reducible apply beginDestroy_keeps) | (with_reducible apply State.set_keeps) | (simp only [↓Keeps.upd_iff])
    | (split) | (dsimp only))

theorem resetRegsBut_keeps {s0 : State} {lo : Nat} {hi : Nat} {keep : Nat → Bool} {s : State} (hs : Keeps s0 s)
    : Keeps s0 (resetRegsBut lo hi keep s) := by
  unfold resetRegsBut
  repeat' (first
    | (with_reducible assumption) | (with_reducible exact wf_nil) | (with_reducible exact wf_mapVals) | (intro _)
    | (simp only [↓Keeps.upd_iff]) | (with_reducible apply Keeps.updAll) | (with_reducible exact List.prefix_refl _)
    | (with_reducible exact List.prefix_append _ _) | (with_reducible exact Nat.le_refl _)
    | (with_reducible exact Nat.le_succ _) | (with_reducible exact Nat.le_add_right _ _) | (with_reducible exact id)
    | (with_reducible apply wf_put_imp) | (with_reducible apply wf_filter_imp) | (split) | (dsimp only))

theorem loadTime_keeps {s0 : State} {s : State} (hs : Keeps s0 s) : Keeps s0 (loadTime s) := by
  unfold loadTime
  repeat' (first
    | (with_reducible assumption) | (intro _) | (with_reducible apply State.set_keeps)
    | (with_reducible apply State.wr_keeps) | (split) | (dsimp only))

theorem resetRwFields_keeps {s0 : State} {lo : Nat} {hi : Nat} {s : State} (hs : Keeps s0 s)
    : Keeps s0 (resetRwFields lo hi s) := by
  unfold resetRwFields
  repeat' (first
    | (with_reducible assumption) | (intro _) | (with_reducible apply State.overRegs_keeps) | (split) | (dsimp only))

theorem moduleReset_keeps {s0 : State} {s : State} (hs : Keeps s0 s) : Keeps s0 (moduleReset s) := by
  unfold moduleReset
  repeat' (first
    | (with_reducible assumption) | (with_reducible exact wf_nil) | (with_reducible exact wf_mapVals) | (intro _)
    | (with_reducible apply Keeps.ite) | (with_reducible apply loseWafer_keeps) | (with_reducible apply powerDown_keeps)
    | (with_reducible apply State.resetRegs_keeps) | (with_reducible apply resetRegsBut_keeps)
    | (with_reducible apply loadTime_keeps) | (with_reducible apply resetRwFields_keeps)
    | (with_reducible apply State.set_keeps) | (simp only [↓Keeps.upd_iff]) | (with_reducible apply Keeps.updAll)
    | (with_reducible exact List.prefix_refl _) | (with_reducible exact List.prefix_append _ _)
    | (with_reducible exact Nat.le_refl _) | (with_reducible exact Nat.le_succ _)
    | (with_reducible exact Nat.le_add_right _ _) | (with_reducible exact id) | (with_reducible apply wf_put_imp)
    | (with_reducible apply wf_filter_imp) | (split) | (dsimp only))

theorem takeStraps_keeps {s0 : State} {role : Nat} {slot : Nat} {s : State} (hs : Keeps s0 s)
    : Keeps s0 (takeStraps role slot s) := by
  unfold takeStraps
  repeat' (first
    | (with_reducible assumption) | (intro _) | (with_reducible apply State.set_keeps)
    | (with_reducible apply State.wr_keeps) | (split) | (dsimp only))

theorem takePins_keeps {s0 : State} {p : Pins} {s : State} (hs : Keeps s0 s) : Keeps s0 (takePins p s) := by
  unfold takePins
  repeat' (first
    | (with_reducible assumption) | (intro _) | (with_reducible apply Keeps.ite) | (with_reducible apply State.set_keeps)
    | (split) | (dsimp only))

theorem loadMgr_keeps {s0 : State} {s : State} (hs : Keeps s0 s) : Keeps s0 (loadMgr s) := by
  unfold loadMgr
  repeat' (first
    | (with_reducible assumption) | (intro _) | (with_reducible apply Keeps.foldl) | (with_reducible apply Keeps.foldl_snd)
    | (with_reducible apply Keeps.foldl_third) | (with_reducible apply State.wr_keeps) | (split) | (dsimp only))

theorem loadSerial_keeps {s0 : State} {s : State} (hs : Keeps s0 s) : Keeps s0 (loadSerial s) := by
  unfold loadSerial
  repeat' (first
    | (with_reducible assumption) | (intro _) | (with_reducible apply Keeps.forEach) | (with_reducible apply State.wr_keeps)
    | (simp only [↓Keeps.upd_iff]) | (split) | (dsimp only))

theorem powerUp_keeps {s0 : State} {pins : Pins} {lockstepOk : Bool} {measured : Bool} {s : State} (hs : Keeps s0 s)
    : Keeps s0 (powerUp pins lockstepOk measured s) := by
  unfold powerUp
  repeat' (first
    | (with_reducible assumption) | (intro _) | (with_reducible apply Keeps.ite) | (with_reducible apply takeStraps_keeps)
    | (with_reducible apply takePins_keeps) | (with_reducible apply State.set_keeps)
    | (with_reducible apply raiseFault_keeps) | (with_reducible apply loadMgr_keeps)
    | (with_reducible apply loadSerial_keeps) | (with_reducible apply loadTime_keeps)
    | (with_reducible apply startDrive_keeps) | (simp only [↓Keeps.upd_iff]) | (split) | (dsimp only))

theorem resetRwlFields_keeps {s0 : State} {lo : Nat} {hi : Nat} {s : State} (hs : Keeps s0 s)
    : Keeps s0 (resetRwlFields lo hi s) := by
  unfold resetRwlFields
  repeat' (first
    | (with_reducible assumption) | (intro _) | (with_reducible apply State.overRegs_keeps) | (split) | (dsimp only))

theorem warmReset_keeps {s0 : State} {s : State} (hs : Keeps s0 s) : Keeps s0 (warmReset s) := by
  unfold warmReset
  repeat' (first
    | (with_reducible assumption) | (with_reducible exact wf_nil) | (with_reducible exact wf_mapVals) | (intro _)
    | (with_reducible apply Keeps.ite) | (with_reducible apply clearConfig_keeps) | (with_reducible apply clearUnits_keeps)
    | (with_reducible apply resetRegsBut_keeps) | (with_reducible apply State.resetRegs_keeps)
    | (with_reducible apply resetRwlFields_keeps) | (with_reducible apply resetRwFields_keeps)
    | (with_reducible apply Keeps.forEach) | (with_reducible apply State.set_keeps)
    | (with_reducible apply resetEnvelope_keeps) | (with_reducible apply loadTime_keeps)
    | (with_reducible apply placePart0_keeps) | (with_reducible apply reportTiers_keeps)
    | (with_reducible apply wakeAll_keeps) | (with_reducible apply powerOut_keeps)
    | (with_reducible apply loadPart0Keys_keeps) | (with_reducible apply State.setPart_keeps)
    | (with_reducible apply portTo_keeps) | (with_reducible apply loadStored_keeps) | (simp only [↓Keeps.upd_iff])
    | (with_reducible apply Keeps.updAll) | (with_reducible exact List.prefix_refl _)
    | (with_reducible exact List.prefix_append _ _) | (with_reducible exact Nat.le_refl _)
    | (with_reducible exact Nat.le_succ _) | (with_reducible exact Nat.le_add_right _ _) | (with_reducible exact id)
    | (with_reducible apply wf_put_imp) | (with_reducible apply wf_filter_imp) | (split) | (dsimp only))

theorem warmEffect_keeps {s0 : State} {ph : Nat} {rep : StepReport} {s : State} (hs : Keeps s0 s)
    : Keeps s0 (warmEffect ph rep s).2 := by
  unfold warmEffect
  repeat' (first
    | (with_reducible assumption) | (intro _) | (with_reducible apply Keeps.ite) | (with_reducible apply warmReset_keeps)
    | (with_reducible apply State.set_keeps) | (with_reducible apply step5_keeps) | (with_reducible apply step8_keeps)
    | (with_reducible apply step9_keeps) | (with_reducible apply step10_keeps) | (split) | (dsimp only))

theorem warmComplete_keeps {s0 : State} {rep : StepReport} {s : State} (hs : Keeps s0 s) : Keeps s0 (warmComplete rep s) := by
  unfold warmComplete
  repeat' (first
    | (with_reducible assumption) | (intro _) | (with_reducible apply Keeps.ite) | (with_reducible apply Keeps.foldl)
    | (with_reducible apply Keeps.foldl_snd) | (with_reducible apply Keeps.foldl_third)
    | (with_reducible apply powerOut_keeps) | (with_reducible apply newDefect_keeps)
    | (with_reducible apply warmEffect_keeps) | (with_reducible apply failRun_keeps)
    | (with_reducible apply State.set_keeps) | (with_reducible apply endJobs_keeps) | (simp only [↓Keeps.upd_iff]) | (split)
    | (dsimp only))

theorem stepComplete_keeps {s0 : State} {rep : StepReport} {s : State} (hs : Keeps s0 s) : Keeps s0 (stepComplete rep s) := by
  unfold stepComplete
  repeat' (first
    | (with_reducible assumption) | (intro _) | (with_reducible apply Keeps.ite) | (with_reducible apply warmComplete_keeps)
    | (with_reducible apply coldComplete_keeps) | (split) | (dsimp only))

theorem rstAssert_keeps {s0 : State} {s : State} (hs : Keeps s0 s) : Keeps s0 (rstAssert s) := by
  unfold rstAssert
  repeat' (first
    | (with_reducible assumption) | (intro _) | (with_reducible apply Keeps.ite) | (with_reducible apply State.set_keeps)
    | (with_reducible apply moduleReset_keeps) | (with_reducible apply endRun_keeps) | (simp only [↓Keeps.upd_iff])
    | (split) | (dsimp only))

theorem rstRelease_keeps {s0 : State} {s : State} (hs : Keeps s0 s) : Keeps s0 (rstRelease s) := by
  unfold rstRelease
  repeat' (first
    | (with_reducible assumption) | (intro _) | (with_reducible apply Keeps.ite) | (with_reducible apply State.set_keeps)
    | (simp only [↓Keeps.upd_iff]) | (split) | (dsimp only))

theorem resetStuck_keeps {s0 : State} {s : State} (hs : Keeps s0 s) : Keeps s0 (resetStuck s) := by
  unfold resetStuck
  repeat' (first
    | (with_reducible assumption) | (intro _) | (with_reducible apply Keeps.ite) | (with_reducible apply noteAt_keeps)
    | (with_reducible apply State.set_keeps) | (split) | (dsimp only))

theorem strapSample_keeps {s0 : State} {role : Nat} {slot : Nat} {s : State} (hs : Keeps s0 s)
    : Keeps s0 (strapSample role slot s) := by
  unfold strapSample
  repeat' (first
    | (with_reducible assumption) | (intro _) | (with_reducible apply Keeps.ite) | (with_reducible apply takeStraps_keeps)
    | (split) | (dsimp only))

theorem pwrEnDeassert_keeps {s0 : State} {rstToo : Bool} {s : State} (hs : Keeps s0 s) : Keeps s0 (pwrEnDeassert rstToo s) := by
  unfold pwrEnDeassert
  repeat' (first
    | (with_reducible assumption) | (intro _) | (with_reducible apply Keeps.ite) | (with_reducible apply State.set_keeps)
    | (with_reducible apply rstAssert_keeps) | (with_reducible apply powerDown_keeps) | (with_reducible apply failRun_keeps)
    | (with_reducible apply raiseFault_keeps) | (simp only [↓Keeps.upd_iff]) | (split) | (dsimp only))

end Sys2Proof.Machine
end

