-- ==== Sys2Proof/Laws/KeepsUpdate.lean ====
section
/-!
SUPPORT. Laws/KeepsUpdate.lean: each state transformer of Machine/Update.lean keeps what `Keeps` says: the queue of waiting
commands, what was emitted, the counter of free values, the canonical form of every table.
-/
set_option linter.unusedTactic false
set_option linter.unreachableTactic false
set_option linter.unusedSimpArgs false
namespace Sys2Proof.Machine

theorem updCntClear_keeps {s0 : State} {v : Nat} {s : State} (hs : Keeps s0 s) : Keeps s0 (updCntClear v s) := by
  unfold updCntClear
  repeat' (first
    | (with_reducible assumption) | (intro _) | (with_reducible apply State.set_keeps)
    | (with_reducible apply State.wr_keeps) | (split) | (dsimp only))

theorem ueSpill_keeps {s0 : State} {α : Type} {v : Nat} {unit : Nat} {p : Nat} {refused : α}
    {f : List Byte → State → α × State} {s : State} (hs : Keeps s0 s) (hf : ∀ x0 x1, Keeps s0 x1 → Keeps s0 (f x0 x1).2)
    : Keeps s0 (ueSpill v unit p refused f s).2 := by
  unfold ueSpill
  repeat' (first
    | (with_reducible assumption) | (intro _) | (with_reducible apply Keeps.ite) | (with_reducible apply refusedTierP_keeps)
    | (with_reducible apply hf) | (split) | (dsimp only))

theorem ueAccess_keeps {s0 : State} {α : Type} {v unit p u : Nat} {refused : α} {f : State → α × State}
    {s : State} (h : Keeps s0 s)
    (hf : ∀ t, Keeps s0 t → Keeps s0 (f t).2) : Keeps s0 (ueAccess v unit p u refused f s).2 := by
  simp only [ueAccess]
  split
  · exact hf s h
  · exact refusalFault_keeps h

theorem momentBytes_keeps {s0 : State} {v : Nat} {unit : Nat} {p : Nat} {u : Nat} {s : State} (hs : Keeps s0 s)
    : Keeps s0 (momentBytes v unit p u s).2 := by
  unfold momentBytes
  repeat' (first
    | (with_reducible assumption) | (intro _) | (with_reducible apply Keeps.ite) | (with_reducible apply ueSpill_keeps)
    | (with_reducible apply ueAccess_keeps) | (with_reducible apply tcRead_keeps) | (split) | (dsimp only))

theorem loadRecord_keeps {s0 : State} {v : Nat} {g : Nat} {s : State} (hs : Keeps s0 s) : Keeps s0 (loadRecord v g s) := by
  unfold loadRecord
  repeat' (first
    | (with_reducible assumption) | (intro _) | (with_reducible apply Keeps.ite) | (with_reducible apply momentBytes_keeps)
    | (with_reducible apply State.wr_keeps) | (split) | (dsimp only))

theorem updGCfgSet_keeps {s0 : State} {v : Nat} {g : Nat} {w : Word} {s : State} (hs : Keeps s0 s)
    : Keeps s0 (updGCfgSet v g w s) := by
  unfold updGCfgSet
  repeat' (first
    | (with_reducible assumption) | (intro _) | (with_reducible apply Keeps.ite) | (with_reducible apply noteAt_keeps)
    | (with_reducible apply State.wr_keeps) | (with_reducible apply State.set_keeps)
    | (with_reducible apply loadRecord_keeps) | (split) | (dsimp only))

theorem skipStep_keeps {s0 : State} {p : Nat} {s : State} (hs : Keeps s0 s) : Keeps s0 (skipStep p s) := by
  unfold skipStep
  repeat' (first
    | (with_reducible assumption) | (intro _) | (with_reducible apply Keeps.ite) | (with_reducible apply Keeps.forEach)
    | (with_reducible apply closeGroup_keeps) | (with_reducible apply State.set_keeps)
    | (with_reducible apply State.count_keeps) | (with_reducible apply noteAt_keeps)
    | (with_reducible apply markStepAt_keeps) | (split) | (dsimp only))

theorem clipPhase2_keeps {s0 : State} {p : Nat} {s : State} (hs : Keeps s0 s) : Keeps s0 (clipPhase2 p s) := by
  unfold clipPhase2
  repeat' (first
    | (with_reducible assumption) | (intro _) | (with_reducible apply Keeps.ite)
    | (with_reducible apply State.setVault_keeps) | (with_reducible apply Keeps.forEach)
    | (with_reducible apply State.wr_keeps) | (with_reducible apply skipStep_keeps) | (with_reducible apply State.set_keeps)
    | (with_reducible apply showPhases_keeps) | (with_reducible apply setGroup_keeps) | (split) | (dsimp only))

theorem codesFrom_keeps {s0 : State} {read : Nat → State → (List Nat × Bool) × State} {unit : Nat} {n : Nat}
    {s : State} (hs : Keeps s0 s) (hread : ∀ x0 x1, Keeps s0 x1 → Keeps s0 (read x0 x1).2)
    : Keeps s0 (codesFrom read unit n s).2 := by
  unfold codesFrom
  repeat' (first
    | (with_reducible assumption) | (intro _) | (with_reducible apply Keeps.foldl) | (with_reducible apply Keeps.foldl_snd)
    | (with_reducible apply Keeps.foldl_third) | (with_reducible apply hread) | (split) | (dsimp only))

theorem countSkipped_keeps {s0 : State} {v : Nat} {n : Nat} {s : State} (hs : Keeps s0 s) : Keeps s0 (countSkipped v n s) := by
  unfold countSkipped
  repeat' (first
    | (with_reducible assumption) | (intro _) | (with_reducible apply State.count_keeps)
    | (with_reducible apply State.setVault_keeps) | (split) | (dsimp only))

theorem digestCompare_keeps {s0 : State} {p : Nat} {coord : Nat} {base : Fet} {l : List Byte} {s : State} (hs : Keeps s0 s)
    : Keeps s0 (digestCompare p coord base l s) := by
  unfold digestCompare
  repeat' (first
    | (with_reducible assumption) | (intro _) | (with_reducible apply Keeps.ite)
    | (with_reducible apply State.setPart_keeps) | (with_reducible apply raiseFault_keeps) | (split) | (dsimp only))

theorem digestTimeout_keeps {s0 : State} {p : Nat} {s : State} (hs : Keeps s0 s) : Keeps s0 (digestTimeout p s) := by
  unfold digestTimeout
  repeat' (first
    | (with_reducible assumption) | (intro _) | (with_reducible apply Keeps.ite) | (with_reducible apply noteAt_keeps)
    | (with_reducible apply State.setPart_keeps) | (split) | (dsimp only))

theorem enterScalar_keeps {s0 : State} {p : Nat} {tag : Nat} {x : Nat} {s : State} (hs : Keeps s0 s)
    : Keeps s0 (enterScalar p tag x s) := by
  unfold enterScalar
  repeat' (first
    | (with_reducible assumption) | (intro _) | (with_reducible apply Keeps.ite) | (with_reducible apply wrongPart_keeps)
    | (with_reducible apply State.count_keeps) | (with_reducible apply windowWrite_keeps)
    | (with_reducible apply putInput_keeps) | (split) | (dsimp only))

theorem normResult_keeps {s0 : State} {m : ResultMsg} {s : State} (hs : Keeps s0 s) : Keeps s0 (normResult m s) := by
  unfold normResult
  repeat' (first
    | (with_reducible assumption) | (intro _) | (with_reducible apply Keeps.ite) | (with_reducible apply enterScalar_keeps)
    | (with_reducible apply State.setVault_keeps) | (split) | (dsimp only))

theorem storeCodes_keeps {s0 : State} {v : Nat} {unit : Nat} {p : Nat} {u : Nat} {l : List Nat} {s : State} (hs : Keeps s0 s)
    : Keeps s0 (storeCodes v unit p u l s) := by
  unfold storeCodes
  repeat' (first
    | (with_reducible assumption) | (intro _) | (with_reducible apply Keeps.ite) | (with_reducible apply ueAccess_keeps)
    | (with_reducible apply tcWrite_keeps) | (split) | (dsimp only))

theorem sendNorm_keeps {s0 : State} {p : Nat} {s : State} (hs : Keeps s0 s) : Keeps s0 (sendNorm p s) := by
  unfold sendNorm
  repeat' (first
    | (with_reducible assumption) | (intro _) | (with_reducible apply Keeps.ite) | (with_reducible apply enterScalar_keeps)
    | (with_reducible apply State.setVault_keeps) | (split) | (dsimp only))

theorem takeResult_keeps {s0 : State} {v : Nat} {g : Nat} {j : Nat} {m : ResultMsg} {s : State} (hs : Keeps s0 s)
    : Keeps s0 (takeResult v g j m s) := by
  unfold takeResult
  repeat' (first
    | (with_reducible assumption) | (intro _) | (with_reducible apply Keeps.ite) | (with_reducible apply setUpdating_keeps)
    | (with_reducible apply Keeps.forEach) | (with_reducible apply storeCodes_keeps) | (with_reducible apply sendNorm_keeps)
    | (split) | (dsimp only))

theorem resultDelivery_keeps {s0 : State} {v : Nat} {s : State} (hs : Keeps s0 s) : Keeps s0 (resultDelivery v s) := by
  unfold resultDelivery
  repeat' (first
    | (with_reducible assumption) | (intro _) | (with_reducible apply Keeps.ite)
    | (with_reducible apply State.setVault_keeps) | (with_reducible apply normResult_keeps)
    | (with_reducible apply takeResult_keeps) | (split) | (dsimp only))

theorem storeMoments_keeps {s0 : State} {v : Nat} {unit : Nat} {p : Nat} {u : Nat} {l : List Byte}
    {s : State} (hs : Keeps s0 s) : Keeps s0 (storeMoments v unit p u l s) := by
  unfold storeMoments
  repeat' (first
    | (with_reducible assumption) | (intro _) | (with_reducible apply Keeps.ite) | (with_reducible apply ueSpill_keeps)
    | (with_reducible apply State.setVault_keeps) | (with_reducible apply ueAccess_keeps)
    | (with_reducible apply tcWrite_keeps) | (split) | (dsimp only))

theorem finishGroup_keeps {s0 : State} {v : Nat} {g : Nat} {o : OptPars} {s : State} (hs : Keeps s0 s)
    : Keeps s0 (finishGroup v g o s) := by
  unfold finishGroup
  repeat' (first
    | (with_reducible assumption) | (intro _) | (with_reducible apply Keeps.ite) | (with_reducible apply State.wr_keeps)
    | (with_reducible apply momentBytes_keeps) | (with_reducible apply storeMoments_keeps)
    | (with_reducible apply closeGroup_keeps) | (split) | (dsimp only))

theorem unitCodes_keeps {s0 : State} {v : Nat} {unit : Nat} {p : Nat} {u : Nat} {s : State} (hs : Keeps s0 s)
    : Keeps s0 (unitCodes v unit p u s).2 := by
  unfold unitCodes
  repeat' (first
    | (with_reducible assumption) | (intro _) | (with_reducible apply ueAccess_keeps) | (with_reducible apply tcRead_keeps)
    | (split) | (dsimp only))

theorem momentCodes_keeps {s0 : State} {v : Nat} {unit : Nat} {p : Nat} {u : Nat} {s : State} (hs : Keeps s0 s)
    : Keeps s0 (momentCodes v unit p u s).2 := by
  unfold momentCodes
  repeat' (first
    | (with_reducible assumption) | (intro _) | (with_reducible apply momentBytes_keeps) | (split) | (dsimp only))

theorem updUnit_keeps {s0 : State} {v : Nat} {g : Nat} {i : Nat} {o : OptPars} {gs : List Nat} {vs : List Num}
    {s : State} (hs : Keeps s0 s) : Keeps s0 (updUnit v g i o gs vs s) := by
  unfold updUnit
  repeat' (first
    | (with_reducible assumption) | (intro _) | (with_reducible apply Keeps.ite) | (with_reducible apply unitCodes_keeps)
    | (with_reducible apply momentCodes_keeps) | (with_reducible apply storeCodes_keeps)
    | (with_reducible apply storeMoments_keeps) | (with_reducible apply countSkipped_keeps) | (split) | (dsimp only))

theorem updFactored_keeps {s0 : State} {v : Nat} {g : Nat} {o : OptPars} {s : State} (hs : Keeps s0 s)
    : Keeps s0 (updFactored v g o s) := by
  unfold updFactored
  repeat' (first
    | (with_reducible assumption) | (intro _) | (with_reducible apply Keeps.ite) | (with_reducible apply codesFrom_keeps)
    | (with_reducible apply unitCodes_keeps) | (with_reducible apply momentCodes_keeps)
    | (with_reducible apply Keeps.forEach) | (with_reducible apply storeMoments_keeps)
    | (with_reducible apply countSkipped_keeps) | (with_reducible apply updUnit_keeps) | (split) | (dsimp only))

theorem updChunk_keeps {s0 : State} {v : Nat} {g : Nat} {j : Nat} {o : OptPars} {codes : Option (List Nat)}
    {s : State} (hs : Keeps s0 s) : Keeps s0 (updChunk v g j o codes s) := by
  unfold updChunk
  repeat' (first
    | (with_reducible assumption) | (intro _) | (with_reducible apply Keeps.ite) | (with_reducible apply Keeps.forEach)
    | (with_reducible apply updUnit_keeps) | (with_reducible apply unitCodes_keeps) | (split) | (dsimp only))

theorem groupUpdate_keeps {s0 : State} {v : Nat} {g : Nat} {s : State} (hs : Keeps s0 s) : Keeps s0 (groupUpdate v g s) := by
  unfold groupUpdate
  repeat' (first
    | (with_reducible assumption) | (intro _) | (with_reducible apply Keeps.ite) | (with_reducible apply Keeps.foldl)
    | (with_reducible apply Keeps.foldl_snd) | (with_reducible apply Keeps.foldl_third)
    | (with_reducible apply finishGroup_keeps) | (with_reducible apply updFactored_keeps)
    | (with_reducible apply Keeps.forEach) | (with_reducible apply updChunk_keeps)
    | (with_reducible apply countSkipped_keeps) | (with_reducible apply setGroup_keeps) | (split) | (dsimp only))

theorem showDigest_keeps {s0 : State} {l : List Byte} {s : State} (hs : Keeps s0 s) : Keeps s0 (showDigest l s) := by
  unfold showDigest
  repeat' (first
    | (with_reducible assumption) | (intro _) | (with_reducible apply Keeps.forEach) | (with_reducible apply State.wr_keeps)
    | (split) | (dsimp only))

theorem stateDigest_keeps {s0 : State} {p : Nat} {s : State} (hs : Keeps s0 s) : Keeps s0 (stateDigest p s) := by
  unfold stateDigest
  repeat' (first
    | (with_reducible assumption) | (intro _) | (with_reducible apply Keeps.ite) | (with_reducible apply Keeps.foldl)
    | (with_reducible apply Keeps.foldl_snd) | (with_reducible apply Keeps.foldl_third)
    | (with_reducible apply State.set_keeps) | (with_reducible apply noteAt_keeps) | (with_reducible apply markStepAt_keeps)
    | (with_reducible apply showDigest_keeps) | (with_reducible apply State.setPart_keeps)
    | (with_reducible apply enqueue_keeps) | (with_reducible apply digestCompare_keeps) | (split) | (dsimp only))

theorem stateDigestReceive_keeps {s0 : State} {n : Nat} {fr : Frame} {s : State} (hs : Keeps s0 s)
    : Keeps s0 (stateDigestReceive n fr s) := by
  unfold stateDigestReceive
  repeat' (first
    | (with_reducible assumption) | (intro _) | (with_reducible apply Keeps.ite) | (with_reducible apply receiveFrame_keeps)
    | (with_reducible apply digestCompare_keeps) | (with_reducible apply State.setPart_keeps) | (split) | (dsimp only))

end Sys2Proof.Machine
end

