-- ==== Sys2Proof/Laws/KeepsAccess.lean ====
section
/-!
SUPPORT. Laws/KeepsAccess.lean: each state transformer of Machine/Access.lean keeps what `Keeps` says: the queue of waiting
commands, what was emitted, the counter of free values, the canonical form of every table.
-/
set_option linter.unusedTactic false
set_option linter.unreachableTactic false
set_option linter.unusedSimpArgs false
namespace Sys2Proof.Machine

theorem regNote_keeps {s0 : State} {via : Path} {write : Bool} {sub : Nat} {off : Nat} {s : State} (hs : Keeps s0 s)
    : Keeps s0 (regNote via write sub off s) := by
  unfold regNote
  repeat' (first
    | (with_reducible assumption) | (intro _) | (with_reducible apply Keeps.ite) | (with_reducible apply recordFault_keeps)
    | (split) | (dsimp only))

theorem readHere_keeps {s0 : State} {via : Path} {o : Nat} {s : State} (hs : Keeps s0 s) : Keeps s0 (readHere via o s).2 := by
  unfold readHere
  repeat' (first
    | (with_reducible assumption) | (intro _) | (with_reducible apply State.set_keeps) | (simp only [↓Keeps.upd_iff])
    | (split) | (dsimp only))

theorem accessRead_keeps {s0 : State} {via : Path} {off : Nat} {s : State} (hs : Keeps s0 s)
    : Keeps s0 (accessRead via off s).2.2 := by
  unfold accessRead
  repeat' (first
    | (with_reducible assumption) | (intro _) | (with_reducible apply Keeps.ite) | (with_reducible apply regNote_keeps)
    | (with_reducible apply readHere_keeps) | (split) | (dsimp only))

theorem mgrCtrl_keeps {s0 : State} {w : Word} {s : State} (hs : Keeps s0 s) : Keeps s0 (mgrCtrl w s) := by
  unfold mgrCtrl
  repeat' (first
    | (with_reducible assumption) | (intro _) | (with_reducible apply Keeps.ite) | (with_reducible apply startDrive_keeps)
    | (simp only [↓Keeps.upd_iff]) | (split) | (dsimp only))

theorem followWritten_keeps {s0 : State} {s : State} (hs : Keeps s0 s) : Keeps s0 (followWritten s) := by
  unfold followWritten
  repeat' (first
    | (with_reducible assumption) | (intro _) | (with_reducible apply Keeps.ite) | (with_reducible apply State.set_keeps)
    | (split) | (dsimp only))

theorem storeMgr_keeps {s0 : State} {r : Nat} {s : State} (hs : Keeps s0 s) : Keeps s0 (storeMgr r s) := by
  unfold storeMgr
  repeat' (first
    | (with_reducible assumption) | (intro _) | (simp only [↓Keeps.upd_iff]) | (split) | (dsimp only))

theorem chitinEffect_keeps {s0 : State} {r : Nat} {w : Word} {s : State} (hs : Keeps s0 s) : Keeps s0 (chitinEffect r w s) := by
  unfold chitinEffect
  repeat' (first
    | (with_reducible assumption) | (intro _) | (with_reducible apply Keeps.ite) | (with_reducible apply buGo_keeps)
    | (with_reducible apply buAbort_keeps) | (with_reducible apply defectAdd_keeps)
    | (with_reducible apply defectPurge_keeps) | (with_reducible apply mgrCtrl_keeps)
    | (with_reducible apply followWritten_keeps) | (with_reducible apply storeMgr_keeps) | (split) | (dsimp only))

theorem enableQueue_keeps {s0 : State} {e : Nat} {q : Nat} {s : State} (hs : Keeps s0 s) : Keeps s0 (enableQueue e q s) := by
  unfold enableQueue
  repeat' (first
    | (with_reducible assumption) | (with_reducible exact wf_nil) | (with_reducible exact wf_mapVals) | (intro _)
    | (with_reducible apply State.wr_keeps) | (with_reducible apply State.set_keeps)
    | (with_reducible apply State.putRing_keeps) | (simp only [↓Keeps.upd_iff]) | (with_reducible apply Keeps.updAll)
    | (with_reducible exact List.prefix_refl _) | (with_reducible exact List.prefix_append _ _)
    | (with_reducible exact Nat.le_refl _) | (with_reducible exact Nat.le_succ _)
    | (with_reducible exact Nat.le_add_right _ _) | (with_reducible exact id) | (with_reducible apply wf_put_imp)
    | (with_reducible apply wf_filter_imp) | (split) | (dsimp only))

theorem flushWaiting_keeps {s0 : State} {e : Nat} {q : Nat} {s : State} (hs : Keeps s0 s) : Keeps s0 (flushWaiting e q s) := by
  unfold flushWaiting
  repeat' (first
    | (with_reducible assumption) | (intro _) | (with_reducible apply Keeps.foldl) | (with_reducible apply Keeps.foldl_snd)
    | (with_reducible apply Keeps.foldl_third) | (with_reducible apply State.putRing_keeps)
    | (with_reducible apply ringReply_keeps) | (with_reducible apply State.set_keeps) | (split) | (dsimp only))

theorem queueEffect_keeps {s0 : State} {e : Nat} {q : Nat} {r : Nat} {was : Bool} {ringOk : Bool}
    {s : State} (hs : Keeps s0 s) : Keeps s0 (queueEffect e q r was ringOk s) := by
  unfold queueEffect
  repeat' (first
    | (with_reducible assumption) | (intro _) | (with_reducible apply Keeps.ite) | (with_reducible apply enableQueue_keeps)
    | (with_reducible apply ringFailed_keeps) | (with_reducible apply flushWaiting_keeps) | (split) | (dsimp only))

theorem pwrCtrl_keeps {s0 : State} {w : Word} {s : State} (hs : Keeps s0 s) : Keeps s0 (pwrCtrl w s) := by
  unfold pwrCtrl
  repeat' (first
    | (with_reducible assumption) | (intro _) | (with_reducible apply Keeps.ite) | (with_reducible apply vminClear_keeps)
    | (with_reducible apply State.wr_keeps) | (split) | (dsimp only))

theorem fltCntClear_keeps {s0 : State} {s : State} (hs : Keeps s0 s) : Keeps s0 (fltCntClear s) := by
  unfold fltCntClear
  repeat' (first
    | (with_reducible assumption) | (intro _) | (with_reducible apply Keeps.ite)
    | (with_reducible apply State.overRegs_keeps) | (simp only [↓Keeps.upd_iff]) | (split) | (dsimp only))

theorem fltInject_keeps {s0 : State} {off : Nat} {s : State} (hs : Keeps s0 s) : Keeps s0 (fltInject off s) := by
  unfold fltInject
  repeat' (first
    | (with_reducible assumption) | (intro _) | (with_reducible apply Keeps.ite) | (with_reducible apply recordFault_keeps)
    | (with_reducible apply State.set_keeps) | (with_reducible apply note_keeps) | (split) | (dsimp only))

theorem faultsEffect_keeps {s0 : State} {off : Nat} {r : Nat} {w : Word} {s : State} (hs : Keeps s0 s)
    : Keeps s0 (faultsEffect off r w s) := by
  unfold faultsEffect
  repeat' (first
    | (with_reducible assumption) | (intro _) | (with_reducible apply Keeps.ite) | (with_reducible apply fltCntClear_keeps)
    | (with_reducible apply fltInject_keeps) | (with_reducible apply State.set_keeps) | (split) | (dsimp only))

theorem snlCtrl_keeps {s0 : State} {n : Nat} {w : Word} {s : State} (hs : Keeps s0 s) : Keeps s0 (snlCtrl n w s) := by
  unfold snlCtrl
  repeat' (first
    | (with_reducible assumption) | (intro _) | (with_reducible apply Keeps.ite) | (with_reducible apply applyEn_keeps)
    | (with_reducible apply requestRetrain_keeps) | (with_reducible apply portRetry_keeps) | (split) | (dsimp only))

theorem celCtrl_keeps {s0 : State} {f : Nat} {c : Nat} {w : Word} {s : State} (hs : Keeps s0 s)
    : Keeps s0 (celCtrl f c w s) := by
  unfold celCtrl
  repeat' (first
    | (with_reducible assumption) | (intro _) | (with_reducible apply Keeps.ite) | (with_reducible apply celFuClear_keeps)
    | (with_reducible apply celSpZero_keeps) | (with_reducible apply celCntClear_keeps) | (split) | (dsimp only))

theorem writeEffect_keeps {s0 : State} {off : Nat} {w : Word} {was : Bool} {ringOk : Bool} {s : State} (hs : Keeps s0 s)
    : Keeps s0 (writeEffect off w was ringOk s) := by
  unfold writeEffect
  repeat' (first
    | (with_reducible assumption) | (intro _) | (with_reducible apply Keeps.ite) | (with_reducible apply chitinEffect_keeps)
    | (with_reducible apply queueEffect_keeps) | (with_reducible apply pwrCtrl_keeps)
    | (with_reducible apply armClock_keeps) | (with_reducible apply faultsEffect_keeps)
    | (with_reducible apply snlCtrl_keeps) | (with_reducible apply eruCntClear_keeps)
    | (with_reducible apply vltCntClear_keeps) | (with_reducible apply updCntClear_keeps)
    | (with_reducible apply fldCntClear_keeps) | (with_reducible apply mshCntClear_keeps)
    | (with_reducible apply vltNCntClear_keeps) | (with_reducible apply celCtrl_keeps) | (split) | (dsimp only))

theorem writePlain_keeps {s0 : State} {via : Path} {o : Nat} {w : Word} {ringOk : Bool} {s : State} (hs : Keeps s0 s)
    : Keeps s0 (writePlain via o w ringOk s).2 := by
  unfold writePlain
  repeat' (first
    | (with_reducible assumption) | (intro _) | (with_reducible apply Keeps.ite) | (with_reducible apply regNote_keeps)
    | (with_reducible apply State.wr_keeps) | (with_reducible apply writeEffect_keeps) | (split) | (dsimp only))

theorem writeHere_keeps {s0 : State} {via : Path} {o : Nat} {w : Word} {ringOk : Bool} {s : State} (hs : Keeps s0 s)
    : Keeps s0 (writeHere via o w ringOk s).2 := by
  unfold writeHere
  repeat' (first
    | (with_reducible assumption) | (intro _) | (with_reducible apply Keeps.ite) | (with_reducible apply regNote_keeps)
    | (with_reducible apply maskReset_keeps) | (with_reducible apply eruSchedSet_keeps)
    | (with_reducible apply writePlain_keeps) | (with_reducible apply updGCfgSet_keeps) | (split) | (dsimp only))

theorem accessWrite_keeps {s0 : State} {via : Path} {off : Nat} {w : Word} {ringOk : Bool} {s : State} (hs : Keeps s0 s)
    : Keeps s0 (accessWrite via off w ringOk s).2 := by
  unfold accessWrite
  repeat' (first
    | (with_reducible assumption) | (intro _) | (with_reducible apply Keeps.ite) | (with_reducible apply regNote_keeps)
    | (with_reducible apply writeHere_keeps) | (split) | (dsimp only))

theorem readReg_keeps {s0 : State} {via : Path} {off : Nat} {bytes : Nat} {s : State} (hs : Keeps s0 s)
    : Keeps s0 (readReg via off bytes s).2.2 := by
  unfold readReg
  repeat' (first
    | (with_reducible assumption) | (intro _) | (with_reducible apply Keeps.ite) | (with_reducible apply accessRead_keeps)
    | (with_reducible apply regNote_keeps) | (split) | (dsimp only))

theorem busRead_keeps {s0 : State} {via : Path} {off : Nat} {bytes : Nat} {s : State} (hs : Keeps s0 s)
    : Keeps s0 (busRead via off bytes s) := by
  unfold busRead
  repeat' (first
    | (with_reducible assumption) | (intro _) | (with_reducible apply Keeps.ite) | (with_reducible apply readHere_keeps)
    | (with_reducible apply State.emit_keeps) | (with_reducible apply readReg_keeps) | (split) | (dsimp only))

theorem writeReg_keeps {s0 : State} {via : Path} {off : Nat} {bytes : Nat} {v : Nat} {ringOk : Bool}
    {s : State} (hs : Keeps s0 s) : Keeps s0 (writeReg via off bytes v ringOk s).2 := by
  unfold writeReg
  repeat' (first
    | (with_reducible assumption) | (intro _) | (with_reducible apply Keeps.ite) | (with_reducible apply accessWrite_keeps)
    | (with_reducible apply regNote_keeps) | (split) | (dsimp only))

theorem busWrite_keeps {s0 : State} {via : Path} {off : Nat} {bytes : Nat} {v : Nat} {ringOk : Bool}
    {s : State} (hs : Keeps s0 s) : Keeps s0 (busWrite via off bytes v ringOk s) := by
  unfold busWrite
  repeat' (first
    | (with_reducible assumption) | (intro _) | (with_reducible apply Keeps.ite) | (with_reducible apply writeReg_keeps)
    | (split) | (dsimp only))

end Sys2Proof.Machine
end

