-- ==== Sys2Proof/Laws/KeepsAccessCmds.lean ====
section
/-!
SUPPORT. Laws/KeepsAccessCmds.lean: each state transformer of Machine/AccessCmds.lean keeps what `Keeps` says: the queue of waiting
commands, what was emitted, the counter of free values, the canonical form of every table.
-/
set_option linter.unusedTactic false
set_option linter.unreachableTactic false
set_option linter.unusedSimpArgs false
namespace Sys2Proof.Machine

theorem pageWrite_keeps {s0 : State} {via : Path} {ep : Nat} {q : Nat} {r : Nat} {value : Word} {ringOk : Bool}
    {s : State} (hs : Keeps s0 s) : Keeps s0 (pageWrite via ep q r value ringOk s) := by
  unfold pageWrite
  repeat' (first
    | (with_reducible assumption) | (intro _) | (with_reducible apply Keeps.ite) | (with_reducible apply busWrite_keeps)
    | (split) | (dsimp only))

end Sys2Proof.Machine
end

