-- ==== Sys2Proof/Laws/KeepsManager.lean ====
section
/-!
SUPPORT. Laws/KeepsManager.lean: each state transformer of Machine/Manager.lean keeps what `Keeps` says: the queue of waiting
commands, what was emitted, the counter of free values, the canonical form of every table.
-/
set_option linter.unusedTactic false
set_option linter.unreachableTactic false
set_option linter.unusedSimpArgs false
namespace Sys2Proof.Machine

theorem countMiss_keeps {s0 : State} {s : State} (hs : Keeps s0 s) : Keeps s0 (countMiss s) := by
  unfold countMiss
  repeat' (first
    | (with_reducible assumption) | (intro _) | (with_reducible apply State.set_keeps) | (simp only [↓Keeps.upd_iff])
    | (split) | (dsimp only))

theorem writeMember_keeps {s0 : State} {t : Nat} {off : Nat} {w : Word} {s : State} (hs : Keeps s0 s)
    : Keeps s0 (writeMember t off w s) := by
  unfold writeMember
  repeat' (first
    | (with_reducible assumption) | (intro _) | (with_reducible apply Keeps.ite) | (with_reducible apply accessWrite_keeps)
    | (with_reducible apply State.emit_keeps) | (split) | (dsimp only))

theorem d3Member_keeps {s0 : State} {t : Nat} {s : State} (hs : Keeps s0 s) : Keeps s0 (d3Member t s) := by
  unfold d3Member
  repeat' (first
    | (with_reducible assumption) | (intro _) | (with_reducible apply Keeps.ite) | (with_reducible apply Keeps.foldl)
    | (with_reducible apply Keeps.foldl_snd) | (with_reducible apply Keeps.foldl_third)
    | (with_reducible apply writeMember_keeps) | (split) | (dsimp only))

theorem endDrive_keeps {s0 : State} {s : State} (hs : Keeps s0 s) : Keeps s0 (endDrive s) := by
  unfold endDrive
  repeat' (first
    | (with_reducible assumption) | (intro _) | (with_reducible apply State.set_keeps) | (simp only [↓Keeps.upd_iff])
    | (split) | (dsimp only))

theorem dropMember_keeps {s0 : State} {t : Nat} {m : Option MemberReply} {s : State} (hs : Keeps s0 s)
    : Keeps s0 (dropMember t m s) := by
  unfold dropMember
  repeat' (first
    | (with_reducible assumption) | (intro _) | (with_reducible apply State.set_keeps) | (with_reducible apply note_keeps)
    | (split) | (dsimp only))

theorem keepMembers_keeps {s0 : State} {l : List MemberReply} {ts : List Nat} {ok : MemberReply → Bool}
    {s : State} (hs : Keeps s0 s) : Keeps s0 (keepMembers l ts ok s) := by
  unfold keepMembers
  repeat' (first
    | (with_reducible assumption) | (intro _) | (with_reducible apply Keeps.forEach)
    | (with_reducible apply dropMember_keeps) | (simp only [↓Keeps.upd_iff]) | (split) | (dsimp only))

theorem toPhase_keeps {s0 : State} {k : Nat} {s : State} (hs : Keeps s0 s) : Keeps s0 (toPhase k s) := by
  unfold toPhase
  repeat' (first
    | (with_reducible assumption) | (intro _) | (simp only [↓Keeps.upd_iff]) | (split) | (dsimp only))

theorem endD1_keeps {s0 : State} {l : List MemberReply} {s : State} (hs : Keeps s0 s) : Keeps s0 (endD1 l s) := by
  unfold endD1
  repeat' (first
    | (with_reducible assumption) | (intro _) | (with_reducible apply Keeps.ite) | (with_reducible apply keepMembers_keeps)
    | (with_reducible apply endDrive_keeps) | (with_reducible apply yieldRole_keeps) | (with_reducible apply toPhase_keeps)
    | (with_reducible apply Keeps.forEach) | (with_reducible apply d3Member_keeps) | (split) | (dsimp only))

theorem sendGo_keeps {s0 : State} {target : Nat} {ts : List Nat} {s : State} (hs : Keeps s0 s)
    : Keeps s0 (sendGo target ts s) := by
  unfold sendGo
  repeat' (first
    | (with_reducible assumption) | (intro _) | (with_reducible apply Keeps.ite) | (with_reducible apply Keeps.forEach)
    | (with_reducible apply writeMember_keeps) | (split) | (dsimp only))

theorem endD3_keeps {s0 : State} {l : List MemberReply} {s : State} (hs : Keeps s0 s) : Keeps s0 (endD3 l s) := by
  unfold endD3
  repeat' (first
    | (with_reducible assumption) | (intro _) | (with_reducible apply keepMembers_keeps)
    | (with_reducible apply toPhase_keeps) | (with_reducible apply sendGo_keeps) | (split) | (dsimp only))

theorem endD4_keeps {s0 : State} {l : List MemberReply} {s : State} (hs : Keeps s0 s) : Keeps s0 (endD4 l s) := by
  unfold endD4
  repeat' (first
    | (with_reducible assumption) | (intro _) | (with_reducible apply keepMembers_keeps)
    | (with_reducible apply toPhase_keeps) | (with_reducible apply sendGo_keeps) | (split) | (dsimp only))

theorem takeSeq_keeps {s0 : State} {t : Nat} {s : State} (hs : Keeps s0 s) : Keeps s0 (takeSeq t s) := by
  unfold takeSeq
  repeat' (first
    | (with_reducible assumption) | (intro _) | (simp only [↓Keeps.upd_iff]) | (split) | (dsimp only))

theorem scpSend_keeps {s0 : State} {t : Nat} {opcode : Nat} {r : Request} {s : State} (hs : Keeps s0 s)
    : Keeps s0 (scpSend t opcode r s) := by
  unfold scpSend
  repeat' (first
    | (with_reducible assumption) | (intro _) | (with_reducible apply State.emit_keeps)
    | (with_reducible apply takeSeq_keeps) | (split) | (dsimp only))

theorem scpMember_keeps {s0 : State} {t : Nat} {opcode : Nat} {p : Nat} {params : List Byte} {s : State} (hs : Keeps s0 s)
    : Keeps s0 (scpMember t opcode p params s) := by
  unfold scpMember
  repeat' (first
    | (with_reducible assumption) | (intro _) | (with_reducible apply scpSend_keeps) | (split) | (dsimp only))

theorem endD5_keeps {s0 : State} {l : List MemberReply} {s : State} (hs : Keeps s0 s) : Keeps s0 (endD5 l s) := by
  unfold endD5
  repeat' (first
    | (with_reducible assumption) | (intro _) | (with_reducible apply Keeps.ite) | (with_reducible apply Keeps.foldl)
    | (with_reducible apply Keeps.foldl_snd) | (with_reducible apply Keeps.foldl_third)
    | (with_reducible apply keepMembers_keeps) | (with_reducible apply endDrive_keeps)
    | (with_reducible apply toPhase_keeps) | (with_reducible apply scpMember_keeps) | (split) | (dsimp only))

theorem endD6_keeps {s0 : State} {l : List MemberReply} {s : State} (hs : Keeps s0 s) : Keeps s0 (endD6 l s) := by
  unfold endD6
  repeat' (first
    | (with_reducible assumption) | (intro _) | (with_reducible apply Keeps.ite) | (with_reducible apply Keeps.foldl)
    | (with_reducible apply Keeps.foldl_snd) | (with_reducible apply Keeps.foldl_third)
    | (with_reducible apply endDrive_keeps) | (with_reducible apply scpMember_keeps) | (simp only [↓Keeps.upd_iff])
    | (split) | (dsimp only))

theorem drivePhase_keeps {s0 : State} {l : List MemberReply} {expired : Bool} {s : State} (hs : Keeps s0 s)
    : Keeps s0 (drivePhase l expired s) := by
  unfold drivePhase
  repeat' (first
    | (with_reducible assumption) | (intro _) | (with_reducible apply Keeps.ite) | (with_reducible apply endDrive_keeps)
    | (with_reducible apply endD1_keeps) | (with_reducible apply endD3_keeps) | (with_reducible apply endD4_keeps)
    | (with_reducible apply endD5_keeps) | (with_reducible apply endD6_keeps) | (split) | (dsimp only))

theorem fireflyHeard_keeps {s0 : State} {txFet : Fet} {s : State} (hs : Keeps s0 s) : Keeps s0 (fireflyHeard txFet s) := by
  unfold fireflyHeard
  repeat' (first
    | (with_reducible assumption) | (intro _) | (with_reducible apply State.set_keeps) | (simp only [↓Keeps.upd_iff])
    | (split) | (dsimp only))

theorem fireflyReceive_keeps {s0 : State} {n : Nat} {hdr : Frame} {fr : FireflyFrame} {s : State} (hs : Keeps s0 s)
    : Keeps s0 (fireflyReceive n hdr fr s) := by
  unfold fireflyReceive
  repeat' (first
    | (with_reducible assumption) | (intro _) | (with_reducible apply Keeps.ite) | (with_reducible apply receiveFrame_keeps)
    | (with_reducible apply fireflyHeard_keeps) | (split) | (dsimp only))

theorem replyFrame_keeps {s0 : State} {n : Nat} {fr : Frame} {body : List Byte} {s : State} (hs : Keeps s0 s)
    : Keeps s0 (replyFrame n fr body s) := by
  unfold replyFrame
  repeat' (first
    | (with_reducible assumption) | (intro _) | (with_reducible apply enqueue_keeps)
    | (with_reducible apply raiseFault_keeps) | (with_reducible apply snlErr_keeps)
    | (with_reducible apply State.count_keeps) | (split) | (dsimp only))

theorem readRun_keeps {s0 s : State} {via : Path} {off n : Nat} (h : Keeps s0 s) : Keeps s0 (readRun via off n s).2 := by
  induction n generalizing s off with
  | zero => exact h
  | succ n ih => exact ih (readReg_keeps h)

theorem writeRun_keeps {s0 s : State} {via : Path} {off : Nat} {l : List Nat} (h : Keeps s0 s) :
    Keeps s0 (writeRun via off l s) := by
  induction l generalizing s off with
  | nil => exact h
  | cons v l ih => exact ih (writeReg_keeps h)

theorem mgmtOperate_keeps {s0 : State} {via : Path} {p : List Byte} {s : State} (hs : Keeps s0 s)
    : Keeps s0 (mgmtOperate via p s).2 := by
  unfold mgmtOperate
  repeat' (first
    | (with_reducible assumption) | (intro _) | (with_reducible apply Keeps.ite) | (with_reducible apply readRun_keeps)
    | (with_reducible apply writeRun_keeps) | (split) | (dsimp only))

theorem managementFrame_keeps {s0 : State} {n : Nat} {fr : Frame} {s : State} (hs : Keeps s0 s)
    : Keeps s0 (managementFrame n fr s) := by
  unfold managementFrame
  repeat' (first
    | (with_reducible assumption) | (intro _) | (with_reducible apply Keeps.ite) | (with_reducible apply receiveFrame_keeps)
    | (with_reducible apply replyFrame_keeps) | (with_reducible apply mgmtOperate_keeps) | (split) | (dsimp only))

theorem takeHealth_keeps {s0 : State} {m : MemberReply} {s : State} (hs : Keeps s0 s) : Keeps s0 (takeHealth m s) := by
  unfold takeHealth
  repeat' (first
    | (with_reducible assumption) | (intro _) | (with_reducible apply Keeps.ite) | (with_reducible apply State.set_keeps)
    | (simp only [↓Keeps.upd_iff]) | (split) | (dsimp only))

theorem missHealth_keeps {s0 : State} {t : Nat} {s : State} (hs : Keeps s0 s) : Keeps s0 (missHealth t s) := by
  unfold missHealth
  repeat' (first
    | (with_reducible assumption) | (intro _) | (with_reducible apply Keeps.ite) | (with_reducible apply State.set_keeps)
    | (simp only [↓Keeps.upd_iff]) | (split) | (dsimp only))

theorem sumRack_keeps {s0 : State} {got : List Nat} {s : State} (hs : Keeps s0 s) : Keeps s0 (sumRack got s) := by
  unfold sumRack
  repeat' (first
    | (with_reducible assumption) | (intro _) | (with_reducible apply State.set_keeps) | (split) | (dsimp only))

theorem healthPoll_keeps {s0 : State} {l : List MemberReply} {s : State} (hs : Keeps s0 s) : Keeps s0 (healthPoll l s) := by
  unfold healthPoll
  repeat' (first
    | (with_reducible assumption) | (intro _) | (with_reducible apply Keeps.ite) | (with_reducible apply Keeps.forEach)
    | (with_reducible apply takeHealth_keeps) | (with_reducible apply missHealth_keeps)
    | (with_reducible apply sumRack_keeps) | (simp only [↓Keeps.upd_iff]) | (split) | (dsimp only))

theorem proxyAnswer_keeps {s0 : State} {k : ProxyKept} {s : State} (hs : Keeps s0 s) : Keeps s0 (proxyAnswer k s) := by
  unfold proxyAnswer
  repeat' (first
    | (with_reducible assumption) | (intro _) | (with_reducible apply Keeps.ite) | (with_reducible apply State.emit_keeps)
    | (simp only [↓Keeps.upd_iff]) | (split) | (dsimp only))

theorem proxyArrive_keeps {s0 : State} {ip : Word} {port : Nat} {pre : ProxyPrefix} {op : Nat} {r : Request}
    {k : State → State} {s : State} (hs : Keeps s0 s) (hk : ∀ x0, Keeps s0 x0 → Keeps s0 (k x0))
    : Keeps s0 (proxyArrive ip port pre op r k s) := by
  unfold proxyArrive
  repeat' (first
    | (with_reducible assumption) | (intro _) | (with_reducible apply Keeps.ite) | (with_reducible apply Keeps.foldl)
    | (with_reducible apply Keeps.foldl_snd) | (with_reducible apply Keeps.foldl_third) | (with_reducible apply note_keeps)
    | (with_reducible apply State.emit_keeps) | (with_reducible apply proxyAnswer_keeps) | (with_reducible apply hk)
    | (split) | (dsimp only))

theorem scpForward_keeps {s0 : State} {t : Nat} {opcode : Nat} {r : Request} {s : State} (hs : Keeps s0 s)
    : Keeps s0 (scpForward t opcode r s) := by
  unfold scpForward
  repeat' (first
    | (with_reducible assumption) | (intro _) | (with_reducible apply Keeps.ite) | (with_reducible apply sendFrame_keeps)
    | (with_reducible apply takeSeq_keeps) | (with_reducible apply scpSend_keeps) | (split) | (dsimp only))

theorem proxyForward_keeps {s0 : State} {ip : Word} {port : Nat} {pre : ProxyPrefix} {op : Nat} {r : Request}
    {replies : List ScpReply} {s : State} (hs : Keeps s0 s) : Keeps s0 (proxyForward ip port pre op r replies s) := by
  unfold proxyForward
  repeat' (first
    | (with_reducible assumption) | (intro _) | (with_reducible apply Keeps.ite) | (with_reducible apply Keeps.foldl)
    | (with_reducible apply Keeps.foldl_snd) | (with_reducible apply Keeps.foldl_third)
    | (with_reducible apply proxyArrive_keeps) | (with_reducible apply Keeps.forEach)
    | (with_reducible apply proxyAnswer_keeps) | (with_reducible apply scpForward_keeps) | (split) | (dsimp only))

theorem ringCommit_keeps {s0 : State} {ip : Word} {port : Nat} {pre : ProxyPrefix} {op : Nat} {r : Request}
    {members : List MemberReply} {s : State} (hs : Keeps s0 s) : Keeps s0 (ringCommit ip port pre op r members s) := by
  unfold ringCommit
  repeat' (first
    | (with_reducible assumption) | (intro _) | (with_reducible apply Keeps.ite) | (with_reducible apply proxyArrive_keeps)
    | (with_reducible apply Keeps.forEach) | (with_reducible apply scpSend_keeps) | (with_reducible apply scpMember_keeps)
    | (with_reducible apply proxyAnswer_keeps) | (split) | (dsimp only))

theorem fireflyMiss_keeps {s0 : State} {s : State} (hs : Keeps s0 s) : Keeps s0 (fireflyMiss s) := by
  unfold fireflyMiss
  repeat' (first
    | (with_reducible assumption) | (intro _) | (with_reducible apply Keeps.ite) | (with_reducible apply countMiss_keeps)
    | (with_reducible apply State.emit_keeps) | (split) | (dsimp only))

theorem setFollow_keeps {s0 : State} {coord : Nat} {s : State} (hs : Keeps s0 s) : Keeps s0 (setFollow coord s) := by
  unfold setFollow
  repeat' (first
    | (with_reducible assumption) | (intro _) | (with_reducible apply storeMgr_keeps)
    | (with_reducible apply State.wr_keeps) | (split) | (dsimp only))

theorem resumeDrive_keeps {s0 : State} {l : List MemberReply} {s : State} (hs : Keeps s0 s) : Keeps s0 (resumeDrive l s) := by
  unfold resumeDrive
  repeat' (first
    | (with_reducible assumption) | (intro _) | (with_reducible apply Keeps.ite) | (with_reducible apply State.set_keeps)
    | (with_reducible apply toPhase_keeps) | (with_reducible apply sendGo_keeps) | (simp only [↓Keeps.upd_iff]) | (split)
    | (dsimp only))

theorem takeOver_keeps {s0 : State} {members : List MemberReply} {s : State} (hs : Keeps s0 s)
    : Keeps s0 (takeOver members s) := by
  unfold takeOver
  repeat' (first
    | (with_reducible assumption) | (intro _) | (with_reducible apply Keeps.ite) | (with_reducible apply Keeps.foldl)
    | (with_reducible apply Keeps.foldl_snd) | (with_reducible apply Keeps.foldl_third)
    | (with_reducible apply State.set_keeps) | (with_reducible apply loseSelected_keeps)
    | (with_reducible apply setFollow_keeps) | (with_reducible apply Keeps.forEach)
    | (with_reducible apply State.emit_keeps) | (with_reducible apply scpMember_keeps)
    | (with_reducible apply resumeDrive_keeps) | (simp only [↓Keeps.upd_iff]) | (split) | (dsimp only))

theorem standbyTakeover_keeps {s0 : State} {reply : Option Nat} {members : List MemberReply} {s : State} (hs : Keeps s0 s)
    : Keeps s0 (standbyTakeover reply members s) := by
  unfold standbyTakeover
  repeat' (first
    | (with_reducible assumption) | (intro _) | (with_reducible apply Keeps.ite) | (with_reducible apply note_keeps)
    | (with_reducible apply State.set_keeps) | (with_reducible apply takeOver_keeps) | (split) | (dsimp only))

theorem yieldStandby_keeps {s0 : State} {s : State} (hs : Keeps s0 s) : Keeps s0 (yieldStandby s) := by
  unfold yieldStandby
  repeat' (first
    | (with_reducible assumption) | (intro _) | (with_reducible apply note_keeps) | (with_reducible apply State.set_keeps)
    | (split) | (dsimp only))

theorem managerYield_keeps {s0 : State} {standbyAct : Option Nat} {rivalSlot : Option Nat} {portsLost : Bool}
    {s : State} (hs : Keeps s0 s) : Keeps s0 (managerYield standbyAct rivalSlot portsLost s) := by
  unfold managerYield
  repeat' (first
    | (with_reducible assumption) | (intro _) | (with_reducible apply Keeps.ite) | (with_reducible apply yieldRole_keeps)
    | (with_reducible apply yieldStandby_keeps) | (split) | (dsimp only))

theorem handback_keeps {s0 : State} {via : Path} {w : Word} {strappedAct : Option Nat} {yieldCond : Bool}
    {members : List MemberReply} {s : State} (hs : Keeps s0 s) : Keeps s0 (handback via w strappedAct yieldCond members s) := by
  unfold handback
  repeat' (first
    | (with_reducible assumption) | (intro _) | (with_reducible apply Keeps.ite) | (with_reducible apply busWrite_keeps)
    | (with_reducible apply Keeps.forEach) | (with_reducible apply State.emit_keeps) | (with_reducible apply endDrive_keeps)
    | (with_reducible apply State.set_keeps) | (with_reducible apply setFollow_keeps) | (with_reducible apply regNote_keeps)
    | (split) | (dsimp only))

end Sys2Proof.Machine
end

