-- ==== Sys2Proof/Laws/KeepsExternal.lean ====
section
/-!
SUPPORT. Laws/KeepsExternal.lean: each state transformer of Machine/External.lean keeps what `Keeps` says: the queue of waiting
commands, what was emitted, the counter of free values, the canonical form of every table.
-/
set_option linter.unusedTactic false
set_option linter.unreachableTactic false
set_option linter.unusedSimpArgs false
namespace Sys2Proof.Machine

theorem alertResponse_keeps {s0 : State} {s : State} (hs : Keeps s0 s) : Keeps s0 (alertResponse s) := by
  unfold alertResponse
  repeat' (first
    | (with_reducible assumption) | (intro _) | (with_reducible apply Keeps.ite) | (with_reducible apply State.emit_keeps)
    | (split) | (dsimp only))

theorem arpIcmp_keeps {s0 : State} {icmp : Bool} {addr : Word} {tagged : Bool} {s : State} (hs : Keeps s0 s)
    : Keeps s0 (arpIcmp icmp addr tagged s) := by
  unfold arpIcmp
  repeat' (first
    | (with_reducible assumption) | (intro _) | (with_reducible apply Keeps.ite) | (with_reducible apply State.emit_keeps)
    | (split) | (dsimp only))

theorem busLastStatus_keeps {s0 : State} {s : State} (hs : Keeps s0 s) : Keeps s0 (busLastStatus s) := by
  unfold busLastStatus
  repeat' (first
    | (with_reducible assumption) | (intro _) | (with_reducible apply Keeps.ite) | (with_reducible apply State.emit_keeps)
    | (split) | (dsimp only))

theorem busRegRead_keeps {s0 : State} {off : Word} {s : State} (hs : Keeps s0 s) : Keeps s0 (busRegRead off s) := by
  unfold busRegRead
  repeat' (first
    | (with_reducible assumption) | (intro _) | (with_reducible apply Keeps.ite) | (with_reducible apply readHere_keeps)
    | (with_reducible apply State.emit_keeps) | (with_reducible apply State.free_keeps)
    | (with_reducible apply readReg_keeps) | (split) | (dsimp only))

theorem busRegWrite_keeps {s0 : State} {off : Word} {value : Word} {pecOk : Bool} {s : State} (hs : Keeps s0 s)
    : Keeps s0 (busRegWrite off value pecOk s) := by
  unfold busRegWrite
  repeat' (first
    | (with_reducible assumption) | (intro _) | (with_reducible apply Keeps.ite) | (with_reducible apply State.count_keeps)
    | (with_reducible apply writeReg_keeps) | (simp only [↓Keeps.upd_iff]) | (split) | (dsimp only))

theorem busSummary_keeps {s0 : State} {s : State} (hs : Keeps s0 s) : Keeps s0 (busSummary s) := by
  unfold busSummary
  repeat' (first
    | (with_reducible assumption) | (intro _) | (with_reducible apply Keeps.ite) | (with_reducible apply State.emit_keeps)
    | (with_reducible apply State.set_keeps) | (split) | (dsimp only))

theorem disableQueue_keeps {s0 : State} {ep : Nat} {q : Nat} {s : State} (hs : Keeps s0 s)
    : Keeps s0 (disableQueue ep q s) := by
  unfold disableQueue
  repeat' (first
    | (with_reducible assumption) | (intro _) | (with_reducible apply State.set_keeps) | (split) | (dsimp only))

theorem regDatagram_keeps {s0 : State} {ip : Word} {port : BitVec 16} {payload : List Byte} {s : State} (hs : Keeps s0 s)
    : Keeps s0 (regDatagram ip port payload s) := by
  unfold regDatagram
  repeat' (first
    | (with_reducible assumption) | (intro _) | (with_reducible apply Keeps.ite) | (with_reducible apply mgmtOperate_keeps)
    | (with_reducible apply State.emit_keeps) | (split) | (dsimp only))

theorem resetMsix_keeps {s0 : State} {ep : Nat} {fn : Nat} {s : State} (hs : Keeps s0 s) : Keeps s0 (resetMsix ep fn s) := by
  unfold resetMsix
  repeat' (first
    | (with_reducible assumption) | (intro _) | (with_reducible apply State.resetRegs_keeps) | (split) | (dsimp only))

theorem perstAssert_keeps {s0 : State} {ep : Nat} {s : State} (hs : Keeps s0 s) : Keeps s0 (perstAssert ep s) := by
  unfold perstAssert
  repeat' (first
    | (with_reducible assumption) | (intro _) | (with_reducible apply Keeps.ite) | (with_reducible apply Keeps.forEach)
    | (with_reducible apply State.set_keeps) | (with_reducible apply resetMsix_keeps)
    | (with_reducible apply disableQueue_keeps) | (split) | (dsimp only))

theorem functionReset_keeps {s0 : State} {ep : Nat} {fn : Nat} {s : State} (hs : Keeps s0 s)
    : Keeps s0 (functionReset ep fn s) := by
  unfold functionReset
  repeat' (first
    | (with_reducible assumption) | (intro _) | (with_reducible apply resetMsix_keeps)
    | (with_reducible apply Keeps.forEach) | (with_reducible apply disableQueue_keeps) | (split) | (dsimp only))

theorem smbusTimeout_keeps {s0 : State} {s : State} (hs : Keeps s0 s) : Keeps s0 (smbusTimeout s) := by
  unfold smbusTimeout
  repeat' (first
    | (with_reducible assumption) | (intro _) | (with_reducible apply Keeps.ite) | (with_reducible apply State.count_keeps)
    | (simp only [↓Keeps.upd_iff]) | (split) | (dsimp only))

theorem tapLoad_keeps {s0 : State} {ir : TapIr} {s : State} (hs : Keeps s0 s) : Keeps s0 (tapLoad ir s) := by
  unfold tapLoad
  repeat' (first
    | (with_reducible assumption) | (intro _) | (with_reducible apply Keeps.ite) | (with_reducible apply note_keeps)
    | (with_reducible apply State.emit_keeps) | (simp only [↓Keeps.upd_iff]) | (split) | (dsimp only))

theorem tapReset_keeps {s0 : State} {s : State} (hs : Keeps s0 s) : Keeps s0 (tapReset s) := by
  unfold tapReset
  repeat' (first
    | (with_reducible assumption) | (intro _) | (simp only [↓Keeps.upd_iff]) | (split) | (dsimp only))

theorem perstRelease_keeps {s0 : State} {ep : Nat} {s : State} (hs : Keeps s0 s) : Keeps s0 (perstRelease ep s) := by
  unfold perstRelease
  repeat' (first
    | (with_reducible assumption) | (intro _) | (with_reducible apply Keeps.ite) | (with_reducible apply State.set_keeps)
    | (split) | (dsimp only))

end Sys2Proof.Machine
end

