-- ==== Sys2Proof/Laws/KeepsFaultCmds.lean ====
section
/-!
SUPPORT. Laws/KeepsFaultCmds.lean: each state transformer of Machine/FaultCmds.lean keeps what `Keeps` says: the queue of waiting
commands, what was emitted, the counter of free values, the canonical form of every table.
-/
set_option linter.unusedTactic false
set_option linter.unreachableTactic false
set_option linter.unusedSimpArgs false
namespace Sys2Proof.Machine

theorem clearRecord_keeps {s0 : State} {x : FaultRec} {s : State} (hs : Keeps s0 s) : Keeps s0 (clearRecord x s) := by
  unfold clearRecord
  repeat' (first
    | (with_reducible assumption) | (intro _) | (with_reducible apply Keeps.ite) | (with_reducible apply editRecord_keeps)
    | (with_reducible apply Keeps.forEach) | (with_reducible apply setPartState_keeps)
    | (with_reducible apply State.setField_keeps) | (with_reducible apply wakeFields_keeps) | (split) | (dsimp only))

theorem readStore_keeps {s0 : State} {idx : Nat} {s : State} (hs : Keeps s0 s) : Keeps s0 (readStore idx s) := by
  unfold readStore
  repeat' (first
    | (with_reducible assumption) | (intro _) | (with_reducible apply Keeps.ite) | (with_reducible apply raiseAs_keeps)
    | (simp only [↓Keeps.upd_iff]) | (split) | (dsimp only))

theorem faultQuery_keeps {s0 : State} {r : Request} {s : State} (hs : Keeps s0 s) : AnsKeeps s0 (faultQuery r s) := by
  unfold faultQuery
  repeat' (first
    | (with_reducible assumption) | (intro _) | (with_reducible apply Keeps.ite) | (with_reducible apply AnsKeeps.ite)
    | (with_reducible apply AnsKeeps.done) | (with_reducible apply AnsKeeps.later) | (with_reducible apply AnsKeeps.silent)
    | (with_reducible apply AnsKeeps.decided) | (with_reducible apply AnsKeeps.doneThen)
    | (with_reducible apply AnsKeeps.retry) | (with_reducible apply readStore_keeps) | (split) | (dsimp only))

theorem faultQueryOp_keeps {s0 : State} {r : Request} {t : State} (hs : Keeps s0 t)
    : AnsKeeps s0 ((faultQueryOp r).body t) := by
  unfold faultQueryOp
  dsimp only
  repeat' (first
    | (with_reducible assumption) | (intro _) | (with_reducible apply AnsKeeps.ite) | (with_reducible apply AnsKeeps.done)
    | (with_reducible apply AnsKeeps.later) | (with_reducible apply AnsKeeps.silent)
    | (with_reducible apply AnsKeeps.decided) | (with_reducible apply AnsKeeps.doneThen)
    | (with_reducible apply AnsKeeps.retry) | (with_reducible apply faultQuery_keeps) | (split) | (dsimp only))

theorem injectWrite_keeps {s0 : State} {off : Nat} {w : Word} {s : State} (hs : Keeps s0 s)
    : Keeps s0 (injectWrite off w s).2 := by
  unfold injectWrite
  repeat' (first
    | (with_reducible assumption) | (intro _) | (with_reducible apply Keeps.ite) | (with_reducible apply accessWrite_keeps)
    | (split) | (dsimp only))

theorem faultInject_keeps {s0 : State} {r : Request} {s : State} (hs : Keeps s0 s) : AnsKeeps s0 (faultInject r s) := by
  unfold faultInject
  repeat' (first
    | (with_reducible assumption) | (intro _) | (with_reducible apply Keeps.ite) | (with_reducible apply AnsKeeps.ite)
    | (with_reducible apply AnsKeeps.done) | (with_reducible apply AnsKeeps.later) | (with_reducible apply AnsKeeps.silent)
    | (with_reducible apply AnsKeeps.decided) | (with_reducible apply AnsKeeps.doneThen)
    | (with_reducible apply AnsKeeps.retry) | (with_reducible apply injectWrite_keeps) | (simp only [↓Keeps.upd_iff])
    | (split) | (dsimp only))

theorem faultInjectOp_keeps {s0 : State} {r : Request} {t : State} (hs : Keeps s0 t)
    : AnsKeeps s0 ((faultInjectOp r).body t) := by
  unfold faultInjectOp
  dsimp only
  repeat' (first
    | (with_reducible assumption) | (intro _) | (with_reducible apply AnsKeeps.ite) | (with_reducible apply AnsKeeps.done)
    | (with_reducible apply AnsKeeps.later) | (with_reducible apply AnsKeeps.silent)
    | (with_reducible apply AnsKeeps.decided) | (with_reducible apply AnsKeeps.doneThen)
    | (with_reducible apply AnsKeeps.retry) | (with_reducible apply faultInject_keeps) | (split) | (dsimp only))

theorem faultClear_keeps {s0 : State} {r : Request} {s : State} (hs : Keeps s0 s) : AnsKeeps s0 (faultClear r s) := by
  unfold faultClear
  repeat' (first
    | (with_reducible assumption) | (intro _) | (with_reducible apply Keeps.ite) | (with_reducible apply AnsKeeps.ite)
    | (with_reducible apply AnsKeeps.done) | (with_reducible apply AnsKeeps.later) | (with_reducible apply AnsKeeps.silent)
    | (with_reducible apply AnsKeeps.decided) | (with_reducible apply AnsKeeps.doneThen)
    | (with_reducible apply AnsKeeps.retry) | (with_reducible apply clearRecord_keeps) | (split) | (dsimp only))

theorem faultClearOp_keeps {s0 : State} {r : Request} {t : State} (hs : Keeps s0 t)
    : AnsKeeps s0 ((faultClearOp r).body t) := by
  unfold faultClearOp
  dsimp only
  repeat' (first
    | (with_reducible assumption) | (intro _) | (with_reducible apply AnsKeeps.ite) | (with_reducible apply AnsKeeps.done)
    | (with_reducible apply AnsKeeps.later) | (with_reducible apply AnsKeeps.silent)
    | (with_reducible apply AnsKeeps.decided) | (with_reducible apply AnsKeeps.doneThen)
    | (with_reducible apply AnsKeeps.retry) | (with_reducible apply faultClear_keeps) | (split) | (dsimp only))

theorem sharedUnit_keeps {s0 : State} {ev : FaultEvent} {s : State} (hs : Keeps s0 s) : Keeps s0 (sharedUnit ev s) := by
  unfold sharedUnit
  repeat' (first
    | (with_reducible assumption) | (intro _) | (with_reducible apply Keeps.ite) | (with_reducible apply raiseFault_keeps)
    | (with_reducible apply Keeps.forEach) | (with_reducible apply raiseAs_keeps) | (split) | (dsimp only))

theorem tierReport_keeps {s0 : State} {ev : FaultEvent} {s : State} (hs : Keeps s0 s) : Keeps s0 (tierReport ev s) := by
  unfold tierReport
  repeat' (first
    | (with_reducible assumption) | (intro _) | (with_reducible apply Keeps.ite) | (with_reducible apply tnFirst_keeps)
    | (with_reducible apply tnMark_keeps) | (with_reducible apply State.setField_keeps)
    | (with_reducible apply tcFirst_keeps) | (with_reducible apply tcMark_keeps)
    | (with_reducible apply State.setVault_keeps) | (split) | (dsimp only))

theorem faultCapture_keeps {s0 : State} {ev : FaultEvent} {s : State} (hs : Keeps s0 s) : Keeps s0 (faultCapture ev s) := by
  unfold faultCapture
  repeat' (first
    | (with_reducible assumption) | (intro _) | (with_reducible apply Keeps.ite) | (with_reducible apply sharedUnit_keeps)
    | (with_reducible apply raiseFault_keeps) | (with_reducible apply tierReport_keeps)
    | (with_reducible apply endJobs_keeps) | (split) | (dsimp only))

theorem injectDue_keeps {s0 : State} {s : State} (hs : Keeps s0 s) : Keeps s0 (injectDue s) := by
  unfold injectDue
  repeat' (first
    | (with_reducible assumption) | (intro _) | (with_reducible apply Keeps.ite) | (with_reducible apply Keeps.foldl)
    | (with_reducible apply Keeps.foldl_snd) | (with_reducible apply Keeps.foldl_third)
    | (with_reducible apply injectWrite_keeps) | (with_reducible apply endJobsAt_keeps) | (simp only [↓Keeps.upd_iff])
    | (split) | (dsimp only))

end Sys2Proof.Machine
end

