-- ==== Sys2Proof/Laws/KeepsScpPlans.lean ====
section
/-!
SUPPORT. Laws/KeepsScpPlans.lean: each state transformer of Machine/ScpPlans.lean keeps what `Keeps` says: the queue of waiting
commands, what was emitted, the counter of free values, the canonical form of every table.
-/
set_option linter.unusedTactic false
set_option linter.unreachableTactic false
set_option linter.unusedSimpArgs false
namespace Sys2Proof.Machine

theorem bindField_keeps {s0 : State} {f : Nat} {h : Nat} {s : State} (hs : Keeps s0 s) : Keeps s0 (bindField f h s) := by
  unfold bindField
  repeat' (first
    | (with_reducible assumption) | (intro _) | (with_reducible apply State.set_keeps)
    | (with_reducible apply clearLoops_keeps) | (split) | (dsimp only))

theorem showStore_keeps {s0 : State} {f : Nat} {s : State} (hs : Keeps s0 s) : Keeps s0 (showStore f s) := by
  unfold showStore
  repeat' (first
    | (with_reducible assumption) | (intro _) | (with_reducible apply State.set_keeps) | (split) | (dsimp only))

theorem storeImage_keeps {s0 : State} {f : Nat} {h : Nat} {img : List Byte} {s : State} (hs : Keeps s0 s)
    : Keeps s0 (storeImage f h img s) := by
  unfold storeImage
  repeat' (first
    | (with_reducible assumption) | (intro _) | (with_reducible apply showStore_keeps)
    | (with_reducible apply State.setField_keeps) | (split) | (dsimp only))

theorem cmdRefusal_keeps {s0 : State} {r : Request} {v : Nat} {p : Nat} {code : Nat} {addr : Nat}
    {s : State} (hs : Keeps s0 s) : Keeps s0 (cmdRefusal r v p code addr s) := by
  unfold cmdRefusal
  repeat' (first
    | (with_reducible assumption) | (intro _) | (with_reducible apply Keeps.ite) | (with_reducible apply recordFault_keeps)
    | (with_reducible apply refusalFault_keeps) | (split) | (dsimp only))

theorem readUnits_keeps {s0 s : State} {r : Request} {v p u n : Nat} (h : Keeps s0 s) :
    Keeps s0 (readUnits r v p u n s).2 := by
  induction n generalizing s u with
  | zero => exact h
  | succ n ih =>
    simp only [readUnits]
    split
    · exact cmdRefusal_keeps h
    · split
      · exact tcRead_keeps h
      · exact ih (tcRead_keeps h)

theorem fetchData_keeps {s0 : State} {r : Request} {ref : DataRef} {data : List Byte} {s : State} (hs : Keeps s0 s)
    : Keeps s0 (fetchData r ref data s).2 := by
  unfold fetchData
  repeat' (first
    | (with_reducible assumption) | (intro _) | (with_reducible apply State.emit_keeps)
    | (with_reducible apply readUnits_keeps) | (split) | (dsimp only))

theorem recordLoadErr_keeps {s0 : State} {p : Nat} {f : Nat} {h : Nat} {e : Nat × Nat} {s : State} (hs : Keeps s0 s)
    : Keeps s0 (recordLoadErr p f h e s) := by
  unfold recordLoadErr
  repeat' (first
    | (with_reducible assumption) | (intro _) | (with_reducible apply Keeps.ite) | (with_reducible apply State.set_keeps)
    | (split) | (dsimp only))

theorem loadPlan_keeps {s0 : State} {f : Nat} {h : Nat} {r : Request} {data : List Byte} {s : State} (hs : Keeps s0 s)
    : Keeps s0 (loadPlan f h r data s).2 := by
  unfold loadPlan
  repeat' (first
    | (with_reducible assumption) | (intro _) | (with_reducible apply fetchData_keeps)
    | (with_reducible apply recordLoadErr_keeps) | (with_reducible apply storeImage_keeps) | (split) | (dsimp only))

theorem startField_keeps {s0 : State} {f : Nat} {s : State} (hs : Keeps s0 s) : Keeps s0 (startField f s) := by
  unfold startField
  repeat' (first
    | (with_reducible assumption) | (intro _) | (with_reducible apply clearLoops_keeps)
    | (with_reducible apply State.set_keeps) | (with_reducible apply State.wr_keeps)
    | (with_reducible apply State.free_keeps) | (with_reducible apply State.setField_keeps)
    | (with_reducible apply arrive_keeps) | (with_reducible apply Keeps.forEach) | (with_reducible apply clearTags_keeps)
    | (simp only [↓Keeps.upd_iff]) | (split) | (dsimp only))

theorem planLoad_keeps {s0 : State} {r : Request} {data : List Byte} {s : State} (hs : Keeps s0 s)
    : AnsKeeps s0 (planLoad r data s) := by
  unfold planLoad
  repeat' (first
    | (with_reducible assumption) | (intro _) | (with_reducible apply Keeps.ite) | (with_reducible apply AnsKeeps.ite)
    | (with_reducible apply AnsKeeps.done) | (with_reducible apply AnsKeeps.later) | (with_reducible apply AnsKeeps.silent)
    | (with_reducible apply AnsKeeps.decided) | (with_reducible apply AnsKeeps.doneThen)
    | (with_reducible apply AnsKeeps.retry) | (with_reducible apply loadPlan_keeps) | (split) | (dsimp only))

theorem planLoadOp_keeps {s0 : State} {r : Request} {data : List Byte} {t : State} (hs : Keeps s0 t)
    : AnsKeeps s0 ((planLoadOp r data).body t) := by
  unfold planLoadOp
  dsimp only
  repeat' (first
    | (with_reducible assumption) | (intro _) | (with_reducible apply AnsKeeps.ite) | (with_reducible apply AnsKeeps.done)
    | (with_reducible apply AnsKeeps.later) | (with_reducible apply AnsKeeps.silent)
    | (with_reducible apply AnsKeeps.decided) | (with_reducible apply AnsKeeps.doneThen)
    | (with_reducible apply AnsKeeps.retry) | (with_reducible apply planLoad_keeps) | (split) | (dsimp only))

theorem planBind_keeps {s0 : State} {r : Request} {s : State} (hs : Keeps s0 s) : AnsKeeps s0 (planBind r s) := by
  unfold planBind
  repeat' (first
    | (with_reducible assumption) | (intro _) | (with_reducible apply Keeps.ite) | (with_reducible apply AnsKeeps.ite)
    | (with_reducible apply AnsKeeps.done) | (with_reducible apply AnsKeeps.later) | (with_reducible apply AnsKeeps.silent)
    | (with_reducible apply AnsKeeps.decided) | (with_reducible apply AnsKeeps.doneThen)
    | (with_reducible apply AnsKeeps.retry) | (with_reducible apply Keeps.forEach) | (with_reducible apply State.set_keeps)
    | (with_reducible apply bindField_keeps) | (split) | (dsimp only))

theorem planBindOp_keeps {s0 : State} {r : Request} {t : State} (hs : Keeps s0 t) : AnsKeeps s0 ((planBindOp r).body t) := by
  unfold planBindOp
  dsimp only
  repeat' (first
    | (with_reducible assumption) | (intro _) | (with_reducible apply AnsKeeps.ite) | (with_reducible apply AnsKeeps.done)
    | (with_reducible apply AnsKeeps.later) | (with_reducible apply AnsKeeps.silent)
    | (with_reducible apply AnsKeeps.decided) | (with_reducible apply AnsKeeps.doneThen)
    | (with_reducible apply AnsKeeps.retry) | (with_reducible apply planBind_keeps) | (split) | (dsimp only))

theorem planStart_keeps {s0 : State} {p : Nat} {s : State} (hs : Keeps s0 s) : AnsKeeps s0 (planStart p s) := by
  unfold planStart
  repeat' (first
    | (with_reducible assumption) | (intro _) | (with_reducible apply Keeps.ite) | (with_reducible apply AnsKeeps.ite)
    | (with_reducible apply AnsKeeps.done) | (with_reducible apply AnsKeeps.later) | (with_reducible apply AnsKeeps.silent)
    | (with_reducible apply AnsKeeps.decided) | (with_reducible apply AnsKeeps.doneThen)
    | (with_reducible apply AnsKeeps.retry) | (with_reducible apply resetUpdates_keeps)
    | (with_reducible apply State.setPart_keeps) | (with_reducible apply unqualifyFars_keeps)
    | (with_reducible apply setPartState_keeps) | (with_reducible apply Keeps.forEach)
    | (with_reducible apply startField_keeps) | (simp only [↓Keeps.upd_iff]) | (split) | (dsimp only))

theorem planStartOp_keeps {s0 : State} {r : Request} {t : State} (hs : Keeps s0 t) : AnsKeeps s0 ((planStartOp r).body t) := by
  unfold planStartOp
  dsimp only
  repeat' (first
    | (with_reducible assumption) | (intro _) | (with_reducible apply AnsKeeps.ite) | (with_reducible apply AnsKeeps.done)
    | (with_reducible apply AnsKeeps.later) | (with_reducible apply AnsKeeps.silent)
    | (with_reducible apply AnsKeeps.decided) | (with_reducible apply AnsKeeps.doneThen)
    | (with_reducible apply AnsKeeps.retry) | (with_reducible apply planStart_keeps) | (split) | (dsimp only))

theorem planStopGraceful_keeps {s0 : State} {p : Nat} {s : State} (hs : Keeps s0 s) : AnsKeeps s0 (planStopGraceful p s) := by
  unfold planStopGraceful
  repeat' (first
    | (with_reducible assumption) | (intro _) | (with_reducible apply Keeps.ite) | (with_reducible apply AnsKeeps.ite)
    | (with_reducible apply AnsKeeps.done) | (with_reducible apply AnsKeeps.later) | (with_reducible apply AnsKeeps.silent)
    | (with_reducible apply AnsKeeps.decided) | (with_reducible apply AnsKeeps.doneThen)
    | (with_reducible apply AnsKeeps.retry) | (with_reducible apply closeSteps_keeps) | (with_reducible apply Keeps.forEach)
    | (with_reducible apply State.set_keeps) | (with_reducible apply stopAtZero_keeps) | (split) | (dsimp only))

theorem planStopGracefulOp_keeps {s0 : State} {r : Request} {t : State} (hs : Keeps s0 t)
    : AnsKeeps s0 ((planStopGracefulOp r).body t) := by
  unfold planStopGracefulOp
  dsimp only
  repeat' (first
    | (with_reducible assumption) | (intro _) | (with_reducible apply AnsKeeps.ite) | (with_reducible apply AnsKeeps.done)
    | (with_reducible apply AnsKeeps.later) | (with_reducible apply AnsKeeps.silent)
    | (with_reducible apply AnsKeeps.decided) | (with_reducible apply AnsKeeps.doneThen)
    | (with_reducible apply AnsKeeps.retry) | (with_reducible apply planStopGraceful_keeps) | (split) | (dsimp only))

theorem loseStep_keeps {s0 : State} {p : Nat} {s : State} (hs : Keeps s0 s) : Keeps s0 (loseStep p s) := by
  unfold loseStep
  repeat' (first
    | (with_reducible assumption) | (intro _) | (with_reducible apply markStep_keeps) | (split) | (dsimp only))

theorem planStopImmediate_keeps {s0 : State} {p : Nat} {s : State} (hs : Keeps s0 s) : AnsKeeps s0 (planStopImmediate p s) := by
  unfold planStopImmediate
  repeat' (first
    | (with_reducible assumption) | (intro _) | (with_reducible apply Keeps.ite) | (with_reducible apply AnsKeeps.ite)
    | (with_reducible apply AnsKeeps.done) | (with_reducible apply AnsKeeps.later) | (with_reducible apply AnsKeeps.silent)
    | (with_reducible apply AnsKeeps.decided) | (with_reducible apply AnsKeeps.doneThen)
    | (with_reducible apply AnsKeeps.retry) | (with_reducible apply Keeps.forEach) | (with_reducible apply loseStep_keeps)
    | (with_reducible apply closeSteps_keeps) | (with_reducible apply stopField_keeps)
    | (with_reducible apply setPartState_keeps) | (with_reducible apply endJobs_keeps) | (split) | (dsimp only))

theorem planStopImmediateOp_keeps {s0 : State} {r : Request} {t : State} (hs : Keeps s0 t)
    : AnsKeeps s0 ((planStopImmediateOp r).body t) := by
  unfold planStopImmediateOp
  dsimp only
  repeat' (first
    | (with_reducible assumption) | (intro _) | (with_reducible apply AnsKeeps.ite) | (with_reducible apply AnsKeeps.done)
    | (with_reducible apply AnsKeeps.later) | (with_reducible apply AnsKeeps.silent)
    | (with_reducible apply AnsKeeps.decided) | (with_reducible apply AnsKeeps.doneThen)
    | (with_reducible apply AnsKeeps.retry) | (with_reducible apply planStopImmediate_keeps) | (split) | (dsimp only))

theorem stepArm_keeps {s0 : State} {r : Request} {s : State} (hs : Keeps s0 s) : AnsKeeps s0 (stepArm r s) := by
  unfold stepArm
  repeat' (first
    | (with_reducible assumption) | (intro _) | (with_reducible apply Keeps.ite) | (with_reducible apply AnsKeeps.ite)
    | (with_reducible apply AnsKeeps.done) | (with_reducible apply AnsKeeps.later) | (with_reducible apply AnsKeeps.silent)
    | (with_reducible apply AnsKeeps.decided) | (with_reducible apply AnsKeeps.doneThen)
    | (with_reducible apply AnsKeeps.retry) | (with_reducible apply State.setPart_keeps) | (split) | (dsimp only))

theorem stepArmOp_keeps {s0 : State} {r : Request} {t : State} (hs : Keeps s0 t) : AnsKeeps s0 ((stepArmOp r).body t) := by
  unfold stepArmOp
  dsimp only
  repeat' (first
    | (with_reducible assumption) | (intro _) | (with_reducible apply AnsKeeps.ite) | (with_reducible apply AnsKeeps.done)
    | (with_reducible apply AnsKeeps.later) | (with_reducible apply AnsKeeps.silent)
    | (with_reducible apply AnsKeeps.decided) | (with_reducible apply AnsKeeps.doneThen)
    | (with_reducible apply AnsKeeps.retry) | (with_reducible apply stepArm_keeps) | (split) | (dsimp only))

theorem stepCommit_keeps {s0 : State} {r : Request} {s : State} (hs : Keeps s0 s) : AnsKeeps s0 (stepCommit r s) := by
  unfold stepCommit
  repeat' (first
    | (with_reducible assumption) | (intro _) | (with_reducible apply Keeps.ite) | (with_reducible apply AnsKeeps.ite)
    | (with_reducible apply AnsKeeps.done) | (with_reducible apply AnsKeeps.later) | (with_reducible apply AnsKeeps.silent)
    | (with_reducible apply AnsKeeps.decided) | (with_reducible apply AnsKeeps.doneThen)
    | (with_reducible apply AnsKeeps.retry) | (split) | (dsimp only))

theorem stepCommitOp_keeps {s0 : State} {r : Request} {t : State} (hs : Keeps s0 t)
    : AnsKeeps s0 ((stepCommitOp r).body t) := by
  unfold stepCommitOp
  dsimp only
  repeat' (first
    | (with_reducible assumption) | (intro _) | (with_reducible apply AnsKeeps.ite) | (with_reducible apply AnsKeeps.done)
    | (with_reducible apply AnsKeeps.later) | (with_reducible apply AnsKeeps.silent)
    | (with_reducible apply AnsKeeps.decided) | (with_reducible apply AnsKeeps.doneThen)
    | (with_reducible apply AnsKeeps.retry) | (with_reducible apply stepCommit_keeps) | (split) | (dsimp only))

end Sys2Proof.Machine
end

