-- ==== Sys2Proof/Laws/KeepsScpData.lean ====
section
/-!
SUPPORT. Laws/KeepsScpData.lean: each state transformer of Machine/ScpData.lean keeps what `Keeps` says: the queue of waiting
commands, what was emitted, the counter of free values, the canonical form of every table.
-/
set_option linter.unusedTactic false
set_option linter.unreachableTactic false
set_option linter.unusedSimpArgs false
namespace Sys2Proof.Machine

theorem bindTo_keeps {s0 : State} {f : Nat} {mask : Nat} {s : State} (hs : Keeps s0 s) : Keeps s0 (bindTo f mask s) := by
  unfold bindTo
  repeat' (first
    | (with_reducible assumption) | (intro _) | (with_reducible apply bindField_keeps)
    | (with_reducible apply storeImage_keeps) | (split) | (dsimp only))

theorem bindVariant_keeps {s0 : State} {p : Nat} {gone : Nat} {s : State} (hs : Keeps s0 s)
    : Keeps s0 (bindVariant p gone s) := by
  unfold bindVariant
  repeat' (first
    | (with_reducible assumption) | (intro _) | (with_reducible apply Keeps.forEach) | (with_reducible apply bindTo_keeps)
    | (split) | (dsimp only))

theorem bumpGen_keeps {s0 : State} {p : Nat} {s : State} (hs : Keeps s0 s) : Keeps s0 (bumpGen p s) := by
  unfold bumpGen
  repeat' (first
    | (with_reducible assumption) | (intro _) | (with_reducible apply State.set_keeps) | (split) | (dsimp only))

theorem cfgCommit_keeps {s0 : State} {r : Request} {s : State} (hs : Keeps s0 s) : AnsKeeps s0 (cfgCommit r s) := by
  unfold cfgCommit
  repeat' (first
    | (with_reducible assumption) | (intro _) | (with_reducible apply Keeps.ite) | (with_reducible apply AnsKeeps.ite)
    | (with_reducible apply AnsKeeps.done) | (with_reducible apply AnsKeeps.later) | (with_reducible apply AnsKeeps.silent)
    | (with_reducible apply AnsKeeps.decided) | (with_reducible apply AnsKeeps.doneThen)
    | (with_reducible apply AnsKeeps.retry) | (with_reducible apply State.set_keeps)
    | (with_reducible apply State.setPart_keeps) | (split) | (dsimp only))

theorem cfgCommitOp_keeps {s0 : State} {r : Request} {t : State} (hs : Keeps s0 t) : AnsKeeps s0 ((cfgCommitOp r).body t) := by
  unfold cfgCommitOp
  dsimp only
  repeat' (first
    | (with_reducible assumption) | (intro _) | (with_reducible apply AnsKeeps.ite) | (with_reducible apply AnsKeeps.done)
    | (with_reducible apply AnsKeeps.later) | (with_reducible apply AnsKeeps.silent)
    | (with_reducible apply AnsKeeps.decided) | (with_reducible apply AnsKeeps.doneThen)
    | (with_reducible apply AnsKeeps.retry) | (with_reducible apply cfgCommit_keeps) | (split) | (dsimp only))

theorem cfgStage_keeps {s0 : State} {r : Request} {s : State} (hs : Keeps s0 s) : AnsKeeps s0 (cfgStage r s) := by
  unfold cfgStage
  repeat' (first
    | (with_reducible assumption) | (intro _) | (with_reducible apply Keeps.ite) | (with_reducible apply AnsKeeps.ite)
    | (with_reducible apply AnsKeeps.done) | (with_reducible apply AnsKeeps.later) | (with_reducible apply AnsKeeps.silent)
    | (with_reducible apply AnsKeeps.decided) | (with_reducible apply AnsKeeps.doneThen)
    | (with_reducible apply AnsKeeps.retry) | (with_reducible apply State.setPart_keeps) | (split) | (dsimp only))

theorem cfgStageOp_keeps {s0 : State} {r : Request} {t : State} (hs : Keeps s0 t) : AnsKeeps s0 ((cfgStageOp r).body t) := by
  unfold cfgStageOp
  dsimp only
  repeat' (first
    | (with_reducible assumption) | (intro _) | (with_reducible apply AnsKeeps.ite) | (with_reducible apply AnsKeeps.done)
    | (with_reducible apply AnsKeeps.later) | (with_reducible apply AnsKeeps.silent)
    | (with_reducible apply AnsKeeps.decided) | (with_reducible apply AnsKeeps.doneThen)
    | (with_reducible apply AnsKeeps.retry) | (with_reducible apply cfgStage_keeps) | (split) | (dsimp only))

theorem ckptRestore_keeps {s0 : State} {r : Request} {s : State} (hs : Keeps s0 s) : AnsKeeps s0 (ckptRestore r s) := by
  unfold ckptRestore
  repeat' (first
    | (with_reducible assumption) | (intro _) | (with_reducible apply Keeps.ite) | (with_reducible apply AnsKeeps.ite)
    | (with_reducible apply AnsKeeps.done) | (with_reducible apply AnsKeeps.later) | (with_reducible apply AnsKeeps.silent)
    | (with_reducible apply AnsKeeps.decided) | (with_reducible apply AnsKeeps.doneThen)
    | (with_reducible apply AnsKeeps.retry) | (split) | (dsimp only))

theorem ckptRestoreOp_keeps {s0 : State} {r : Request} {t : State} (hs : Keeps s0 t)
    : AnsKeeps s0 ((ckptRestoreOp r).body t) := by
  unfold ckptRestoreOp
  dsimp only
  repeat' (first
    | (with_reducible assumption) | (intro _) | (with_reducible apply AnsKeeps.ite) | (with_reducible apply AnsKeeps.done)
    | (with_reducible apply AnsKeeps.later) | (with_reducible apply AnsKeeps.silent)
    | (with_reducible apply AnsKeeps.decided) | (with_reducible apply AnsKeeps.doneThen)
    | (with_reducible apply AnsKeeps.retry) | (with_reducible apply ckptRestore_keeps) | (split) | (dsimp only))

theorem ckptWrite_keeps {s0 : State} {r : Request} {s : State} (hs : Keeps s0 s) : AnsKeeps s0 (ckptWrite r s) := by
  unfold ckptWrite
  repeat' (first
    | (with_reducible assumption) | (intro _) | (with_reducible apply Keeps.ite) | (with_reducible apply AnsKeeps.ite)
    | (with_reducible apply AnsKeeps.done) | (with_reducible apply AnsKeeps.later) | (with_reducible apply AnsKeeps.silent)
    | (with_reducible apply AnsKeeps.decided) | (with_reducible apply AnsKeeps.doneThen)
    | (with_reducible apply AnsKeeps.retry) | (with_reducible apply State.setPart_keeps) | (split) | (dsimp only))

theorem ckptWriteOp_keeps {s0 : State} {r : Request} {t : State} (hs : Keeps s0 t) : AnsKeeps s0 ((ckptWriteOp r).body t) := by
  unfold ckptWriteOp
  dsimp only
  repeat' (first
    | (with_reducible assumption) | (intro _) | (with_reducible apply Keeps.ite) | (with_reducible apply AnsKeeps.ite)
    | (with_reducible apply AnsKeeps.done) | (with_reducible apply AnsKeeps.later) | (with_reducible apply AnsKeeps.silent)
    | (with_reducible apply AnsKeeps.decided) | (with_reducible apply AnsKeeps.doneThen)
    | (with_reducible apply AnsKeeps.retry) | (with_reducible apply ckptWrite_keeps) | (split) | (dsimp only))

theorem writeStack_keeps {s0 s : State} {f u n : Nat} {l : List Byte} (h : Keeps s0 s) : Keeps s0 (writeStack f u n l s) := by
  induction n generalizing s u l with
  | zero => exact h
  | succ n ih => exact ih (tnWrite_keeps h)

theorem writeUnits_keeps {s0 s : State} {r : Request} {v p u n : Nat} {l : List Byte} (h : Keeps s0 s) :
    Keeps s0 (writeUnits r v p u n l s).2 := by
  induction n generalizing s u l with
  | zero => exact h
  | succ n ih =>
    simp only [writeUnits]
    split
    · exact cmdRefusal_keeps h
    · exact ih (tcWrite_keeps h)

theorem finishMoveIn_keeps {s0 : State} {j : Job} {p : Nat} {tier : Nat} {unit : Nat} {addr : Nat} {l : List Byte}
    {s : State} (hs : Keeps s0 s) : Keeps s0 (finishMoveIn j p tier unit addr l s).2.2 := by
  unfold finishMoveIn
  repeat' (first
    | (with_reducible assumption) | (intro _) | (with_reducible apply Keeps.ite) | (with_reducible apply writeStack_keeps)
    | (with_reducible apply writeUnits_keeps) | (split) | (dsimp only))

theorem readStack_keeps {s0 s : State} {f master u n : Nat} (h : Keeps s0 s) : Keeps s0 (readStack f master u n s).2 := by
  induction n generalizing s u with
  | zero => exact h
  | succ n ih =>
    simp only [readStack]
    split
    · exact tnRead_keeps h
    · exact ih (tnRead_keeps h)

theorem finishMoveOut_keeps {s0 : State} {j : Job} {p : Nat} {tier : Nat} {unit : Nat} {addr : Nat} {refBytes : List Byte}
    {s : State} (hs : Keeps s0 s) : Keeps s0 (finishMoveOut j p tier unit addr refBytes s).2.2 := by
  unfold finishMoveOut
  repeat' (first
    | (with_reducible assumption) | (intro _) | (with_reducible apply Keeps.ite) | (with_reducible apply readStack_keeps)
    | (with_reducible apply readUnits_keeps) | (with_reducible apply State.emit_keeps)
    | (with_reducible apply writeUnits_keeps) | (split) | (dsimp only))

theorem finishMoveAcross_keeps {s0 : State} {j : Job} {p : Nat} {tier : Nat} {unit : Nat} {addr : Nat} {refBytes : List Byte}
    {s : State} (hs : Keeps s0 s) : Keeps s0 (finishMoveAcross j p tier unit addr refBytes s).2.2 := by
  unfold finishMoveAcross
  repeat' (first
    | (with_reducible assumption) | (intro _) | (with_reducible apply fetchData_keeps)
    | (with_reducible apply finishMoveIn_keeps) | (split) | (dsimp only))

theorem openDrain_keeps {s0 : State} {ps : List Nat} {s : State} (hs : Keeps s0 s) : Keeps s0 (openDrain ps s) := by
  unfold openDrain
  repeat' (first
    | (with_reducible assumption) | (intro _) | (with_reducible apply Keeps.foldl) | (with_reducible apply Keeps.foldl_snd)
    | (with_reducible apply Keeps.foldl_third) | (with_reducible apply State.set_keeps) | (simp only [↓Keeps.upd_iff])
    | (split) | (dsimp only))

theorem withdraw_keeps {s0 : State} {p : Nat} {gone : Nat} {s : State} (hs : Keeps s0 s) : Keeps s0 (withdraw p gone s) := by
  unfold withdraw
  repeat' (first
    | (with_reducible assumption) | (intro _) | (with_reducible apply bindVariant_keeps)
    | (with_reducible apply Keeps.forEach) | (with_reducible apply moveField_keeps) | (with_reducible apply openDrain_keeps)
    | (with_reducible apply bumpGen_keeps) | (split) | (dsimp only))

theorem migratePhase2_keeps {s0 : State} {p : Nat} {gone : Nat} {b : Fet} {s : State} (hs : Keeps s0 s)
    : Keeps s0 (migratePhase2 p gone b s) := by
  unfold migratePhase2
  repeat' (first
    | (with_reducible assumption) | (intro _) | (with_reducible apply Keeps.ite) | (with_reducible apply withdraw_keeps)
    | (with_reducible apply State.setPart_keeps) | (with_reducible apply setPartState_keeps)
    | (with_reducible apply Keeps.forEach) | (with_reducible apply startField_keeps) | (split) | (dsimp only))

theorem moveInto_keeps {s0 : State} {r : Request} {data : List Byte} {s : State} (hs : Keeps s0 s)
    : AnsKeeps s0 (moveInto r data s) := by
  unfold moveInto
  repeat' (first
    | (with_reducible assumption) | (intro _) | (with_reducible apply Keeps.ite) | (with_reducible apply AnsKeeps.ite)
    | (with_reducible apply AnsKeeps.done) | (with_reducible apply AnsKeeps.later) | (with_reducible apply AnsKeeps.silent)
    | (with_reducible apply AnsKeeps.decided) | (with_reducible apply AnsKeeps.doneThen)
    | (with_reducible apply AnsKeeps.retry) | (with_reducible apply fetchData_keeps) | (split) | (dsimp only))

theorem moveIntoTierOp_keeps {s0 : State} {r : Request} {data : List Byte} {t : State} (hs : Keeps s0 t)
    : AnsKeeps s0 ((moveIntoTierOp r data).body t) := by
  unfold moveIntoTierOp
  dsimp only
  repeat' (first
    | (with_reducible assumption) | (intro _) | (with_reducible apply AnsKeeps.ite) | (with_reducible apply AnsKeeps.done)
    | (with_reducible apply AnsKeeps.later) | (with_reducible apply AnsKeeps.silent)
    | (with_reducible apply AnsKeeps.decided) | (with_reducible apply AnsKeeps.doneThen)
    | (with_reducible apply AnsKeeps.retry) | (with_reducible apply moveInto_keeps) | (split) | (dsimp only))

theorem moveOut_keeps {s0 : State} {r : Request} {s : State} (hs : Keeps s0 s) : AnsKeeps s0 (moveOut r s) := by
  unfold moveOut
  repeat' (first
    | (with_reducible assumption) | (intro _) | (with_reducible apply AnsKeeps.ite) | (with_reducible apply AnsKeeps.done)
    | (with_reducible apply AnsKeeps.later) | (with_reducible apply AnsKeeps.silent)
    | (with_reducible apply AnsKeeps.decided) | (with_reducible apply AnsKeeps.doneThen)
    | (with_reducible apply AnsKeeps.retry) | (split) | (dsimp only))

theorem moveOutOfTierOp_keeps {s0 : State} {r : Request} {t : State} (hs : Keeps s0 t)
    : AnsKeeps s0 ((moveOutOfTierOp r).body t) := by
  unfold moveOutOfTierOp
  dsimp only
  repeat' (first
    | (with_reducible assumption) | (intro _) | (with_reducible apply AnsKeeps.ite) | (with_reducible apply AnsKeeps.done)
    | (with_reducible apply AnsKeeps.later) | (with_reducible apply AnsKeeps.silent)
    | (with_reducible apply AnsKeeps.decided) | (with_reducible apply AnsKeeps.doneThen)
    | (with_reducible apply AnsKeeps.retry) | (with_reducible apply moveOut_keeps) | (split) | (dsimp only))

theorem queueConfig_keeps {s0 : State} {r : Request} {s : State} (hs : Keeps s0 s) : AnsKeeps s0 (queueConfig r s) := by
  unfold queueConfig
  repeat' (first
    | (with_reducible assumption) | (intro _) | (with_reducible apply Keeps.ite) | (with_reducible apply AnsKeeps.ite)
    | (with_reducible apply AnsKeeps.done) | (with_reducible apply AnsKeeps.later) | (with_reducible apply AnsKeeps.silent)
    | (with_reducible apply AnsKeeps.decided) | (with_reducible apply AnsKeeps.doneThen)
    | (with_reducible apply AnsKeeps.retry) | (with_reducible apply Keeps.forEach) | (with_reducible apply State.set_keeps)
    | (split) | (dsimp only))

theorem queueConfigOp_keeps {s0 : State} {r : Request} {t : State} (hs : Keeps s0 t)
    : AnsKeeps s0 ((queueConfigOp r).body t) := by
  unfold queueConfigOp
  dsimp only
  repeat' (first
    | (with_reducible assumption) | (intro _) | (with_reducible apply AnsKeeps.ite) | (with_reducible apply AnsKeeps.done)
    | (with_reducible apply AnsKeeps.later) | (with_reducible apply AnsKeeps.silent)
    | (with_reducible apply AnsKeeps.decided) | (with_reducible apply AnsKeeps.doneThen)
    | (with_reducible apply AnsKeeps.retry) | (with_reducible apply queueConfig_keeps) | (split) | (dsimp only))

theorem migrate_keeps {s0 : State} {r : Request} {s : State} (hs : Keeps s0 s) : AnsKeeps s0 (migrate r s) := by
  unfold migrate
  repeat' (first
    | (with_reducible assumption) | (intro _) | (with_reducible apply Keeps.ite) | (with_reducible apply AnsKeeps.ite)
    | (with_reducible apply AnsKeeps.done) | (with_reducible apply AnsKeeps.later) | (with_reducible apply AnsKeeps.silent)
    | (with_reducible apply AnsKeeps.decided) | (with_reducible apply AnsKeeps.doneThen)
    | (with_reducible apply AnsKeeps.retry) | (with_reducible apply planStopGraceful_keeps)
    | (with_reducible apply Keeps.unchanged) | (split) | (dsimp only) | (refine Keeps.of_snd (by assumption) ?_)
    | (refine Keeps.of_third (by assumption) ?_) | (refine Keeps.of_fst (by assumption) ?_)
    | (refine AnsKeeps.of_later (by assumption) ?_))

theorem migrateOp_keeps {s0 : State} {r : Request} {t : State} (hs : Keeps s0 t) : AnsKeeps s0 ((migrateOp r).body t) := by
  unfold migrateOp
  dsimp only
  repeat' (first
    | (with_reducible assumption) | (intro _) | (with_reducible apply AnsKeeps.ite) | (with_reducible apply AnsKeeps.done)
    | (with_reducible apply AnsKeeps.later) | (with_reducible apply AnsKeeps.silent)
    | (with_reducible apply AnsKeeps.decided) | (with_reducible apply AnsKeeps.doneThen)
    | (with_reducible apply AnsKeeps.retry) | (with_reducible apply migrate_keeps) | (split) | (dsimp only))

theorem mapUpdate_keeps {s0 : State} {r : Request} {s : State} (hs : Keeps s0 s) : AnsKeeps s0 (mapUpdate r s) := by
  unfold mapUpdate
  repeat' (first
    | (with_reducible assumption) | (intro _) | (with_reducible apply Keeps.ite) | (with_reducible apply AnsKeeps.ite)
    | (with_reducible apply AnsKeeps.done) | (with_reducible apply AnsKeeps.later) | (with_reducible apply AnsKeeps.silent)
    | (with_reducible apply AnsKeeps.decided) | (with_reducible apply AnsKeeps.doneThen)
    | (with_reducible apply AnsKeeps.retry) | (with_reducible apply Keeps.forEach) | (with_reducible apply startZero_keeps)
    | (with_reducible apply State.set_keeps) | (with_reducible apply setChanging_keeps) | (simp only [↓Keeps.upd_iff])
    | (split) | (dsimp only))

theorem mapUpdateOp_keeps {s0 : State} {r : Request} {t : State} (hs : Keeps s0 t) : AnsKeeps s0 ((mapUpdateOp r).body t) := by
  unfold mapUpdateOp
  dsimp only
  repeat' (first
    | (with_reducible assumption) | (intro _) | (with_reducible apply AnsKeeps.ite) | (with_reducible apply AnsKeeps.done)
    | (with_reducible apply AnsKeeps.later) | (with_reducible apply AnsKeeps.silent)
    | (with_reducible apply AnsKeeps.decided) | (with_reducible apply AnsKeeps.doneThen)
    | (with_reducible apply AnsKeeps.retry) | (with_reducible apply mapUpdate_keeps) | (split) | (dsimp only))

end Sys2Proof.Machine
end

