-- ==== Sys2Proof/Laws/KeepsScpPower.lean ====
section
/-!
SUPPORT. Laws/KeepsScpPower.lean: each state transformer of Machine/ScpPower.lean keeps what `Keeps` says: the queue of waiting
commands, what was emitted, the counter of free values, the canonical form of every table.
-/
set_option linter.unusedTactic false
set_option linter.unreachableTactic false
set_option linter.unusedSimpArgs false
namespace Sys2Proof.Machine

theorem budgetSet_keeps {s0 : State} {r : Request} {s : State} (hs : Keeps s0 s) : AnsKeeps s0 (budgetSet r s) := by
  unfold budgetSet
  repeat' (first
    | (with_reducible assumption) | (intro _) | (with_reducible apply Keeps.ite) | (with_reducible apply AnsKeeps.ite)
    | (with_reducible apply AnsKeeps.done) | (with_reducible apply AnsKeeps.later) | (with_reducible apply AnsKeeps.silent)
    | (with_reducible apply AnsKeeps.decided) | (with_reducible apply AnsKeeps.doneThen)
    | (with_reducible apply AnsKeeps.retry) | (with_reducible apply scaleBudgets_keeps)
    | (with_reducible apply State.set_keeps) | (split) | (dsimp only))

theorem handOver_keeps {s0 : State} {f : Nat} {s : State} (hs : Keeps s0 s) : Keeps s0 (handOver f s) := by
  unfold handOver
  repeat' (first
    | (with_reducible assumption) | (intro _) | (with_reducible apply Keeps.ite) | (with_reducible apply endJobs_keeps)
    | (with_reducible apply State.set_keeps) | (split) | (dsimp only))

theorem envelopeSet_keeps {s0 : State} {r : Request} {s : State} (hs : Keeps s0 s) : AnsKeeps s0 (envelopeSet r s) := by
  unfold envelopeSet
  repeat' (first
    | (with_reducible assumption) | (intro _) | (with_reducible apply Keeps.ite) | (with_reducible apply AnsKeeps.ite)
    | (with_reducible apply AnsKeeps.done) | (with_reducible apply AnsKeeps.later) | (with_reducible apply AnsKeeps.silent)
    | (with_reducible apply AnsKeeps.decided) | (with_reducible apply AnsKeeps.doneThen)
    | (with_reducible apply AnsKeeps.retry) | (with_reducible apply setBreakpoints_keeps) | (split) | (dsimp only))

theorem envelopeSetBudgetOp_keeps {s0 : State} {r : Request} {t : State} (hs : Keeps s0 t)
    : AnsKeeps s0 ((envelopeSetBudgetOp r).body t) := by
  unfold envelopeSetBudgetOp
  dsimp only
  repeat' (first
    | (with_reducible assumption) | (intro _) | (with_reducible apply AnsKeeps.ite) | (with_reducible apply AnsKeeps.done)
    | (with_reducible apply AnsKeeps.later) | (with_reducible apply AnsKeeps.silent)
    | (with_reducible apply AnsKeeps.decided) | (with_reducible apply AnsKeeps.doneThen)
    | (with_reducible apply AnsKeeps.retry) | (with_reducible apply budgetSet_keeps) | (split) | (dsimp only))

theorem envelopeSetOp_keeps {s0 : State} {r : Request} {t : State} (hs : Keeps s0 t)
    : AnsKeeps s0 ((envelopeSetOp r).body t) := by
  unfold envelopeSetOp
  dsimp only
  repeat' (first
    | (with_reducible assumption) | (intro _) | (with_reducible apply AnsKeeps.ite) | (with_reducible apply AnsKeeps.done)
    | (with_reducible apply AnsKeeps.later) | (with_reducible apply AnsKeeps.silent)
    | (with_reducible apply AnsKeeps.decided) | (with_reducible apply AnsKeeps.doneThen)
    | (with_reducible apply AnsKeeps.retry) | (with_reducible apply envelopeSet_keeps) | (split) | (dsimp only))

theorem sentinelRun_keeps {s0 : State} {r : Request} {s : State} (hs : Keeps s0 s) : AnsKeeps s0 (sentinelRun r s) := by
  unfold sentinelRun
  repeat' (first
    | (with_reducible assumption) | (intro _) | (with_reducible apply Keeps.ite) | (with_reducible apply AnsKeeps.ite)
    | (with_reducible apply AnsKeeps.done) | (with_reducible apply AnsKeeps.later) | (with_reducible apply AnsKeeps.silent)
    | (with_reducible apply AnsKeeps.decided) | (with_reducible apply AnsKeeps.doneThen)
    | (with_reducible apply AnsKeeps.retry) | (with_reducible apply Keeps.forEach)
    | (with_reducible apply State.setCell_keeps) | (split) | (dsimp only))

theorem sentinelRunOp_keeps {s0 : State} {r : Request} {t : State} (hs : Keeps s0 t)
    : AnsKeeps s0 ((sentinelRunOp r).body t) := by
  unfold sentinelRunOp
  dsimp only
  repeat' (first
    | (with_reducible assumption) | (intro _) | (with_reducible apply AnsKeeps.ite) | (with_reducible apply AnsKeeps.done)
    | (with_reducible apply AnsKeeps.later) | (with_reducible apply AnsKeeps.silent)
    | (with_reducible apply AnsKeeps.decided) | (with_reducible apply AnsKeeps.doneThen)
    | (with_reducible apply AnsKeeps.retry) | (with_reducible apply sentinelRun_keeps) | (split) | (dsimp only))

theorem quenchPart_keeps {s0 : State} {r : Request} {s : State} (hs : Keeps s0 s) : AnsKeeps s0 (quenchPart r s) := by
  unfold quenchPart
  repeat' (first
    | (with_reducible assumption) | (intro _) | (with_reducible apply Keeps.ite) | (with_reducible apply AnsKeeps.ite)
    | (with_reducible apply AnsKeeps.done) | (with_reducible apply AnsKeeps.later) | (with_reducible apply AnsKeeps.silent)
    | (with_reducible apply AnsKeeps.decided) | (with_reducible apply AnsKeeps.doneThen)
    | (with_reducible apply AnsKeeps.retry) | (with_reducible apply raiseAs_keeps) | (split) | (dsimp only))

theorem quenchPartitionOp_keeps {s0 : State} {r : Request} {t : State} (hs : Keeps s0 t)
    : AnsKeeps s0 ((quenchPartitionOp r).body t) := by
  unfold quenchPartitionOp
  dsimp only
  repeat' (first
    | (with_reducible assumption) | (intro _) | (with_reducible apply AnsKeeps.ite) | (with_reducible apply AnsKeeps.done)
    | (with_reducible apply AnsKeeps.later) | (with_reducible apply AnsKeeps.silent)
    | (with_reducible apply AnsKeeps.decided) | (with_reducible apply AnsKeeps.doneThen)
    | (with_reducible apply AnsKeeps.retry) | (with_reducible apply quenchPart_keeps) | (split) | (dsimp only))

theorem quenchAll_keeps {s0 : State} {r : Request} {s : State} (hs : Keeps s0 s) : AnsKeeps s0 (quenchAll r s) := by
  unfold quenchAll
  repeat' (first
    | (with_reducible assumption) | (intro _) | (with_reducible apply Keeps.ite) | (with_reducible apply AnsKeeps.ite)
    | (with_reducible apply AnsKeeps.done) | (with_reducible apply AnsKeeps.later) | (with_reducible apply AnsKeeps.silent)
    | (with_reducible apply AnsKeeps.decided) | (with_reducible apply AnsKeeps.doneThen)
    | (with_reducible apply AnsKeeps.retry) | (with_reducible apply raiseAs_keeps) | (split) | (dsimp only))

theorem quenchModuleOp_keeps {s0 : State} {r : Request} {t : State} (hs : Keeps s0 t)
    : AnsKeeps s0 ((quenchModuleOp r).body t) := by
  unfold quenchModuleOp
  dsimp only
  repeat' (first
    | (with_reducible assumption) | (intro _) | (with_reducible apply AnsKeeps.ite) | (with_reducible apply AnsKeeps.done)
    | (with_reducible apply AnsKeeps.later) | (with_reducible apply AnsKeeps.silent)
    | (with_reducible apply AnsKeeps.decided) | (with_reducible apply AnsKeeps.doneThen)
    | (with_reducible apply AnsKeeps.retry) | (with_reducible apply quenchAll_keeps) | (split) | (dsimp only))

theorem turnOff_keeps {s0 : State} {d : Nat} {s : State} (hs : Keeps s0 s) : Keeps s0 (turnOff d s) := by
  unfold turnOff
  repeat' (first
    | (with_reducible assumption) | (intro _) | (with_reducible apply Keeps.ite) | (with_reducible apply endJobs_keeps)
    | (with_reducible apply handOver_keeps) | (with_reducible apply setDefer_keeps) | (with_reducible apply domainOff_keeps)
    | (with_reducible apply State.set_keeps) | (with_reducible apply makeHole_keeps) | (simp only [↓Keeps.upd_iff])
    | (split) | (dsimp only))

theorem powerDomainOffOp_keeps {s0 : State} {r : Request} {t : State} (hs : Keeps s0 t)
    : AnsKeeps s0 ((powerDomainOffOp r).body t) := by
  unfold powerDomainOffOp
  dsimp only
  repeat' (first
    | (with_reducible assumption) | (intro _) | (with_reducible apply AnsKeeps.ite) | (with_reducible apply AnsKeeps.done)
    | (with_reducible apply AnsKeeps.later) | (with_reducible apply AnsKeeps.silent)
    | (with_reducible apply AnsKeeps.decided) | (with_reducible apply AnsKeeps.doneThen)
    | (with_reducible apply AnsKeeps.retry) | (with_reducible apply turnOff_keeps) | (split) | (dsimp only))

theorem turnOn_keeps {s0 : State} {r : Request} {s : State} (hs : Keeps s0 s) : AnsKeeps s0 (turnOn r s) := by
  unfold turnOn
  repeat' (first
    | (with_reducible assumption) | (intro _) | (with_reducible apply Keeps.ite) | (with_reducible apply AnsKeeps.ite)
    | (with_reducible apply AnsKeeps.done) | (with_reducible apply AnsKeeps.later) | (with_reducible apply AnsKeeps.silent)
    | (with_reducible apply AnsKeeps.decided) | (with_reducible apply AnsKeeps.doneThen)
    | (with_reducible apply AnsKeeps.retry) | (with_reducible apply requestWake_keeps) | (split) | (dsimp only))

theorem powerDomainOnOp_keeps {s0 : State} {r : Request} {t : State} (hs : Keeps s0 t)
    : AnsKeeps s0 ((powerDomainOnOp r).body t) := by
  unfold powerDomainOnOp
  dsimp only
  repeat' (first
    | (with_reducible assumption) | (intro _) | (with_reducible apply AnsKeeps.ite) | (with_reducible apply AnsKeeps.done)
    | (with_reducible apply AnsKeeps.later) | (with_reducible apply AnsKeeps.silent)
    | (with_reducible apply AnsKeeps.decided) | (with_reducible apply AnsKeeps.doneThen)
    | (with_reducible apply AnsKeeps.retry) | (with_reducible apply turnOn_keeps) | (split) | (dsimp only))

theorem powerDomainModuleOffOp_keeps {s0 : State} {r : Request} {t : State} (hs : Keeps s0 t)
    : AnsKeeps s0 ((powerDomainModuleOffOp r).body t) := by
  unfold powerDomainModuleOffOp
  dsimp only
  repeat' (first
    | (with_reducible assumption) | (intro _) | (with_reducible apply AnsKeeps.ite) | (with_reducible apply AnsKeeps.done)
    | (with_reducible apply AnsKeeps.later) | (with_reducible apply AnsKeeps.silent)
    | (with_reducible apply AnsKeeps.decided) | (with_reducible apply AnsKeeps.doneThen)
    | (with_reducible apply AnsKeeps.retry) | (with_reducible apply powerDown_keeps) | (split) | (dsimp only))

theorem warmReinit_keeps {s0 : State} {s : State} (hs : Keeps s0 s) : AnsKeeps s0 (warmReinit s) := by
  unfold warmReinit
  repeat' (first
    | (with_reducible assumption) | (intro _) | (with_reducible apply Keeps.ite) | (with_reducible apply AnsKeeps.ite)
    | (with_reducible apply AnsKeeps.done) | (with_reducible apply AnsKeeps.later) | (with_reducible apply AnsKeeps.silent)
    | (with_reducible apply AnsKeeps.decided) | (with_reducible apply AnsKeeps.doneThen)
    | (with_reducible apply AnsKeeps.retry) | (with_reducible apply warmStart_keeps) | (split) | (dsimp only))

theorem resetWarmReinitOp_keeps {s0 : State} {r : Request} {t : State} (hs : Keeps s0 t)
    : AnsKeeps s0 ((resetWarmReinitOp r).body t) := by
  unfold resetWarmReinitOp
  dsimp only
  repeat' (first
    | (with_reducible assumption) | (intro _) | (with_reducible apply AnsKeeps.ite) | (with_reducible apply AnsKeeps.done)
    | (with_reducible apply AnsKeeps.later) | (with_reducible apply AnsKeeps.silent)
    | (with_reducible apply AnsKeeps.decided) | (with_reducible apply AnsKeeps.doneThen)
    | (with_reducible apply AnsKeeps.retry) | (with_reducible apply warmReinit_keeps) | (split) | (dsimp only))

theorem resetModule_keeps {s0 : State} {s : State} (hs : Keeps s0 s) : AnsKeeps s0 (resetModule s) := by
  unfold resetModule
  repeat' (first
    | (with_reducible assumption) | (intro _) | (with_reducible apply Keeps.ite) | (with_reducible apply AnsKeeps.ite)
    | (with_reducible apply AnsKeeps.done) | (with_reducible apply AnsKeeps.later) | (with_reducible apply AnsKeeps.silent)
    | (with_reducible apply AnsKeeps.decided) | (with_reducible apply AnsKeeps.doneThen)
    | (with_reducible apply AnsKeeps.retry) | (with_reducible apply moduleReset_keeps) | (split) | (dsimp only))

theorem resetModuleOp_keeps {s0 : State} {r : Request} {t : State} (hs : Keeps s0 t)
    : AnsKeeps s0 ((resetModuleOp r).body t) := by
  unfold resetModuleOp
  dsimp only
  repeat' (first
    | (with_reducible assumption) | (intro _) | (with_reducible apply AnsKeeps.ite) | (with_reducible apply AnsKeeps.done)
    | (with_reducible apply AnsKeeps.later) | (with_reducible apply AnsKeeps.silent)
    | (with_reducible apply AnsKeeps.decided) | (with_reducible apply AnsKeeps.doneThen)
    | (with_reducible apply AnsKeeps.retry) | (with_reducible apply resetModule_keeps) | (split) | (dsimp only))

theorem resetPins_keeps {s0 : State} {s : State} (hs : Keeps s0 s) : AnsKeeps s0 (resetPins s) := by
  unfold resetPins
  repeat' (first
    | (with_reducible assumption) | (intro _) | (with_reducible apply Keeps.ite) | (with_reducible apply AnsKeeps.ite)
    | (with_reducible apply AnsKeeps.done) | (with_reducible apply AnsKeeps.later) | (with_reducible apply AnsKeeps.silent)
    | (with_reducible apply AnsKeeps.decided) | (with_reducible apply AnsKeeps.doneThen)
    | (with_reducible apply AnsKeeps.retry) | (with_reducible apply pinsSafe_keeps) | (split) | (dsimp only))

theorem resetPinSafeOp_keeps {s0 : State} {r : Request} {t : State} (hs : Keeps s0 t)
    : AnsKeeps s0 ((resetPinSafeOp r).body t) := by
  unfold resetPinSafeOp
  dsimp only
  repeat' (first
    | (with_reducible assumption) | (intro _) | (with_reducible apply AnsKeeps.ite) | (with_reducible apply AnsKeeps.done)
    | (with_reducible apply AnsKeeps.later) | (with_reducible apply AnsKeeps.silent)
    | (with_reducible apply AnsKeeps.decided) | (with_reducible apply AnsKeeps.doneThen)
    | (with_reducible apply AnsKeeps.retry) | (with_reducible apply resetPins_keeps) | (split) | (dsimp only))

end Sys2Proof.Machine
end

