-- ==== Sys2Proof/Laws/KeepsRerun.lean ====
section
/-!
SUPPORT. Laws/KeepsRerun.lean: each state transformer of Machine/Rerun.lean keeps what `Keeps` says: the queue of waiting
commands, what was emitted, the counter of free values, the canonical form of every table.
-/
set_option linter.unusedTactic false
set_option linter.unreachableTactic false
set_option linter.unusedSimpArgs false
namespace Sys2Proof.Machine

theorem endCheck_keeps {s0 : State} {p : Nat} {idx : Nat} {s : State} (hs : Keeps s0 s) : Keeps s0 (endCheck p idx s) := by
  unfold endCheck
  repeat' (first
    | (with_reducible assumption) | (intro _) | (with_reducible apply Keeps.ite)
    | (with_reducible apply State.setPart_keeps) | (with_reducible apply Keeps.forEach)
    | (with_reducible apply arrive_keeps) | (split) | (dsimp only))

theorem rePlace_keeps {s0 : State} {f : Nat} {rec : Nat} {s : State} (hs : Keeps s0 s) : Keeps s0 (rePlace f rec s) := by
  unfold rePlace
  repeat' (first
    | (with_reducible assumption) | (intro _) | (with_reducible apply Keeps.ite) | (with_reducible apply handOver_keeps)
    | (with_reducible apply failField_keeps) | (with_reducible apply failCreate_keeps)
    | (with_reducible apply bindVariant_keeps) | (with_reducible apply raiseFault_keeps)
    | (with_reducible apply postMap_keeps) | (split) | (dsimp only))

theorem noticeFrame_keeps {s0 : State} {port : Nat} {hdr : Frame} {k : State → State} {s : State} (hs : Keeps s0 s)
    (hk : ∀ x0, Keeps s0 x0 → Keeps s0 (k x0)) : Keeps s0 (noticeFrame port hdr k s) := by
  unfold noticeFrame
  repeat' (first
    | (with_reducible assumption) | (intro _) | (with_reducible apply receiveFrame_keeps) | (with_reducible apply hk)
    | (split) | (dsimp only))

theorem forwardNotice_keeps {s0 : State} {port : Nat} {n : Notice} {s : State} (hs : Keeps s0 s)
    : Keeps s0 (forwardNotice port n s) := by
  unfold forwardNotice
  repeat' (first
    | (with_reducible assumption) | (intro _) | (with_reducible apply sendNotice_keeps) | (simp only [↓Keeps.upd_iff])
    | (split) | (dsimp only))

theorem quenchNoticeReceive_keeps {s0 : State} {port : Nat} {n : Notice} {s : State} (hs : Keeps s0 s)
    : Keeps s0 (quenchNoticeReceive port n s) := by
  unfold quenchNoticeReceive
  repeat' (first
    | (with_reducible assumption) | (intro _) | (with_reducible apply Keeps.ite) | (with_reducible apply raiseAs_keeps)
    | (with_reducible apply forwardNotice_keeps) | (split) | (dsimp only))

theorem genApply_keeps {s0 : State} {e : Nat × Nat × Fet} {s : State} (hs : Keeps s0 s) : Keeps s0 (genApply e s) := by
  unfold genApply
  repeat' (first
    | (with_reducible assumption) | (intro _) | (with_reducible apply openDrain_keeps)
    | (with_reducible apply State.set_keeps) | (split) | (dsimp only))

theorem genNoticeReceive_keeps {s0 : State} {port : Nat} {n : Notice} {s : State} (hs : Keeps s0 s)
    : Keeps s0 (genNoticeReceive port n s) := by
  unfold genNoticeReceive
  repeat' (first
    | (with_reducible assumption) | (intro _) | (with_reducible apply Keeps.ite) | (with_reducible apply genApply_keeps)
    | (with_reducible apply noteAt_keeps) | (with_reducible apply forwardNotice_keeps) | (simp only [↓Keeps.upd_iff])
    | (split) | (dsimp only))

theorem repairField_keeps {s0 : State} {f : Nat} {s : State} (hs : Keeps s0 s) : Keeps s0 (repairField f s) := by
  unfold repairField
  repeat' (first
    | (with_reducible assumption) | (intro _) | (with_reducible apply Keeps.ite) | (with_reducible apply Keeps.foldl)
    | (with_reducible apply Keeps.foldl_snd) | (with_reducible apply Keeps.foldl_third)
    | (with_reducible apply tnWrite_keeps) | (with_reducible apply State.setField_keeps) | (split) | (dsimp only))

theorem rewriteUnit_keeps {s0 : State} {r : FaultRec} {s : State} (hs : Keeps s0 s) : Keeps s0 (rewriteUnit r s) := by
  unfold rewriteUnit
  repeat' (first
    | (with_reducible assumption) | (intro _) | (with_reducible apply Keeps.ite) | (with_reducible apply tnWrite_keeps)
    | (split) | (dsimp only))

theorem rewriteWord_keeps {s0 : State} {r : FaultRec} {s : State} (hs : Keeps s0 s) : Keeps s0 (rewriteWord r s) := by
  unfold rewriteWord
  repeat' (first
    | (with_reducible assumption) | (intro _) | (with_reducible apply Keeps.ite) | (with_reducible apply Keeps.forEach)
    | (with_reducible apply State.setCell_keeps) | (split) | (dsimp only))

theorem rerunStart_keeps {s0 : State} {p : Nat} {s : State} (hs : Keeps s0 s) : Keeps s0 (rerunStart p s) := by
  unfold rerunStart
  repeat' (first
    | (with_reducible assumption) | (intro _) | (with_reducible apply Keeps.ite) | (with_reducible apply Keeps.foldl)
    | (with_reducible apply Keeps.foldl_snd) | (with_reducible apply Keeps.foldl_third)
    | (with_reducible apply Keeps.forEach) | (with_reducible apply repairField_keeps)
    | (with_reducible apply rewriteUnit_keeps) | (with_reducible apply rewriteWord_keeps)
    | (with_reducible apply State.set_keeps) | (with_reducible apply markStep_keeps)
    | (with_reducible apply State.setPart_keeps) | (split) | (dsimp only))

theorem reread_keeps {s0 : State} {r : FaultRec} {again : Bool} {s : State} (hs : Keeps s0 s)
    : Keeps s0 (reread r again s).2 := by
  unfold reread
  repeat' (first
    | (with_reducible assumption) | (intro _) | (with_reducible apply Keeps.ite) | (with_reducible apply State.free_keeps)
    | (with_reducible apply State.setCell_keeps) | (split) | (dsimp only))

theorem markRecord_keeps {s0 : State} {p : Nat} {idx : Nat} {perm : Bool} {s : State} (hs : Keeps s0 s)
    : Keeps s0 (markRecord p idx perm s) := by
  unfold markRecord
  repeat' (first
    | (with_reducible assumption) | (intro _) | (with_reducible apply Keeps.ite) | (with_reducible apply editRecord_keeps)
    | (with_reducible apply State.count_keeps) | (split) | (dsimp only))

theorem permanentRecord_keeps {s0 : State} {type : Nat} {loc : Nat} {r : FaultRec} {s : State} (hs : Keeps s0 s)
    : Keeps s0 (permanentRecord type loc r s).2 := by
  unfold permanentRecord
  repeat' (first
    | (with_reducible assumption) | (intro _) | (with_reducible apply Keeps.ite) | (with_reducible apply storeDefect_keeps)
    | (with_reducible apply raiseAs_keeps) | (with_reducible apply editRecord_keeps) | (split) | (dsimp only))

theorem reRoute_keeps {s0 : State} {f : Nat} {pos : Nat} {rec : Nat} {s : State} (hs : Keeps s0 s)
    : Keeps s0 (reRoute f pos rec s) := by
  unfold reRoute
  repeat' (first
    | (with_reducible assumption) | (intro _) | (with_reducible apply Keeps.ite) | (with_reducible apply State.set_keeps)
    | (with_reducible apply rePlace_keeps) | (with_reducible apply startZero_keeps) | (with_reducible apply postMap_keeps)
    | (split) | (dsimp only))

theorem permanentLink_keeps {s0 : State} {r : FaultRec} {s : State} (hs : Keeps s0 s) : Keeps s0 (permanentLink r s) := by
  unfold permanentLink
  repeat' (first
    | (with_reducible assumption) | (intro _) | (with_reducible apply permanentRecord_keeps)
    | (with_reducible apply rePlace_keeps) | (split) | (dsimp only))

theorem permanentUnit_keeps {s0 : State} {r : FaultRec} {s : State} (hs : Keeps s0 s) : Keeps s0 (permanentUnit r s) := by
  unfold permanentUnit
  repeat' (first
    | (with_reducible assumption) | (intro _) | (with_reducible apply Keeps.ite)
    | (with_reducible apply permanentRecord_keeps) | (with_reducible apply State.setField_keeps)
    | (with_reducible apply rePlace_keeps) | (split) | (dsimp only))

theorem permanentAction_keeps {s0 : State} {r : FaultRec} {s : State} (hs : Keeps s0 s) : Keeps s0 (permanentAction r s) := by
  unfold permanentAction
  repeat' (first
    | (with_reducible assumption) | (intro _) | (with_reducible apply Keeps.ite)
    | (with_reducible apply permanentRecord_keeps) | (with_reducible apply reRoute_keeps)
    | (with_reducible apply storeDefect_keeps) | (with_reducible apply noteAt_keeps)
    | (with_reducible apply State.set_keeps) | (with_reducible apply permanentLink_keeps)
    | (with_reducible apply permanentUnit_keeps) | (with_reducible apply rePlace_keeps)
    | (with_reducible apply raiseFault_keeps) | (split) | (dsimp only))

theorem repeatCheck_keeps {s0 : State} {idx : Nat} {again : Bool} {s : State} (hs : Keeps s0 s)
    : Keeps s0 (repeatCheck idx again s) := by
  unfold repeatCheck
  repeat' (first
    | (with_reducible assumption) | (intro _) | (with_reducible apply Keeps.ite) | (with_reducible apply Keeps.forEach)
    | (with_reducible apply endCheck_keeps) | (with_reducible apply reread_keeps) | (with_reducible apply markRecord_keeps)
    | (with_reducible apply permanentAction_keeps) | (with_reducible apply sentinelResidue_keeps)
    | (simp only [↓Keeps.upd_iff]) | (split) | (dsimp only))

theorem genDue_keeps {s0 : State} {s : State} (hs : Keeps s0 s) : Keeps s0 (genDue s) := by
  unfold genDue
  repeat' (first
    | (with_reducible assumption) | (intro _) | (with_reducible apply Keeps.ite) | (with_reducible apply Keeps.foldl)
    | (with_reducible apply Keeps.foldl_snd) | (with_reducible apply Keeps.foldl_third)
    | (with_reducible apply genApply_keeps) | (simp only [↓Keeps.upd_iff]) | (split) | (dsimp only))

end Sys2Proof.Machine
end

