-- ==== Sys2Proof/Laws/KeepsLosses.lean ====
section
/-!
SUPPORT. Laws/KeepsLosses.lean: each state transformer of Machine/Losses.lean keeps what `Keeps` says: the queue of waiting
commands, what was emitted, the counter of free values, the canonical form of every table.
-/
set_option linter.unusedTactic false
set_option linter.unreachableTactic false
set_option linter.unusedSimpArgs false
namespace Sys2Proof.Machine

theorem currentLimitTrip_keeps {s0 : State} {d : Nat} {s : State} (hs : Keeps s0 s) : Keeps s0 (currentLimitTrip d s) := by
  unfold currentLimitTrip
  repeat' (first
    | (with_reducible assumption) | (intro _) | (with_reducible apply Keeps.ite) | (with_reducible apply makeHole_keeps)
    | (with_reducible apply domainOff_keeps) | (with_reducible apply handOver_keeps)
    | (with_reducible apply raiseFault_keeps) | (with_reducible apply requestWake_keeps) | (split) | (dsimp only))

theorem scarabFailover_keeps {s0 : State} {f : Nat} {s : State} (hs : Keeps s0 s) : Keeps s0 (scarabFailover f s) := by
  unfold scarabFailover
  repeat' (first
    | (with_reducible assumption) | (intro _) | (with_reducible apply Keeps.ite) | (with_reducible apply handOver_keeps)
    | (with_reducible apply raiseAs_keeps) | (with_reducible apply rePlace_keeps) | (split) | (dsimp only))

theorem softStarted_keeps {s0 : State} {d : Nat} {s : State} (hs : Keeps s0 s) : Keeps s0 (softStarted d s) := by
  unfold softStarted
  repeat' (first
    | (with_reducible assumption) | (intro _) | (with_reducible apply Keeps.ite) | (with_reducible apply State.set_keeps)
    | (with_reducible apply measureBranch_keeps) | (with_reducible apply Keeps.forEach)
    | (with_reducible apply requestWake_keeps) | (with_reducible apply zeroField_keeps)
    | (with_reducible apply makePassable_keeps) | (with_reducible apply setDefer_keeps)
    | (with_reducible apply endDomainOn_keeps) | (split) | (dsimp only))

theorem loseField_keeps {s0 : State} {f : Nat} {rec : Nat} {s : State} (hs : Keeps s0 s) : Keeps s0 (loseField f rec s) := by
  unfold loseField
  repeat' (first
    | (with_reducible assumption) | (intro _) | (with_reducible apply Keeps.ite) | (with_reducible apply powerOut_keeps)
    | (with_reducible apply newDefect_keeps) | (with_reducible apply rePlace_keeps) | (split) | (dsimp only))

theorem softStartCheck_keeps {s0 : State} {d : Nat} {ok : Bool} {s : State} (hs : Keeps s0 s)
    : Keeps s0 (softStartCheck d ok s) := by
  unfold softStartCheck
  repeat' (first
    | (with_reducible assumption) | (intro _) | (with_reducible apply Keeps.ite) | (with_reducible apply softStarted_keeps)
    | (with_reducible apply enter_keeps) | (with_reducible apply holdAt_keeps) | (with_reducible apply State.set_keeps)
    | (with_reducible apply setDefer_keeps) | (with_reducible apply endDomainOn_keeps)
    | (with_reducible apply raiseAs_keeps) | (with_reducible apply loseField_keeps) | (split) | (dsimp only))

end Sys2Proof.Machine
end

