-- ==== Sys2Proof/Laws/KeepsScpEvents.lean ====
section
/-!
SUPPORT. Laws/KeepsScpEvents.lean: each state transformer of Machine/ScpEvents.lean keeps what `Keeps` says: the queue of waiting
commands, what was emitted, the counter of free values, the canonical form of every table.
-/
set_option linter.unusedTactic false
set_option linter.unreachableTactic false
set_option linter.unusedSimpArgs false
namespace Sys2Proof.Machine

theorem settleWork_keeps {s0 : State} {st : Nat} {w : Work} {s : State} (hs : Keeps s0 s) : Keeps s0 (settleWork st w s) := by
  unfold settleWork
  repeat' (first
    | (with_reducible assumption) | (intro _) | (with_reducible apply Keeps.ite) | (with_reducible apply undoCreate_keeps)
    | (with_reducible apply releasePart_keeps) | (with_reducible apply setChanging_keeps) | (split) | (dsimp only))

theorem migrateStep_keeps {s0 : State} {p : Nat} {gone : Nat} {b : Fet} {s : State} (hs : Keeps s0 s)
    : Keeps s0 (migrateStep p gone b s).2 := by
  unfold migrateStep
  repeat' (first
    | (with_reducible assumption) | (intro _) | (with_reducible apply Keeps.ite)
    | (with_reducible apply migratePhase2_keeps) | (split) | (dsimp only))

theorem finishWork_keeps {s0 : State} {j : Job} {s : State} (hs : Keeps s0 s) : Keeps s0 (finishWork j s).2 := by
  unfold finishWork
  repeat' (first
    | (with_reducible assumption) | (intro _) | (with_reducible apply Keeps.ite) | (with_reducible apply releasePart_keeps)
    | (with_reducible apply loadPlan_keeps) | (with_reducible apply finishMoveIn_keeps)
    | (with_reducible apply finishMoveOut_keeps) | (with_reducible apply finishMoveAcross_keeps)
    | (with_reducible apply restoreSlot_keeps) | (with_reducible apply migrateStep_keeps) | (split) | (dsimp only))

theorem complete_keeps {s0 : State} {src : Source} {seq : BitVec 32} {s : State} (hs : Keeps s0 s)
    : Keeps s0 (complete src seq s) := by
  unfold complete
  repeat' (first
    | (with_reducible assumption) | (intro _) | (with_reducible apply Keeps.ite)
    | (with_reducible apply postCompletion_keeps) | (with_reducible apply settleWork_keeps)
    | (with_reducible apply finishWork_keeps) | (split) | (dsimp only))

theorem queueExpiry_keeps {s0 : State} {src : Source} {s : State} (hs : Keeps s0 s) : Keeps s0 (queueExpiry src s) := by
  unfold queueExpiry
  repeat' (first
    | (with_reducible assumption) | (intro _) | (with_reducible apply Keeps.ite) | (simp only [↓Keeps.upd_iff]) | (split)
    | (dsimp only))

end Sys2Proof.Machine
end

