-- ==== Sys2Proof/Laws/KeepsScpIdent.lean ====
section
/-!
SUPPORT. Laws/KeepsScpIdent.lean: each state transformer of Machine/ScpIdent.lean keeps what `Keeps` says: the queue of waiting
commands, what was emitted, the counter of free values, the canonical form of every table.
-/
set_option linter.unusedTactic false
set_option linter.unreachableTactic false
set_option linter.unusedSimpArgs false
namespace Sys2Proof.Machine

theorem badOpcodeOp_keeps {s0 : State} {opcode : BitVec 8} {t : State} (hs : Keeps s0 t)
    : AnsKeeps s0 ((badOpcodeOp opcode).body t) := by
  unfold badOpcodeOp
  dsimp only
  repeat' (first
    | (with_reducible assumption) | (intro _) | (with_reducible apply AnsKeeps.ite) | (with_reducible apply AnsKeeps.done)
    | (with_reducible apply AnsKeeps.later) | (with_reducible apply AnsKeeps.silent)
    | (with_reducible apply AnsKeeps.decided) | (with_reducible apply AnsKeeps.doneThen)
    | (with_reducible apply AnsKeeps.retry) | (split) | (dsimp only))

theorem nopOp_keeps {s0 : State}  {t : State} (hs : Keeps s0 t) : AnsKeeps s0 ((nopOp).body t) := by
  unfold nopOp
  dsimp only
  repeat' (first
    | (with_reducible assumption) | (intro _) | (with_reducible apply AnsKeeps.ite) | (with_reducible apply AnsKeeps.done)
    | (with_reducible apply AnsKeeps.later) | (with_reducible apply AnsKeeps.silent)
    | (with_reducible apply AnsKeeps.decided) | (with_reducible apply AnsKeeps.doneThen)
    | (with_reducible apply AnsKeeps.retry) | (split) | (dsimp only))

theorem identifyOp_keeps {s0 : State}  {t : State} (hs : Keeps s0 t) : AnsKeeps s0 ((identifyOp).body t) := by
  unfold identifyOp
  dsimp only
  repeat' (first
    | (with_reducible assumption) | (intro _) | (with_reducible apply AnsKeeps.ite) | (with_reducible apply AnsKeeps.done)
    | (with_reducible apply AnsKeeps.later) | (with_reducible apply AnsKeeps.silent)
    | (with_reducible apply AnsKeeps.decided) | (with_reducible apply AnsKeeps.doneThen)
    | (with_reducible apply AnsKeeps.retry) | (split) | (dsimp only))

theorem negotiate_keeps {s0 : State} {r : Request} {s : State} (hs : Keeps s0 s) : AnsKeeps s0 (negotiate r s) := by
  unfold negotiate
  repeat' (first
    | (with_reducible assumption) | (intro _) | (with_reducible apply Keeps.ite) | (with_reducible apply AnsKeeps.ite)
    | (with_reducible apply AnsKeeps.done) | (with_reducible apply AnsKeeps.later) | (with_reducible apply AnsKeeps.silent)
    | (with_reducible apply AnsKeeps.decided) | (with_reducible apply AnsKeeps.doneThen)
    | (with_reducible apply AnsKeeps.retry) | (with_reducible apply setVer_keeps) | (split) | (dsimp only))

theorem negotiateOp_keeps {s0 : State} {r : Request} {t : State} (hs : Keeps s0 t) : AnsKeeps s0 ((negotiateOp r).body t) := by
  unfold negotiateOp
  dsimp only
  repeat' (first
    | (with_reducible assumption) | (intro _) | (with_reducible apply AnsKeeps.ite) | (with_reducible apply AnsKeeps.done)
    | (with_reducible apply AnsKeeps.later) | (with_reducible apply AnsKeeps.silent)
    | (with_reducible apply AnsKeeps.decided) | (with_reducible apply AnsKeeps.doneThen)
    | (with_reducible apply AnsKeeps.retry) | (with_reducible apply negotiate_keeps) | (split) | (dsimp only))

theorem timeQueryOp_keeps {s0 : State} {r : Request} {t : State} (hs : Keeps s0 t) : AnsKeeps s0 ((timeQueryOp r).body t) := by
  unfold timeQueryOp
  dsimp only
  repeat' (first
    | (with_reducible assumption) | (intro _) | (with_reducible apply AnsKeeps.ite) | (with_reducible apply AnsKeeps.done)
    | (with_reducible apply AnsKeeps.later) | (with_reducible apply AnsKeeps.silent)
    | (with_reducible apply AnsKeeps.decided) | (with_reducible apply AnsKeeps.doneThen)
    | (with_reducible apply AnsKeeps.retry) | (split) | (dsimp only))

theorem partQueryOp_keeps {s0 : State} {r : Request} {t : State} (hs : Keeps s0 t) : AnsKeeps s0 ((partQueryOp r).body t) := by
  unfold partQueryOp
  dsimp only
  repeat' (first
    | (with_reducible assumption) | (intro _) | (with_reducible apply AnsKeeps.ite) | (with_reducible apply AnsKeeps.done)
    | (with_reducible apply AnsKeeps.later) | (with_reducible apply AnsKeeps.silent)
    | (with_reducible apply AnsKeeps.decided) | (with_reducible apply AnsKeeps.doneThen)
    | (with_reducible apply AnsKeeps.retry) | (with_reducible apply State.set_keeps) | (split) | (dsimp only))

end Sys2Proof.Machine
end

