-- ==== Sys2Proof/Laws/KeepsScpParts.lean ====
section
/-!
SUPPORT. Laws/KeepsScpParts.lean: each state transformer of Machine/ScpParts.lean keeps what `Keeps` says: the queue of waiting
commands, what was emitted, the counter of free values, the canonical form of every table.
-/
set_option linter.unusedTactic false
set_option linter.unreachableTactic false
set_option linter.unusedSimpArgs false
namespace Sys2Proof.Machine

theorem tryC_keeps {s0 s t : State} {p : Nat} {b : List Byte} (h : Keeps s0 s) (e : tryC p b s = some t) : Keeps s0 t := by
  simp only [tryC] at e
  split at e
  · cases e
  · cases e; exact placeC_keeps h

theorem tryP_keeps {s0 s t : State} {p : Nat} {b : List Byte} (h : Keeps s0 s) (e : tryP p b s = some t) : Keeps s0 t := by
  simp only [tryP] at e
  split at e
  · cases e
  · cases e; exact placeP_keeps h

theorem foldl_some_keeps {s0 : State} {g : Nat → State → Option State} (k : ∀ i s t, Keeps s0 s → g i s = some t → Keeps s0 t)
    {l : List Nat} {o : Option State} {t : State} (h : ∀ s, o = some s → Keeps s0 s)
    (e : l.foldl (fun o i => o.bind (g i)) o = some t) : Keeps s0 t := by
  induction l generalizing o with
  | nil => exact h t e
  | cons i l ih =>
    refine ih (fun s hs => ?_) e
    cases o with
    | none => cases hs
    | some u => exact k i u s (h u rfl) hs

theorem placeRegions_keeps {s0 s t : State} {p : Nat} {r : Request} (h : Keeps s0 s) (e : placeRegions p r s = some t) :
    Keeps s0 t := by
  simp only [placeRegions] at e
  refine foldl_some_keeps (fun i s t => tryP_keeps) (fun u hu => ?_) e
  refine foldl_some_keeps (fun i s t => tryC_keeps) (fun v hv => ?_) hu
  cases hv
  exact h

theorem stageShare_keeps {s0 : State} {p : Nat} {share : Nat} {s : State} (hs : Keeps s0 s)
    : Keeps s0 (stageShare p share s) := by
  unfold stageShare
  repeat' (first
    | (with_reducible assumption) | (intro _) | (with_reducible apply State.set_keeps)
    | (with_reducible apply State.setPart_keeps) | (split) | (dsimp only))

theorem ownFields_keeps {s0 : State} {p : Nat} {m : Nat} {r : Request} {s : State} (hs : Keeps s0 s)
    : Keeps s0 (ownFields p m r s) := by
  unfold ownFields
  repeat' (first
    | (with_reducible assumption) | (intro _) | (with_reducible apply setPartMask_keeps)
    | (with_reducible apply State.set_keeps) | (with_reducible apply Keeps.forEach)
    | (with_reducible apply lowerToLimit_keeps) | (split) | (dsimp only))

theorem partCreate_keeps {s0 s : State} {r : Request} (h : Keeps s0 s) : AnsKeeps s0 (partCreate r s) := by
  simp only [partCreate]
  split
  · split
    · exact .retry
    · exact .done h
  · split
    · exact .done h
    · next e => exact .later (stageShare_keeps (ownFields_keeps (setChanging_keeps (setPartState_keeps
        (scaleBudgets_keeps (State.set_keeps (placeRegions_keeps h e)))))))

theorem partCreateOp_keeps {s0 : State} {r : Request} {s : State} {t : State} (hs : Keeps s0 t)
    : AnsKeeps s0 ((partCreateOp r s).body t) := by
  unfold partCreateOp
  dsimp only
  repeat' (first
    | (with_reducible assumption) | (intro _) | (with_reducible apply AnsKeeps.ite) | (with_reducible apply AnsKeeps.done)
    | (with_reducible apply AnsKeeps.later) | (with_reducible apply AnsKeeps.silent)
    | (with_reducible apply AnsKeeps.decided) | (with_reducible apply AnsKeeps.doneThen)
    | (with_reducible apply AnsKeeps.retry) | (with_reducible apply partCreate_keeps) | (split) | (dsimp only))

theorem partDestroy_keeps {s0 : State} {p : Nat} {s : State} (hs : Keeps s0 s) : AnsKeeps s0 (partDestroy p s) := by
  unfold partDestroy
  repeat' (first
    | (with_reducible assumption) | (intro _) | (with_reducible apply Keeps.ite) | (with_reducible apply AnsKeeps.ite)
    | (with_reducible apply AnsKeeps.done) | (with_reducible apply AnsKeeps.later) | (with_reducible apply AnsKeeps.silent)
    | (with_reducible apply AnsKeeps.decided) | (with_reducible apply AnsKeeps.doneThen)
    | (with_reducible apply AnsKeeps.retry) | (with_reducible apply setChanging_keeps)
    | (with_reducible apply beginDestroy_keeps) | (split) | (dsimp only))

theorem partDestroyOp_keeps {s0 : State} {r : Request} {t : State} (hs : Keeps s0 t)
    : AnsKeeps s0 ((partDestroyOp r).body t) := by
  unfold partDestroyOp
  dsimp only
  repeat' (first
    | (with_reducible assumption) | (intro _) | (with_reducible apply AnsKeeps.ite) | (with_reducible apply AnsKeeps.done)
    | (with_reducible apply AnsKeeps.later) | (with_reducible apply AnsKeeps.silent)
    | (with_reducible apply AnsKeeps.decided) | (with_reducible apply AnsKeeps.doneThen)
    | (with_reducible apply AnsKeeps.retry) | (with_reducible apply partDestroy_keeps) | (split) | (dsimp only))

theorem installKeys_keeps {s0 : State} {p : Nat} {r : Request} {s : State} (hs : Keeps s0 s)
    : Keeps s0 (installKeys p r s) := by
  unfold installKeys
  repeat' (first
    | (with_reducible assumption) | (intro _) | (with_reducible apply Keeps.ite)
    | (with_reducible apply State.setPart_keeps) | (with_reducible apply Keeps.forEach)
    | (with_reducible apply setKeyBit_keeps) | (split) | (dsimp only))

theorem keyInstallOp_keeps {s0 : State} {r : Request} {t : State} (hs : Keeps s0 t)
    : AnsKeeps s0 ((keyInstallOp r).body t) := by
  unfold keyInstallOp
  dsimp only
  repeat' (first
    | (with_reducible assumption) | (intro _) | (with_reducible apply Keeps.ite) | (with_reducible apply AnsKeeps.ite)
    | (with_reducible apply AnsKeeps.done) | (with_reducible apply AnsKeeps.later) | (with_reducible apply AnsKeeps.silent)
    | (with_reducible apply AnsKeeps.decided) | (with_reducible apply AnsKeeps.doneThen)
    | (with_reducible apply AnsKeeps.retry) | (with_reducible apply installKeys_keeps) | (split) | (dsimp only))

end Sys2Proof.Machine
end

