-- ==== Sys2Proof/Laws/KeepsServe.lean ====
section
/-!
SUPPORT. Laws/KeepsServe.lean: each state transformer of Machine/Serve.lean keeps what `Keeps` says: the queue of waiting
commands, what was emitted, the counter of free values, the canonical form of every table.
-/
set_option linter.unusedTactic false
set_option linter.unreachableTactic false
set_option linter.unusedSimpArgs false
namespace Sys2Proof.Machine

theorem scarabOp_keeps {s0 s : State} {i : Instr} {x : ScpOp × Request} (e : scarabOp s i = some x) :
    ∀ t, Keeps s0 t → AnsKeeps s0 (x.1.body t) := by
  intro t h
  unfold scarabOp at e
  split at e
  · cases e; exact nopOp_keeps h
  · cases e; exact identifyOp_keeps h
  · cases e; exact negotiateOp_keeps h
  · cases e; exact timeQueryOp_keeps h
  · cases e; exact partCreateOp_keeps h
  · cases e; exact partDestroyOp_keeps h
  · cases e; exact partQueryOp_keeps h
  · cases e; exact keyInstallOp_keeps h
  · cases e; exact planLoadOp_keeps h
  · cases e; exact planBindOp_keeps h
  · cases e; exact planStartOp_keeps h
  · cases e; exact planStopGracefulOp_keeps h
  · cases e; exact planStopImmediateOp_keeps h
  · cases e; exact stepArmOp_keeps h
  · cases e; exact stepCommitOp_keeps h
  · cases e; exact moveIntoTierOp_keeps h
  · cases e; exact moveOutOfTierOp_keeps h
  · cases e; exact queueConfigOp_keeps h
  · cases e; exact ckptWriteOp_keeps h
  · cases e; exact ckptRestoreOp_keeps h
  · cases e; exact migrateOp_keeps h
  · cases e; exact mapUpdateOp_keeps h
  · cases e; exact cfgStageOp_keeps h
  · cases e; exact cfgCommitOp_keeps h
  · cases e; exact envelopeSetOp_keeps h
  · cases e; exact envelopeSetBudgetOp_keeps h
  · cases e; exact faultQueryOp_keeps h
  · cases e; exact faultInjectOp_keeps h
  · cases e; exact faultClearOp_keeps h
  · cases e; exact sentinelRunOp_keeps h
  · split at e
    · cases e
    · cases e; exact badOpcodeOp_keeps h
  · cases e

theorem release_keeps {s0 : State} {src : Source} {s : State} (hs : Keeps s0 s) : Keeps s0 (release src s) := by
  unfold release
  dsimp only
  split
  · exact hs
  · refine Keeps.foldl (State.putQueue_keeps hs) (fun t i h => ?_)
    split
    · next e => exact serve_keeps h (scarabOp_keeps e)
    · exact h

theorem chitinOp_keeps {s0 : State} {i : Instr} {x : ScpOp × Request} (e : chitinOp i = some x) :
    ∀ t, Keeps s0 t → AnsKeeps s0 (x.1.body t) := by
  intro t h
  unfold chitinOp at e
  split at e
  · cases e; exact quenchPartitionOp_keeps h
  · cases e; exact quenchModuleOp_keeps h
  · cases e; exact powerDomainOffOp_keeps h
  · cases e; exact powerDomainOnOp_keeps h
  · cases e; exact powerDomainModuleOffOp_keeps h
  · cases e; exact resetWarmReinitOp_keeps h
  · cases e; exact resetModuleOp_keeps h
  · cases e; exact resetPinSafeOp_keeps h
  · cases e

theorem frameRequest_keeps {s0 : State} {n : Fin 64} {fr : Frame} {s : State} (hs : Keeps s0 s) :
    Keeps s0 (frameRequest n fr s) := by
  unfold frameRequest
  split
  · exact hs
  · dsimp only
    split
    · next e => exact scarab_keeps hs (scarabOp_keeps e)
    · next e => exact chitin_keeps hs (chitinOp_keeps e)
    · exact hs

end Sys2Proof.Machine
end

