-- ==== Sys2Proof/Laws/KeepsTick.lean ====
section
/-!
SUPPORT. Laws/KeepsTick.lean: each state transformer of Machine/Tick.lean keeps what `Keeps` says: the queue of waiting
commands, what was emitted, the counter of free values, the canonical form of every table.
-/
set_option linter.unusedTactic false
set_option linter.unreachableTactic false
set_option linter.unusedSimpArgs false
namespace Sys2Proof.Machine

theorem refillTokens_keeps {s0 : State} {s : State} (hs : Keeps s0 s) : Keeps s0 (refillTokens s) := by
  unfold refillTokens
  repeat' (first
    | (with_reducible assumption) | (intro _) | (with_reducible apply Keeps.ite) | (with_reducible apply State.set_keeps)
    | (split) | (dsimp only))

theorem tick_keeps {s0 : State} {s : State} (hs : Keeps s0 s) : Keeps s0 (tick s) := by
  unfold tick
  repeat' (first
    | (with_reducible assumption) | (intro _) | (with_reducible apply Keeps.ite) | (with_reducible apply genDue_keeps)
    | (with_reducible apply growEst_keeps) | (with_reducible apply retainedOn_keeps) | (with_reducible apply slewAll_keeps)
    | (with_reducible apply liftInput_keeps) | (with_reducible apply refillTokens_keeps) | (simp only [↓Keeps.upd_iff])
    | (split) | (dsimp only))

end Sys2Proof.Machine
end

