-- ==== Sys2Proof/WellFormed.lean ====
section
/-!
DEFINITION. WellFormed.lean: the operands a command of the table can carry. A row that is one kind of a request or one bit of
a register carries that kind, that bit; a frame's fields have their widths (Table 09.3); a width is one a bus has.
Meanings do not assume it: they answer a next state for every term.
-/
namespace Sys2Proof

/-- The first parameter byte of a request names its kind (MODE, DIR, KIND, SCOPE, ACTION). -/
def kindIs (r : Request) (k : Nat) : Bool := (r.params.getD 0 0).toNat == k

/-- A PCI Express path reaches the queue pages of its own endpoint (R399). -/
def pathEp : Path → Fin 2 → Bool
  | .pf e, ep => e == ep
  | .vf e _, ep => e == ep
  | .datagram .., _ | .snl _, _ | .rackBus, _ => true

/-- The header fields of a frame keep their widths (Table 09.3). -/
def Frame.wf (fr : Frame) : Bool :=
  decide (fr.ver < 16) && decide (fr.cls < 16) && decide (fr.part < 8) && decide (fr.gen < 256) && decide (fr.epoch < 65536)
    && decide (fr.digest < 65536) && decide (fr.tag < 16777216) && decide (fr.dst < 1048576) && decide (fr.src < 1048576)
    && decide (fr.seq < 4096) && decide (fr.crc < 4294967296) && decide (fr.mac.length ≤ 12)

/-- What reaches an ERU: a frame of a class it takes, or a field's packet. -/
def EruIn.wf : EruIn → Bool
  | .frame fr => Frame.wf fr && (fr.cls == 1 || fr.cls == 5)
  | .mesh _ | .outbound .. => true

/-- A notice's fields keep their widths (R471). -/
def Notice.wf (n : Notice) : Bool :=
  decide (n.kind < 256) && decide (n.part < 256) && decide (n.origin < 16777216) && decide (n.index < 4294967296)
    && decide (n.gen < 256)

/-- A fault names a partition, lanes and a collector that exist (Tables 15.2, 15.3). -/
def FaultEvent.wf (ev : FaultEvent) : Bool :=
  decide (ev.part < 8) && decide (ev.lanes < 16) && decide (ev.collector < 109) && decide (ev.code < 65536)
    && decide (ev.inst < 256) && decide (ev.detail.length ≤ 14)

/-- Access widths a bus can carry, in bytes (R15). -/
def widthOk (n : Nat) : Bool := n == 1 || n == 2 || n == 4 || n == 8

/-- The opcodes the command protocol defines (12_command_protocol). -/
def opKnown (op : Nat) : Bool :=
  [0x00, 0x01, 0x02, 0x08, 0x10, 0x11, 0x12, 0x18, 0x20, 0x21, 0x22, 0x23, 0x28, 0x29, 0x30, 0x31, 0x38, 0x39, 0x40, 0x41,
   0x48, 0x49, 0x50, 0x58, 0x59, 0x5a, 0x60, 0x70, 0x71, 0x7f].contains op

/-- A command of the table. -/
def Instr.wf (i : Instr) : Bool :=
  match i with
  | .planStopGraceful r | .moveIntoTier r _ | .envelopeSet r | .quenchPartition r | .powerDomainOff r
  | .resetWarmReinit r => kindIs r 0
  | .planStopImmediate r | .moveOutOfTier r | .envelopeSetBudget r | .quenchModule r | .powerDomainOn r
  | .resetModule r => kindIs r 1
  | .powerDomainModuleOff r | .resetPinSafe r => kindIs r 2
  | .sqTailDoorbell via ep _ _ _ | .cqHeadDoorbell via ep _ _ _ => pathEp via ep
  | .queueEnable via ep _ value => pathEp via ep && value.getLsbD 0
  | .buGo _ value | .clkCtrlArm _ _ value => value.getLsbD 8
  | .buAbort _ value => value.getLsbD 9
  | .rstPinMaskSet _ value | .celSpArm _ _ _ value | .fldCntClear _ _ value | .mshInjectArm _ _ value
  | .mshCntClear _ _ value | .vltNCntClear _ _ value | .vltCntClear _ _ value | .eruInjectArm _ _ value
  | .updCntClear _ _ value | .snlInjectArm _ _ value | .pwrCntClear _ value | .fltInjectArm _ value
  | .mgrDriveAbort _ value => value.getLsbD 0
  | .defectAdd _ value => value.getLsbD 12
  | .defectPurge _ value => value.getLsbD 13
  | .cicadaReceive _ hdr frame _ => Frame.wf hdr && hdr.cls == 3 && decide (frame.seq < 65536)
  | .timFetLoRead _ r | .drawPeakRead _ r => widthOk r.bytes && decide (r.off < 16777216)
  | .celFuClear _ _ _ value | .snlRetrainRequest _ _ value | .handback _ value _ _ _ => value.getLsbD 2
  | .celSpZero _ _ _ value | .celResArm _ _ _ value | .vltNInject _ _ value | .vltCInject _ _ value
  | .eruCntClear _ _ value | .vminClear _ value | .fltCntClear _ value | .bringUpDrive _ value => value.getLsbD 1
  | .celCntClear _ _ _ value | .portRetry _ _ value => value.getLsbD 3
  | .eruInputArrival _ inp _ => EruIn.wf inp
  | .abstainNoticeReceive _ fr | .busyFrameReceive _ fr => Frame.wf fr && fr.cls == 2
  | .stateDigestReceive _ fr | .configDigestReceive _ fr => Frame.wf fr && fr.cls == 6
  | .dataFrameReceive _ fr => Frame.wf fr && fr.cls == 0
  | .frameForward _ fr => Frame.wf fr
  | .fireflyReceive _ hdr fr => Frame.wf hdr && hdr.cls == 4 && decide (fr.coord < 131072)
  | .managementFrameReceive _ fr => Frame.wf fr && fr.cls == 7
  | .faultCapture ev => FaultEvent.wf ev
  | .quenchNoticeReceive _ hdr n => Frame.wf hdr && hdr.cls == 2 && Notice.wf n && n.kind == 0
  | .genNoticeReceive _ hdr n => Frame.wf hdr && hdr.cls == 2 && Notice.wf n && n.kind == 1
  | .proxyForward _ _ pre _ _ _ => pre.mode != 1
  | .proxyRingCommit _ _ pre _ _ _ => pre.mode == 1
  | .regAccessDatagram _ _ payload => decide (16 ≤ payload.length)
  | .registerWrite _ off bytes _ => widthOk bytes && decide (off < 16777216)
  | .badOpcodeRequest _ opcode => !opKnown opcode.toNat
  | .nop _ | .identify _ | .negotiate _ | .timeQuery _ | .partCreate _ | .partDestroy _ | .partQuery _ | .keyInstall _
  | .planLoad _ _ | .planBind _ | .planStart _ | .stepArm _ | .stepCommit _ | .queueConfig _ | .ckptWrite _
  | .ckptRestore _ | .migrate _ | .mapUpdate _ | .cfgStage _ | .cfgCommit _ | .faultQuery _ | .faultInject _
  | .faultClear _ | .sentinelRun _ | .commandCompletion _ _ | .systemScarabFailover _ | .mgmtQueueExpiry _ _
  | .chitinPowerUp _ _ _ | .buStepComplete _ | .rstLAssert | .rstLRelease | .resetStuck | .strapSample _ _
  | .pwrEnDeassert _ | .refPpsEdge _ _ | .ptpExchange _ | .ptpMessageTimeout | .refQualified _ _ | .refLost _ _ _
  | .provisionalTimeout _ | .disciplineSample _ | .switchComplete _ | .revertTimer _ _ | .ovenStable | .holdoverLearned
  | .holdLimitExceeded | .cicadaSend _ | .opChangeDue _ | .opVoltageReady _ | .bundleIssue _ _ | .stepBundle _ _
  | .gateDue _ _ | .loopEnd _ _ | .endBundle _ _ | .moveBundle _ _ | .sentinelBundle _ _ | .sentSigCompare _ _
  | .reserveSentinelTile _ _ _ | .cellRepetitionBegin _ _ _ _ | .slotBegin _ _ _ _ | .slotEnd _ _ _ _
  | .microOpIssue _ _ _ _ _ _ | .scratchpadAccessGrant _ _ _ _ _ | .arrivalRecord _ _ _ | .guardExpiry _ _ _
  | .scratchpadZeroDone _ _ | .packetInject _ _ | .packetHop _ _ | .packetReceive _ | .busyReceive _
  | .retryBackoffExpiry _ _ _ | .retryRecordLapse _ _ _ | .mapActivation | .drainWindowEnd | .descriptorStart _ _
  | .moverAccessStart _ _ | .moverAccessComplete _ _ _ | .descriptorComplete _ _ | .tierAckArrival _ _ _
  | .tierNZeroDone _ | .patrolScrub _ _ _ | .ckptEpoch _ | .segmentSave _ | .copyOnWrite _ _ _ | .ckptCompletionRecord _
  | .journalStagingFlush | .eruBusyResend _ _ | .eruSlotDeadline _ _ _ | .eruResultDeadline _ _ _ | .verdictTime _ _ _
  | .eruSchedWrite _ _ _ _ _ | .resultDelivery _ | .groupUpdate _ _ | .clipPhase2 _ | .stateDigest _ | .digestTimeout _
  | .updGCfgWrite _ _ _ _ | .lcwReceive _ _ | .blockTransmit _ | .fireflySend _ | .configDigestSend _ | .partnerLost _
  | .wakeBurst _ | .portEnable _ _ _ | .partnerSignalDetect _ | .blockLock _ | .detectTimeout _ | .trainConverged _
  | .qualifyWindowEnd _ _ _ | .negotiateComplete _ _ | .retrainLinkmsg _ _ _ | .retrainWindowStart _
  | .retrainComplete _ _ _ _ | .retrainSearchTimeout _ | .marginMonitorArm _ | .marginWindow _ _ | .rateChangeProposal _
  | .rateChange _ | .configCommitDue _ | .partitionPowerWindow _ _ | .modulePowerWindow _ | .envelopeBreakpoint
  | .ballastDutyUpdate _ _ | .quenchReached _ | .mainInputCondition _ | .inputLoss _ | .journalFlushComplete
  | .aux12vLoss | .converterFault _ | .voltageSample _ _ | .tokenAdmission | .softStartCheck _ _ | .softStartRetry _
  | .currentLimitTrip _ | .holdupStateChange _ _ _ | .estimatorDisagree _ _ | .holdupCalibration _ _ | .thermalWindow _
  | .overtempTrip _ | .coolantOkDeassert | .leakDetAssert | .rerun _ | .repeatCheckComplete _ _ | .faultInjectDue
  | .drivePhaseComplete _ _ | .healthPoll _ | .fireflyMiss | .standbyTakeover _ _ | .managerYield _ _ _
  | .mgmtBaseWrite _ _ | .arpIcmpRequest _ _ _ | .perstAssert _ | .functionLevelReset _ _ | .regRead _ | .regWrite _ _ _
  | .summary | .lastStatus | .alertResponse | .smbusTimeout | .tapInstruction _ | .tapReset | .chitinRailLoss
  | .perstRelease _ => true

end Sys2Proof
end

