-- ==== Sys2Proof/Laws/PerInstr.lean ====
section
/-!
SUPPORT. Laws/PerInstr.lean: a well-formed command that carries a frame carries one whose header fields keep their widths
(Table 09.3), one lemma per row of the table.
-/
namespace Sys2Proof.Laws.Operands

/-- The frame that a row carries, with its header. -/
def frameOf : Instr → Option Frame
  | .cicadaReceive _ fr _ _ => some fr
  | .abstainNoticeReceive _ fr => some fr
  | .stateDigestReceive _ fr => some fr
  | .dataFrameReceive _ fr => some fr
  | .frameForward _ fr => some fr
  | .busyFrameReceive _ fr => some fr
  | .fireflyReceive _ fr _ => some fr
  | .configDigestReceive _ fr => some fr
  | .managementFrameReceive _ fr => some fr
  | .quenchNoticeReceive _ fr _ => some fr
  | .genNoticeReceive _ fr _ => some fr
  | .eruInputArrival _ (.frame fr) _ => some fr
  | _ => none

/-- The header fields of the frame a well-formed command carries keep their widths. -/
def Statement (i : Instr) : Prop := i.wf = true → ∀ fr, frameOf i = some fr → Frame.wf fr = true

theorem none_carried {i : Instr} (h : frameOf i = none) : Statement i := by intro _ fr e; rw [h] at e; cases e

theorem carried {i : Instr} {fr : Frame} (h : frameOf i = some fr) (k : i.wf = true → Frame.wf fr = true) : Statement i := by
  intro w f e; rw [h] at e; cases e; exact k w

theorem nop (r : Request) : Statement (.nop r) := none_carried rfl
theorem identify (r : Request) : Statement (.identify r) := none_carried rfl
theorem negotiate (r : Request) : Statement (.negotiate r) := none_carried rfl
theorem timeQuery (r : Request) : Statement (.timeQuery r) := none_carried rfl
theorem partCreate (r : Request) : Statement (.partCreate r) := none_carried rfl
theorem partDestroy (r : Request) : Statement (.partDestroy r) := none_carried rfl
theorem partQuery (r : Request) : Statement (.partQuery r) := none_carried rfl
theorem keyInstall (r : Request) : Statement (.keyInstall r) := none_carried rfl
theorem planLoad (r : Request) (data : List Byte) : Statement (.planLoad r data) := none_carried rfl
theorem planBind (r : Request) : Statement (.planBind r) := none_carried rfl
theorem planStart (r : Request) : Statement (.planStart r) := none_carried rfl
theorem planStopGraceful (r : Request) : Statement (.planStopGraceful r) := none_carried rfl
theorem planStopImmediate (r : Request) : Statement (.planStopImmediate r) := none_carried rfl
theorem stepArm (r : Request) : Statement (.stepArm r) := none_carried rfl
theorem stepCommit (r : Request) : Statement (.stepCommit r) := none_carried rfl
theorem moveIntoTier (r : Request) (data : List Byte) : Statement (.moveIntoTier r data) := none_carried rfl
theorem moveOutOfTier (r : Request) : Statement (.moveOutOfTier r) := none_carried rfl
theorem queueConfig (r : Request) : Statement (.queueConfig r) := none_carried rfl
theorem ckptWrite (r : Request) : Statement (.ckptWrite r) := none_carried rfl
theorem ckptRestore (r : Request) : Statement (.ckptRestore r) := none_carried rfl
theorem migrate (r : Request) : Statement (.migrate r) := none_carried rfl
theorem mapUpdate (r : Request) : Statement (.mapUpdate r) := none_carried rfl
theorem cfgStage (r : Request) : Statement (.cfgStage r) := none_carried rfl
theorem cfgCommit (r : Request) : Statement (.cfgCommit r) := none_carried rfl
theorem envelopeSet (r : Request) : Statement (.envelopeSet r) := none_carried rfl
theorem envelopeSetBudget (r : Request) : Statement (.envelopeSetBudget r) := none_carried rfl
theorem faultQuery (r : Request) : Statement (.faultQuery r) := none_carried rfl
theorem faultInject (r : Request) : Statement (.faultInject r) := none_carried rfl
theorem faultClear (r : Request) : Statement (.faultClear r) := none_carried rfl
theorem sentinelRun (r : Request) : Statement (.sentinelRun r) := none_carried rfl
theorem quenchPartition (r : Request) : Statement (.quenchPartition r) := none_carried rfl
theorem quenchModule (r : Request) : Statement (.quenchModule r) := none_carried rfl
theorem powerDomainOff (r : Request) : Statement (.powerDomainOff r) := none_carried rfl
theorem powerDomainOn (r : Request) : Statement (.powerDomainOn r) := none_carried rfl
theorem powerDomainModuleOff (r : Request) : Statement (.powerDomainModuleOff r) := none_carried rfl
theorem resetWarmReinit (r : Request) : Statement (.resetWarmReinit r) := none_carried rfl
theorem resetModule (r : Request) : Statement (.resetModule r) := none_carried rfl
theorem resetPinSafe (r : Request) : Statement (.resetPinSafe r) := none_carried rfl
theorem commandCompletion (src : Source) (seq : BitVec 32) : Statement (.commandCompletion src seq) := none_carried rfl
theorem systemScarabFailover (f : Fin 88) : Statement (.systemScarabFailover f) := none_carried rfl
theorem sqTailDoorbell (via : Path) (ep : Fin 2) (q : Fin 8) (value : Word) (ringOk : Bool) : Statement (.sqTailDoorbell via ep q value ringOk) := none_carried rfl
theorem cqHeadDoorbell (via : Path) (ep : Fin 2) (q : Fin 8) (value : Word) (ringOk : Bool) : Statement (.cqHeadDoorbell via ep q value ringOk) := none_carried rfl
theorem queueEnable (via : Path) (ep : Fin 2) (q : Fin 8) (value : Word) : Statement (.queueEnable via ep q value) := none_carried rfl
theorem mgmtQueueExpiry (ip : Word) (port : BitVec 16) : Statement (.mgmtQueueExpiry ip port) := none_carried rfl
theorem chitinPowerUp (pins : Pins) (lockstepOk : Bool) (measured : Bool) : Statement (.chitinPowerUp pins lockstepOk measured) := none_carried rfl
theorem buGo (via : Path) (value : Word) : Statement (.buGo via value) := none_carried rfl
theorem buAbort (via : Path) (value : Word) : Statement (.buAbort via value) := none_carried rfl
theorem buStepComplete (rep : StepReport) : Statement (.buStepComplete rep) := none_carried rfl
theorem rstLAssert : Statement (.rstLAssert) := none_carried rfl
theorem rstLRelease : Statement (.rstLRelease) := none_carried rfl
theorem resetStuck : Statement (.resetStuck) := none_carried rfl
theorem rstPinMaskSet (via : Path) (value : Word) : Statement (.rstPinMaskSet via value) := none_carried rfl
theorem strapSample (role : Fin 4) (slot : Fin 64) : Statement (.strapSample role slot) := none_carried rfl
theorem pwrEnDeassert (rstToo : Bool) : Statement (.pwrEnDeassert rstToo) := none_carried rfl
theorem defectAdd (via : Path) (value : Word) : Statement (.defectAdd via value) := none_carried rfl
theorem defectPurge (via : Path) (value : Word) : Statement (.defectPurge via value) := none_carried rfl
theorem refPpsEdge (stampPs : Nat) (refClkOk : Bool) : Statement (.refPpsEdge stampPs refClkOk) := none_carried rfl
theorem ptpExchange (ev : PtpEvent) : Statement (.ptpExchange ev) := none_carried rfl
theorem ptpMessageTimeout : Statement (.ptpMessageTimeout) := none_carried rfl
theorem refQualified (code : Fin 5) (port : Fin 64) : Statement (.refQualified code port) := none_carried rfl
theorem refLost (code : Fin 5) (port : Fin 64) (clkLost : Bool) : Statement (.refLost code port clkLost) := none_carried rfl
theorem provisionalTimeout (code : Fin 5) : Statement (.provisionalTimeout code) := none_carried rfl
theorem disciplineSample (offsetPs : Int) : Statement (.disciplineSample offsetPs) := none_carried rfl
theorem switchComplete (residualPs : Int) : Statement (.switchComplete residualPs) := none_carried rfl
theorem revertTimer (code : Fin 5) (port : Fin 64) : Statement (.revertTimer code port) := none_carried rfl
theorem ovenStable : Statement (.ovenStable) := none_carried rfl
theorem holdoverLearned : Statement (.holdoverLearned) := none_carried rfl
theorem holdLimitExceeded : Statement (.holdLimitExceeded) := none_carried rfl
theorem cicadaSend (port : Fin 64) : Statement (.cicadaSend port) := none_carried rfl
theorem cicadaReceive (port : Fin 64) (hdr : Frame) (frame : CicadaFrame) (rxFetPs : Nat) : Statement (.cicadaReceive port hdr frame rxFetPs) := carried rfl (by intro h; simp [Instr.wf] at h; simp [h])
theorem clkCtrlArm (via : Path) (f : Fin 88) (value : Word) : Statement (.clkCtrlArm via f value) := none_carried rfl
theorem opChangeDue (f : Fin 88) : Statement (.opChangeDue f) := none_carried rfl
theorem opVoltageReady (f : Fin 88) : Statement (.opVoltageReady f) := none_carried rfl
theorem timFetLoRead (via : Path) (read : RegRead) : Statement (.timFetLoRead via read) := none_carried rfl
theorem drawPeakRead (via : Path) (read : RegRead) : Statement (.drawPeakRead via read) := none_carried rfl
theorem bundleIssue (f : Fin 88) (cyc : Nat) : Statement (.bundleIssue f cyc) := none_carried rfl
theorem stepBundle (f : Fin 88) (cyc : Nat) : Statement (.stepBundle f cyc) := none_carried rfl
theorem gateDue (f : Fin 88) (cyc : Nat) : Statement (.gateDue f cyc) := none_carried rfl
theorem loopEnd (f : Fin 88) (cyc : Nat) : Statement (.loopEnd f cyc) := none_carried rfl
theorem endBundle (f : Fin 88) (cyc : Nat) : Statement (.endBundle f cyc) := none_carried rfl
theorem moveBundle (f : Fin 88) (cyc : Nat) : Statement (.moveBundle f cyc) := none_carried rfl
theorem sentinelBundle (f : Fin 88) (cyc : Nat) : Statement (.sentinelBundle f cyc) := none_carried rfl
theorem sentSigCompare (f : Fin 88) (ended : TileEnd) : Statement (.sentSigCompare f ended) := none_carried rfl
theorem reserveSentinelTile (f : Fin 88) (pos : Fin 72) (sigErr : Word) : Statement (.reserveSentinelTile f pos sigErr) := none_carried rfl
theorem cellRepetitionBegin (f : Fin 88) (pos : Fin 72) (cyc : Nat) (sigErr : Word) : Statement (.cellRepetitionBegin f pos cyc sigErr) := none_carried rfl
theorem slotBegin (f : Fin 88) (pos : Fin 72) (cyc : Nat) (id : Nat) : Statement (.slotBegin f pos cyc id) := none_carried rfl
theorem slotEnd (f : Fin 88) (pos : Fin 72) (cyc : Nat) (id : Nat) : Statement (.slotEnd f pos cyc id) := none_carried rfl
theorem microOpIssue (f : Fin 88) (pos : Fin 72) (cyc : Nat) (id : Nat) (op : MicroOp) (upset : BitVec 128) : Statement (.microOpIssue f pos cyc id op upset) := none_carried rfl
theorem scratchpadAccessGrant (f : Fin 88) (pos : Fin 72) (cyc : Nat) (wport : Bool) (upset : BitVec 128) : Statement (.scratchpadAccessGrant f pos cyc wport upset) := none_carried rfl
theorem arrivalRecord (f : Fin 88) (pos : Fin 72) (cyc : Nat) : Statement (.arrivalRecord f pos cyc) := none_carried rfl
theorem guardExpiry (f : Fin 88) (pos : Fin 72) (cyc : Nat) : Statement (.guardExpiry f pos cyc) := none_carried rfl
theorem scratchpadZeroDone (f : Fin 88) (pos : Fin 72) : Statement (.scratchpadZeroDone f pos) := none_carried rfl
theorem celFuClear (via : Path) (f : Fin 88) (pos : Fin 72) (value : Word) : Statement (.celFuClear via f pos value) := none_carried rfl
theorem celSpZero (via : Path) (f : Fin 88) (pos : Fin 72) (value : Word) : Statement (.celSpZero via f pos value) := none_carried rfl
theorem celCntClear (via : Path) (f : Fin 88) (pos : Fin 72) (value : Word) : Statement (.celCntClear via f pos value) := none_carried rfl
theorem celSpArm (via : Path) (f : Fin 88) (pos : Fin 72) (value : Word) : Statement (.celSpArm via f pos value) := none_carried rfl
theorem celResArm (via : Path) (f : Fin 88) (pos : Fin 72) (value : Word) : Statement (.celResArm via f pos value) := none_carried rfl
theorem fldCntClear (via : Path) (f : Fin 88) (value : Word) : Statement (.fldCntClear via f value) := none_carried rfl
theorem packetInject (f : Fin 88) (sent : NodeFlits) : Statement (.packetInject f sent) := none_carried rfl
theorem packetHop (id : Nat) (errs : List FlitErr) : Statement (.packetHop id errs) := none_carried rfl
theorem packetReceive (id : Nat) : Statement (.packetReceive id) := none_carried rfl
theorem busyReceive (id : Nat) : Statement (.busyReceive id) := none_carried rfl
theorem retryBackoffExpiry (f : Fin 88) (node : Fin 78) (k : Nat) : Statement (.retryBackoffExpiry f node k) := none_carried rfl
theorem retryRecordLapse (f : Fin 88) (node : Fin 78) (k : Nat) : Statement (.retryRecordLapse f node k) := none_carried rfl
theorem mapActivation : Statement (.mapActivation) := none_carried rfl
theorem drainWindowEnd : Statement (.drainWindowEnd) := none_carried rfl
theorem mshInjectArm (via : Path) (f : Fin 88) (value : Word) : Statement (.mshInjectArm via f value) := none_carried rfl
theorem mshCntClear (via : Path) (f : Fin 88) (value : Word) : Statement (.mshCntClear via f value) := none_carried rfl
theorem descriptorStart (f : Fin 88) (q : Fin 32) : Statement (.descriptorStart f q) := none_carried rfl
theorem moverAccessStart (f : Fin 88) (branch : Fin 9) : Statement (.moverAccessStart f branch) := none_carried rfl
theorem moverAccessComplete (f : Fin 88) (acc : Nat) (ecc : Fin 3) : Statement (.moverAccessComplete f acc ecc) := none_carried rfl
theorem descriptorComplete (f : Fin 88) (q : Fin 32) : Statement (.descriptorComplete f q) := none_carried rfl
theorem tierAckArrival (f : Fin 88) (pos : Fin 72) (cyc : Nat) : Statement (.tierAckArrival f pos cyc) := none_carried rfl
theorem tierNZeroDone (f : Fin 88) : Statement (.tierNZeroDone f) := none_carried rfl
theorem patrolScrub (x : Fin 100) (corrected : List Nat) (uncorrectable : List Nat) : Statement (.patrolScrub x corrected uncorrectable) := none_carried rfl
theorem vltNInject (via : Path) (f : Fin 88) (value : Word) : Statement (.vltNInject via f value) := none_carried rfl
theorem vltCInject (via : Path) (v : Fin 12) (value : Word) : Statement (.vltCInject via v value) := none_carried rfl
theorem vltNCntClear (via : Path) (f : Fin 88) (value : Word) : Statement (.vltNCntClear via f value) := none_carried rfl
theorem vltCntClear (via : Path) (v : Fin 12) (value : Word) : Statement (.vltCntClear via v value) := none_carried rfl
theorem ckptEpoch (p : Fin 8) : Statement (.ckptEpoch p) := none_carried rfl
theorem segmentSave (v : Fin 12) : Statement (.segmentSave v) := none_carried rfl
theorem copyOnWrite (v : Fin 12) (addr : Nat) (ok : Bool) : Statement (.copyOnWrite v addr ok) := none_carried rfl
theorem ckptCompletionRecord (p : Fin 8) : Statement (.ckptCompletionRecord p) := none_carried rfl
theorem journalStagingFlush : Statement (.journalStagingFlush) := none_carried rfl
theorem eruInputArrival (n : Fin 64) (inp : EruIn) (arrival : EruArrival) : Statement (.eruInputArrival n inp arrival) := by
  cases inp with
  | frame fr => exact carried rfl (by intro h; simp [Instr.wf, EruIn.wf] at h; simp [h])
  | mesh f => exact none_carried rfl
  | outbound f c d a => exact none_carried rfl
theorem eruBusyResend (n : Fin 64) (tag : BitVec 24) : Statement (.eruBusyResend n tag) := none_carried rfl
theorem eruSlotDeadline (n : Fin 64) (e : Fin 128) (c : Nat) : Statement (.eruSlotDeadline n e c) := none_carried rfl
theorem eruResultDeadline (n : Fin 64) (e : Fin 128) (c : Nat) : Statement (.eruResultDeadline n e c) := none_carried rfl
theorem verdictTime (n : Fin 64) (e : Fin 128) (c : Nat) : Statement (.verdictTime n e c) := none_carried rfl
theorem abstainNoticeReceive (n : Fin 64) (fr : Frame) : Statement (.abstainNoticeReceive n fr) := carried rfl (by intro h; simp [Instr.wf] at h; simp [h])
theorem eruSchedWrite (via : Path) (n : Fin 64) (e : Fin 128) (k : Fin 4) (value : Word) : Statement (.eruSchedWrite via n e k value) := none_carried rfl
theorem eruCntClear (via : Path) (n : Fin 64) (value : Word) : Statement (.eruCntClear via n value) := none_carried rfl
theorem eruInjectArm (via : Path) (n : Fin 64) (value : Word) : Statement (.eruInjectArm via n value) := none_carried rfl
theorem resultDelivery (v : Fin 12) : Statement (.resultDelivery v) := none_carried rfl
theorem groupUpdate (v : Fin 12) (g : Fin 16) : Statement (.groupUpdate v g) := none_carried rfl
theorem clipPhase2 (p : Fin 8) : Statement (.clipPhase2 p) := none_carried rfl
theorem stateDigest (p : Fin 8) : Statement (.stateDigest p) := none_carried rfl
theorem stateDigestReceive (n : Fin 64) (fr : Frame) : Statement (.stateDigestReceive n fr) := carried rfl (by intro h; simp [Instr.wf] at h; simp [h])
theorem digestTimeout (p : Fin 8) : Statement (.digestTimeout p) := none_carried rfl
theorem updGCfgWrite (via : Path) (v : Fin 12) (g : Fin 16) (value : Word) : Statement (.updGCfgWrite via v g value) := none_carried rfl
theorem updCntClear (via : Path) (v : Fin 12) (value : Word) : Statement (.updCntClear via v value) := none_carried rfl
theorem lcwReceive (n : Fin 64) (lcw : Lcw) : Statement (.lcwReceive n lcw) := none_carried rfl
theorem blockTransmit (n : Fin 64) : Statement (.blockTransmit n) := none_carried rfl
theorem dataFrameReceive (n : Fin 64) (fr : Frame) : Statement (.dataFrameReceive n fr) := carried rfl (by intro h; simp [Instr.wf] at h; simp [h])
theorem frameForward (n : Fin 64) (fr : Frame) : Statement (.frameForward n fr) := carried rfl (by intro h; simp [Instr.wf] at h; simp [h])
theorem busyFrameReceive (n : Fin 64) (fr : Frame) : Statement (.busyFrameReceive n fr) := carried rfl (by intro h; simp [Instr.wf] at h; simp [h])
theorem fireflyReceive (n : Fin 64) (hdr : Frame) (fr : FireflyFrame) : Statement (.fireflyReceive n hdr fr) := carried rfl (by intro h; simp [Instr.wf] at h; simp [h])
theorem fireflySend (n : Fin 64) : Statement (.fireflySend n) := none_carried rfl
theorem configDigestSend (n : Fin 64) : Statement (.configDigestSend n) := none_carried rfl
theorem configDigestReceive (n : Fin 64) (fr : Frame) : Statement (.configDigestReceive n fr) := carried rfl (by intro h; simp [Instr.wf] at h; simp [h])
theorem managementFrameReceive (n : Fin 64) (fr : Frame) : Statement (.managementFrameReceive n fr) := carried rfl (by intro h; simp [Instr.wf] at h; simp [h])
theorem partnerLost (n : Fin 64) : Statement (.partnerLost n) := none_carried rfl
theorem wakeBurst (n : Fin 64) : Statement (.wakeBurst n) := none_carried rfl
theorem portEnable (via : Path) (n : Fin 64) (value : Word) : Statement (.portEnable via n value) := none_carried rfl
theorem partnerSignalDetect (n : Fin 64) : Statement (.partnerSignalDetect n) := none_carried rfl
theorem blockLock (n : Fin 64) : Statement (.blockLock n) := none_carried rfl
theorem detectTimeout (n : Fin 64) : Statement (.detectTimeout n) := none_carried rfl
theorem trainConverged (n : Fin 64) : Statement (.trainConverged n) := none_carried rfl
theorem qualifyWindowEnd (n : Fin 64) (errors : List Nat) (uncorrectable : Bool) : Statement (.qualifyWindowEnd n errors uncorrectable) := none_carried rfl
theorem negotiateComplete (n : Fin 64) (neg : Negotiation) : Statement (.negotiateComplete n neg) := none_carried rfl
theorem portRetry (via : Path) (n : Fin 64) (value : Word) : Statement (.portRetry via n value) := none_carried rfl
theorem snlRetrainRequest (via : Path) (n : Fin 64) (value : Word) : Statement (.snlRetrainRequest via n value) := none_carried rfl
theorem retrainLinkmsg (n : Fin 64) (accept : Bool) (slot : Nat) : Statement (.retrainLinkmsg n accept slot) := none_carried rfl
theorem retrainWindowStart (n : Fin 64) : Statement (.retrainWindowStart n) := none_carried rfl
theorem retrainComplete (n : Fin 64) (lockLost : Bool) (restored : Bool) (eq : List (List Nat)) : Statement (.retrainComplete n lockLost restored eq) := none_carried rfl
theorem retrainSearchTimeout (n : Fin 64) : Statement (.retrainSearchTimeout n) := none_carried rfl
theorem marginMonitorArm (n : Fin 64) : Statement (.marginMonitorArm n) := none_carried rfl
theorem marginWindow (n : Fin 64) (lanes : List (Nat × Nat)) : Statement (.marginWindow n lanes) := none_carried rfl
theorem rateChangeProposal (msg : RateProposal) : Statement (.rateChangeProposal msg) := none_carried rfl
theorem rateChange (n : Fin 64) : Statement (.rateChange n) := none_carried rfl
theorem snlInjectArm (via : Path) (n : Fin 64) (value : Word) : Statement (.snlInjectArm via n value) := none_carried rfl
theorem configCommitDue (p : Fin 8) : Statement (.configCommitDue p) := none_carried rfl
theorem partitionPowerWindow (p : Fin 8) (draw : BitVec 16) : Statement (.partitionPowerWindow p draw) := none_carried rfl
theorem modulePowerWindow (draw : BitVec 16) : Statement (.modulePowerWindow draw) := none_carried rfl
theorem envelopeBreakpoint : Statement (.envelopeBreakpoint) := none_carried rfl
theorem ballastDutyUpdate (draw : BitVec 16) (cap : BitVec 16) : Statement (.ballastDutyUpdate draw cap) := none_carried rfl
theorem quenchReached (scope : Fin 8) : Statement (.quenchReached scope) := none_carried rfl
theorem mainInputCondition (vin : BitVec 16) : Statement (.mainInputCondition vin) := none_carried rfl
theorem inputLoss (vin : BitVec 16) : Statement (.inputLoss vin) := none_carried rfl
theorem journalFlushComplete : Statement (.journalFlushComplete) := none_carried rfl
theorem aux12vLoss : Statement (.aux12vLoss) := none_carried rfl
theorem converterFault (c : Fin 48) : Statement (.converterFault c) := none_carried rfl
theorem voltageSample (d : Fin 792) (v : BitVec 9) : Statement (.voltageSample d v) := none_carried rfl
theorem vminClear (via : Path) (value : Word) : Statement (.vminClear via value) := none_carried rfl
theorem pwrCntClear (via : Path) (value : Word) : Statement (.pwrCntClear via value) := none_carried rfl
theorem tokenAdmission : Statement (.tokenAdmission) := none_carried rfl
theorem softStartCheck (d : Fin 792) (ok : Bool) : Statement (.softStartCheck d ok) := none_carried rfl
theorem softStartRetry (d : Fin 792) : Statement (.softStartRetry d) := none_carried rfl
theorem currentLimitTrip (d : Fin 792) : Statement (.currentLimitTrip d) := none_carried rfl
theorem holdupStateChange (vbank : BitVec 16) (dq : Int) (current : BitVec 16) : Statement (.holdupStateChange vbank dq current) := none_carried rfl
theorem estimatorDisagree (vbank : BitVec 16) (dq : Int) : Statement (.estimatorDisagree vbank dq) := none_carried rfl
theorem holdupCalibration (vbank : BitVec 16) (dq : BitVec 32) : Statement (.holdupCalibration vbank dq) := none_carried rfl
theorem thermalWindow (rep : ThermReport) : Statement (.thermalWindow rep) := none_carried rfl
theorem overtempTrip (at_ : Sensor) : Statement (.overtempTrip at_) := none_carried rfl
theorem coolantOkDeassert : Statement (.coolantOkDeassert) := none_carried rfl
theorem leakDetAssert : Statement (.leakDetAssert) := none_carried rfl
theorem faultCapture (ev : FaultEvent) : Statement (.faultCapture ev) := none_carried rfl
theorem quenchNoticeReceive (port : Fin 64) (hdr : Frame) (n : Notice) : Statement (.quenchNoticeReceive port hdr n) := carried rfl (by intro h; simp [Instr.wf] at h; simp [h])
theorem genNoticeReceive (port : Fin 64) (hdr : Frame) (n : Notice) : Statement (.genNoticeReceive port hdr n) := carried rfl (by intro h; simp [Instr.wf] at h; simp [h])
theorem rerun (p : Fin 8) : Statement (.rerun p) := none_carried rfl
theorem repeatCheckComplete (index : Nat) (again : Bool) : Statement (.repeatCheckComplete index again) := none_carried rfl
theorem fltInjectArm (via : Path) (value : Word) : Statement (.fltInjectArm via value) := none_carried rfl
theorem fltCntClear (via : Path) (value : Word) : Statement (.fltCntClear via value) := none_carried rfl
theorem faultInjectDue : Statement (.faultInjectDue) := none_carried rfl
theorem bringUpDrive (via : Path) (value : Word) : Statement (.bringUpDrive via value) := none_carried rfl
theorem drivePhaseComplete (members : List MemberReply) (expired : Bool) : Statement (.drivePhaseComplete members expired) := none_carried rfl
theorem mgrDriveAbort (via : Path) (value : Word) : Statement (.mgrDriveAbort via value) := none_carried rfl
theorem healthPoll (members : List MemberReply) : Statement (.healthPoll members) := none_carried rfl
theorem proxyForward (ip : Word) (port : BitVec 16) (pre : ProxyPrefix) (opcode : BitVec 8) (r : Request) (replies : List ScpReply) : Statement (.proxyForward ip port pre opcode r replies) := none_carried rfl
theorem proxyRingCommit (ip : Word) (port : BitVec 16) (pre : ProxyPrefix) (opcode : BitVec 8) (r : Request) (members : List MemberReply) : Statement (.proxyRingCommit ip port pre opcode r members) := none_carried rfl
theorem fireflyMiss : Statement (.fireflyMiss) := none_carried rfl
theorem standbyTakeover (reply : Option (Fin 8)) (members : List MemberReply) : Statement (.standbyTakeover reply members) := none_carried rfl
theorem managerYield (standbyAct : Option (Fin 8)) (rivalSlot : Option (Fin 64)) (portsLost : Bool) : Statement (.managerYield standbyAct rivalSlot portsLost) := none_carried rfl
theorem handback (via : Path) (value : Word) (strappedAct : Option (Fin 8)) (yieldCond : Bool) (members : List MemberReply) : Statement (.handback via value strappedAct yieldCond members) := none_carried rfl
theorem mgmtBaseWrite (via : Path) (value : Word) : Statement (.mgmtBaseWrite via value) := none_carried rfl
theorem regAccessDatagram (ip : Word) (port : BitVec 16) (payload : List Byte) : Statement (.regAccessDatagram ip port payload) := none_carried rfl
theorem arpIcmpRequest (icmp : Bool) (addr : Word) (tagged : Bool) : Statement (.arpIcmpRequest icmp addr tagged) := none_carried rfl
theorem perstAssert (ep : Fin 2) : Statement (.perstAssert ep) := none_carried rfl
theorem functionLevelReset (ep : Fin 2) (fn : Fin 8) : Statement (.functionLevelReset ep fn) := none_carried rfl
theorem regRead (off : Word) : Statement (.regRead off) := none_carried rfl
theorem regWrite (off : Word) (value : Word) (pecOk : Bool) : Statement (.regWrite off value pecOk) := none_carried rfl
theorem summary : Statement (.summary) := none_carried rfl
theorem lastStatus : Statement (.lastStatus) := none_carried rfl
theorem alertResponse : Statement (.alertResponse) := none_carried rfl
theorem smbusTimeout : Statement (.smbusTimeout) := none_carried rfl
theorem tapInstruction (ir : TapIr) : Statement (.tapInstruction ir) := none_carried rfl
theorem tapReset : Statement (.tapReset) := none_carried rfl
theorem registerWrite (via : Path) (off : Nat) (bytes : Nat) (value : BitVec 64) : Statement (.registerWrite via off bytes value) := none_carried rfl
theorem chitinRailLoss : Statement (.chitinRailLoss) := none_carried rfl
theorem perstRelease (ep : Fin 2) : Statement (.perstRelease ep) := none_carried rfl
theorem badOpcodeRequest (r : Request) (opcode : BitVec 8) : Statement (.badOpcodeRequest r opcode) := none_carried rfl

end Sys2Proof.Laws.Operands
end

