-- ==== Sys2Proof/Laws/Scp.lean ====
section
/-!
SUPPORT. Laws/Scp.lean: what the two paths of the command protocol do with a request whose turn it is: they put the answer
of the opcode's own checks and effect into effect.
-/
namespace Sys2Proof.Machine

/-- A request that can be read, from a source that may command the module, goes on to its front end as read. -/
theorem Admitted.passes {r : Request} {s : State} (h : Admitted r s) {op : Nat} {k : State → State} :
    atFrontEnd op r k s = k (readIn r s) := by
  simp only [atFrontEnd, h.readable, h.room, Bool.not_true, Bool.false_eq_true, if_false]
  split
  · next e => simp only [h.manager _ _ e, Bool.not_true, Bool.false_eq_true, if_false]
  · rfl

/-- A request that the checks of R382 refuse is answered with their status, whatever its opcode would do. -/
theorem scarab_refused {i : Instr} {o : ScpOp} {r : Request} {s : State} {st : Nat} (h : ScarabTurn r s)
    (hc : precheck (readIn r s) o.code r o.bad = some st) : scarab i o r s = replied o.code r st [] (readIn r s) := by
  unfold scarab
  rw [h.toAdmitted.passes]
  simp only [serve, h.fresh, h.next, h.unfenced, hc, BitVec.sub_self, BitVec.toNat_ofNat, Nat.zero_mod, if_true,
    Bool.false_eq_true, if_false, replied]

/-- A request that the checks pass and nothing it names is busy: its opcode answers. -/
theorem scarab_inTurn {i : Instr} {o : ScpOp} {r : Request} {s : State} (h : ScarabTurn r s)
    (hc : precheck (readIn r s) o.code r o.bad = none) (hs : noScarab (readIn r s) = false ∨ chitinAnswers o.code = true)
    (hb : o.busy (readIn r s) = false) (ha : o.async = true → inflight (readIn r s) r.src < 64) :
    scarab i o r s = conclude o.code r (advance r.src r.seq) (readIn r s) (o.body (readIn r s)) := by
  have hn : ¬ (o.async = true ∧ 64 ≤ inflight (readIn r s) r.src) := fun ⟨x, y⟩ => absurd (ha x) (by omega)
  have hq : (noScarab (readIn r s) && !chitinAnswers o.code) = false := by rcases hs with e | e <;> simp [e]
  unfold scarab
  rw [h.toAdmitted.passes]
  simp only [serve, h.fresh, h.next, h.unfenced, hc, hq, hb, BitVec.sub_self, BitVec.toNat_ofNat, Nat.zero_mod, if_true,
    Bool.or_false, Bool.false_eq_true, if_false, Bool.and_eq_true, decide_eq_true_eq, if_neg hn]

/-- A request that names what a conflicting operation holds, or that finds no system Scarab, is answered BUSY. -/
theorem scarab_busy {i : Instr} {o : ScpOp} {r : Request} {s : State} (h : ScarabTurn r s)
    (hc : precheck (readIn r s) o.code r o.bad = none)
    (hb : ((noScarab (readIn r s) && !chitinAnswers o.code) || o.busy (readIn r s)) = true) :
    scarab i o r s = replied o.code r stBusy [] (readIn r s) := by
  unfold scarab
  rw [h.toAdmitted.passes]
  simp only [serve, h.fresh, h.next, h.unfenced, hc, hb, BitVec.sub_self, BitVec.toNat_ofNat, Nat.zero_mod, if_true,
    Bool.false_eq_true, if_false, replied]

/-- A request whose turn it is and that must wait behind a FENCE is held: nothing else changes once it has been read. -/
theorem scarab_held {i : Instr} {o : ScpOp} {r : Request} {s : State} (h : Admitted r s)
    (hf : (queueOf (readIn r s) r.src).consumed.contains r.seq = false) (hn : queueNext (readIn r s) r.src = r.seq)
    (hw : mustWait r (readIn r s) = true) : scarab i o r s = holdRequest i r (readIn r s) := by
  unfold scarab
  rw [h.passes]
  simp only [serve, hf, hn, hw, BitVec.sub_self, BitVec.toNat_ofNat, Nat.zero_mod, if_true, Bool.false_eq_true, if_false]

theorem chitin_refused {o : ScpOp} {r : Request} {s : State} {st : Nat} (h : ChitinTurn r s)
    (hc : precheck (readIn r s) o.code r o.bad = some st) : chitin o r s = replied o.code r st [] (readIn r s) := by
  unfold chitin
  rw [h.toAdmitted.passes]
  simp only [serveNow, h.fresh, h.next, hc, BitVec.sub_self, BitVec.toNat_ofNat, Nat.zero_mod, Nat.lt_irrefl, false_and,
    Bool.false_eq_true, if_false, if_true, Nat.not_lt_zero, replied]

theorem chitin_inTurn {o : ScpOp} {r : Request} {s : State} (h : ChitinTurn r s)
    (hc : precheck (readIn r s) o.code r o.bad = none) (hb : o.busy (readIn r s) = false)
    (ha : o.async = true → inflight (readIn r s) r.src < 64) :
    chitin o r s = conclude o.code r (advance r.src r.seq) (readIn r s) (o.body (readIn r s)) := by
  have hn : ¬ (o.async = true ∧ 64 ≤ inflight (readIn r s) r.src) := fun ⟨x, y⟩ => absurd (ha x) (by omega)
  unfold chitin
  rw [h.toAdmitted.passes]
  simp only [serveNow, h.fresh, h.next, hc, hb, BitVec.sub_self, BitVec.toNat_ofNat, Nat.zero_mod, Nat.lt_irrefl, false_and,
    Bool.false_eq_true, if_false, if_true, Nat.not_lt_zero, Bool.and_eq_true, decide_eq_true_eq, if_neg hn]

/-- The outcome of a row that goes to Scarab, its turn come and its checks passed. -/
theorem toScarab_next {i : Instr} {o : ScpOp} {r : Request} {s t : State} (h : ToScarab o.code o.bad r s)
    (hb : o.busy (readIn r s) = false) (ha : o.async = true → inflight (readIn r s) r.src < 64)
    (e : conclude o.code r (advance r.src r.seq) (readIn r s) (o.body (readIn r s)) = t) :
    (.next (scarab i o r s) : Host.Outcome State Fault Refusal) = .next t :=
  congrArg _ ((scarab_inTurn h.toScarabTurn h.checks (.inl h.runs) hb ha).trans e)

/-- The same of the opcodes that Chitin answers while no system Scarab runs. -/
theorem scarabTurn_next {i : Instr} {o : ScpOp} {r : Request} {s t : State} (h : ScarabTurn r s)
    (hc : precheck (readIn r s) o.code r o.bad = none) (hs : chitinAnswers o.code = true)
    (hb : o.busy (readIn r s) = false) (ha : o.async = true → inflight (readIn r s) r.src < 64)
    (e : conclude o.code r (advance r.src r.seq) (readIn r s) (o.body (readIn r s)) = t) :
    (.next (scarab i o r s) : Host.Outcome State Fault Refusal) = .next t :=
  congrArg _ ((scarab_inTurn h hc (.inr hs) hb ha).trans e)

/-- The outcome of a row that goes to Chitin's front end. -/
theorem toChitin_next {o : ScpOp} {r : Request} {s t : State} (h : ToChitin o.code o.bad r s)
    (hb : o.busy (readIn r s) = false) (ha : o.async = true → inflight (readIn r s) r.src < 64)
    (e : conclude o.code r (advance r.src r.seq) (readIn r s) (o.body (readIn r s)) = t) :
    (.next (chitin o r s) : Host.Outcome State Fault Refusal) = .next t :=
  congrArg _ ((chitin_inTurn h.toChitinTurn h.checks hb ha).trans e)

/-- A row that goes to Scarab runs as its entry of the protocol's table says. -/
theorem exec_scarab {i : Instr} {s : State} {o : ScpOp} {r : Request} (h : scarabOp s i = some (o, r)) :
    exec i s = .next (scarab i o r s) := by
  cases i <;> simp only [scarabOp, Option.some.injEq, Prod.mk.injEq, reduceCtorEq] at h
  case badOpcodeRequest r op =>
    split at h
    · cases h
    · next e => obtain ⟨rfl, rfl⟩ := (Prod.mk.injEq ..).mp (Option.some.inj h); exact congrArg _ (if_neg e)
  all_goals (obtain ⟨rfl, rfl⟩ := h; rfl)

/-- A row that goes to Chitin's front end runs as its entry says. -/
theorem exec_chitin {i : Instr} {s : State} {o : ScpOp} {r : Request} (h : chitinOp i = some (o, r)) :
    exec i s = .next (chitin o r s) := by
  cases i <;> simp only [chitinOp, Option.some.injEq, Prod.mk.injEq, reduceCtorEq] at h
  all_goals (obtain ⟨rfl, rfl⟩ := h; rfl)

end Sys2Proof.Machine
end

