-- ==== Sys2Proof/Laws/State.lean ====
section
/-!
SUPPORT. Laws/State.lean: what each named update of the state leaves alone, one lemma per field and per named read, and what
reading back gives where the table is in canonical form.
-/
namespace Sys2Proof.Machine

variable (s : State)

/-! ### wr -/

@[simp] theorem State.wr_pending (off : Nat) (w : Word) : (s.wr off w).pending = s.pending := rfl
@[simp] theorem State.wr_fet (off : Nat) (w : Word) : (s.wr off w).fet = s.fet := rfl
@[simp] theorem State.wr_latches (off : Nat) (w : Word) : (s.wr off w).latches = s.latches := rfl
@[simp] theorem State.wr_queues (off : Nat) (w : Word) : (s.wr off w).queues = s.queues := rfl
@[simp] theorem State.wr_mgmtDropped (off : Nat) (w : Word) : (s.wr off w).mgmtDropped = s.mgmtDropped := rfl
@[simp] theorem State.wr_rings (off : Nat) (w : Word) : (s.wr off w).rings = s.rings := rfl
@[simp] theorem State.wr_jobs (off : Nat) (w : Word) : (s.wr off w).jobs = s.jobs := rfl
@[simp] theorem State.wr_parts (off : Nat) (w : Word) : (s.wr off w).parts = s.parts := rfl
@[simp] theorem State.wr_log (off : Nat) (w : Word) : (s.wr off w).log = s.log := rfl
@[simp] theorem State.wr_injects (off : Nat) (w : Word) : (s.wr off w).injects = s.injects := rfl
@[simp] theorem State.wr_time (off : Nat) (w : Word) : (s.wr off w).time = s.time := rfl
@[simp] theorem State.wr_cicada (off : Nat) (w : Word) : (s.wr off w).cicada = s.cicada := rfl
@[simp] theorem State.wr_boot (off : Nat) (w : Word) : (s.wr off w).boot = s.boot := rfl
@[simp] theorem State.wr_power (off : Nat) (w : Word) : (s.wr off w).power = s.power := rfl
@[simp] theorem State.wr_mgr (off : Nat) (w : Word) : (s.wr off w).mgr = s.mgr := rfl
@[simp] theorem State.wr_bus (off : Nat) (w : Word) : (s.wr off w).bus = s.bus := rfl
@[simp] theorem State.wr_fields (off : Nat) (w : Word) : (s.wr off w).fields = s.fields := rfl
@[simp] theorem State.wr_vaults (off : Nat) (w : Word) : (s.wr off w).vaults = s.vaults := rfl
@[simp] theorem State.wr_ports (off : Nat) (w : Word) : (s.wr off w).ports = s.ports := rfl
@[simp] theorem State.wr_cells (off : Nat) (w : Word) : (s.wr off w).cells = s.cells := rfl
@[simp] theorem State.wr_nis (off : Nat) (w : Word) : (s.wr off w).nis = s.nis := rfl
@[simp] theorem State.wr_mesh (off : Nat) (w : Word) : (s.wr off w).mesh = s.mesh := rfl
@[simp] theorem State.wr_erus (off : Nat) (w : Word) : (s.wr off w).erus = s.erus := rfl
@[simp] theorem State.wr_out (off : Nat) (w : Word) : (s.wr off w).out = s.out := rfl
@[simp] theorem State.wr_freeIdx (off : Nat) (w : Word) : (s.wr off w).freeIdx = s.freeIdx := rfl
@[simp] theorem State.wr_part (off : Nat) (w : Word) (k : Nat) : (s.wr off w).part k = s.part k := rfl
@[simp] theorem State.wr_fieldD (off : Nat) (w : Word) (k : Nat) : (s.wr off w).fieldD k = s.fieldD k := rfl
@[simp] theorem State.wr_vault (off : Nat) (w : Word) (k : Nat) : (s.wr off w).vault k = s.vault k := rfl
@[simp] theorem State.wr_port (off : Nat) (w : Word) (k : Nat) : (s.wr off w).port k = s.port k := rfl
@[simp] theorem State.wr_cic (off : Nat) (w : Word) (k : Nat) : (s.wr off w).cic k = s.cic k := rfl
@[simp] theorem State.wr_cell (off : Nat) (w : Word) (k j : Nat) : (s.wr off w).cell k j = s.cell k j := rfl
@[simp] theorem State.wr_ni (off : Nat) (w : Word) (k j : Nat) : (s.wr off w).ni k j = s.ni k j := rfl
@[simp] theorem State.wr_eru (off : Nat) (w : Word) (k : Nat) : (s.wr off w).eru k = s.eru k := rfl

/-! ### set -/

@[simp] theorem State.set_pending (f : Fld) (v : Nat) : (s.set f v).pending = s.pending := rfl
@[simp] theorem State.set_fet (f : Fld) (v : Nat) : (s.set f v).fet = s.fet := rfl
@[simp] theorem State.set_latches (f : Fld) (v : Nat) : (s.set f v).latches = s.latches := rfl
@[simp] theorem State.set_queues (f : Fld) (v : Nat) : (s.set f v).queues = s.queues := rfl
@[simp] theorem State.set_mgmtDropped (f : Fld) (v : Nat) : (s.set f v).mgmtDropped = s.mgmtDropped := rfl
@[simp] theorem State.set_rings (f : Fld) (v : Nat) : (s.set f v).rings = s.rings := rfl
@[simp] theorem State.set_jobs (f : Fld) (v : Nat) : (s.set f v).jobs = s.jobs := rfl
@[simp] theorem State.set_parts (f : Fld) (v : Nat) : (s.set f v).parts = s.parts := rfl
@[simp] theorem State.set_log (f : Fld) (v : Nat) : (s.set f v).log = s.log := rfl
@[simp] theorem State.set_injects (f : Fld) (v : Nat) : (s.set f v).injects = s.injects := rfl
@[simp] theorem State.set_time (f : Fld) (v : Nat) : (s.set f v).time = s.time := rfl
@[simp] theorem State.set_cicada (f : Fld) (v : Nat) : (s.set f v).cicada = s.cicada := rfl
@[simp] theorem State.set_boot (f : Fld) (v : Nat) : (s.set f v).boot = s.boot := rfl
@[simp] theorem State.set_power (f : Fld) (v : Nat) : (s.set f v).power = s.power := rfl
@[simp] theorem State.set_mgr (f : Fld) (v : Nat) : (s.set f v).mgr = s.mgr := rfl
@[simp] theorem State.set_bus (f : Fld) (v : Nat) : (s.set f v).bus = s.bus := rfl
@[simp] theorem State.set_fields (f : Fld) (v : Nat) : (s.set f v).fields = s.fields := rfl
@[simp] theorem State.set_vaults (f : Fld) (v : Nat) : (s.set f v).vaults = s.vaults := rfl
@[simp] theorem State.set_ports (f : Fld) (v : Nat) : (s.set f v).ports = s.ports := rfl
@[simp] theorem State.set_cells (f : Fld) (v : Nat) : (s.set f v).cells = s.cells := rfl
@[simp] theorem State.set_nis (f : Fld) (v : Nat) : (s.set f v).nis = s.nis := rfl
@[simp] theorem State.set_mesh (f : Fld) (v : Nat) : (s.set f v).mesh = s.mesh := rfl
@[simp] theorem State.set_erus (f : Fld) (v : Nat) : (s.set f v).erus = s.erus := rfl
@[simp] theorem State.set_out (f : Fld) (v : Nat) : (s.set f v).out = s.out := rfl
@[simp] theorem State.set_freeIdx (f : Fld) (v : Nat) : (s.set f v).freeIdx = s.freeIdx := rfl
@[simp] theorem State.set_part (f : Fld) (v : Nat) (k : Nat) : (s.set f v).part k = s.part k := rfl
@[simp] theorem State.set_fieldD (f : Fld) (v : Nat) (k : Nat) : (s.set f v).fieldD k = s.fieldD k := rfl
@[simp] theorem State.set_vault (f : Fld) (v : Nat) (k : Nat) : (s.set f v).vault k = s.vault k := rfl
@[simp] theorem State.set_port (f : Fld) (v : Nat) (k : Nat) : (s.set f v).port k = s.port k := rfl
@[simp] theorem State.set_cic (f : Fld) (v : Nat) (k : Nat) : (s.set f v).cic k = s.cic k := rfl
@[simp] theorem State.set_cell (f : Fld) (v : Nat) (k j : Nat) : (s.set f v).cell k j = s.cell k j := rfl
@[simp] theorem State.set_ni (f : Fld) (v : Nat) (k j : Nat) : (s.set f v).ni k j = s.ni k j := rfl
@[simp] theorem State.set_eru (f : Fld) (v : Nat) (k : Nat) : (s.set f v).eru k = s.eru k := rfl

/-! ### count -/

@[simp] theorem State.count_pending (f : Fld) (n : Nat) : (s.count f n).pending = s.pending := rfl
@[simp] theorem State.count_fet (f : Fld) (n : Nat) : (s.count f n).fet = s.fet := rfl
@[simp] theorem State.count_latches (f : Fld) (n : Nat) : (s.count f n).latches = s.latches := rfl
@[simp] theorem State.count_queues (f : Fld) (n : Nat) : (s.count f n).queues = s.queues := rfl
@[simp] theorem State.count_mgmtDropped (f : Fld) (n : Nat) : (s.count f n).mgmtDropped = s.mgmtDropped := rfl
@[simp] theorem State.count_rings (f : Fld) (n : Nat) : (s.count f n).rings = s.rings := rfl
@[simp] theorem State.count_jobs (f : Fld) (n : Nat) : (s.count f n).jobs = s.jobs := rfl
@[simp] theorem State.count_parts (f : Fld) (n : Nat) : (s.count f n).parts = s.parts := rfl
@[simp] theorem State.count_log (f : Fld) (n : Nat) : (s.count f n).log = s.log := rfl
@[simp] theorem State.count_injects (f : Fld) (n : Nat) : (s.count f n).injects = s.injects := rfl
@[simp] theorem State.count_time (f : Fld) (n : Nat) : (s.count f n).time = s.time := rfl
@[simp] theorem State.count_cicada (f : Fld) (n : Nat) : (s.count f n).cicada = s.cicada := rfl
@[simp] theorem State.count_boot (f : Fld) (n : Nat) : (s.count f n).boot = s.boot := rfl
@[simp] theorem State.count_power (f : Fld) (n : Nat) : (s.count f n).power = s.power := rfl
@[simp] theorem State.count_mgr (f : Fld) (n : Nat) : (s.count f n).mgr = s.mgr := rfl
@[simp] theorem State.count_bus (f : Fld) (n : Nat) : (s.count f n).bus = s.bus := rfl
@[simp] theorem State.count_fields (f : Fld) (n : Nat) : (s.count f n).fields = s.fields := rfl
@[simp] theorem State.count_vaults (f : Fld) (n : Nat) : (s.count f n).vaults = s.vaults := rfl
@[simp] theorem State.count_ports (f : Fld) (n : Nat) : (s.count f n).ports = s.ports := rfl
@[simp] theorem State.count_cells (f : Fld) (n : Nat) : (s.count f n).cells = s.cells := rfl
@[simp] theorem State.count_nis (f : Fld) (n : Nat) : (s.count f n).nis = s.nis := rfl
@[simp] theorem State.count_mesh (f : Fld) (n : Nat) : (s.count f n).mesh = s.mesh := rfl
@[simp] theorem State.count_erus (f : Fld) (n : Nat) : (s.count f n).erus = s.erus := rfl
@[simp] theorem State.count_out (f : Fld) (n : Nat) : (s.count f n).out = s.out := rfl
@[simp] theorem State.count_freeIdx (f : Fld) (n : Nat) : (s.count f n).freeIdx = s.freeIdx := rfl
@[simp] theorem State.count_part (f : Fld) (n : Nat) (k : Nat) : (s.count f n).part k = s.part k := rfl
@[simp] theorem State.count_fieldD (f : Fld) (n : Nat) (k : Nat) : (s.count f n).fieldD k = s.fieldD k := rfl
@[simp] theorem State.count_vault (f : Fld) (n : Nat) (k : Nat) : (s.count f n).vault k = s.vault k := rfl
@[simp] theorem State.count_port (f : Fld) (n : Nat) (k : Nat) : (s.count f n).port k = s.port k := rfl
@[simp] theorem State.count_cic (f : Fld) (n : Nat) (k : Nat) : (s.count f n).cic k = s.cic k := rfl
@[simp] theorem State.count_cell (f : Fld) (n : Nat) (k j : Nat) : (s.count f n).cell k j = s.cell k j := rfl
@[simp] theorem State.count_ni (f : Fld) (n : Nat) (k j : Nat) : (s.count f n).ni k j = s.ni k j := rfl
@[simp] theorem State.count_eru (f : Fld) (n : Nat) (k : Nat) : (s.count f n).eru k = s.eru k := rfl

/-! ### emit -/

@[simp] theorem State.emit_pending (o : Output) : (s.emit o).pending = s.pending := rfl
@[simp] theorem State.emit_fet (o : Output) : (s.emit o).fet = s.fet := rfl
@[simp] theorem State.emit_regs (o : Output) : (s.emit o).regs = s.regs := rfl
@[simp] theorem State.emit_latches (o : Output) : (s.emit o).latches = s.latches := rfl
@[simp] theorem State.emit_queues (o : Output) : (s.emit o).queues = s.queues := rfl
@[simp] theorem State.emit_mgmtDropped (o : Output) : (s.emit o).mgmtDropped = s.mgmtDropped := rfl
@[simp] theorem State.emit_rings (o : Output) : (s.emit o).rings = s.rings := rfl
@[simp] theorem State.emit_jobs (o : Output) : (s.emit o).jobs = s.jobs := rfl
@[simp] theorem State.emit_parts (o : Output) : (s.emit o).parts = s.parts := rfl
@[simp] theorem State.emit_log (o : Output) : (s.emit o).log = s.log := rfl
@[simp] theorem State.emit_injects (o : Output) : (s.emit o).injects = s.injects := rfl
@[simp] theorem State.emit_time (o : Output) : (s.emit o).time = s.time := rfl
@[simp] theorem State.emit_cicada (o : Output) : (s.emit o).cicada = s.cicada := rfl
@[simp] theorem State.emit_boot (o : Output) : (s.emit o).boot = s.boot := rfl
@[simp] theorem State.emit_power (o : Output) : (s.emit o).power = s.power := rfl
@[simp] theorem State.emit_mgr (o : Output) : (s.emit o).mgr = s.mgr := rfl
@[simp] theorem State.emit_bus (o : Output) : (s.emit o).bus = s.bus := rfl
@[simp] theorem State.emit_fields (o : Output) : (s.emit o).fields = s.fields := rfl
@[simp] theorem State.emit_vaults (o : Output) : (s.emit o).vaults = s.vaults := rfl
@[simp] theorem State.emit_ports (o : Output) : (s.emit o).ports = s.ports := rfl
@[simp] theorem State.emit_cells (o : Output) : (s.emit o).cells = s.cells := rfl
@[simp] theorem State.emit_nis (o : Output) : (s.emit o).nis = s.nis := rfl
@[simp] theorem State.emit_mesh (o : Output) : (s.emit o).mesh = s.mesh := rfl
@[simp] theorem State.emit_erus (o : Output) : (s.emit o).erus = s.erus := rfl
@[simp] theorem State.emit_freeIdx (o : Output) : (s.emit o).freeIdx = s.freeIdx := rfl
@[simp] theorem State.emit_rd (x : Output) (o : Nat) : (s.emit x).rd o = s.rd o := rfl
@[simp] theorem State.emit_get (o : Output) (g : Fld) : (s.emit o).get g = s.get g := rfl
@[simp] theorem State.emit_flag (o : Output) (g : Fld) : (s.emit o).flag g = s.flag g := rfl
@[simp] theorem State.emit_part (o : Output) (k : Nat) : (s.emit o).part k = s.part k := rfl
@[simp] theorem State.emit_fieldD (o : Output) (k : Nat) : (s.emit o).fieldD k = s.fieldD k := rfl
@[simp] theorem State.emit_vault (o : Output) (k : Nat) : (s.emit o).vault k = s.vault k := rfl
@[simp] theorem State.emit_port (o : Output) (k : Nat) : (s.emit o).port k = s.port k := rfl
@[simp] theorem State.emit_cic (o : Output) (k : Nat) : (s.emit o).cic k = s.cic k := rfl
@[simp] theorem State.emit_cell (o : Output) (k j : Nat) : (s.emit o).cell k j = s.cell k j := rfl
@[simp] theorem State.emit_ni (o : Output) (k j : Nat) : (s.emit o).ni k j = s.ni k j := rfl
@[simp] theorem State.emit_eru (o : Output) (k : Nat) : (s.emit o).eru k = s.eru k := rfl

/-! ### setPart -/

@[simp] theorem State.setPart_pending (p : Nat) (d : PartData) : (s.setPart p d).pending = s.pending := rfl
@[simp] theorem State.setPart_fet (p : Nat) (d : PartData) : (s.setPart p d).fet = s.fet := rfl
@[simp] theorem State.setPart_regs (p : Nat) (d : PartData) : (s.setPart p d).regs = s.regs := rfl
@[simp] theorem State.setPart_latches (p : Nat) (d : PartData) : (s.setPart p d).latches = s.latches := rfl
@[simp] theorem State.setPart_queues (p : Nat) (d : PartData) : (s.setPart p d).queues = s.queues := rfl
@[simp] theorem State.setPart_mgmtDropped (p : Nat) (d : PartData) : (s.setPart p d).mgmtDropped = s.mgmtDropped := rfl
@[simp] theorem State.setPart_rings (p : Nat) (d : PartData) : (s.setPart p d).rings = s.rings := rfl
@[simp] theorem State.setPart_jobs (p : Nat) (d : PartData) : (s.setPart p d).jobs = s.jobs := rfl
@[simp] theorem State.setPart_log (p : Nat) (d : PartData) : (s.setPart p d).log = s.log := rfl
@[simp] theorem State.setPart_injects (p : Nat) (d : PartData) : (s.setPart p d).injects = s.injects := rfl
@[simp] theorem State.setPart_time (p : Nat) (d : PartData) : (s.setPart p d).time = s.time := rfl
@[simp] theorem State.setPart_cicada (p : Nat) (d : PartData) : (s.setPart p d).cicada = s.cicada := rfl
@[simp] theorem State.setPart_boot (p : Nat) (d : PartData) : (s.setPart p d).boot = s.boot := rfl
@[simp] theorem State.setPart_power (p : Nat) (d : PartData) : (s.setPart p d).power = s.power := rfl
@[simp] theorem State.setPart_mgr (p : Nat) (d : PartData) : (s.setPart p d).mgr = s.mgr := rfl
@[simp] theorem State.setPart_bus (p : Nat) (d : PartData) : (s.setPart p d).bus = s.bus := rfl
@[simp] theorem State.setPart_fields (p : Nat) (d : PartData) : (s.setPart p d).fields = s.fields := rfl
@[simp] theorem State.setPart_vaults (p : Nat) (d : PartData) : (s.setPart p d).vaults = s.vaults := rfl
@[simp] theorem State.setPart_ports (p : Nat) (d : PartData) : (s.setPart p d).ports = s.ports := rfl
@[simp] theorem State.setPart_cells (p : Nat) (d : PartData) : (s.setPart p d).cells = s.cells := rfl
@[simp] theorem State.setPart_nis (p : Nat) (d : PartData) : (s.setPart p d).nis = s.nis := rfl
@[simp] theorem State.setPart_mesh (p : Nat) (d : PartData) : (s.setPart p d).mesh = s.mesh := rfl
@[simp] theorem State.setPart_erus (p : Nat) (d : PartData) : (s.setPart p d).erus = s.erus := rfl
@[simp] theorem State.setPart_out (p : Nat) (d : PartData) : (s.setPart p d).out = s.out := rfl
@[simp] theorem State.setPart_freeIdx (p : Nat) (d : PartData) : (s.setPart p d).freeIdx = s.freeIdx := rfl
@[simp] theorem State.setPart_rd (p : Nat) (d : PartData) (o : Nat) : (s.setPart p d).rd o = s.rd o := rfl
@[simp] theorem State.setPart_get (p : Nat) (d : PartData) (g : Fld) : (s.setPart p d).get g = s.get g := rfl
@[simp] theorem State.setPart_flag (p : Nat) (d : PartData) (g : Fld) : (s.setPart p d).flag g = s.flag g := rfl
@[simp] theorem State.setPart_fieldD (p : Nat) (d : PartData) (k : Nat) : (s.setPart p d).fieldD k = s.fieldD k := rfl
@[simp] theorem State.setPart_vault (p : Nat) (d : PartData) (k : Nat) : (s.setPart p d).vault k = s.vault k := rfl
@[simp] theorem State.setPart_port (p : Nat) (d : PartData) (k : Nat) : (s.setPart p d).port k = s.port k := rfl
@[simp] theorem State.setPart_cic (p : Nat) (d : PartData) (k : Nat) : (s.setPart p d).cic k = s.cic k := rfl
@[simp] theorem State.setPart_cell (p : Nat) (d : PartData) (k j : Nat) : (s.setPart p d).cell k j = s.cell k j := rfl
@[simp] theorem State.setPart_ni (p : Nat) (d : PartData) (k j : Nat) : (s.setPart p d).ni k j = s.ni k j := rfl
@[simp] theorem State.setPart_eru (p : Nat) (d : PartData) (k : Nat) : (s.setPart p d).eru k = s.eru k := rfl

/-! ### setField -/

@[simp] theorem State.setField_pending (f : Nat) (d : FieldState) : (s.setField f d).pending = s.pending := rfl
@[simp] theorem State.setField_fet (f : Nat) (d : FieldState) : (s.setField f d).fet = s.fet := rfl
@[simp] theorem State.setField_regs (f : Nat) (d : FieldState) : (s.setField f d).regs = s.regs := rfl
@[simp] theorem State.setField_latches (f : Nat) (d : FieldState) : (s.setField f d).latches = s.latches := rfl
@[simp] theorem State.setField_queues (f : Nat) (d : FieldState) : (s.setField f d).queues = s.queues := rfl
@[simp] theorem State.setField_mgmtDropped (f : Nat) (d : FieldState) : (s.setField f d).mgmtDropped = s.mgmtDropped := rfl
@[simp] theorem State.setField_rings (f : Nat) (d : FieldState) : (s.setField f d).rings = s.rings := rfl
@[simp] theorem State.setField_jobs (f : Nat) (d : FieldState) : (s.setField f d).jobs = s.jobs := rfl
@[simp] theorem State.setField_parts (f : Nat) (d : FieldState) : (s.setField f d).parts = s.parts := rfl
@[simp] theorem State.setField_log (f : Nat) (d : FieldState) : (s.setField f d).log = s.log := rfl
@[simp] theorem State.setField_injects (f : Nat) (d : FieldState) : (s.setField f d).injects = s.injects := rfl
@[simp] theorem State.setField_time (f : Nat) (d : FieldState) : (s.setField f d).time = s.time := rfl
@[simp] theorem State.setField_cicada (f : Nat) (d : FieldState) : (s.setField f d).cicada = s.cicada := rfl
@[simp] theorem State.setField_boot (f : Nat) (d : FieldState) : (s.setField f d).boot = s.boot := rfl
@[simp] theorem State.setField_power (f : Nat) (d : FieldState) : (s.setField f d).power = s.power := rfl
@[simp] theorem State.setField_mgr (f : Nat) (d : FieldState) : (s.setField f d).mgr = s.mgr := rfl
@[simp] theorem State.setField_bus (f : Nat) (d : FieldState) : (s.setField f d).bus = s.bus := rfl
@[simp] theorem State.setField_vaults (f : Nat) (d : FieldState) : (s.setField f d).vaults = s.vaults := rfl
@[simp] theorem State.setField_ports (f : Nat) (d : FieldState) : (s.setField f d).ports = s.ports := rfl
@[simp] theorem State.setField_cells (f : Nat) (d : FieldState) : (s.setField f d).cells = s.cells := rfl
@[simp] theorem State.setField_nis (f : Nat) (d : FieldState) : (s.setField f d).nis = s.nis := rfl
@[simp] theorem State.setField_mesh (f : Nat) (d : FieldState) : (s.setField f d).mesh = s.mesh := rfl
@[simp] theorem State.setField_erus (f : Nat) (d : FieldState) : (s.setField f d).erus = s.erus := rfl
@[simp] theorem State.setField_out (f : Nat) (d : FieldState) : (s.setField f d).out = s.out := rfl
@[simp] theorem State.setField_freeIdx (f : Nat) (d : FieldState) : (s.setField f d).freeIdx = s.freeIdx := rfl
@[simp] theorem State.setField_rd (f : Nat) (d : FieldState) (o : Nat) : (s.setField f d).rd o = s.rd o := rfl
@[simp] theorem State.setField_get (f : Nat) (d : FieldState) (g : Fld) : (s.setField f d).get g = s.get g := rfl
@[simp] theorem State.setField_flag (f : Nat) (d : FieldState) (g : Fld) : (s.setField f d).flag g = s.flag g := rfl
@[simp] theorem State.setField_part (f : Nat) (d : FieldState) (k : Nat) : (s.setField f d).part k = s.part k := rfl
@[simp] theorem State.setField_vault (f : Nat) (d : FieldState) (k : Nat) : (s.setField f d).vault k = s.vault k := rfl
@[simp] theorem State.setField_port (f : Nat) (d : FieldState) (k : Nat) : (s.setField f d).port k = s.port k := rfl
@[simp] theorem State.setField_cic (f : Nat) (d : FieldState) (k : Nat) : (s.setField f d).cic k = s.cic k := rfl
@[simp] theorem State.setField_cell (f : Nat) (d : FieldState) (k j : Nat) : (s.setField f d).cell k j = s.cell k j := rfl
@[simp] theorem State.setField_ni (f : Nat) (d : FieldState) (k j : Nat) : (s.setField f d).ni k j = s.ni k j := rfl
@[simp] theorem State.setField_eru (f : Nat) (d : FieldState) (k : Nat) : (s.setField f d).eru k = s.eru k := rfl

/-! ### setVault -/

@[simp] theorem State.setVault_pending (v : Nat) (d : VaultState) : (s.setVault v d).pending = s.pending := rfl
@[simp] theorem State.setVault_fet (v : Nat) (d : VaultState) : (s.setVault v d).fet = s.fet := rfl
@[simp] theorem State.setVault_regs (v : Nat) (d : VaultState) : (s.setVault v d).regs = s.regs := rfl
@[simp] theorem State.setVault_latches (v : Nat) (d : VaultState) : (s.setVault v d).latches = s.latches := rfl
@[simp] theorem State.setVault_queues (v : Nat) (d : VaultState) : (s.setVault v d).queues = s.queues := rfl
@[simp] theorem State.setVault_mgmtDropped (v : Nat) (d : VaultState) : (s.setVault v d).mgmtDropped = s.mgmtDropped := rfl
@[simp] theorem State.setVault_rings (v : Nat) (d : VaultState) : (s.setVault v d).rings = s.rings := rfl
@[simp] theorem State.setVault_jobs (v : Nat) (d : VaultState) : (s.setVault v d).jobs = s.jobs := rfl
@[simp] theorem State.setVault_parts (v : Nat) (d : VaultState) : (s.setVault v d).parts = s.parts := rfl
@[simp] theorem State.setVault_log (v : Nat) (d : VaultState) : (s.setVault v d).log = s.log := rfl
@[simp] theorem State.setVault_injects (v : Nat) (d : VaultState) : (s.setVault v d).injects = s.injects := rfl
@[simp] theorem State.setVault_time (v : Nat) (d : VaultState) : (s.setVault v d).time = s.time := rfl
@[simp] theorem State.setVault_cicada (v : Nat) (d : VaultState) : (s.setVault v d).cicada = s.cicada := rfl
@[simp] theorem State.setVault_boot (v : Nat) (d : VaultState) : (s.setVault v d).boot = s.boot := rfl
@[simp] theorem State.setVault_power (v : Nat) (d : VaultState) : (s.setVault v d).power = s.power := rfl
@[simp] theorem State.setVault_mgr (v : Nat) (d : VaultState) : (s.setVault v d).mgr = s.mgr := rfl
@[simp] theorem State.setVault_bus (v : Nat) (d : VaultState) : (s.setVault v d).bus = s.bus := rfl
@[simp] theorem State.setVault_fields (v : Nat) (d : VaultState) : (s.setVault v d).fields = s.fields := rfl
@[simp] theorem State.setVault_ports (v : Nat) (d : VaultState) : (s.setVault v d).ports = s.ports := rfl
@[simp] theorem State.setVault_cells (v : Nat) (d : VaultState) : (s.setVault v d).cells = s.cells := rfl
@[simp] theorem State.setVault_nis (v : Nat) (d : VaultState) : (s.setVault v d).nis = s.nis := rfl
@[simp] theorem State.setVault_mesh (v : Nat) (d : VaultState) : (s.setVault v d).mesh = s.mesh := rfl
@[simp] theorem State.setVault_erus (v : Nat) (d : VaultState) : (s.setVault v d).erus = s.erus := rfl
@[simp] theorem State.setVault_out (v : Nat) (d : VaultState) : (s.setVault v d).out = s.out := rfl
@[simp] theorem State.setVault_freeIdx (v : Nat) (d : VaultState) : (s.setVault v d).freeIdx = s.freeIdx := rfl
@[simp] theorem State.setVault_rd (v : Nat) (d : VaultState) (o : Nat) : (s.setVault v d).rd o = s.rd o := rfl
@[simp] theorem State.setVault_get (v : Nat) (d : VaultState) (g : Fld) : (s.setVault v d).get g = s.get g := rfl
@[simp] theorem State.setVault_flag (v : Nat) (d : VaultState) (g : Fld) : (s.setVault v d).flag g = s.flag g := rfl
@[simp] theorem State.setVault_part (v : Nat) (d : VaultState) (k : Nat) : (s.setVault v d).part k = s.part k := rfl
@[simp] theorem State.setVault_fieldD (v : Nat) (d : VaultState) (k : Nat) : (s.setVault v d).fieldD k = s.fieldD k := rfl
@[simp] theorem State.setVault_port (v : Nat) (d : VaultState) (k : Nat) : (s.setVault v d).port k = s.port k := rfl
@[simp] theorem State.setVault_cic (v : Nat) (d : VaultState) (k : Nat) : (s.setVault v d).cic k = s.cic k := rfl
@[simp] theorem State.setVault_cell (v : Nat) (d : VaultState) (k j : Nat) : (s.setVault v d).cell k j = s.cell k j := rfl
@[simp] theorem State.setVault_ni (v : Nat) (d : VaultState) (k j : Nat) : (s.setVault v d).ni k j = s.ni k j := rfl
@[simp] theorem State.setVault_eru (v : Nat) (d : VaultState) (k : Nat) : (s.setVault v d).eru k = s.eru k := rfl

/-! ### putQueue -/

@[simp] theorem State.putQueue_pending (q : QueueData) : (s.putQueue q).pending = s.pending := rfl
@[simp] theorem State.putQueue_fet (q : QueueData) : (s.putQueue q).fet = s.fet := rfl
@[simp] theorem State.putQueue_regs (q : QueueData) : (s.putQueue q).regs = s.regs := rfl
@[simp] theorem State.putQueue_latches (q : QueueData) : (s.putQueue q).latches = s.latches := rfl
@[simp] theorem State.putQueue_rings (q : QueueData) : (s.putQueue q).rings = s.rings := rfl
@[simp] theorem State.putQueue_mgmtDropped (q : QueueData) : (s.putQueue q).mgmtDropped = s.mgmtDropped := rfl
@[simp] theorem State.putQueue_jobs (q : QueueData) : (s.putQueue q).jobs = s.jobs := rfl
@[simp] theorem State.putQueue_parts (q : QueueData) : (s.putQueue q).parts = s.parts := rfl
@[simp] theorem State.putQueue_log (q : QueueData) : (s.putQueue q).log = s.log := rfl
@[simp] theorem State.putQueue_injects (q : QueueData) : (s.putQueue q).injects = s.injects := rfl
@[simp] theorem State.putQueue_time (q : QueueData) : (s.putQueue q).time = s.time := rfl
@[simp] theorem State.putQueue_cicada (q : QueueData) : (s.putQueue q).cicada = s.cicada := rfl
@[simp] theorem State.putQueue_boot (q : QueueData) : (s.putQueue q).boot = s.boot := rfl
@[simp] theorem State.putQueue_power (q : QueueData) : (s.putQueue q).power = s.power := rfl
@[simp] theorem State.putQueue_mgr (q : QueueData) : (s.putQueue q).mgr = s.mgr := rfl
@[simp] theorem State.putQueue_bus (q : QueueData) : (s.putQueue q).bus = s.bus := rfl
@[simp] theorem State.putQueue_fields (q : QueueData) : (s.putQueue q).fields = s.fields := rfl
@[simp] theorem State.putQueue_vaults (q : QueueData) : (s.putQueue q).vaults = s.vaults := rfl
@[simp] theorem State.putQueue_cells (q : QueueData) : (s.putQueue q).cells = s.cells := rfl
@[simp] theorem State.putQueue_nis (q : QueueData) : (s.putQueue q).nis = s.nis := rfl
@[simp] theorem State.putQueue_mesh (q : QueueData) : (s.putQueue q).mesh = s.mesh := rfl
@[simp] theorem State.putQueue_erus (q : QueueData) : (s.putQueue q).erus = s.erus := rfl
@[simp] theorem State.putQueue_out (q : QueueData) : (s.putQueue q).out = s.out := rfl
@[simp] theorem State.putQueue_freeIdx (q : QueueData) : (s.putQueue q).freeIdx = s.freeIdx := rfl
@[simp] theorem State.putQueue_rd (q : QueueData) (o : Nat) : (s.putQueue q).rd o = s.rd o := rfl
@[simp] theorem State.putQueue_get (q : QueueData) (g : Fld) : (s.putQueue q).get g = s.get g := rfl
@[simp] theorem State.putQueue_flag (q : QueueData) (g : Fld) : (s.putQueue q).flag g = s.flag g := rfl
@[simp] theorem State.putQueue_part (q : QueueData) (k : Nat) : (s.putQueue q).part k = s.part k := rfl
@[simp] theorem State.putQueue_fieldD (q : QueueData) (k : Nat) : (s.putQueue q).fieldD k = s.fieldD k := rfl
@[simp] theorem State.putQueue_vault (q : QueueData) (k : Nat) : (s.putQueue q).vault k = s.vault k := rfl
@[simp] theorem State.putQueue_cic (q : QueueData) (k : Nat) : (s.putQueue q).cic k = s.cic k := rfl
@[simp] theorem State.putQueue_cell (q : QueueData) (k j : Nat) : (s.putQueue q).cell k j = s.cell k j := rfl
@[simp] theorem State.putQueue_ni (q : QueueData) (k j : Nat) : (s.putQueue q).ni k j = s.ni k j := rfl
@[simp] theorem State.putQueue_eru (q : QueueData) (k : Nat) : (s.putQueue q).eru k = s.eru k := rfl
@[simp] theorem State.putQueue_ports (q : QueueData) : (s.putQueue q).ports = s.ports := rfl
@[simp] theorem State.putQueue_port (q : QueueData) (k : Nat) : (s.putQueue q).port k = s.port k := rfl

/-! ### putRing -/

@[simp] theorem State.putRing_pending (ep q : Nat) (d : RingData) : (s.putRing ep q d).pending = s.pending := rfl
@[simp] theorem State.putRing_fet (ep q : Nat) (d : RingData) : (s.putRing ep q d).fet = s.fet := rfl
@[simp] theorem State.putRing_regs (ep q : Nat) (d : RingData) : (s.putRing ep q d).regs = s.regs := rfl
@[simp] theorem State.putRing_latches (ep q : Nat) (d : RingData) : (s.putRing ep q d).latches = s.latches := rfl
@[simp] theorem State.putRing_queues (ep q : Nat) (d : RingData) : (s.putRing ep q d).queues = s.queues := rfl
@[simp] theorem State.putRing_mgmtDropped (ep q : Nat) (d : RingData) : (s.putRing ep q d).mgmtDropped = s.mgmtDropped := rfl
@[simp] theorem State.putRing_jobs (ep q : Nat) (d : RingData) : (s.putRing ep q d).jobs = s.jobs := rfl
@[simp] theorem State.putRing_parts (ep q : Nat) (d : RingData) : (s.putRing ep q d).parts = s.parts := rfl
@[simp] theorem State.putRing_log (ep q : Nat) (d : RingData) : (s.putRing ep q d).log = s.log := rfl
@[simp] theorem State.putRing_injects (ep q : Nat) (d : RingData) : (s.putRing ep q d).injects = s.injects := rfl
@[simp] theorem State.putRing_time (ep q : Nat) (d : RingData) : (s.putRing ep q d).time = s.time := rfl
@[simp] theorem State.putRing_cicada (ep q : Nat) (d : RingData) : (s.putRing ep q d).cicada = s.cicada := rfl
@[simp] theorem State.putRing_boot (ep q : Nat) (d : RingData) : (s.putRing ep q d).boot = s.boot := rfl
@[simp] theorem State.putRing_power (ep q : Nat) (d : RingData) : (s.putRing ep q d).power = s.power := rfl
@[simp] theorem State.putRing_mgr (ep q : Nat) (d : RingData) : (s.putRing ep q d).mgr = s.mgr := rfl
@[simp] theorem State.putRing_bus (ep q : Nat) (d : RingData) : (s.putRing ep q d).bus = s.bus := rfl
@[simp] theorem State.putRing_fields (ep q : Nat) (d : RingData) : (s.putRing ep q d).fields = s.fields := rfl
@[simp] theorem State.putRing_vaults (ep q : Nat) (d : RingData) : (s.putRing ep q d).vaults = s.vaults := rfl
@[simp] theorem State.putRing_cells (ep q : Nat) (d : RingData) : (s.putRing ep q d).cells = s.cells := rfl
@[simp] theorem State.putRing_nis (ep q : Nat) (d : RingData) : (s.putRing ep q d).nis = s.nis := rfl
@[simp] theorem State.putRing_mesh (ep q : Nat) (d : RingData) : (s.putRing ep q d).mesh = s.mesh := rfl
@[simp] theorem State.putRing_erus (ep q : Nat) (d : RingData) : (s.putRing ep q d).erus = s.erus := rfl
@[simp] theorem State.putRing_out (ep q : Nat) (d : RingData) : (s.putRing ep q d).out = s.out := rfl
@[simp] theorem State.putRing_freeIdx (ep q : Nat) (d : RingData) : (s.putRing ep q d).freeIdx = s.freeIdx := rfl
@[simp] theorem State.putRing_rd (ep q : Nat) (d : RingData) (o : Nat) : (s.putRing ep q d).rd o = s.rd o := rfl
@[simp] theorem State.putRing_get (ep q : Nat) (d : RingData) (g : Fld) : (s.putRing ep q d).get g = s.get g := rfl
@[simp] theorem State.putRing_flag (ep q : Nat) (d : RingData) (g : Fld) : (s.putRing ep q d).flag g = s.flag g := rfl
@[simp] theorem State.putRing_part (ep q : Nat) (d : RingData) (k : Nat) : (s.putRing ep q d).part k = s.part k := rfl
@[simp] theorem State.putRing_fieldD (ep q : Nat) (d : RingData) (k : Nat) : (s.putRing ep q d).fieldD k = s.fieldD k := rfl
@[simp] theorem State.putRing_vault (ep q : Nat) (d : RingData) (k : Nat) : (s.putRing ep q d).vault k = s.vault k := rfl
@[simp] theorem State.putRing_cic (ep q : Nat) (d : RingData) (k : Nat) : (s.putRing ep q d).cic k = s.cic k := rfl
@[simp] theorem State.putRing_cell (ep q : Nat) (d : RingData) (k j : Nat) : (s.putRing ep q d).cell k j = s.cell k j := rfl
@[simp] theorem State.putRing_ni (ep q : Nat) (d : RingData) (k j : Nat) : (s.putRing ep q d).ni k j = s.ni k j := rfl
@[simp] theorem State.putRing_eru (ep q : Nat) (d : RingData) (k : Nat) : (s.putRing ep q d).eru k = s.eru k := rfl
@[simp] theorem State.putRing_ports (ep q : Nat) (d : RingData) : (s.putRing ep q d).ports = s.ports := rfl
@[simp] theorem State.putRing_port (ep q : Nat) (d : RingData) (k : Nat) : (s.putRing ep q d).port k = s.port k := rfl

/-! ### setPort -/

@[simp] theorem State.setPort_pending (n : Nat) (d : PortState) : (s.setPort n d).pending = s.pending := rfl
@[simp] theorem State.setPort_fet (n : Nat) (d : PortState) : (s.setPort n d).fet = s.fet := rfl
@[simp] theorem State.setPort_regs (n : Nat) (d : PortState) : (s.setPort n d).regs = s.regs := rfl
@[simp] theorem State.setPort_latches (n : Nat) (d : PortState) : (s.setPort n d).latches = s.latches := rfl
@[simp] theorem State.setPort_queues (n : Nat) (d : PortState) : (s.setPort n d).queues = s.queues := rfl
@[simp] theorem State.setPort_mgmtDropped (n : Nat) (d : PortState) : (s.setPort n d).mgmtDropped = s.mgmtDropped := rfl
@[simp] theorem State.setPort_rings (n : Nat) (d : PortState) : (s.setPort n d).rings = s.rings := rfl
@[simp] theorem State.setPort_jobs (n : Nat) (d : PortState) : (s.setPort n d).jobs = s.jobs := rfl
@[simp] theorem State.setPort_parts (n : Nat) (d : PortState) : (s.setPort n d).parts = s.parts := rfl
@[simp] theorem State.setPort_log (n : Nat) (d : PortState) : (s.setPort n d).log = s.log := rfl
@[simp] theorem State.setPort_injects (n : Nat) (d : PortState) : (s.setPort n d).injects = s.injects := rfl
@[simp] theorem State.setPort_time (n : Nat) (d : PortState) : (s.setPort n d).time = s.time := rfl
@[simp] theorem State.setPort_cicada (n : Nat) (d : PortState) : (s.setPort n d).cicada = s.cicada := rfl
@[simp] theorem State.setPort_boot (n : Nat) (d : PortState) : (s.setPort n d).boot = s.boot := rfl
@[simp] theorem State.setPort_power (n : Nat) (d : PortState) : (s.setPort n d).power = s.power := rfl
@[simp] theorem State.setPort_mgr (n : Nat) (d : PortState) : (s.setPort n d).mgr = s.mgr := rfl
@[simp] theorem State.setPort_bus (n : Nat) (d : PortState) : (s.setPort n d).bus = s.bus := rfl
@[simp] theorem State.setPort_fields (n : Nat) (d : PortState) : (s.setPort n d).fields = s.fields := rfl
@[simp] theorem State.setPort_vaults (n : Nat) (d : PortState) : (s.setPort n d).vaults = s.vaults := rfl
@[simp] theorem State.setPort_cells (n : Nat) (d : PortState) : (s.setPort n d).cells = s.cells := rfl
@[simp] theorem State.setPort_nis (n : Nat) (d : PortState) : (s.setPort n d).nis = s.nis := rfl
@[simp] theorem State.setPort_mesh (n : Nat) (d : PortState) : (s.setPort n d).mesh = s.mesh := rfl
@[simp] theorem State.setPort_erus (n : Nat) (d : PortState) : (s.setPort n d).erus = s.erus := rfl
@[simp] theorem State.setPort_out (n : Nat) (d : PortState) : (s.setPort n d).out = s.out := rfl
@[simp] theorem State.setPort_freeIdx (n : Nat) (d : PortState) : (s.setPort n d).freeIdx = s.freeIdx := rfl
@[simp] theorem State.setPort_rd (n : Nat) (d : PortState) (o : Nat) : (s.setPort n d).rd o = s.rd o := rfl
@[simp] theorem State.setPort_get (n : Nat) (d : PortState) (g : Fld) : (s.setPort n d).get g = s.get g := rfl
@[simp] theorem State.setPort_flag (n : Nat) (d : PortState) (g : Fld) : (s.setPort n d).flag g = s.flag g := rfl
@[simp] theorem State.setPort_part (n : Nat) (d : PortState) (k : Nat) : (s.setPort n d).part k = s.part k := rfl
@[simp] theorem State.setPort_fieldD (n : Nat) (d : PortState) (k : Nat) : (s.setPort n d).fieldD k = s.fieldD k := rfl
@[simp] theorem State.setPort_vault (n : Nat) (d : PortState) (k : Nat) : (s.setPort n d).vault k = s.vault k := rfl
@[simp] theorem State.setPort_cic (n : Nat) (d : PortState) (k : Nat) : (s.setPort n d).cic k = s.cic k := rfl
@[simp] theorem State.setPort_cell (n : Nat) (d : PortState) (k j : Nat) : (s.setPort n d).cell k j = s.cell k j := rfl
@[simp] theorem State.setPort_ni (n : Nat) (d : PortState) (k j : Nat) : (s.setPort n d).ni k j = s.ni k j := rfl
@[simp] theorem State.setPort_eru (n : Nat) (d : PortState) (k : Nat) : (s.setPort n d).eru k = s.eru k := rfl

/-! ### setCic -/

@[simp] theorem State.setCic_pending (n : Nat) (d : CicadaPort) : (s.setCic n d).pending = s.pending := rfl
@[simp] theorem State.setCic_fet (n : Nat) (d : CicadaPort) : (s.setCic n d).fet = s.fet := rfl
@[simp] theorem State.setCic_regs (n : Nat) (d : CicadaPort) : (s.setCic n d).regs = s.regs := rfl
@[simp] theorem State.setCic_latches (n : Nat) (d : CicadaPort) : (s.setCic n d).latches = s.latches := rfl
@[simp] theorem State.setCic_queues (n : Nat) (d : CicadaPort) : (s.setCic n d).queues = s.queues := rfl
@[simp] theorem State.setCic_mgmtDropped (n : Nat) (d : CicadaPort) : (s.setCic n d).mgmtDropped = s.mgmtDropped := rfl
@[simp] theorem State.setCic_rings (n : Nat) (d : CicadaPort) : (s.setCic n d).rings = s.rings := rfl
@[simp] theorem State.setCic_jobs (n : Nat) (d : CicadaPort) : (s.setCic n d).jobs = s.jobs := rfl
@[simp] theorem State.setCic_parts (n : Nat) (d : CicadaPort) : (s.setCic n d).parts = s.parts := rfl
@[simp] theorem State.setCic_log (n : Nat) (d : CicadaPort) : (s.setCic n d).log = s.log := rfl
@[simp] theorem State.setCic_injects (n : Nat) (d : CicadaPort) : (s.setCic n d).injects = s.injects := rfl
@[simp] theorem State.setCic_time (n : Nat) (d : CicadaPort) : (s.setCic n d).time = s.time := rfl
@[simp] theorem State.setCic_boot (n : Nat) (d : CicadaPort) : (s.setCic n d).boot = s.boot := rfl
@[simp] theorem State.setCic_power (n : Nat) (d : CicadaPort) : (s.setCic n d).power = s.power := rfl
@[simp] theorem State.setCic_mgr (n : Nat) (d : CicadaPort) : (s.setCic n d).mgr = s.mgr := rfl
@[simp] theorem State.setCic_bus (n : Nat) (d : CicadaPort) : (s.setCic n d).bus = s.bus := rfl
@[simp] theorem State.setCic_fields (n : Nat) (d : CicadaPort) : (s.setCic n d).fields = s.fields := rfl
@[simp] theorem State.setCic_vaults (n : Nat) (d : CicadaPort) : (s.setCic n d).vaults = s.vaults := rfl
@[simp] theorem State.setCic_ports (n : Nat) (d : CicadaPort) : (s.setCic n d).ports = s.ports := rfl
@[simp] theorem State.setCic_cells (n : Nat) (d : CicadaPort) : (s.setCic n d).cells = s.cells := rfl
@[simp] theorem State.setCic_nis (n : Nat) (d : CicadaPort) : (s.setCic n d).nis = s.nis := rfl
@[simp] theorem State.setCic_mesh (n : Nat) (d : CicadaPort) : (s.setCic n d).mesh = s.mesh := rfl
@[simp] theorem State.setCic_erus (n : Nat) (d : CicadaPort) : (s.setCic n d).erus = s.erus := rfl
@[simp] theorem State.setCic_out (n : Nat) (d : CicadaPort) : (s.setCic n d).out = s.out := rfl
@[simp] theorem State.setCic_freeIdx (n : Nat) (d : CicadaPort) : (s.setCic n d).freeIdx = s.freeIdx := rfl
@[simp] theorem State.setCic_rd (n : Nat) (d : CicadaPort) (o : Nat) : (s.setCic n d).rd o = s.rd o := rfl
@[simp] theorem State.setCic_get (n : Nat) (d : CicadaPort) (g : Fld) : (s.setCic n d).get g = s.get g := rfl
@[simp] theorem State.setCic_flag (n : Nat) (d : CicadaPort) (g : Fld) : (s.setCic n d).flag g = s.flag g := rfl
@[simp] theorem State.setCic_part (n : Nat) (d : CicadaPort) (k : Nat) : (s.setCic n d).part k = s.part k := rfl
@[simp] theorem State.setCic_fieldD (n : Nat) (d : CicadaPort) (k : Nat) : (s.setCic n d).fieldD k = s.fieldD k := rfl
@[simp] theorem State.setCic_vault (n : Nat) (d : CicadaPort) (k : Nat) : (s.setCic n d).vault k = s.vault k := rfl
@[simp] theorem State.setCic_port (n : Nat) (d : CicadaPort) (k : Nat) : (s.setCic n d).port k = s.port k := rfl
@[simp] theorem State.setCic_cell (n : Nat) (d : CicadaPort) (k j : Nat) : (s.setCic n d).cell k j = s.cell k j := rfl
@[simp] theorem State.setCic_ni (n : Nat) (d : CicadaPort) (k j : Nat) : (s.setCic n d).ni k j = s.ni k j := rfl
@[simp] theorem State.setCic_eru (n : Nat) (d : CicadaPort) (k : Nat) : (s.setCic n d).eru k = s.eru k := rfl

/-! ### setCell -/

@[simp] theorem State.setCell_pending (f pos : Nat) (c : CellState) : (s.setCell f pos c).pending = s.pending := rfl
@[simp] theorem State.setCell_fet (f pos : Nat) (c : CellState) : (s.setCell f pos c).fet = s.fet := rfl
@[simp] theorem State.setCell_regs (f pos : Nat) (c : CellState) : (s.setCell f pos c).regs = s.regs := rfl
@[simp] theorem State.setCell_latches (f pos : Nat) (c : CellState) : (s.setCell f pos c).latches = s.latches := rfl
@[simp] theorem State.setCell_queues (f pos : Nat) (c : CellState) : (s.setCell f pos c).queues = s.queues := rfl
@[simp] theorem State.setCell_mgmtDropped (f pos : Nat) (c : CellState) : (s.setCell f pos c).mgmtDropped = s.mgmtDropped := rfl
@[simp] theorem State.setCell_rings (f pos : Nat) (c : CellState) : (s.setCell f pos c).rings = s.rings := rfl
@[simp] theorem State.setCell_jobs (f pos : Nat) (c : CellState) : (s.setCell f pos c).jobs = s.jobs := rfl
@[simp] theorem State.setCell_parts (f pos : Nat) (c : CellState) : (s.setCell f pos c).parts = s.parts := rfl
@[simp] theorem State.setCell_log (f pos : Nat) (c : CellState) : (s.setCell f pos c).log = s.log := rfl
@[simp] theorem State.setCell_injects (f pos : Nat) (c : CellState) : (s.setCell f pos c).injects = s.injects := rfl
@[simp] theorem State.setCell_time (f pos : Nat) (c : CellState) : (s.setCell f pos c).time = s.time := rfl
@[simp] theorem State.setCell_cicada (f pos : Nat) (c : CellState) : (s.setCell f pos c).cicada = s.cicada := rfl
@[simp] theorem State.setCell_boot (f pos : Nat) (c : CellState) : (s.setCell f pos c).boot = s.boot := rfl
@[simp] theorem State.setCell_power (f pos : Nat) (c : CellState) : (s.setCell f pos c).power = s.power := rfl
@[simp] theorem State.setCell_mgr (f pos : Nat) (c : CellState) : (s.setCell f pos c).mgr = s.mgr := rfl
@[simp] theorem State.setCell_bus (f pos : Nat) (c : CellState) : (s.setCell f pos c).bus = s.bus := rfl
@[simp] theorem State.setCell_fields (f pos : Nat) (c : CellState) : (s.setCell f pos c).fields = s.fields := rfl
@[simp] theorem State.setCell_vaults (f pos : Nat) (c : CellState) : (s.setCell f pos c).vaults = s.vaults := rfl
@[simp] theorem State.setCell_ports (f pos : Nat) (c : CellState) : (s.setCell f pos c).ports = s.ports := rfl
@[simp] theorem State.setCell_nis (f pos : Nat) (c : CellState) : (s.setCell f pos c).nis = s.nis := rfl
@[simp] theorem State.setCell_mesh (f pos : Nat) (c : CellState) : (s.setCell f pos c).mesh = s.mesh := rfl
@[simp] theorem State.setCell_erus (f pos : Nat) (c : CellState) : (s.setCell f pos c).erus = s.erus := rfl
@[simp] theorem State.setCell_out (f pos : Nat) (c : CellState) : (s.setCell f pos c).out = s.out := rfl
@[simp] theorem State.setCell_freeIdx (f pos : Nat) (c : CellState) : (s.setCell f pos c).freeIdx = s.freeIdx := rfl
@[simp] theorem State.setCell_rd (f pos : Nat) (c : CellState) (o : Nat) : (s.setCell f pos c).rd o = s.rd o := rfl
@[simp] theorem State.setCell_get (f pos : Nat) (c : CellState) (g : Fld) : (s.setCell f pos c).get g = s.get g := rfl
@[simp] theorem State.setCell_flag (f pos : Nat) (c : CellState) (g : Fld) : (s.setCell f pos c).flag g = s.flag g := rfl
@[simp] theorem State.setCell_part (f pos : Nat) (c : CellState) (k : Nat) : (s.setCell f pos c).part k = s.part k := rfl
@[simp] theorem State.setCell_fieldD (f pos : Nat) (c : CellState) (k : Nat) : (s.setCell f pos c).fieldD k = s.fieldD k := rfl
@[simp] theorem State.setCell_vault (f pos : Nat) (c : CellState) (k : Nat) : (s.setCell f pos c).vault k = s.vault k := rfl
@[simp] theorem State.setCell_port (f pos : Nat) (c : CellState) (k : Nat) : (s.setCell f pos c).port k = s.port k := rfl
@[simp] theorem State.setCell_cic (f pos : Nat) (c : CellState) (k : Nat) : (s.setCell f pos c).cic k = s.cic k := rfl
@[simp] theorem State.setCell_ni (f pos : Nat) (c : CellState) (k j : Nat) : (s.setCell f pos c).ni k j = s.ni k j := rfl
@[simp] theorem State.setCell_eru (f pos : Nat) (c : CellState) (k : Nat) : (s.setCell f pos c).eru k = s.eru k := rfl

/-! ### setNi -/

@[simp] theorem State.setNi_pending (f node : Nat) (d : NiState) : (s.setNi f node d).pending = s.pending := rfl
@[simp] theorem State.setNi_fet (f node : Nat) (d : NiState) : (s.setNi f node d).fet = s.fet := rfl
@[simp] theorem State.setNi_regs (f node : Nat) (d : NiState) : (s.setNi f node d).regs = s.regs := rfl
@[simp] theorem State.setNi_latches (f node : Nat) (d : NiState) : (s.setNi f node d).latches = s.latches := rfl
@[simp] theorem State.setNi_queues (f node : Nat) (d : NiState) : (s.setNi f node d).queues = s.queues := rfl
@[simp] theorem State.setNi_mgmtDropped (f node : Nat) (d : NiState) : (s.setNi f node d).mgmtDropped = s.mgmtDropped := rfl
@[simp] theorem State.setNi_rings (f node : Nat) (d : NiState) : (s.setNi f node d).rings = s.rings := rfl
@[simp] theorem State.setNi_jobs (f node : Nat) (d : NiState) : (s.setNi f node d).jobs = s.jobs := rfl
@[simp] theorem State.setNi_parts (f node : Nat) (d : NiState) : (s.setNi f node d).parts = s.parts := rfl
@[simp] theorem State.setNi_log (f node : Nat) (d : NiState) : (s.setNi f node d).log = s.log := rfl
@[simp] theorem State.setNi_injects (f node : Nat) (d : NiState) : (s.setNi f node d).injects = s.injects := rfl
@[simp] theorem State.setNi_time (f node : Nat) (d : NiState) : (s.setNi f node d).time = s.time := rfl
@[simp] theorem State.setNi_cicada (f node : Nat) (d : NiState) : (s.setNi f node d).cicada = s.cicada := rfl
@[simp] theorem State.setNi_boot (f node : Nat) (d : NiState) : (s.setNi f node d).boot = s.boot := rfl
@[simp] theorem State.setNi_power (f node : Nat) (d : NiState) : (s.setNi f node d).power = s.power := rfl
@[simp] theorem State.setNi_mgr (f node : Nat) (d : NiState) : (s.setNi f node d).mgr = s.mgr := rfl
@[simp] theorem State.setNi_bus (f node : Nat) (d : NiState) : (s.setNi f node d).bus = s.bus := rfl
@[simp] theorem State.setNi_fields (f node : Nat) (d : NiState) : (s.setNi f node d).fields = s.fields := rfl
@[simp] theorem State.setNi_vaults (f node : Nat) (d : NiState) : (s.setNi f node d).vaults = s.vaults := rfl
@[simp] theorem State.setNi_ports (f node : Nat) (d : NiState) : (s.setNi f node d).ports = s.ports := rfl
@[simp] theorem State.setNi_cells (f node : Nat) (d : NiState) : (s.setNi f node d).cells = s.cells := rfl
@[simp] theorem State.setNi_mesh (f node : Nat) (d : NiState) : (s.setNi f node d).mesh = s.mesh := rfl
@[simp] theorem State.setNi_erus (f node : Nat) (d : NiState) : (s.setNi f node d).erus = s.erus := rfl
@[simp] theorem State.setNi_out (f node : Nat) (d : NiState) : (s.setNi f node d).out = s.out := rfl
@[simp] theorem State.setNi_freeIdx (f node : Nat) (d : NiState) : (s.setNi f node d).freeIdx = s.freeIdx := rfl
@[simp] theorem State.setNi_rd (f node : Nat) (d : NiState) (o : Nat) : (s.setNi f node d).rd o = s.rd o := rfl
@[simp] theorem State.setNi_get (f node : Nat) (d : NiState) (g : Fld) : (s.setNi f node d).get g = s.get g := rfl
@[simp] theorem State.setNi_flag (f node : Nat) (d : NiState) (g : Fld) : (s.setNi f node d).flag g = s.flag g := rfl
@[simp] theorem State.setNi_part (f node : Nat) (d : NiState) (k : Nat) : (s.setNi f node d).part k = s.part k := rfl
@[simp] theorem State.setNi_fieldD (f node : Nat) (d : NiState) (k : Nat) : (s.setNi f node d).fieldD k = s.fieldD k := rfl
@[simp] theorem State.setNi_vault (f node : Nat) (d : NiState) (k : Nat) : (s.setNi f node d).vault k = s.vault k := rfl
@[simp] theorem State.setNi_port (f node : Nat) (d : NiState) (k : Nat) : (s.setNi f node d).port k = s.port k := rfl
@[simp] theorem State.setNi_cic (f node : Nat) (d : NiState) (k : Nat) : (s.setNi f node d).cic k = s.cic k := rfl
@[simp] theorem State.setNi_cell (f node : Nat) (d : NiState) (k j : Nat) : (s.setNi f node d).cell k j = s.cell k j := rfl
@[simp] theorem State.setNi_eru (f node : Nat) (d : NiState) (k : Nat) : (s.setNi f node d).eru k = s.eru k := rfl

/-! ### setEru -/

@[simp] theorem State.setEru_pending (n : Nat) (d : EruState) : (s.setEru n d).pending = s.pending := rfl
@[simp] theorem State.setEru_fet (n : Nat) (d : EruState) : (s.setEru n d).fet = s.fet := rfl
@[simp] theorem State.setEru_regs (n : Nat) (d : EruState) : (s.setEru n d).regs = s.regs := rfl
@[simp] theorem State.setEru_latches (n : Nat) (d : EruState) : (s.setEru n d).latches = s.latches := rfl
@[simp] theorem State.setEru_queues (n : Nat) (d : EruState) : (s.setEru n d).queues = s.queues := rfl
@[simp] theorem State.setEru_mgmtDropped (n : Nat) (d : EruState) : (s.setEru n d).mgmtDropped = s.mgmtDropped := rfl
@[simp] theorem State.setEru_rings (n : Nat) (d : EruState) : (s.setEru n d).rings = s.rings := rfl
@[simp] theorem State.setEru_jobs (n : Nat) (d : EruState) : (s.setEru n d).jobs = s.jobs := rfl
@[simp] theorem State.setEru_parts (n : Nat) (d : EruState) : (s.setEru n d).parts = s.parts := rfl
@[simp] theorem State.setEru_log (n : Nat) (d : EruState) : (s.setEru n d).log = s.log := rfl
@[simp] theorem State.setEru_injects (n : Nat) (d : EruState) : (s.setEru n d).injects = s.injects := rfl
@[simp] theorem State.setEru_time (n : Nat) (d : EruState) : (s.setEru n d).time = s.time := rfl
@[simp] theorem State.setEru_cicada (n : Nat) (d : EruState) : (s.setEru n d).cicada = s.cicada := rfl
@[simp] theorem State.setEru_boot (n : Nat) (d : EruState) : (s.setEru n d).boot = s.boot := rfl
@[simp] theorem State.setEru_power (n : Nat) (d : EruState) : (s.setEru n d).power = s.power := rfl
@[simp] theorem State.setEru_mgr (n : Nat) (d : EruState) : (s.setEru n d).mgr = s.mgr := rfl
@[simp] theorem State.setEru_bus (n : Nat) (d : EruState) : (s.setEru n d).bus = s.bus := rfl
@[simp] theorem State.setEru_fields (n : Nat) (d : EruState) : (s.setEru n d).fields = s.fields := rfl
@[simp] theorem State.setEru_vaults (n : Nat) (d : EruState) : (s.setEru n d).vaults = s.vaults := rfl
@[simp] theorem State.setEru_ports (n : Nat) (d : EruState) : (s.setEru n d).ports = s.ports := rfl
@[simp] theorem State.setEru_cells (n : Nat) (d : EruState) : (s.setEru n d).cells = s.cells := rfl
@[simp] theorem State.setEru_nis (n : Nat) (d : EruState) : (s.setEru n d).nis = s.nis := rfl
@[simp] theorem State.setEru_mesh (n : Nat) (d : EruState) : (s.setEru n d).mesh = s.mesh := rfl
@[simp] theorem State.setEru_out (n : Nat) (d : EruState) : (s.setEru n d).out = s.out := rfl
@[simp] theorem State.setEru_freeIdx (n : Nat) (d : EruState) : (s.setEru n d).freeIdx = s.freeIdx := rfl
@[simp] theorem State.setEru_rd (n : Nat) (d : EruState) (o : Nat) : (s.setEru n d).rd o = s.rd o := rfl
@[simp] theorem State.setEru_get (n : Nat) (d : EruState) (g : Fld) : (s.setEru n d).get g = s.get g := rfl
@[simp] theorem State.setEru_flag (n : Nat) (d : EruState) (g : Fld) : (s.setEru n d).flag g = s.flag g := rfl
@[simp] theorem State.setEru_part (n : Nat) (d : EruState) (k : Nat) : (s.setEru n d).part k = s.part k := rfl
@[simp] theorem State.setEru_fieldD (n : Nat) (d : EruState) (k : Nat) : (s.setEru n d).fieldD k = s.fieldD k := rfl
@[simp] theorem State.setEru_vault (n : Nat) (d : EruState) (k : Nat) : (s.setEru n d).vault k = s.vault k := rfl
@[simp] theorem State.setEru_port (n : Nat) (d : EruState) (k : Nat) : (s.setEru n d).port k = s.port k := rfl
@[simp] theorem State.setEru_cic (n : Nat) (d : EruState) (k : Nat) : (s.setEru n d).cic k = s.cic k := rfl
@[simp] theorem State.setEru_cell (n : Nat) (d : EruState) (k j : Nat) : (s.setEru n d).cell k j = s.cell k j := rfl
@[simp] theorem State.setEru_ni (n : Nat) (d : EruState) (k j : Nat) : (s.setEru n d).ni k j = s.ni k j := rfl

/-! ### Reading back -/

/-- A register field replaced reads as the low bits it has room for. -/
theorem Word.field_withField (w : Word) (hi lo v : Nat) (h : lo ≤ hi) (h' : hi ≤ 31) :
    Word.field (Word.withField w hi lo v) hi lo = v % 2 ^ (hi + 1 - lo) := by
  unfold Word.field Word.withField
  have : BitVec.extractLsb' lo (hi + 1 - lo) (w &&& ~~~((BitVec.allOnes (hi + 1 - lo)).setWidth 32 <<< lo)
      ||| (BitVec.ofNat (hi + 1 - lo) v).setWidth 32 <<< lo) = BitVec.ofNat (hi + 1 - lo) v := by
    ext i hi'
    simp [show lo + i < 32 by omega, hi']
  simp only [this, BitVec.toNat_ofNat]

/-- A field that does not overlap it reads as before. -/
theorem Word.field_withField_other (w : Word) (hi lo v hi' lo' : Nat) (h : lo ≤ hi) (d : hi' < lo ∨ hi < lo') :
    Word.field (Word.withField w hi lo v) hi' lo' = Word.field w hi' lo' := by
  unfold Word.field Word.withField
  congr 1
  ext i hi'
  simp [BitVec.getLsbD_setWidth]
  grind

variable {s : State}

theorem State.rd_wr_same (h : Canon s) (off : Nat) (w : Word) : (s.wr off w).rd off = w := AMap.get_put_same _ _ _ h.regs
theorem State.rd_wr_other (h : Canon s) (off o : Nat) (w : Word) (e : o ≠ off) : (s.wr off w).rd o = s.rd o :=
  AMap.get_put_other _ _ _ _ e h.regs
theorem State.get_wr_other (h : Canon s) (off : Nat) (w : Word) (g : Fld) (e : g.reg ≠ off) : (s.wr off w).get g = s.get g := by
  unfold State.get; rw [State.rd_wr_other h _ _ _ e]
theorem State.rd_set_other (h : Canon s) (f : Fld) (v o : Nat) (e : o ≠ f.reg) : (s.set f v).rd o = s.rd o :=
  State.rd_wr_other h _ _ _ e
theorem State.get_set_other (h : Canon s) (f g : Fld) (v : Nat) (e : g.reg ≠ f.reg) : (s.set f v).get g = s.get g :=
  State.get_wr_other h _ _ _ e
theorem State.setPart_same (h : Canon s) (p : Nat) (d : PartData) : (s.setPart p d).part p = d := AMap.get_put_same _ _ _ h.parts
theorem State.setPart_other (h : Canon s) (p : Nat) (k : Nat) (d : PartData) (e : k ≠ p) : (s.setPart p d).part k = s.part k :=
  AMap.get_put_other _ _ _ _ e h.parts
theorem State.setField_same (h : Canon s) (f : Nat) (d : FieldState) : (s.setField f d).fieldD f = d := AMap.get_put_same _ _ _ h.fields
theorem State.setField_other (h : Canon s) (f : Nat) (k : Nat) (d : FieldState) (e : k ≠ f) : (s.setField f d).fieldD k = s.fieldD k :=
  AMap.get_put_other _ _ _ _ e h.fields
theorem State.setVault_same (h : Canon s) (v : Nat) (d : VaultState) : (s.setVault v d).vault v = d := AMap.get_put_same _ _ _ h.vaults
theorem State.setVault_other (h : Canon s) (v : Nat) (k : Nat) (d : VaultState) (e : k ≠ v) : (s.setVault v d).vault k = s.vault k :=
  AMap.get_put_other _ _ _ _ e h.vaults
theorem State.setPort_same (h : Canon s) (n : Nat) (d : PortState) : (s.setPort n d).port n = d := AMap.get_put_same _ _ _ h.ports
theorem State.setPort_other (h : Canon s) (n : Nat) (k : Nat) (d : PortState) (e : k ≠ n) : (s.setPort n d).port k = s.port k :=
  AMap.get_put_other _ _ _ _ e h.ports
theorem State.setCic_same (h : Canon s) (n : Nat) (d : CicadaPort) : (s.setCic n d).cic n = d := AMap.get_put_same _ _ _ h.cicada
theorem State.setCic_other (h : Canon s) (n : Nat) (k : Nat) (d : CicadaPort) (e : k ≠ n) : (s.setCic n d).cic k = s.cic k :=
  AMap.get_put_other _ _ _ _ e h.cicada
theorem State.setEru_same (h : Canon s) (n : Nat) (d : EruState) : (s.setEru n d).eru n = d := AMap.get_put_same _ _ _ h.erus
theorem State.setEru_other (h : Canon s) (n : Nat) (k : Nat) (d : EruState) (e : k ≠ n) : (s.setEru n d).eru k = s.eru k :=
  AMap.get_put_other _ _ _ _ e h.erus
theorem State.setCell_same (h : Canon s) (f k : Nat) (d : CellState) : (s.setCell f k d).cell f k = d := AMap.get_put_same _ _ _ h.cells
theorem State.setCell_other (h : Canon s) (f k g j : Nat) (d : CellState) (e : 72 * g + j ≠ 72 * f + k) : (s.setCell f k d).cell g j = s.cell g j :=
  AMap.get_put_other _ _ _ _ e h.cells
theorem State.setNi_same (h : Canon s) (f k : Nat) (d : NiState) : (s.setNi f k d).ni f k = d := AMap.get_put_same _ _ _ h.nis
theorem State.setNi_other (h : Canon s) (f k g j : Nat) (d : NiState) (e : 78 * g + j ≠ 78 * f + k) : (s.setNi f k d).ni g j = s.ni g j :=
  AMap.get_put_other _ _ _ _ e h.nis

end Sys2Proof.Machine
end

