-- ==== Sys2Proof/Laws/Turns.lean ====
section
/-!
SUPPORT. Laws/Turns.lean: what the shared guards of the compute and link commands come to where their conditions hold: a
sequencer's bundle, a cell's cycle, a frame delivered here.
-/
namespace Sys2Proof.Machine

/-- A bundle of the kind a command names acts on the state in which its cycle is taken. -/
theorem onBundle_turn {f cyc w : Nat} {s : State} (h : SeqTurn f cyc w s) (k : Nat → Bool) (hk : k w = true)
    (g : Nat → State → State) : onBundle f cyc k s g = g w (seqTaken f cyc s) := by
  have h3 : ¬ cyc < ((atCycle f cyc s).fieldD f).seqCyc := Nat.not_lt.mpr h.idle
  unfold onBundle onCycle
  rw [if_neg (Nat.not_lt.mpr h.ahead)]
  simp only [h.started, h.word, hk, decide_eq_false h3, Bool.not_true, Bool.or_self, Bool.false_eq_true, if_false]
  rfl

/-- A command of a cycle that lies ahead acts on the state at that cycle. -/
theorem onCycle_turn {f cyc : Nat} {s : State} (h : (s.fieldD f).cyc ≤ cyc) (g : State → State) :
    onCycle f cyc s g = g (atCycle f cyc s) := by unfold onCycle; rw [if_neg (Nat.not_lt.mpr h)]

/-- A command of a cycle that has passed does nothing. -/
theorem onCycle_passed {f cyc : Nat} {s : State} (h : cyc < (s.fieldD f).cyc) (g : State → State) : onCycle f cyc s g = s := by
  unfold onCycle; rw [if_pos h]

/-- A cell whose cluster is ON acts on the state at a cycle that lies ahead. -/
theorem onCell_turn {f pos cyc : Nat} {s t : State} (h : CellTurn f pos cyc s t) (g : State → State) :
    onCell f pos cyc s g = g t := by unfold onCell; rw [if_pos h.on, onCycle_turn h.ahead, h.after]

/-- A cell whose cluster is not ON does nothing. -/
theorem onCell_off {f pos cyc : Nat} {s : State} (h : domState s (domOfCell f pos) ≠ 3) (g : State → State) :
    onCell f pos cyc s g = s := if_neg h

/-- A frame delivered here is taken where its command takes such frames. -/
theorem receiveFrame_delivered {n : Nat} {fr : Frame} {s t : State} (h : Delivered n fr s t) (mine : Frame → Bool)
    (k : State → State) : receiveFrame n fr mine k s = if mine fr then k t else t := by
  unfold receiveFrame
  simp only [h.carried, h.link, h.header, Bool.not_true, Bool.false_eq_true, if_false, ← h.after, h.here, if_true]

/-- A frame that its port's state does not carry changes nothing. -/
theorem receiveFrame_refused {n : Nat} {fr : Frame} {s : State} (h : stateCarries s n fr = false) (mine : Frame → Bool)
    (k : State → State) : receiveFrame n fr mine k s = s := by unfold receiveFrame; rw [h]; rfl

end Sys2Proof.Machine
end

