-- ==== Sys2Proof/Tests/Slice0.lean ====
section
/-!
SUPPORT. Tests/Slice0.lean: an ill-formed term for each check of WellFormed; for the hypotheses of every statement a concrete
state and operands that meet them, at the boundary of a range where there is one; and small tests of single commands against
values worked out from the spec.
-/
set_option Elab.async false

namespace Sys2Proof.Tests

open Sys2Proof.Machine

/-! ### States and requests the tests use -/

/-- Chitin runs, all ten bring-up steps are done, a system Scarab runs, FET is valid; the uncores and clusters of fields 0 and
1 are ON; partition 1 holds field 0 and is READY. -/
def up : State :=
  let s : State := { State.reset with fet := 1000000, boot := { State.reset.boot with powered := true } }
  let s := (s.set F.CHT_STATUS_STEP_DONE 10).set F.CHT_STATUS_SCARAB_UP 1
  let s := (s.set F.CHT_MGMT_CFG_SCP_EN 1).set F.TIM_STATUS_VALID 1
  let s := ((List.range 18).foldl (fun t d => t.set (F.PWR_DOM_STATUS_STATE d) 3) s)
  let s := setPartState (setPartMask (setPartMask s 0 (partMask s 0 - 1)) 1 1) 1 2
  s

/-- Partition 1 runs its plan on field 0, standing at bundle 0. -/
def running : State := (setPartState up 1 3).set (F.FLD_STATUS_STARTED 0) 1

/-- A request from a management source: the first of its queue. -/
def rq (p : BitVec 8) (params : List Byte) : Request :=
  { src := .mgmt 1 2, seq := 5, part := p, plen := BitVec.ofNat 32 params.length, params := params }

/-- The same from queue 0 of endpoint 0, its third entry. -/
def pq (p : BitVec 8) (params : List Byte) : Request := { rq p params with src := .pcie 0 0 0, seq := 2 }

/-- Queue 0 of endpoint 0 is enabled and holds one entry more than was read. -/
def ringUp (s : State) : State :=
  let s := (((s.set F.CHT_PIN_STATUS_PE0_PERST_L 1).set (F.CHT_Q_CFG_EN 0 0) 1).set (F.CHT_SQ_TAIL_TAIL 0 0) 3)
  (s.set (F.CHT_SQ_HEAD_HEAD 0 0) 2).wr (R.CHT_Q_SEQ 0 0) 2

/-- What makes a request's turn, to Scarab or to Chitin, as a computation. -/
def admitted (r : Request) (s : State) : Bool :=
  readable s r && !noQueue s r.src && (match r.src with | .snl c _ => snlAccepted s c.toNat | _ => true)
    && !(queueOf (readIn r s) r.src).consumed.contains r.seq && queueNext (readIn r s) r.src == r.seq

def turn (r : Request) (s : State) : Bool := admitted r s && !mustWait r (readIn r s)

def toScarab (op : Nat) (bad : Bool) (r : Request) (s : State) : Bool :=
  turn r s && (precheck (readIn r s) op r bad).isNone && !noScarab (readIn r s)

def toChitin (op : Nat) (bad : Bool) (r : Request) (s : State) : Bool :=
  admitted r s && (precheck (readIn r s) op r bad).isNone

theorem chitinTurn_of {r : Request} {s : State} (h : admitted r s = true) : ChitinTurn r s := by
  simp only [admitted, Bool.and_eq_true, Bool.not_eq_true', beq_iff_eq] at h
  obtain ⟨⟨⟨⟨a, b⟩, c⟩, d⟩, e⟩ := h
  exact ⟨⟨a, b, fun k n hk => by rw [hk] at c; exact c⟩, d, e⟩

theorem turn_of {r : Request} {s : State} (h : turn r s = true) : ScarabTurn r s := by
  simp only [turn, Bool.and_eq_true, Bool.not_eq_true'] at h
  have c := chitinTurn_of h.1
  exact ⟨c.1, c.2, c.3, h.2⟩

theorem toScarab_of {op : Nat} {bad : Bool} {r : Request} {s : State} (h : toScarab op bad r s = true) : ToScarab op bad r s := by
  simp only [toScarab, Bool.and_eq_true, Bool.not_eq_true', Option.isNone_iff_eq_none] at h
  exact ⟨turn_of h.1.1, h.1.2, h.2⟩

theorem toChitin_of {op : Nat} {bad : Bool} {r : Request} {s : State} (h : toChitin op bad r s = true) : ToChitin op bad r s := by
  simp only [toChitin, Bool.and_eq_true, Option.isNone_iff_eq_none] at h
  exact ⟨chitinTurn_of h.1, h.2⟩

theorem canon_of {s : State} (h : (AMap.wf regDflt s.regs && AMap.wf (fun _ => {}) s.rings && AMap.wf (fun _ => {}) s.parts
    && AMap.wf (fun _ => {}) s.cicada && AMap.wf (fun _ => {}) s.fields && AMap.wf (fun _ => {}) s.vaults
    && AMap.wf (fun _ => {}) s.ports && AMap.wf (fun _ => {}) s.cells && AMap.wf (fun _ => {}) s.nis
    && AMap.wf (fun _ => {}) s.erus) = true) : Canon s := by
  simp only [Bool.and_eq_true] at h
  obtain ⟨⟨⟨⟨⟨⟨⟨⟨⟨a, b⟩, c⟩, d⟩, e⟩, f⟩, g⟩, i⟩, j⟩, k⟩ := h
  exact ⟨a, b, c, d, e, f, g, i, j, k⟩

/-- Bytes 0, n of them. -/
def z (n : Nat) : List Byte := List.replicate n 0

/-- A little-endian FET as parameter bytes. -/
def at8 (v : Nat) : List Byte := leBytes v 8

/-- What makes a write land, as a computation. -/
def lands (via : Path) (off reg : Nat) (w : Word) (s : State) : Bool :=
  off % 4 == 0 && pathUp s via && !latchOnly s via && !filtered s via true off && answers s off && place via off == some reg
    && !writeRefused s reg w && !writeNoted s reg w && (!s.boot.rwlLocked || accMask .rwl reg == 0)

theorem lands_of {via : Path} {off reg : Nat} {w : Word} {s : State} (h : lands via off reg w s = true) : Lands via off reg w s := by
  simp only [lands, Bool.and_eq_true, Bool.or_eq_true, Bool.not_eq_true', beq_iff_eq] at h
  obtain ⟨⟨⟨⟨⟨⟨⟨⟨a, b⟩, c⟩, d⟩, e⟩, f⟩, g⟩, i⟩, j⟩ := h
  exact ⟨a, b, c, d, e, f, g, i, j⟩

/-- What gives a field's sequencer its turn, as a computation. -/
def seqTurn (f cyc w : Nat) (s : State) : Bool :=
  decide ((s.fieldD f).cyc ≤ cyc) && (atCycle f cyc s).flag (F.FLD_STATUS_STARTED f) && decide (((atCycle f cyc s).fieldD f).seqCyc ≤ cyc)
    && seqWord (atCycle f cyc s) f == w

theorem seqTurn_of {f cyc w : Nat} {s : State} (h : seqTurn f cyc w s = true) : SeqTurn f cyc w s := by
  simp only [seqTurn, Bool.and_eq_true, beq_iff_eq, decide_eq_true_eq] at h
  exact ⟨h.1.1.1, h.1.1.2, h.1.2, h.2⟩

/-- A plan image of field 0 whose first bundle is as given, its template of class `cls`. -/
def image (cls : Byte) (w : Nat) : List Byte :=
  [2, 0, 1, 0, 9, 0, 0, 0, 1] ++ z 11 ++ [1, 0, 0, 0, 3] ++ z 262 ++ [cls] ++ z 32 ++ leBytes w 64 ++ z 128

/-- Field 0 runs such a plan, standing at that bundle. -/
def plan (cls : Byte) (w : Nat) : State :=
  (running.setField 0 { store := [(1, image cls w)] }).set (F.FLD_STATUS_IMAGE 0) 1

/-- The state in which a frame that passes its checks is delivered, and what lets it pass, as a computation. -/
def deliv (n : Nat) (fr : Frame) (s : State) : State := freeCredit n fr (headerOk n fr (linkLayer n fr s).2).2
def delivered (n : Nat) (fr : Frame) (s : State) : Bool :=
  stateCarries s n fr && (linkLayer n fr s).1 && (headerOk n fr (linkLayer n fr s).2).1 && isHere (deliv n fr s) fr

theorem delivered_of {n : Nat} {fr : Frame} {s : State} (h : delivered n fr s = true) : Delivered n fr s (deliv n fr s) := by
  simp only [delivered, Bool.and_eq_true] at h
  exact ⟨h.1.1.1, h.1.1.2, h.1.2, rfl, h.2⟩

/-- What makes a deadline of an ERU due, as a computation. -/
def deadlineDue (n e c k r : Nat) (s : State) : Bool :=
  entryOn s n e && entryOp s n e != 3 && decide (c ≤ s.get (F.ERU_SCHED2_CHUNKS n e)) && entryInStep s n e
    && decide (slotFet s n e k ≤ s.fet) && !acted s n e c r

theorem deadlineDue_of {n e c k r : Nat} {s : State} (h : deadlineDue n e c k r s = true) : DeadlineDue n e c k r s := by
  simp only [deadlineDue, Bool.and_eq_true, bne_iff_ne, ne_eq, decide_eq_true_eq, Bool.not_eq_true'] at h
  obtain ⟨⟨⟨⟨⟨a, b⟩, c⟩, d⟩, e⟩, f⟩ := h
  exact ⟨a, b, c, d, e, f⟩

/-- Ports 0 and 16 are ACTIVE on version 1 and give partitions 0 and 1 a share. -/
def linked (s : State) : State :=
  let s := [0, 16].foldl (fun t n => (((t.set (F.SNL_STATUS_STATE n) 7).set (F.SNL_NEG_VER n) 1).wr (R.SNL_VC_SHARE0 n) 0x4040)) s
  ((s.set (F.SNL_TORUS_TM1 0) 3).set (F.SNL_TORUS_PM1 0) 3)

/-- A frame of a class for an endpoint of this module, its CRC-32 good. -/
def frameTo (cls part ep : Nat) (payload : List Byte) : Frame :=
  withCrc { cls := cls, part := part, dst := ep, payload := payload }

/-! ### Hypotheses of the statements: the command protocol -/

theorem witness_AskingOpcodesAnswer :
    ToScarab 0x00 false (rq 0 []) up ∧ ToScarab 0x12 false (rq 7 []) up ∧
    (ScarabTurn (rq 0 []) up ∧ precheck (readIn (rq 0 []) up) 0x01 (rq 0 []) false = none ∧
      precheck (readIn (rq 0 []) up) 0x08 (rq 0 []) false = none) ∧
    (∀ r, r = rq 0 [1, 0, 1, 0, 1, 0, 0, 0] → ToScarab 0x02 (short r 8 || !pZero r 6 8) r up ∧ (settled r).1 = 0) ∧
    (∀ r, r = rq 0 [2, 0, 2, 0, 2, 0, 0, 0] → ToScarab 0x02 (short r 8 || !pZero r 6 8) r up ∧ (settled r).1 ≠ 0) ∧
    (opDefined 0xff = false ∧ opDefined 0x03 = false ∧ (rq 0 []).version.toNat = queueVer (readIn (rq 0 []) up) (.mgmt 1 2) ∧
      noScpVersion (readIn (rq 0 []) up) (.mgmt 1 2) = false) := by
  repeat' (first | exact toScarab_of (by decide +kernel) | exact turn_of (by decide +kernel) | decide +kernel | rintro r rfl | constructor)


/-- PART_CREATE of field 1, or as named. -/
def createP (mask power : Byte) : List Byte := [mask] ++ z 11 ++ [power, 0, 0, 0, 10] ++ z 3

/-- Field 1 free, a Vault region free. -/
theorem witness_PartitionOpcodesTakeEffect :
    (∀ r s, r = rq 2 (createP 2 5) → s = up → ToScarab 0x10 (createBad s r) r s ∧ changeBusy (readIn r s) = false ∧
      inflight (readIn r s) r.src < 64 ∧ createCheck (readIn r s) r = none ∧ (placeRegions (reqPart r) r (readIn r s)).isSome) ∧
    (∀ r s, r = rq 2 (createP 4 5) → s = up → ToScarab 0x10 (createBad s r) r s ∧ changeBusy (readIn r s) = false ∧
      inflight (readIn r s) r.src < 64 ∧ createCheck (readIn r s) r = some stBadParam ∧ stBadParam ≠ stRetry) ∧
    (∀ r s, r = rq 1 [] → s = up → ToScarab 0x11 false r s ∧ changeBusy (readIn r s) = false ∧
      partChanging (readIn r s) (reqPart r) = false ∧ inflight (readIn r s) r.src < 64 ∧ reqPart r ≠ 0 ∧
      partState (readIn r s) (reqPart r) ≠ 0) ∧
    (∀ r s, r = rq 7 [] → s = up → ToScarab 0x11 false r s ∧ changeBusy (readIn r s) = false ∧
      partChanging (readIn r s) (reqPart r) = false ∧ inflight (readIn r s) r.src < 64 ∧
      partState (readIn r s) (reqPart r) = 0) ∧
    (∀ r s, r = pq 1 ([7] ++ z 3 ++ [1] ++ z 63 ++ [1] ++ z 95) → s = ringUp up →
      ToScarab 0x18 (short r 164 || decide (8 ≤ pByte r 0) || !pZero r 1 4) r s ∧ keyBusy (reqPart r) (readIn r s) = false ∧
      keysEqual r = false) ∧
    (∀ r s, r = pq 1 ([1] ++ z 163) → s = ringUp up →
      ToScarab 0x18 (short r 164 || decide (8 ≤ pByte r 0) || !pZero r 1 4) r s ∧ keyBusy (reqPart r) (readIn r s) = false ∧
      keysEqual r = true) := by
  refine ⟨?_, ?_, ?_, ?_, ?_, ?_⟩ <;> rintro r s rfl rfl <;> exact ⟨toScarab_of (by decide +kernel), by decide +kernel⟩

/-- A plan image of field 0 of partition 1: one empty template, STEP, SENTINEL, END (05_cycle_plans). -/
def img : List Byte :=
  [2, 0, 1, 0, 9, 0, 0, 0, 1] ++ z 11 ++ [1, 0, 0, 0, 3] ++ z 39 ++ imgDigest ++ z 160 ++ z 64
    ++ stream 1 ++ stream 2 ++ stream 4
where
  /-- A bundle of a kind, of every lane. -/
  stream (k : Byte) : List Byte := z 11 ++ [8 + 16 * k] ++ z 52
  /-- SHA-256 of the rest. -/
  imgDigest : List Byte := [198, 68, 5, 167, 155, 14, 9, 40, 92, 114, 182, 241, 190, 85, 131, 71]
    ++ [118, 235, 50, 108, 179, 201, 111, 7, 103, 54, 17, 53, 87, 201, 169, 205]

/-- The image is resident as handle 1 of field 0 and bound. -/
def bound (s : State) : State :=
  bindField 0 1 (s.setField 0 { s.fieldD 0 with store := [(1, img)] })

/-- One descriptor word: a read of Tier N into the scratchpad of cell 0; of Tier C. -/
def rdN : Nat := 16 * 2 + 1
def rdC : Nat := 16 * 3 + 1

/-- A mover request of field 0 reached its Tier C channel at FET 5 and waits there. -/
def moving (s : State) : State :=
  s.setField 0 { accs := [{ id := 1, desc := 0, queue := 0, index := 0, word := rdC, cell := 0, k := 0, stage := 1, reached := 5 }] }

/-- PLAN_LOAD of handle 1 of field 0 from host memory, and from Tier C without a fence. -/
def loadP (kind : Byte) : List Byte := [0, 1, 0, 0, kind, 0, 0, 0, 0, 2] ++ z 10

theorem witness_PlanOpcodesTakeEffect :
    (∀ r s, r ∈ [pq 1 (loadP 1), pq 1 (loadP 2)] → s = ringUp up →
      toScarab 0x20 (short r 20 || !pZero r 2 4 || decide (87 < pByte r 0) || decide (15 < pByte r 1) || dataRefBad r 4
        || inlineShort r 4) r s ∧ partBusy r (readIn r s) = false ∧ loading (readIn r s) (pByte r 0) (pByte r 1) = false ∧
        inflight (readIn r s) r.src < 64 ∧ dataWaits (readIn r s) (dataRef r 4) = false) ∧
    (∀ r s, r = pq 1 (loadP 2) → s = moving (ringUp up) →
      toScarab 0x20 (short r 20 || !pZero r 2 4 || decide (87 < pByte r 0) || decide (15 < pByte r 1) || dataRefBad r 4
        || inlineShort r 4) r s ∧ partBusy r (readIn r s) = false ∧ loading (readIn r s) (pByte r 0) (pByte r 1) = false ∧
        inflight (readIn r s) r.src < 64 ∧ dataWaits (readIn r s) (dataRef r 4) = true) ∧
    (∀ r s, r = pq 1 (loadP 2) → s = ringUp up → dataWaits (readIn r s) (dataRef r 4) = false ∧
      (fetchData r (dataRef r 4) img (readIn r s)).1 = none) ∧
    (∀ r s, r = pq 1 (loadP 1) → s = readIn r (ringUp up) →
      (fetchData r (dataRef r 4) img s).1 = some img ∧ loadFault s (reqPart r) (pByte r 0) (pByte r 1) img = none ∧
      ∃ l e, (fetchData r (dataRef r 4) [] s).1 = some l ∧ loadFault s (reqPart r) (pByte r 0) (pByte r 1) l = some e) ∧
    (∀ r s, r = rq 1 ([1] ++ z 43) → s = bound up → ToScarab 0x21 (short r 44) r s ∧ partBusy r (readIn r s) = false ∧
      planStarted (readIn r s) (reqPart r) = false ∧
      (partServing (readIn r s) (reqPart r)).any (fun f => loading (readIn r s) f (bindHandle r f)) = false ∧ reqPart r ≠ 0 ∧
      allFields.any (fun f => bindHandle r f != 0 && !(partFields (readIn r s) (reqPart r)).contains f) = false ∧
      bindable (readIn r s) (partServing (readIn r s) (reqPart r)) (bindHandle r) = true) ∧
    (∀ r s, r = rq 1 ([1] ++ z 43) → s = up → ToScarab 0x21 (short r 44) r s ∧ partBusy r (readIn r s) = false ∧
      planStarted (readIn r s) (reqPart r) = false ∧
      (partServing (readIn r s) (reqPart r)).any (fun f => loading (readIn r s) f (bindHandle r f)) = false ∧
      bindable (readIn r s) (partServing (readIn r s) (reqPart r)) (bindHandle r) = false) ∧
    (∀ r s, r = rq 1 [] → s = up → ToScarab 0x22 false r s ∧ partBusy r (readIn r s) = false ∧
      (partServing (readIn r s) (reqPart r)).any (fun f => !(readIn r s).flag (F.FLD_STATUS_BOUND f)) = true) ∧
    (∀ r s, r = rq 1 [] → s = bound up → ToScarab 0x22 false r s ∧ partBusy r (readIn r s) = false ∧
      partState (readIn r s) (reqPart r) = 2 ∧ (partServing (readIn r s) (reqPart r)).isEmpty = false ∧
      (partServing (readIn r s) (reqPart r)).any (fun f => !(readIn r s).flag (F.FLD_STATUS_BOUND f)) = false) ∧
    (∀ r s, r = rq 1 [0] → s = up → ToScarab 0x23 (short r 1 || pByte r 0 != 0) r s ∧ partBusy r (readIn r s) = false ∧
      stopPending (readIn r s) (reqPart r) = false ∧ inflight (readIn r s) r.src < 64 ∧
      planStarted (readIn r s) (reqPart r) = false) ∧
    (∀ r s, r = rq 1 [0] → s = running → ToScarab 0x23 (short r 1 || pByte r 0 != 0) r s ∧ partBusy r (readIn r s) = false ∧
      stopPending (readIn r s) (reqPart r) = false ∧ inflight (readIn r s) r.src < 64 ∧
      planStarted (readIn r s) (reqPart r) = true) ∧
    (∀ r s, r = rq 1 [1] → s = running → ToScarab 0x23 (short r 1 || pByte r 0 != 1) r s ∧ partBusy r (readIn r s) = false ∧
      planStarted (readIn r s) (reqPart r) = true) ∧
    (∀ r s, r = rq 1 [1] → s = up → ToScarab 0x23 (short r 1 || pByte r 0 != 1) r s ∧ partBusy r (readIn r s) = false ∧
      planStarted (readIn r s) (reqPart r) = false) := by
  refine ⟨by rintro r s h rfl; simp only [List.mem_cons, List.not_mem_nil, or_false] at h; rcases h with rfl | rfl <;> decide +kernel, ?_⟩
  and_intros <;> rintro r s rfl rfl
  · decide +kernel
  · decide +kernel
  · exact ⟨by decide +kernel, by decide +kernel, List.replicate 512 0, (1, 0), by decide +kernel, by decide +kernel⟩
  all_goals exact ⟨toScarab_of (by decide +kernel), by decide +kernel⟩

/-- Steps of partition 1: one armed, one begun and over. -/
def stepped (n : Nat) : State :=
  up.setPart 1 { up.part 1 with armed := (List.range n).map (fun i => 1200128 + 256 * i), steps := [{ base := 512, count := 1, done := true }] }


theorem witness_StepOpcodesTakeEffect :
    (∀ r s, r = rq 1 (at8 1200384) → s = stepped 1 → (ToScarab 0x28 (short r 8) r s ∧ partBusy r (readIn r s) = false ∧
      fetInvalid (readIn r s) = false ∧ ((readIn r s).part (reqPart r)).armed.length < 4) ∧
      tooSoon (readIn r s) (pLe r 0 8) = false ∧
      ((readIn r s).part (reqPart r)).armed.any (fun a => decide (pBoundary r 0 ≤ a)) = false) ∧
    (∀ r s, r = rq 1 (at8 1099999) → s = stepped 3 → (ToScarab 0x28 (short r 8) r s ∧ partBusy r (readIn r s) = false ∧
      fetInvalid (readIn r s) = false ∧ ((readIn r s).part (reqPart r)).armed.length < 4) ∧
      tooSoon (readIn r s) (pLe r 0 8) = true) ∧
    (∀ r s, r = rq 1 (at8 1300000) → s = stepped 4 → (ToScarab 0x28 (short r 8) r s ∧ partBusy r (readIn r s) = false ∧
      fetInvalid (readIn r s) = false ∧ 4 ≤ ((readIn r s).part (reqPart r)).armed.length)) ∧
    (∀ r s, r = rq 1 (at8 767) → s = stepped 1 → (ToScarab 0x29 (short r 8) r s ∧ partBusy r (readIn r s) = false ∧
      fetInvalid (readIn r s) = false ∧ inflight (readIn r s) r.src < 64 ∧
      ((readIn r s).part (reqPart r)).steps.any (fun k => k.base == pBoundary r 0) = true ∧
      stepCommitted (readIn r s) (reqPart r) (pBoundary r 0) = true)) ∧
    (∀ r s, r = rq 1 (at8 767) → s = up.setPart 1 { up.part 1 with steps := [{ base := 512, count := 1, lost := true }] } →
      (ToScarab 0x29 (short r 8) r s ∧ partBusy r (readIn r s) = false ∧
      fetInvalid (readIn r s) = false ∧ inflight (readIn r s) r.src < 64 ∧
      stepCommitted (readIn r s) (reqPart r) (pBoundary r 0) = false ∧
      ((readIn r s).part (reqPart r)).steps.any (fun k => k.base == pBoundary r 0 && k.lost) = true)) ∧
    (∀ r s, r = rq 1 (at8 1300000) → s = stepped 1 → ToScarab 0x29 (short r 8) r s ∧ partBusy r (readIn r s) = false ∧
      fetInvalid (readIn r s) = false ∧ inflight (readIn r s) r.src < 64 ∧
      ((readIn r s).part (reqPart r)).armed.contains (pBoundary r 0) = false ∧
      ((readIn r s).part (reqPart r)).steps.any (fun k => k.base == pBoundary r 0) = false) ∧
    (∀ r s, r = rq 1 (at8 1200128) → s = stepped 1 → (ToScarab 0x29 (short r 8) r s ∧ partBusy r (readIn r s) = false ∧
      fetInvalid (readIn r s) = false ∧ inflight (readIn r s) r.src < 64 ∧
      ((readIn r s).part (reqPart r)).armed.contains (pBoundary r 0) = true ∧
      stepCommitted (readIn r s) (reqPart r) (pBoundary r 0) = false ∧
      ((readIn r s).part (reqPart r)).steps.any (fun k => k.base == pBoundary r 0 && k.lost) = false)) := by
  and_intros <;> rintro r s rfl rfl
  · exact ⟨⟨toScarab_of (by decide +kernel), by decide +kernel⟩, by decide +kernel⟩
  · exact ⟨⟨toScarab_of (by decide +kernel), by decide +kernel⟩, by decide +kernel⟩
  all_goals exact ⟨toScarab_of (by decide +kernel), by decide +kernel⟩

/-- A data reference of one unit: kind, and what else it names. -/
def ref (kind : Byte) : List Byte := [kind, 0, 0, 0, 0, 1, 0, 0] ++ z 8

/-- A MOVE of one unit of Tier N of a field. -/
def moveP (dir field kind : Byte) : List Byte := [dir, 2, field] ++ z 13 ++ ref kind

/-- Vault 0 holds a region of partition 1 and a reserve of it. -/
def fenced (s : State) : State :=
  let s := ((s.set (F.VLT_FENCE_ATTR_VALID 0 0) 1).set (F.VLT_FENCE_ATTR_PART 0 0) 1).set (F.VLT_FENCE_ATTR_KIND 0 0) 1
  (((s.set (F.VLT_FENCE_ATTR_VALID 0 1) 1).set (F.VLT_FENCE_ATTR_PART 0 1) 1).set (F.VLT_FENCE_ATTR_KIND 0 1) 2)

/-- Slot 0 of partition 1 holds a complete checkpoint of Vault 0. -/
def saved (s : State) : State :=
  s.setVault 0 { s.vault 0 with
    journal := [.completion 1 0 512], slots := [{ vault := 0, part := 1, slot := 0, epoch := 512, pkey := [], unsaved := [] }] }

theorem witness_DataOpcodesTakeEffect :
    (∀ r s, r = pq 1 (moveP 0 0 1) → s = ringUp up → ToScarab 0x30 (moveBad 0 r) r s ∧ partBusy r (readIn r s) = false ∧
      inflight (readIn r s) r.src < 64 ∧ moveCheck (readIn r s) r = none ∧ (dataRef r 16).kind ≠ 2 ∧
      (fetchData r (dataRef r 16) [7] (readIn r s)).1.isSome = true) ∧
    (∀ r s, r = pq 1 (moveP 0 0 2) → s = ringUp up → ToScarab 0x30 (moveBad 0 r) r s ∧ partBusy r (readIn r s) = false ∧
      inflight (readIn r s) r.src < 64 ∧ moveCheck (readIn r s) r = none ∧ (dataRef r 16).kind = 2) ∧
    (∀ r s, r = pq 1 (moveP 0 1 1) → s = ringUp up → ToScarab 0x30 (moveBad 0 r) r s ∧ partBusy r (readIn r s) = false ∧
      inflight (readIn r s) r.src < 64 ∧ moveCheck (readIn r s) r = some stDenied) ∧
    (∀ r s, r = rq 1 (moveP 1 87 0) → s = up → ToScarab 0x30 (moveBad 1 r) r s ∧ partBusy r (readIn r s) = false ∧
      inflight (readIn r s) r.src < 64 ∧ moveCheck (readIn r s) r = some stDenied) ∧
    (∀ r s, r = rq 1 (moveP 1 0 0) → s = up → ToScarab 0x30 (moveBad 1 r) r s ∧ partBusy r (readIn r s) = false ∧
      inflight (readIn r s) r.src < 64 ∧ moveCheck (readIn r s) r = none) ∧
    (∀ r s, r = rq 1 ([1] ++ z 10 ++ [31, 1, 64, 16, 0]) → s = up → ToScarab 0x31 (queueBad r) r s ∧ partBusy r (readIn r s) = false ∧
      (maskFields (pMask r 0)).any (fun f => ownerOf (readIn r s) f != reqPart r) = false ∧
      (maskFields (pMask r 0)).any (fun f => decide (512 < depthSum (readIn r s) f (pByte r 11) (pLe r 14 2))) = false ∧
      queueHeld (readIn r s) r = false) ∧
    (∀ r s, r = rq 1 (at8 1100032 ++ [1] ++ z 7) → s = fenced up → ToScarab 0x38 (ckptBad r) r s ∧
      partBusy r (readIn r s) = false ∧ fetInvalid (readIn r s) = false ∧
      ckptBusy (readIn r s) (reqPart r) (ckptRegions r) = false ∧ inflight (readIn r s) r.src < 64 ∧
      tooSoon (readIn r s) (pLe r 0 8) = false ∧ ckptRefused (readIn r s) (reqPart r) (ckptRegions r) = false) ∧
    (∀ r s, r = rq 1 (at8 1100032 ++ [1] ++ z 3 ++ [0, 1, 0, 0]) → s = fenced up → ToScarab 0x38 (ckptBad r) r s ∧
      partBusy r (readIn r s) = false ∧ fetInvalid (readIn r s) = false ∧
      ckptBusy (readIn r s) (reqPart r) (ckptRegions r) = false ∧ inflight (readIn r s) r.src < 64 ∧
      ckptRefused (readIn r s) (reqPart r) (ckptRegions r) = true) ∧
    (∀ r s, r = rq 1 [0] → s = saved up → ToScarab 0x39 (short r 1 || decide (2 < pByte r 0)) r s ∧
      partState (readIn r s) (reqPart r) = 2 ∧ ckptWriting (readIn r s) (reqPart r) = false ∧ inflight (readIn r s) r.src < 64 ∧
      (newestCkpt (readIn r s) (reqPart r)).map (·.1) = some 0 ∧ (slotEpoch (readIn r s) (reqPart r) 0).isSome = true) ∧
    (∀ r s, r = rq 1 [2] → s = saved up → ToScarab 0x39 (short r 1 || decide (2 < pByte r 0)) r s ∧
      partState (readIn r s) (reqPart r) = 2 ∧ ckptWriting (readIn r s) (reqPart r) = false ∧ inflight (readIn r s) r.src < 64 ∧
      (some 1).any (fun k => (slotEpoch (readIn r s) (reqPart r) k).isSome) = false) := by
  and_intros <;> rintro r s rfl rfl <;> exact ⟨toScarab_of (by decide +kernel), by decide +kernel⟩

/-- Partition 1 holds fields 0 and 1; field 0 keeps the image for field 0 alone. -/
def pair (s : State) : State :=
  let s := setPartMask (setPartMask s 0 (partMask s 0 - 2)) 1 3
  s.setField 0 { s.fieldD 0 with store := [(1, img)] }

theorem witness_PlacementOpcodesTakeEffect :
    (∀ r s, r = rq 1 ([2] ++ z 15 ++ at8 1200000) → s ∈ [pair up, setPartState ((pair up).set (F.FLD_STATUS_STARTED 0) 1) 1 3] →
      toScarab 0x40 (short r 24 || !pZero r 11 16 || !([1, 2].contains (maskFields (pMask r 0)).length)) r s ∧
      migrateBusy (reqPart r) (readIn r s) = false ∧
      inflight (readIn r s) r.src < 64 ∧ migrateOk (readIn r s) (reqPart r) (pMask r 0) (pLe r 16 8) = true) ∧
    partState (pair up) 1 ≠ 3 ∧
    (∀ t, t = setPartState ((pair up).set (F.FLD_STATUS_STARTED 0) 1) 1 3 →
      partState t 1 = 3 ∧ (match planStopGraceful 1 t with | .later .. => true | _ => false) = true) ∧
    (∀ r s, r = rq 1 ([1] ++ z 15 ++ at8 1200000) → s = up →
      ToScarab 0x40 (short r 24 || !pZero r 11 16 || !([1, 2].contains (maskFields (pMask r 0)).length)) r s ∧
      migrateBusy (reqPart r) (readIn r s) = false ∧ inflight (readIn r s) r.src < 64 ∧ migrateOk (readIn r s) (reqPart r) (pMask r 0) (pLe r 16 8) = false) ∧
    (∀ r s, r = rq 1 (at8 1100000 ++ [1, 0, 0, 0, 1, 1, 1, 0]) → s = up → ToScarab 0x41 (mapBad r) r s ∧ partBusy r (readIn r s) = false ∧
      fetInvalid (readIn r s) = false ∧ mapBusy (readIn r s) r = false ∧ inflight (readIn r s) r.src < 64 ∧
      mapOk (readIn r s) r = true ∧ (mapMoves r).isEmpty = false) ∧
    (∀ r s, r = rq 1 (at8 1100000 ++ [2, 0, 0, 0, 0, 0, 0, 8, 2, 87, 0, 0]) → s = up.set (F.CEL_STATUS_ROLE 0 8) 1 → ToScarab 0x41 (mapBad r) r s ∧
      partBusy r (readIn r s) = false ∧ fetInvalid (readIn r s) = false ∧ mapBusy (readIn r s) r = false ∧
      inflight (readIn r s) r.src < 64 ∧ mapOk (readIn r s) r = true ∧ (mapMoves r).isEmpty = true) ∧
    (∀ r s, r = rq 1 (at8 1099999 ++ [0, 0, 0, 0]) → s = up → ToScarab 0x41 (mapBad r) r s ∧ partBusy r (readIn r s) = false ∧
      fetInvalid (readIn r s) = false ∧ mapBusy (readIn r s) r = false ∧ inflight (readIn r s) r.src < 64 ∧
      mapOk (readIn r s) r = false) := by
  refine ⟨by rintro r s rfl h; simp only [List.mem_cons, List.not_mem_nil, or_false] at h; rcases h with rfl | rfl <;> decide +kernel,
    by decide +kernel, by rintro t rfl; decide +kernel, ?_⟩
  and_intros <;> rintro r s rfl rfl <;> exact ⟨toScarab_of (by decide +kernel), by decide +kernel⟩

theorem witness_ConfigurationOpcodesTakeEffect :
    (∀ r s, r = rq 1 [1, 0, 0, 0] → s = up → ToScarab 0x48 (stageBad r) r s ∧ partBusy r (readIn r s) = false ∧
      commitPending (readIn r s) r = false ∧
      (stageAll (readIn r s) (reqPart r) (reqFn r != 0) [] ((List.range (pLe r 2 2)).map (stageEntry r))).isSome = true) ∧
    (∀ r s, r = rq 1 ([1, 0, 1, 0] ++ z 12) → s = up → ToScarab 0x48 (stageBad r) r s ∧ partBusy r (readIn r s) = false ∧
      commitPending (readIn r s) r = false ∧
      stageAll (readIn r s) (reqPart r) (reqFn r != 0) [] ((List.range (pLe r 2 2)).map (stageEntry r)) = none) ∧
    (∀ r s, s = up.setPart 0 { up.part 0 with staged := true } →
      r = rq 0 (leBytes (stagedEpoch s 0) 2 ++ z 6 ++ at8 1100032 ++ stagedDigest s 0 []) →
      toScarab 0x49 (short r 48 || !pZero r 2 8) r s ∧ partBusy r (readIn r s) = false ∧ fetInvalid (readIn r s) = false ∧
      commitPending (readIn r s) r = false ∧ inflight (readIn r s) r.src < 64 ∧ commitOk (readIn r s) r = true) ∧
    (∀ r s, r = rq 1 (z 48) → s = up → ToScarab 0x49 (short r 48 || !pZero r 2 8) r s ∧ partBusy r (readIn r s) = false ∧
      fetInvalid (readIn r s) = false ∧ commitPending (readIn r s) r = false ∧ inflight (readIn r s) r.src < 64 ∧
      commitOk (readIn r s) r = false) ∧
    (∀ r s, r = rq 0 ([0, 1] ++ z 6 ++ at8 1100000 ++ [214, 6, 120, 0] ++ z 4) → s = up → ToScarab 0x50 (envBad r) r s ∧
      fetInvalid (readIn r s) = false ∧ rising (envPoints r) = true ∧
      tooSoon (readIn r s) (pLe r 8 8) = false ∧ (envPoints r).all pointOk = true ∧
      ((breakpoints (readIn r s)).filter (fun b => decide (b.fet < 1100000)) ++ envPoints r).length ≤ 12) ∧
    (∀ r s, r = rq 0 ([0, 1] ++ z 6 ++ at8 1100000 ++ [215, 6, 120, 0] ++ z 4) → s = up → ToScarab 0x50 (envBad r) r s ∧
      fetInvalid (readIn r s) = false ∧ (envPoints r).all pointOk = false) ∧
    (∀ r s, r = rq 0 [1, 1, 100, 0] → s = up →
      ToScarab 0x50 (short r 4 || pByte r 0 != 1 || pByte r 1 == 0 || decide (7 < pByte r 1)) r s ∧
      partState (readIn r s) (pByte r 1) = 2 ∧
      grantedSum (readIn r s) - (readIn r s).get (F.PRT_POWER_GRANTED (pByte r 1)) + pLe r 2 2 ≤ tenantPool (readIn r s)) ∧
    (∀ r s, r = pq 1 ([1] ++ z 11 ++ [1, 0, 0, 0]) → s = ringUp up →
      ToScarab 0x60 (short r 16 || pByte r 11 != 0 || pLe r 12 4 == 0) r s ∧ partBusy r (readIn r s) = false ∧
      planStarted (readIn r s) (reqPart r) = false ∧ inflight (readIn r s) r.src < 64 ∧
      (maskFields (pMask r 0)).any (fun f => ownerOf (readIn r s) f != reqPart r) = false) := by
  refine ⟨?_, ?_, by rintro r s rfl rfl; decide +kernel, ?_⟩
  all_goals and_intros
  all_goals (rintro r s rfl rfl; exact ⟨toScarab_of (by decide +kernel), by decide +kernel⟩)

/-- The log holds a record of class `c` at index 3. -/
def logged (c : Nat) (s : State) : State :=
  { s with log := { s.log with recs := [{ index := 3, cls := c, ev := { code := 0x0509, part := 1 }, fet := 9 }] } }

theorem witness_FaultOpcodesTakeEffect :
    (∀ r s, r = rq 1 (z 8) → s = up → ScarabTurn r s ∧
      precheck (readIn r s) 0x58 r (short r 8 || decide (2 < pByte r 0) || !pZero r 1 4) = none ∧ pByte r 0 = 0) ∧
    (∀ r s, r = rq 1 [2, 0, 0, 0, 0, 0, 0, 0] → s = logged 4 up → ScarabTurn r s ∧
      precheck (readIn r s) 0x58 r (short r 8 || decide (2 < pByte r 0) || !pZero r 1 4) = none ∧
      lowestIndex ((visible r (readIn r s)).filter (fun x => !x.cleared)) = 3 ∧
      ((visible r (readIn r s)).find? (fun y => y.index == 3)).isSome = true) ∧
    (∀ r s, r = rq 1 [1, 0, 0, 0, 4, 0, 0, 0] → s = logged 4 up → ScarabTurn r s ∧
      precheck (readIn r s) 0x58 r (short r 8 || decide (2 < pByte r 0) || !pZero r 1 4) = none ∧ pByte r 0 = 1 ∧
      (visible r (readIn r s)).find? (fun y => y.index == pLe r 4 4) = none) ∧
    (∀ r s, r = pq 0 (leBytes R.FLT_INJECT 4 ++ z 12) → s = ringUp up → ToScarab 0x59 (short r 16) r s ∧
      injectReg (pLe r 0 4) = true ∧ pLe r 8 8 = 0) ∧
    (∀ r s, r = pq 0 (leBytes R.FLT_INJECT 4 ++ z 4 ++ at8 1100000) → s = ringUp up → ToScarab 0x59 (short r 16) r s ∧
      injectReg (pLe r 0 4) = true ∧ pLe r 8 8 ≠ 0 ∧ fetInvalid (readIn r s) = false ∧ inflight (readIn r s) r.src < 64) ∧
    (∀ r s, r = pq 0 (z 16) → s = ringUp up → ToScarab 0x59 (short r 16) r s ∧ injectReg (pLe r 0 4) = false ∧ pLe r 8 8 = 0) ∧
    (∀ c, c = 3 ∨ c = 4 ∨ c = 5 → ∀ r s, r = pq 0 [3, 0, 0, 0] → s = logged c (ringUp up) → ToScarab 0x5a (short r 4) r s ∧
      (∃ x, (visible r (readIn r s)).find? (fun y => y.index == pLe r 0 4) = some x ∧ x.cls = c ∧
        causePresent (readIn r s) x = (c == 4))) := by
  refine ⟨?_, ?_, ?_, ?_, ?_, ?_, ?_⟩
  iterate 3 (rintro r s rfl rfl; exact ⟨turn_of (by decide +kernel), by decide +kernel⟩)
  iterate 3 (rintro r s rfl rfl; exact ⟨toScarab_of (by decide +kernel), by decide +kernel⟩)
  rintro c (rfl | rfl | rfl) r s rfl rfl <;>
    exact ⟨toScarab_of (by decide +kernel), _, by rfl, by decide +kernel, by decide +kernel⟩

/-- A module quench; the latch set; the module stands before step 4. -/
def quenched (s : State) : State := s.set F.FLT_STATUS_QUENCHED 1
def lockedUp (s : State) : State := s.set F.FLT_LOCK_LOCKED 1

/-- POWER_DOMAIN of cluster 1 of field 3. -/
def domP (action : Byte) : List Byte := [action, 0, 3, 1, 3, 0, 0, 0]

theorem witness_ChitinOpcodesTakeEffect :
    (∀ p, p ∈ [(2 : Nat), 3, 4, 5] → ∀ r s, r = rq 1 (z 4) → s = setPartState up 1 p → ToChitin 0x70 (quenchBad 0 r) r s ∧
      reqPart r ≠ 0 ∧ partState (readIn r s) (reqPart r) = p) ∧
    (∀ r s, r = rq 0 (z 4) → s = up → ToChitin 0x70 (quenchBad 0 r) r s ∧ reqPart r = 0 ∧
      partState (readIn r s) (reqPart r) ≠ 1) ∧
    (∀ r s, r = rq 0 [1, 0, 0, 0] → s = up → ToChitin 0x70 (quenchBad 1 r) r s ∧ moduleQuenched (readIn r s) = false) ∧
    (∀ r s, r = rq 0 [1, 0, 0, 0] → s = quenched up → ToChitin 0x70 (quenchBad 1 r) r s ∧ moduleQuenched (readIn r s) = true) ∧
    (∀ r s, r = rq 0 (domP 0) → s = up → ToChitin 0x71 (domainBad 0 r) r s ∧ domainBusy r (readIn r s) = false) ∧
    (∀ d, d ∈ [(0 : Nat), 2, 3, 5] → ∀ r s, r = rq 0 (domP 1) → s = up.set (F.PWR_DOM_STATUS_STATE 28) d →
      ToChitin 0x71 (domainBad 1 r) r s ∧ domainBusy r (readIn r s) = false ∧ locked (readIn r s) = false ∧
      inflight (readIn r s) r.src < 64 ∧ domState (readIn r s) (domainOf r) = d ∧ heldOff (readIn r s) (domainOf r) = false ∧ waking (readIn r s) (domainOf r) = false) ∧
    (∀ r s, r = rq 0 (domP 1) → s = (up.set (F.PWR_DOM_STATUS_STATE 28) 1) → ToChitin 0x71 (domainBad 1 r) r s ∧
      domainBusy r (readIn r s) = false ∧ inflight (readIn r s) r.src < 64 ∧ locked (readIn r s) = false ∧ domState (readIn r s) (domainOf r) = 1 ∧
      heldOff (readIn r s) (domainOf r) = false ∧ waking (readIn r s) (domainOf r) = true) ∧
    (∀ r s, r = rq 0 (domP 1) → s = lockedUp up → ToChitin 0x71 (domainBad 1 r) r s ∧ domainBusy r (readIn r s) = false ∧
      inflight (readIn r s) r.src < 64 ∧ locked (readIn r s) = true) ∧
    (∀ r s, r = rq 0 ([2] ++ z 7) → s = up → ToChitin 0x71 (short r 8 || pByte r 0 != 2 || !pZero r 5 8) r s ∧
      anyPlanStarted (readIn r s) = false) ∧
    (∀ r s, r = rq 0 [0] → s = up → ToChitin 0x7f (resetBad 0 r) r s ∧ (readIn r s).flag F.CHT_STATUS_RUNNING = false ∧
      inflight (readIn r s) r.src < 64 ∧ locked (readIn r s) = false ∧ uncleared4 (readIn r s) = false ∧ (readIn r s).boot.inputLost = false ∧ 4 ≤ stepDone (readIn r s)) ∧
    (∀ r s, r = rq 0 [0] → s = up.set F.CHT_STATUS_STEP_DONE 3 → ToChitin 0x7f (resetBad 0 r) r s ∧
      (readIn r s).flag F.CHT_STATUS_RUNNING = false ∧ inflight (readIn r s) r.src < 64 ∧ stepDone (readIn r s) < 4) ∧
    (∀ k, k ∈ [(1 : Byte), 2] → ∀ r s, r = rq 0 [k] → s = up → ToChitin 0x7f (resetBad k.toNat r) r s ∧ locked (readIn r s) = false) ∧
    (∀ k, k ∈ [(1 : Byte), 2] → ∀ r s, r = rq 0 [k] → s = lockedUp up → ToChitin 0x7f (resetBad k.toNat r) r s ∧
      locked (readIn r s) = true) := by
  and_intros
  all_goals first
    | (rintro r s rfl rfl; exact ⟨toChitin_of (by decide +kernel), by decide +kernel⟩)
    | (intro k hk r s hr hs
       simp only [List.mem_cons, List.not_mem_nil, or_false] at hk
       rcases hk with rfl | rfl | rfl | rfl <;> subst hr hs <;> exact ⟨toChitin_of (by decide +kernel), by decide +kernel⟩)

/-- A quenched partition refuses what would run. A request of version 2 is refused. -/
theorem witness_RefusedRequestsChangeNothing :
    (∀ r s, r = { rq 1 [] with version := 2 } → s = up →
      scarabRow s (.nop r) = some (0x00, false, r) ∧ ScarabTurn r s ∧ precheck (readIn r s) 0x00 r false = some stVersion) ∧
    (∀ r s, r = rq 1 [0] → s = up → chitinRow (.resetModule r) = some (0x7f, resetBad 1 r, r) ∧
      ChitinTurn r s ∧ precheck (readIn r s) 0x7f r (resetBad 1 r) = some stBadParam) := by
  refine ⟨?_, ?_⟩ <;> rintro r s rfl rfl
  · exact ⟨by decide +kernel, turn_of (by decide +kernel), by decide +kernel⟩
  · exact ⟨by decide +kernel, (toChitin_of (op := 0x7f) (bad := false) (by decide +kernel)).toChitinTurn, by decide +kernel⟩

/-- One job in progress, decided or not. -/
def busy (fin : Option (Nat × List Byte × Fet)) (s : State) : State :=
  { s with jobs := [⟨.mgmt 1 2, 1, 5, 0, 0x11, .partDestroy 1, fin⟩] }

/-- The queue of the test's source expects sequence number n; none is taken out of turn; `h` waits behind a FENCE. -/
def expecting (n : BitVec 32) (h : List Instr) (s : State) : State := s.putQueue { src := .mgmt 1 2, next := n, lastFet := 5, held := h }

theorem witness_SequenceAndFenceHold :
    (∀ r, r = rq 1 [] → ∀ n, n ∈ [(6 : BitVec 32), 69, 70, 0x80000004, 0x80000005, 4] → ∀ s, s = expecting n [] up →
      scarabRow s (.nop r) = some (0x00, false, r) ∧ Admitted r s ∧ (queueOf (readIn r s) r.src).consumed.contains r.seq = false ∧
      (queueOf (readIn r s) r.src).held = [] ∧ (queueNext (readIn r s) r.src - r.seq).toNat = (n - 5).toNat) ∧
    (∀ r, r = { rq 1 [] with flags := 2 } → ∀ s, s = busy none (expecting 5 [] up) → r.flags &&& 2 ≠ 0 ∧ unfinished (readIn r s) r.src ≠ 0 ∧
      scarabRow s (.nop r) = some (0x00, false, r) ∧ Admitted r s ∧ (queueOf (readIn r s) r.src).consumed.contains r.seq = false ∧
      queueNext (readIn r s) r.src = r.seq) ∧
    (∀ r, r = rq 1 [] → ∀ n, n ∈ [(5 : BitVec 32), 4] → ∀ s, s = expecting n [.identify (rq 1 [])] up →
      scarabRow s (.nop r) = some (0x00, false, r) ∧ Admitted r s ∧ (queueOf (readIn r s) r.src).consumed.contains r.seq = false ∧
      (queueOf (readIn r s) r.src).held ≠ [] ∧ (queueNext (readIn r s) r.src - r.seq).toNat = (n - 5).toNat) := by
  refine ⟨?_, ?_, ?_⟩
  · rintro r rfl n hn s rfl
    simp only [List.mem_cons, List.not_mem_nil, or_false] at hn
    rcases hn with rfl | rfl | rfl | rfl | rfl | rfl <;>
      exact ⟨by decide +kernel, ⟨by decide +kernel, by decide +kernel, fun c n hc => by cases hc⟩, by decide +kernel, by decide +kernel, by decide +kernel⟩
  · rintro r rfl s rfl
    exact ⟨by decide +kernel, by decide +kernel, by decide +kernel, ⟨by decide +kernel, by decide +kernel, fun c n hc => by cases hc⟩,
      by decide +kernel, by decide +kernel⟩
  · rintro r rfl n hn s rfl
    simp only [List.mem_cons, List.not_mem_nil, or_false] at hn
    rcases hn with rfl | rfl <;>
      exact ⟨by decide +kernel, ⟨by decide +kernel, by decide +kernel, fun c n hc => by cases hc⟩, by decide +kernel, by decide +kernel, by decide +kernel⟩

theorem witness_RepliesCarrySequenceAndToken : (rq 1 []).src = .mgmt 1 2 ∧ ({ rq 1 [] with src := .snl 3 7 } : Request).src = .snl 3 7 :=
  ⟨rfl, rfl⟩

theorem witness_ProtocolEventsTakeEffect :
    (∀ s : State, s = busy (some (stOk, [], 7)) up →
      ∃ j, s.jobs.find? (fun j => queueKey j.src == queueKey (.mgmt 1 2) && j.seq == 5) = some j ∧ j.fin = some (stOk, [], 7) ∧
        holdsBack s j.work = false) ∧
    up.jobs.find? (fun j => queueKey j.src == queueKey (.mgmt 1 2) && j.seq == 5) = none ∧
    (inService up 0 = true ∧ inService up 87 = false ∧ systemField up = some 0 ∧ 1 ∈ serving up) ∧
    ((expecting 0 [] up).queues.find? (fun q => q.src == Source.mgmt 1 2) = some { src := .mgmt 1 2, lastFet := 5 } ∧
      (∀ t : Nat, t ∈ [60000000004, 60000000005] → (decide (5 + 60000000000 ≤ t) = (t == 60000000005)) )) := by
  refine ⟨by rintro s rfl; exact ⟨_, by rfl, by rfl, by decide +kernel⟩, ?_⟩
  decide +kernel

/-! ### Hypotheses of the statements: register accesses -/

/-- The physical function of endpoint 0 writes. -/
def pf : Path := .pf 0

theorem witness_QueueRegistersTakeEffect : ∀ s, s = ringUp up → onEndpoint pf 0 = true ∧
    Lands pf (0x8000 + 0x14) (R.CHT_SQ_TAIL 0 0) 4 s ∧ Lands pf (0x8000 + 0x1c) (R.CHT_CQ_HEAD 0 0) 1 s ∧
    (∀ t v, t = s.set (F.CHT_Q_CFG_EN 0 7) 0 → v = (1 : Word) → Lands pf (0x8000 + 0x1000 * 7 + 0x10) (R.CHT_Q_CFG 0 7) v t ∧
      t.flag (F.CHT_Q_CFG_EN 0 7) = false ∧ (landed (R.CHT_Q_CFG 0 7) v t).flag (F.CHT_Q_CFG_EN 0 7) = true) := by
  rintro s rfl
  refine ⟨by decide +kernel, lands_of (by decide +kernel), lands_of (by decide +kernel), ?_⟩
  rintro t v rfl rfl
  exact ⟨lands_of (by decide +kernel), by decide +kernel, by decide +kernel⟩

theorem witness_ControlRegistersTakeEffect : ∀ s, s = ringUp up →
    Lands pf R.CHT_BU_CTRL R.CHT_BU_CTRL 0x100 s ∧
    (Lands pf R.CHT_BU_CTRL R.CHT_BU_CTRL 0x200 s ∧
      (landed R.CHT_BU_CTRL 0x200 (s.set F.CHT_STATUS_RUNNING 1)).flag F.CHT_STATUS_RUNNING = true ∧ s.boot.warmPhase = 0) ∧
    (Lands pf R.CHT_RST_PIN_MASK R.CHT_RST_PIN_MASK 1 s ∧ s.flag F.CHT_RST_STATUS_RESET_STUCK = false) ∧
    (Lands pf R.CHT_RST_PIN_MASK R.CHT_RST_PIN_MASK 1 (s.set F.CHT_RST_STATUS_RESET_STUCK 1) ∧
      (s.set F.CHT_RST_STATUS_RESET_STUCK 1).flag F.CHT_RST_STATUS_RESET_STUCK = true) ∧
    Lands pf R.CHT_DEFECT_CTRL R.CHT_DEFECT_CTRL 0x1000 s ∧ Lands pf R.CHT_DEFECT_CTRL R.CHT_DEFECT_CTRL 0x2000 s ∧
    Lands pf (R.CLK_CTRL 87) (R.CLK_CTRL 87) 0x10a (s.set (F.PWR_DOM_STATUS_STATE 791) 3) ∧
    (∀ t, t = s.set (F.PRT_CFG_OP_MAX 0) 5 → pathUp t pf = true ∧ latchOnly t pf = false ∧ filtered t pf true (R.CLK_CTRL 87) = false ∧
      answers t (R.CLK_CTRL 87) = true ∧ place pf (R.CLK_CTRL 87) = some (R.CLK_CTRL 87) ∧ writeNoted t (R.CLK_CTRL 87) 0x10a = true ∧
      (0x10a : Word).getLsbD 8 = true) ∧
    (∀ t, t = s.set F.CHT_MGR_STATUS_ACT 1 → Lands pf R.CHT_MGR_CTRL R.CHT_MGR_CTRL 2 t ∧
      isManager (landed R.CHT_MGR_CTRL 2 t) = true) ∧
    (∀ t, t = s.set F.CHT_MGR_STATUS_DRIVING 1 → Lands pf R.CHT_MGR_CTRL R.CHT_MGR_CTRL 1 t ∧
      (landed R.CHT_MGR_CTRL 1 t).flag F.CHT_MGR_STATUS_DRIVING = true) ∧
    Lands pf R.CHT_MGMT_BASE R.CHT_MGMT_BASE 7 s := by
  rintro s rfl
  and_intros
  all_goals first
    | exact lands_of (by decide +kernel)
    | decide +kernel
    | (rintro t rfl; exact ⟨lands_of (by decide +kernel), by decide +kernel⟩)
    | (rintro t rfl; decide +kernel)

theorem witness_UnitClearsAndArmsTakeEffect : ∀ s, s = ringUp up →
    (Lands pf (R.CEL_CTRL 0 71) (R.CEL_CTRL 0 71) 4 s ∧ planIdle (landed (R.CEL_CTRL 0 71) 4 s) 0 = true) ∧
    (Lands pf (R.CEL_CTRL 0 71) (R.CEL_CTRL 0 71) 2 s ∧ planIdle (landed (R.CEL_CTRL 0 71) 2 s) 0 = true) ∧
    Lands pf (R.CEL_CTRL 1 0) (R.CEL_CTRL 1 0) 8 s ∧ Lands pf (R.CEL_INJECT 1 0) (R.CEL_INJECT 1 0) 1 s ∧
    Lands pf (R.FLD_CTRL 1) (R.FLD_CTRL 1) 1 s ∧ Lands pf (R.MSH_INJECT 1) (R.MSH_INJECT 1) 1 s ∧
    Lands pf (R.MSH_FCTRL 1) (R.MSH_FCTRL 1) 1 s ∧ Lands pf (R.VLT_N_CTRL 1) (R.VLT_N_CTRL 1) 0 s ∧
    Lands pf (R.VLT_N_CTRL 1) (R.VLT_N_CTRL 1) 1 s ∧ Lands pf (R.VLT_CTRL 11) (R.VLT_CTRL 11) 0 s ∧
    Lands pf (R.VLT_CTRL 11) (R.VLT_CTRL 11) 1 s := by
  rintro s rfl
  and_intros
  all_goals first | exact lands_of (by decide +kernel) | decide +kernel

theorem witness_EdgeAndPowerRegistersTakeEffect : ∀ s, s = ringUp up →
    Lands pf (R.ERU_SCHED0 63 127 + 4 * 3) (R.ERU_SCHED0 63 127 + 4 * 3) 5 s ∧ Lands pf (R.ERU_CTRL 63) (R.ERU_CTRL 63) 2 s ∧
    Lands pf (R.ERU_INJECT 0) (R.ERU_INJECT 0) 1 s ∧ Lands pf (R.UPD_G_CFG 11 15) (R.UPD_G_CFG 11 15) 1 s ∧
    Lands pf (R.UPD_CTRL 11) (R.UPD_CTRL 11) 1 s ∧ Lands pf (R.SNL_CTRL 63) (R.SNL_CTRL 63) 1 s ∧
    Lands pf (R.SNL_CTRL 63) (R.SNL_CTRL 63) 9 s ∧ Lands pf (R.SNL_CTRL 63) (R.SNL_CTRL 63) 5 s ∧
    Lands pf (R.SNL_INJECT 0) (R.SNL_INJECT 0) 1 s ∧ Lands pf R.PWR_CTRL R.PWR_CTRL 2 s ∧ Lands pf R.PWR_CTRL R.PWR_CTRL 1 s ∧
    Lands pf R.FLT_INJECT R.FLT_INJECT 1 s ∧ Lands pf R.FLT_CTRL R.FLT_CTRL 2 s ∧
    (∀ t, t = (s.set (F.UPD_G_CFG_VALID 11 15) 1).set (F.UPD_G_CFG_OPT 11 15) 2 → pathUp t pf = true ∧ latchOnly t pf = false ∧
      filtered t pf true (R.UPD_G_SHAPE 11 15) = false ∧ answers t (R.UPD_G_SHAPE 11 15) = true ∧
      place pf (R.UPD_G_SHAPE 11 15) = some (R.UPD_G_SHAPE 11 15) ∧ grpOn t 11 15 = true ∧ grpOpt t 11 15 = 2 ∧
      (0x30000 : Word).toNat % 2 ^ 16 = 0) := by
  rintro s rfl
  and_intros
  all_goals first | exact lands_of (by decide +kernel) | (rintro t rfl; decide +kernel)

theorem witness_RegisterAccessesFollowTheirType : ∀ s, s = ringUp up →
    (Lands pf R.TIM_PPS_DELAY R.TIM_PPS_DELAY 9 s ∧ (winOf R.TIM_PPS_DELAY).1 ≠ .chitin ∧
      (∀ n : Nat, (winOf R.TIM_PPS_DELAY).1 ≠ .eru n ∧ (winOf R.TIM_PPS_DELAY).1 ≠ .upd n)) ∧
    (pathUp s pf = true ∧ latchOnly s pf = false ∧ locked s = false ∧ filtered s pf true 0x44 = false ∧ answers s 0xffc = true
      ∧ place pf 0xffc = none ∧ filtered s pf true 0xffc = false ∧ filtered s pf false R.TIM_FET_LO = false
      ∧ filtered s pf false (R.TIM_FET_LO + 4) = false
      ∧ filtered s pf false R.PWR_DRAW = false) := by
  rintro s rfl
  and_intros <;> first | exact lands_of (by decide +kernel) | (intro n; exact ⟨nofun, nofun⟩) | decide +kernel

/-- A bit of each access type. -/
theorem witness_WrittenBitsFollowAccessType :
    ((accMask .rw R.TIM_PPS_DELAY).getLsbD 0 = true ∧ (accMask .w1c R.TIM_PPS_DELAY).getLsbD 0 = false) ∧
    ((accMask .rwl R.MSH_MODE).getLsbD 0 = true ∧ (accMask .rw R.MSH_MODE).getLsbD 0 = false) ∧
    ((accMask .w1c R.TIM_ALARM).getLsbD 0 = true ∧ (accMask .rw R.TIM_ALARM).getLsbD 0 = false) ∧
    ((accMask .w1s R.CHT_RST_PIN_MASK).getLsbD 0 = true ∧ (accMask .rw R.CHT_RST_PIN_MASK).getLsbD 0 = false) ∧
    ((accMask .rw R.TIM_STATUS).getLsbD 0 = false ∧ (accMask .w1c R.TIM_STATUS).getLsbD 0 = false) := by decide +kernel

/-! ### Hypotheses of the statements: time -/

/-- The disciplining loop runs, in a state of it. -/
def tim (st : Nat) : State := (up.set F.TIM_CTRL_ENABLE 1).set F.TIM_STATUS_STATE st

/-- Two PPS edges were good; the second 3 s before FET. -/
def pps (st : Nat) : State :=
  { (tim st).set F.CHT_PIN_STATUS_REF_CLK_OK 1 with
    fet := 4000000000
    time := { (tim st).time with ppsLastPs := some 1000000000000, ppsRun := 3, qualSince := [(3, 7)], learnSince := some 7
                                 provisional := [(3, 0, 1000000000)] } }

/-- Port 0 is trained and its partner LOCKED. -/
def peer (s : State) : State := (s.set (F.SNL_STATUS_STATE 0) 7).set (F.TIM_PORT_STATUS_PEER_STATE 0) 2 |>.set (F.TIM_PORT_STATUS_PEER_STEPS 0) 1

theorem witness_ReferencesDisciplineTheClock :
    (∀ t : Int, t = ((2000000100000 : Nat) : Int) - ((pps 2).set F.CHT_PIN_STATUS_REF_CLK_OK 1).geti F.TIM_PPS_DELAY_DELAY_PS →
      (∃ l, (pps 2).time.ppsLastPs = some l ∧ decide ((((2000000100000 : Nat) : Int) - l - 1000000000000).natAbs ≤ 100000) = true) ∧
        t = 2000000100000) ∧
    up.time.ppsLastPs = none ∧ (tim 2).flag F.TIM_CTRL_PTP_EN = false ∧
    (up.set F.TIM_CTRL_PTP_EN 1).flag F.TIM_CTRL_PTP_EN = true ∧ up.time.ptpGm = none ∧
    (ptpLost up = false ∧ ptpLost (pps 2) = true) ∧
    (∀ s, s = noteFar 1 0 (((peer (tim 0)).set F.TIM_REF_PRIO_PRIO0 1).setCic 0 { good := 1, heard := true }) → loopOn s = true ∧ loopState s = 0 ∧ qualifies s 1 0 = false ∧
      provisionally s 1 0 = true ∧ s.time.provisional.any (fun e => e.1 == 1 && e.2.1 == 0) = false ∧
      bestAcquire { s with time := { s.time with provisional := s.time.provisional ++ [(1, 0, s.fet)] } } = some (1, 0)) ∧
    loopOn State.reset = false ∧ lostTable (tim 2) 1 0 false = true ∧ lostNow (peer (tim 2)) 1 0 true = false ∧
    (lostNow up 4 0 false = false ∧ loopState (tim 2) = 2 ∧
      ∀ s, s = (tim 1).set F.TIM_STATUS_VALID 0 → loopState s = 1 ∧ s.flag F.TIM_STATUS_VALID = false) ∧
    (∀ s, s = ((peer (tim 2)).setCic 0 { good := 4, offPs := 1000001 }).set (F.FLD_STATUS_STARTED 0) 1 → lostTable s 1 0 false = false ∧
      isFar s 1 0 = true ∧ anyPlanStarted s = true ∧ loopState s ≠ 3) ∧
    ((pps 2).time.provisional = [(3, 0, 1000000000)] ∧ 1000000000 + 3000000000 ≤ (pps 2).fet ∧
      (∀ e ∈ ({ pps 2 with fet := 3999999999 } : State).time.provisional, overdue ({ pps 2 with fet := 3999999999 } : State) 3 e = false)) ∧
    (isSelected (pps 2) 3 0 = false ∧ isSelected ((pps 2).set F.TIM_STATUS_REF 3) 3 0 = true) ∧
    (loopOn (tim 1) = true ∧ loopState (tim 1) = 1 ∧ (-2000 : Int).natAbs ≤ 2000 ∧ 2000 < (2001 : Int).natAbs ∧
      99 ≤ ({ (tim 1).time with goodRun := 99 } : TimeState).goodRun ∧ (tim 1).time.goodRun < 99 ∧ (slewLeft (tim 1)).natAbs ≤ 2000 ∧
      2000 < (slewLeft { tim 1 with time := { (tim 1).time with switchOff := -2001, switchAt := 1000000 } }).natAbs) ∧
    (loopState (tim 3) = 3 ∧ (2000 : Int).natAbs ≤ 2000 ∧ 2000 < (-2001 : Int).natAbs ∧ loopState (tim 2) ≠ 3 ∧
      ∀ s : State, s = { tim 3 with fet := 1000000000, time := { (tim 3).time with switchOff := -52000 } } →
        s.time.switchOff.natAbs ≤ 2000 + (s.fet - s.time.switchAt) * s.get F.TIM_SLEW_CFG_SLEW_PPB / 1000000 ∧
        2000 + (({ s with fet := 999980000 } : State).fet - s.time.switchAt) * s.get F.TIM_SLEW_CFG_SLEW_PPB / 1000000 < s.time.switchOff.natAbs) ∧
    (∀ s, s = ((((pps 2).set F.TIM_REF_PRIO_PRIO0 3).set F.TIM_REF_PRIO_PRIO1 1).set F.TIM_STATUS_REF 1).set F.TIM_QUAL_CFG_REVERT_MS 3 →
      qualifiedSince s 3 0 = some 7 ∧ loopState s = 2 ∧ higherThanSelected s 3 0 = true ∧ qualifies s 3 0 = true ∧
      loopOn s = true ∧ revertTo s = some (3, 0) ∧
      max 7 s.time.switchEnd + s.get F.TIM_QUAL_CFG_REVERT_MS * 1000000 ≤ s.fet ∧
      ({ s with fet := 3000006 } : State).fet < max 7 s.time.switchEnd + s.get F.TIM_QUAL_CFG_REVERT_MS * 1000000) ∧
    ((tim 2).flag F.TIM_STATUS_OVEN_OK = false ∧ loopState ((tim 2).set F.TIM_STATUS_OVEN_OK 1) = 2 ∧
      loopState ((tim 1).set F.TIM_STATUS_OVEN_OK 1) ≠ 2) ∧
    (pps 2).time.learnSince = some 7 ∧
    (∀ s, s = (({ tim 4 with fet := 70000000000 } : State).set F.TIM_HOLD_CFG_HOLD_LIMIT_NS 1000) → loopState s = 4 ∧
      loopState (s.set F.TIM_STATUS_EST_ERR (holdEst s)) = 4 ∧
      (s.set F.TIM_STATUS_EST_ERR (holdEst s)).get F.TIM_HOLD_CFG_HOLD_LIMIT_NS
        < (s.set F.TIM_STATUS_EST_ERR (holdEst s)).get F.TIM_STATUS_EST_ERR) ∧ loopState (tim 2) ≠ 4 := by
  refine ⟨by rintro t rfl; exact ⟨⟨_, by rfl, by decide +kernel⟩, by decide +kernel⟩, ?_⟩
  and_intros
  all_goals first
    | decide +kernel
    | (rintro s rfl; decide +kernel)

/-- Field 87 has a change armed at FET 1000000, beside those that the module makes itself. -/
def armed87 (own : List OwnOp) (next : Nat) : State :=
  wrPair (({ up with power := { up.power with opOwn := own } } : State).set (F.CLK_CTRL_ARM 87) 1 |>.set (F.CLK_CTRL_OP_NEXT 87) next)
    (R.CLK_OP_FET_LO 87) (R.CLK_OP_FET_HI 87) 1000000

theorem witness_CicadaAndClocksAct :
    (∀ s, s = ((peer (tim 2)).set F.TIM_CTRL_CICADA_TX_EN 1).setCic 0 { got := true } → portTrained s 0 = true ∧
      (s.cic 0).got = true ∧ s.flag F.TIM_CTRL_CICADA_TX_EN = true ∧ loopState s ≠ 4) ∧
    portTrained up 63 = false ∧
    (∀ s, s = armed87 [] 0 → s.power.opOwn.find? (fun o => o.field == 87) = none ∧ s.flag (F.CLK_CTRL_ARM 87) = true ∧ opFet s 87 ≤ s.fet ∧
      s.fet % 20 = 0 ∧ opUpward s 87 = false ∧ fieldSettled s 87 = true ∧
      fieldSettled { s with power := { s.power with slews := [⟨790, 300, 310, 1000000⟩] } } 87 = false ∧
      ({ s with fet := 999980 } : State).fet < opFet s 87) ∧
    (up.power.opOwn.find? (fun o => o.field == 87) = none ∧ up.flag (F.CLK_CTRL_ARM 87) = false) ∧
    (∀ s, s = armed87 [⟨87, 5, 1000000⟩] 0 → s.power.opOwn.find? (fun o => o.field == 87) = some ⟨87, 5, 1000000⟩ ∧ 1000000 ≤ s.fet ∧
      s.fet % 20 = 0 ∧ fieldSettled s 87 = true) := by
  and_intros
  all_goals first | decide +kernel | (rintro s rfl; decide +kernel)

theorem witness_SteppingDiscardsWhatIsArmed : Canon (stepped 3) ∧
    (∀ p, ((stepped 3).part p).armed ≠ [] ∨ ((stepped 3).part p).commit ≠ none ∨ ((stepped 3).part p).ckptAt ≠ none → p < 8) ∧
    (∀ n, ((stepped 3).port n).sched ≠ [] → n < 64) ∧ ((stepped 3).part 1).armed ≠ [] ∧ stepDone State.reset < 5 := by
  refine ⟨canon_of (by decide +kernel), fun p h => ?_, fun n h => absurd rfl h, by decide +kernel, by decide +kernel⟩
  refine Decidable.byContradiction fun hp => ?_
  have hw : AMap.wf (fun _ => ({} : PartData)) (stepped 3).parts = true := by decide +kernel
  have h1 : (stepped 3).parts.filter (fun e => decide (e.1 < 8)) = (stepped 3).parts := by decide +kernel
  have h2 : (stepped 3).part p = {} := by
    have h3 := AMap.get_filter (d := fun _ => ({} : PartData)) (fun k => decide (k < 8)) (stepped 3).parts hw p
    rw [h1] at h3
    simpa [State.part, hp] using h3
  simp [h2] at h

/-! ### Hypotheses of the statements: cycle plans and cells -/

/-- The bundle queue of the field's cell at position 71 is full. -/
def full (s : State) : State := s.setCell 0 71 { queue := List.replicate 16 { bundle := 0, word := 0, iters := [] } }

/-- Logical cells 0 and 1 of field 0 stand at positions 0 and 1; each has run a tile. -/
def tiles (a b : Option (Nat × Bool)) : State :=
  ((up.set (F.CEL_STATUS_LOCAL_LOGICAL 0 1) 1).setCell 0 0 { tile := a }).setCell 0 1 { tile := b }

/-- Positions 8 and 9 of field 0 are idle reserves; 9 has run its tile. -/
def reserves : State :=
  ((up.set (F.CEL_STATUS_ROLE 0 8) 1).set (F.CEL_STATUS_ROLE 0 9) 1).setCell 0 9 { sentIdx := 1 }

theorem witness_BundlesIssueAndSentinelsCompare :
    (∀ s t, s = plan 0 (2 ^ 91) → t = seqTaken 0 7 s → SeqTurn 0 7 (2 ^ 91) s ∧ bKind (2 ^ 91) = 0 ∧ bCond (2 ^ 91) ≠ 1 ∧
      laneOn t 0 (2 ^ 91) = true ∧ queuesFree t 0 = true) ∧
    (∀ s t, s = (plan 0 (2 ^ 90)).set (F.FLD_LANE_EN_NOW 0) 11 → t = seqTaken 0 7 s → SeqTurn 0 7 (2 ^ 90) s ∧ bKind (2 ^ 90) = 0 ∧ laneOn t 0 (2 ^ 90) = false) ∧
    (∀ s t, s = full (plan 0 (2 ^ 91)) → t = seqTaken 0 0 s → SeqTurn 0 0 (2 ^ 91) s ∧ queuesFree t 0 = false) ∧
    (∀ s t, s = plan 0 (2 ^ 59 + 2 ^ 46) → t = seqTaken 0 7 s → SeqTurn 0 7 (2 ^ 59 + 2 ^ 46) s ∧ bCond (2 ^ 59 + 2 ^ 46) = 1 ∧
      gateFet t 0 (2 ^ 59 + 2 ^ 46) ≤ t.fet) ∧
    (∀ s t, s = plan 0 (5 * 2 ^ 92 + 2 ^ 59 + 2 ^ 57) → t = seqTaken 0 7 s →
      SeqTurn 0 7 (5 * 2 ^ 92 + 2 ^ 59 + 2 ^ 57) s ∧ t.fet < gateFet t 0 (5 * 2 ^ 92 + 2 ^ 59 + 2 ^ 57)) ∧
    (∀ s t, s = plan 0 (3 * 2 ^ 92 + 2 ^ 23) → t = seqTaken 0 7 s → SeqTurn 0 7 (3 * 2 ^ 92 + 2 ^ 23) s ∧
      t.get (iterFld 0 (bLevel (3 * 2 ^ 92 + 2 ^ 23))) < bTrips (3 * 2 ^ 92 + 2 ^ 23)) ∧
    (∀ s t, s = plan 0 (3 * 2 ^ 92) → t = seqTaken 0 7 s → SeqTurn 0 7 (3 * 2 ^ 92) s ∧
      bTrips (3 * 2 ^ 92) ≤ t.get (iterFld 0 (bLevel (3 * 2 ^ 92)))) ∧
    (∀ s, s = plan 0 (4 * 2 ^ 92) → SeqTurn 0 7 (4 * 2 ^ 92) s ∧ bKind (4 * 2 ^ 92) = 4) ∧
    (∀ w s t, w = 5 * 2 ^ 92 + 2 ^ 91 + 2 ^ 147 → s = plan 0 w → t = seqTaken 0 7 s → SeqTurn 0 7 w s ∧ bKind w = 5 ∧ bCond w ≠ 1 ∧
      laneOn t 0 w = true ∧ movesFit t 0 w = true) ∧
    (∀ w s t, w = 5 * 2 ^ 92 + 2 ^ 91 + 2 ^ 147 + 2 ^ 199 → s = (plan 0 w).set (F.VLT_MQ_CFG_DEPTH 0 0) 1 → t = seqTaken 0 7 s →
      SeqTurn 0 7 w s ∧ movesFit t 0 w = false) ∧
    (∀ s t, s = plan 0 (2 * 2 ^ 92) → t = seqTaken 0 7 s → SeqTurn 0 7 (2 * 2 ^ 92) s ∧ bKind (2 * 2 ^ 92) = 2 ∧ queuesFree t 0 = true) ∧
    (∀ s, s = tiles (some (0, false)) (some (0, false)) → ∀ t u, t = atCycle 0 7 s →
      u = (t.set (F.CEL_STATUS_SENTINEL 0 0) 0).setCell 0 0 { t.cell 0 0 with tile := some (0, true) } →
      (s.fieldD 0).cyc ≤ 7 ∧ holderOf t 0 0 = some 0 ∧ tileEnded (t.cell 0 0) 7 = some (0, false) ∧
      holderOf t 0 (0 ^^^ 2 ^ (0 % 6)) = some 1 ∧ (tileEnded (t.cell 0 1) 7).any (fun e => e.1 == 0) = true ∧
      u.rd (R.CEL_SENT_SIG 0 0) = u.rd (R.CEL_SENT_SIG 0 1) ∧
      (u.wr (R.CEL_SENT_SIG 0 0) 5).rd (R.CEL_SENT_SIG 0 0) ≠ (u.wr (R.CEL_SENT_SIG 0 0) 5).rd (R.CEL_SENT_SIG 0 1)) ∧
    ((tileEnded ((atCycle 0 7 (tiles (some (0, false)) (some (1, false)))).cell 0 1) 7).any (fun e => e.1 == 0) = false ∧
      (∀ idx, tileEnded ((atCycle 0 7 (tiles none none)).cell 0 0) 7 ≠ some (idx, false)) ∧
      6 < ((up.setField 0 { cyc := 7 }).fieldD 0).cyc) ∧
    holderOf (atCycle 0 7 State.reset) 0 0 = none ∧ (idleReserves up 0).contains 8 = false ∧
    ((idleReserves reserves 0).contains 8 = true ∧ (idleReserves reserves 0)[(idleReserves reserves 0).idxOf 8 ^^^ 2 ^ (0 % 3)]? = some 9 ∧
      (reserves.cell 0 8).sentIdx = 0 ∧ (reserves.cell 0 9).sentIdx = 0 + 1 ∧
      ∃ err, reserves.rd (R.CEL_SENT_SIG 0 9) ≠ Config.sentinel (reserves.rd (R.CEL_SENT_SEED 0 8)) 0 ^^^ err) ∧
    (idleReserves (reserves.set (F.CEL_STATUS_ROLE 0 9) 0) 0)[(idleReserves (reserves.set (F.CEL_STATUS_ROLE 0 9) 0) 0).idxOf 8
      ^^^ 2 ^ (0 % 3)]? = none := by
  have hx : ∃ err, reserves.rd (R.CEL_SENT_SIG 0 9) ≠ Config.sentinel (reserves.rd (R.CEL_SENT_SEED 0 8)) 0 ^^^ err := by
    generalize reserves.rd (R.CEL_SENT_SIG 0 9) = a
    generalize Config.sentinel (reserves.rd (R.CEL_SENT_SEED 0 8)) 0 = b
    cases Decidable.em (a = b) with
    | inl h => exact ⟨1, fun e => by simpa [h] using congrArg (·.getLsbD 0) e⟩
    | inr h => exact ⟨0, by simpa using h⟩
  have hn : tileEnded ((atCycle 0 7 (tiles none none)).cell 0 0) 7 = none := by decide +kernel
  have hm : ∀ idx, tileEnded ((atCycle 0 7 (tiles none none)).cell 0 0) 7 ≠ some (idx, false) := fun idx e => by
    rw [hn] at e; cases e
  refine ⟨?_, ?_, ?_, ?_, ?_, ?_, ?_, ?_, ?_, ?_, ?_, ?_, ⟨by decide +kernel, hm, by decide +kernel⟩,
    by decide +kernel, by decide +kernel, ⟨by decide +kernel, by decide +kernel, by decide +kernel, by decide +kernel, hx⟩, by decide +kernel⟩
  iterate 7 (rintro s t rfl rfl; exact ⟨seqTurn_of (by decide +kernel), by decide +kernel⟩)
  · rintro s rfl; exact ⟨seqTurn_of (by decide +kernel), by decide +kernel⟩
  iterate 2 (rintro w s t rfl rfl rfl; exact ⟨seqTurn_of (by decide +kernel), by decide +kernel⟩)
  · rintro s t rfl rfl; exact ⟨seqTurn_of (by decide +kernel), by decide +kernel⟩
  · rintro s rfl t u rfl rfl; decide +kernel

/-- Partition 1 has boundaries armed; its field 0 stands at a STEP bundle. -/
def atStep (l : List Fet) : State := let s := plan 0 (2 ^ 92 + 2 ^ 91); s.setPart 1 { s.part 1 with armed := l }

theorem witness_StepBoundariesTakeEffect :
    (∀ w, w = 2 ^ 92 + 2 ^ 91 → bKind w = 1 ∧
      (∀ s t, s = atStep [] → t = seqTaken 0 7 (settle s) → SeqTurn 0 7 w (settle s) ∧ nextBoundary t 0 = none) ∧
      (∀ s t, s = atStep [1000001] → t = seqTaken 0 7 (settle s) → SeqTurn 0 7 w (settle s) ∧ nextBoundary t 0 = some 1000001 ∧
        t.fet < 1000001) ∧
      (∀ s t, s = atStep [1000000] → t = seqTaken 0 7 (settle s) → SeqTurn 0 7 w (settle s) ∧ nextBoundary t 0 = some 1000000 ∧
        1000000 ≤ t.fet ∧ rerunHolds t 0 = false ∧ queuesFree t 0 = true) ∧
      (∀ s t, s = full (atStep [512]) → t = seqTaken 0 7 (settle s) → SeqTurn 0 7 w (settle s) ∧ nextBoundary t 0 = some 512 ∧
        512 ≤ t.fet ∧ rerunHolds t 0 = false ∧ queuesFree t 0 = false)) ∧
    commitDue up 1 = false ∧ commitDue (up.setPart 1 { up.part 1 with commit := some ⟨1000000, 1, []⟩ }) 1 = true ∧
    ((settleCommits up).mesh.shadow = none ∧ ∀ a, a ∈ [(1000000 : Nat), 1000001] → ∃ m, m.at_ = a ∧
      (settleCommits { up with mesh := { up.mesh with shadow := some { at_ := a, part := 1 } } }).mesh.shadow = some m) ∧
    portTrained up 0 = false ∧ portTrained (peer up) 0 = true := by
  refine ⟨?_, by decide +kernel, by decide +kernel, ⟨by decide +kernel, ?_⟩, by decide +kernel, by decide +kernel⟩
  · rintro w rfl
    refine ⟨by decide +kernel, ?_, ?_, ?_, ?_⟩ <;> rintro s t rfl rfl <;> exact ⟨seqTurn_of (by decide +kernel), by decide +kernel⟩
  · intro a h
    simp only [List.mem_cons, List.not_mem_nil, or_false] at h
    rcases h with rfl | rfl <;> exact ⟨{ at_ := _, part := 1 }, rfl, by decide +kernel⟩

/-- A bundle queued at the field's cell 5, in a field whose image's template is of class `cls`, and what else the cell holds. -/
def queued (cls : Byte) (w : Nat) (c : CellState) : State :=
  (plan cls 0).setCell 0 5 { c with queue := [{ bundle := 0, word := w, iters := [] }] }

/-- A SENTINEL_RUN of partition 1 runs two tiles on field 0. -/
def sentRun : State := { up with jobs := [⟨.mgmt 1 2, 1, 5, 0, 0x60, .sentinelRun 1 1 2 0, none⟩] }

/-- What lets a cell act, as a computation. -/
def cellTurn (f pos cyc : Nat) (s : State) : Bool := domState s (domOfCell f pos) == 3 && decide ((s.fieldD f).cyc ≤ cyc)

theorem cellTurn_of {f pos cyc : Nat} {s : State} (h : cellTurn f pos cyc s = true) : CellTurn f pos cyc s (atCycle f cyc s) := by
  simp only [cellTurn, Bool.and_eq_true, beq_iff_eq, decide_eq_true_eq] at h
  exact ⟨h.1, h.2, rfl⟩

theorem turns_of {f pos cyc : Nat} {l : List State} (h : l.all (cellTurn f pos cyc) = true) :
    ∀ s, s ∈ l → CellTurn f pos cyc s (atCycle f cyc s) := fun s hs => cellTurn_of (List.all_eq_true.mp h s hs)

/-- A slot of class `cls`, numbered `id`. -/
def slotOf (cls id : Nat) : Slot :=
  { seq := id, bundle := 0, cluster := 0, rep := 0, lane := 0, laneMask := 1, tmpl := cls * 2 ^ 248 + 2 ^ 48, a0 := 0, a1 := 0, imm := 0, span := 1 }

/-- Eight guards wait; a slot of LOAD_W holds its units; a slot of order group 1 is parked. -/
def eight : CellState := { parked := (List.range 8).map (fun i => ⟨slotOf 0 i, i, 1, 0, 64, 0⟩), next := 9 }
def held : CellState := { running := [{ slot := slotOf 1 0, guarded := true }], next := 9 }

theorem witness_CellRepetitionsBegin :
    domState State.reset (domOfCell 0 5) ≠ 3 ∧
    (∀ s, s ∈ [queued 0 0 {}, queued 0 (2 ^ 92) {}, queued 0 (2 * 2 ^ 92) held, queued 0 (2 ^ 60 + 255 * 2 ^ 7) eight, queued 1 0 {}, sentRun] →
      CellTurn 0 5 7 s (atCycle 0 7 s)) ∧
    (∀ t, t = atCycle 0 7 sentRun → cellServes t 0 5 = true ∧ repEnded (t.cell 0 5) 7 = true ∧ nextRep (t.cell 0 5) 7 = none ∧
      ∃ e, nextRunTile t 0 5 7 = some e ∧ (t.cell 0 5).running.any (fun r => r.guarded && r.units &&& 7 != 0) = false) ∧
    (∀ t, t = atCycle 0 7 (queued 0 0 {}) → ((queued 0 0 {}).fieldD 0).cyc ≤ 7 ∧ cellServes t 0 5 = true ∧
      repEnded (t.cell 0 5) 7 = true ∧ cellServes (atCycle 0 7 State.reset) 0 5 = false ∧ nextRep (t.cell 0 6) 7 = none) ∧
    (∀ w, w ∈ [(2 ^ 92 : Nat), 2 * 2 ^ 92, 0] → ∀ t, t = atCycle 0 7 (queued 0 w {}) → cellServes t 0 5 = true ∧
      repEnded (t.cell 0 5) 7 = true ∧ nextRep (t.cell 0 5) 7 = some ({ bundle := 0, word := w, iters := [] }, 0, true)) ∧
    (bKind (2 ^ 92) = 1 ∧ bKind (2 * 2 ^ 92) = 2 ∧ bKind (2 ^ 60 + 255 * 2 ^ 7) = 0) ∧
    (∀ t, t = atCycle 0 7 (queued 0 (2 * 2 ^ 92) held) →
      (t.cell 0 5).running.any (fun r => r.guarded && r.units &&& 7 != 0) = false ∧
      ([{ slot := slotOf 2 0, guarded := true }] : List Running).any (fun r => r.guarded && r.units &&& 7 != 0) = true) ∧
    (∀ t x, t = atCycle 0 7 (queued 0 (2 ^ 60 + 255 * 2 ^ 7) eight) →
      x = makeSlot t 0 5 (t.cell 0 5).next 0 { bundle := 0, word := 2 ^ 60 + 255 * 2 ^ 7, iters := [] } →
      slotGuarded (2 ^ 60 + 255 * 2 ^ 7) x.cluster = true ∧ 8 ≤ (waiting (t.cell 0 5)).length ∧ (waiting ({} : CellState)).length < 8) ∧
    (∀ t x, t = atCycle 0 7 (queued 1 0 {}) → x = makeSlot t 0 5 (t.cell 0 5).next 0 { bundle := 0, word := 0, iters := [] } →
      slotGuarded 0 x.cluster = false ∧ unitsFree (t.cell 0 5) x.units = true ∧ groupBusy (t.cell 0 5) x.order x.seq = false ∧
      x.units ≠ 0 ∧ unitsFree held x.units = false) ∧
    (∀ t x, t = atCycle 0 7 (queued 0 0 held) → x = makeSlot t 0 5 (t.cell 0 5).next 0 { bundle := 0, word := 0, iters := [] } →
      slotGuarded 0 x.cluster = false ∧ unitsFree (t.cell 0 5) x.units = true ∧ groupBusy (t.cell 0 5) x.order x.seq = false ∧
      x.units = 0) := by
  refine ⟨by decide +kernel, turns_of (by decide +kernel),
    by rintro t rfl; exact ⟨by decide +kernel, by decide +kernel, by decide +kernel, _, by rfl, by decide +kernel⟩,
    by rintro t rfl; decide +kernel, ?_, by decide +kernel, by rintro t rfl; decide +kernel, by rintro t x rfl rfl; decide +kernel,
    by rintro t x rfl rfl; decide +kernel, by rintro t x rfl rfl; decide +kernel⟩
  intro w h t ht
  simp only [List.mem_cons, List.not_mem_nil, or_false] at h
  rcases h with rfl | rfl | rfl <;> subst ht <;> decide +kernel

/-- The field's cell 5 holds a slot parked in a phase, or running. -/
def parkedIn (cls phase : Nat) : State := up.setCell 0 5 { parked := [⟨slotOf cls 3, 9, 1, 0, 64, phase⟩], next := 4 }
def runs (r : Running) : State := up.setCell 0 5 { running := [r], next := 4 }

/-- A DRAIN whose conversion is done; one whose write port queue is full. -/
def drained : Running := { slot := slotOf 5 3, guarded := false, formed := true, out := [{ cls := 0, owner := 3, addr := 0 }], nW := 0 }
def busyPort : State := up.setCell 0 5 { running := [drained], wport := List.replicate 4 { cls := 0, owner := 2, addr := 0 }, next := 4 }

theorem witness_SlotsRunAndEnd :
    (∀ s, s ∈ [up, parkedIn 0 0, parkedIn 1 1, parkedIn 5 2, runs drained, busyPort] → CellTurn 0 5 7 s (atCycle 0 7 s)) ∧
    (∀ r, r = { drained with last := 8 } → ((atCycle 0 7 (runs r)).cell 0 5).running.find? (fun r => r.slot.seq == 3) = some r ∧ 7 < r.last) ∧
    ((up.fieldD 0).cyc ≤ 0 ∧ ((atCycle 0 0 up).cell 0 5).parked.find? (fun p => p.slot.seq == 3) = none ∧
      ((atCycle 0 0 up).cell 0 5).running.find? (fun r => r.slot.seq == 3) = none) ∧
    (∀ t, t = atCycle 0 7 (parkedIn 0 0) → ∃ p, (t.cell 0 5).parked.find? (fun p => p.slot.seq == 3) = some p ∧ p.phase = 0) ∧
    (∀ t, t = atCycle 0 7 (parkedIn 1 1) → ∃ p, (t.cell 0 5).parked.find? (fun p => p.slot.seq == 3) = some p ∧ p.phase = 1 ∧
      groupBusy (t.cell 0 5) p.slot.order p.slot.seq = false ∧ unitsFree (t.cell 0 5) p.slot.units = true ∧
      (readyInOrder t 0 5 7).any (fun y => y.units &&& p.slot.units != 0) = false ∧ inSentinel (t.cell 0 5) 7 = false) ∧
    (∀ t, t = atCycle 0 7 (parkedIn 5 2) → ∃ p, (t.cell 0 5).parked.find? (fun p => p.slot.seq == 3) = some p ∧ p.phase = 2 ∧
      markReqs p.slot ≠ [] ∧ groupBusy (t.cell 0 5) p.slot.order p.slot.seq = false ∧ unitsFree (t.cell 0 5) 32 = true ∧
      (readyInOrder t 0 5 7).any (fun y => y.units &&& 32 != 0) = false ∧ inSentinel (t.cell 0 5) 7 = false) ∧
    (∀ r t, r = { slot := slotOf 1 3, guarded := false } → t = atCycle 0 7 (runs r) →
      (t.cell 0 5).running.find? (fun r => r.slot.seq == 3) = some r ∧ r.last ≤ 7 ∧ r.marking = false ∧
      ∀ a b u d w x, a = issueA 0 5 7 { r with last := 7 + 1 } false 0 t → b = issueB 0 5 7 a.1 false a.2 →
        u = issueU 0 5 7 b.1 0 b.2.2 → d = issueD 0 5 7 u.1 0 u.2.2 → w = issueW 0 5 7 (formWrites d.1) false d.2.2 →
        x = w.2.2.setCell 0 5 (setRunning w.1 (w.2.2.cell 0 5)) →
        (b.2.1 || u.2.1 || d.2.1 || w.2.1) = false ∧ (x.cell 0 5).stallAt ≤ 7) ∧
    (∀ t, t = atCycle 0 7 busyPort → (t.cell 0 5).running.find? (fun r => r.slot.seq == 3) = some drained ∧
      ∀ a b u d w, a = issueA 0 5 7 { drained with last := 7 + 1 } false 0 t → b = issueB 0 5 7 a.1 false a.2 →
        u = issueU 0 5 7 b.1 0 b.2.2 → d = issueD 0 5 7 u.1 0 u.2.2 → w = issueW 0 5 7 (formWrites d.1) false d.2.2 →
        (b.2.1 || u.2.1 || d.2.1 || w.2.1) = true) ∧
    (∀ r t w x, r = { drained with marking := true } → t = atCycle 0 7 (runs r) → w = issueW 0 5 7 { r with last := 7 + 1 } false t →
      x = w.2.2.setCell 0 5 (setRunning w.1 (w.2.2.cell 0 5)) →
      (t.cell 0 5).running.find? (fun r => r.slot.seq == 3) = some r ∧ w.2.1 = false ∧ (x.cell 0 5).stallAt ≤ 7) ∧
    (∀ r t, r = { drained with marking := true } →
      t = atCycle 0 7 (up.setCell 0 5 { running := [r], wport := List.replicate 4 { cls := 0, owner := 2, addr := 0 } }) →
      (t.cell 0 5).running.find? (fun r => r.slot.seq == 3) = some r ∧ (issueW 0 5 7 { r with last := 7 + 1 } false t).2.1 = true) ∧
    (slotDone { drained with marking := true, nW := 1 } = true ∧ slotDone drained = false) ∧
    (∀ r, r = { slot := slotOf 9 3, guarded := false, formed := true, nB := 1, inB := [[]] } → slotDone r = true) := by
  refine ⟨turns_of (by decide +kernel), by rintro r rfl; decide +kernel,
    by decide +kernel, by rintro t rfl; exact ⟨_, by rfl, by rfl⟩, by rintro t rfl; exact ⟨_, by rfl, by decide +kernel⟩,
    by rintro t rfl; exact ⟨_, by rfl, by decide +kernel⟩, ?_, ?_, by rintro r t w x rfl rfl rfl rfl; decide +kernel,
    by rintro r t rfl rfl; decide +kernel, by decide +kernel, by rintro r rfl; decide +kernel⟩
  · rintro r t rfl rfl
    exact ⟨by decide +kernel, by decide +kernel, by decide +kernel, by rintro a b u d w x rfl rfl rfl rfl rfl rfl; decide +kernel⟩
  · rintro t rfl
    exact ⟨by decide +kernel, by rintro a b u d w rfl rfl rfl rfl rfl; decide +kernel⟩

/-- Requests wait at both shared ports; arrivals and acknowledgements wait. -/
def waits : State := up.setCell 0 5 {
  wport := [{ cls := 2, owner := 1, addr := 0, since := 7 }], portB := [{ cls := 1, owner := 1, addr := 0, since := 7 }]
  arrivals := [(9, 6)], acks := [4], parked := [⟨slotOf 0 3, 9, 2, 0, 6, 0⟩] }

/-- The cluster of cell 5 wakes; the scratchpads at the listed positions are being zeroed. -/
def zeroing (l : List Nat) : State :=
  let s : State := { up with power := { up.power with entering := [⟨domOfCell 0 5, 1, 3, 0⟩] } }
  s.forEach l (fun p t => t.set (F.CEL_STATUS_SP_ZEROING 0 p) 1)

theorem witness_PortsGrantAndArrivalsCount :
    domState State.reset (domOfCell 0 5) ≠ 3 ∧ CellTurn 0 5 7 waits (atCycle 0 7 waits) ∧
    (∀ t, t = atCycle 0 7 waits → (waits.fieldD 0).cyc ≤ 7 ∧ t.flag (F.CEL_STATUS_SP_ZEROING 0 5) = false ∧
      ((t.cell 0 5).grantW ≤ 7 ∧ (pickReq 7 (fun _ => false) (t.cell 0 5).wport).isSome) ∧
      ((t.cell 0 5).grantB ≤ 7 ∧ (pickReq 7 (sendWaits t 0 5) (t.cell 0 5).portB).isSome) ∧
      (t.cell 0 5).arrivals = [(9, 6)] ∧ (t.cell 0 5).lastArrival ≤ 7 ∧ (expireList 7 (t.cell 0 5).parked).isSome) ∧
    (atCycle 0 7 (up.set (F.CEL_STATUS_SP_ZEROING 0 5) 1)).flag (F.CEL_STATUS_SP_ZEROING 0 5) = true ∧
    (((atCycle 0 6 waits).cell 0 5).arrivals = [(9, 6)] ∧ (6 : Nat) ≤ 6 ∧ expireList 6 ((atCycle 0 6 waits).cell 0 5).parked = none ∧
      ((atCycle 0 6 waits).cell 0 5).acks = [4] ∧ ((atCycle 0 6 waits).cell 0 5).lastArrival ≤ 6 ∧
      ((atCycle 0 6 waits).cell 0 5).arrivals.any (fun e => decide (e.2 < 6)) = false) ∧
    (up.cell 0 5).arrivals = [] ∧ (up.cell 0 5).acks = [] ∧
    (zeroing [5]).power.entering.find? (fun e => e.dom == domOfCell 0 5 && e.kind == 1) = some ⟨domOfCell 0 5, 1, 3, 0⟩ ∧
    up.power.entering.find? (fun e => e.dom == domOfCell 0 5 && e.kind == 1) = none ∧
    (clusterCells (domOfCell 0 5)).any (fun q => ((zeroing [5]).set (F.CEL_STATUS_SP_ZEROING 0 5) 0).flag
      (F.CEL_STATUS_SP_ZEROING 0 q)) = false ∧
    (clusterCells (domOfCell 0 5)).any (fun q => ((zeroing [4, 5]).set (F.CEL_STATUS_SP_ZEROING 0 5) 0).flag
      (F.CEL_STATUS_SP_ZEROING 0 q)) = true := by
  refine ⟨by decide +kernel, cellTurn_of (by decide +kernel), by rintro t rfl; decide +kernel, ?_⟩
  decide +kernel

/-! ### Hypotheses of the statements: the wafer mesh, movers and tiers -/

/-- Fields 0 and 1 are passable; logical cell 1 of field 0 is at position 5; fields 28 and 29, left and right of the seam, are
ON. -/
def mesh : State :=
  let s := (((up.wr R.MSH_FIELD_OK0 3).set (F.MSH_L2P_POS 1) 5).set (F.MSH_L2P_POS 70) 6)
  (s.set (F.PWR_DOM_STATUS_STATE 260) 3).set (F.PWR_DOM_STATUS_STATE 269) 3

/-- Field 0's network interface at position 0 holds a packet, or retry records. -/
def sending (p : Packet) : State := mesh.setNi 0 0 { out := [p] }
def retries (r : RetryRec) : State := mesh.setNi 0 0 { retry := [r] }

theorem witness_PacketsAreInjectedAndRetried :
    nextOut (mesh.ni 0 0) = none ∧
    (∀ p q t u, p = { id := 0, dst := 1, src0 := 0, data := [[]], len := 1 } → q = fillHeader (sending p) 0 0 p →
      t = (sending p).setNi 0 0 { (sending p).ni 0 0 with out := ((sending p).ni 0 0).out.erase p } →
      u = { t with mesh := { t.mesh with nextId := if p.id = 0 then t.mesh.nextId + 1 else t.mesh.nextId } } →
      nextOut ((sending p).ni 0 0) = some p ∧ uncoreOn (sending p) 0 = true ∧ yields 0 0 (sending p) = false ∧
      bufHeld (sending p) q.id (headBuf q) = false ∧ locate u q.dst q.src = some (0, 5, 5) ∧
      (chooseRoute u q.part (q.x, q.y) (globalX 0 5, globalY 0 5)).isSome = true ∧
      locate u 8191 q.src = none ∧ locate u (64 * 28) q.src = some (28, 0, 0) ∧
      (chooseRoute u q.part (q.x, q.y) (globalX 28 0, globalY 28 0)).isNone = true ∧
      (∀ v : State, v = { sending p with mesh := { (sending p).mesh with packets := [{ q with id := 77 }] } } →
        nextOut (v.ni 0 0) = some p ∧ bufHeld v (fillHeader v 0 0 p).id (headBuf (fillHeader v 0 0 p)) = true)) ∧
    (∀ r, r = { pkt := { id := 4 }, len := 1, waiting := true, backoff := 16, at_ := 999987 } →
      ((retries r).ni 0 0).retry[0]? = some r ∧ r.waiting = true ∧ r.at_ + cdiv (4 * r.backoff) 5 ≤ (retries r).fet ∧
      ({ retries r with fet := 999999 } : State).fet < r.at_ + cdiv (4 * r.backoff) 5) ∧
    (∀ r, r = { pkt := { id := 4 }, len := 1, at_ := 998361 } → ((retries r).ni 0 0).retry[0]? = some r ∧ r.waiting = false ∧
      ((retries r).ni 0 0).out.any (fun p => p.id == r.pkt.id) = false ∧ r.at_ + cdiv (4 * 2048) 5 ≤ (retries r).fet ∧
      ({ retries r with fet := 999999 } : State).fet < r.at_ + cdiv (4 * 2048) 5 ∧ ((retries r).ni 0 0).retry[1]? = none) := by
  refine ⟨by decide +kernel, ?_, by rintro r rfl; decide +kernel, by rintro r rfl; decide +kernel⟩
  rintro p q t u rfl rfl rfl rfl
  and_intros
  all_goals first | decide +kernel | (rintro v rfl; decide +kernel)

/-- A network interface of field 0 holds a packet. -/
def sendingAt (f node : Nat) (p : Packet) : State := mesh.setNi f node { out := [p] }

/-- One packet is on the mesh. -/
def flying (p : Packet) : State := { mesh with mesh := { mesh.mesh with packets := [p] } }

/-- Two are. -/
def both (p q : Packet) : State := { mesh with mesh := { mesh.mesh with packets := [p, q] } }

theorem witness_PacketsTravelAndArrive :
    (∀ p h, p = { id := 9, part := 1, x := 39, y := 27, route := [{ x := 40, y := 27 }] } → h = { x := 40, y := 27 } →
      (flying p).mesh.packets.find? (fun p => p.id == 9) = some p ∧ p.route = h :: [] ∧ inputHeld (flying p) p h = false ∧
      headWaits (flying p) p = false ∧ stopWaits (flying p) h 29 0 = false ∧ routerAt p.x p.y = some (28, 7) ∧ routerAt h.x h.y = some (29, 0) ∧
      uncoreOn (flying p) 28 = true ∧ uncoreOn (flying p) 29 = true ∧ (flying p).flag F.MSH_MODE_MODE = false ∧
      (∀ t, t = ((flying p).set F.MSH_MODE_MODE 1).set F.MSH_MODE_SEAM_ALLOW 0 → t.flag F.MSH_MODE_MODE = true ∧ p.part ≠ 0 ∧ h.via = 0 ∧
        decide (p.x < 40) ≠ decide (h.x < 40) ∧ bitOf (t.get F.MSH_MODE_SEAM_ALLOW) p.part = 0) ∧
      uncoreOn ((flying p).set (F.PWR_DOM_STATUS_STATE 269) 0) 29 = false ∧
      uncoreOn ((flying p).set (F.PWR_DOM_STATUS_STATE 260) 0) 28 = false ∧
      inputHeld (both p { id := 3, x := 40, y := 27, inPort := (hopPorts p h).1, phase := h.phase, flits := [4], len := 7 }) p h = true ∧
      headWaits (both p { p with id := 3, cls := 0 }) p = true) ∧
    (∀ h s, h = { x := 26, y := 4, via := 2 } → s = { sendingAt 0 34 { id := 0, dst := 1, data := [[]], len := 1 } with
        mesh := { mesh.mesh with localTurns := [(34, 1)] } } → stopWaits s h 0 34 = true) ∧
    (∀ p f, p = { id := 9, part := 1, dst := 1, src := 0, x := 21, y := 0, injected := true } → f = flying p →
      f.mesh.packets.find? (fun p => p.id == 9) = some p ∧ p.route = [] ∧ ejectNode p = some (0, 5) ∧ p.ctl ≠ 1 ∧ headWaits f p = false ∧ uncoreOn f 0 = true ∧
      ∃ q t, ejectPacket p 0 f = some (q, t) ∧ q.injected = true ∧ ∀ c, c = headerChecks 0 5 q t → c.1 = true ∧ q.cls ≠ 0 ∧
        contextsHeld c.2 0 5 + rivalsAhead c.2 q (0, 5) < contextLimit 5 ∧
        contextLimit 5 ≤ contextsHeld (c.2.setNi 0 5 { ctx := List.replicate 7 (p, 0) }) 0 5) ∧
    (∀ p, p = { id := 9, cls := 0, part := 1, dst := 1, x := 21, y := 0, ctl := 1, injected := true } → p.route = [] ∧
      ejectNode p = some (0, 5) ∧ ∃ q t, ejectPacket p 0 (flying p) = some (q, t) ∧ q.injected = true) ∧
    (({ mesh with mesh := { mesh.mesh with drainEnd := 1000001 } } : State).fet < 1000001 ∧ mesh.mesh.drainEnd ≤ mesh.fet) := by
  refine ⟨?_, by rintro h s rfl rfl; decide +kernel, ?_,
    by rintro p rfl; exact ⟨by decide +kernel, by decide +kernel, _, _, rfl, by decide +kernel⟩, by decide +kernel⟩
  · rintro p h rfl rfl
    and_intros
    all_goals first | decide +kernel | (rintro t rfl; decide +kernel)
  · rintro p f rfl rfl
    exact ⟨by decide +kernel, by decide +kernel, by decide +kernel, by decide +kernel, by decide +kernel, by decide +kernel, _, _, rfl, by decide +kernel,
      by rintro c rfl; decide +kernel⟩

/-- Field 0's queue 0 holds one descriptor. -/
def posted (w : Nat) (on : Bool) : State :=
  up.setField 0 { descs := [{ id := 0, queue := 0, index := 0, word := w, running := on, started := if on then [0] else []
                              completed := if on then [0] else [] }], nextDesc := 1 }

/-- Field 0 has one access in flight. -/
def inFlight (w stage : Nat) : State :=
  up.setField 0 { accs := [{ id := 5, desc := 0, queue := 0, index := 0, word := w, cell := 0, k := 0, stage := stage }] }

theorem witness_MoversRunDescriptors :
    oldest (inQueue (up.fieldD 0) 31) = none ∧
    (∀ w, w ∈ [rdN, 0] → ∃ e, oldest (inQueue ((posted w false).fieldD 0) 0) = some (e, []) ∧ moversRun (posted w false) 0 = true ∧
      (([] : List Desc).filter (fun x => x.running && !descDone ((posted w false).fieldD 0) x)).length
        < (posted w false).get (F.VLT_MQ_CFG_OUT_LIMIT 0 0) ∧ dAfter e.word = false ∧ descBad e.word = (w == 0)) ∧
    (∀ s, s = setPartState up 1 4 → moversRun s 0 = false) ∧
    (moversRun up 0 = true ∧ (up.fieldD 0).accs.length < 1536) ∧
    (∀ s br e, s = posted rdN true → br = branchOf s 0 rdN 0 → (s.fieldD 0).descs.head? = some e →
      br < 9 ∧ (s.fieldD 0).accs.length < 1536 ∧ moversRun s 0 = true ∧ AMap.get (fun _ => 0) (s.fieldD 0).branchAt br ≠ uncoreCycle s + 1 ∧
      (serveOrder s 0 br).findSome? (fun e => (nextCell s 0 br e).map (fun i => (e, i))) = some (e, 0) ∧ tcAddrs e.word 0 0 = []) ∧
    (∀ s br e, s = posted rdC true → br = branchOf s 0 rdC 0 → (s.fieldD 0).descs.head? = some e →
      (serveOrder s 0 br).findSome? (fun e => (nextCell s 0 br e).map (fun i => (e, i))) = some (e, 0) ∧ tcAddrs e.word 0 0 = [0] ∧
      accessRefused s (vaultOf 0) (ownerOf s 0) 0 256 false ≠ 0) ∧
    ((serveOrder up 0 3).findSome? (fun e => (nextCell up 0 3 e).map (fun i => (e, i))) = none) ∧
    (∀ st, st ∈ [(0 : Nat), 1, 2, 3] → ∃ a, ((inFlight rdN st).fieldD 0).accs.find? (fun a => a.id == 5) = some a ∧ a.stage = st ∧
      a.held = false ∧ behindOther ((inFlight rdN st).fieldD 0) a = false ∧ accBusy (inFlight rdN st) 0 a = false ∧
      moverAhead (inFlight rdN st) (vaultOf 0) a.reached (accTierC a).contains = false ∧ toScratch a.word = true ∧
      roomW (inFlight rdN st) 0 (dstPos (inFlight rdN st) 0 a.word 0) = true) ∧
    (∃ a, ((inFlight (16 + 2) 1).fieldD 0).accs.find? (fun a => a.id == 5) = some a ∧ a.stage = 1 ∧ a.held = false ∧
      behindOther ((inFlight (16 + 2) 1).fieldD 0) a = false ∧ accBusy (inFlight (16 + 2) 1) 0 a = false ∧
      moverAhead (inFlight (16 + 2) 1) (vaultOf 0) a.reached (accTierC a).contains = false ∧ toScratch a.word = false) := by
  refine ⟨by decide +kernel, ?_, by rintro s rfl; decide +kernel, by decide +kernel, ?_, ?_, by decide +kernel, ?_, _, by rfl, by decide +kernel⟩
  · intro w h
    simp only [List.mem_cons, List.not_mem_nil, or_false] at h
    rcases h with rfl | rfl <;> exact ⟨_, by rfl, by decide +kernel⟩
  · rintro s br e rfl rfl h; obtain rfl := Option.some.inj h; decide +kernel
  · rintro s br e rfl rfl h; obtain rfl := Option.some.inj h; decide +kernel
  · intro st h
    simp only [List.mem_cons, List.not_mem_nil, or_false] at h
    rcases h with rfl | rfl | rfl | rfl <;> exact ⟨_, by rfl, by decide +kernel⟩

/-- A checkpoint of partition 1 in Vault 0: segments to save, and those copied into places of the reserve. -/
def saving (unsaved : List Nat) (reserve : List (Nat × Nat)) : State :=
  (fenced up).setVault 0 { ckpt := some { vault := 0, part := 1, slot := 0, epoch := 512, pkey := [], unsaved := unsaved, reserve := reserve } }

/-- Partition 1's Tier P region and key stand in Vault 0. -/
def keyP (s : State) : State :=
  (((s.setPart 1 { s.part 1 with keyP := some [1] }).set (F.VLT_PFENCE_ATTR_VALID 0 0) 1).set (F.VLT_PFENCE_ATTR_PART 0 0) 1).set
    (F.VLT_KEY_STATUS_P_KEY 0) 2

/-- Partition 1's Tier C key stands in Vault 0. -/
def keyC (s : State) : State := (s.setPart 1 { s.part 1 with keyC := some [1] }).set (F.VLT_KEY_STATUS_C_KEY 0) 2

/-- The Tier C channels of Vault 0 are being calibrated. -/
def calibrating (s : State) : State := s.setVault 0 { s.vault 0 with cal := [{ load := 0, busyTo := 1000001 }] }

theorem witness_TierEventsTakeEffect :
    (up.fet < (up.fieldD 87).scrubAt + up.get (F.VLT_SCRUB_CFG_PERIOD_H (vaultOf 87)) * 3600000000000 ∧
      up.fet < (up.vault 11).scrubAt + up.get (F.VLT_SCRUB_CFG_PERIOD_H 11) * 3600000000000) ∧
    (∀ s : State, s = { up with fet := 256 * 3600000000000 } →
      (s.fieldD 87).scrubAt + s.get (F.VLT_SCRUB_CFG_PERIOD_H (vaultOf 87)) * 3600000000000 ≤ s.fet ∧
      (s.vault 11).scrubAt + s.get (F.VLT_SCRUB_CFG_PERIOD_H 11) * 3600000000000 ≤ s.fet) ∧
    (up.part 1).ckptAt = none ∧
    (∀ e, e ∈ [(1000000 : Nat), 1000001] → ∃ s : State, (s.part 1).ckptAt = some e ∧ s.fet = 1000000) ∧
    (∃ k, ((saving [4, 3] [(5, 0)]).vault 0).ckpt = some k ∧ nextSave k = some (3, 3) ∧
      (saving [4, 3] [(5, 0)]).boot.inputLost = false ∧ vaultBusy (saving [4, 3] [(5, 0)]) 0 = false ∧
      vaultBusy (calibrating (saving [4, 3] [(5, 0)])) 0 = true ∧ moverBefore (saving [4, 3] [(5, 0)]) 0 (4096 * 3) 4096 = false ∧
      tierPRefused (saving [4, 3] [(5, 0)]) (flashVault 0 3) k.part ≠ 0 ∧
      tierPRefused (keyP (saving [4, 3] [(5, 0)])) (flashVault 0 3) k.part = 0 ∧
      tierCKey (keyP (saving [4, 3] [(5, 0)])) 0 k.part = none ∧ ∃ key, tierCKey (keyC (keyP (saving [4, 3] [(5, 0)]))) 0 k.part = some key ∧
        tierPRefused (keyC (keyP (saving [4, 3] [(5, 0)]))) (flashVault 0 3) k.part = 0) ∧
    (∃ k, ((saving [6] [(5, 0)]).vault 0).ckpt = some k ∧ nextSave k = some (5, 0)) ∧
    (∃ k, ((saving [] []).vault 0).ckpt = some k ∧ k.unsaved = [] ∧ k.reserve = []) ∧
    ((up.vault 11).ckpt = none) ∧
    (∃ k, ((saving [3] []).vault 0).ckpt = some k ∧ k.unsaved.contains (1048576 / segBytes) = false ∧
      k.unsaved.contains (3 * 1048576 / segBytes) = true ∧ vaultBusy (saving [3] []) 0 = false ∧
      moverBefore (saving [3] []) 0 (4096 * (3 * 1048576 / segBytes)) 4096 = false ∧ freeReserve (saving [3] []) 0 k = some 0 ∧
      moverBefore (saving [3] []) 0 (4096 * 0) 4096 = false ∧ moverBefore (moving (saving [3] [])) 0 (4096 * 0) 4096 = true ∧
      tierCKey (saving [3] []) 0 k.part = none ∧ (tierCKey (keyC (saving [3] [])) 0 k.part).isSome = true) ∧
    (∃ k, ((saving [3] ((List.range 16).map (fun g => (5, g)))).vault 0).ckpt = some k ∧
      k.unsaved.contains (3 * 1048576 / segBytes) = true ∧
      ∀ g ∈ reserveSegs (saving [3] ((List.range 16).map (fun g => (5, g)))) 0 k.part, ∃ x ∈ k.reserve, x.2 = g) ∧
    (∀ s vs, s = (saving [] []).setPart 1 { up.part 1 with ckptRegions := [(0, 0)] } →
      vs = ((s.part 1).ckptRegions.map (·.1)).eraseDups → (s.part 1).ckptAt = none ∧ vs ≠ [] ∧
      vs.all (fun v => (s.vault v).ckpt.any (fun k => k.part == 1 && k.unsaved.isEmpty && k.reserve.isEmpty)) = true) ∧
    (∀ s, s = ({ up with fet := 20000000 } : State).setVault 0 { staging := [.config 1 2 []], stagedAt := 10000000 } →
      (s.vault 0).staging ≠ [] ∧ (s.vault 0).stagedAt + 10000000 ≤ s.fet) ∧
    (up.vault 0).staging = [] := by
  refine ⟨by decide +kernel, by rintro s rfl; decide +kernel, by decide +kernel, ?_, ⟨_, rfl, by decide +kernel, by decide +kernel, by decide +kernel, by decide +kernel, by decide +kernel, by decide +kernel, by decide +kernel,
      by decide +kernel, _, rfl, by decide +kernel⟩, ⟨_, rfl, by decide +kernel⟩,
    ⟨_, rfl, by decide +kernel⟩, by decide +kernel, ⟨_, rfl, by decide +kernel⟩, ⟨_, rfl, by decide +kernel⟩,
    by rintro s vs rfl rfl; decide +kernel, by rintro s rfl; decide +kernel, by decide +kernel⟩
  intro e h
  simp only [List.mem_cons, List.not_mem_nil, or_false] at h
  rcases h with rfl | rfl <;> exact ⟨up.setPart 1 { up.part 1 with ckptAt := some _ }, by rfl, by decide +kernel⟩

/-! ### Hypotheses of the statements: gradients and the update -/

/-- ERU 0 holds entry 0 of partition 1 in a ring of three; the partition is in its step at 512. -/
def eru (op : Nat) : State :=
  let s := setPartState (linked up) 1 3
  let s := ((s.setPart 1 { s.part 1 with stepBase := 512 }).set (F.ERU_CTRL_ENABLE 0) 1).set (F.ERU_SCHED0_VALID 0 0) 1
  (((s.set (F.ERU_SCHED0_PART 0 0) 1).set (F.ERU_SCHED0_OP 0 0) op).set (F.ERU_SCHED1_NM1 0 0) 2).set (F.ERU_SCHED1_POS 0 0) 1

/-- The same with an input in its window, a verdict owed, a frame sent and refused. -/
def eruHolds : State :=
  (eru 1).setEru 0 { win := [{ entry := 0, chunk := 0, kind := 2 }]
                     verdicts := [{ entry := 0, chunk := 0, field := 0, src := 0, addr := 0, tag := 0, part := 1 }]
                     sent := [⟨5, 0, 0, { cls := 1, tag := 5 }⟩], refused := [(5, 0, 1000000), (6, 0, 0), (7, 1, 1000001)] }

theorem witness_EruEventsTakeEffect :
    Delivered 0 (frameTo 1 1 1 []) (eru 0) (deliv 0 (frameTo 1 1 1 []) (eru 0)) ∧ scheduled (frameTo 1 1 1 []) = true ∧
    (up.fieldD 0).portIn = [] ∧
    (∀ s : State, s = (eru 0).setField 0 { portIn := [{ id := 9, part := 1, tag := 0 }] } → ∃ p, (s.fieldD 0).portIn = p :: [] ∧
      portDieOf 0 = 0 / 8 ∧ p.src < 5632 ∧ findEntry s 0 p.tag = some (0, 0)) ∧
    (∀ s : State, s = (eru 0).setField 0 { portIn := [{ id := 9, part := 1, tag := 0xffffff, data := [[]] }] } → ∃ p, (s.fieldD 0).portIn = p :: [] ∧
      portDieOf 0 = 0 / 8 ∧ p.src < 5632 ∧ p.data ≠ [] ∧ p.data.length ≤ 255 ∧ (∀ m, m / 8 = 0 / 8 → findEntry s m p.tag = none)) ∧
    (∀ s fr, s = { eru 0 with fet := 500 } → fr = frameTo 1 1 1 (z 128) → stateCarries s 0 fr = true ∧ scheduled fr = true ∧ isHere s fr = true ∧
      frameEntry s 0 fr = some (0, 0, 0) ∧ entryOp s 0 0 ≠ 3 ∧ fr.part = entryPart s 0 0 ∧ frameGenOk s fr = true ∧
      inputLate s 0 0 0 (redInput 0 0 fr).kind = false) ∧
    (DeadlineDue 0 0 0 (deadlineSlot (eru 0) 0 0 0) 0 (eru 0) ∧ DeadlineDue 0 0 0 (deadlineSlot (eru 2) 0 0 0) 0 (eru 2)) ∧
    (moduleQuenched (eru 0) = false ∧ moduleQuenched (quenched (eru 0)) = true ∧ entryOp (eru 0) 0 0 ≠ 2 ∧ entryOp (eru 2) 0 0 = 2) ∧
    (({ eru 0 with fet := 512 } : State).fet < slotFet (eru 0) 0 0 1 ∧ entryOn up 0 0 = false) ∧
    (∃ k, resultSlot (eru 1) 0 0 0 = some k ∧ DeadlineDue 0 0 0 k 1 (eru 1) ∧ winGet (eru 1) 0 0 0 2 = none ∧
      winGet eruHolds 0 0 0 2 = some { entry := 0, chunk := 0, kind := 2 } ∧ forwardsResult (eru 1) 0 0 0 = true) ∧
    resultSlot (eru 0) 0 0 0 = none ∧
    (entryOn eruHolds 0 0 = true ∧ entryInStep eruHolds 0 0 = true ∧ slotFet eruHolds 0 0 (verdictSlot eruHolds 0 0 0) ≤ eruHolds.fet ∧
      (eruHolds.eru 0).verdicts.filter (fun v => v.entry == 0 && v.chunk == 0 && !v.sent)
        = [{ entry := 0, chunk := 0, field := 0, src := 0, addr := 0, tag := 0, part := 1 }]) ∧
    Delivered 0 (frameTo 2 1 1 [3]) (eru 0) (deliv 0 (frameTo 2 1 1 [3]) (eru 0)) ∧ leAt [(3 : Byte)] 0 1 = 3 ∧
    ((∀ x ∈ (eruHolds.eru 0).refused, x.1 = 7 → x.2.2 = 0 ∨ eruHolds.fet < x.2.2) ∧
      (∀ x ∈ (eruHolds.eru 0).refused, x.1 = 6 → x.2.2 = 0 ∨ eruHolds.fet < x.2.2)) ∧
    (∃ x, x ∈ (eruHolds.eru 0).refused ∧ x.1 = 5 ∧ x.2.2 ≠ 0 ∧ x.2.2 ≤ eruHolds.fet ∧
      (eruHolds.eru 0).sent.find? (fun x => x.fr.tag == 5) = some ⟨5, 0, 0, { cls := 1, tag := 5 }⟩) := by
  refine ⟨delivered_of (by decide +kernel), by decide +kernel, by decide +kernel, ?_, ?_, by rintro s fr rfl rfl; decide +kernel,
    ⟨deadlineDue_of (by decide +kernel), deadlineDue_of (by decide +kernel)⟩, by decide +kernel, by decide +kernel, ?_, by decide +kernel,
    by decide +kernel, delivered_of (by decide +kernel), by decide +kernel, by decide +kernel, (5, 0, 1000000), by decide +kernel⟩
  · rintro s rfl; exact ⟨{ id := 9, part := 1, tag := 0 }, by decide +kernel, by decide +kernel⟩
  · rintro s rfl
    have h : ∀ k : Fin 8, findEntry ((eru 0).setField 0 { portIn := [{ id := 9, part := 1, tag := 0xffffff, data := [[]] }] }) k 0xffffff = none := by
      decide +kernel
    exact ⟨_, rfl, by decide +kernel, by decide +kernel, by decide +kernel, by decide +kernel, fun m hm => h ⟨m, by omega⟩⟩
  · exact ⟨3, by decide +kernel, deadlineDue_of (by decide +kernel), by decide +kernel, by decide +kernel, by decide +kernel⟩

/-- Group 0 of Vault 0 is partition 1's: SGD with momentum, one chunk; its regions are fenced for the UEs, its key installed. -/
def grp (opt : Nat) (d : GroupState) : State :=
  let s := (eru 0).setPart 1 { (eru 0).part 1 with stepBase := 512, keyC := some [1], digestGot := 0 }
  let s := (((fenced s).set (F.VLT_FENCE_ATTR_UE 0 0) 1).set (F.VLT_KEY_STATUS_C_KEY 0) 2).set (F.UPD_G_CFG_VALID 0 0) 1
  setGroup 0 0 d (((s.set (F.UPD_G_CFG_PART 0 0) 1).set (F.UPD_G_CFG_OPT 0 0) opt).set (F.UPD_STATUS_UPDATING 0) 1)

/-- A result waits for Vault 0. -/
def inbox (m : ResultMsg) : State := (grp 0 {}).setVault 0 { (grp 0 {}).vault 0 with inbox := [m] }

/-- The state digest of partition 1's step at 512. -/
def digFr : Frame := frameTo 6 0 4 ([2, 1] ++ z 6 ++ at8 512)

theorem witness_ResultsAreAppliedAndDigested :
    firstFree (resultHeld up 11) (up.vault 11).inbox [] = none ∧
    (∀ sc m t, m = { tag := 0, part := 1, scalar := sc } → t = (inbox m).setVault 0 { (inbox m).vault 0 with inbox := [] } →
      ((inbox m).vault 0).inbox = m :: [] ∧ resultHeld (inbox m) 0 m = false ∧
      firstFree (resultHeld (inbox m) 0) ((inbox m).vault 0).inbox [] = some m ∧ moduleQuenched (inbox m) = false ∧
      partState (inbox m) m.part ≠ 4 ∧ takerOf t 0 { m with part := 2, scalar := false } = none ∧
      (sc = false → takerOf t 0 m = some (0, 0) ∧ resultOver t 0 0 m.part = false ∧
        resultOver (setGroup 0 0 { doneAt := 512 } (t.set (F.UPD_STATUS_UPDATING 0) 0)) 0 0 m.part = true)) ∧
    (∀ t, t = grp 0 { got := [(0, [], true)] } → updating t 0 0 = true ∧ (groupD t 0 0).got.any (fun x => x.1 == 0) = true) ∧
    (moduleQuenched (quenched up) = true ∧ partState (setPartState up 1 4) 1 = 4) ∧
    grpActs up 0 0 = false ∧
    (∀ s, s = grp 0 { got := [(0, [], true)] } → grpActs s 0 0 = true ∧ grpOpt s 0 0 ≠ 3 ∧ usesGbuf s 0 0 = false) ∧
    (∀ s, s = grp 2 { got := [(0, [], true)] } → grpActs s 0 0 = true ∧ usesGbuf s 0 0 = true ∧
      grpChunks s 0 0 ≤ (groupD s 0 0).got.length ∧ clipped s 0 0 = false ∧
      grpOpt s 0 0 = 2) ∧
    (∀ s, s = grp 2 {} → grpActs s 0 0 = true ∧ usesGbuf s 0 0 = true ∧ (groupD s 0 0).got.length < grpChunks s 0 0) ∧
    (∀ n, n ∈ [(0 : Nat), 0x7f800000] → ∃ s : State, (s.vault 0).normTotal.find? (fun e => e.1 == 1) = some (1, n) ∧
      (decodeNum 7 n).isFin = (n == 0)) ∧
    (up.vault 0).normTotal.find? (fun e => e.1 == 1) = none ∧
    (digestStep up 1 = none ∧ ∀ s t, s = grp 0 {} → t = s.setPart 1 { s.part 1 with steps := [{ base := 512, count := 1, groups := [(0, 0)] }] } →
      digestStep t 1 = some 512) ∧
    (Delivered 0 digFr (eru 0) (deliv 0 digFr (eru 0)) ∧ digFr.cls = 6 ∧ leAt digFr.payload 0 1 = 2 ∧ leAt digFr.payload 8 8 = 512 ∧
      ((deliv 0 digFr (eru 0)).part digFr.part).digestBase < 512 ∧
      leAt digFr.payload 8 8 < (({ digestBase := 513 } : PartData)).digestBase) ∧
    (∀ s, s = ((eru 0).setPart 1 { digestBase := 512, stepBase := 1024, digestAt := 999488 }).set (F.UPD_DIGEST_CFG_EN 0 1) 1 →
      s.flag (F.UPD_DIGEST_CFG_EN 0 1) = true ∧ (s.part 1).digestBase ≠ 0 ∧ (s.part 1).digestGot ≠ (s.part 1).digestBase ∧
      (s.part 1).digestBase < (s.part 1).stepBase ∧
      (s.part 1).digestAt + ((s.part 1).stepBase - (s.part 1).digestBase) ≤ s.fet ∧
      ({ s with fet := 999999 } : State).fet < (s.part 1).digestAt + ((s.part 1).stepBase - (s.part 1).digestBase)) ∧
    up.flag (F.UPD_DIGEST_CFG_EN 0 1) = false := by
  refine ⟨by decide +kernel, ?_, by rintro t rfl; decide +kernel, by decide +kernel, by decide +kernel, by rintro s rfl; decide +kernel,
    by rintro s rfl; decide +kernel, by rintro s rfl; decide +kernel, ?_, by decide +kernel,
    ⟨by decide +kernel, by rintro s t rfl rfl; decide +kernel⟩, ?_, by rintro s rfl; decide +kernel, by decide +kernel⟩
  · rintro (_ | _) m t rfl rfl <;> decide +kernel
  · intro n h
    simp only [List.mem_cons, List.not_mem_nil, or_false] at h
    rcases h with rfl | rfl
    · exact ⟨up.setVault 0 { normTotal := [(1, 0)] }, by decide +kernel, by decide +kernel⟩
    · exact ⟨up.setVault 0 { normTotal := [(1, 0x7f800000)] }, by decide +kernel, by decide +kernel⟩
  · exact ⟨delivered_of (by decide +kernel), by decide +kernel⟩

/-! ### Hypotheses of the statements: Synael Links -/

/-- Port 0 in a state, both ends knowing version 1. -/
def portIn (k : Nat) : State := (((up.set (F.SNL_STATUS_STATE 0) k).wr (R.SNL_CAP0 0) 0xffffffff).wr (R.SNL_CAP1 0) 0xffffffff)

theorem witness_PortStatesFollowTheTable :
    ((portIn 1).get (F.SNL_STATUS_STATE 0) = 1 ∧ (portIn 1).flag (F.SNL_CTRL_HOLD_DARK 0) = false ∧ (portIn 1).boot.pinSafe = false) ∧
    ((portIn 2).get (F.SNL_STATUS_STATE 0) = 2 ∧ (portIn 2).get (F.SNL_STATUS_STATE 0) ≠ 1) ∧
    (∀ t, t = { portIn 2 with fet := 50000000 } → (t.port 0).detectSince + 50000000 ≤ t.fet) ∧
    (∀ t, t = { portIn 2 with fet := 49999999 } → t.fet < (t.port 0).detectSince + 50000000) ∧
    (portIn 3).get (F.SNL_STATUS_STATE 0) = 3 ∧
    ((portIn 4).get (F.SNL_STATUS_STATE 0) = 4 ∧ (portIn 4).flag (F.SNL_STATUS_REDUCED 0) = false ∧
      [112000].all (fun e => decide (e ≤ 112000)) = true ∧ [112001].all (fun e => decide (e ≤ 112000)) = false ∧
      (((portIn 4).set (F.SNL_STATUS_REDUCED 0) 1).flag (F.SNL_STATUS_REDUCED 0) = true)) ∧
    ((portIn 6).get (F.SNL_STATUS_STATE 0) = 6 ∧ (portIn 7).get (F.SNL_STATUS_STATE 0) = 7) := by
  refine ⟨by decide +kernel, by decide +kernel, by rintro t rfl; decide +kernel, by rintro t rfl; decide +kernel, by decide +kernel,
    by decide +kernel, by decide +kernel⟩

theorem witness_NegotiationSettlesThePort :
    (portIn 5).get (F.SNL_STATUS_STATE 0) = 5 ∧
    commonVersion ((portIn 5).get (F.SNL_CAP0_SNL_MASK 0)) 1 = 0 ∧
    (commonVersion ((portIn 5).get (F.SNL_CAP0_SNL_MASK 0)) 2 ≠ 0 ∧ commonVersion ((portIn 5).get (F.SNL_CAP0_VER_MASK 0)) 2 ≠ 0) ∧
    (∃ a b, expectedPeer (portIn 5) 0 = a ∧ b ≠ expectedPeer (portIn 5) 0) := by
  refine ⟨by decide +kernel, by decide +kernel, by decide +kernel, _, expectedPeer (portIn 5) 0 + 1, rfl, by omega⟩

/-- Port 0 has a scheduled frame due in the block at which FET stands. -/
def dueNow : State :=
  let s : State := { portIn 7 with fet := 528 }
  s.setPort 0 { s.port 0 with sched := [{ slot := 2, entry := 0, chunk := 0, fr := frameTo 1 1 0 [] }] }

theorem witness_PortsTransmit :
    ((portIn 5).get (F.SNL_STATUS_STATE 0) = 5 ∧ ((portIn 5).port 0).nextBlock ≤ blockStart (portIn 5) 0 ∧
      blockStart (portIn 5) 0 < (((portIn 5).setPort 0 { nextBlock := blockStart (portIn 5) 0 + 1 }).port 0).nextBlock) ∧
    (∀ due t, due = (if blockNow dueNow 0 = schedBlock dueNow 0 then
        (dueNow.port 0).sched.find? (fun x => x.slot == dueNow.fet / 256 && quenchCarries dueNow x.fr) else none) →
      t = dueNow.setPort 0 { dueNow.port 0 with sched := (dueNow.port 0).sched.filter (fun x =>
        !(decide (x.slot < dueNow.fet / 256) || (x.slot == dueNow.fet / 256 && decide (schedBlock dueNow 0 ≤ blockNow dueNow 0)))) } →
      dueNow.get (F.SNL_STATUS_STATE 0) = 7 ∧ (dueNow.port 0).nextBlock ≤ blockStart dueNow 0 ∧ due.isSome = true ∧
      (dueNow.port 0).txFree ≤ blockStart t 0 ∧
      blockStart dueNow 0 < ((dueNow.setPort 0 { dueNow.port 0 with txFree := blockStart dueNow 0 + 1 }).port 0).txFree) ∧
    ((portIn 7).port 0).sched = [] ∧
    ((portIn 2).get (F.SNL_STATUS_STATE 0) < 3 ∧ 8 < (portIn 9).get (F.SNL_STATUS_STATE 0)) ∧
    ((portIn 3).get (F.SNL_STATUS_STATE 0) = 3 ∧ (portIn 8).get (F.SNL_STATUS_STATE 0) = 8) ∧
    (fecLost { errs := [0] } = false ∧ fecLost { errs := (List.range 11).map (fun i => Fin.ofNat 896 (4 * i)) } = true) ∧
    (portUp (portIn 5) 0 = false ∧ portUp (portIn 6) 0 = true) := by
  refine ⟨by decide +kernel, by rintro due t rfl rfl; decide +kernel, by decide +kernel, by decide +kernel, by decide +kernel,
    by decide +kernel, by decide +kernel⟩

/-- A data frame for wafer element 1 of field 0 (element 8191 is nowhere), a BUSY frame, a digest frame of partition 1. -/
def dataTo (e : Nat) : Frame := frameTo 0 1 3 (leBytes e 2 ++ z 126)
def busyFr : Frame := frameTo 2 1 1 ([4] ++ z 127)
def digestFr (s : State) (p : Nat) : Frame :=
  frameTo 6 0 0 ([1, BitVec.ofNat 8 p, 0, 0] ++ leBytes (cfgEpoch s p) 2 ++ z 10 ++ cfgDigest s p ++ z 80)

theorem witness_FramesAreDelivered_data :
    stateCarries (portIn 6) 0 (dataTo 1) = false ∧
    (∃ t, Delivered 0 (dataTo 1) (linked up) t ∧
      (deliverField t 0 1 ((locate t (leAt (dataTo 1).payload 0 2 % 8192) 0).map (·.1) |>.getD 0)).isSome = true) ∧
    (∃ t, Delivered 0 (withCrc { dataTo 1 with part := 2 }) ((linked up).wr (R.SNL_VC_SHARE0 0) 0x404040) t ∧
      deliverField t 0 2 ((locate t (leAt (dataTo 1).payload 0 2 % 8192) 0).map (·.1) |>.getD 0) = none) := by
  refine ⟨by decide +kernel, ⟨_, delivered_of (by decide +kernel), by decide +kernel⟩, ⟨_, delivered_of (by decide +kernel), by decide +kernel⟩⟩

theorem witness_FramesAreDelivered_control :
    (∃ t, Delivered 0 busyFr (linked up) t ∧ busyFr.cls = 2 ∧ leAt busyFr.payload 0 1 = 4 ∧
      (t.eru 0).sent.find? (fun x => x.fr.tag == busyFr.tag) = none) ∧
    (∃ t, Delivered 0 busyFr ((linked up).setEru 0 { sent := [⟨9, 0, 0, frameTo 1 1 0 []⟩] }) t ∧
      (t.eru 0).sent.find? (fun x => x.fr.tag == busyFr.tag) = some ⟨9, 0, 0, frameTo 1 1 0 []⟩) := by
  refine ⟨⟨_, delivered_of (by decide +kernel), by decide +kernel⟩, ⟨_, delivered_of (by decide +kernel), by decide +kernel⟩⟩

theorem witness_FramesAreDelivered_digest (a b : Frame) (ha : a = digestFr (linked up) 1)
    (hb : b = frameTo 6 0 0 ([1, 1, 0, 0] ++ leBytes (cfgEpoch (linked up) 1) 2 ++ List.replicate 122 1)) :
    (Delivered 0 a (linked up) (deliv 0 a (linked up)) ∧ (a.payload.drop 16).take 32 = cfgDigest (deliv 0 a (linked up)) 1) ∧
    (Delivered 0 b (linked up) (deliv 0 b (linked up)) ∧ leAt b.payload 4 2 = cfgEpoch (deliv 0 b (linked up)) 1 ∧
      (b.payload.drop 16).take 32 ≠ cfgDigest (deliv 0 b (linked up)) 1) := by
  subst ha hb
  exact ⟨⟨delivered_of (by decide +kernel), by decide +kernel⟩, delivered_of (by decide +kernel), by decide +kernel⟩

/-- The same with both ports in the live set. -/
def liveUp : State := ((linked up).set (F.SNL_STATUS_LIVE 0) 1).set (F.SNL_STATUS_LIVE 16) 1

/-- A data frame for the next module of the ring. -/
def fwdFr : Frame := withCrc { dataTo 1 with dst := 8 * 1 + 3 }

theorem witness_FramesAreDelivered_forward :
    (liveUp.port 16).rxLost = false ∧ crcGood fwdFr = true ∧
    authPasses liveUp 16 (AMap.get (fun _ => 0) (liveUp.port 16).authRx fwdFr.part) fwdFr = true ∧ stateCarries liveUp 16 fwdFr = true ∧
    (linkLayer 16 fwdFr liveUp).1 = true ∧ (headerOk 16 fwdFr (linkLayer 16 fwdFr liveUp).2).1 = true ∧
    isHere (deliv 16 fwdFr liveUp) fwdFr = false ∧ (routeFrame (deliv 16 fwdFr liveUp) fwdFr (some 16)).isSome = true := by
  decide +kernel

theorem witness_RetrainsAndRatesChange :
    ((portIn 6).get (F.SNL_STATUS_STATE 0) ≠ 7 ∧ (portIn 7).get (F.SNL_STATUS_STATE 0) = 7 ∧
      (portIn 7).flag (F.SNL_STATUS_RETRAIN_PEND 0) = false) ∧
    (∀ s, s = ((portIn 7).set (F.SNL_STATUS_RETRAIN_PEND 0) 1).setPort 0 { proposed := 5000, searchSince := some 0 } →
      s.flag (F.SNL_STATUS_RETRAIN_PEND 0) = true ∧ (s.port 0).searchSince ≠ none ∧ (s.port 0).proposed = 5000 ∧
      s.fet < 0 + 10000000000 ∧ (({ s with fet := 10000000000 } : State).port 0).searchSince = some 0) ∧
    (idleFrom (dueSlots (portIn 7) 0) 3907 = true ∧ (portIn 7).fet / 256 < 3907 ∧ 3906 ≤ (portIn 7).fet / 256) ∧
    (∀ s, s = wrPair (portIn 7) (R.SNL_RETRAIN_LO 0) (R.SNL_RETRAIN_HI 0) 1000000 →
      rdPair s (R.SNL_RETRAIN_LO 0) (R.SNL_RETRAIN_HI 0) = 1000000 ∧ 1000000 ≤ s.fet) ∧
    (∀ s, s = wrPair (portIn 7) (R.SNL_RETRAIN_LO 0) (R.SNL_RETRAIN_HI 0) 1000001 →
      rdPair s (R.SNL_RETRAIN_LO 0) (R.SNL_RETRAIN_HI 0) ≠ 0 ∧ s.fet < rdPair s (R.SNL_RETRAIN_LO 0) (R.SNL_RETRAIN_HI 0)) ∧
    ((portIn 8).get (F.SNL_STATUS_STATE 0) = 8) ∧
    (((portIn 7).port 0).searchSince = none ∧ ((portIn 7).port 0).rateSlot = none ∧ portUp (portIn 7) 0 = true ∧ portUp (portIn 5) 0 = false) ∧
    (∀ s : State, s = { (portIn 7).setPort 0 { armDue := true } with fet := 10000000000 } → (s.port 0).armDue = true ∧
      ({ s with power := { s.power with firstPlan := some 0 } } : State).power.firstPlan = some 0 ∧ 0 + 10000000000 ≤ s.fet) ∧
    (((portIn 7).port 0).armDue = false ∧ (portIn 7).power.firstPlan = none) ∧
    (∀ s, s = ((portIn 7).set (F.SNL_STATUS_MARGIN_ARMED 0) 1) → s.flag (F.SNL_STATUS_MARGIN_ARMED 0) = true ∧ portUp s 0 = true ∧
      [(9, 30), (12, 28)] ≠ [] ∧ [(9, 30), (12, 28)].length ≤ 16) ∧
    (∀ s, s = (portIn 7).setPort 0 { rateSlot := some 3906 } → (s.port 0).rateSlot = some 3906 ∧ 256 * 3906 ≤ s.fet) ∧
    (∀ s, s = (portIn 7).setPort 0 { rateSlot := some 3907 } → (s.port 0).rateSlot = some 3907 ∧ s.fet < 256 * 3907) := by
  refine ⟨by decide +kernel, by rintro s rfl; decide +kernel, by decide +kernel, by rintro s rfl; decide +kernel, by rintro s rfl; decide +kernel,
    by decide +kernel, by decide +kernel, by rintro s rfl; decide +kernel, by decide +kernel, by rintro s rfl; decide +kernel,
    by rintro s rfl; decide +kernel, by rintro s rfl; decide +kernel⟩

theorem witness_MarginsAndRatesAreCanonical : Canon (portIn 7) := canon_of (by decide +kernel)

/-! ### Hypotheses of the statements: power, bring-up and faults -/

/-- Partition 1 runs with a budget of 100 units and a number of windows over it, under it or stuck. -/
def drawing (above under stuck : Nat) : State :=
  let s := ((running.set (F.PRT_POWER_EFFECTIVE 1) 100).set (F.PRT_CFG_OP_MAX 1) 10).set (F.PRT_LIMIT_OP_NOW 1) 5
  s.setPart 1 { s.part 1 with overRun := above, under := under, stuck := stuck }

theorem witness_PowerWindowsActOnDraw_partition (t : State) (h : t = drawing 9 99 9) :
    partState t 1 ≠ 0 ∧ t.get (F.PRT_POWER_EFFECTIVE 1) * 105 < 106 * 100 ∧ 10 ≤ (t.part 1).overRun + 1 ∧ (t.part 1).under + 1 = 100 ∧
    partState t 1 ≠ 4 ∧ partState (setPartState t 1 4) 1 = 4 ∧ 0 < topOp t (partFields t 1) ∧
    (∀ u, u = t.forEach (partFields t 1) (fun f u => u.set (F.CLK_STATUS_OP_NOW f) 0) → topOp u (partFields u 1) = 0) ∧
    10 ≤ (t.part 1).stuck + 1 ∧
    ((drawing 8 98 8).part 1).overRun + 1 < 10 ∧ ((drawing 8 98 8).part 1).stuck + 1 < 10 ∧
    95 * 100 ≤ t.get (F.PRT_POWER_EFFECTIVE 1) * 95 ∧ t.get (F.PRT_LIMIT_OP_NOW 1) < t.get (F.PRT_CFG_OP_MAX 1) ∧
    105 * 100 ≤ t.get (F.PRT_POWER_EFFECTIVE 1) * 105 ∧ t.get (F.PRT_POWER_EFFECTIVE 1) * 95 < 96 * 100 := by
  subst h
  refine ⟨by decide +kernel, by decide +kernel, by decide +kernel, by decide +kernel, by decide +kernel, by decide +kernel, by decide +kernel,
    by rintro u rfl; decide +kernel, by decide +kernel, by decide +kernel, by decide +kernel, by decide +kernel, by decide +kernel,
    by decide +kernel, by decide +kernel⟩

/-- R417: a field that runs at operating point 7 is armed to 6, at the next 20 ns multiple, in a window above the ceiling, and
up again to 7. -/
theorem test_ceiling_steps_each_field (s t : State) (h : s = ceilDown 3 up) (h' : t = ceilUp 3 s) :
    up.get (F.CLK_STATUS_OP_NOW 3) = 7 ∧ s.power.opOwn = [⟨3, 6, 1000020⟩] ∧ opLimit s 3 = 6 ∧ t.power.opOwn = [⟨3, 7, 1000020⟩] := by
  subst h'
  subst h
  decide +kernel

/-- A quench ramp is under way. -/
def ramping (scope : Nat) : State :=
  { up with power := { up.power with ramps := [{ scope := scope, slew := 1 }] }, boot := { up.boot with pwrOffPending := true } }

theorem witness_PowerWindowsActOnDraw_module :
    (∀ t r d, r = rampEmulation (rampEnvelope up) → d = max 1751 r.power.emulDraw →
      t = recalTiers d (calStale d (recordStepPeaks d (recordDraw d r))) → t.get F.PWR_ENV_NOW_CEILING < 65535 ∧ d = 1751 ∧
      t.get F.PWR_ENV_NOW_CEILING = 1750 ∧ recalTiers 1 t = recalTiers 1 t) ∧
    breakpoints up = [] ∧
    (∃ b, breakpoints (setBreakpoints [{ fet := 1000000, ceil := 9, floor := 1, ramp := 2 }] up) = b :: [] ∧ b.fet ≤ up.fet) ∧
    (up.power.ramps.any (fun r => r.scope == 0) = false) ∧
    (rampEnded (ramping 0) 0 = true ∧ (ramping 0).boot.pwrOffPending = true ∧ rampEnded (ramping 1) 1 = true ∧
      rampEnded { ramping 0 with power := { up.power with ramps := [{ scope := 0, slew := 1, start := 9, since := 1000000 }] } } 0 = false) ∧
    (∀ u, u = addSample 0 up → ballastRoom 0 u < min (max (if moduleQuenched u then 0 else holdLevel u / 1000 - 0) (rampsBallast u))
      (u.get F.PWR_ENV_NOW_CEILING - 0)) ∧
    (∀ u, u = addSample 1000 up → min (max (if moduleQuenched u then 0 else holdLevel u / 1000 - 1000) (rampsBallast u))
      (u.get F.PWR_ENV_NOW_CEILING - 1000) ≤ ballastRoom 0 u) := by
  refine ⟨by rintro t r d rfl rfl rfl; decide +kernel, by decide +kernel, ⟨_, rfl, by decide +kernel⟩, by decide +kernel, by decide +kernel,
    by rintro u rfl; decide +kernel, by rintro u rfl; decide +kernel⟩

/-- A wake of a kind waits for its tokens. -/
def waking (kind dom tokens : Nat) : State :=
  ({ up with power := { up.power with wakeQ := [⟨dom, kind, 3, 1, 0⟩] } } : State).set F.PWR_TOKEN_LEVEL tokens

theorem witness_DomainsWakeAndTrip :
    wakeHead up = none ∧
    (∃ w, wakeHead (waking 0 0 (tokenCost 0)) = some w ∧ w.kind = 0 ∧ tokenCost w.kind ≤ (waking 0 0 (tokenCost 0)).get F.PWR_TOKEN_LEVEL) ∧
    (∃ w, wakeHead (waking 1 0 (tokenCost 1)) = some w ∧ w.kind = 1 ∧ tokenCost w.kind ≤ (waking 1 0 (tokenCost 1)).get F.PWR_TOKEN_LEVEL) ∧
    (∃ w, wakeHead (waking 2 8 (tokenCost 2 - 1)) = some w ∧ (waking 2 8 (tokenCost 2 - 1)).get F.PWR_TOKEN_LEVEL < tokenCost w.kind) ∧
    (∃ w, wakeHead (waking 3 0 (tokenCost 3)) = some w ∧ 3 ≤ w.kind ∧ tokenCost w.kind ≤ (waking 3 0 (tokenCost 3)).get F.PWR_TOKEN_LEVEL) ∧
    (∀ d s, d ∈ [(0 : Nat), 8] → s = up.set (F.PWR_DOM_STATUS_STATE d) 1 → domState s d = 1 ∧ s.get (F.PWR_DOM_STATUS_RETRIES d) < 3 ∧
      3 ≤ (s.set (F.PWR_DOM_STATUS_RETRIES d) 3).get (F.PWR_DOM_STATUS_RETRIES d)) ∧
    (∀ s : State, s = { up with fet := 50000000, power := { up.power with entering := [⟨8, 0, 0, 0⟩] } } →
      s.power.entering.any (fun e => e.dom == 8 && e.kind == 0 && decide (e.at_ + 50000000 ≤ s.fet)) = true ∧
      ({ s with fet := 49999999 } : State).power.entering.any
        (fun e => e.dom == 8 && e.kind == 0 && decide (e.at_ + 50000000 ≤ ({ s with fet := 49999999 } : State).fet)) = false) ∧
    (∀ s, s = up.set (F.PWR_DOM_CFG_VSET 3) 300 → domState s 3 = 3 ∧ (takeDroopInject 3 s).1 = false ∧
      s.get (F.PWR_DOM_CFG_VSET 3) ≤ 280 + 20 ∧ 279 + 20 < s.get (F.PWR_DOM_CFG_VSET 3) ∧ domState s 700 ≠ 3) := by
  refine ⟨by decide +kernel, ⟨_, rfl, by decide +kernel⟩, ⟨_, rfl, by decide +kernel⟩, ⟨_, rfl, by decide +kernel⟩, ⟨_, rfl, by decide +kernel⟩,
    ?_, by rintro s rfl; decide +kernel, by rintro s rfl; decide +kernel⟩
  intro d s h hs
  simp only [List.mem_cons, List.not_mem_nil, or_false] at h
  rcases h with rfl | rfl <;> subst hs <;> decide +kernel

/-- All 48 converters are healthy; n of them are counted. -/
def converters (n : Nat) : State := ((up.wr R.PWR_CONV0 0xffffffff).wr R.PWR_CONV1 0xffff).set F.PWR_CONV1_N_OK n

/-- The busbar's third band was left at FET 0, and nothing holds since. -/
def leaving (fet : Fet) : State := { up with fet := fet, power := { up.power with bandLeft := [(2, 0)] } }

/-- The reserve in a state, its bank full since a FET, its capacitance and voltage measured. -/
def bank (st : Nat) (full : Option Fet) : State :=
  ((({ up with fet := 10000000000, power := { up.power with fullSince := full } } : State).set F.PWR_HOLDUP_STATE st).set
    F.PWR_HOLDUP_CAL_VBANK 4900).set F.PWR_HOLDUP_CAL_C_CAL 1000

theorem witness_InputsAndCoolingAct :
    (([4199, 4200, 4399, 4400, 4799, 4800, 6000, 6001, 6100, 6101, 6400, 6401] : List (BitVec 16)).map (fun x =>
      if x.toNat < 4200 then 0 else if x.toNat < 4400 then 1 else if x.toNat < 4800 then 2 else if x.toNat ≤ 6000 then 3
      else if x.toNat ≤ 6100 then 4 else if x.toNat ≤ 6400 then 5 else 6)) = [0, 1, 1, 2, 2, 3, 3, 4, 4, 5, 5, 6] ∧
    (converterOk (converters 31) 47 = true ∧ 30 ≤ (dropConverter 47 (converters 31)).get F.PWR_CONV1_N_OK - 1 ∧
      (dropConverter 47 (converters 30)).get F.PWR_CONV1_N_OK - 1 < 30 ∧ converterOk (dropConverter 3 (converters 31)) 3 = false) ∧
    ((∀ e ∈ up.power.bandLeft, up.fet < e.2 + 10000000) ∧ (leaving 10000000).power.bandLeft = [(2, 0)] ∧
      0 + 10000000 ≤ (leaving 10000000).fet ∧ (leaving 10000000).power.band = 0) ∧
    ((enterBand 5000 (liftInput (leaving 9999999))).power.bandLeft ≠ [] ∧ (enterBand 5000 (liftInput (leaving 10000000))).power.bandLeft = []) ∧
    (∀ k ∈ [1, 2, 3, 4], (bank k none).get F.PWR_HOLDUP_STATE = k) ∧
    ((bank 4 none).set F.PWR_STATUS_AUX_OK 0).flag F.PWR_STATUS_AUX_OK = false ∧
      2400 < (commitStore ((bank 4 none).set F.PWR_STATUS_AUX_OK 0)).get F.PWR_HOLDUP_CAL_VBANK ∧
    ((readBank 2500 2500000 (bank 1 none)).get F.PWR_HOLDUP_EST_E_V < 500 ∧ (readBank 2500 2500000 (bank 1 none)).get F.PWR_HOLDUP_EST_E_Q < 500 ∧
      (readBank 2500 2500000 (bank 1 none)).power.apartSince = none) ∧
    ((readBank 2500 4000000 (bank 1 none)).get F.PWR_HOLDUP_EST_E_V < 500 ∧ 500 ≤ (readBank 2500 4000000 (bank 1 none)).get F.PWR_HOLDUP_EST_E_Q) ∧
    ((4779 : BitVec 16).toNat < 4780 ∧ 4780 ≤ (4780 : BitVec 16).toNat ∧ (bank 1 none).power.fullSince = none ∧
      (bank 1 (some 0)).power.fullSince = some 0 ∧ 0 + 10000000000 ≤ (bank 1 (some 0)).fet ∧
      (bank 1 (some 0)).fet < 1 + 10000000000) := by
  decide +kernel

/-- The module in reset with Chitin unpowered; with a run under way standing at a step, its target 10. -/
def atBoot (step : Nat) : State :=
  let s := ((up.set F.CHT_STATUS_STEP_DONE step).set F.CHT_STATUS_RUNNING 1).set F.CHT_BU_CFG_MIN_FIELDS 2
  { s with boot := { s.boot with runTarget := 10 } }
def warm (ph : Nat) : State := { atBoot 10 with boot := { (atBoot 10).boot with warmPhase := ph } }

/-- RST_L is held since a FET. -/
def resetHeld (since : Nat) : State :=
  let s : State := { up with fet := 40000000000, boot := { up.boot with holdStart := since, strapsFrozen := false } }
  (s.set F.CHT_RST_STATUS_HELD 1).set F.CHT_RST_PIN_MASK_MASK 0

theorem witness_BringUpRunsStepByStep_steps (ph : Nat) (hp : ph ∈ [2, 3, 6]) :
    (stepOver 3 {} (atBoot 2) = true ∧ stepOver 3 { scanOk := false } (atBoot 2) = false ∧ wakesOver (warm 2) = true ∧
      wakesOver { warm 2 with power := { up.power with entering := [⟨8, 0, 0, 0⟩] } } = false) ∧
    State.reset.boot.powered = false ∧ up.flag F.CHT_STATUS_RUNNING = false ∧
    ((atBoot 2).flag F.CHT_STATUS_RUNNING = true ∧ (atBoot 2).boot.warmPhase = 0 ∧ stepDone (atBoot 2) = 2 ∧
      (stepEffect 3 {} (atBoot 2)).1 = 0 ∧ 3 < (atBoot 2).boot.runTarget ∧ (atBoot 2).boot.abort = false ∧
      (stepEffect 2 { vin := 4200 } (atBoot 1)).1 ≠ 0) ∧
    (stepDone (atBoot 6) = 6 ∧ step7Over 2500 (((atBoot 6).set (F.SNL_STATUS_STATE 9) 3).set (F.SNL_CTRL_EN 9) 1) = true ∧
      step7Over 2499 (((atBoot 6).set (F.SNL_STATUS_STATE 9) 3).set (F.SNL_CTRL_EN 9) 1) = false) ∧
    ((warm ph).boot.warmPhase = ph ∧ (warmEffect 2 {} (warm 2)).1 = 0 ∧ (warmEffect 3 {} (warm 3)).1 = 0) := by
  refine ⟨by decide +kernel, rfl, by decide +kernel, ⟨by decide +kernel, rfl, by decide +kernel, rfl, by decide +kernel, rfl, by decide +kernel⟩,
    by decide +kernel, ?_, rfl, rfl⟩
  simp only [List.mem_cons, List.not_mem_nil, or_false] at hp
  rcases hp with rfl | rfl | rfl <;> rfl

theorem witness_BringUpRunsStepByStep_pins :
    (up.flag F.CHT_RST_STATUS_HELD = false ∧ up.flag F.CHT_RST_PIN_MASK_MASK = false) ∧
    ((resetHeld 0).flag F.CHT_RST_STATUS_HELD = true ∧ (resetHeld 0).boot.strapsFrozen = false ∧
      (resetHeld 0).flag F.CHT_RST_PIN_MASK_MASK = false ∧ (resetHeld 0).flag F.CHT_RST_STATUS_RESET_STUCK = false) ∧
    (30000 ≤ holdMs (resetHeld 10000000000) ∧ holdMs (resetHeld 10001000000) < 30000) ∧
    ((atBoot 5).flag F.CHT_STATUS_RUNNING = true ∧ (warm 3).boot.warmPhase ≠ 0 ∧ 2 ≤ stepDone up) := by
  decide +kernel

/-- A record of a fault held by the log. -/
def recOf (code : Nat) (idx : Nat) : FaultRec := { index := idx, cls := 2, ev := { code := code, part := 1, collector := 0, unitType := 1 }, fet := 999999 }
def logging (l : List FaultRec) : State := { running with log := { running.log with recs := l } }

/-- Partition 1 stands at the end of its pass with a class 2 record to rerun. -/
def rerunning : State :=
  let s := logging [recOf 0x0104 4]
  let s := s.setPart 1 { s.part 1 with rerunRecs := [4], stepBase := 7 }
  s.setField 0 { s.fieldD 0 with base := 7 }

theorem witness_FaultsAreRecordedAndActedOn (k c : FaultEvent) (hk : k = { code := 0x0501, part := 1 })
    (hc : c = { code := 0x060b, detail := [5] }) :
    (eventClass { code := 0x0502, part := 1 } = 3 ∧ eventClass { code := 0x0305, part := 1 } ≠ 1 ∧ eventClass { code := 0x0305, part := 1 } ≠ 2 ∧
      eventClass { code := 0x0104, part := 1 } = 2 ∧ (∃ e, eventClass e = 1 ∧ e.code ≠ 0x0305)) ∧
    (∀ u, u = countEvent 0 c (logging [{ index := 3, cls := 0, ev := c, fet := 1000000 }]) → u.log.recs.any (coalesces u.fet 0 c) = true) ∧
    (∀ u, u = countEvent 2 k (logging []) → u.log.recs.any (coalesces u.fet 2 k) = false ∧ (makeRoom 2 u.log.recs).isSome = true) ∧
    (usesShared up { code := 0x0609, unitType := 9 } 0 = none ∧ usesShared up { code := 0x0609, unitType := 11, collector := 88 } 0 ≠ none ∧
      up.log.overflowed = false) ∧
    (∀ l, l.length = 65536 → l.any (fun r => decide (r.cls ≤ 1)) = false → l.any (·.cleared) = false → makeRoom 0 l = none) ∧
    (partState running 1 = 3 ∧ (1 : Nat) ≠ 0) := by
  subst hk hc
  refine ⟨⟨by decide +kernel, by decide +kernel, by decide +kernel, by decide +kernel, { code := 0x0301 }, by decide +kernel, by decide⟩,
    by rintro u rfl; decide +kernel, by rintro u rfl; decide +kernel, by decide +kernel, fun l h a b => ?_, by decide +kernel⟩
  simp [makeRoom, h, a, b]

theorem witness_RerunsAndNoticesTakeEffect :
    rerunDue running 1 = false ∧ rerunDue rerunning 1 = true ∧
    (recordOf rerunning 4 = some (recOf 0x0104 4) ∧ checkable rerunning (recOf 0x0104 4) = false ∧ recordOf rerunning 5 = none ∧
      checkable (rerunning.setPart 1 { rerunning.part 1 with rerun := true }) (recOf 0x0104 4) = true) ∧
    (∀ hdr, hdr = frameTo 2 0 0 (z 128) → ∀ st, st ∈ [3, 4] → ∀ s, s = setPartState (linked up) 1 st →
      Delivered 0 hdr s (deliv 0 hdr s) ∧ hdr.cls = 2 ∧ partState (deliv 0 hdr s) 1 = st ∧ (deliv 0 hdr s).fet = 1000000 ∧
      noticePart { kind := 1, part := 1, origin := 9, index := 0, fet := 1000000 } = true ∧
      noticeSeen (deliv 0 hdr s) { kind := 1, part := 1, origin := 9, index := 0, fet := 1000001 } = false) := by
  refine ⟨by decide +kernel, by decide +kernel, by decide +kernel, ?_⟩
  rintro hdr rfl st h s rfl
  simp only [List.mem_cons, List.not_mem_nil, or_false] at h
  rcases h with rfl | rfl <;> exact ⟨delivered_of (by decide +kernel), by decide +kernel⟩

/-! ### Hypotheses of the statements: the manager, the connector, the whole module -/

/-- The module is the acting manager, at position 0 of its ring, with members 0 and 1; it drives in a phase. -/
def manager (phase : Nat) : State :=
  let s := (((up.set F.CHT_MGR_STATUS_ACT 1).set F.CHT_MGR_STATUS_DRIVING 1).set F.CHT_MGR_CFG_PROXY_EN 1).wr R.CHT_MGR_TMAP0 0x8180
  { s with mgr := { s.mgr with phase := phase, driven := [0, 1] } }

/-- The reply of member 1 with a STEP_DONE. -/
def member (step : Nat) : MemberReply := { t := 1, chtStatus := BitVec.ofNat 32 (step * 2 ^ 28) }

/-- A proxied request, and one whose FET comes too soon. -/
def soonReq : Request := { rq 1 (at8 1000000) with plen := 8 }

theorem witness_ManagerDrivesPollsAndProxies :
    (up.flag F.CHT_MGR_STATUS_DRIVING = false ∧ isManager up = false ∧ chitinRuns up = true ∧ chitinRuns State.reset = false) ∧
    ((manager 1).flag F.CHT_MGR_STATUS_DRIVING = true ∧ isManager (manager 1) = true ∧ chitinRuns (manager 1) = true ∧
      (manager 1).flag F.CHT_MGR_CFG_PROXY_EN = true ∧ (manager 1).mgr.pollDue ≤ (manager 1).fet) ∧
    (∀ s, s = { manager 0 with mgr := { (manager 0).mgr with pollDue := 1000000000 } } → s.fet < s.mgr.pollDue) ∧
    (∀ k step low, (k, step, low) ∈ [(1, 1, 0), (4, 6, 5), (5, 10, 9)] → (manager k).mgr.phase = k ∧ (manager k).mgr.abort = false ∧
      phaseOver (answered (manager k) [member step]) false (manager k) = true ∧
      phaseOver (answered (manager k) [member low]) false (manager k) = false ∧
      phaseOver (answered (manager k) []) true (manager k) = true) ∧
    (phaseOver (answered (manager 3) []) false (manager 3) = false ∧ phaseOver (answered (manager 6) []) false (manager 6) = true) ∧
    (∀ pre, pre = { target := 1, mode := 0, pseq := 3 } → proxyKept (manager 0) 7 8 pre.pseq = [] ∧ proxyCheck (manager 0) pre 0x01 (rq 1 []) = none ∧
      proxyCheck (manager 0) pre 0x18 (rq 1 []) = some stDenied ∧ proxyCheck (manager 0) pre 0x28 soonReq = some stBadParam) ∧
    (∀ pre s, pre = { target := 0xff, mode := 1, pseq := 3, c := 3000000 } →
      s = { manager 0 with mgr := { (manager 0).mgr with proxyReplies := [proxyFrom 7 8 pre 1 1 false (proxyReplyTo (rq 1 []) 0 0 [])] } } →
      proxyCheck (manager 0) pre 0x48 (rq 1 []) = none ∧ proxyKept s 7 8 pre.pseq ≠ []) := by
  refine ⟨by decide +kernel, by decide +kernel, by rintro s rfl; decide +kernel, ?_, by decide +kernel, by rintro pre rfl; decide +kernel,
    by rintro pre s rfl rfl; decide +kernel⟩
  intro k step low h
  simp only [List.mem_cons, List.not_mem_nil, or_false, Prod.mk.injEq] at h
  obtain ⟨rfl, rfl, rfl⟩ | ⟨rfl, rfl, rfl⟩ | ⟨rfl, rfl, rfl⟩ := h <;> decide +kernel

/-- The module is the standby and follows a manager; a number of Fireflies is missed. -/
def standby (missed : Nat) : State :=
  ((up.set F.CHT_MGR_STATUS_ACT 2).set F.CHT_MGR_FOLLOW_VALID 1).set F.CHT_MGR_STATUS_MISSED missed

/-- A yielded manager whose partner answered; a management frame that reads one register. -/
def yielded : State := up.set F.CHT_MGR_STATUS_ACT 4
def mgmtFr : Frame := frameTo 7 0 5 ([1, 0, 1, 0] ++ z 124)

theorem witness_ManagerRoleChanges :
    (∀ s, s = ((standby 2).set (F.SNL_STATUS_STATE 0) 6).set (F.SNL_NEG_VER 0) 1 → ∀ hdr, hdr = frameTo 4 0 0 (z 128) →
      Delivered 0 hdr s (deliv 0 hdr s) ∧ hdr.cls = 4 ∧ watching (deliv 0 hdr s) = true ∧ (0 : Nat) = (deliv 0 hdr s).get F.CHT_MGR_FOLLOW_COORD) ∧
    (watching up = false ∧ watching (standby 2) = true ∧ chitinRuns (standby 2) = true ∧ missEarly (standby 2) = false) ∧
    (∀ s, s = { standby 2 with mgr := { (standby 2).mgr with missDue := some 1000000000 } } → missEarly s = true) ∧
    (3 = min 255 ((standby 2).get F.CHT_MGR_STATUS_MISSED + 1) ∧ 255 = min 255 ((standby 255).get F.CHT_MGR_STATUS_MISSED + 1)) ∧
    (3 ≤ (standby 3).get F.CHT_MGR_STATUS_MISSED ∧ (standby 2).get F.CHT_MGR_STATUS_MISSED < 3) ∧
    ((manager 0).get F.CHT_MGR_STATUS_ACT = 1 ∧ (standby 0).get F.CHT_MGR_STATUS_ACT = 2 ∧ up.get F.CHT_MGR_STATUS_ACT = 0) ∧
    (∀ s, s = (manager 0).set F.CHT_STRAP_SLOT_ID 5 → (some (4 : Fin 64)).any (fun k => decide (k.val < s.get F.CHT_STRAP_SLOT_ID)) = true ∧
      (some (5 : Fin 64)).any (fun k => decide (k.val < s.get F.CHT_STRAP_SLOT_ID)) = false) ∧
    (∀ t, t = busWrite (.datagram 7 8) R.CHT_MGR_CTRL 4 4 true yielded → pathUp yielded (.datagram 7 8) = true ∧
      latchOnly yielded (.datagram 7 8) = false ∧ filtered yielded (.datagram 7 8) true R.CHT_MGR_CTRL = false ∧
      t.get F.CHT_MGR_STATUS_ACT = 4 ∧ (4 : Word).getLsbD 2 = true) ∧
    (∀ s, s = liveUp → Delivered 0 mgmtFr s (deliv 0 mgmtFr s) ∧ mgmtFr.cls = 7 ∧ leAt mgmtFr.payload 0 1 < 128 ∧ chitinRuns (deliv 0 mgmtFr s) = true ∧
      snlAccepted (deliv 0 mgmtFr s) (mgmtFr.src / 8) = false) ∧
    (∀ s, s = ((liveUp.set F.CHT_MGR_FOLLOW_VALID 1).set F.CHT_MGR_FOLLOW_COORD 0).set F.CHT_STRAP_ROLE 0 →
      snlAccepted (deliv 0 mgmtFr s) (mgmtFr.src / 8) = true) := by
  refine ⟨?_, by decide +kernel, by rintro s rfl; decide +kernel, by decide +kernel, by decide +kernel, by decide +kernel,
    by rintro s rfl; decide +kernel, by rintro s rfl; decide +kernel, ?_, by rintro s rfl; decide +kernel⟩
  · rintro s rfl hdr rfl
    exact ⟨delivered_of (by decide +kernel), by decide +kernel⟩
  · rintro s rfl
    exact ⟨delivered_of (by decide +kernel), by decide +kernel⟩

theorem witness_ManagementPortAndResetsAct :
    (pathUp up (.datagram 7 8) = true ∧ pathUp State.reset (.datagram 7 8) = false ∧ 16 ≤ (z 16).length ∧ leAt (z 16) 0 1 < 128 ∧ (z 15).length < 16) ∧
    (chitinRuns up = true ∧ chitinRuns State.reset = false) ∧ (∃ a, a = viewWord up .rackBus R.CHT_MGMT_BASE) ∧
    (up.boot.powered = true ∧ State.reset.boot.powered = false) := by
  refine ⟨by decide +kernel, by decide +kernel, ⟨_, rfl⟩, by decide +kernel⟩

/-- The rack bus answers; in lock. -/
def onBus : State := (up.set F.CHT_SMB_CFG_EN 1).set F.CHT_SMB_CFG_ARA_EN 1
def lockedBus : State := onBus.set F.FLT_LOCK_LOCKED 1

theorem witness_RackBusTapAndRailLoss :
    busUp State.reset = false ∧ (busUp onBus = true ∧ locked onBus = false ∧ busUp lockedBus = true ∧ locked lockedBus = true) ∧
    (latchReads 0x0003001c = true ∧ latchReads 0x34 = true ∧ latchReads 0x38 = false) ∧
    (∀ s, s = { onBus with log := { onBus.log with overflowed := true } } → alertDriven s = true ∧ s.flag F.CHT_SMB_CFG_ARA_EN = true) ∧
    (drivesPins .extest = true ∧ chitinOnly onBus = false ∧ chitinOnly (onBus.set F.CHT_STATUS_STEP_DONE 1) = true) ∧
    Canon onBus := by
  refine ⟨by decide +kernel, by decide +kernel, by decide +kernel, by rintro s rfl; decide +kernel, by decide +kernel, canon_of (by decide +kernel)⟩

theorem witness_LatchServesTheRackBusInLock :
    busUp lockedBus = true ∧ locked lockedBus = true ∧ (BitVec.ofNat 32 R.CHT_RST_STATUS).toNat = R.CHT_RST_STATUS ∧
    (0x38 : Word).toNat ∉ [R.FLT_LOCK, R.CHT_STRAP, R.CHT_SERIAL 0, R.CHT_SERIAL 1, R.CHT_SERIAL 2, R.CHT_SERIAL 3, R.CHT_RST_STATUS] := by
  decide +kernel

theorem witness_ReadsChangeOnlyPeaksAndLatches :
    Canon up ∧ filtered up .rackBus false R.PWR_DRAW = false ∧ pathUp onBus .rackBus = true ∧ latchOnly onBus .rackBus = false ∧
    (answers onBus R.PWR_DRAW = true ∧ place .rackBus R.PWR_DRAW = some R.PWR_DRAW ∧ place .rackBus (R.PRT_DRAW 7) = some (R.PRT_DRAW 7)) ∧
    (place .rackBus R.TIM_FET_LO = some R.TIM_FET_LO ∧ pairHi R.TIM_FET_LO ≠ none) ∧ ToScarab 0x12 false (rq 1 []) running := by
  refine ⟨canon_of (by decide +kernel), by decide +kernel, by decide +kernel, by decide +kernel, by decide +kernel, by decide +kernel,
    toScarab_of (by decide +kernel)⟩

theorem witness_GenerationsAreCompared (p : Packet) (s : State) (hs : s = mesh.set (F.MSH_GEN_GEN 1) 0)
    (hp : p = { id := 9, part := 1, gen := 0, dst := meshId s 0 5, src := 1, srcPhys := 5 }) :
    p.dst = meshId s 0 5 ∧ p.part = ownerOf s 0 ∧ quenchDrops s p = false ∧ p.gen < 256 ∧ s.get (F.MSH_GEN_GEN p.part) = p.gen ∧
    (∀ q, q = { p with gen := 255 } → s.get (F.MSH_GEN_GEN q.part) ≠ q.gen ∧ s.get (F.MSH_GEN_GEN q.part) = (q.gen + 1) % 256 ∧
      (∃ l, locate s q.src 0 = some l ∧ 72 * l.1 + l.2.2 = q.srcPhys ∧ 72 * l.1 + l.2.2 ≠ q.srcPhys + 1) ∧
      s.fet < (({ s with mesh := { s.mesh with drainEnd := 1000001 } } : State)).mesh.drainEnd ∧ s.mesh.drainEnd ≤ s.fet) ∧
    (∀ q, q = { p with gen := 254 } → s.get (F.MSH_GEN_GEN q.part) ≠ q.gen ∧ s.get (F.MSH_GEN_GEN q.part) ≠ (q.gen + 1) % 256) := by
  subst hp hs
  refine ⟨rfl, by decide +kernel, by decide +kernel, by decide, by decide +kernel, ?_, by rintro q rfl; decide +kernel⟩
  rintro q rfl
  exact ⟨by decide +kernel, by decide +kernel, ⟨_, rfl, by decide +kernel⟩, by decide +kernel, by decide +kernel⟩

theorem witness_CurrentLimitTurnsDomainOff : domState up 17 = 3 ∧ domState up 791 ≠ 3 := by decide +kernel

theorem witness_StepRunsFrontCommand :
    (∃ rest, ({ up with pending := [.lastStatus, .summary] } : State).pending = .lastStatus :: rest) ∧ up.pending = [] ∧
    up.boot.powered = true ∧ State.reset.boot.powered = false := ⟨⟨_, rfl⟩, rfl, rfl, rfl⟩

theorem witness_StepKeepsTablesCanonical :
    Canon up ∧ ∃ t, step { up with pending := [.lastStatus] } = .next t := ⟨canon_of (by decide +kernel), _, rfl⟩

theorem witness_StoredDataReadsBack (l : List PWord) (hl : l = List.replicate 64 { w := 7 }) :
    ((F.PWR_DRAW_PEAK).lo ≤ (F.PWR_DRAW_PEAK).hi ∧ (F.PWR_DRAW_PEAK).hi ≤ 31 ∧ (F.PWR_DRAW_PEAK).reg = (F.PWR_DRAW_LAST).reg) ∧
    Mem.wf (Mem.wrN [] 4095 [1, 0, 2]) = true ∧ l.length = 64 ∧ l.any (·.bad) = false ∧
    (∃ s, Canon s ∧ Mem.wf (s.vault 0).tierC = true ∧ AMap.wf (fun _ => []) (s.vault 0).keyOfC = true ∧ (tierCKey s 0 1).isSome = true ∧
      s.flag (F.VLT_CTRL_INJECT 0) = false) := by
  subst hl
  exact ⟨by decide +kernel, by decide +kernel, rfl, rfl, (running.setPart 1 { running.part 1 with keyC := some (z 32) }).set (F.VLT_KEY_STATUS_C_KEY 0) 2,
    canon_of (by decide +kernel), by decide +kernel⟩

theorem witness_CommandsStayInTheirUnit :
    Canon up ∧ Canon (portIn 1) ∧ (∃ t, exec (.partnerSignalDetect 0) (portIn 1) = .next t) ∧ (∃ t, exec (.bundleIssue 0 8) running = .next t) ∧
    (∃ t, exec (.nop (rq 1 [])) up = .next t) :=
  ⟨canon_of (by decide +kernel), canon_of (by decide +kernel), ⟨_, rfl⟩, ⟨_, rfl⟩, ⟨_, rfl⟩⟩

/-! ### Well-formed commands -/

/-- A frame with every field of its header at its largest value. -/
def widest (cls : Nat) : Frame :=
  { ver := 15, cls := cls, part := 7, gen := 255, epoch := 65535, digest := 65535, tag := 16777215, dst := 1048575, src := 1048575, seq := 4095 }

def word (k : Nat) : Word := BitVec.ofNat 32 (2 ^ k)

theorem test_wf_request_kinds : ([.planStopGraceful (rq 1 [1]), .moveIntoTier (rq 1 [1]) [], .envelopeSet (rq 1 [1]), .quenchPartition (rq 1 [1]),
    .powerDomainOff (rq 1 [1]), .resetWarmReinit (rq 1 [1]), .planStopImmediate (rq 1 [0]), .moveOutOfTier (rq 1 [0]), .envelopeSetBudget (rq 1 []),
    .quenchModule (rq 1 [2]), .powerDomainOn (rq 1 [0]), .resetModule (rq 1 [2]), .powerDomainModuleOff (rq 1 [1]), .resetPinSafe (rq 1 [3])] :
      List Instr).all (fun i => !i.wf) = true := by decide +kernel

theorem test_wf_paths : Instr.wf (.sqTailDoorbell (.pf 0) 1 0 0 true) = false ∧ Instr.wf (.cqHeadDoorbell (.vf 1 2) 0 0 0 true) = false ∧
    Instr.wf (.queueEnable (.pf 1) 1 0 0) = false ∧ Instr.wf (.queueEnable (.pf 1) 1 0 1) = true := by decide +kernel

theorem test_wf_bits : ([.buGo .rackBus (word 9), .clkCtrlArm .rackBus 0 (word 7), .buAbort .rackBus (word 8), .rstPinMaskSet .rackBus 2,
    .celSpArm .rackBus 0 0 2, .fldCntClear .rackBus 0 2, .mshInjectArm .rackBus 0 2, .mshCntClear .rackBus 0 2, .vltNCntClear .rackBus 0 2,
    .vltCntClear .rackBus 0 2, .eruInjectArm .rackBus 0 2, .updCntClear .rackBus 0 2, .snlInjectArm .rackBus 0 2, .pwrCntClear .rackBus 2,
    .fltInjectArm .rackBus 2, .mgrDriveAbort .rackBus 2, .defectAdd .rackBus (word 13), .defectPurge .rackBus (word 12), .celFuClear .rackBus 0 0 3,
    .snlRetrainRequest .rackBus 0 3, .handback .rackBus 3 none false [], .celSpZero .rackBus 0 0 1, .celResArm .rackBus 0 0 1,
    .vltNInject .rackBus 0 1, .vltCInject .rackBus 0 1, .eruCntClear .rackBus 0 1, .vminClear .rackBus 1, .fltCntClear .rackBus 1,
    .bringUpDrive .rackBus 1, .celCntClear .rackBus 0 0 7, .portRetry .rackBus 0 7] : List Instr).all (fun i => !i.wf) = true := by decide +kernel

theorem test_wf_frames : ([0, 1, 2, 4, 5, 6, 7].all (fun c => (widest c).wf)) = true ∧
    [{ widest 0 with ver := 16 }, { widest 0 with cls := 16 }, { widest 0 with part := 8 }, { widest 0 with gen := 256 }, { widest 0 with epoch := 65536 },
     { widest 0 with digest := 65536 }, { widest 0 with tag := 16777216 }, { widest 0 with dst := 1048576 }, { widest 0 with src := 1048576 },
     { widest 0 with seq := 4096 }, { widest 0 with crc := 4294967296 }, { widest 0 with mac := z 13 }].all (fun fr => !Instr.wf (.frameForward 0 fr)) = true ∧
    ([.abstainNoticeReceive 0 (widest 1), .busyFrameReceive 0 (widest 1), .stateDigestReceive 0 (widest 2), .configDigestReceive 0 (widest 2),
      .dataFrameReceive 0 (widest 1), .managementFrameReceive 0 (widest 6), .fireflyReceive 0 (widest 3) { coord := 0 },
      .fireflyReceive 0 (widest 4) { coord := 131072 }] : List Instr).all (fun i => !i.wf) = true := by decide +kernel

theorem test_wf_notices_and_faults :
    Instr.wf (.quenchNoticeReceive 0 (widest 2) { kind := 1, part := 1, origin := 0, index := 0, fet := 0 }) = false ∧
    Instr.wf (.genNoticeReceive 0 (widest 2) { kind := 0, part := 1, origin := 0, index := 0, fet := 0 }) = false ∧
    Notice.wf { kind := 0, part := 256, origin := 0, index := 0, fet := 0 } = false ∧
    ([{ code := 0x10000 }, { code := 1, part := 8 }, { code := 1, lanes := 16 }, { code := 1, collector := 109 }, { code := 1, inst := 256 },
      { code := 1, detail := List.replicate 15 0 }] : List FaultEvent).all (fun e => !Instr.wf (.faultCapture e)) = true := by decide +kernel

theorem test_wf_widths : Instr.wf (.registerWrite .rackBus 0 3 0) = false ∧ Instr.wf (.registerWrite .rackBus 16777216 4 0) = false ∧
    Instr.wf (.timFetLoRead .rackBus ⟨2, 3⟩) = false ∧ Instr.wf (.drawPeakRead .rackBus ⟨16777216, 4⟩) = false ∧
    Instr.wf (.badOpcodeRequest (rq 0 []) 0x7f) = false ∧ Instr.wf (.badOpcodeRequest (rq 0 []) 0x7e) = true ∧
    Instr.wf (.regAccessDatagram 0 0 (z 15)) = false ∧ Instr.wf (.proxyForward 0 0 { target := 0, mode := 1, pseq := 0 } 0 (rq 0 []) []) = false ∧
    Instr.wf (.proxyRingCommit 0 0 { target := 0, mode := 0, pseq := 0 } 0 (rq 0 []) []) = false := by decide +kernel

/-! ### Values worked out from the spec -/

/-- The table of operations and events gives no row any bits, so no word spells a command. -/
theorem test_no_word_spells_a_command : decodeTableWord 32 5 = none ∧ State.withFetchWord up 32 5 = up := ⟨rfl, rfl⟩

/-- 01_module_anatomy, locating one cell: (5, 4) of field 37. -/
theorem test_cell_of_field_37 : fieldRow 37 = 4 ∧ fieldCol 37 = 3 ∧ westHalf 37 = true ∧ clusterOf 5 4 = 3 ∧ posOfLocal 32 = 37 := by decide +kernel

/-- 01_module_anatomy: the field south of field 0 is 7; 6 has no north neighbour. -/
theorem test_neighbours : fieldAt (fieldRow 0 + 1) (fieldCol 0) = some 7 ∧ fieldAt (fieldRow 6 - 1) (fieldCol 6) = none := by decide +kernel

/-- 18_address_map, decoding offsets. -/
theorem test_offsets : R.CEL_SENT_SEED 37 14 = 0x00a58e2c ∧ R.SNL_SLOT_TBL 48 2 = 0x00130108 ∧ R.ERU_SCHED0 3 5 = 0x00143850 ∧
    R.UPD_G_HI 0 2 = 0x00208190 ∧ R.VLT_FENCE_ATTR 9 3 = 0x00290138 ∧ R.PWR_DOM_VMIN 336 = 0x00013a08 ∧ R.CLK_CTRL 37 = 0x00028250 ∧
    R.FLT_C_FIRST 100 = 0x00031640 ∧ R.MSH_L2P 2400 = 0x00053580 := by decide +kernel

/-- R126: the eight Z4 magnitudes 0, 0.5 (read as 0: subnormal), 1, 1.5, 2, 3, 4, 6. -/
theorem test_z4_codes : (List.range 8).map (decodeNum 0) =
    [.fin false 0 0, .fin false 0 0, .fin false 2 (-1), .fin false 3 (-1), .fin false 2 0, .fin false 3 0, .fin false 2 1, .fin false 3 1] := by decide +kernel

/-- 04_number_formats, why intermediate narrowing rounds to odd: x = 1.25 + 2⁻⁹. -/
theorem test_round_to_odd : encodeNum 5 false (decodeNum 7 0x3fa04000) = 0x3fa0 ∧ encodeNum 5 true (decodeNum 7 0x3fa04000) = 0x3fa1 ∧
    encodeNum 0 false (decodeNum 7 0x3fa04000) = 3 ∧ encodeNum 0 false (decodeNum 5 0x3fa0) = 2 ∧ encodeNum 0 false (decodeNum 5 0x3fa1) = 3 := by decide +kernel

/-- R136: a Z4 block with amax 7.5 has X = 0 (scale byte 127), and its 7.5 becomes 6. -/
theorem test_block_scale : quantBlock 0 [.fin false 15 (-1)] = (127, [7]) := by decide +kernel

/-- The published check values of the digests the spec names: SHA-256 of "abc"; CRC-64 (ECMA-182) of "123456789". -/
theorem test_sha256 : (sha256 [0x61, 0x62, 0x63]).take 8 = [0xba, 0x78, 0x16, 0xbf, 0x8f, 0x01, 0xcf, 0xea] := by decide +kernel
theorem test_crc64 : crc64 [0x31, 0x32, 0x33, 0x34, 0x35, 0x36, 0x37, 0x38, 0x39] = 0x6C40DF5F0B497347 := by decide +kernel

/-- R385: NOP completes OK to its source. -/
theorem test_nop_replies_ok : ∃ t, step { up with pending := [.nop (rq 0 [])] } = .next t ∧
    t.out.map (fun o => match o with | .reply _ op r .. => (op, r.status) | _ => (255, 255)) = [(0, 0)] := ⟨_, rfl, by decide +kernel⟩

/-- R382, Table 12.3: an opcode that no table defines ends BAD_OPCODE. -/
theorem test_bad_opcode : ∃ t, exec (.badOpcodeRequest (rq 0 []) 0x7e) up = .next t ∧
    t.out.map (fun o => match o with | .reply _ op r .. => (op, r.status) | _ => (255, 255)) = [(0x7e, 0x0200)] := ⟨_, rfl, by decide +kernel⟩

/-- R401: AUX_12V lost while the main input is present: Chitin runs from the reserve, and the module goes on. -/
theorem test_aux_loss : ∃ t, exec .aux12vLoss up = .next t ∧ t.get F.PWR_STATUS_AUX_OK = 0 ∧ t.get F.PWR_HOLDUP_ON_HOLDUP = 1 ∧
    uncoreOn t 0 = true := ⟨_, rfl, by decide +kernel⟩

/-- R47: with no command waiting a powered module counts one nanosecond. -/
theorem test_tick : ∃ t, step up = .next t ∧ t.fet = 1000001 := ⟨_, rfl, by decide +kernel⟩

end Sys2Proof.Tests
end

/-!
PROOFS. The statements of 00_scope: every command completes (O55), register accesses (O19), the bits a write leaves (O20),
and the state after reset (O58).
-/
namespace Sys2Proof.Machine

/-! ### Every command completes (O55) -/

/-- A request to Scarab completes, and its opcode keeps what `Keeps` says. -/
theorem scarabRow_completes {i : Instr} {o : ScpOp} {r : Request} {s : State} (e : scarabOp s i = some (o, r)) :
    ∃ t, exec i s = .next t ∧ Keeps s t :=
  ⟨_, exec_scarab e, scarab_keeps (Keeps.refl s) (scarabOp_keeps e)⟩

/-- A request to Chitin's front end completes, and its opcode keeps what `Keeps` says. -/
theorem chitinRow_completes {i : Instr} {o : ScpOp} {r : Request} {s : State} (e : chitinOp i = some (o, r)) :
    ∃ t, exec i s = .next t ∧ Keeps s t :=
  ⟨_, exec_chitin e, chitin_keeps (Keeps.refl s) (chitinOp_keeps e)⟩

/-- A request with an undefined opcode completes; one whose opcode is defined is none of this row's and changes nothing. -/
theorem badOpcodeRequest_completes {r : Request} {op : BitVec 8} {s : State} :
    ∃ t, exec (.badOpcodeRequest r op) s = .next t ∧ Keeps s t :=
  ⟨_, rfl, Keeps.ite (Keeps.refl s) (scarab_keeps (Keeps.refl s) (fun _ => badOpcodeOp_keeps))⟩

/-- Row by row: a command's outcome is a next state, which the row's update makes and which keeps what `Keeps` says. -/
theorem exec_completes (c : Instr) (s : State) : ∃ t, exec c s = .next t ∧ Keeps s t := by
  have h := Keeps.refl s
  cases c with
  | nop | identify | negotiate | timeQuery | partCreate | partDestroy | partQuery | keyInstall | planLoad | planBind |
      planStart | planStopGraceful | planStopImmediate | stepArm | stepCommit | moveIntoTier | moveOutOfTier | queueConfig |
      ckptWrite | ckptRestore | migrate | mapUpdate | cfgStage | cfgCommit | envelopeSet | envelopeSetBudget | faultQuery |
      faultInject | faultClear | sentinelRun => exact scarabRow_completes rfl
  | quenchPartition | quenchModule | powerDomainOff | powerDomainOn | powerDomainModuleOff | resetWarmReinit | resetModule |
      resetPinSafe => exact chitinRow_completes rfl
  | commandCompletion => exact ⟨_, rfl, release_keeps (complete_keeps h)⟩
  | systemScarabFailover => exact ⟨_, rfl, scarabFailover_keeps h⟩
  | sqTailDoorbell | cqHeadDoorbell | queueEnable => exact ⟨_, rfl, pageWrite_keeps h⟩
  | mgmtQueueExpiry => exact ⟨_, rfl, queueExpiry_keeps h⟩
  | chitinPowerUp => exact ⟨_, rfl, powerUp_keeps h⟩
  | buGo | buAbort | rstPinMaskSet | defectAdd | defectPurge | clkCtrlArm | celFuClear | celSpZero | celCntClear |
      celSpArm | celResArm | fldCntClear | mshInjectArm | mshCntClear | vltNInject | vltCInject | vltNCntClear |
      vltCntClear | eruSchedWrite | eruCntClear | eruInjectArm | updGCfgWrite | updCntClear | portEnable | portRetry |
      snlRetrainRequest | snlInjectArm | vminClear | pwrCntClear | fltInjectArm | fltCntClear | bringUpDrive |
      mgrDriveAbort | mgmtBaseWrite | registerWrite => exact ⟨_, rfl, busWrite_keeps h⟩
  | buStepComplete => exact ⟨_, rfl, stepComplete_keeps h⟩
  | rstLAssert => exact ⟨_, rfl, rstAssert_keeps h⟩
  | rstLRelease => exact ⟨_, rfl, rstRelease_keeps h⟩
  | resetStuck => exact ⟨_, rfl, resetStuck_keeps h⟩
  | strapSample => exact ⟨_, rfl, strapSample_keeps h⟩
  | pwrEnDeassert => exact ⟨_, rfl, pwrEnDeassert_keeps h⟩
  | refPpsEdge => exact ⟨_, rfl, refPpsEdge_keeps h⟩
  | ptpExchange => exact ⟨_, rfl, ptpEvent_keeps h⟩
  | ptpMessageTimeout | refLost => exact ⟨_, rfl, refLost_keeps h⟩
  | refQualified => exact ⟨_, rfl, refQualified_keeps h⟩
  | provisionalTimeout => exact ⟨_, rfl, provisionalTimeout_keeps h⟩
  | disciplineSample => exact ⟨_, rfl, Keeps.ite (loopSample_keeps h) h⟩
  | switchComplete => exact ⟨_, rfl, switchComplete_keeps h⟩
  | revertTimer => exact ⟨_, rfl, revertTimer_keeps h⟩
  | ovenStable => exact ⟨_, rfl, ovenStable_keeps h⟩
  | holdoverLearned => exact ⟨_, rfl, holdoverLearned_keeps h⟩
  | holdLimitExceeded => exact ⟨_, rfl, holdLimitExceeded_keeps h⟩
  | cicadaSend => exact ⟨_, rfl, cicadaSend_keeps h⟩
  | cicadaReceive => exact ⟨_, rfl, cicadaFrame_keeps h⟩
  | opChangeDue => exact ⟨_, rfl, opChangeDue_keeps h⟩
  | opVoltageReady => exact ⟨_, rfl, opVoltageReady_keeps h⟩
  | timFetLoRead | drawPeakRead => exact ⟨_, rfl, busRead_keeps h⟩
  | bundleIssue => exact ⟨_, rfl, bundleIssue_keeps h⟩
  | stepBundle => exact ⟨_, rfl, stepBundle_keeps (settle_keeps h)⟩
  | gateDue => exact ⟨_, rfl, gateDue_keeps h⟩
  | loopEnd => exact ⟨_, rfl, loopEnd_keeps h⟩
  | endBundle => exact ⟨_, rfl, endBundle_keeps h⟩
  | moveBundle => exact ⟨_, rfl, moveBundle_keeps h⟩
  | sentinelBundle => exact ⟨_, rfl, sentinelBundle_keeps h⟩
  | sentSigCompare => exact ⟨_, rfl, sentSigCompare_keeps h⟩
  | reserveSentinelTile => exact ⟨_, rfl, reserveSentinelTile_keeps h⟩
  | cellRepetitionBegin => exact ⟨_, rfl, repetitionBegin_keeps h⟩
  | slotBegin => exact ⟨_, rfl, slotBegin_keeps h⟩
  | slotEnd => exact ⟨_, rfl, slotEnd_keeps h⟩
  | microOpIssue => exact ⟨_, rfl, microOpIssue_keeps h⟩
  | scratchpadAccessGrant => exact ⟨_, rfl, accessGrant_keeps h⟩
  | arrivalRecord => exact ⟨_, rfl, arrivalRecord_keeps h⟩
  | guardExpiry => exact ⟨_, rfl, guardExpiry_keeps h⟩
  | scratchpadZeroDone => exact ⟨_, rfl, scratchpadZeroDone_keeps h⟩
  | packetInject => exact ⟨_, rfl, packetInject_keeps h⟩
  | packetHop => exact ⟨_, rfl, packetHop_keeps h⟩
  | packetReceive => exact ⟨_, rfl, packetReceive_keeps h⟩
  | busyReceive => exact ⟨_, rfl, busyReceive_keeps h⟩
  | retryBackoffExpiry => exact ⟨_, rfl, retryBackoffExpiry_keeps h⟩
  | retryRecordLapse => exact ⟨_, rfl, retryRecordLapse_keeps h⟩
  | mapActivation => exact ⟨_, rfl, settle_keeps h⟩
  | drainWindowEnd => exact ⟨_, rfl, drainWindowEnd_keeps h⟩
  | descriptorStart => exact ⟨_, rfl, descriptorStart_keeps h⟩
  | moverAccessStart => exact ⟨_, rfl, moverAccessStart_keeps h⟩
  | moverAccessComplete => exact ⟨_, rfl, moverAccessComplete_keeps h⟩
  | descriptorComplete => exact ⟨_, rfl, descriptorComplete_keeps h⟩
  | tierAckArrival => exact ⟨_, rfl, tierAckArrival_keeps h⟩
  | tierNZeroDone => exact ⟨_, rfl, tierNZeroDone_keeps h⟩
  | patrolScrub => exact ⟨_, rfl, patrolScrub_keeps h⟩
  | ckptEpoch => exact ⟨_, rfl, ckptEpoch_keeps h⟩
  | segmentSave => exact ⟨_, rfl, segmentSave_keeps h⟩
  | copyOnWrite => exact ⟨_, rfl, copyOnWrite_keeps h⟩
  | ckptCompletionRecord => exact ⟨_, rfl, ckptCompletionRecord_keeps h⟩
  | journalStagingFlush => exact ⟨_, rfl, journalStagingFlush_keeps h⟩
  | eruInputArrival => exact ⟨_, rfl, eruInput_keeps h⟩
  | eruBusyResend => exact ⟨_, rfl, eruBusyResend_keeps h⟩
  | eruSlotDeadline => exact ⟨_, rfl, eruDeadline_keeps h⟩
  | eruResultDeadline => exact ⟨_, rfl, eruResultDeadline_keeps h⟩
  | verdictTime => exact ⟨_, rfl, verdictTime_keeps h⟩
  | abstainNoticeReceive => exact ⟨_, rfl, abstainNotice_keeps h⟩
  | resultDelivery => exact ⟨_, rfl, resultDelivery_keeps h⟩
  | groupUpdate => exact ⟨_, rfl, groupUpdate_keeps h⟩
  | clipPhase2 => exact ⟨_, rfl, clipPhase2_keeps h⟩
  | stateDigest => exact ⟨_, rfl, stateDigest_keeps h⟩
  | stateDigestReceive => exact ⟨_, rfl, stateDigestReceive_keeps h⟩
  | digestTimeout => exact ⟨_, rfl, digestTimeout_keeps h⟩
  | lcwReceive => exact ⟨_, rfl, lcwReceive_keeps h⟩
  | blockTransmit => exact ⟨_, rfl, blockTransmit_keeps h⟩
  | dataFrameReceive => exact ⟨_, rfl, receiveFrame_keeps h (fun _ => deliverData_keeps)⟩
  | frameForward => exact ⟨_, rfl, frameForward_keeps h (fun _ => frameRequest_keeps)⟩
  | busyFrameReceive => exact ⟨_, rfl, busyFrame_keeps h⟩
  | fireflyReceive => exact ⟨_, rfl, fireflyReceive_keeps h⟩
  | fireflySend => exact ⟨_, rfl, fireflySend_keeps h⟩
  | configDigestSend => exact ⟨_, rfl, configDigestSend_keeps h⟩
  | configDigestReceive => exact ⟨_, rfl, configDigestReceive_keeps h⟩
  | managementFrameReceive => exact ⟨_, rfl, managementFrame_keeps h⟩
  | partnerLost => exact ⟨_, rfl, partnerLost_keeps h⟩
  | wakeBurst => exact ⟨_, rfl, wakeBurst_keeps h⟩
  | partnerSignalDetect => exact ⟨_, rfl, signalDetect_keeps h⟩
  | blockLock => exact ⟨_, rfl, blockLock_keeps h⟩
  | detectTimeout => exact ⟨_, rfl, detectTimeout_keeps h⟩
  | trainConverged => exact ⟨_, rfl, trainConverged_keeps h⟩
  | qualifyWindowEnd => exact ⟨_, rfl, qualifyEnd_keeps h⟩
  | negotiateComplete => exact ⟨_, rfl, negotiateComplete_keeps h⟩
  | retrainLinkmsg => exact ⟨_, rfl, retrainMsg_keeps h⟩
  | retrainWindowStart => exact ⟨_, rfl, retrainStart_keeps h⟩
  | retrainComplete => exact ⟨_, rfl, retrainComplete_keeps h⟩
  | retrainSearchTimeout => exact ⟨_, rfl, retrainTimeout_keeps h⟩
  | marginMonitorArm => exact ⟨_, rfl, marginArm_keeps h⟩
  | marginWindow => exact ⟨_, rfl, marginWindow_keeps h⟩
  | rateChangeProposal => exact ⟨_, rfl, rateProposal_keeps h⟩
  | rateChange => exact ⟨_, rfl, rateChange_keeps h⟩
  | configCommitDue => exact ⟨_, rfl, configCommitDue_keeps h⟩
  | partitionPowerWindow => exact ⟨_, rfl, partitionWindow_keeps h⟩
  | modulePowerWindow => exact ⟨_, rfl, moduleWindow_keeps h⟩
  | envelopeBreakpoint => exact ⟨_, rfl, envelopeBreakpoint_keeps h⟩
  | ballastDutyUpdate => exact ⟨_, rfl, ballastUpdate_keeps h⟩
  | quenchReached => exact ⟨_, rfl, quenchReached_keeps h⟩
  | mainInputCondition => exact ⟨_, rfl, mainInput_keeps h⟩
  | inputLoss => exact ⟨_, rfl, inputLoss_keeps h⟩
  | journalFlushComplete => exact ⟨_, rfl, flushJournal_keeps h⟩
  | aux12vLoss => exact ⟨_, rfl, auxLoss_keeps h⟩
  | converterFault => exact ⟨_, rfl, converterFault_keeps h⟩
  | voltageSample => exact ⟨_, rfl, voltageSample_keeps h⟩
  | tokenAdmission => exact ⟨_, rfl, tokenAdmission_keeps h⟩
  | softStartCheck => exact ⟨_, rfl, softStartCheck_keeps h⟩
  | softStartRetry => exact ⟨_, rfl, softStartRetry_keeps h⟩
  | currentLimitTrip => exact ⟨_, rfl, currentLimitTrip_keeps h⟩
  | holdupStateChange => exact ⟨_, rfl, holdupChange_keeps h⟩
  | estimatorDisagree => exact ⟨_, rfl, estimatorDisagree_keeps h⟩
  | holdupCalibration => exact ⟨_, rfl, holdupCalibration_keeps h⟩
  | thermalWindow => exact ⟨_, rfl, thermalWindow_keeps h⟩
  | overtempTrip => exact ⟨_, rfl, raiseFault_keeps h⟩
  | coolantOkDeassert => exact ⟨_, rfl, raiseFault_keeps (State.set_keeps (State.set_keeps h))⟩
  | leakDetAssert => exact ⟨_, rfl, raiseFault_keeps (State.set_keeps h)⟩
  | faultCapture => exact ⟨_, rfl, faultCapture_keeps h⟩
  | quenchNoticeReceive => exact ⟨_, rfl, noticeFrame_keeps h (fun _ => quenchNoticeReceive_keeps)⟩
  | genNoticeReceive => exact ⟨_, rfl, noticeFrame_keeps h (fun _ => genNoticeReceive_keeps)⟩
  | rerun => exact ⟨_, rfl, rerunStart_keeps h⟩
  | repeatCheckComplete => exact ⟨_, rfl, repeatCheck_keeps h⟩
  | faultInjectDue => exact ⟨_, rfl, injectDue_keeps h⟩
  | drivePhaseComplete => exact ⟨_, rfl, drivePhase_keeps h⟩
  | healthPoll => exact ⟨_, rfl, healthPoll_keeps h⟩
  | proxyForward => exact ⟨_, rfl, proxyForward_keeps h⟩
  | proxyRingCommit => exact ⟨_, rfl, ringCommit_keeps h⟩
  | fireflyMiss => exact ⟨_, rfl, fireflyMiss_keeps h⟩
  | standbyTakeover => exact ⟨_, rfl, standbyTakeover_keeps h⟩
  | managerYield => exact ⟨_, rfl, managerYield_keeps h⟩
  | handback => exact ⟨_, rfl, handback_keeps h⟩
  | regAccessDatagram => exact ⟨_, rfl, regDatagram_keeps h⟩
  | arpIcmpRequest => exact ⟨_, rfl, arpIcmp_keeps h⟩
  | perstAssert => exact ⟨_, rfl, perstAssert_keeps h⟩
  | functionLevelReset => exact ⟨_, rfl, functionReset_keeps h⟩
  | regRead => exact ⟨_, rfl, busRegRead_keeps h⟩
  | regWrite => exact ⟨_, rfl, busRegWrite_keeps h⟩
  | summary => exact ⟨_, rfl, busSummary_keeps h⟩
  | lastStatus => exact ⟨_, rfl, busLastStatus_keeps h⟩
  | alertResponse => exact ⟨_, rfl, alertResponse_keeps h⟩
  | smbusTimeout => exact ⟨_, rfl, smbusTimeout_keeps h⟩
  | tapInstruction => exact ⟨_, rfl, tapLoad_keeps h⟩
  | tapReset => exact ⟨_, rfl, tapReset_keeps h⟩
  | chitinRailLoss => exact ⟨_, rfl, railLoss_keeps h⟩
  | perstRelease => exact ⟨_, rfl, perstRelease_keeps h⟩
  | badOpcodeRequest => exact badOpcodeRequest_completes

/-- Settles O55, by the rows of the table of operations and events. -/
theorem everyCommandCompletes : Obligations.EveryCommandCompletes := exec_completes

/-! ### Register accesses (O19) -/

/-- A write of 4 bytes takes the low word of its value. -/
theorem busWrite_setWidth (via : Path) (off : Nat) (v : BitVec 64) (ok : Bool) (s : State) :
    busWrite via off 4 v.toNat ok s = busWrite via off 4 (v.setWidth 32).toNat ok s := by
  have low_word : BitVec.ofNat 32 v.toNat = BitVec.ofNat 32 (v.setWidth 32).toNat := by
    rw [BitVec.ofNat_toNat, BitVec.ofNat_toNat, BitVec.setWidth_eq]
  have no_wide : ¬ ((4 : Nat) = 8 ∧ off % 8 = 0) := by omega
  simp only [busWrite, writeReg, low_word, if_neg no_wide]

/-- A write that lands where no register of the window keeps rules of its own: the reset mask, the schedule entries, the
group configurations. -/
theorem registerWrite_lands {via : Path} {off reg : Nat} {v : BitVec 64} {s : State} (h : Lands via off reg (v.setWidth 32) s)
    (h1 : ∀ r, winOf reg = (.chitin, r) → r ≠ 0x10) (h2 : ∀ n r, winOf reg = (.eru n, r) → r < 0x800)
    (h3 : ∀ u r, winOf reg = (.upd u, r) → r < 0x8100) :
    exec (.registerWrite via off 4 v) s = .next (writeEffect reg (v.setWidth 32) (queueWas s reg) true
      (s.wr reg (writtenWord s reg (stateLoad s reg (v.setWidth 32))))) := by
  rcases hw : winOf reg with ⟨x, r⟩
  have plain : writeHere via reg (v.setWidth 32) true s = writePlain via reg (v.setWidth 32) true s :=
    writeHere_plain h.accepted hw (fun e => h1 r (e ▸ hw)) (fun n e => h2 n r (e ▸ hw)) (fun u e => h3 u r (e ▸ hw))
  exact congrArg _ ((busWrite_setWidth via off v true s).trans (busWrite_lands h plain))

/-- A path that is up and not confined to the latch carries a write to the register map. -/
theorem busWrite_open {via : Path} {s : State} (up : pathUp s via = true) (unlatched : latchOnly s via = false)
    (off bytes v : Nat) (ok : Bool) : busWrite via off bytes v ok s = (writeReg via off bytes v ok s).2 := by
  simp [busWrite, up, unlatched]

/-- The same of a read, whose value goes back on the path. -/
theorem busRead_open {via : Path} {s : State} (up : pathUp s via = true) (unlatched : latchOnly s via = false) (off bytes : Nat) :
    busRead via off bytes s =
      (readReg via off bytes s).2.2.emit (.readData via off (readReg via off bytes s).1 bytes) := by
  simp [busRead, up, unlatched]

theorem writeReg_badWidth {via : Path} {off bytes v : Nat} {ok : Bool} {s : State} (h4 : ¬ (bytes = 4 ∧ off % 4 = 0))
    (h8 : ¬ (bytes = 8 ∧ off % 8 = 0)) : writeReg via off bytes v ok s = (2, regNote via true 1 off s) := by
  unfold writeReg; rw [if_neg h4, if_neg h8]

theorem readReg_badWidth {via : Path} {off bytes : Nat} {s : State} (h4 : ¬ (bytes = 4 ∧ off % 4 = 0))
    (h8 : ¬ (bytes = 8 ∧ off % 8 = 0)) : readReg via off bytes s = (2 ^ (8 * bytes) - 1, 2, regNote via false 1 off s) := by
  unfold readReg; rw [if_neg h4, if_neg h8]

theorem writeReg_word {via : Path} {off v : Nat} {ok : Bool} {s : State} (h : off % 4 = 0) :
    writeReg via off 4 v ok s = accessWrite via off (BitVec.ofNat 32 v) ok s := by
  unfold writeReg; rw [if_pos ⟨rfl, h⟩]

theorem readReg_word {via : Path} {off : Nat} {s : State} (h : off % 4 = 0) :
    readReg via off 4 s = ((accessRead via off s).1.toNat, (accessRead via off s).2) := by
  unfold readReg; rw [if_pos ⟨rfl, h⟩]

/-- A read of 8 bytes is a read of the lower word and then of the upper one (R15). -/
theorem readReg_double {via : Path} {off : Nat} {s : State} (h : off % 8 = 0) :
    readReg via off 8 s =
      ((accessRead via off s).1.toNat + 2 ^ 32 * (accessRead via (off + 4) (accessRead via off s).2.2).1.toNat,
        max (accessRead via off s).2.1 (accessRead via (off + 4) (accessRead via off s).2.2).2.1,
        (accessRead via (off + 4) (accessRead via off s).2.2).2.2) := by
  unfold readReg; rw [if_neg (by omega), if_pos ⟨rfl, h⟩]

/-- A write at an offset where the path names no register is discarded (R537). -/
theorem accessWrite_unassigned {via : Path} {off : Nat} {w : Word} {ok : Bool} {s : State} (passed : filtered s via true off = false)
    (answered : answers s off = true) (nowhere : place via off = none) :
    accessWrite via off w ok s = (2, regNote via true 4 off s) := by
  simp [accessWrite, passed, answered, nowhere]

/-- A read that passes its filter, at an offset whose unit answers, reads the register placed there. -/
theorem accessRead_placed {via : Path} {off o : Nat} {s : State} (passed : filtered s via false off = false)
    (answered : answers s off = true) (placed : place via off = some o) :
    accessRead via off s = ((readHere via o s).1, 0, (readHere via o s).2) := by
  simp [accessRead, passed, answered, placed]

theorem latchOnly_of_unlocked {via : Path} {s : State} (h : locked s = false) : latchOnly s via = false := by
  simp [latchOnly, h]

/-- A requester reads back the upper half it latched last. -/
theorem latched_setLatch (via : Path) (lo : Nat) (hi : Word) (l : List (Path × Nat × Word)) (s : State) :
    latched { s with latches := setLatch via lo hi l } via lo = some hi := by
  have dropped : (l.filter (fun e => !(e.1 == via && e.2.1 == lo))).find? (fun e => e.1 == via && e.2.1 == lo) = none := by
    rw [List.find?_eq_none]
    intro e he kept
    have := (List.mem_filter.mp he).2
    simp only [kept, Bool.not_true, Bool.false_eq_true] at this
  rw [latched, setLatch, List.find?_append, dropped]
  simp

/-! FET_LO, FET_HI and PWR_DRAW lie where every path shares the map, in windows that always answer. -/

/-- Past the queue pages and below the port windows, a PCI Express function reaches what every path reaches. -/
theorem pciePlace_shared {off : Nat} (ep fn : Nat) (lo : 0x10000 ≤ off) (hi : off < 0x100000) : pciePlace ep fn off = off := by
  unfold pciePlace canonOff; rw [if_neg (by omega), if_neg (by omega), if_neg (by omega)]

/-- A register past the queue pages and below the port windows is placed at its offset on every path. -/
theorem place_shared (via : Path) {off : Nat} (lo : 0x10000 ≤ off) (hi : off < 0x100000)
    (assigned : ((regRow off).isSome && !vaultZeroOnly off) = true) : place via off = some off := by
  have page : ¬ (0x8000 ≤ off ∧ off < 0x10000) := by omega
  have one : canonOff off = off := by unfold canonOff; rw [if_neg (by omega)]
  unfold place
  rw [if_neg (by omega)]
  cases via <;> simp only [pciePlace_shared _ _ lo hi, one, if_neg page, if_pos assigned]

theorem place_fetLo (via : Path) : place via R.TIM_FET_LO = some R.TIM_FET_LO :=
  place_shared via (by decide) (by decide) (by decide)
theorem place_fetHi (via : Path) : place via (R.TIM_FET_LO + 4) = some (R.TIM_FET_LO + 4) :=
  place_shared via (by decide) (by decide) (by decide)
theorem place_pwrDraw (via : Path) : place via R.PWR_DRAW = some R.PWR_DRAW :=
  place_shared via (by decide) (by decide) (by decide)

theorem answers_fetLo (s : State) : answers s R.TIM_FET_LO = true := rfl
theorem answers_fetHi (s : State) : answers s (R.TIM_FET_LO + 4) = true := rfl
theorem answers_pwrDraw (s : State) : answers s R.PWR_DRAW = true := rfl

/-- The state in which a requester has latched the upper word of FET (R81). -/
def latchFet (via : Path) (s : State) : State :=
  { s with latches := setLatch via R.TIM_FET_LO (BitVec.ofNat 32 (s.fet / 2 ^ 32)) s.latches }

theorem latched_latchFet (via : Path) (s : State) :
    latched (latchFet via s) via R.TIM_FET_LO = some (BitVec.ofNat 32 (s.fet / 2 ^ 32)) :=
  latched_setLatch via R.TIM_FET_LO _ s.latches s

/-- A read of FET_LO shows the low word of FET and latches the upper one for its requester (R81). -/
theorem readHere_fetLo (via : Path) (s : State) :
    readHere via R.TIM_FET_LO s = (BitVec.ofNat 32 s.fet, latchFet via s) := by
  have mask : readMask R.TIM_FET_LO = BitVec.allOnes 32 := by decide
  have shown : viewWord s via R.TIM_FET_LO = BitVec.ofNat 32 s.fet := rfl
  have upper : viewWord s via (R.TIM_FET_LO + 4) = BitVec.ofNat 32 (s.fet / 2 ^ 32) := rfl
  have single : pairLo R.TIM_FET_LO = none := by decide
  have pair : pairHi R.TIM_FET_LO = some (R.TIM_FET_LO + 4) := by decide
  have plain : drawPeak R.TIM_FET_LO = none := by decide
  simp only [readHere, single, pair, plain, shown, upper, mask, BitVec.and_allOnes, latchFet]

/-- A read of FET_HI shows what its requester latched, and changes nothing (R81). -/
theorem readHere_fetHi {via : Path} {s : State} {w : Word} (h : latched s via R.TIM_FET_LO = some w) :
    readHere via (R.TIM_FET_LO + 4) s = (w, s) := by
  have mask : readMask (R.TIM_FET_LO + 4) = BitVec.allOnes 32 := by decide
  have pair : pairLo (R.TIM_FET_LO + 4) = some R.TIM_FET_LO := by decide
  have last : pairHi (R.TIM_FET_LO + 4) = none := by decide
  have plain : drawPeak (R.TIM_FET_LO + 4) = none := by decide
  simp only [readHere, pair, last, plain, h, mask, Option.getD_some, BitVec.and_allOnes]

/-- A read of PWR_DRAW shows the register and clears PEAK (R545). -/
theorem readHere_pwrDraw (via : Path) (s : State) :
    readHere via R.PWR_DRAW s = (s.rd R.PWR_DRAW &&& readMask R.PWR_DRAW, s.set F.PWR_DRAW_PEAK 0) := by
  have shown : viewWord s via R.PWR_DRAW = s.rd R.PWR_DRAW := rfl
  have single : pairLo R.PWR_DRAW = none := by decide
  have alone : pairHi R.PWR_DRAW = none := by decide
  have peak : drawPeak R.PWR_DRAW = some F.PWR_DRAW_PEAK := by decide
  simp only [readHere, single, alone, peak, shown]

/-- The two words of an FET make its low 64 bits. -/
theorem fet_words (n : Nat) : (BitVec.ofNat 32 n).toNat + 2 ^ 32 * (BitVec.ofNat 32 (n / 2 ^ 32)).toNat = n % 2 ^ 64 := by
  simp only [BitVec.toNat_ofNat]
  omega

/-- An 8-byte read of FET_LO answers one whole FET: its second word is the one its first word latched. -/
theorem readReg_fet {via : Path} {s : State} (passed : filtered s via false R.TIM_FET_LO = false)
    (passedHi : filtered s via false (R.TIM_FET_LO + 4) = false) :
    readReg via R.TIM_FET_LO 8 s = (s.fet % 2 ^ 64, 0, latchFet via s) := by
  have stillPassed : filtered (latchFet via s) via false (R.TIM_FET_LO + 4) = false := passedHi
  rw [readReg_double (by decide), accessRead_placed passed (answers_fetLo s) (place_fetLo via), readHere_fetLo,
    accessRead_placed stillPassed (answers_fetHi _) (place_fetHi via), readHere_fetHi (latched_latchFet via s), fet_words,
    Nat.max_self]

/-- Settles O19: each clause is a write or a read along its path, as the lemmas above say. -/
theorem registerAccessesFollowTheirType : Obligations.RegisterAccessesFollowTheirType := by
  intro via off reg v s
  refine ⟨registerWrite_lands, ?width, ?unassigned, ?fetLo, ?fet, ?peak⟩
  case width =>
    intro bytes up unlatched h4 h8
    constructor
    · exact congrArg _ ((busWrite_open up unlatched off bytes v.toNat true).trans (by rw [writeReg_badWidth h4 h8]))
    · exact congrArg _ ((busRead_open up unlatched off bytes).trans (by rw [readReg_badWidth h4 h8]))
  case unassigned =>
    intro up unlatched aligned passed answered nowhere
    exact congrArg _ ((busWrite_open up unlatched off 4 v.toNat true).trans
      (by rw [writeReg_word aligned, accessWrite_unassigned passed answered nowhere]))
  case fetLo =>
    intro up unlocked passed
    refine congrArg _ ((busRead_open up (latchOnly_of_unlocked unlocked) R.TIM_FET_LO 4).trans ?_)
    rw [readReg_word (by decide), accessRead_placed passed (answers_fetLo s) (place_fetLo via), readHere_fetLo,
      BitVec.toNat_ofNat, latchFet]
  case fet =>
    intro up unlocked passed passedHi
    refine congrArg _ ((busRead_open up (latchOnly_of_unlocked unlocked) R.TIM_FET_LO 8).trans ?_)
    rw [readReg_fet passed passedHi, latchFet]
  case peak =>
    intro up unlocked passed
    refine congrArg _ ((busRead_open up (latchOnly_of_unlocked unlocked) R.PWR_DRAW 4).trans ?_)
    rw [readReg_word (by decide), accessRead_placed passed (answers_pwrDraw s) (place_pwrDraw via), readHere_pwrDraw]

/-! ### What a write makes of each bit (O20) -/

/-- One bit of a written register: a loaded bit takes the register's load, then 1s written to a clearing bit clear it and
1s written to a setting bit set it (R11). -/
theorem getLsbD_writtenWord (s : State) (reg : Nat) (w : Word) {i : Nat} (hi : i < 32) :
    (writtenWord s reg w).getLsbD i =
      ((if (accMask .rw reg).getLsbD i || (!s.boot.rwlLocked && (accMask .rwl reg).getLsbD i) then (loadRule reg w).getLsbD i
        else (s.rd reg).getLsbD i) && !(w.getLsbD i && (accMask .w1c reg).getLsbD i) ||
        w.getLsbD i && (accMask .w1s reg).getLsbD i) := by
  have lock_bit : (if s.boot.rwlLocked then (0 : Word) else accMask .rwl reg).getLsbD i =
      (!s.boot.rwlLocked && (accMask .rwl reg).getLsbD i) := by
    cases s.boot.rwlLocked <;> simp
  simp only [writtenWord, BitVec.getLsbD_or, BitVec.getLsbD_and, BitVec.getLsbD_not, hi, decide_true, Bool.true_and, lock_bit]
  cases (accMask .rw reg).getLsbD i || (!s.boot.rwlLocked && (accMask .rwl reg).getLsbD i) <;> simp

/-- Settles O20: each access type is one case of the equation for a written bit. -/
theorem writtenBitsFollowAccessType : Obligations.WrittenBitsFollowAccessType := by
  intro s reg w i hi
  rw [getLsbD_writtenWord s reg w hi]
  refine ⟨?rw, ?rwl, ?w1c, ?w1s, ?kept⟩
  case rw => intro rw w1c w1s; simp [rw, w1c, w1s]
  case rwl => intro rwl rw w1c w1s; cases h : s.boot.rwlLocked <;> simp [rwl, rw, w1c, w1s]
  case w1c => intro w1c rw rwl w1s; simp [w1c, rw, rwl, w1s]
  case w1s => intro w1s rw rwl w1c; simp [w1s, rw, rwl, w1c]
  case kept => intro rw rwl w1c w1s; simp [rw, rwl, w1c, w1s]

/-! ### What reset leaves (O58) -/

/-- Every table of the module is empty at reset, and the empty table is canonical. -/
theorem canon_reset : Canon State.reset := ⟨rfl, rfl, rfl, rfl, rfl, rfl, rfl, rfl, rfl, rfl⟩

theorem State.rd_reset (off : Nat) : State.reset.rd off = regDflt off := rfl

/-- Outside the partition window a register's default is the reset value of its row. -/
theorem regDflt_of_ge {off : Nat} (h : 0x100000 ≤ off) : regDflt off = resetWord off := by
  unfold regDflt
  rw [if_neg (by omega), if_neg (by omega), if_neg (by omega)]

/-- At reset no tenant partition holds a field. -/
theorem partMask_reset : ∀ p : Fin 8, 1 ≤ p.val → partMask State.reset p = 0 := by decide +kernel

theorem partFields_reset : partFields State.reset 0 = allFields := by decide +kernel

theorem partState_reset : ∀ p : Fin 8, partState State.reset p = 0 := by decide +kernel

/-- At reset every field is partition 0's. -/
theorem ownerOf_reset (f : Nat) : ownerOf State.reset f = 0 := by
  have none_owns : ∀ p ∈ [1, 2, 3, 4, 5, 6, 7], ¬ (bitOf (partMask State.reset p) f == 1) = true := by
    intro p hp
    have bounds : 1 ≤ p ∧ p < 8 := by simp at hp; omega
    rw [partMask_reset ⟨p, bounds.2⟩ bounds.1]
    simp [bitOf]
  unfold ownerOf
  rw [List.find?_eq_none.mpr none_owns]
  rfl

theorem resetWord_snlStatus {n : Nat} (h : n < 64) : resetWord (R.SNL_STATUS n) = 0 := by
  simp only [resetWord, regRow, R.SNL_STATUS, winOf_port h (show 0 < 0x1000 by decide), Win.rows]
  decide

theorem resetWord_fldStatus {f : Nat} (h : f < 88) : resetWord (R.FLD_STATUS f) = 0 := by
  simp only [resetWord, regRow, R.FLD_STATUS, winOf_field h (show 0 < 0x1000 by decide), Win.rows]
  decide

theorem snlState_reset {n : Nat} (h : n < 64) : State.reset.get (F.SNL_STATUS_STATE n) = 0 := by
  have hr : State.reset.rd (F.SNL_STATUS_STATE n).reg = 0 :=
    (regDflt_of_ge (by simp only [F.SNL_STATUS_STATE, R.SNL_STATUS]; omega)).trans (resetWord_snlStatus h)
  simp [State.get, hr, Word.field]

theorem fldStarted_reset {f : Nat} (h : f < 88) : State.reset.flag (F.FLD_STATUS_STARTED f) = false := by
  have hr : State.reset.rd (F.FLD_STATUS_STARTED f).reg = 0 :=
    (regDflt_of_ge (by simp only [F.FLD_STATUS_STARTED, R.FLD_STATUS]; omega)).trans (resetWord_fldStatus h)
  simp [State.flag, State.get, hr, Word.field]

theorem locked_reset : locked State.reset = false := by decide +kernel

/-- Settles O58: field by field, from the empty tables of the reset state and the reset words of the register rows. -/
theorem resetLeavesTheModule : Obligations.ResetLeavesTheModule :=
  ⟨canon_reset, rfl, rfl, rfl, State.rd_reset, partFields_reset, fun p _ hp => partState_reset ⟨p, hp⟩,
    fun f _ => ownerOf_reset f, fun _ => snlState_reset, fun _ => fldStarted_reset, rfl, locked_reset, rfl, rfl⟩

end Sys2Proof.Machine

/-!
PROOFS. The statement of 01_module_anatomy: results, the update and the state digest (O34). While a group's chunks are applied
an access may be refused or uncorrectable, which quenches the partition (R227, R252); the group's parameters, its registers
and what it holds stay as they were (`KeepsGroups`), so that each chunk is updated under the same ones.
-/
namespace Sys2Proof.Machine

/-! ### Tables that need not be canonical -/

section
variable {α : Type} [DecidableEq α] {d : Nat → α}

/-- A write leaves what every other key reads as, in any table. -/
theorem AMap.get_put_ne (m : AMap α) (k j : Nat) (v : α) (h : j ≠ k) : AMap.get d (AMap.put d m k v) j = AMap.get d m j := by
  induction m with
  | nil => exact AMap.get_cons_other k j v [] h
  | cons e m ih =>
    obtain ⟨i, w⟩ := e
    unfold AMap.put
    split
    · exact AMap.get_cons_other k j v _ h
    · split
      · next _ hk => subst hk; rw [AMap.get_cons_other k j v m h]; simp [AMap.get, h]
      · simp only [AMap.get, ih]

/-- A value that is not the default reads back, in any table. -/
theorem AMap.get_put_of_ne_dflt (m : AMap α) (k : Nat) (v : α) (h : v ≠ d k) : AMap.get d (AMap.put d m k v) k = v := by
  have listed : ∀ l, AMap.get d (AMap.cons d k v l) k = v := fun l => by simp [AMap.cons, h, AMap.get]
  induction m with
  | nil => exact listed []
  | cons e m ih =>
    obtain ⟨i, w⟩ := e
    unfold AMap.put
    split
    · exact listed _
    · split
      · exact listed m
      · next _ hk => simp only [AMap.get, hk, if_false, ih]
end

/-! ### What leaves the parameter groups as they are -/

/-- The registers of the parameter groups and of the learning-rate schedules. -/
def GroupReg (off : Nat) : Prop := 0x200000 ≤ off ∧ off < 0x2c0000 ∧ 0x8100 ≤ off % 0x10000

/-- The registers of the groups read as before, and so do the groups of each Vault that has any. -/
structure KeepsGroups (s t : State) : Prop where
  rd : ∀ off, GroupReg off → t.rd off = s.rd off
  groups : ∀ v, (s.vault v).groups ≠ [] → (t.vault v).groups = (s.vault v).groups

section
variable {a s t : State} (h : KeepsGroups a s)

theorem KeepsGroups.refl (s : State) : KeepsGroups s s := ⟨fun _ _ => rfl, fun _ _ => rfl⟩

include h

/-- Registers and Vaults are all that it speaks of. -/
theorem KeepsGroups.same (hr : t.regs = s.regs) (hv : t.vaults = s.vaults) : KeepsGroups a t :=
  ⟨fun off ho => by unfold State.rd; rw [hr]; exact h.rd off ho,
    fun v hg => by unfold State.vault; rw [hv]; exact h.groups v hg⟩

theorem KeepsGroups.log (l : LogState) : KeepsGroups a { s with log := l } := h.same rfl rfl

theorem KeepsGroups.power (p : PowerState) : KeepsGroups a { s with power := p } := h.same rfl rfl

theorem KeepsGroups.setPart (p : Nat) (d : PartData) : KeepsGroups a (s.setPart p d) := h.same rfl rfl

theorem KeepsGroups.wr {off : Nat} {w : Word} (ho : ¬ GroupReg off) : KeepsGroups a (s.wr off w) :=
  ⟨fun o hr => (AMap.get_put_ne _ _ _ _ (fun e : o = off => ho (e ▸ hr))).trans (h.rd o hr), h.groups⟩

theorem KeepsGroups.set {f : Fld} {v : Nat} (hf : ¬ GroupReg f.reg) : KeepsGroups a (s.set f v) := h.wr hf

theorem KeepsGroups.count {f : Fld} {n : Nat} (hf : ¬ GroupReg f.reg) : KeepsGroups a (s.count f n) := h.set hf

theorem KeepsGroups.ite {p : Prop} [Decidable p] (k : KeepsGroups a t) : KeepsGroups a (if p then s else t) := by
  split
  · exact h
  · exact k

omit h in
theorem KeepsGroups.ite_snd {α : Type} {x y : α × State} {p : Prop} [Decidable p] (hx : KeepsGroups a x.2)
    (hy : KeepsGroups a y.2) : KeepsGroups a (if p then x else y).2 := by
  split
  · exact hx
  · exact hy

omit h in
theorem KeepsGroups.of_snd {α : Type} {x : α × State} {l : α} (e : x = (l, s)) (hx : KeepsGroups a x.2) :
    KeepsGroups a s := by
  subst e; exact hx

theorem KeepsGroups.high {f : Fld} {v : Nat} (hf : ¬ GroupReg f.reg) : KeepsGroups a (s.high f v) := (h.set hf).ite h

/-- A Vault's data changes beside its groups. -/
theorem KeepsGroups.setVault {v : Nat} {d : VaultState} (hd : d.groups = (s.vault v).groups) :
    KeepsGroups a (s.setVault v d) where
  rd := h.rd
  groups k hk := by
    have kept := h.groups k hk
    by_cases e : k = v
    · subst e
      have stored : (s.setVault k d).vault k = d :=
        AMap.get_put_of_ne_dflt _ _ _ (fun none => hk (by rw [← kept, ← hd, none]))
      rw [stored, hd, kept]
    · rw [← kept]
      exact congrArg VaultState.groups (AMap.get_put_ne _ _ _ _ e)

theorem KeepsGroups.foldl {α : Type} {l : List α} {g : State → α → State}
    (k : ∀ t e, e ∈ l → KeepsGroups a t → KeepsGroups a (g t e)) : KeepsGroups a (l.foldl g s) := by
  induction l generalizing s with
  | nil => exact h
  | cons e l ih => exact ih (k s e List.mem_cons_self h) (fun t x hx => k t x (List.mem_cons_of_mem _ hx))

theorem KeepsGroups.forEach {l : List Nat} {g : Nat → State → State}
    (k : ∀ e t, e ∈ l → KeepsGroups a t → KeepsGroups a (g e t)) : KeepsGroups a (s.forEach l g) :=
  h.foldl (fun t e => k e t)
end

/-! Registers that are no group's. -/

theorem not_groupReg_of_lt {off : Nat} (h : off < 0x200000) : ¬ GroupReg off := fun ⟨lo, _, _⟩ => by omega
theorem not_groupReg_of_ge {off : Nat} (h : 0x2c0000 ≤ off) : ¬ GroupReg off := fun ⟨_, hi, _⟩ => by omega
theorem not_groupReg_of_mod {off : Nat} (h : off % 0x10000 < 0x8100) : ¬ GroupReg off := fun ⟨_, _, hm⟩ => by omega

theorem not_groupReg_fldStatus (f : Nat) : ¬ GroupReg (R.FLD_STATUS f) :=
  not_groupReg_of_ge (by unfold R.FLD_STATUS; omega)
theorem not_groupReg_celStatus (f c : Nat) : ¬ GroupReg (R.CEL_STATUS f c) :=
  not_groupReg_of_ge (by unfold R.CEL_STATUS; omega)
theorem not_groupReg_vltMvStatus (f : Nat) : ¬ GroupReg (R.VLT_MV_STATUS f) :=
  not_groupReg_of_ge (by unfold R.VLT_MV_STATUS; omega)
theorem not_groupReg_vltMqStatus (f q : Nat) : ¬ GroupReg (R.VLT_MQ_STATUS f q) :=
  not_groupReg_of_ge (by unfold R.VLT_MQ_STATUS; omega)
theorem not_groupReg_vltCtrl (v : Nat) : ¬ GroupReg (R.VLT_CTRL v) :=
  not_groupReg_of_mod (by unfold R.VLT_CTRL; omega)
theorem not_groupReg_vltCEccCnt (v : Nat) : ¬ GroupReg (R.VLT_C_ECC_CNT v) :=
  not_groupReg_of_mod (by unfold R.VLT_C_ECC_CNT; omega)
theorem not_groupReg_vltCEccErr (v : Nat) : ¬ GroupReg (R.VLT_C_ECC_ERR v) :=
  not_groupReg_of_mod (by unfold R.VLT_C_ECC_ERR; omega)
theorem not_groupReg_vltPStatus (v : Nat) : ¬ GroupReg (R.VLT_P_STATUS v) :=
  not_groupReg_of_mod (by unfold R.VLT_P_STATUS; omega)
theorem not_groupReg_vltCkptStatus (v : Nat) : ¬ GroupReg (R.VLT_CKPT_STATUS v) :=
  not_groupReg_of_mod (by unfold R.VLT_CKPT_STATUS; omega)
theorem not_groupReg_updSkipCnt (v : Nat) : ¬ GroupReg (R.UPD_SKIP_CNT v) :=
  not_groupReg_of_mod (by unfold R.UPD_SKIP_CNT; omega)
theorem not_groupReg_snlDropCnt1 {n : Nat} (h : n < 64) : ¬ GroupReg (R.SNL_DROP_CNT1 n) :=
  not_groupReg_of_lt (by unfold R.SNL_DROP_CNT1; omega)
theorem not_groupReg_prtStatus {p : Nat} (h : p < 8) : ¬ GroupReg (R.PRT_STATUS p) :=
  not_groupReg_of_lt (by unfold R.PRT_STATUS; omega)
theorem not_groupReg_chtCfgStatus {p : Nat} (h : p < 8) : ¬ GroupReg (R.CHT_CFG_STATUS p) :=
  not_groupReg_of_lt (by unfold R.CHT_CFG_STATUS; omega)
theorem not_groupReg_fltPartSum {p : Nat} (h : p < 8) : ¬ GroupReg (R.FLT_PART_SUM p) :=
  not_groupReg_of_lt (by unfold R.FLT_PART_SUM; omega)
theorem not_groupReg_fltCFirst {c : Nat} (h : c < 109) : ¬ GroupReg (R.FLT_C_FIRST c) :=
  not_groupReg_of_lt (by unfold R.FLT_C_FIRST; omega)
theorem not_groupReg_fltCCnt0 {c : Nat} (h : c < 109) : ¬ GroupReg (R.FLT_C_CNT0 c) :=
  not_groupReg_of_lt (by unfold R.FLT_C_CNT0; omega)
theorem not_groupReg_fltCCnt1 {c : Nat} (h : c < 109) : ¬ GroupReg (R.FLT_C_CNT1 c) :=
  not_groupReg_of_lt (by unfold R.FLT_C_CNT1; omega)
theorem not_groupReg_fltCStatus {c : Nat} (h : c < 109) : ¬ GroupReg (R.FLT_C_STATUS c) :=
  not_groupReg_of_lt (by unfold R.FLT_C_STATUS; omega)
theorem not_groupReg_fltLogHead : ¬ GroupReg R.FLT_LOG_HEAD :=
  not_groupReg_of_lt (by decide)
theorem not_groupReg_fltInject : ¬ GroupReg R.FLT_INJECT :=
  not_groupReg_of_lt (by decide)
theorem not_groupReg_pwrBallast : ¬ GroupReg R.PWR_BALLAST :=
  not_groupReg_of_lt (by decide)

/-! ### The record of a fault -/

section
variable {a s : State} (h : KeepsGroups a s)
include h

theorem countEvent_keepsGroups {cls : Nat} {ev : FaultEvent} (hc : ev.collector < 109) (hp : ev.part < 8) :
    KeepsGroups a (countEvent cls ev s) := by
  have cnt0 := not_groupReg_fltCCnt0 hc
  have cnt1 := not_groupReg_fltCCnt1 hc
  have part := not_groupReg_fltPartSum hp
  have status := not_groupReg_fltCStatus hc
  unfold countEvent
  refine KeepsGroups.log ?_ _
  split
  · exact h.count cnt0
  · exact h.count cnt0
  · exact (h.count cnt1).count part
  · exact (h.count cnt1).count part
  · exact h.count status
  · exact h.count status

theorem overflow_keepsGroups : KeepsGroups a (overflow s) := by
  unfold overflow
  split
  · exact h
  · refine KeepsGroups.log (countEvent_keepsGroups h ?_ ?_) _ <;> decide

theorem captureFirst_keepsGroups {cls idx : Nat} {ev : FaultEvent} (hc : ev.collector < 109) :
    KeepsGroups a (captureFirst cls idx ev s) := by
  have first := not_groupReg_fltCFirst hc
  have status := not_groupReg_fltCStatus hc
  have edited : KeepsGroups a (editRecord (s.rd (R.FLT_C_FIRST ev.collector)).toNat (fun r => { r with first := false }) s) :=
    h.log _
  exact h.ite ((h.ite (((edited.ite (h.set status)).wr first).set status)).high status)

theorem State.journal_keepsGroups {r : JournalRec} : KeepsGroups a (s.journal r) := h.setVault rfl

theorem keepInChitin_keepsGroups {r : FaultRec} : KeepsGroups a (keepInChitin r s) :=
  (((h.log _).set not_groupReg_fltInject).log _).ite (h.log _)

theorem shiftFrom_keepsGroups {k : Nat} : KeepsGroups a (shiftFrom k s) := by
  unfold shiftFrom
  refine KeepsGroups.ite h (KeepsGroups.forEach (KeepsGroups.forEach ?journal ?parts) ?firsts)
  case journal =>
    refine KeepsGroups.setVault ?_ rfl
    exact h.same rfl rfl
  case parts => exact fun p t _ ht => ht.same rfl rfl
  case firsts => exact fun c t hc ht => ht.wr (not_groupReg_fltCFirst (List.mem_range.mp hc))

theorem recordFault_keepsGroups {cls : Nat} {ev : FaultEvent} (hc : ev.collector < 109) (hp : ev.part < 8) :
    KeepsGroups a (recordFault cls ev s).2 := by
  have counted := countEvent_keepsGroups (cls := cls) h hc hp
  unfold recordFault
  generalize countEvent cls ev s = c at counted ⊢
  dsimp only
  split
  · exact counted.log _
  · split
    · exact overflow_keepsGroups counted
    · next l _ =>
      have shifted := shiftFrom_keepsGroups (k := placeOf c ev) (counted.log { c.log with recs := l })
      generalize shiftFrom _ _ = u at shifted ⊢
      split
      · refine State.journal_keepsGroups (keepInChitin_keepsGroups
          (KeepsGroups.log (KeepsGroups.wr ?_ not_groupReg_fltLogHead) _))
        exact captureFirst_keepsGroups shifted hc
      · refine KeepsGroups.log (KeepsGroups.wr ?_ not_groupReg_fltLogHead) _
        exact captureFirst_keepsGroups shifted hc

/-! ### The quench of a partition -/

omit h in
/-- A notice goes out on ports that exist. -/
theorem lt_of_mem_noticePorts {p n : Nat} {except : Option Nat} (hn : n ∈ noticePorts s p except) : n < 64 := by
  have all_lt : ∀ g, ∀ n ∈ portGroups.getD g [], n < 64 := by
    intro g
    rw [List.getD_eq_getElem?_getD]
    cases e : portGroups[g]? with
    | none => simp
    | some l =>
      have listed : ∀ l ∈ portGroups, ∀ n ∈ l, n < 64 := by decide
      exact listed l (List.mem_of_getElem? e)
  obtain ⟨g, _, found⟩ := List.mem_filterMap.mp hn
  exact all_lt g n (List.mem_of_find?_eq_some found)

theorem enqueue_keepsGroups {n : Nat} {fr : Frame} (hn : n < 64) : KeepsGroups a (enqueue n fr s) :=
  KeepsGroups.ite (h.count (not_groupReg_snlDropCnt1 hn)) (h.same rfl rfl)

theorem sendNotice_keepsGroups {n : Notice} {except : Option Nat} : KeepsGroups a (sendNotice n except s) :=
  h.forEach (fun _ _ hk ht => enqueue_keepsGroups ht (lt_of_mem_noticePorts hk))

theorem quenchNotice_keepsGroups {p idx : Nat} : KeepsGroups a (quenchNotice p idx s) :=
  KeepsGroups.ite (sendNotice_keepsGroups h) h

theorem haltSeq_keepsGroups (f : Nat) : KeepsGroups a (haltSeq f s) := by
  have status := not_groupReg_fldStatus f
  exact ((((h.set status).set status).set status).set status).set status

theorem stopCells_keepsGroups (f : Nat) : KeepsGroups a (stopCells f s) := by
  refine h.forEach (fun c t _ ht => ?_)
  have status := not_groupReg_celStatus f c
  have stopped : KeepsGroups a (t.setCell f c (abandonCell (t.cell f c))) := ht.same rfl rfl
  exact (((stopped.set status).set status).set status).set status

theorem dropPartials_keepsGroups (f : Nat) : KeepsGroups a (dropPartials f s) := by
  refine KeepsGroups.forEach ?_ (fun c t _ ht => ht.same rfl rfl)
  exact h.same rfl rfl

theorem stopField_keepsGroups (f : Nat) : KeepsGroups a (stopField f s) :=
  dropPartials_keepsGroups (stopCells_keepsGroups (haltSeq_keepsGroups h f) f) f

theorem dropMovers_keepsGroups (f : Nat) : KeepsGroups a (dropMovers f s) := by
  refine KeepsGroups.forEach (KeepsGroups.forEach ?counted (fun q t _ ht => ?queue)) (fun c t _ ht => ht.same rfl rfl)
  case counted => exact (h.count (not_groupReg_vltMvStatus f)).same rfl rfl
  case queue => exact (ht.set (not_groupReg_vltMqStatus f q)).set (not_groupReg_vltMqStatus f q)

theorem haltHosts_keepsGroups (f : Nat) : KeepsGroups a (haltHosts f s) := h.same rfl rfl

theorem loseSteps_keepsGroups (p : Nat) : KeepsGroups a (loseSteps p s) := h.same rfl rfl

theorem stopCkpt_keepsGroups (p : Nat) : KeepsGroups a (stopCkpt p s) := by
  unfold stopCkpt
  refine KeepsGroups.setPart (h.forEach (fun v t _ ht => KeepsGroups.ite ?_ ht)) _ _
  have status := not_groupReg_vltCkptStatus v
  have dropped : KeepsGroups a (t.setVault v { t.vault v with ckpt := none }) := ht.setVault rfl
  exact KeepsGroups.set (KeepsGroups.set (KeepsGroups.set dropped status) status) (not_groupReg_vltPStatus v)

theorem dropPortFrames_keepsGroups (p : Nat) : KeepsGroups a (dropPortFrames p s) := by
  refine h.forEach (fun n t hn ht => KeepsGroups.count ?_ (not_groupReg_snlDropCnt1 (List.mem_range.mp hn)))
  exact ht.same rfl rfl

theorem quenchJobs_keepsGroups (p : Nat) : KeepsGroups a (quenchJobs (some p) s) := h.same rfl rfl

theorem startRamp_keepsGroups {scope slew : Nat} {fs : List Nat} : KeepsGroups a (startRamp scope slew fs s) := by
  refine KeepsGroups.set ?_ not_groupReg_pwrBallast
  exact h.same rfl rfl

theorem quenchPartition_keepsGroups {p slew : Nat} (hp : p < 8) : KeepsGroups a (quenchPartition p slew s) := by
  have config := not_groupReg_chtCfgStatus hp
  have summary := not_groupReg_fltPartSum hp
  have status := not_groupReg_prtStatus hp
  have halted := (loseSteps_keepsGroups h p).forEach (l := partFields (loseSteps p s) p)
    (g := fun f t => haltHosts f (dropMovers f (stopField f t)))
    (fun f t _ ht => haltHosts_keepsGroups (dropMovers_keepsGroups (stopField_keepsGroups ht f) f) f)
  have ended := quenchJobs_keepsGroups (dropPortFrames_keepsGroups (stopCkpt_keepsGroups halted p) p) p
  unfold quenchPartition
  refine KeepsGroups.power (startRamp_keepsGroups ?_) _
  exact KeepsGroups.set (KeepsGroups.set (KeepsGroups.set (ended.setPart _ _) config) summary) status

/-! ### Faults of class 3 -/

theorem failCreate_keepsGroups {p : Nat} : KeepsGroups a (failCreate p s) := h.same rfl rfl

theorem react_keepsGroups {idx slew : Nat} {notice : Bool} {ev : FaultEvent} (hp : ev.part < 8) :
    KeepsGroups a (react 3 idx slew notice ev s) := by
  have quenched := quenchPartition_keepsGroups (slew := slew) h hp
  simp only [react]
  split
  · exact failCreate_keepsGroups h
  · exact h.ite ((quenchNotice_keepsGroups quenched).ite quenched)
  · exact h.ite ((quenchNotice_keepsGroups quenched).ite quenched)
  · exact h

/-- A fault of class 3 leaves the groups as they are: it quenches its partition and no more. -/
theorem raiseFault_keepsGroups {ev : FaultEvent} (hc : ev.collector < 109) (hp : ev.part < 8) (h3 : eventClass ev = 3) :
    KeepsGroups a (raiseFault ev s) := by
  unfold raiseFault
  rw [h3]
  exact react_keepsGroups (recordFault_keepsGroups h hc hp) hp

/-! ### The accesses of an Update Engine -/

variable {v p : Nat} (hv : v < 12) (hp : p < 8)

section
include hv hp

theorem refusalFault_keepsGroups {code addr master : Nat} : KeepsGroups a (refusalFault v p code addr master s) :=
  raiseFault_keepsGroups h (show 88 + v < 109 by omega) hp (by simp only [eventClass]; split <;> rfl)

theorem refusedTierP_keepsGroups {code addr : Nat} : KeepsGroups a (refusedTierP v p code addr s) :=
  raiseFault_keepsGroups h (show 88 + v < 109 by omega) hp (by simp only [eventClass]; split <;> rfl)

theorem ueAccess_keepsGroups {α : Type} {unit u : Nat} {refused : α} {f : State → α × State} (hf : KeepsGroups a (f s).2) :
    KeepsGroups a (ueAccess v unit p u refused f s).2 := by
  unfold ueAccess
  dsimp only
  split
  · exact hf
  · exact refusalFault_keepsGroups h hv hp

theorem ueSpill_keepsGroups {α : Type} {unit : Nat} {refused : α} {f : List Byte → State → α × State}
    (hf : ∀ key, KeepsGroups a (f key s).2) : KeepsGroups a (ueSpill v unit p refused f s).2 := by
  unfold ueSpill
  dsimp only
  split
  · exact hf _
  · exact refusedTierP_keepsGroups h hv hp

theorem tcUncorrectable_keepsGroups {unit master : Nat} : KeepsGroups a (tcUncorrectable v unit p master s) := by
  have err := not_groupReg_vltCEccErr v
  have counted : KeepsGroups a (tcFirst v unit true s) := by
    have once := h.count (f := F.VLT_C_ECC_CNT_UNCORR v) (n := 1) (not_groupReg_vltCEccCnt v)
    exact once.ite (((once.set err).set err).set err)
  have marked : KeepsGroups a (tcMark v unit (tcFirst v unit true s)) := counted.setVault rfl
  exact raiseFault_keepsGroups marked (show 88 + v < 109 by omega) hp rfl

/-- A read without a new correctable error. -/
theorem tcRead_keepsGroups {unit master : Nat} : KeepsGroups a (tcRead v unit p 0 master s).2 := by
  unfold tcRead
  refine KeepsGroups.ite_snd (h.setVault rfl) (KeepsGroups.ite_snd ?_ ?_)
  · show KeepsGroups a (tcUncorrectable v unit p master s)
    exact tcUncorrectable_keepsGroups h hv hp
  · rw [if_neg Nat.zero_ne_one]
    exact h

theorem unitCodes_keepsGroups {unit u : Nat} : KeepsGroups a (unitCodes v unit p u s).2 :=
  ueAccess_keepsGroups h hv hp (tcRead_keepsGroups h hv hp)

theorem momentBytes_keepsGroups {unit u : Nat} : KeepsGroups a (momentBytes v unit p u s).2 := by
  unfold momentBytes
  split
  · exact ueSpill_keepsGroups h hv hp (fun _ => h)
  · exact ueAccess_keepsGroups h hv hp (tcRead_keepsGroups h hv hp)

theorem momentCodes_keepsGroups {unit u : Nat} : KeepsGroups a (momentCodes v unit p u s).2 := momentBytes_keepsGroups h hv hp
end

theorem tcWrite_keepsGroups {unit : Nat} {l : List PWord} : KeepsGroups a (tcWrite v unit p l s) := by
  unfold tcWrite tcStore
  dsimp only
  split
  · exact (h.set (not_groupReg_vltCtrl v)).setVault rfl
  · exact h.setVault rfl

include hv hp in
theorem storeCodes_keepsGroups {unit u : Nat} {l : List Nat} : KeepsGroups a (storeCodes v unit p u l s) :=
  ueAccess_keepsGroups h hv hp (tcWrite_keepsGroups h)

include hv hp in
theorem storeMoments_keepsGroups {unit u : Nat} {l : List Byte} : KeepsGroups a (storeMoments v unit p u l s) := by
  unfold storeMoments
  split
  · exact ueSpill_keepsGroups h hv hp (fun _ => h.setVault rfl)
  · exact ueAccess_keepsGroups h hv hp (tcWrite_keepsGroups h)

/-! ### The update of a chunk -/

theorem countSkipped_keepsGroups (n : Nat) : KeepsGroups a (countSkipped v n s) := by
  refine KeepsGroups.count ?_ (not_groupReg_updSkipCnt v)
  exact h.setVault rfl

omit h in
theorem grpPart_lt (s : State) (v g : Nat) : grpPart s v g < 8 := BitVec.isLt _

include hv in
theorem updUnit_keepsGroups {g i : Nat} {o : OptPars} {gs : List Nat} {vs : List Num} :
    KeepsGroups a (updUnit v g i o gs vs s) := by
  have hp := grpPart_lt s v g
  unfold updUnit
  extract_lets p opt u hiU loU mU vU
  split
  next hi b1 s1 e1 =>
  have h1 : KeepsGroups a s1 := .of_snd e1 (unitCodes_keepsGroups h hv hp)
  split
  next lo b2 s2 e2 =>
  have h2 : KeepsGroups a s2 := .of_snd e2 (unitCodes_keepsGroups h1 hv hp)
  split
  next m b3 s3 e3 =>
  have h3 : KeepsGroups a s3 := .of_snd e3 (momentCodes_keepsGroups h2 hv hp)
  split
  next vv b4 s4 e4 =>
  have h4 : KeepsGroups a s4 := .of_snd e4 (KeepsGroups.ite_snd (momentCodes_keepsGroups h3 hv hp) h3)
  refine KeepsGroups.ite h4 ?_
  extract_lets r sHi sLo sM sV
  have hHi : KeepsGroups a sHi := storeCodes_keepsGroups h4 hv hp
  have hLo : KeepsGroups a sLo := storeCodes_keepsGroups hHi hv hp
  have hM : KeepsGroups a sM := storeMoments_keepsGroups hLo hv hp
  have hV : KeepsGroups a sV := KeepsGroups.ite (storeMoments_keepsGroups hM hv hp) hM
  exact hV.ite (countSkipped_keepsGroups hV _)

include hv in
theorem updChunk_keepsGroups {g j : Nat} {o : OptPars} {codes : Option (List Nat)} :
    KeepsGroups a (updChunk v g j o codes s) := by
  unfold updChunk
  refine h.forEach (fun k t _ ht => ?_)
  split
  · exact updUnit_keepsGroups ht hv
  · have read := unitCodes_keepsGroups (unit := t.get (F.UPD_G_GBUF_UNIT v g) + (j * (grpE s v g / 128) + k))
      (u := ueOf (grpE t v g) k) ht hv (grpPart_lt t v g)
    exact KeepsGroups.ite read (updUnit_keepsGroups read hv)
end

/-! ### The parameters of a group's step (R280) -/

section
variable {s t : State} {v g : Nat}

theorem KeepsGroups.get (h : KeepsGroups s t) {f : Fld} (hf : GroupReg f.reg) : t.get f = s.get f := by
  unfold State.get; rw [h.rd _ hf]

/-- The register of a group at `k` bytes from its first. -/
theorem groupReg_updG (hv : v < 12) (hg : g < 16) {k : Nat} (hk : k < 64) :
    GroupReg (0x200000 + 0x10000 * v + (0x8100 + k) + 64 * g) := by
  unfold GroupReg; omega

theorem groupReg_updLrStep (hv : v < 12) {i : Nat} (hi : i ≤ 64) : GroupReg (R.UPD_LR_STEP v i) := by
  unfold GroupReg R.UPD_LR_STEP; omega

theorem groupReg_updLrVal (hv : v < 12) {i : Nat} (hi : i ≤ 64) : GroupReg (R.UPD_LR_VAL v i) := by
  unfold GroupReg R.UPD_LR_VAL; omega

theorem KeepsGroups.lrStep (h : KeepsGroups s t) (hv : v < 12) {i : Nat} (hi : i ≤ 64) :
    t.get (F.UPD_LR_STEP_STEP v i) = s.get (F.UPD_LR_STEP_STEP v i) :=
  h.get (groupReg_updLrStep hv hi)

theorem KeepsGroups.lrMode (h : KeepsGroups s t) (hv : v < 12) {i : Nat} (hi : i ≤ 64) :
    t.flag (F.UPD_LR_STEP_MODE v i) = s.flag (F.UPD_LR_STEP_MODE v i) :=
  congrArg (· == 1) (h.get (groupReg_updLrStep hv hi))

theorem KeepsGroups.lrVal (h : KeepsGroups s t) (hv : v < 12) {i : Nat} (hi : i ≤ 64) :
    t.get (F.UPD_LR_VAL_LR v i) = s.get (F.UPD_LR_VAL_LR v i) :=
  h.get (groupReg_updLrVal hv hi)

theorem KeepsGroups.groupD (h : KeepsGroups s t) (has : (s.vault v).groups ≠ []) : groupD t v g = groupD s v g := by
  unfold Machine.groupD; rw [h.groups v has]

theorem lrSegment_eq (h : KeepsGroups s t) (hv : v < 12) {i : Nat} (hi : i < 64) (n : Nat) :
    lrSegment t v i n = lrSegment s v i n := by
  simp only [lrSegment, h.lrMode hv (Nat.le_of_lt hi), h.lrStep hv (Nat.le_of_lt hi), h.lrStep hv (Nat.succ_le_of_lt hi),
    h.lrVal hv (Nat.le_of_lt hi), h.lrVal hv (Nat.succ_le_of_lt hi)]

/-- The last breakpoint passed lies between the first and the last of the group's schedule. -/
theorem getLastD_range'_lt {x y : Nat} (q : Nat → Bool) (hx : x < 64) (hy : y < 64) :
    ((List.range' x (y - x)).filter q).getLastD x < 64 := by
  rcases List.mem_cons.mp (List.getLastD_mem_cons (l := (List.range' x (y - x)).filter q) (a := x)) with same | mem
  · rw [same]; exact hx
  · have := List.mem_range'_1.mp (List.mem_filter.mp mem).1
    omega

theorem lrOf_eq (h : KeepsGroups s t) (hv : v < 12) (hg : g < 16) (n : Nat) : lrOf t v g n = lrOf s v g n := by
  have cfg : GroupReg (R.UPD_G_CFG v g) := groupReg_updG hv hg (k := 0) (by decide)
  have first := h.get (f := F.UPD_G_CFG_LR_FIRST v g) cfg
  have last := h.get (f := F.UPD_G_CFG_LR_LAST v g) cfg
  have first_lt : s.get (F.UPD_G_CFG_LR_FIRST v g) < 64 := BitVec.isLt _
  have last_lt : s.get (F.UPD_G_CFG_LR_LAST v g) < 64 := BitVec.isLt _
  simp only [lrOf, first, last]
  generalize s.get (F.UPD_G_CFG_LR_FIRST v g) = x at first_lt ⊢
  generalize s.get (F.UPD_G_CFG_LR_LAST v g) = y at last_lt ⊢
  have passed : (List.range' x (y - x)).filter (fun i => decide (t.get (F.UPD_LR_STEP_STEP v i) ≤ n))
      = (List.range' x (y - x)).filter (fun i => decide (s.get (F.UPD_LR_STEP_STEP v i) ≤ n)) :=
    List.filter_congr (fun i hi => by rw [h.lrStep hv (by have := List.mem_range'_1.mp hi; omega)])
  rw [passed, h.lrStep hv first_lt.le, h.lrStep hv last_lt.le, h.lrVal hv first_lt.le, h.lrVal hv last_lt.le,
    lrSegment_eq h hv (getLastD_range'_lt _ first_lt last_lt)]

/-- The parameters of a group's step are read from what the relation keeps. -/
theorem optPars_eq (h : KeepsGroups s t) (hv : v < 12) (hg : g < 16) (has : (s.vault v).groups ≠ []) :
    optPars t v g = optPars s v g := by
  have reg : ∀ k < 64, GroupReg (0x200000 + 0x10000 * v + (0x8100 + k) + 64 * g) := fun k hk => groupReg_updG hv hg hk
  have step := h.get (f := F.UPD_G_STEP_STEP v g) (reg 0x34 (by decide))
  have beta1 := h.get (f := F.UPD_G_BETA1_VALUE v g) (reg 0x24 (by decide))
  have beta2 := h.get (f := F.UPD_G_BETA2_VALUE v g) (reg 0x28 (by decide))
  have eps := h.get (f := F.UPD_G_EPS_VALUE v g) (reg 0x2c (by decide))
  have wd := h.get (f := F.UPD_G_WD_VALUE v g) (reg 0x30 (by decide))
  have p1 := h.get (f := F.UPD_G_P1_VALUE v g) (reg 0x38 (by decide))
  have p2 := h.get (f := F.UPD_G_P2_VALUE v g) (reg 0x3c (by decide))
  have nesterov : t.flag (F.UPD_G_CFG_NESTEROV v g) = s.flag (F.UPD_G_CFG_NESTEROV v g) := by
    unfold State.flag; rw [h.get (f := F.UPD_G_CFG_NESTEROV v g) (reg 0 (by decide))]
  simp only [optPars, step, beta1, beta2, eps, wd, p1, p2, nesterov, h.groupD has, lrOf_eq h hv hg]

/-- A chunk that a group has received and not applied is applied: an EMPTY one is counted and no more (R277, R284). -/
def applyChunk (v g : Nat) (o : OptPars) (s : State) (x : Nat × List Nat × Bool) : State :=
  if x.2.2 then countSkipped v (grpE s v g) s else updChunk v g x.1 o (some x.2.1) s

theorem applyChunk_keepsGroups {a : State} (h : KeepsGroups a s) (hv : v < 12) (o : OptPars) (x : Nat × List Nat × Bool) :
    KeepsGroups a (applyChunk v g o s x) := (countSkipped_keepsGroups h _).ite (updChunk_keepsGroups h hv)

/-- The parameters stay what they are while a group's chunks are applied, so it does not matter when they are read. -/
theorem foldl_applyChunk (h : KeepsGroups s t) (hv : v < 12) (hg : g < 16) (has : (s.vault v).groups ≠ [])
    (l : List (Nat × List Nat × Bool)) :
    l.foldl (fun u x => applyChunk v g (optPars u v g) u x) t = l.foldl (applyChunk v g (optPars s v g)) t := by
  induction l generalizing t with
  | nil => rw [List.foldl_nil, List.foldl_nil]
  | cons x l ih =>
    simp only [List.foldl_cons, optPars_eq h hv hg has]
    exact ih (applyChunk_keepsGroups h hv _ x)

/-- A Vault without groups holds no chunk of any. -/
theorem readyChunks_of_no_groups (none : (s.vault v).groups = []) : readyChunks (groupD s v g) = [] := by
  simp [groupD, none, AMap.get, readyChunks]

/-- Chunk by chunk a group is updated under the parameters its update began with. -/
theorem foldl_readyChunks (s : State) (hv : v < 12) (hg : g < 16) :
    (readyChunks (groupD s v g)).foldl (fun u x => applyChunk v g (optPars u v g) u x) s
      = (readyChunks (groupD s v g)).foldl (applyChunk v g (optPars s v g)) s := by
  by_cases has : (s.vault v).groups = []
  · rw [readyChunks_of_no_groups has, List.foldl_nil, List.foldl_nil]
  · exact foldl_applyChunk (.refl s) hv hg has _
end

/-! ### Results (R36, R277, R283, R284) -/

section
variable {s t : State} {v : Nat} {m : ResultMsg}

/-- The result at the head of the queue is the first free one where it does not wait. -/
theorem firstFree_cons {held : ResultMsg → Bool} (rest : List ResultMsg) (free : held m = false) :
    firstFree held (m :: rest) [] = some m := by simp [firstFree, free]

theorem resultDelivery_none (h : firstFree (resultHeld s v) (s.vault v).inbox [] = none) : resultDelivery v s = s := by
  simp only [resultDelivery, h]

/-- What becomes of the first result that does not wait, once it has left the queue. -/
theorem resultDelivery_some (h : firstFree (resultHeld s v) (s.vault v).inbox [] = some m)
    (ht : t = s.setVault v { s.vault v with inbox := (s.vault v).inbox.erase m }) :
    resultDelivery v s =
      if moduleQuenched s || partState s m.part == 4 then t
      else if m.scalar then (if v = 0 then normResult m t else t)
      else (takerOf t v m).elim t (fun x => if resultOver t v x.1 m.part then t else takeResult v x.1 x.2 m t) := by
  subst ht
  simp only [resultDelivery, h]
  rcases takerOf _ v m with _ | ⟨g, j⟩ <;> rfl

theorem resultDelivery_quenched (h : firstFree (resultHeld s v) (s.vault v).inbox [] = some m)
    (ht : t = s.setVault v { s.vault v with inbox := (s.vault v).inbox.erase m })
    (quenched : moduleQuenched s = true ∨ partState s m.part = 4) : resultDelivery v s = t := by
  rw [resultDelivery_some h ht, if_pos (by simpa using quenched)]

theorem resultDelivery_scalar (h : firstFree (resultHeld s v) (s.vault v).inbox [] = some m)
    (ht : t = s.setVault v { s.vault v with inbox := (s.vault v).inbox.erase m }) (running : moduleQuenched s = false)
    (unquenched : partState s m.part ≠ 4) (scalar : m.scalar = true) :
    resultDelivery v s = if v = 0 then normResult m t else t := by
  simp only [resultDelivery_some h ht, running, beq_eq_false_iff_ne.mpr unquenched, scalar, Bool.or_self, Bool.false_eq_true,
    if_false, if_true]

/-- A chunk's result of a partition that is not quenched: what its group makes of it. -/
theorem resultDelivery_chunk (h : firstFree (resultHeld s v) (s.vault v).inbox [] = some m)
    (ht : t = s.setVault v { s.vault v with inbox := (s.vault v).inbox.erase m }) (running : moduleQuenched s = false)
    (unquenched : partState s m.part ≠ 4) (chunk : m.scalar = false) :
    (takerOf t v m = none → resultDelivery v s = t) ∧
    (∀ g j, takerOf t v m = some (g, j) →
      (resultOver t v g m.part = false → resultDelivery v s = takeResult v g j m t) ∧
      (resultOver t v g m.part = true → resultDelivery v s = t)) := by
  rw [resultDelivery_some h ht]
  simp only [running, beq_eq_false_iff_ne.mpr unquenched, chunk, Bool.or_self, Bool.false_eq_true, if_false]
  refine ⟨fun none => by rw [none, Option.elim_none], fun g j taker => ⟨fun unfinished => ?_, fun finished => ?_⟩⟩
  · simp only [taker, Option.elim_some, unfinished, Bool.false_eq_true, if_false]
  · simp only [taker, Option.elim_some, finished, if_true]
end

/-! ### A group's update (R280, R281) -/

section
variable {s t : State} {v g : Nat}

theorem groupUpdate_idle (h : grpActs s v g = false) : groupUpdate v g s = s := by
  unfold groupUpdate; rw [h]; rfl

/-- A group that updates as its chunks come (R277). -/
theorem groupUpdate_direct (hv : v < 12) (hg : g < 16) (acts : grpActs s v g = true) (opt : grpOpt s v g ≠ 3)
    (direct : usesGbuf s v g = false)
    (ht : t = setGroup v g { groupD s v g with done := (groupD s v g).got.map (·.1) }
      ((readyChunks (groupD s v g)).foldl (fun u x => applyChunk v g (optPars u v g) u x) s)) :
    groupUpdate v g s = if grpChunks s v g ≤ (groupD s v g).got.length then finishGroup v g (optPars s v g) t else t := by
  rw [foldl_readyChunks s hv hg] at ht
  subst ht
  unfold groupUpdate
  simp only [acts, opt, direct, Bool.not_true, Bool.false_eq_true, if_false, decide_eq_true_eq]
  rfl

/-- A group that updates from GBUF waits for its last chunk, and for the clip factor where it is clipped (R281, R283). -/
theorem groupUpdate_waits (acts : grpActs s v g = true) (opt : grpOpt s v g ≠ 3) (gbuf : usesGbuf s v g = true)
    (waits : (groupD s v g).got.length < grpChunks s v g ∨ (clipped s v g = true ∧ (groupD s v g).factor = none)) :
    groupUpdate v g s = s := by
  have cond : (!decide (grpChunks s v g ≤ (groupD s v g).got.length)
      || (clipped s v g && (groupD s v g).factor.isNone)) = true := by
    simpa using waits
  simp only [groupUpdate, acts, opt, gbuf, cond, Bool.not_true, Bool.false_eq_true, if_false, if_true]

/-- With every chunk in GBUF, and the factor known where it is clipped, the group updates at once. -/
theorem groupUpdate_buffered (acts : grpActs s v g = true) (opt : grpOpt s v g ≠ 3) (gbuf : usesGbuf s v g = true)
    (all : grpChunks s v g ≤ (groupD s v g).got.length) (known : clipped s v g = false ∨ (groupD s v g).factor ≠ none) :
    groupUpdate v g s = if grpOpt s v g = 2 then finishGroup v g (optPars s v g) (updFactored v g (optPars s v g) s)
      else finishGroup v g (optPars s v g)
        (s.forEach (List.range (grpChunks s v g)) (fun j t => updChunk v g j (optPars s v g) none t)) := by
  have cond : (!decide (grpChunks s v g ≤ (groupD s v g).got.length)
      || (clipped s v g && (groupD s v g).factor.isNone)) = false := by
    rcases known with unclipped | factor
    · simp [all, unclipped]
    · simp [all, Option.isNone_eq_false_iff.mpr (Option.isSome_iff_ne_none.mpr factor)]
  simp only [groupUpdate, acts, opt, gbuf, cond, Bool.not_true, Bool.false_eq_true, if_false, if_true]
end

/-! ### The clip factor (R283, R284) -/

section
variable {s t : State} {p q n : Nat}

theorem clipPhase2_none (h : (s.vault 0).normTotal.find? (fun e => e.1 == p) = none) : clipPhase2 p s = s := by
  simp only [clipPhase2, h]

/-- A total `n` is shown, then the step is skipped or the factor goes to the groups that wait for it. -/
theorem clipPhase2_some (h : (s.vault 0).normTotal.find? (fun e => e.1 == p) = some (q, n))
    (ht : t = (s.setVault 0 { s.vault 0 with normTotal := (s.vault 0).normTotal.filter (fun e => e.1 != p) }).forEach
      (List.range 12) (fun v u => u.wr (R.UPD_NORM_SQ v) (BitVec.ofNat 32 n))) :
    clipPhase2 p s = if !(decodeNum 7 n).isFin then skipStep p t else
      (t.forEach (totalVaults t p) (fun v t => t.set (F.UPD_STATUS_NONFINITE v) 0)).forEach (List.range 12) (fun v u =>
        showPhases v ((u.wr (R.UPD_CLIP v) (BitVec.ofNat 32 (clipFactor n (t.get (F.UPD_CLIP_MAX_MAX 0 p))))).forEach
          ((clippedGroups u v p).filter (updating u v))
          (fun g w => setGroup v g { groupD w v g with factor := some (clipFactor n (t.get (F.UPD_CLIP_MAX_MAX 0 p))) } w))) := by
  subst ht
  simp only [clipPhase2, h]
end

/-! ### State digests (R276, R489) -/

section
variable {s t : State} {p : Nat} {base : Fet}

theorem stateDigest_idle (h : p = 0 ∨ digestStep s p = none) : stateDigest p s = s := by
  unfold stateDigest
  rcases h with zero | none
  · subst zero; split <;> rfl
  · simp only [none]

/-- A digest is formed of a step later than the last one digested, once every group has finished its update of it. -/
theorem digestStep_due (h : digestStep s p = some base) :
    (s.part p).digestBase < base ∧ ∃ k ∈ (s.part p).steps, k.base = base ∧ stepUpdated s p k = true := by
  unfold digestStep at h
  split at h
  · exact absurd h (by simp)
  · obtain ⟨k, found, rfl⟩ := Option.map_eq_some_iff.mp h
    have due := List.find?_some found
    simp only [Bool.and_eq_true, decide_eq_true_eq] at due
    exact ⟨due.1, k, List.mem_of_find?_eq_some found, rfl, due.2⟩

/-- A digest of the step digested last is compared, of an older one dropped, of a later one held. -/
theorem stateDigestReceive_delivered {n : Nat} {fr : Frame} (h : Delivered n fr s t) (cls : fr.cls = 6)
    (kind : leAt fr.payload 0 1 = 2) :
    stateDigestReceive n fr s =
      if (t.part fr.part).digestBase = leAt fr.payload 8 8 ∧ leAt fr.payload 8 8 ≠ 0 then
        digestCompare fr.part (fr.src / 8) (leAt fr.payload 8 8) ((fr.payload.drop 16).take 32) t
      else if leAt fr.payload 8 8 ≤ (t.part fr.part).digestBase then t
      else t.setPart fr.part { t.part fr.part with
        peerDigest := (t.part fr.part).peerDigest ++ [(leAt fr.payload 8 8, fr.src / 8, (fr.payload.drop 16).take 32)] } := by
  unfold stateDigestReceive
  rw [receiveFrame_delivered h, if_pos (by rw [cls, kind]; rfl)]

theorem digestTimeout_due (h : digestMissing s p = true) (later : (s.part p).digestBase < (s.part p).stepBase)
    (passed : (s.part p).digestAt + ((s.part p).stepBase - (s.part p).digestBase) ≤ s.fet) :
    digestTimeout p s = noteAt 5 p 88 13 0 (s.setPart p { s.part p with digestGot := (s.part p).digestBase }) := by
  simp only [digestTimeout, h, later, passed, decide_true, Bool.and_self, if_true]

theorem digestTimeout_idle (h : digestMissing s p = false ∨ (s.part p).stepBase ≤ (s.part p).digestBase ∨
    s.fet < (s.part p).digestAt + ((s.part p).stepBase - (s.part p).digestBase)) : digestTimeout p s = s := by
  unfold digestTimeout
  rw [if_neg]
  intro due
  simp only [Bool.and_eq_true, decide_eq_true_eq] at due
  obtain ⟨⟨missing, later⟩, passed⟩ := due
  rcases h with got | same | early
  · exact absurd missing (by simp [got])
  · exact absurd later (Nat.not_lt.mpr same)
  · exact absurd passed (Nat.not_le.mpr early)
end

/-- Settles O34: the equations above, command by command. -/
theorem resultsAreAppliedAndDigested : Obligations.ResultsAreAppliedAndDigested := by
  unfold Obligations.ResultsAreAppliedAndDigested
  intro s
  refine ⟨?noResult, ?head, ?result, ?idle, ?update, ?noTotal, ?total, ?noDigest, ?due, ?digest, ?receive, ?timeout⟩
  case noResult => exact fun v none => congrArg _ (resultDelivery_none none)
  case head => exact fun v m rest inbox free => inbox ▸ firstFree_cons rest free
  case result =>
    intro v m t first ht
    refine ⟨fun quenched => congrArg _ (resultDelivery_quenched first ht quenched),
      fun running unquenched => ⟨?_, ?_, ?_⟩⟩
    · exact fun scalar => congrArg _ (resultDelivery_scalar first ht running unquenched scalar)
    · exact fun chunk none => congrArg _ ((resultDelivery_chunk first ht running unquenched chunk).1 none)
    · intro g j chunk taker
      obtain ⟨unfinished, finished⟩ := (resultDelivery_chunk first ht running unquenched chunk).2 g j taker
      exact ⟨fun h => congrArg _ (unfinished h), fun h => congrArg _ (finished h)⟩
  case idle => exact fun v g idle => congrArg _ (groupUpdate_idle idle)
  case update =>
    intro v g acts opt
    refine ⟨fun t direct ht => congrArg _ (groupUpdate_direct v.isLt g.isLt acts opt direct ht),
      fun gbuf waits => congrArg _ (groupUpdate_waits acts opt gbuf waits), fun gbuf all known => ?_⟩
    have updates := groupUpdate_buffered acts opt gbuf all known
    exact ⟨fun factored => congrArg _ (updates.trans (if_pos factored)),
      fun plain => congrArg _ (updates.trans (if_neg plain))⟩
  case noTotal => exact fun p none => congrArg _ (clipPhase2_none none)
  case total =>
    intro p q n t total ht
    have effect := clipPhase2_some total ht
    exact ⟨fun inf => congrArg _ (effect.trans (if_pos (by rw [inf]; rfl))),
      fun fin => congrArg _ (effect.trans (if_neg (by rw [fin]; simp)))⟩
  case noDigest => exact fun p idle => congrArg _ (stateDigest_idle idle)
  case due => exact fun p base due => digestStep_due due
  case digest =>
    intro p base inj l body t t' m u v tenant due hinj hl ht ht' hm hu hbody hv
    subst hinj hl ht ht' hm hu hbody hv
    refine congrArg Host.Outcome.next ?_
    unfold stateDigest
    rw [due]
    exact if_neg tenant
  case receive =>
    intro n fr t delivered cls kind
    have effect := stateDigestReceive_delivered delivered cls kind
    refine ⟨fun same nonzero => congrArg _ (effect.trans (if_pos ⟨same, nonzero⟩)), fun old => congrArg _ (effect.trans ?_),
      fun later => congrArg _ (effect.trans ?_)⟩
    · rw [if_neg (fun same => Nat.ne_of_gt old same.1), if_pos (Nat.le_of_lt old)]
    · rw [if_neg (fun same => Nat.ne_of_lt later same.1), if_neg (Nat.not_le.mpr later)]
  case timeout =>
    intro p
    constructor
    · intro en nonzero missing later passed
      exact congrArg _ (digestTimeout_due (by simp [digestMissing, en, nonzero, missing]) later passed)
    · intro idle
      refine congrArg _ (digestTimeout_idle ?_)
      rcases idle with off | zero | got | rest
      · exact .inl (by simp [digestMissing, off])
      · exact .inl (by simp [digestMissing, zero])
      · exact .inl (by simp [digestMissing, got])
      · exact .inr rest

end Sys2Proof.Machine

/-!
PROOFS. The statements of 02_fabric_time: the step of the module (O54), the step commands (O4), the control registers (O16),
references and the disciplining loop (O21), Cicada frames and operating points (O22), step boundaries and commits (O25). For
each command an equation says what its update comes to where its conditions hold; the statements are read off these.
-/
namespace Sys2Proof.Machine

/-! ### A step and a tick (O54) -/

/-- Settles O54, by cases on the queue of waiting commands and on the power of the module. -/
theorem stepRunsFrontCommand : Obligations.StepRunsFrontCommand := by
  unfold Obligations.StepRunsFrontCommand
  intro s
  refine ⟨fun c rest waits => ?_, fun idle powered => ?_, fun idle off => ?_⟩
  · simp only [step, waits]
  · simp only [step, idle, tick, powered, if_true]
  · simp only [step, idle, tick, off, Bool.false_eq_true, if_false]

/-! ### STEP_ARM and STEP_COMMIT (O4) -/

section
variable {r : Request} {s t : State}

theorem stepArmOp_busy_false (part : partBusy r t = false) (valid : fetInvalid t = false)
    (room : (t.part (reqPart r)).armed.length < 4) : (stepArmOp r).busy t = false := by
  simp only [stepArmOp, part, valid, decide_eq_false (Nat.not_le.mpr room), Bool.or_self]

theorem stepArmOp_busy_full (full : 4 ≤ (t.part (reqPart r)).armed.length) : (stepArmOp r).busy t = true := by
  simp only [stepArmOp, decide_eq_true full, Bool.or_true]

theorem stepCommitOp_busy_false (part : partBusy r t = false) (valid : fetInvalid t = false) :
    (stepCommitOp r).busy t = false := by
  simp only [stepCommitOp, part, valid, Bool.or_self]

/-- A boundary far enough ahead and later than every armed one is armed (R389). -/
theorem stepArm_arms (ahead : tooSoon t (pLe r 0 8) = false)
    (later : (t.part (reqPart r)).armed.any (fun a => decide (pBoundary r 0 ≤ a)) = false) :
    stepArm r t = .done stOk [] (t.setPart (reqPart r)
      { t.part (reqPart r) with armed := (t.part (reqPart r)).armed ++ [pBoundary r 0] }) := by
  simp only [stepArm, ahead, later, Bool.or_self, Bool.false_eq_true, if_false]

theorem stepArm_refused (h : tooSoon t (pLe r 0 8) = true ∨
    (t.part (reqPart r)).armed.any (fun a => decide (pBoundary r 0 ≤ a)) = true) :
    stepArm r t = .done stBadParam [] t := by
  unfold stepArm
  exact if_pos (Bool.or_eq_true_iff.mpr h)

/-- A boundary neither armed nor begun names no step (R390). -/
theorem stepCommit_unknown (unarmed : (t.part (reqPart r)).armed.contains (pBoundary r 0) = false)
    (unbegun : (t.part (reqPart r)).steps.any (fun k => k.base == pBoundary r 0) = false) :
    stepCommit r t = .done stBadParam [] t := by
  simp only [stepCommit, unarmed, unbegun, Bool.not_false, Bool.and_self, if_true]

/-- The step of a boundary armed or begun: its result where it is committed, QUENCHED where it was given up, else it is
waited for (R390). -/
theorem stepCommit_known (known : (t.part (reqPart r)).armed.contains (pBoundary r 0) = true ∨
    (t.part (reqPart r)).steps.any (fun k => k.base == pBoundary r 0) = true) :
    stepCommit r t = if stepCommitted t (reqPart r) (pBoundary r 0) then
        .decided (.stepCommit (reqPart r) (pBoundary r 0)) stOk (commitResult t (reqPart r) (pBoundary r 0)) t
      else if (t.part (reqPart r)).steps.any (fun k => k.base == pBoundary r 0 && k.lost) then
        .decided (.stepCommit (reqPart r) (pBoundary r 0)) stQuenched [] t
      else .later (.stepCommit (reqPart r) (pBoundary r 0)) t := by
  refine if_neg ?_
  rcases known with armed | begun
  · rw [armed]; exact Bool.false_ne_true
  · rw [begun, Bool.not_true, Bool.and_false]; exact Bool.false_ne_true

theorem stepArmOp_body (r : Request) (t : State) : (stepArmOp r).body t = stepArm r t := by simp only [stepArmOp]

/-- STEP_ARM whose turn it is and that finds nothing busy puts its answer into effect. -/
theorem exec_stepArm (h : ToScarab 0x28 (short r 8) r s) (part : partBusy r (readIn r s) = false)
    (valid : fetInvalid (readIn r s) = false) (room : ((readIn r s).part (reqPart r)).armed.length < 4) :
    exec (.stepArm r) s = .next (conclude 0x28 r (advance r.src r.seq) (readIn r s) (stepArm r (readIn r s))) :=
  toScarab_next (i := .stepArm r) (o := stepArmOp r) h (stepArmOp_busy_false part valid room) nofun
    (congrArg (conclude 0x28 r _ _) (stepArmOp_body r _))

/-- The same of STEP_COMMIT, with room for one more command in progress. -/
theorem exec_stepCommit (h : ToScarab 0x29 (short r 8) r s) (part : partBusy r (readIn r s) = false)
    (valid : fetInvalid (readIn r s) = false) (room : inflight (readIn r s) r.src < 64) :
    exec (.stepCommit r) s = .next (conclude 0x29 r (advance r.src r.seq) (readIn r s) (stepCommit r (readIn r s))) :=
  toScarab_next (o := stepCommitOp r) h (stepCommitOp_busy_false part valid) (fun _ => room) rfl
end

/-- Settles O4: each opcode's own checks decide its answer, and the command protocol puts the answer into effect. -/
theorem stepOpcodesTakeEffect : Obligations.StepOpcodesTakeEffect := by
  unfold Obligations.StepOpcodesTakeEffect
  intro r s
  refine ⟨?arm, ?full, ?unknown, ?known⟩
  case arm =>
    intro h part valid room
    rw [exec_stepArm h part valid room]
    exact ⟨fun ahead later => by rw [stepArm_arms ahead later]; rfl, fun refused => by rw [stepArm_refused refused]; rfl⟩
  case full =>
    intro h _ _ full
    have busy : (stepArmOp r).busy (readIn r s) = true := stepArmOp_busy_full full
    exact congrArg Host.Outcome.next (scarab_busy (o := stepArmOp r) h.toScarabTurn h.checks (by rw [busy, Bool.or_true]))
  case unknown =>
    intro h part valid room unarmed unbegun
    rw [exec_stepCommit h part valid room, stepCommit_unknown unarmed unbegun]
    rfl
  case known =>
    intro h part valid room known
    rw [exec_stepCommit h part valid room, stepCommit_known known]
    exact ⟨fun committed => by rw [if_pos committed]; rfl,
      fun uncommitted lost => by rw [if_neg (by rw [uncommitted]; exact Bool.false_ne_true), if_pos lost]; rfl,
      fun uncommitted kept => by
        rw [if_neg (by rw [uncommitted]; exact Bool.false_ne_true), if_neg (by rw [kept]; exact Bool.false_ne_true)]; rfl⟩

/-! ### Writes of the control registers (R54, R404, R432, R433, R444, R496, R507) -/

section
variable {via : Path} {reg : Nat} {w : Word} {s t : State}

/-- An aligned word on a path that carries it reaches the register placed at its offset. -/
theorem busWrite_arrives {off : Nat} {ok : Bool} (aligned : off % 4 = 0) (up : pathUp s via = true)
    (unlatched : latchOnly s via = false) (passed : filtered s via true off = false) (answered : answers s off = true)
    (placed : place via off = some reg) : busWrite via off 4 w.toNat ok s = (writeHere via reg w ok s).2 := by
  rw [busWrite_open up unlatched, writeReg_word aligned, BitVec.ofNat_toNat, BitVec.setWidth_eq]
  simp only [accessWrite, passed, answered, placed, Bool.not_true, Bool.false_eq_true, if_false]

theorem winOf_chitin (h : reg < 0x8000) : winOf reg = (.chitin, reg) := if_pos h

/-- A register of the Chitin window loads what is written to it, then sets off the effect of its row. -/
theorem busWrite_chitin (h : Lands via reg reg w s) (window : reg < 0x8000) (noMask : reg ≠ 0x10) :
    busWrite via reg 4 w.toNat true s = chitinEffect reg w (landed reg w s) := by
  have win := winOf_chitin window
  have load : stateLoad s reg w = w := by unfold stateLoad; rw [win]
  have plain : writeHere via reg w true s = writePlain via reg w true s :=
    writeHere_plain h.accepted win (fun _ => noMask) nofun nofun
  rw [busWrite_lands h plain, load]
  unfold writeEffect
  rw [win]
  rfl

/-- A write of 1 to the reset mask asks for the mask, whatever its register would load (R433). -/
theorem busWrite_rstPinMask (h : Lands via R.CHT_RST_PIN_MASK R.CHT_RST_PIN_MASK w s) (mask : w.getLsbD 0 = true) :
    busWrite via R.CHT_RST_PIN_MASK 4 w.toNat true s = maskReset s := by
  rw [busWrite_arrives h.aligned h.up h.unlatched h.passed h.answered h.placed]
  unfold writeHere
  rw [h.accepted, winOf_chitin (show R.CHT_RST_PIN_MASK < 0x8000 by decide)]
  exact congrArg Prod.snd (if_pos mask)

/-! What the rows of the Chitin window set off, a bit at a time. -/

theorem chitinEffect_go (go : w.getLsbD 8 = true) (noAbort : w.getLsbD 9 = false) :
    chitinEffect R.CHT_BU_CTRL w t = buGo (t.get F.CHT_BU_CTRL_TARGET) t := by
  simp only [R.CHT_BU_CTRL, chitinEffect, go, noAbort, if_true, Bool.false_eq_true, if_false]

theorem chitinEffect_abort (noGo : w.getLsbD 8 = false) (abort : w.getLsbD 9 = true) :
    chitinEffect R.CHT_BU_CTRL w t = buAbort t := by
  simp only [R.CHT_BU_CTRL, chitinEffect, noGo, abort, if_true, Bool.false_eq_true, if_false]

theorem chitinEffect_defectAdd (add : w.getLsbD 12 = true) (noPurge : w.getLsbD 13 = false) :
    chitinEffect R.CHT_DEFECT_CTRL w t = defectAdd t := by
  simp only [R.CHT_DEFECT_CTRL, chitinEffect, add, noPurge, if_true, Bool.false_eq_true, if_false]

theorem chitinEffect_defectPurge (noAdd : w.getLsbD 12 = false) (purge : w.getLsbD 13 = true) :
    chitinEffect R.CHT_DEFECT_CTRL w t = defectPurge t := by
  simp only [R.CHT_DEFECT_CTRL, chitinEffect, noAdd, purge, if_true, Bool.false_eq_true, if_false]

theorem chitinEffect_drive (noAbort : w.getLsbD 0 = false) (drive : w.getLsbD 1 = true) (manager : isManager t = true) :
    chitinEffect R.CHT_MGR_CTRL w t = startDrive t := by
  simp only [R.CHT_MGR_CTRL, chitinEffect, mgrCtrl, noAbort, drive, manager, Bool.and_self, Bool.false_and, if_true,
    Bool.false_eq_true, if_false]

theorem chitinEffect_driveAbort (abort : w.getLsbD 0 = true) (noDrive : w.getLsbD 1 = false)
    (driving : t.flag F.CHT_MGR_STATUS_DRIVING = true) :
    chitinEffect R.CHT_MGR_CTRL w t = { t with mgr := { t.mgr with abort := true } } := by
  simp only [R.CHT_MGR_CTRL, chitinEffect, mgrCtrl, abort, noDrive, driving, Bool.and_self, Bool.false_and, if_true,
    Bool.false_eq_true, if_false]

theorem chitinEffect_mgmtBase : chitinEffect R.CHT_MGMT_BASE w t = storeMgr 0x10c t := by
  have stored : mgrStored 0x10c = true := by decide
  simp only [R.CHT_MGMT_BASE, chitinEffect, stored, if_true]

/-- A run of bring-up steps, but not a warm one, takes an ABORT (R432). -/
theorem buAbort_running (running : t.flag F.CHT_STATUS_RUNNING = true) (cold : t.boot.warmPhase = 0) :
    buAbort t = { t with boot := { t.boot with abort := true } } := if_pos (by simp [running, cold])

theorem maskReset_stuck (stuck : s.flag F.CHT_RST_STATUS_RESET_STUCK = true) :
    maskReset s = { s.set F.CHT_RST_PIN_MASK_MASK 1 with boot := { s.boot with strapsFrozen := true } } := if_pos stuck

theorem maskReset_free (free : s.flag F.CHT_RST_STATUS_RESET_STUCK = false) : maskReset s = s :=
  if_neg (by rw [free]; exact Bool.false_ne_true)
end

/-! ### The clock of a field (R54, R404) -/

section
variable {via : Path} {f : Nat} {w : Word} {s t : State} (hf : f < 88)
include hf

theorem winOf_clkCtrl : winOf (R.CLK_CTRL f) = (.time, 0x8000 + 16 * f) := winOf_clock hf

/-- No write of CLK_CTRL is refused. -/
theorem writeRefused_clkCtrl : writeRefused s (R.CLK_CTRL f) w = false := by
  unfold writeRefused shareOver updInUse noColumns queueInUse
  rw [winOf_clkCtrl hf]
  rfl

/-- CLK_CTRL has no field that locks. -/
theorem accMask_rwl_clkCtrl : accMask .rwl (R.CLK_CTRL f) = 0 := by
  have unlocked : ∀ f : Fin 88, accMask .rwl (R.CLK_CTRL f) = 0 := by decide +kernel
  exact unlocked ⟨f, hf⟩

theorem writeHere_clkCtrl : writeHere via (R.CLK_CTRL f) w true s = writePlain via (R.CLK_CTRL f) w true s :=
  writeHere_plain (writeRefused_clkCtrl hf) (winOf_clkCtrl hf) nofun nofun nofun

/-- ARM arms the change of its field (R54). -/
theorem writeEffect_clkCtrl {was : Bool} (arm : w.getLsbD 8 = true) : writeEffect (R.CLK_CTRL f) w was true t = armClock f t := by
  unfold writeEffect
  rw [winOf_clkCtrl hf]
  have field : (0x8000 + 16 * f - 0x8000) / 16 = f := by omega
  exact (if_pos ⟨by omega, by omega, arm⟩).trans (by rw [field])

/-- A write of CLK_CTRL, noted where its operating point is above the limit, loads no more than the limit (R404). -/
theorem writePlain_clkCtrl (arm : w.getLsbD 8 = true)
    (ht : t = if writeNoted s (R.CLK_CTRL f) w = true then regNote via true 5 (R.CLK_CTRL f) s else s) :
    (writePlain via (R.CLK_CTRL f) w true s).2 =
      armClock f (t.wr (R.CLK_CTRL f) (writtenWord t (R.CLK_CTRL f) (stateLoad t (R.CLK_CTRL f) w))) := by
  simp only [writePlain, accMask_rwl_clkCtrl hf, bne_self_eq_false, Bool.and_false, Bool.false_eq_true, if_false, ← ht,
    writeEffect_clkCtrl hf arm]
end

/-- Settles O16: each write arrives at its register, and the bit that is set there has its effect. -/
theorem controlRegistersTakeEffect : Obligations.ControlRegistersTakeEffect := by
  unfold Obligations.ControlRegistersTakeEffect
  intro via f v s
  refine ⟨?bringUp, ?stuck, ?free, ?defect, ?clock, ?noted, ?manager, ?base⟩
  case bringUp =>
    intro h
    have write := busWrite_chitin h (by decide) (by decide)
    exact ⟨fun go noAbort => congrArg Host.Outcome.next (write.trans (chitinEffect_go go noAbort)),
      fun noGo abort running cold => congrArg Host.Outcome.next
        ((write.trans (chitinEffect_abort noGo abort)).trans (buAbort_running running cold))⟩
  case stuck => exact fun h mask stuck => congrArg Host.Outcome.next ((busWrite_rstPinMask h mask).trans (maskReset_stuck stuck))
  case free => exact fun h mask free => congrArg Host.Outcome.next ((busWrite_rstPinMask h mask).trans (maskReset_free free))
  case defect =>
    intro h
    have write := busWrite_chitin h (by decide) (by decide)
    exact ⟨fun add noPurge => congrArg Host.Outcome.next (write.trans (chitinEffect_defectAdd add noPurge)),
      fun noAdd purge => congrArg Host.Outcome.next (write.trans (chitinEffect_defectPurge noAdd purge))⟩
  case clock =>
    intro h arm
    have written := writePlain_clkCtrl f.isLt (via := via) arm (if_neg (by rw [h.quiet]; exact Bool.false_ne_true)).symm
    refine congrArg Host.Outcome.next ((busWrite_arrives h.aligned h.up h.unlatched h.passed h.answered h.placed).trans ?_)
    rw [writeHere_clkCtrl f.isLt, written]
  case noted =>
    intro t up unlatched passed answered placed noted arm ht
    have aligned : R.CLK_CTRL f % 4 = 0 := by unfold R.CLK_CTRL; omega
    have written := writePlain_clkCtrl f.isLt (via := via) arm (ht.trans (if_pos noted).symm)
    refine congrArg Host.Outcome.next ((busWrite_arrives aligned up unlatched passed answered placed).trans ?_)
    rw [writeHere_clkCtrl f.isLt, written]
  case manager =>
    intro h
    have write := busWrite_chitin h (by decide) (by decide)
    exact ⟨fun noAbort drive manager => congrArg Host.Outcome.next (write.trans (chitinEffect_drive noAbort drive manager)),
      fun abort noDrive driving => congrArg Host.Outcome.next (write.trans (chitinEffect_driveAbort abort noDrive driving))⟩
  case base =>
    exact fun h => congrArg Host.Outcome.next ((busWrite_chitin h (by decide) (by decide)).trans chitinEffect_mgmtBase)

/-! ### References: evidence, qualification, loss (R55-R58) -/

section
variable {s u t v : State} {code port c n : Nat} {clk : Bool}

/-- The offset of a PPS edge is that of its stamp from the nearest second, and the spacing of two stamps says whether it
counts (R58). -/
theorem refPpsEdge_spaced {stamp : Nat} {good : Bool} {off : Int}
    (spaced : ∀ l, s.time.ppsLastPs = some l → good = decide (((stamp : Int) - l - 1000000000000).natAbs ≤ 100000))
    (first : s.time.ppsLastPs = none → good = true)
    (hoff : off = nearSecond ((stamp : Int)
      - (s.set F.CHT_PIN_STATUS_REF_CLK_OK (if clk then 1 else 0)).geti F.TIM_PPS_DELAY_DELAY_PS))
    (hu : u = if good then s.set F.CHT_PIN_STATUS_REF_CLK_OK (if clk then 1 else 0)
      else (s.set F.CHT_PIN_STATUS_REF_CLK_OK (if clk then 1 else 0)).set F.TIM_ALARM_PPS_BAD 1)
    (hv : v = noteFar 3 0 (setCodeBit F.TIM_REF_QUAL_PRESENT 3 true { u with time := { s.time with
      ppsLastPs := some stamp
      ppsRun := if good then s.time.ppsRun + 1 else 1
      offsets := AMap.put (fun _ => 0) s.time.offsets 3 off } })) :
    refPpsEdge stamp clk s = if isSelected v 3 0 then loopSample off v else v := by
  subst hoff hu hv
  unfold refPpsEdge
  cases last : s.time.ppsLastPs with
  | none =>
    obtain rfl := first last
    simp only [State.set_time, last, if_true]
  | some l =>
    have counts := spaced l last
    simp only [State.set_time, last, ← counts]
    cases good <;> rfl

theorem ptpEvent_off {ev : PtpEvent} (off : s.flag F.TIM_CTRL_PTP_EN = false) : ptpEvent ev s = s := by
  simp only [ptpEvent, off, Bool.not_false, if_true]

/-- An Announce of the grandmaster that is followed, or of the first one, keeps the offsets measured (R57). -/
theorem ptpEvent_announce {gm : Nat} {l : Int} (on : s.flag F.TIM_CTRL_PTP_EN = true)
    (same : s.time.ptpGm = none ∨ s.time.ptpGm = some gm) :
    ptpEvent (.announce gm l) s = setCodeBit F.TIM_REF_QUAL_PRESENT 4 true
      { s with time := { s.time with ptpGm := some gm, ptpLog := l, ptpAnnounceAt := s.fet } } := by
  have kept : (s.time.ptpGm == some gm || s.time.ptpGm.isNone) = true := by
    rcases same with none | followed
    · rw [none]; rfl
    · rw [followed, beq_self_eq_true, Bool.true_or]
  simp only [ptpEvent, on, kept, Bool.not_true, Bool.false_eq_true, if_false, if_true]

/-- The loss of a reference by Table 02.1 takes its evidence too. -/
theorem refLost_table (lost : lostTable s code port clk = true) :
    refLost code port clk s = loseRef code port (dropEvidence code port clk s) := by
  simp only [refLost, lostNow, lost, Bool.true_or, Bool.not_true, Bool.false_eq_true, if_false, if_true]

/-- A reference that is lost for being far under a started plan keeps its evidence (R55). -/
theorem refLost_far (kept : lostTable s code port clk = false) (far : isFar s code port = true)
    (started : anyPlanStarted s = true) (noSwitch : loopState s ≠ 3) : refLost code port clk s = loseRef code port s := by
  have lost : lostNow s code port clk = true := by simp [lostNow, far, started, noSwitch]
  simp only [refLost, lost, kept, Bool.not_true, Bool.false_eq_true, if_false]

theorem refLost_kept (kept : lostNow s code port clk = false) : refLost code port clk s = s := by
  simp only [refLost, kept, Bool.not_false, if_true]

/-- Silence takes the PTP reference: its grandmaster, its offsets and its presence (R57). -/
theorem dropEvidence_ptp : dropEvidence 4 0 clk s = refreshFars (setCodeBit F.TIM_REF_QUAL_PRESENT 4 false
    { s with time := { s.time with
      ptpGm := none, ptpOffsets := [], offsets := AMap.put (fun _ => 0) s.time.offsets 4 0 } }) := rfl

theorem refQualified_off (off : loopOn s = false) : refQualified code port s = s := by
  simp only [refQualified, off, Bool.not_false, if_true]

/-- A reference that meets only the weaker criteria, and is not yet among the provisional ones, joins them (R56). -/
theorem markProvisional_new (partly : qualifies u code port = false)
    (new : u.time.provisional.any (fun e => e.1 == code && e.2.1 == port) = false) :
    markProvisional code port u =
      { u with time := { u.time with provisional := u.time.provisional ++ [(code, port, u.fet)] } } := by
  simp only [markProvisional, partly, new, Bool.or_self, Bool.false_eq_true, if_false]

/-- A provisional reference in FREE makes the loop acquire the best reference there is (R56, R61). -/
theorem refQualified_provisional (hu : u = noteFar code port s) (on : loopOn s = true) (free : loopState u = 0)
    (partly : qualifies u code port = false) (weak : provisionally u code port = true)
    (ht : t = markProvisional code port u) (stays : loopState t = 0) (best : bestAcquire t = some (c, n)) :
    refQualified code port s = enterAcquire c n true (markProvisional c n t) := by
  simp only [refQualified, on, ← hu, partly, free, weak, ← ht, stays, best, Bool.not_true, Bool.false_eq_true, if_false,
    Bool.false_or, beq_self_eq_true, Bool.and_self, if_true]

theorem provisionalTimeout_none (fresh : ∀ e ∈ s.time.provisional, overdue s code e = false) :
    provisionalTimeout code s = s := by
  have late : s.time.provisional.filter (overdue s code) = [] :=
    List.filter_eq_nil_iff.mpr (fun e he => by rw [fresh e he]; exact Bool.false_ne_true)
  have rest : s.time.provisional.filter (fun e => !overdue s code e) = s.time.provisional :=
    List.filter_eq_self.mpr (fun e he => by rw [fresh e he]; rfl)
  simp only [provisionalTimeout, late, rest, List.find?_nil]

/-- The 3 s of the only provisional reference are over: where it is the selected one, it is lost (R56). -/
theorem provisionalTimeout_due {since : Fet} (one : s.time.provisional = [(code, port, since)])
    (elapsed : since + 3000000000 ≤ s.fet) :
    provisionalTimeout code s = if isSelected s code port then
        loseRef code port { s with time := { s.time with provisional := [] } }
      else { s with time := { s.time with provisional := [] } } := by
  have due : overdue s code (code, port, since) = true := by simp [overdue, elapsed]
  have late : s.time.provisional.filter (overdue s code) = [(code, port, since)] := by rw [one, List.filter_cons, if_pos due]; rfl
  have rest : s.time.provisional.filter (fun e => !overdue s code e) = [] := by
    rw [one, List.filter_cons, due]; rfl
  simp only [provisionalTimeout, late, rest, List.find?_cons, List.find?_nil]
  cases isSelected s code port <;> rfl
end

/-! ### The disciplining loop (R61-R63) -/

section
variable {s : State} {off r : Int}

theorem execDisciplineSample_off (disabled : loopOn s = false) : execDisciplineSample off s = .next s := by
  simp only [execDisciplineSample, disabled, Bool.false_eq_true, if_false]

/-- A sample of at most 2 ns, no more being left to slew, counts toward the 100; the 100th reaches LOCKED (R62). -/
theorem loopSample_good (on : loopOn s = true) (acquire : loopState s = 1) (small : off.natAbs ≤ 2000)
    (slewn : (slewLeft s).natAbs ≤ 2000) :
    loopSample off s = if 99 ≤ s.time.goodRun then
        refreshEst ((enterState 2 { s with time := { s.time with residualPs := off } }).set F.TIM_STATUS_VALID 1)
      else refreshEst { s with time := { s.time with residualPs := off, goodRun := s.time.goodRun + 1 } } := by
  have good : off.natAbs ≤ 2000 ∧ (slewLeft { s with time := { s.time with residualPs := off } }).natAbs ≤ 2000 := ⟨small, slewn⟩
  have acquires : loopState { s with time := { s.time with residualPs := off } } = 1 := acquire
  simp only [loopSample, on, acquires, if_pos good, Bool.not_true, Bool.false_eq_true, if_false, if_true]
  exact if_congr (by omega) rfl rfl

/-- Any other sample starts the count again (R62). -/
theorem loopSample_bad (on : loopOn s = true) (acquire : loopState s = 1)
    (large : 2000 < off.natAbs ∨ 2000 < (slewLeft s).natAbs) :
    loopSample off s = refreshEst { s with time := { s.time with residualPs := off, goodRun := 0 } } := by
  have bad : ¬ (off.natAbs ≤ 2000 ∧ (slewLeft { s with time := { s.time with residualPs := off } }).natAbs ≤ 2000) := by
    rintro ⟨small, slewn⟩
    have slewn : (slewLeft s).natAbs ≤ 2000 := slewn
    omega
  have acquires : loopState { s with time := { s.time with residualPs := off } } = 1 := acquire
  simp only [loopSample, on, acquires, if_neg bad, Bool.not_true, Bool.false_eq_true, if_false, if_true]
  exact if_neg (by omega)

theorem execDisciplineSample_on (on : loopOn s = true) : execDisciplineSample off s = .next (loopSample off s) := by
  simp only [execDisciplineSample, on, if_true]

/-- What is left of an offset is its size less what SLEW_PPB has removed. -/
theorem natAbs_slewLeft (s : State) : (slewLeft s).natAbs = s.time.switchOff.natAbs - slewed s := by
  rw [slewLeft, Int.natAbs_mul, Int.natAbs_natCast]
  by_cases zero : s.time.switchOff = 0
  · simp [zero]
  · rw [Int.natAbs_sign_of_ne_zero zero, Nat.one_mul]

/-- In LOCKED, in SWITCH and in an ACQUIRE after the first LOCKED the error bound is the selected source's (R69). -/
theorem refreshEst_follows (h : loopState s = 2 ∨ loopState s = 3 ∨ (loopState s = 1 ∧ s.flag F.TIM_STATUS_VALID = true)) :
    refreshEst s = s.set F.TIM_STATUS_EST_ERR (estOf s (s.get F.TIM_STATUS_REF) (s.get F.TIM_REF_QUAL_SEL_PORT)) := if_pos h

/-- Before the first LOCKED it stays. -/
theorem refreshEst_acquire (acquire : loopState s = 1) (invalid : s.flag F.TIM_STATUS_VALID = false) : refreshEst s = s :=
  if_neg (by simp [acquire, invalid])

/-- A switch ends at a residual of at most 2 ns, once the slew has had its time (R63). -/
theorem switchComplete_done (on : loopOn s = true) (switching : loopState s = 3) (small : r.natAbs ≤ 2000)
    (slewn : s.time.switchOff.natAbs ≤ 2000 + slewed s) :
    switchComplete r s =
      { refreshEst ((enterState 2 s).set F.TIM_ALARM_SWITCH_DONE 1) with
        time := { (refreshEst ((enterState 2 s).set F.TIM_ALARM_SWITCH_DONE 1)).time with
          switchEnd := (refreshEst ((enterState 2 s).set F.TIM_ALARM_SWITCH_DONE 1)).fet, residualPs := r } } :=
  if_pos ⟨on, switching, small, by rw [natAbs_slewLeft]; omega⟩

theorem switchComplete_runs (h : loopState s ≠ 3 ∨ 2000 < r.natAbs ∨ 2000 + slewed s < s.time.switchOff.natAbs) :
    switchComplete r s = s := by
  refine if_neg ?_
  rintro ⟨-, switching, small, slewn⟩
  rw [natAbs_slewLeft] at slewn
  omega
end

/-! ### The way back to a higher reference (R65) -/

section
variable {s : State} {code port c n : Nat} {q : Fet}

theorem revertDue_iff (since : qualifiedSince s code port = some q) :
    revertDue s code port = true ↔ higherThanSelected s code port = true ∧ qualifies s code port = true ∧
      max q s.time.switchEnd + s.get F.TIM_QUAL_CFG_REVERT_MS * 1000000 ≤ s.fet := by
  simp only [revertDue, since, Bool.and_eq_true, decide_eq_true_eq, and_assoc]

theorem revertTimer_due (on : loopOn s = true) (locked : loopState s = 2) (due : revertDue s code port = true)
    (best : revertTo s = some (c, n)) : revertTimer code port s = takeUp c n s := by
  unfold revertTimer
  rw [if_pos ⟨on, locked, due⟩, best]

theorem revertTimer_idle (idle : loopOn s = false ∨ revertDue s code port ≠ true) : revertTimer code port s = s := by
  refine if_neg ?_
  rintro ⟨on, -, due⟩
  rcases idle with off | early
  · exact absurd on (by simp [off])
  · exact early due
end

/-! ### The oscillator and HOLDOVER (R66) -/

section
variable {s u : State}

/-- OVEN_OK starts the 15 minutes of LEARNED where the loop is LOCKED. -/
theorem ovenStable_first (cold : s.flag F.TIM_STATUS_OVEN_OK = false) :
    ovenStable s = if loopState (s.set F.TIM_STATUS_OVEN_OK 1) = 2 then
        { s.set F.TIM_STATUS_OVEN_OK 1 with time := { s.time with learnSince := some s.fet } }
      else s.set F.TIM_STATUS_OVEN_OK 1 := by
  simp only [ovenStable, cold, Bool.false_eq_true, if_false, State.set_time, State.set_fet]

theorem holdoverLearned_since {t : Fet} (since : s.time.learnSince = some t) :
    holdoverLearned s = if t + 900000000000 ≤ s.fet then s.set F.TIM_STATUS_LEARNED 1 else s := by
  simp only [holdoverLearned, since]

theorem growEst_holdover (hold : loopState s = 4) : growEst s = s.set F.TIM_STATUS_EST_ERR (holdEst s) := if_pos hold

/-- Outside HOLDOVER the error bound does not grow. -/
theorem growEst_other (other : loopState s ≠ 4) : growEst s = s := if_neg other

theorem holdLimitExceeded_above (hu : u = growEst s) (holdover : loopState u = 4)
    (above : u.get F.TIM_HOLD_CFG_HOLD_LIMIT_NS < u.get F.TIM_STATUS_EST_ERR) :
    holdLimitExceeded s = noteAt 5 0 108 18 4 (u.set F.TIM_ALARM_HOLD_LIMIT 1) := by
  subst hu
  exact if_pos ⟨holdover, above⟩

theorem holdLimitExceeded_other (other : loopState s ≠ 4) : holdLimitExceeded s = s := by
  unfold holdLimitExceeded
  rw [growEst_other other]
  exact if_neg (fun ⟨hold, _⟩ => other hold)
end

/-- Settles O21: the equations above, command by command. -/
theorem referencesDisciplineTheClock : Obligations.ReferencesDisciplineTheClock := by
  unfold Obligations.ReferencesDisciplineTheClock
  intro s
  refine ⟨?pps, ?ptpOff, ?announce, ?silent, ?heard, ?provisional, ?qualOff, ?lost, ?far, ?kept, ?fresh, ?overdue, ?sample,
    ?left, ?est, ?noEst, ?sampleOff, ?switched, ?switching, ?revert, ?revertOff, ?early, ?oven, ?cool, ?learned, ?limit, ?noHold⟩
  case pps =>
    intro stamp clk t off good u v ht hoff spaced first hu hv
    subst ht
    exact congrArg Host.Outcome.next (refPpsEdge_spaced spaced first hoff hu hv)
  case ptpOff => exact fun ev off => congrArg Host.Outcome.next (ptpEvent_off off)
  case announce => exact fun gm l on same => congrArg Host.Outcome.next (ptpEvent_announce on same)
  case silent =>
    intro lost
    have effect := refLost_table (code := 4) (port := 0) (clk := false) lost
    rw [dropEvidence_ptp] at effect
    exact congrArg Host.Outcome.next effect
  case heard => exact fun kept => congrArg Host.Outcome.next (refLost_kept kept)
  case provisional =>
    intro code port u t c n hu on free partly weak new ht best
    have joins := markProvisional_new partly new
    have stays : loopState t = 0 := by rw [ht]; exact free
    exact congrArg Host.Outcome.next
      (refQualified_provisional hu on free partly weak (ht.trans joins.symm) stays best)
  case qualOff => exact fun code port off => congrArg Host.Outcome.next (refQualified_off off)
  case lost => exact fun code port clk lost => congrArg Host.Outcome.next (refLost_table lost)
  case far => exact fun code port clk kept far started other => congrArg Host.Outcome.next (refLost_far kept far started other)
  case kept => exact fun code port clk kept => congrArg Host.Outcome.next (refLost_kept kept)
  case fresh => exact fun code fresh => congrArg Host.Outcome.next (provisionalTimeout_none fresh)
  case overdue =>
    intro code port since one elapsed
    have effect := provisionalTimeout_due one elapsed
    exact ⟨fun other => congrArg Host.Outcome.next (effect.trans (if_neg (by simp [other]))),
      fun selected => congrArg Host.Outcome.next (effect.trans (if_pos selected))⟩
  case sample =>
    intro off on acquire
    have taken := execDisciplineSample_on (off := off) on
    exact ⟨fun small slewn last => taken.trans
        (congrArg Host.Outcome.next ((loopSample_good on acquire small slewn).trans (if_pos last))),
      fun small slewn few => taken.trans
        (congrArg Host.Outcome.next ((loopSample_good on acquire small slewn).trans (if_neg (Nat.not_le.mpr few)))),
      fun large => taken.trans (congrArg Host.Outcome.next (loopSample_bad on acquire large))⟩
  case left => exact natAbs_slewLeft s
  case est => exact refreshEst_follows
  case noEst => exact refreshEst_acquire
  case sampleOff => exact fun off disabled => execDisciplineSample_off disabled
  case switched =>
    intro r on switching small slewn u hu
    subst hu
    exact congrArg Host.Outcome.next (switchComplete_done on switching small slewn)
  case switching => exact fun r runs => congrArg Host.Outcome.next (switchComplete_runs runs)
  case revert =>
    intro code port q c n since on locked higher full time best
    exact congrArg Host.Outcome.next (revertTimer_due on locked ((revertDue_iff since).mpr ⟨higher, full, time⟩) best)
  case revertOff => exact fun code port off => congrArg Host.Outcome.next (revertTimer_idle (.inl off))
  case early =>
    intro code port q since early
    refine congrArg Host.Outcome.next (revertTimer_idle (.inr (fun due => ?_)))
    exact absurd ((revertDue_iff since).mp due).2.2 (Nat.not_le.mpr early)
  case oven => exact fun cold locked => congrArg Host.Outcome.next ((ovenStable_first cold).trans (if_pos locked))
  case cool => exact fun cold other => congrArg Host.Outcome.next ((ovenStable_first cold).trans (if_neg other))
  case learned => exact fun t since => congrArg Host.Outcome.next (holdoverLearned_since since)
  case limit =>
    intro hold u hu holds above
    exact congrArg Host.Outcome.next (holdLimitExceeded_above (hu.trans (growEst_holdover hold).symm) holds above)
  case noHold => exact fun other => congrArg Host.Outcome.next (holdLimitExceeded_other other)

/-! ### Registers beside the one written -/

/-- A field of another register reads as before, in any table. -/
theorem State.get_set_of_reg_ne {s : State} {f g : Fld} {v : Nat} (h : g.reg ≠ f.reg) : (s.set f v).get g = s.get g :=
  congrArg (fun w => Word.field w g.hi g.lo) (AMap.get_put_ne _ _ _ _ h)

theorem State.get_count_of_reg_ne {s : State} {f g : Fld} {n : Nat} (h : g.reg ≠ f.reg) : (s.count f n).get g = s.get g :=
  State.get_set_of_reg_ne h

/-! ### Cicada frames (R67, R69) -/

section
variable {s t u : State} {n : Nat}

theorem cicadaSend_untrained (untrained : portTrained s n = false) : cicadaSend n s = s := by
  simp only [cicadaSend, untrained, Bool.not_false, if_true]

/-- The frame a trained port sends in its period, outside HOLDOVER: its sequence number, what was last heard from the
partner, the state and the error bound (Table 02.4). `t`: a miss is counted; `u`: the sequence number is taken. -/
theorem cicadaSend_trained (trained : portTrained s n = true)
    (ht : t = if (s.cic n).got = true then s else s.count (F.TIM_PORT_STATUS_MISSED n) 1)
    (noHold : loopState t ≠ 4) (enabled : t.flag F.TIM_CTRL_CICADA_TX_EN = true)
    (hu : u = t.setCic n { s.cic n with seq := ((s.cic n).seq + 1) % 65536, got := false }) :
    cicadaSend n s = enqueue n (mkFrame u 3 0 0 (8 * coordAlong u n 1) 0 (cicadaBytes
      { txFetPs := 0, lastRxFetPs := (s.cic n).rxFetPs, seq := ((s.cic n).seq + 1) % 65536
        lastRxSeq := (s.cic n).rxSeq, steps := t.get F.TIM_STATUS_STEPS, state := loopState t
        ref := t.get F.TIM_STATUS_REF, estErr := t.get F.TIM_STATUS_EST_ERR, utcOffset := t.time.utcOffset
        gmCoord := if t.get F.TIM_STATUS_STEPS = 0 then ownCoord t else (t.cic (t.get F.TIM_REF_QUAL_SEL_PORT)).gm })) u := by
  simp only [cicadaSend, trained, ← ht, growEst_other noHold, enabled, ← hu, Bool.not_true, Bool.false_eq_true, if_false]

/-- Counting a miss changes neither the loop's state nor what is enabled. -/
theorem get_missed (h : t = if (s.cic n).got = true then s else s.count (F.TIM_PORT_STATUS_MISSED n) 1) {g : Fld}
    (hg : g.reg < R.TIM_PORT_STATUS 0) : t.get g = s.get g := by
  subst h
  split
  · rfl
  · refine State.get_count_of_reg_ne ?_
    simp only [F.TIM_PORT_STATUS_MISSED, R.TIM_PORT_STATUS] at hg ⊢
    omega
end

/-! ### Operating points (R54, R404, R405) -/

section
variable {s t : State} {f : Nat}

theorem ownDue_none (none : s.power.opOwn.find? (fun o => o.field == f) = none) : ownDue f s = s := by
  simp only [ownDue, none]

/-- The module's own change takes effect once its time has come and, upward, its set point is reached (R404, R405). -/
theorem ownDue_due {o : OwnOp} (own : s.power.opOwn.find? (fun o => o.field == f) = some o) (due : o.at_ ≤ s.fet)
    (reached : o.op ≤ s.get (F.CLK_STATUS_OP_NOW f) ∨ fieldSettled s f = true) :
    ownDue f s = applyOp f (min o.op (opLimit s f))
      { s with power := { s.power with opOwn := s.power.opOwn.filter (fun o => o.field != f) } } := by
  have acts : (decide (s.fet < o.at_) || (decide (s.get (F.CLK_STATUS_OP_NOW f) < o.op) && !fieldSettled s f)) = false := by
    rcases reached with down | settled
    · simp [due, down]
    · simp [due, settled]
  simp only [ownDue, own, acts, Bool.false_eq_true, if_false]
  rfl

/-- An armed change is due at or after CLK_OP_FET, an upward one not before its set point is reached. -/
theorem armedDue_due (armed : s.flag (F.CLK_CTRL_ARM f) = true) (due : opFet s f ≤ s.fet)
    (reached : opUpward s f = false ∨ fieldSettled s f = true) : armedDue f s = applyArmed f s := by
  refine if_neg ?_
  rcases reached with down | settled
  · simp [armed, due, down]
  · simp [armed, due, settled]

theorem armedDue_waits (h : s.flag (F.CLK_CTRL_ARM f) = false ∨ s.fet < opFet s f ∨
    (opUpward s f = true ∧ fieldSettled s f = false)) : armedDue f s = s := by
  refine if_pos ?_
  rcases h with unarmed | early | ⟨up, unsettled⟩
  · simp [unarmed]
  · simp [early]
  · simp [up, unsettled]

/-- At a 20 ns multiple the module's own change comes first, then the armed one. -/
theorem opChangeDue_multiple (multiple : s.fet % 20 = 0) : opChangeDue f s = armedDue f (ownDue f s) :=
  if_neg (not_not.mpr multiple)

theorem opChangeDue_between (between : s.fet % 20 ≠ 0) : opChangeDue f s = s := if_pos between

theorem opVoltageReady_settled (settled : fieldSettled s f = true) (multiple : s.fet % 20 = 0) :
    opVoltageReady f s = armedDue f (ownDue f s) := by
  simp [opVoltageReady, settled, multiple]

theorem opVoltageReady_waits (unsettled : fieldSettled s f = false) : opVoltageReady f s = s :=
  if_pos (by rw [unsettled]; rfl)

/-- Where neither change is due, a set point that is reached changes nothing. -/
theorem opVoltageReady_same (idle : armedDue f (ownDue f s) = s) : opVoltageReady f s = s := by
  unfold opVoltageReady
  rw [idle, ite_self]
end

/-- Settles O22: the equations above, command by command; a miss that is counted changes no register but its port's. -/
theorem cicadaAndClocksAct : Obligations.CicadaAndClocksAct := by
  unfold Obligations.CicadaAndClocksAct
  intro s
  refine ⟨?send, ?stamp, ?untrained, ?armed, ?waits, ?own, ?voltage⟩
  case send =>
    intro n t u trained noHold enabled ht hu
    have state_kept : loopState t = loopState s := get_missed ht (by decide)
    have enabled_kept : t.flag F.TIM_CTRL_CICADA_TX_EN = s.flag F.TIM_CTRL_CICADA_TX_EN :=
      congrArg (· == 1) (get_missed ht (by decide))
    exact congrArg Host.Outcome.next
      (cicadaSend_trained trained ht (state_kept ▸ noHold) (enabled_kept.trans enabled) hu)
  case stamp =>
    intro n fr cls
    simp only [stampTx, cls]
    rfl
  case untrained => exact fun n untrained => congrArg Host.Outcome.next (cicadaSend_untrained untrained)
  case armed =>
    intro f none armed due multiple reached
    refine congrArg Host.Outcome.next ((opChangeDue_multiple multiple).trans ?_)
    rw [ownDue_none none, armedDue_due armed due reached]
  case waits =>
    intro f none waits
    refine congrArg Host.Outcome.next ?_
    by_cases multiple : s.fet % 20 = 0
    · rw [opChangeDue_multiple multiple, ownDue_none none]
      exact armedDue_waits (waits.imp_right (Or.imp_right (Or.resolve_left · (not_not.mpr multiple))))
    · exact opChangeDue_between multiple
  case own =>
    intro f o t own due multiple reached ht
    refine congrArg Host.Outcome.next ((opChangeDue_multiple multiple).trans ?_)
    rw [ownDue_due own due reached, ht]
  case voltage =>
    intro f none armed
    refine ⟨fun settled due multiple => congrArg Host.Outcome.next ?_, fun waits => congrArg Host.Outcome.next ?_⟩
    · rw [opVoltageReady_settled settled multiple, ownDue_none none, armedDue_due armed due (.inr settled)]
    · rcases waits with unsettled | early
      · exact opVoltageReady_waits unsettled
      · refine opVoltageReady_same ?_
        rw [ownDue_none none]
        exact armedDue_waits (.inr (.inl early))

/-! ### Step boundaries, commits, Cicada frames (R67, R167, R398, R453) -/

/-- A field takes boundary `b` with STEP bundle `w` (R167): the partition's step begins, `b` is the base of the field, its
lanes follow, the step is counted, the loops are cleared and the bundle is broadcast. -/
def takeBoundary (f cyc w : Nat) (b : Fet) (u : State) : State :=
  let v := beginStep (ownerOf u f) b (u.get (F.FLD_STEP_CNT_COUNT f) + 1) u
  let x := v.setField f { v.fieldD f with base := b, poison := [] }
  let y := x.set (F.FLD_LANE_EN_NOW f) (x.get (F.FLD_LANE_EN_NEXT f))
  let z := clearLoops f (y.set (F.FLD_STEP_CNT_COUNT f) (y.get (F.FLD_STEP_CNT_COUNT f) + 1))
  dropUsed (ownerOf u f) (goto f (seqPc z f + 1) (broadcast f cyc w 0 z))

section
variable {f cyc w : Nat} {s t : State} {b : Fet} (h : SeqTurn f cyc w s) (ht : t = seqTaken f cyc s) (kind : bKind w = 1)
include h ht kind

/-- A STEP bundle whose turn it is, with no boundary that its field has not used, waits (R389). -/
theorem stepBundle_unarmed (none : nextBoundary t f = none) : stepBundle f cyc s = t := by
  unfold stepBundle
  rw [onBundle_turn h _ (by rw [kind]; rfl), ← ht, none]

/-- With a boundary it waits until that has come and the rerun of the last step is over, then for room in the queues; then
the field takes it, a late arrival being counted. -/
theorem stepBundle_armed (next : nextBoundary t f = some b) : stepBundle f cyc s =
    if (decide (t.fet < b) || rerunHolds t f) = true then t
    else if (!queuesFree t f) = true then backPressure f t
    else takeBoundary f cyc w b (if t.flag (F.FLD_STATUS_WAIT_STEP f) = true then t else lateGate f (t.fet - b) t) := by
  unfold stepBundle
  rw [onBundle_turn h _ (by rw [kind]; rfl), ← ht, next]
  rfl

theorem stepBundle_early (next : nextBoundary t f = some b) (early : t.fet < b ∨ rerunHolds t f = true) :
    stepBundle f cyc s = t :=
  (stepBundle_armed h ht kind next).trans (if_pos (by simpa using early))

theorem stepBundle_due (next : nextBoundary t f = some b) (due : b ≤ t.fet) (idle : rerunHolds t f = false) :
    stepBundle f cyc s = if (!queuesFree t f) = true then backPressure f t
      else takeBoundary f cyc w b (if t.flag (F.FLD_STATUS_WAIT_STEP f) = true then t else lateGate f (t.fet - b) t) :=
  (stepBundle_armed h ht kind next).trans (if_neg (by simp [due, idle]))
end

section
variable {s : State} {p n : Nat}

theorem configCommitDue_none (none : commitDue s p = false) : configCommitDue p s = s :=
  if_neg (by rw [none]; exact Bool.false_ne_true)

/-- Whichever partition's commit falls due, all that are due by then take effect, in order of their partitions (R453). -/
theorem configCommitDue_due (due : commitDue s p = true) : configCommitDue p s = settleCommits s := if_pos due

theorem mapActivation_none (none : s.mesh.shadow = none) : mapActivation s = s := by
  simp only [mapActivation, none]

theorem mapActivation_early {m : MapShadow} (shadow : s.mesh.shadow = some m) (early : s.fet < m.at_) : mapActivation s = s := by
  unfold mapActivation
  rw [shadow]
  exact if_pos early

/-- A CRC failure at a trained port breaks its run of good frames (R67). -/
theorem cicadaFrame_bad {hdr : Frame} {fr : CicadaFrame} {rx : Nat} (trained : portTrained s n = true)
    (bad : crcGood hdr = false) : cicadaFrame n hdr fr rx s =
      receiveFrame n hdr (fun h => h.cls == 3) (cicadaReceive n fr rx) (s.setCic n { s.cic n with good := 0 }) := by
  simp only [cicadaFrame, trained, bad, Bool.not_false, Bool.and_self, if_true]

theorem cicadaFrame_received {hdr : Frame} {fr : CicadaFrame} {rx : Nat}
    (h : portTrained s n = false ∨ crcGood hdr = true) : cicadaFrame n hdr fr rx s =
      receiveFrame n hdr (fun h => h.cls == 3) (cicadaReceive n fr rx) s := by
  have kept : (portTrained s n && !crcGood hdr) = false := by
    rcases h with untrained | good
    · rw [untrained, Bool.false_and]
    · rw [good, Bool.not_true, Bool.and_false]
  simp only [cicadaFrame, kept, Bool.false_eq_true, if_false]
end

/-- Settles O25: the equations above, command by command. -/
theorem stepBoundariesTakeEffect : Obligations.StepBoundariesTakeEffect := by
  unfold Obligations.StepBoundariesTakeEffect
  intro s
  refine ⟨?step, ?commit, ?map, ?untrained, ?trained⟩
  case step =>
    intro f cyc w t turn ht kind
    refine ⟨fun none => ?_, fun b next early => ?_, fun b next due idle full => ?_, fun b u v next due idle free hu hv => ?_⟩
    · exact congrArg Host.Outcome.next (stepBundle_unarmed turn ht kind none)
    · exact congrArg Host.Outcome.next (stepBundle_early turn ht kind next early)
    · exact congrArg Host.Outcome.next ((stepBundle_due turn ht kind next due idle).trans (if_pos (by rw [full]; rfl)))
    · have taken := (stepBundle_due turn ht kind next due idle).trans (if_neg (by rw [free]; exact Bool.false_ne_true))
      rw [← hu] at taken
      subst hv
      exact ⟨_, rfl, _, rfl, _, rfl, congrArg Host.Outcome.next taken⟩
  case commit =>
    exact fun p => ⟨fun none => congrArg Host.Outcome.next (configCommitDue_none none),
      fun due => congrArg Host.Outcome.next (configCommitDue_due due)⟩
  case map =>
    intro t ht
    subst ht
    exact ⟨fun none => congrArg Host.Outcome.next (mapActivation_none none),
      fun m shadow early => congrArg Host.Outcome.next (mapActivation_early shadow early), fun m _ _ => rfl⟩
  case untrained => exact fun n hdr fr rx untrained => congrArg Host.Outcome.next (cicadaFrame_received (.inl untrained))
  case trained =>
    exact fun n hdr fr rx trained => ⟨fun good => congrArg Host.Outcome.next (cicadaFrame_received (.inr good)),
      fun bad => congrArg Host.Outcome.next (cicadaFrame_bad trained bad)⟩

end Sys2Proof.Machine

/-!
PROOFS. The statements of 03_cell: parked and running slots (O27), scratchpad ports, arrivals and guards (O28), the clear and
arm bits of the units (O17), the repetitions of a cell's queue (O26). Every command of a cell acts on the state `t` at its
cycle (`CellTurn`); an equation for each of its branches says what it makes of `t`, and the statements are read off these.
-/
namespace Sys2Proof.Machine

/-! ### SLOT_BEGIN (R165, R170, R171, R173) -/

/-- What a parked slot runs as once it begins: fired, the slot itself; expired, the marking of what it would have written
(R171). -/
def parkedRun (p : Parked) : Running :=
  if p.phase = 2 then { slot := p.slot, guarded := true, marking := true, formed := true, out := markReqs p.slot }
  else { slot := p.slot, guarded := true }

theorem parkedRun_fired {p : Parked} (fired : p.phase = 1) : parkedRun p = { slot := p.slot, guarded := true } :=
  if_neg (by omega)

theorem parkedRun_expired {p : Parked} (expired : p.phase = 2) :
    parkedRun p = { slot := p.slot, guarded := true, marking := true, formed := true, out := markReqs p.slot } := if_pos expired

section
variable {f pos cyc id : Nat} {s t : State} (h : CellTurn f pos cyc s t)
include h

theorem slotBegin_absent (absent : (t.cell f pos).parked.find? (fun p => p.slot.seq == id) = none) :
    slotBegin f pos cyc id s = t := by
  simp only [slotBegin, onCell_turn h, absent]

theorem slotBegin_waiting {p : Parked} (parked : (t.cell f pos).parked.find? (fun p => p.slot.seq == id) = some p)
    (waiting : p.phase = 0) : slotBegin f pos cyc id s = t := by
  simp only [slotBegin, onCell_turn h, parked, waiting, decide_true, Bool.true_or, if_true]

/-- A parked slot that no longer waits for its guard, and has something to run, takes its units where its order group, the
units, the in-order slot and the sentinel leave them to it. -/
theorem slotBegin_begins {p : Parked} (parked : (t.cell f pos).parked.find? (fun p => p.slot.seq == id) = some p)
    (decided : p.phase ≠ 0) (marks : p.phase = 2 → markReqs p.slot ≠ [])
    (group : groupBusy (t.cell f pos) p.slot.order p.slot.seq = false)
    (free : unitsFree (t.cell f pos) (parkedRun p).units = true)
    (first : (readyInOrder t f pos cyc).any (fun y => y.units &&& (parkedRun p).units != 0) = false)
    (tile : inSentinel (t.cell f pos) cyc = false) :
    slotBegin f pos cyc id s = putCell f pos { t.cell f pos with
      parked := (t.cell f pos).parked.filter (fun q => q.slot.seq != id)
      running := (t.cell f pos).running ++ [parkedRun p] } t := by
  by_cases expired : p.phase = 2
  · have some_marks : (markReqs p.slot).isEmpty = false := List.isEmpty_eq_false_iff.mpr (marks expired)
    rw [parkedRun_expired expired] at free first ⊢
    simp only [Running.units, if_true] at free first
    simp only [slotBegin, onCell_turn h, parked, expired, some_marks, group, free, first, tile, decide_false, Bool.not_true,
      Bool.or_self, Bool.and_false, Bool.false_eq_true, Nat.reduceEqDiff, if_true, if_false]
  · have runs : parkedRun p = { slot := p.slot, guarded := true } := if_neg expired
    rw [runs] at free first ⊢
    simp only [Running.units, Bool.false_eq_true, if_false] at free first
    simp only [slotBegin, onCell_turn h, parked, expired, decided, group, free, first, tile, decide_false, Bool.not_true,
      Bool.or_self, Bool.false_and, Bool.false_eq_true, if_false]
end

/-! ### MICRO_OP_ISSUE (R84, R85, R191) -/

section
variable {f pos cyc id err : Nat} {col : BitVec 3} {upset : BitVec 128} {s t x : State} {r : Running} (h : CellTurn f pos cyc s t)
include h

theorem microOpIssue_absent (absent : (t.cell f pos).running.find? (fun r => r.slot.seq == id) = none) :
    microOpIssue f pos cyc id err col upset s = t := by
  simp only [microOpIssue, onCell_turn h, absent]

variable (running : (t.cell f pos).running.find? (fun r => r.slot.seq == id) = some r)
include running

/-- A slot issues once in a cycle. -/
theorem microOpIssue_again (again : cyc < r.last) : microOpIssue f pos cyc id err col upset s = t := by
  simp only [microOpIssue, onCell_turn h, running, if_pos again]

/-- The parts of a cycle, then its write: one part that stalls stalls the slot. `p`: what the parts before the write leave;
`w`: what the write leaves. -/
theorem microOpIssue_issues {p w : Running × Bool × State} (first : r.last ≤ cyc)
    (hp : p = if r.marking = true then ({ r with last := cyc + 1 }, false, t)
      else issueParts f pos cyc { r with last := cyc + 1 } err col upset t)
    (hw : w = issueW f pos cyc (formWrites p.1) (col.getLsbD 2) p.2.2)
    (hx : x = w.2.2.setCell f pos (setRunning w.1 (w.2.2.cell f pos))) :
    microOpIssue f pos cyc id err col upset s = if (p.2.1 || w.2.1) = true then stall f pos cyc x
      else if (x.cell f pos).stallAt ≤ cyc then x.set (F.CEL_STATUS_STALLED f pos) 0 else x := by
  subst hx hw hp
  simp only [microOpIssue, onCell_turn h, running, if_neg (Nat.not_lt.mpr first)]
end

/-- What a cycle of a slot comes to, by whether a part of it stalls. -/
theorem issued_cases {f pos cyc : Nat} {stalls : Bool} {x y : State}
    (issued : y = if stalls = true then stall f pos cyc x
      else if (x.cell f pos).stallAt ≤ cyc then x.set (F.CEL_STATUS_STALLED f pos) 0 else x) :
    (stalls = true → y = stall f pos cyc x) ∧
    (stalls = false → (x.cell f pos).stallAt ≤ cyc → y = x.set (F.CEL_STATUS_STALLED f pos) 0) :=
  ⟨fun stalled => issued.trans (if_pos stalled),
    fun runs past => issued.trans ((if_neg (by rw [runs]; exact Bool.false_ne_true)).trans (if_pos past))⟩

/-- The writes of a slot are formed once. -/
theorem formWrites_formed {r : Running} (formed : r.formed = true) : formWrites r = r := if_pos (by rw [formed]; rfl)

/-! ### SLOT_END (R173) -/

section
variable {f pos cyc id : Nat} {s t : State} {r : Running} (h : CellTurn f pos cyc s t)
    (running : (t.cell f pos).running.find? (fun r => r.slot.seq == id) = some r)
include h running

theorem slotEnd_unfinished (unfinished : slotDone r = false) : slotEnd f pos cyc id s = t := by
  simp only [slotEnd, onCell_turn h, running, unfinished, Bool.not_false, if_true]

theorem slotEnd_done (done : slotDone r = true) : slotEnd f pos cyc id s = t.setCell f pos (installSlot r { t.cell f pos with
    running := (t.cell f pos).running.filter (fun q => q.slot.seq != id)
    rep := (t.cell f pos).rep.map (fun p => if p.slot = some id then { p with slot := none } else p) }) := by
  simp only [slotEnd, onCell_turn h, running, done, Bool.not_true, Bool.false_eq_true, if_false]
end

/-- Settles O27: the equations above, for a parked slot by its phase, for a running one by whether it only marks. -/
theorem slotsRunAndEnd : Obligations.SlotsRunAndEnd := by
  unfold Obligations.SlotsRunAndEnd
  intro f pos cyc id s t h
  refine ⟨?parked, ?absent, ?issue, ?ended⟩
  case parked =>
    intro p parked
    refine ⟨fun waiting => congrArg Host.Outcome.next (slotBegin_waiting h parked waiting),
      fun fired group free first tile => congrArg Host.Outcome.next ?_,
      fun expired marks group free first tile => congrArg Host.Outcome.next ?_⟩
    · have run := parkedRun_fired fired
      rw [slotBegin_begins h parked (by omega) (by omega) group (run ▸ free) (run ▸ first) tile, run]
    · have run := parkedRun_expired expired
      rw [slotBegin_begins h parked (by omega) (fun _ => marks) group (run ▸ free) (run ▸ first) tile, run]
  case absent => exact fun absent => congrArg Host.Outcome.next (slotBegin_absent h absent)
  case issue =>
    intro err col upset
    refine ⟨fun absent => congrArg Host.Outcome.next (microOpIssue_absent h absent),
      fun r running again => congrArg Host.Outcome.next (microOpIssue_again h running again), ?computing, ?marking⟩
    case computing =>
      intro r a b u d w x running first computes ha hb hu hd hw hx
      subst ha hb hu hd
      have parts := (if_neg (by rw [computes]; exact Bool.false_ne_true) :
        (if r.marking = true then ({ r with last := cyc + 1 }, false, t)
          else issueParts f pos cyc { r with last := cyc + 1 } err col upset t) = _).symm
      obtain ⟨stalled, free⟩ := issued_cases (microOpIssue_issues h running first parts hw hx)
      exact ⟨fun e => congrArg Host.Outcome.next (stalled e), fun e past => congrArg Host.Outcome.next (free e past)⟩
    case marking =>
      intro r w x running first marks formed hw hx
      have write_formed : formWrites { r with last := cyc + 1 } = { r with last := cyc + 1 } := formWrites_formed formed
      obtain ⟨stalled, free⟩ := issued_cases (microOpIssue_issues (err := err) (col := col) (upset := upset) h running first
        (if_pos marks).symm (hw.trans (congrArg (issueW f pos cyc · _ t) write_formed.symm)) hx)
      exact ⟨fun e => congrArg Host.Outcome.next (stalled e), fun e past => congrArg Host.Outcome.next (free e past)⟩
  case ended =>
    intro r c running hc
    subst hc
    exact ⟨fun unfinished => congrArg Host.Outcome.next (slotEnd_unfinished h running unfinished),
      fun done => congrArg Host.Outcome.next (slotEnd_done h running done)⟩

/-! ### Scratchpad ports (R113, R117) -/

section
variable {f pos cyc : Nat} {wport : Bool} {upset : BitVec 128} {s t : State} {r : PortReq} {l : List PortReq}
    (h : CellTurn f pos cyc s t)
include h

theorem accessGrant_zeroing (zeroing : t.flag (F.CEL_STATUS_SP_ZEROING f pos) = true) :
    accessGrant f pos cyc wport upset s = t := by
  simp only [accessGrant, onCell_turn h, zeroing, if_true]

variable (idle : t.flag (F.CEL_STATUS_SP_ZEROING f pos) = false)
include idle

theorem accessGrant_write (first : (t.cell f pos).grantW ≤ cyc)
    (picked : pickReq cyc (fun _ => false) (t.cell f pos).wport = some (r, l)) :
    accessGrant f pos cyc true upset s = grantWrite f pos cyc r
      (noteWait f pos cyc r (t.setCell f pos { t.cell f pos with wport := l, grantW := cyc + 1 })) := by
  simp only [accessGrant, onCell_turn h, idle, picked, Bool.false_eq_true, if_true, if_false, if_neg (Nat.not_lt.mpr first)]

theorem accessGrant_read (first : (t.cell f pos).grantB ≤ cyc)
    (picked : pickReq cyc (sendWaits t f pos) (t.cell f pos).portB = some (r, l)) :
    accessGrant f pos cyc false upset s = grantRead f pos cyc r upset
      (noteWait f pos cyc r (t.setCell f pos { t.cell f pos with portB := l, grantB := cyc + 1 })) := by
  simp only [accessGrant, onCell_turn h, idle, picked, Bool.false_eq_true, if_false, if_neg (Nat.not_lt.mpr first)]
end

/-! ### Arrivals, acknowledgements and guards (R102, R104, R105, R242) -/

section
variable {f pos cyc tag at_ : Nat} {s t : State} (h : CellTurn f pos cyc s t)
include h

theorem arrivalRecord_none (none : (t.cell f pos).arrivals = []) : arrivalRecord f pos cyc s = t := by
  simp only [arrivalRecord, onCell_turn h, none]

theorem arrivalRecord_earlier {l : List (Nat × Nat)} (oldest : (t.cell f pos).arrivals = (tag, at_) :: l) (earlier : at_ < cyc)
    (first : (t.cell f pos).lastArrival ≤ cyc) : arrivalRecord f pos cyc s =
      recordArrival f pos cyc tag (t.setCell f pos { t.cell f pos with arrivals := l, lastArrival := cyc + 1 }) := by
  simp only [arrivalRecord, onCell_turn h, oldest, if_pos (And.intro earlier first)]

theorem arrivalRecord_waits {l : List (Nat × Nat)} (oldest : (t.cell f pos).arrivals = (tag, at_) :: l)
    (waits : cyc ≤ at_ ∨ cyc < (t.cell f pos).lastArrival) : arrivalRecord f pos cyc s = t := by
  have not_yet : ¬ (at_ < cyc ∧ (t.cell f pos).lastArrival ≤ cyc) := by omega
  simp only [arrivalRecord, onCell_turn h, oldest, if_neg not_yet]

theorem tierAckArrival_takes {l : List Nat} (oldest : (t.cell f pos).acks = tag :: l)
    (first : (t.cell f pos).lastArrival ≤ cyc)
    (alone : (t.cell f pos).arrivals.any (fun e => decide (e.2 < cyc)) = false) : tierAckArrival f pos cyc s =
      recordArrival f pos cyc tag (t.setCell f pos { t.cell f pos with acks := l, lastArrival := cyc + 1 }) := by
  simp only [tierAckArrival, onCell_turn h, oldest, first, alone, Bool.not_false, and_self, if_true]

theorem tierAckArrival_none (none : (t.cell f pos).acks = []) : tierAckArrival f pos cyc s = t := by
  simp only [tierAckArrival, onCell_turn h, none]

/-- A cycle that has recorded an arrival takes no acknowledgement. -/
theorem tierAckArrival_taken (taken : cyc < (t.cell f pos).lastArrival) : tierAckArrival f pos cyc s = t := by
  cases acks : (t.cell f pos).acks with
  | nil => exact tierAckArrival_none h acks
  | cons tag l => simp only [tierAckArrival, onCell_turn h, acks, Nat.not_le.mpr taken, false_and, if_false]

theorem guardExpiry_none (none : expireList cyc (t.cell f pos).parked = none) : guardExpiry f pos cyc s = t := by
  simp only [guardExpiry, onCell_turn h, none]

/-- A guard whose window has passed is a slot miss; a later guard of its tag may then fire. -/
theorem guardExpiry_misses {p : Parked} {l : List Parked} {u : State}
    (expired : expireList cyc (t.cell f pos).parked = some (p, l))
    (hu : u = slotMiss f pos p (putCell f pos { t.cell f pos with parked := l } t)) :
    guardExpiry f pos cyc s = putCell f pos (fireTag p.tag cyc (u.cell f pos)) u := by
  simp only [guardExpiry, onCell_turn h, expired, ← hu]
end

/-! ### Zeroing done (R117, R411) -/

section
variable {f pos : Nat} {s u : State} (hu : u = s.set (F.CEL_STATUS_SP_ZEROING f pos) 0)
include hu

theorem scratchpadZeroDone_cell
    (on : u.power.entering.find? (fun e => e.dom == domOfCell f pos && e.kind == 1) = none) :
    scratchpadZeroDone f pos s = u := by
  simp only [scratchpadZeroDone, ← hu, on]

/-- The last scratchpad of a cluster that wakes from GATED starts its clock. -/
theorem scratchpadZeroDone_cluster {e : Waking}
    (wakes : u.power.entering.find? (fun e => e.dom == domOfCell f pos && e.kind == 1) = some e) :
    scratchpadZeroDone f pos s =
      if (clusterCells (domOfCell f pos)).any (fun q => u.flag (F.CEL_STATUS_SP_ZEROING f q)) = true then u
      else endDomainOn (domOfCell f pos) stOk e.defer (clusterOn (domOfCell f pos) (leave (domOfCell f pos) 1 u)) := by
  simp only [scratchpadZeroDone, ← hu, wakes]
end

/-- Settles O28: without its clock a cell does nothing; with it, the equations above, command by command. -/
theorem portsGrantAndArrivalsCount : Obligations.PortsGrantAndArrivalsCount := by
  unfold Obligations.PortsGrantAndArrivalsCount
  intro f pos cyc s t
  refine ⟨?off, ?turn, ?zeroed⟩
  case off =>
    intro off
    exact ⟨fun _ _ => congrArg Host.Outcome.next (onCell_off off _), congrArg Host.Outcome.next (onCell_off off _),
      congrArg Host.Outcome.next (onCell_off off _), congrArg Host.Outcome.next (onCell_off off _)⟩
  case turn =>
    intro h
    refine ⟨fun _ _ zeroing => congrArg Host.Outcome.next (accessGrant_zeroing h zeroing), ?grants, ?arrival,
      fun none => congrArg Host.Outcome.next (arrivalRecord_none h none), ?ack, ?noAck,
      fun none => congrArg Host.Outcome.next (guardExpiry_none h none),
      fun p l u expired hu => congrArg Host.Outcome.next (guardExpiry_misses h expired hu)⟩
    case grants =>
      exact fun upset r l idle =>
        ⟨fun first picked => congrArg Host.Outcome.next (accessGrant_write h idle first picked),
          fun first picked => congrArg Host.Outcome.next (accessGrant_read h idle first picked)⟩
    case arrival =>
      exact fun tag at_ l oldest =>
        ⟨fun earlier first => congrArg Host.Outcome.next (arrivalRecord_earlier h oldest earlier first),
          fun waits => congrArg Host.Outcome.next (arrivalRecord_waits h oldest waits)⟩
    case ack =>
      exact fun tag l oldest first alone => congrArg Host.Outcome.next (tierAckArrival_takes h oldest first alone)
    case noAck =>
      exact fun idle => congrArg Host.Outcome.next (idle.elim (tierAckArrival_none h) (tierAckArrival_taken h))
  case zeroed =>
    intro u hu
    refine ⟨fun on => congrArg Host.Outcome.next (scratchpadZeroDone_cell hu on), fun e v wakes hv => ?_⟩
    subst hv
    have done := scratchpadZeroDone_cluster hu wakes
    exact ⟨fun others => congrArg Host.Outcome.next (done.trans (if_pos others)),
      fun last => congrArg Host.Outcome.next (done.trans (if_neg (by rw [last]; exact Bool.false_ne_true)))⟩

/-! ### Writes of the units' registers (R107, R117, R124, R125, R186, R217, R218, R253, R254) -/

/-- The windows of cells, fields, their mesh and tiers, and Vaults: no register of theirs has a rule of its own for what it
accepts or loads. -/
def unitWindow : Win → Bool
  | .cell _ _ | .field _ | .fieldMesh _ | .fieldTier _ | .vault _ => true
  | _ => false

/-- A register in a unit's window loads what is written to it, then sets off the effect of its row. -/
theorem busWrite_unit {via : Path} {reg r : Nat} {x : Win} {w : Word} {s : State} (h : Lands via reg reg w s)
    (win : winOf reg = (x, r)) (unit : unitWindow x = true) :
    busWrite via reg 4 w.toNat true s = writeEffect reg w (queueWas s reg) true (landed reg w s) := by
  have plain : writeHere via reg w true s = writePlain via reg w true s :=
    writeHere_plain h.accepted win (by rintro rfl; cases unit) (by rintro _ rfl; cases unit) (by rintro _ rfl; cases unit)
  have load : stateLoad s reg w = w := by
    unfold stateLoad
    rw [win]
    split
    · next e => cases e; cases unit
    · next e => cases e; cases unit
    · rfl
  rw [busWrite_lands h plain, load]
  rfl

section
variable {via : Path} {f pos v : Nat} {w : Word} {s : State}

theorem busWrite_celCtrl (hf : f < 88) (hpos : pos < 72) (h : Lands via (R.CEL_CTRL f pos) (R.CEL_CTRL f pos) w s) :
    busWrite via (R.CEL_CTRL f pos) 4 w.toNat true s = celCtrl f pos w (landed (R.CEL_CTRL f pos) w s) := by
  have win : winOf (R.CEL_CTRL f pos) = (.cell f pos, 0x4) := winOf_cell hf hpos (by decide)
  rw [busWrite_unit h win rfl, writeEffect, win]
  rfl

/-- The landed word is all that an injection register holds. -/
theorem busWrite_celInject (hf : f < 88) (hpos : pos < 72) (h : Lands via (R.CEL_INJECT f pos) (R.CEL_INJECT f pos) w s) :
    busWrite via (R.CEL_INJECT f pos) 4 w.toNat true s = landed (R.CEL_INJECT f pos) w s := by
  have win : winOf (R.CEL_INJECT f pos) = (.cell f pos, 0x28) := winOf_cell hf hpos (by decide)
  rw [busWrite_unit h win rfl, writeEffect, win]
  rfl

theorem busWrite_fldCtrl (hf : f < 88) (h : Lands via (R.FLD_CTRL f) (R.FLD_CTRL f) w s) :
    busWrite via (R.FLD_CTRL f) 4 w.toNat true s =
      if w.getLsbD 0 = true then fldCntClear f (landed (R.FLD_CTRL f) w s) else landed (R.FLD_CTRL f) w s := by
  have win : winOf (R.FLD_CTRL f) = (.field f, 0x4) := winOf_field hf (by decide)
  rw [busWrite_unit h win rfl, writeEffect, win]
  rfl

theorem busWrite_mshInject (hf : f < 88) (h : Lands via (R.MSH_INJECT f) (R.MSH_INJECT f) w s) :
    busWrite via (R.MSH_INJECT f) 4 w.toNat true s = landed (R.MSH_INJECT f) w s := by
  have win : winOf (R.MSH_INJECT f) = (.fieldMesh f, 0x1020) := winOf_fieldMesh hf (by decide) (by decide)
  rw [busWrite_unit h win rfl, writeEffect, win]
  rfl

theorem busWrite_mshFctrl (hf : f < 88) (h : Lands via (R.MSH_FCTRL f) (R.MSH_FCTRL f) w s) :
    busWrite via (R.MSH_FCTRL f) 4 w.toNat true s =
      if w.getLsbD 0 = true then mshCntClear f (landed (R.MSH_FCTRL f) w s) else landed (R.MSH_FCTRL f) w s := by
  have win : winOf (R.MSH_FCTRL f) = (.fieldMesh f, 0x1004) := winOf_fieldMesh hf (by decide) (by decide)
  rw [busWrite_unit h win rfl, writeEffect, win]
  rfl

theorem busWrite_vltNCtrl (hf : f < 88) (h : Lands via (R.VLT_N_CTRL f) (R.VLT_N_CTRL f) w s) :
    busWrite via (R.VLT_N_CTRL f) 4 w.toNat true s =
      if w.getLsbD 0 = true then vltNCntClear f (landed (R.VLT_N_CTRL f) w s) else landed (R.VLT_N_CTRL f) w s := by
  have win : winOf (R.VLT_N_CTRL f) = (.fieldTier f, 0x2004) := winOf_fieldTier hf (by decide) (by decide)
  rw [busWrite_unit h win rfl, writeEffect, win]
  rfl

theorem busWrite_vltCtrl (hv : v < 12) (h : Lands via (R.VLT_CTRL v) (R.VLT_CTRL v) w s) :
    busWrite via (R.VLT_CTRL v) 4 w.toNat true s =
      if w.getLsbD 0 = true then vltCntClear v (landed (R.VLT_CTRL v) w s) else landed (R.VLT_CTRL v) w s := by
  have win : winOf (R.VLT_CTRL v) = (.vault v, 0x4) := winOf_vault hv (by decide)
  rw [busWrite_unit h win rfl, writeEffect, win]
  rfl
end

/-! What CEL_CTRL sets off, a bit at a time. -/

section
variable {f pos : Nat} {w : Word} {t : State}

theorem celCtrl_fuClear (fu : w.getLsbD 2 = true) (noZero : w.getLsbD 1 = false) (noCnt : w.getLsbD 3 = false)
    (idle : planIdle t f = true) : celCtrl f pos w t = clearTags f pos t := by
  simp only [celCtrl, celFuClear, fu, noZero, noCnt, idle, if_true, Bool.false_eq_true, if_false]

theorem celCtrl_spZero (noFu : w.getLsbD 2 = false) (zero : w.getLsbD 1 = true) (noCnt : w.getLsbD 3 = false)
    (idle : planIdle t f = true) : celCtrl f pos w t = startZero f pos t := by
  simp only [celCtrl, celSpZero, noFu, zero, noCnt, idle, if_true, Bool.false_eq_true, if_false]

theorem celCtrl_cntClear (noFu : w.getLsbD 2 = false) (noZero : w.getLsbD 1 = false) (cnt : w.getLsbD 3 = true) :
    celCtrl f pos w t = celCntClear f pos t := by
  simp only [celCtrl, noFu, noZero, cnt, if_true, Bool.false_eq_true, if_false]
end

/-- Settles O17: each write arrives at its register, and the bit that is set there has its effect. -/
theorem unitClearsAndArmsTakeEffect : Obligations.UnitClearsAndArmsTakeEffect := by
  unfold Obligations.UnitClearsAndArmsTakeEffect
  intro via f pos n v s
  refine ⟨?cell, ?cellInject, ?field, ?meshInject, ?mesh, ?tierN, ?tierC⟩
  case cell =>
    intro h
    have write := busWrite_celCtrl f.isLt pos.isLt h
    exact ⟨fun fu noZero noCnt idle => congrArg Host.Outcome.next (write.trans (celCtrl_fuClear fu noZero noCnt idle)),
      fun noFu zero noCnt idle => congrArg Host.Outcome.next (write.trans (celCtrl_spZero noFu zero noCnt idle)),
      fun noFu noZero cnt => congrArg Host.Outcome.next (write.trans (celCtrl_cntClear noFu noZero cnt))⟩
  case cellInject =>
    intro h
    have armed := busWrite_celInject f.isLt pos.isLt h
    exact ⟨congrArg Host.Outcome.next armed, congrArg Host.Outcome.next armed⟩
  case field =>
    exact fun h clear => congrArg Host.Outcome.next ((busWrite_fldCtrl f.isLt h).trans (if_pos clear))
  case meshInject => exact fun h => congrArg Host.Outcome.next (busWrite_mshInject f.isLt h)
  case mesh => exact fun h clear => congrArg Host.Outcome.next ((busWrite_mshFctrl f.isLt h).trans (if_pos clear))
  case tierN =>
    intro h
    have write := busWrite_vltNCtrl f.isLt h
    exact ⟨fun keep => congrArg Host.Outcome.next (write.trans (if_neg (by rw [keep]; exact Bool.false_ne_true))),
      fun clear => congrArg Host.Outcome.next (write.trans (if_pos clear))⟩
  case tierC =>
    intro h
    have write := busWrite_vltCtrl n.isLt h
    exact ⟨fun keep => congrArg Host.Outcome.next (write.trans (if_neg (by rw [keep]; exact Bool.false_ne_true))),
      fun clear => congrArg Host.Outcome.next (write.trans (if_pos clear))⟩

/-! ### CELL_REPETITION_BEGIN (R84, R107, R123, R164, R165, R169, R393) -/

section
variable {f pos cyc i : Nat} {err : Word} {s t u : State} {e : QEntry} {q : Bool}

/-- A sentinel tile waits while a guarded slot holds MX units. -/
theorem runSentinel_held (held : (t.cell f pos).running.any (fun r => r.guarded && r.units &&& 7 != 0) = true) :
    runSentinel f pos cyc e err t = t := if_pos held

theorem runSentinel_free (free : (t.cell f pos).running.any (fun r => r.guarded && r.units &&& 7 != 0) = false)
    (hu : u = sentinelResidue f pos (t.setCell f pos { t.cell f pos with tile := some (e.sent, false), sentAt := t.fet })) :
    runSentinel f pos cyc e err t = startRep f pos cyc 512 e 0 true none
      (u.wr (R.CEL_SENT_SIG f pos) (Config.sentinel (u.rd (R.CEL_SENT_SEED f pos)) e.sent ^^^ err)) := by
  subst hu
  exact if_neg (by rw [free]; exact Bool.false_ne_true)

/-! The slot of a WORK bundle's repetition, guarded or in order. -/

section
variable {x : Slot} (hx : x = makeSlot t f pos (t.cell f pos).next i e)
include hx

theorem beginWork_stalls (guarded : slotGuarded e.word x.cluster = true) (full : 8 ≤ (waiting (t.cell f pos)).length) :
    beginWork f pos cyc e i q t = stall f pos cyc t := by
  simp only [beginWork, ← hx, guarded, full, if_true]

theorem beginWork_parks (guarded : slotGuarded e.word x.cluster = true) (room : (waiting (t.cell f pos)).length < 8) :
    beginWork f pos cyc e i q t = armGuard f pos cyc
      (bTag e.word / 4096 * 4096 + (bTag e.word % 4096 + i) % 4096) (bCount e.word) (bWindow e.word) x
      (startRep f pos cyc x.span e i q none t) := by
  simp only [beginWork, ← hx, guarded, if_true, if_neg (Nat.not_le.mpr room)]

variable (inOrder : slotGuarded e.word x.cluster = false)
include inOrder

theorem beginWork_held (held : unitsFree (t.cell f pos) x.units = false ∨ groupBusy (t.cell f pos) x.order x.seq = true) :
    beginWork f pos cyc e i q t = hold f pos cyc t := by
  have waits : (!unitsFree (t.cell f pos) x.units || groupBusy (t.cell f pos) x.order x.seq) = true := by
    rcases held with units | group
    · rw [units, Bool.not_false, Bool.true_or]
    · rw [group, Bool.or_true]
  simp only [beginWork, ← hx, inOrder, waits, Bool.false_eq_true, if_false, if_true]

/-- An in-order slot that nothing holds begins, and runs where it has units. -/
theorem beginWork_free (free : unitsFree (t.cell f pos) x.units = true)
    (group : groupBusy (t.cell f pos) x.order x.seq = false) (hu : u = startRep f pos cyc x.span e i q (some x.seq) t) :
    beginWork f pos cyc e i q t = if x.units = 0 then startRep f pos cyc x.span e i q none t
      else u.setCell f pos { u.cell f pos with
        running := (u.cell f pos).running ++ [{ slot := x, guarded := false }] } := by
  subst hu
  simp only [beginWork, ← hx, inOrder, free, group, Bool.not_true, Bool.or_self, Bool.false_eq_true, if_false]
end

/-! What the next repetition is decides what begins. -/

section
variable (h : CellTurn f pos cyc s t)
include h

theorem repetitionBegin_idle (idle : cellServes t f pos = false ∨ repEnded (t.cell f pos) cyc = false ∨
    nextRep (t.cell f pos) cyc = none ∧ nextRunTile t f pos cyc = none) : repetitionBegin f pos cyc err s = t := by
  simp only [repetitionBegin, onCell_turn h]
  rcases idle with out | busy | ⟨empty, noTile⟩
  · simp only [out, Bool.not_false, Bool.true_or, if_true]
  · simp only [busy, Bool.not_false, Bool.or_true, if_true]
  · simp only [empty, noTile, ite_self]

variable (serves : cellServes t f pos = true) (ended : repEnded (t.cell f pos) cyc = true)
include serves ended

theorem repetitionBegin_tile (empty : nextRep (t.cell f pos) cyc = none) (tile : nextRunTile t f pos cyc = some e) :
    repetitionBegin f pos cyc err s = beginRunTile f pos cyc e err t := by
  simp only [repetitionBegin, onCell_turn h, serves, ended, empty, tile, Bool.not_true, Bool.or_self, Bool.false_eq_true,
    if_false]

variable (next : nextRep (t.cell f pos) cyc = some (e, i, q))
include next

/-- A STEP bundle sweeps the tag table, and the step's scratchpad starts from what it holds. -/
theorem repetitionBegin_step (step : bKind e.word = 1) (hu : u = sweepTags f pos (startRep f pos cyc 1 e 0 true none t)) :
    repetitionBegin f pos cyc err s = u.setCell f pos { u.cell f pos with spBase := (u.cell f pos).sp } := by
  subst hu
  simp only [repetitionBegin, onCell_turn h, serves, ended, next, step, Bool.not_true, Bool.or_self, Bool.false_eq_true,
    if_false]

theorem repetitionBegin_sentinel (sentinel : bKind e.word = 2) :
    repetitionBegin f pos cyc err s = runSentinel f pos cyc e err t := by
  simp only [repetitionBegin, onCell_turn h, serves, ended, next, sentinel, Bool.not_true, Bool.or_self, Bool.false_eq_true,
    if_false]

theorem repetitionBegin_work (work : bKind e.word = 0) :
    repetitionBegin f pos cyc err s = beginWork f pos cyc e i q t := by
  simp only [repetitionBegin, onCell_turn h, serves, ended, next, work, Bool.not_true, Bool.or_self, Bool.false_eq_true,
    if_false]
end
end

/-- Settles O26: without its clock a cell does nothing; with it, the kind of the next repetition decides, and for a slot of a
WORK bundle whether it is guarded and what holds it. -/
theorem cellRepetitionsBegin : Obligations.CellRepetitionsBegin := by
  unfold Obligations.CellRepetitionsBegin
  intro f pos cyc err s t
  refine ⟨?off, fun h => ⟨fun idle => congrArg Host.Outcome.next (repetitionBegin_idle h idle), ?tile, ?next⟩⟩
  case off =>
    intro off
    exact ⟨congrArg Host.Outcome.next (onCell_off off _), fun _ _ _ => ⟨congrArg Host.Outcome.next (onCell_off off _),
      congrArg Host.Outcome.next (onCell_off off _), congrArg Host.Outcome.next (onCell_off off _)⟩⟩
  case tile =>
    intro e v serves ended empty tile hv free
    subst hv
    exact ⟨_, rfl, congrArg Host.Outcome.next
      ((repetitionBegin_tile h serves ended empty tile).trans (runSentinel_free free rfl))⟩
  case next =>
    intro e i q serves ended next
    refine ⟨fun step => congrArg Host.Outcome.next (repetitionBegin_step h serves ended next step rfl),
      fun kind held => ?held, fun kind free => ?free, fun x kind hx => ?work⟩
    case held =>
      exact congrArg Host.Outcome.next ((repetitionBegin_sentinel h serves ended next kind).trans (runSentinel_held held))
    case free =>
      exact ⟨_, rfl, congrArg Host.Outcome.next
        ((repetitionBegin_sentinel h serves ended next kind).trans (runSentinel_free free rfl))⟩
    case work =>
      have begins := repetitionBegin_work (err := err) h serves ended next kind
      exact ⟨fun guarded full => congrArg Host.Outcome.next (begins.trans (beginWork_stalls hx guarded full)),
        fun guarded room => congrArg Host.Outcome.next (begins.trans (beginWork_parks hx guarded room)),
        fun inOrder held => congrArg Host.Outcome.next (begins.trans (beginWork_held hx inOrder held)),
        fun inOrder free group some_units => ⟨_, rfl, congrArg Host.Outcome.next
          (begins.trans ((beginWork_free hx inOrder free group rfl).trans (if_neg some_units)))⟩,
        fun inOrder free group no_units => congrArg Host.Outcome.next
          (begins.trans ((beginWork_free hx inOrder free group rfl).trans (if_pos no_units)))⟩

end Sys2Proof.Machine

/-!
PROOFS. The statements of 05_cycle_plans: the plan opcodes (O3), a sequencer's bundles and the sentinel signatures (O24), what
ports, sequencers and asking commands leave alone (O60). For the first two an equation says what each command's update comes to
where its conditions hold; for the last, one relation for each kind of command says what it may reach, a lemma for each update
of the state keeps that relation, and each command is walked through by these.
-/
namespace Sys2Proof.Machine

/-! ### The plan opcodes (O3) -/

section
variable {r : Request} {data : List Byte} {s t : State}

/-! What each opcode finds free. -/

theorem planLoadOp_busy_false (part : partBusy r t = false) (idle : loading t (pByte r 0) (pByte r 1) = false) :
    (planLoadOp r data).busy t = false := by simp only [planLoadOp, part, idle, Bool.or_self]

theorem planBindOp_busy_false (part : partBusy r t = false) (stopped : planStarted t (reqPart r) = false)
    (idle : (partServing t (reqPart r)).any (fun f => loading t f (bindHandle r f)) = false) :
    (planBindOp r).busy t = false := by simp only [planBindOp, part, stopped, idle, Bool.or_self]

theorem planStopGracefulOp_busy_false (part : partBusy r t = false) (unasked : stopPending t (reqPart r) = false) :
    (planStopGracefulOp r).busy t = false := by simp only [planStopGracefulOp, part, unasked, Bool.or_self]

/-! PLAN_LOAD (R153, R154, R224). -/

/-- Data that can be read is loaded at once: the outcome is decided. -/
theorem planLoad_now (free : dataWaits t (dataRef r 4) = false) :
    planLoad r data t = .decided (.planLoad (pByte r 0) (pByte r 1) none)
      (loadPlan (pByte r 0) (pByte r 1) r data t).1 [] (loadPlan (pByte r 0) (pByte r 1) r data t).2 := by
  simp only [planLoad, free, Bool.false_eq_true, if_false]

/-- Data that mover requests reached before is loaded after them. -/
theorem planLoad_waits (waits : dataWaits t (dataRef r 4) = true) :
    planLoad r data t = .later (.planLoad (pByte r 0) (pByte r 1) (some r)) t := by
  simp only [planLoad, waits, if_true]

section
variable {f h : Nat} {img l : List Byte} {u : State}

theorem loadPlan_unread (fetched : fetchData r (dataRef r 4) data t = (none, u)) :
    loadPlan f h r data t = (stFaulted, u) := by simp only [loadPlan, fetched]

theorem loadPlan_stored (fetched : fetchData r (dataRef r 4) data t = (some l, u)) (good : loadFault u (reqPart r) f h l = none) :
    loadPlan f h r data t = (stOk, storeImage f h l u) := by simp only [loadPlan, fetched, good]

theorem loadPlan_refused {e : Nat × Nat} (fetched : fetchData r (dataRef r 4) data t = (some l, u))
    (bad : loadFault u (reqPart r) f h l = some e) :
    loadPlan f h r data t = (loadStatus e.1, recordLoadErr (reqPart r) f h e u) := by simp only [loadPlan, fetched, bad]
end

/-! PLAN_BIND, PLAN_START, PLAN_STOP (R182, R183, R184). -/

/-- A field of another partition that is named, or a field in service that cannot be bound, binds none. -/
theorem planBind_refused (h : reqPart r = 0 ∨
      allFields.any (fun f => bindHandle r f != 0 && !(partFields t (reqPart r)).contains f) = true ∨
      bindable t (partServing t (reqPart r)) (bindHandle r) = false) :
    planBind r t = .done stBadParam [] t := by
  refine if_pos ?_
  rcases h with none | other | unbindable
  · simp only [none, decide_true, Bool.true_or]
  · simp only [other, Bool.or_true, Bool.true_or]
  · simp only [unbindable, Bool.not_false, Bool.or_true]

theorem planBind_binds (tenant : reqPart r ≠ 0)
    (own : allFields.any (fun f => bindHandle r f != 0 && !(partFields t (reqPart r)).contains f) = false)
    (all : bindable t (partServing t (reqPart r)) (bindHandle r) = true) :
    planBind r t = .done stOk []
      ((t.forEach (partFields t (reqPart r)) (fun f t => (t.set (F.FLD_STATUS_BOUND f) 0).set (F.FLD_STATUS_IMAGE f) 0)).forEach
        (partServing t (reqPart r)) (fun f t => bindField f (bindHandle r f) t)) :=
  if_neg (by simp only [tenant, own, all, decide_false, Bool.not_true, Bool.or_self, Bool.false_eq_true, not_false_eq_true])

section
variable {p : Nat}

theorem planStart_refused (h : partState t p ≠ 2 ∨ (partServing t p).isEmpty = true ∨
    (partServing t p).any (fun f => !t.flag (F.FLD_STATUS_BOUND f)) = true) : planStart p t = .done stBadParam [] t := if_pos h

/-- Every field in service is started, once all are bound, and the partition is RUNNING. -/
theorem planStart_starts (ready : partState t p = 2) (some_field : (partServing t p).isEmpty = false)
    (bound : (partServing t p).any (fun f => !t.flag (F.FLD_STATUS_BOUND f)) = false) {u v : State}
    (hu : u = resetUpdates p (t.setPart p { t.part p with rerun := false, rerunRecs := [], nextRecs := [] }))
    (hv : v = { u with power := { u.power with firstPlan := some (u.power.firstPlan.getD u.fet) } }) :
    planStart p t = .done stOk [] (unqualifyFars (setPartState (v.forEach (partServing t p) startField) p 3)) := by
  subst hv hu
  exact if_neg (by simp only [ready, some_field, bound, ne_eq, not_true_eq_false, Bool.false_eq_true, or_self, not_false_eq_true])

theorem planStopGraceful_stopped (stopped : planStarted t p = false) : planStopGraceful p t = .done stOk [] t :=
  if_pos (by rw [stopped]; rfl)

theorem planStopGraceful_marks (started : planStarted t p = true) {fs : List Nat}
    (hfs : fs = (partFields t p).filter (fun f => t.flag (F.FLD_STATUS_STARTED f))) :
    planStopGraceful p t = .later (.planStop p)
      (((closeSteps p t).forEach fs (fun f t => t.set (F.FLD_STATUS_STOP_PENDING f) 1)).forEach fs
        (fun f t => if bKind (seqWord t f) = 1 then stopAtZero f t else t)) := by
  subst hfs
  exact if_neg (by rw [started]; exact Bool.false_ne_true)

theorem planStopImmediate_stopped (stopped : planStarted t p = false) : planStopImmediate p t = .done stOk [] t :=
  if_pos (by rw [stopped]; rfl)

/-- An immediate stop also completes the graceful stops of the partition that are pending. -/
theorem planStopImmediate_stops (started : planStarted t p = true) {u : State}
    (hu : u = (loseStep p (closeSteps p t)).forEach (partFields t p) stopField) :
    planStopImmediate p t = .done stOk [] (endJobs (fun w => match w with | .planStop q => q == p | _ => false) stOk []
      (if partState u p = 3 then setPartState u p 2 else u)) := by
  subst hu
  exact if_neg (by rw [started]; exact Bool.false_ne_true)
end

/-! Each opcode in its turn. -/

theorem exec_planLoad (h : ToScarab 0x20 (short r 20 || !pZero r 2 4 || decide (87 < pByte r 0) || decide (15 < pByte r 1)
      || dataRefBad r 4 || inlineShort r 4) r s) (part : partBusy r (readIn r s) = false)
    (idle : loading (readIn r s) (pByte r 0) (pByte r 1) = false) (room : inflight (readIn r s) r.src < 64) :
    exec (.planLoad r data) s = .next (conclude 0x20 r (advance r.src r.seq) (readIn r s) (planLoad r data (readIn r s))) :=
  toScarab_next (o := planLoadOp r data) h (planLoadOp_busy_false part idle) (fun _ => room) rfl

theorem exec_planBind (h : ToScarab 0x21 (short r 44) r s) (part : partBusy r (readIn r s) = false)
    (stopped : planStarted (readIn r s) (reqPart r) = false)
    (idle : (partServing (readIn r s) (reqPart r)).any (fun f => loading (readIn r s) f (bindHandle r f)) = false) :
    exec (.planBind r) s = .next (conclude 0x21 r (advance r.src r.seq) (readIn r s) (planBind r (readIn r s))) :=
  toScarab_next (o := planBindOp r) h (planBindOp_busy_false part stopped idle) nofun rfl

theorem exec_planStart (h : ToScarab 0x22 false r s) (part : partBusy r (readIn r s) = false) :
    exec (.planStart r) s = .next (conclude 0x22 r (advance r.src r.seq) (readIn r s) (planStart (reqPart r) (readIn r s))) :=
  toScarab_next (o := planStartOp r) h part nofun rfl

theorem exec_planStopGraceful (h : ToScarab 0x23 (short r 1 || pByte r 0 != 0) r s) (part : partBusy r (readIn r s) = false)
    (unasked : stopPending (readIn r s) (reqPart r) = false) (room : inflight (readIn r s) r.src < 64) :
    exec (.planStopGraceful r) s
      = .next (conclude 0x23 r (advance r.src r.seq) (readIn r s) (planStopGraceful (reqPart r) (readIn r s))) :=
  toScarab_next (o := planStopGracefulOp r) h (planStopGracefulOp_busy_false part unasked) (fun _ => room) rfl

theorem exec_planStopImmediate (h : ToScarab 0x23 (short r 1 || pByte r 0 != 1) r s) (part : partBusy r (readIn r s) = false) :
    exec (.planStopImmediate r) s
      = .next (conclude 0x23 r (advance r.src r.seq) (readIn r s) (planStopImmediate (reqPart r) (readIn r s))) :=
  toScarab_next (o := planStopImmediateOp r) h part nofun rfl
end

/-- Settles O3: each opcode's own checks decide its answer, and the command protocol puts the answer into effect. -/
theorem planOpcodesTakeEffect : Obligations.PlanOpcodesTakeEffect := by
  unfold Obligations.PlanOpcodesTakeEffect
  intro r data s
  refine ⟨?load, ?waits, ?bind, ?unbound, ?unready, ?start, ?stopped, ?graceful, ?idle, ?immediate⟩
  case load =>
    intro img u h part idle room free fetched
    rw [exec_planLoad h part idle room, planLoad_now free]
    refine ⟨?_, ?_, ?_⟩
    · rintro rfl
      rw [loadPlan_unread fetched]; rfl
    · rintro l rfl good
      rw [loadPlan_stored fetched good]; rfl
    · rintro l e rfl bad
      rw [loadPlan_refused fetched bad]; rfl
  case waits =>
    intro h part idle room waits
    rw [exec_planLoad h part idle room, planLoad_waits waits]; rfl
  case bind =>
    intro h part stopped idle tenant own all
    rw [exec_planBind h part stopped idle, planBind_binds tenant own all]; rfl
  case unbound =>
    intro h part stopped idle refused
    rw [exec_planBind h part stopped idle, planBind_refused refused]; rfl
  case unready =>
    intro h part refused
    rw [exec_planStart h part, planStart_refused refused]; rfl
  case start =>
    intro h part ready some_field bound t u ht hu
    rw [exec_planStart h part, planStart_starts ready some_field bound ht hu]; rfl
  case stopped =>
    intro h part unasked room stopped
    rw [exec_planStopGraceful h part unasked room, planStopGraceful_stopped stopped]; rfl
  case graceful =>
    intro fs h part unasked room started hfs
    rw [exec_planStopGraceful h part unasked room, planStopGraceful_marks started hfs]; rfl
  case idle =>
    intro h part stopped
    rw [exec_planStopImmediate h part, planStopImmediate_stopped stopped]; rfl
  case immediate =>
    intro u h part started hu
    rw [exec_planStopImmediate h part, planStopImmediate_stops started hu]; rfl

/-! ### Bundles and sentinels (O24) -/

section
variable {f cyc w : Nat} {s t u : State}

/-- A bundle of a lane that is off is skipped (R176). -/
theorem issueWork_skipped (off : laneOn t f w = false) : issueWork f cyc w t = goto f (seqPc t f + 1) t := by
  simp only [issueWork, off, Bool.not_false, if_true]

/-- A WORK bundle reaches every queue, once each has room (R163). -/
theorem issueWork_broadcast (on : laneOn t f w = true) (work : bKind w ≠ 5) (free : queuesFree t f = true) :
    issueWork f cyc w t = goto f (seqPc t f + 1) (broadcast f cyc w 0 t) := by
  simp only [issueWork, on, work, free, Bool.not_true, Bool.false_eq_true, if_false, if_true]

theorem issueWork_full (on : laneOn t f w = true) (work : bKind w ≠ 5) (full : queuesFree t f = false) :
    issueWork f cyc w t = backPressure f t := by
  simp only [issueWork, on, work, full, Bool.not_true, Bool.false_eq_true, if_false]

/-- A MOVE bundle posts its descriptors, once they all fit (R177). -/
theorem issueWork_posts (on : laneOn t f w = true) (move : bKind w = 5) (fit : movesFit t f w = true) :
    issueWork f cyc w t = goto f (seqPc t f + 1) (postMoves f w t) := by
  simp only [issueWork, on, move, fit, Bool.not_true, Bool.false_eq_true, if_false, if_true]

theorem issueWork_unfit (on : laneOn t f w = true) (move : bKind w = 5) (unfit : movesFit t f w = false) :
    issueWork f cyc w t = backPressure f t := by
  simp only [issueWork, on, move, unfit, Bool.not_true, Bool.false_eq_true, if_false, if_true]

variable (turn : SeqTurn f cyc w s) (taken : t = seqTaken f cyc s)
include turn taken

/-- An ungated WORK bundle issues in its turn. -/
theorem bundleIssue_turn (work : bKind w = 0) (ungated : bCond w ≠ 1) : bundleIssue f cyc s = issueWork f cyc w t := by
  subst taken
  refine (onBundle_turn turn _ (by simp [work, ungated]) _).trans ?_
  simp only [issueWork, work, show ¬ (0 = 5) by decide, if_false]

/-- An ungated MOVE bundle issues in its turn. -/
theorem moveBundle_turn (move : bKind w = 5) (ungated : bCond w ≠ 1) : moveBundle f cyc s = issueWork f cyc w t := by
  subst taken
  exact onBundle_turn turn _ (by simp [move, ungated]) _

/-- A gate that has not come is waited for (R168). -/
theorem gateDue_early (kind : bKind w = 0 ∨ bKind w = 5) (gated : bCond w = 1) (early : t.fet < gateFet t f w) :
    gateDue f cyc s = t := by
  subst taken
  exact (onBundle_turn turn _ (by simpa [gated] using kind) _).trans (if_pos early)

/-- At its FET a gated bundle issues; the gate is late where nothing was waiting for it (R168, R74). -/
theorem gateDue_due (kind : bKind w = 0 ∨ bKind w = 5) (gated : bCond w = 1) (due : gateFet t f w ≤ t.fet)
    (late : u = if (t.fieldD f).gateDone = false ∧ t.flag (F.FLD_STATUS_WAIT_GATE f) = false then
      lateGate f (t.fet - gateFet t f w) t else t) :
    gateDue f cyc s = issueWork f cyc w
      ((u.setField f { u.fieldD f with gateDone := true }).set (F.FLD_STATUS_WAIT_GATE f) 0) := by
  subst taken late
  refine (onBundle_turn turn _ (by simpa [gated] using kind) _).trans ((if_neg (Nat.not_lt.mpr due)).trans ?_)
  simp only [Bool.and_eq_true, Bool.not_eq_true']

/-- LOOP_END returns while its counter is below its trips, and clears it as it goes on (R174). -/
theorem loopEnd_turn (kind : bKind w = 3) :
    loopEnd f cyc s = if t.get (iterFld f (bLevel w)) < bTrips w then
        goto f (seqPc t f - bBack w) (t.set (iterFld f (bLevel w)) (t.get (iterFld f (bLevel w)) + 1))
      else goto f (seqPc t f + 1) (t.set (iterFld f (bLevel w)) 0) := by
  subst taken
  exact onBundle_turn turn (fun w => bKind w == 3) (beq_iff_eq.mpr kind) _

/-- END returns to bundle 0 (R156). -/
theorem endBundle_turn (kind : bKind w = 4) : endBundle f cyc s = goto f 0 t := by
  subst taken
  exact onBundle_turn turn (fun w => bKind w == 4) (beq_iff_eq.mpr kind) _

/-- A SENTINEL bundle takes the next tile index, once every queue has room (R178). -/
theorem sentinelBundle_turn (kind : bKind w = 2) :
    sentinelBundle f cyc s = if queuesFree t f then
        goto f (seqPc t f + 1) ((broadcast f cyc w (t.get (F.FLD_SENT_IDX_INDEX f)) t).set (F.FLD_SENT_IDX_INDEX f)
          (t.get (F.FLD_SENT_IDX_INDEX f) + 1))
      else backPressure f t := by
  subst taken
  exact onBundle_turn turn (fun w => bKind w == 2) (beq_iff_eq.mpr kind) _
end

/-! ### The comparison of signatures (R179, R181) -/

section
variable {f cyc i p q idx pos : Nat} {s t u : State}

/-- A tile that has ended is the cell's tile. -/
theorem tile_of_tileEnded {c : CellState} {e : Nat × Bool} (ended : tileEnded c cyc = some e) : c.tile = some e := by
  unfold tileEnded at ended
  split at ended
  · cases ended
  · exact ended

/-- A compared tile is marked, and its cell's SENTINEL flag falls; equal signatures are the pair's last agreement, unequal ones
are recorded and raised (R179, R480). -/
theorem compareTiles_ended {j : Nat} (ended : tileEnded (t.cell f p) cyc = some (idx, false))
    (marked : u = (t.set (F.CEL_STATUS_SENTINEL f p) 0).setCell f p { t.cell f p with tile := some (idx, true) }) :
    compareTiles f i j p q t = if u.rd (R.CEL_SENT_SIG f p) = u.rd (R.CEL_SENT_SIG f q) then
        u.setCell f p { u.cell f p with lastGood := (t.cell f p).sentAt }
      else raiseFault { cellEvent u f p 0x0108 1 0 with
        access := 3
        detail := leNats (64 * f + j) 2 ++ List.replicate 6 0 ++ leNats (t.cell f p).lastGood 6 } (recordSent f i j 0 u) := by
  subst marked
  simp only [compareTiles, tile_of_tileEnded ended, Option.map_some]

theorem sentSigCompare_passed (passed : cyc < (s.fieldD f).cyc) : sentSigCompare f cyc i s = s := onCycle_passed passed _

variable (ahead : (s.fieldD f).cyc ≤ cyc) (at_ : t = atCycle f cyc s)
include ahead at_

/-- A local index that no cell holds is compared with nothing. -/
theorem sentSigCompare_unheld (unheld : holderOf t f i = none) : sentSigCompare f cyc i s = t := by
  subst at_
  refine (onCycle_turn ahead _).trans ?_
  simp only [unheld]

/-- A cell that has ended no tile since its last comparison is compared with nothing. -/
theorem sentSigCompare_unended (held : holderOf t f i = some p)
    (unended : ∀ idx, tileEnded (t.cell f p) cyc ≠ some (idx, false)) : sentSigCompare f cyc i s = t := by
  subst at_
  refine (onCycle_turn ahead _).trans ?_
  dsimp only
  split
  · rfl
  · next holder =>
    cases held.symm.trans holder
    split
    · next idx ended => exact absurd ended (unended idx)
    · rfl

/-- Cells of indices that differ by 2^(s mod 6) are compared once both have ended tile s (R179). -/
theorem sentSigCompare_ended (held : holderOf t f i = some p) (ended : tileEnded (t.cell f p) cyc = some (idx, false))
    (partner : holderOf t f (i ^^^ 2 ^ (idx % 6)) = some q) :
    sentSigCompare f cyc i s = if (tileEnded (t.cell f q) cyc).any (fun e => e.1 == idx) then
      compareTiles f i (i ^^^ 2 ^ (idx % 6)) p q t else t := by
  subst at_
  refine (onCycle_turn ahead _).trans ?_
  simp only [held, ended, partner]
end

section
variable {f pos idx j : Nat} {err sig : Word} {s t : State}

theorem reserveSentinelTile_other (other : (idleReserves s f).contains pos = false) : reserveSentinelTile f pos err s = s := by
  simp only [reserveSentinelTile, other, Bool.not_false, if_true]

/-- The state in which an idle reserve has run its tile: its signature stands, and its next tile has the next index (R181). -/
def tileRun (f pos : Nat) (sig : Word) (s : State) : State :=
  ((sentinelResidue f pos (s.setCell f pos { s.cell f pos with sentIdx := (s.cell f pos).sentIdx + 1 })).wr
    (R.CEL_SENT_SIG f pos) sig).set (F.CEL_STATUS_SENTINEL f pos) 1

variable (idle : (idleReserves s f).contains pos = true) (hidx : idx = (s.cell f pos).sentIdx)
  (hj : j = (idleReserves s f).idxOf pos) (hsig : sig = Config.sentinel (s.rd (R.CEL_SENT_SEED f pos)) idx ^^^ err)
  (ht : t = tileRun f pos sig s)
include idle hidx hj hsig ht

/-- A reserve whose partner in rank does not exist only runs its tile. -/
theorem reserveSentinelTile_alone (alone : (idleReserves s f)[j ^^^ 2 ^ (idx % 3)]? = none) :
    reserveSentinelTile f pos err s = t := by
  subst ht hsig hj hidx
  simp only [reserveSentinelTile, idle, alone, Bool.not_true, Bool.false_eq_true, if_false, tileRun]

/-- A reserve is compared with its partner in rank once that one has run the tile too (R181). -/
theorem reserveSentinelTile_paired {q : Nat} (paired : (idleReserves s f)[j ^^^ 2 ^ (idx % 3)]? = some q) :
    reserveSentinelTile f pos err s = if (t.cell f q).sentIdx ≠ idx + 1 ∨ t.rd (R.CEL_SENT_SIG f q) = sig then t
      else raiseFault { cellEvent t f pos 0x0109 1 0 with access := 3 } (recordSent f j (j ^^^ 2 ^ (idx % 3)) 1 t) := by
  subst ht hsig hj hidx
  simp only [reserveSentinelTile, idle, paired, Bool.not_true, Bool.false_eq_true, if_false, tileRun]
  rfl
end

/-- Settles O24: the equations above, bundle by bundle, then the two comparisons. -/
theorem bundlesIssueAndSentinelsCompare : Obligations.BundlesIssueAndSentinelsCompare := by
  unfold Obligations.BundlesIssueAndSentinelsCompare
  refine ⟨fun f cyc w s t turn taken => ⟨?work, ?gate, ?loop, ?finish, ?move, ?sentinel⟩,
    fun f s t => ⟨?passed, ?unheld, ?unended, ?compare, ?other, ?reserve⟩⟩
  case work =>
    intro kind ungated
    have issues := bundleIssue_turn turn taken kind ungated
    have notMove : bKind w ≠ 5 := by rw [kind]; decide
    exact ⟨fun off => congrArg _ (issues.trans (issueWork_skipped off)),
      fun on free => congrArg _ (issues.trans (issueWork_broadcast on notMove free)),
      fun on full => congrArg _ (issues.trans (issueWork_full on notMove full))⟩
  case gate =>
    exact fun kind gated => ⟨fun early => congrArg _ (gateDue_early turn taken kind gated early),
      fun u due late => congrArg _ (gateDue_due turn taken kind gated due late)⟩
  case loop =>
    intro kind
    have loops := loopEnd_turn turn taken kind
    exact ⟨fun below => congrArg _ (loops.trans (if_pos below)),
      fun done => congrArg _ (loops.trans (if_neg (Nat.not_lt.mpr done)))⟩
  case finish => exact fun kind => congrArg _ (endBundle_turn turn taken kind)
  case move =>
    intro kind ungated
    have issues := moveBundle_turn turn taken kind ungated
    exact ⟨fun off => congrArg _ (issues.trans (issueWork_skipped off)),
      fun on fit => congrArg _ (issues.trans (issueWork_posts on kind fit)),
      fun on unfit => congrArg _ (issues.trans (issueWork_unfit on kind unfit))⟩
  case sentinel =>
    intro kind
    have issues := sentinelBundle_turn turn taken kind
    exact ⟨fun free => congrArg _ (issues.trans (if_pos free)),
      fun full => congrArg _ (issues.trans (if_neg (by rw [full]; exact Bool.false_ne_true)))⟩
  case passed => exact fun cyc i passed => congrArg _ (sentSigCompare_passed passed)
  case unheld => exact fun cyc i ahead at_ unheld => congrArg _ (sentSigCompare_unheld ahead at_ unheld)
  case unended => exact fun cyc i p ahead at_ held unended => congrArg _ (sentSigCompare_unended ahead at_ held unended)
  case compare =>
    intro cyc i p q idx u ahead at_ held ended partner marked
    have effect := sentSigCompare_ended ahead at_ held ended partner
    have compared := compareTiles_ended (i := i) (q := q) (j := i.val ^^^ 2 ^ (idx % 6)) ended marked
    exact ⟨fun apart => congrArg _ (effect.trans (if_neg (by rw [apart]; exact Bool.false_ne_true))),
      fun both same => congrArg _ ((effect.trans (if_pos both)).trans (compared.trans (if_pos same))),
      fun both differ => congrArg _ ((effect.trans (if_pos both)).trans (compared.trans (if_neg differ)))⟩
  case other => exact fun pos err other => congrArg _ (reserveSentinelTile_other other)
  case reserve =>
    intro pos err sig idx j idle hidx hj hsig ht
    have run : t = tileRun f pos sig s := by rw [ht, hidx]; rfl
    refine ⟨fun alone => congrArg _ (reserveSentinelTile_alone idle hidx hj hsig run alone), fun q paired => ?_⟩
    have effect := reserveSentinelTile_paired idle hidx hj hsig run paired
    exact ⟨fun agrees => congrArg _ (effect.trans (if_pos agrees)),
      fun ran differs => congrArg _ (effect.trans (if_neg (by simp [ran, differs])))⟩

/-! ### What a port's command reaches (O60) -/

/-- The registers in which a port's state shows. -/
def PortReg (n off : Nat) : Prop := off ∈ [R.SNL_STATUS n, R.SNL_RETRAIN_LO n, R.SNL_RETRAIN_HI n]

theorem portReg_status (n : Nat) : PortReg n (R.SNL_STATUS n) := .head _
theorem portReg_retrainLo (n : Nat) : PortReg n (R.SNL_RETRAIN_LO n) := .tail _ (.head _)
theorem portReg_retrainHi (n : Nat) : PortReg n (R.SNL_RETRAIN_HI n) := .tail _ (.tail _ (.head _))

/-- Nothing but one port has changed, its own registers and what was emitted. -/
structure PortReach (n : Nat) (s t : State) : Prop where
  frame : ∃ regs ports out, t = { s with regs := regs, ports := ports, out := out }
  port : ∀ m : Nat, m ≠ n → t.port m = s.port m
  rd : ∀ off, ¬ PortReg n off → t.rd off = s.rd off

section
variable {n : Nat} {a s t : State} (h : PortReach n a s)

theorem PortReach.refl (n : Nat) (s : State) : PortReach n s s := ⟨⟨_, _, _, rfl⟩, fun _ _ => rfl, fun _ _ => rfl⟩

include h

theorem PortReach.wr {off : Nat} {w : Word} (own : PortReg n off) : PortReach n a (s.wr off w) where
  frame := by obtain ⟨_, _, _, rfl⟩ := h.frame; exact ⟨_, _, _, rfl⟩
  port := h.port
  rd o other := (AMap.get_put_ne _ _ _ _ (fun e : o = off => other (e ▸ own))).trans (h.rd o other)

theorem PortReach.set {f : Fld} {v : Nat} (own : PortReg n f.reg) : PortReach n a (s.set f v) := h.wr own

theorem PortReach.setPort {d : PortState} : PortReach n a (s.setPort n d) where
  frame := by obtain ⟨_, _, _, rfl⟩ := h.frame; exact ⟨_, _, _, rfl⟩
  port m other := (AMap.get_put_ne _ _ _ _ other).trans (h.port m other)
  rd := h.rd

theorem PortReach.emit {o : Output} : PortReach n a (s.emit o) where
  frame := by obtain ⟨_, _, _, rfl⟩ := h.frame; exact ⟨_, _, _, rfl⟩
  port := h.port
  rd := h.rd

theorem PortReach.ite {p : Prop} [Decidable p] (k : PortReach n a t) : PortReach n a (if p then t else s) := by
  split
  · exact k
  · exact h

/-! Port states (R318, R319), margin monitors and rate changes (R323, R324). -/

theorem portTo_reach (st : Nat) : PortReach n a (portTo n st s) :=
  ((((((h.set (portReg_status n)).set (portReg_status n)).set (portReg_status n)).wr (portReg_retrainLo n)).wr
    (portReg_retrainHi n))).setPort

theorem toDetect_reach : PortReach n a (toDetect n s) := (portTo_reach h 2).setPort

theorem signalDetect_reach : PortReach n a (signalDetect n s) := h.ite (toDetect_reach h)

theorem blockLock_reach : PortReach n a (blockLock n s) := h.ite (h.set (portReg_status n))

theorem detectTimeout_reach : PortReach n a (detectTimeout n s) := h.ite (portTo_reach h 1)

theorem trainConverged_reach : PortReach n a (trainConverged n s) := h.ite (h.set (portReg_status n))

theorem wakeBurst_reach : PortReach n a (wakeBurst n s) := h.ite h.setPort.emit

theorem marginArm_reach : PortReach n a (marginArm n s) := h.ite (h.set (portReg_status n))

theorem rateProposal_reach (slot : Nat) : PortReach n a (rateProposal n slot s) := h.ite h.setPort

theorem rateChange_reach : PortReach n a (rateChange n s) := by
  unfold rateChange
  split
  · exact h
  · exact ((h.set (portReg_status n)).setPort).ite h
end

/-- A command that moves a port through its states, arms its margin monitor or agrees a rate reaches that port alone. -/
theorem portCommand_reach {n : Fin 64} {slot : Nat} {c : Instr} {s t : State}
    (listed : c ∈ [.partnerSignalDetect n, .blockLock n, .detectTimeout n, .trainConverged n, .wakeBurst n, .marginMonitorArm n,
      .rateChangeProposal ⟨n, slot⟩, .rateChange n]) (ran : exec c s = .next t) : PortReach n s t := by
  have start := PortReach.refl n s
  simp only [List.mem_cons, List.not_mem_nil, or_false] at listed
  rcases listed with rfl | rfl | rfl | rfl | rfl | rfl | rfl | rfl <;> cases ran
  · exact signalDetect_reach start
  · exact blockLock_reach start
  · exact detectTimeout_reach start
  · exact trainConverged_reach start
  · exact wakeBurst_reach start
  · exact marginArm_reach start
  · exact rateProposal_reach start slot
  · exact rateChange_reach start

/-! ### What a sequencer's command reaches (O60) -/

/-- The registers that a sequencer shows itself in: its field's, the status of its field's cells, and the status of the partition
that holds the field. -/
def SeqReg (f p off : Nat) : Prop :=
  off ∈ [R.FLD_STATUS f, R.FLD_PC f, R.FLD_LOOP01 f, R.FLD_LOOP23 f, R.FLD_BP_CYCLES f, R.FLD_SENT_IDX f, R.PRT_STATUS p] ∨
    ∃ pos, pos < 72 ∧ (off = R.CEL_STATUS f pos ∨ off = R.CEL_FU_STATUS f pos)

section
variable (f p : Nat)

theorem seqReg_status : SeqReg f p (R.FLD_STATUS f) := .inl (by simp)
theorem seqReg_pc : SeqReg f p (R.FLD_PC f) := .inl (by simp)
theorem seqReg_bpCycles : SeqReg f p (R.FLD_BP_CYCLES f) := .inl (by simp)
theorem seqReg_sentIdx : SeqReg f p (R.FLD_SENT_IDX f) := .inl (by simp)
theorem seqReg_prtStatus : SeqReg f p (R.PRT_STATUS p) := .inl (by simp)
theorem seqReg_celStatus {pos : Nat} (h : pos < 72) : SeqReg f p (R.CEL_STATUS f pos) := .inr ⟨pos, h, .inl rfl⟩
theorem seqReg_celFuStatus {pos : Nat} (h : pos < 72) : SeqReg f p (R.CEL_FU_STATUS f pos) := .inr ⟨pos, h, .inr rfl⟩

theorem seqReg_iter (l : Nat) : SeqReg f p (iterFld f l).reg := by
  unfold iterFld
  split <;> exact .inl (by simp [F.FLD_LOOP01_ITER0, F.FLD_LOOP01_ITER1, F.FLD_LOOP23_ITER2, F.FLD_LOOP23_ITER3])

/-- Below the fields' windows it shows itself in partition status registers alone. -/
theorem not_seqReg_of_lt {off : Nat} (low : off < 0x800000) (other : off % 64 ≠ 0) : ¬ SeqReg f p off := by
  simp only [SeqReg, List.mem_cons, List.not_mem_nil, or_false, R.FLD_STATUS, R.FLD_PC, R.FLD_LOOP01, R.FLD_LOOP23,
    R.FLD_BP_CYCLES, R.FLD_SENT_IDX, R.PRT_STATUS, R.CEL_STATUS, R.CEL_FU_STATUS]
  rintro (listed | ⟨pos, -, listed⟩) <;> omega
end

/-- A cell's scratchpad, its accumulators and its vector registers hold what they held. -/
structure SameData (c d : CellState) : Prop where
  sp : d.sp = c.sp
  acc : d.acc = c.acc
  vregs : d.vregs = c.vregs
  active : d.active = c.active

/-- Nothing but one field's sequencer has changed, the firing units and queues of its cells, and the registers these show
themselves in. -/
structure SeqReach (f : Nat) (s t : State) : Prop where
  canon : Canon t
  frame : ∃ regs fields cells, t = { s with regs := regs, fields := fields, cells := cells }
  field : ∀ g : Nat, g ≠ f → t.fieldD g = s.fieldD g
  tierN : (t.fieldD f).tierN = (s.fieldD f).tierN
  store : (t.fieldD f).store = (s.fieldD f).store
  otherCell : ∀ g pos : Nat, g ≠ f → pos < 72 → t.cell g pos = s.cell g pos
  cell : ∀ pos, pos < 72 → SameData (s.cell f pos) (t.cell f pos)
  rd : ∀ off, ¬ SeqReg f (ownerOf s f) off → t.rd off = s.rd off

section
variable {f cyc : Nat} {a s t : State}

theorem SeqReach.refl (canon : Canon s) : SeqReach f s s :=
  ⟨canon, ⟨_, _, _, rfl⟩, fun _ _ => rfl, rfl, rfl, fun _ _ _ _ => rfl, fun _ _ => ⟨rfl, rfl, rfl, rfl⟩, fun _ _ => rfl⟩

variable (h : SeqReach f a s)
include h

theorem SeqReach.wr {off : Nat} {w : Word} (own : SeqReg f (ownerOf a f) off) : SeqReach f a (s.wr off w) where
  canon := (State.wr_keeps (Keeps.refl s)).canon h.canon
  frame := by obtain ⟨_, _, _, rfl⟩ := h.frame; exact ⟨_, _, _, rfl⟩
  field := h.field
  tierN := h.tierN
  store := h.store
  otherCell := h.otherCell
  cell := h.cell
  rd o other := (State.rd_wr_other h.canon _ _ _ (fun e : o = off => other (e ▸ own))).trans (h.rd o other)

theorem SeqReach.set {g : Fld} {v : Nat} (own : SeqReg f (ownerOf a f) g.reg) : SeqReach f a (s.set g v) := h.wr own

theorem SeqReach.count {g : Fld} {k : Nat} (own : SeqReg f (ownerOf a f) g.reg) : SeqReach f a (s.count g k) := h.set own

theorem SeqReach.ite {p : Prop} [Decidable p] (k : SeqReach f a t) : SeqReach f a (if p then t else s) := by
  split
  · exact k
  · exact h

theorem SeqReach.high {g : Fld} {v : Nat} (own : SeqReg f (ownerOf a f) g.reg) : SeqReach f a (s.high g v) :=
  h.ite (h.set own)

/-- The field's data changes beside its Tier N and its plan store. -/
theorem SeqReach.setField {d : FieldState} (tierN : d.tierN = (s.fieldD f).tierN) (store : d.store = (s.fieldD f).store) :
    SeqReach f a (s.setField f d) where
  canon := (State.setField_keeps (Keeps.refl s)).canon h.canon
  frame := by obtain ⟨_, _, _, rfl⟩ := h.frame; exact ⟨_, _, _, rfl⟩
  field g other := (State.setField_other h.canon f g d other).trans (h.field g other)
  tierN := by rw [State.setField_same h.canon, tierN, h.tierN]
  store := by rw [State.setField_same h.canon, store, h.store]
  otherCell := h.otherCell
  cell := h.cell
  rd := h.rd

/-- A cell of the field changes beside its data. -/
theorem SeqReach.setCell {pos : Nat} {c : CellState} (here : pos < 72) (same : SameData (s.cell f pos) c) :
    SeqReach f a (s.setCell f pos c) where
  canon := (State.setCell_keeps (Keeps.refl s)).canon h.canon
  frame := by obtain ⟨_, _, _, rfl⟩ := h.frame; exact ⟨_, _, _, rfl⟩
  field := h.field
  tierN := h.tierN
  store := h.store
  otherCell g k other lt := (State.setCell_other h.canon f pos g k c (by omega)).trans (h.otherCell g k other lt)
  cell k lt := by
    have kept := h.cell k lt
    by_cases e : k = pos
    · subst e
      rw [State.setCell_same h.canon]
      exact ⟨same.sp.trans kept.sp, same.acc.trans kept.acc, same.vregs.trans kept.vregs, same.active.trans kept.active⟩
    · rw [State.setCell_other h.canon f pos f k c (by omega)]
      exact kept
  rd := h.rd

theorem SeqReach.foldl {α : Type} {l : List α} {g : State → α → State}
    (k : ∀ t e, e ∈ l → SeqReach f a t → SeqReach f a (g t e)) : SeqReach f a (l.foldl g s) := by
  induction l generalizing s with
  | nil => exact h
  | cons e l ih => exact ih (k s e List.mem_cons_self h) (fun t x hx => k t x (List.mem_cons_of_mem _ hx))

theorem SeqReach.forEach {l : List Nat} {g : Nat → State → State}
    (k : ∀ e t, e ∈ l → SeqReach f a t → SeqReach f a (g e t)) : SeqReach f a (s.forEach l g) := h.foldl (fun t e => k e t)

/-- The field's partition is the same: no field mask has changed. -/
theorem SeqReach.owner : ownerOf s f = ownerOf a f := by
  have mask : ∀ p ∈ [1, 2, 3, 4, 5, 6, 7], partMask s p = partMask a p := by
    intro p hp
    have lt : p < 8 := by simp only [List.mem_cons, List.not_mem_nil, or_false] at hp; omega
    have kept : ∀ off, off < 0x800000 → off % 64 ≠ 0 → s.rd off = a.rd off :=
      fun off low other => h.rd off (not_seqReg_of_lt _ _ low other)
    unfold partMask R.PRT_FIELDS0 R.PRT_FIELDS1 R.PRT_FIELDS2
    rw [kept _ (by omega) (by omega), kept _ (by omega) (by omega), kept _ (by omega) (by omega)]
  unfold ownerOf
  rw [List.find?_congr (fun p hp => by rw [mask p hp])]

/-! Cells and their firing units (R103, R104, R107). -/

theorem putCell_reach {pos : Nat} {c : CellState} (here : pos < 72) (same : SameData (s.cell f pos) c) :
    SeqReach f a (putCell f pos c s) :=
  (((h.setCell here same).set (seqReg_celStatus _ _ here)).set (seqReg_celStatus _ _ here)).high (seqReg_celFuStatus _ _ here)

theorem fireDue_reach {l : List (Fin 72 × Nat × Nat)} : SeqReach f a (fireDue f l s) :=
  h.foldl (fun _ e _ k => putCell_reach k e.1.isLt ⟨rfl, rfl, rfl, rfl⟩)

theorem atCycle_reach : SeqReach f a (atCycle f cyc s) := h.ite (fireDue_reach (h.setField (by rfl) (by rfl)))

theorem clearTags_reach {pos : Nat} (here : pos < 72) : SeqReach f a (clearTags f pos s) :=
  putCell_reach (h.setField (by rfl) (by rfl)) here (by exact ⟨rfl, rfl, rfl, rfl⟩)

/-! The sequencer's place (R163, R167, R168, R184). -/

theorem haltSeq_reach : SeqReach f a (haltSeq f s) :=
  ((((h.set (seqReg_status _ _)).set (seqReg_status _ _)).set (seqReg_status _ _)).set (seqReg_status _ _)).set
    (seqReg_status _ _)

theorem stopAtZero_reach : SeqReach f a (stopAtZero f s) := by
  have cleared := (haltSeq_reach h).forEach (l := List.range 72) (fun _ _ here k => clearTags_reach k (List.mem_range.mp here))
  exact cleared.ite (cleared.set (h.owner ▸ seqReg_prtStatus _ _))

theorem arrive_reach : SeqReach f a (arrive f s) := by
  have at_ := h.setField (d := { s.fieldD f with gateDone := false }) rfl rfl
  unfold arrive
  refine SeqReach.ite ?other ?step
  case other => exact (at_.set (seqReg_status _ _)).set (seqReg_status _ _)
  case step => exact ((at_.set (seqReg_status _ _)).set (seqReg_status _ _)).ite (stopAtZero_reach at_)

theorem goto_reach (pc : Nat) : SeqReach f a (goto f pc s) := arrive_reach (h.set (seqReg_pc _ _))

theorem backPressure_reach : SeqReach f a (backPressure f s) := (h.set (seqReg_status _ _)).count (seqReg_bpCycles _ _)

theorem broadcast_reach (w sent : Nat) : SeqReach f a (broadcast f cyc w sent s) :=
  (h.set (seqReg_status _ _)).forEach (fun _ _ serves k =>
    (k.setCell (List.mem_range.mp (List.mem_of_mem_filter serves)) (by exact ⟨rfl, rfl, rfl, rfl⟩)).high
      (by exact seqReg_status _ _))

theorem onBundle_reach {kind : Nat → Bool} {g : Nat → State → State} (k : ∀ w t, SeqReach f a t → SeqReach f a (g w t)) :
    SeqReach f a (onBundle f cyc kind s g) := by
  have now := atCycle_reach (cyc := cyc) h
  unfold onBundle onCycle
  exact SeqReach.ite ((k _ _ (now.setField (by rfl) (by rfl))).ite now) h

/-! The four commands (R163, R174, R156, R178). -/

theorem bundleIssue_reach : SeqReach f a (bundleIssue f cyc s) :=
  onBundle_reach h (fun w _ k =>
    SeqReach.ite ((backPressure_reach k).ite (goto_reach (broadcast_reach k w 0) _)) (goto_reach k _))

theorem loopEnd_reach : SeqReach f a (loopEnd f cyc s) :=
  onBundle_reach h (fun _ _ k =>
    SeqReach.ite (goto_reach (k.set (seqReg_iter _ _ _)) _) (goto_reach (k.set (seqReg_iter _ _ _)) _))

theorem endBundle_reach : SeqReach f a (endBundle f cyc s) := onBundle_reach h (fun _ _ k => goto_reach k 0)

theorem sentinelBundle_reach : SeqReach f a (sentinelBundle f cyc s) :=
  onBundle_reach h (fun w _ k => (backPressure_reach k).ite (goto_reach ((broadcast_reach k w _).set (seqReg_sentIdx _ _)) _))
end

/-- A sequencer's bundle or loop reaches its field, its cells' queues and firing units, and its partition's status alone. -/
theorem seqCommand_reach {f : Fin 88} {cyc : Nat} {c : Instr} {s t : State} (canon : Canon s)
    (listed : c ∈ [.bundleIssue f cyc, .loopEnd f cyc, .endBundle f cyc, .sentinelBundle f cyc]) (ran : exec c s = .next t) :
    SeqReach f s t := by
  have start := SeqReach.refl (f := f) canon
  simp only [List.mem_cons, List.not_mem_nil, or_false] at listed
  rcases listed with rfl | rfl | rfl | rfl <;> cases ran
  · exact bundleIssue_reach start
  · exact loopEnd_reach start
  · exact endBundle_reach start
  · exact sentinelBundle_reach start

/-! ### What an asking request reaches (O60) -/

/-- Nothing but queues, rings and registers has changed, what was emitted, and the ports where the request came over one. -/
structure AskReach (src : Source) (s t : State) : Prop where
  frame : ∃ regs queues rings ports out dropped, t =
    { s with regs := regs, queues := queues, rings := rings, ports := ports, out := out, mgmtDropped := dropped }
  ports : (∀ c n, src ≠ .snl c n) → t.ports = s.ports

/-- The same, where the completion ring of the request's queue can be written. -/
structure Asked (src : Source) (s t : State) : Prop extends AskReach src s t where
  ringsCanon : AMap.wf (fun _ => {}) t.rings = true
  writable : ∀ ep q fn, src = .pcie ep q fn → (ringOf t ep q).failing = false

section
variable {src : Source} {a s t : State}

theorem AskReach.refl (src : Source) (s : State) : AskReach src s s := ⟨⟨_, _, _, _, _, _, rfl⟩, fun _ => rfl⟩

theorem AskReach.dropped : AskReach src s { s with mgmtDropped := s.mgmtDropped + 1 } :=
  ⟨⟨_, _, _, _, _, _, rfl⟩, fun _ => rfl⟩

section
variable (h : AskReach src a s)
include h

theorem AskReach.wr {off : Nat} {w : Word} : AskReach src a (s.wr off w) where
  frame := by obtain ⟨_, _, _, _, _, _, rfl⟩ := h.frame; exact ⟨_, _, _, _, _, _, rfl⟩
  ports := h.ports

theorem AskReach.queues {l : List QueueData} : AskReach src a { s with queues := l } where
  frame := by obtain ⟨_, _, _, _, _, _, rfl⟩ := h.frame; exact ⟨_, _, _, _, _, _, rfl⟩
  ports := h.ports

theorem AskReach.putRing {ep q : Nat} {d : RingData} : AskReach src a (s.putRing ep q d) where
  frame := by obtain ⟨_, _, _, _, _, _, rfl⟩ := h.frame; exact ⟨_, _, _, _, _, _, rfl⟩
  ports := h.ports

theorem AskReach.emit {o : Output} : AskReach src a (s.emit o) where
  frame := by obtain ⟨_, _, _, _, _, _, rfl⟩ := h.frame; exact ⟨_, _, _, _, _, _, rfl⟩
  ports := h.ports

theorem AskReach.setPort {n : Nat} {d : PortState} (link : ∃ c m, src = .snl c m) : AskReach src a (s.setPort n d) where
  frame := by obtain ⟨_, _, _, _, _, _, rfl⟩ := h.frame; exact ⟨_, _, _, _, _, _, rfl⟩
  ports other := by obtain ⟨c, m, e⟩ := link; exact absurd e (other c m)

/-! Reading a request (R370, R371, R377). -/

theorem openQueue_askReach {r : Request} : AskReach src a (openQueue r s) := by
  have freed : AskReach src a (freeSnlQueue r.src s) := by
    unfold freeSnlQueue
    split
    · exact h.queues
    · exact h
  unfold openQueue
  split
  · exact h
  · split
    · exact h.queues
    · exact freed.queues

theorem readEntry_askReach {r : Request} : AskReach src a (readEntry r s) := by
  unfold readEntry
  split
  · exact h.wr.putRing
  · exact h
end

/-- A request as it is read, its ring access completing: the ring of its queue can be written. -/
theorem readIn_asked {r : Request} (canon : Canon s) (ring : r.ringOk = true) : Asked r.src s (readIn r s) where
  toAskReach := readEntry_askReach (openQueue_askReach (AskReach.refl _ s))
  ringsCanon := ((readIn_keeps (Keeps.refl s)).canon canon).rings
  writable ep q fn e := by
    have opened := ((openQueue_keeps (r := r) (Keeps.refl s)).canon canon).rings
    have failing : (ringOf (readIn r s) ep q).failing = !r.ringOk := by
      unfold readIn readEntry
      rw [e]
      exact congrArg RingData.failing (AMap.get_put_same _ _ _ opened)
    rw [failing, ring, Bool.not_true]

section
variable (h : Asked src a s)
include h

theorem Asked.wr {off : Nat} {w : Word} : Asked src a (s.wr off w) := ⟨h.toAskReach.wr, h.ringsCanon, h.writable⟩

theorem Asked.set {f : Fld} {v : Nat} : Asked src a (s.set f v) := h.wr

theorem Asked.queues {l : List QueueData} : Asked src a { s with queues := l } := ⟨h.toAskReach.queues, h.ringsCanon, h.writable⟩

theorem Asked.putQueue {q : QueueData} : Asked src a (s.putQueue q) := h.queues

theorem Asked.emit {o : Output} : Asked src a (s.emit o) := ⟨h.toAskReach.emit, h.ringsCanon, h.writable⟩

theorem Asked.setPort {n : Nat} {d : PortState} (link : ∃ c m, src = .snl c m) : Asked src a (s.setPort n d) :=
  ⟨h.toAskReach.setPort link, h.ringsCanon, h.writable⟩

/-- A ring changes and can still be written. -/
theorem Asked.putRing {ep q : Nat} {d : RingData} (writes : d.failing = false) : Asked src a (s.putRing ep q d) where
  toAskReach := h.toAskReach.putRing
  ringsCanon := AMap.wf_put _ _ h.ringsCanon
  writable e k fn hsrc := by
    by_cases key : 8 * e.val + k.val = 8 * ep + q
    · have stored : ringOf (s.putRing ep q d) e k = d := by
        unfold ringOf
        rw [key]
        exact AMap.get_put_same _ _ _ h.ringsCanon
      rw [stored, writes]
    · exact (congrArg RingData.failing (AMap.get_put_ne _ _ _ _ key)).trans (h.writable e k fn hsrc)

theorem Asked.ite {p : Prop} [Decidable p] (k : Asked src a t) : Asked src a (if p then t else s) := by
  split
  · exact k
  · exact h

/-! Sequence numbers, replies kept and replies sent (R370, R372, R376, R377). -/

theorem setNext_asked {x : Source} {n : BitVec 32} : Asked src a (setNext x n s) := by
  unfold setNext
  split
  · exact h.wr
  · exact h.putQueue

theorem setVer_asked {x : Source} {v : Nat} : Asked src a (setVer x v s) := by
  unfold setVer
  split
  · exact h.set
  · exact h.putQueue

theorem advance_asked {x : Source} {seq : BitVec 32} : Asked src a (advance x seq s) :=
  setNext_asked (h.putQueue.ite h)

theorem storeReply_asked {x : Source} {r : Reply} : Asked src a (storeReply x r s) := h.putQueue

/-- A reply to a ring that can be written leaves the ring so; it takes an entry, or waits for one (R370). -/
theorem ringReply_asked {ep : Fin 2} {q fn : Fin 8} (hsrc : src = .pcie ep q fn) {opcode : Nat} {r : Reply} {more : Bool} :
    Asked src a (ringReply ep q src opcode r more s) := by
  unfold ringReply
  dsimp only
  rw [h.writable ep q fn hsrc]
  simp only [Bool.false_eq_true, if_false]
  refine Asked.ite (.ite (.ite ?silent ?raised) ?waits) h
  case waits => exact (h.putRing (by rfl)).set
  case silent => exact h.emit.putRing (by rfl)
  case raised => exact (h.emit.putRing (by rfl)).emit

/-- A frame that waits at a port: a reply over SNL. -/
theorem enqueue_asked {n : Nat} {fr : Frame} (link : ∃ c m, src = .snl c m) : Asked src a (enqueue n fr s) :=
  (h.setPort link).ite h.wr

theorem sendFrame_asked {fr : Frame} (link : ∃ c m, src = .snl c m) : Asked src a (sendFrame fr s) := by
  unfold sendFrame
  split
  · exact enqueue_asked h link
  · exact h

theorem replyPacket_asked {opcode : Nat} {r : Reply} {more : Bool} : Asked src a (replyPacket src opcode r more s) := by
  unfold replyPacket
  split
  · next ep q fn => exact ringReply_asked h rfl
  · next c n => exact sendFrame_asked h ⟨c, n, rfl⟩
  · exact h.emit

theorem sendPackets_asked {opcode : Nat} {r : Reply} {l : List (List Byte)} : Asked src a (sendPackets src opcode r l s) := by
  induction l generalizing s with
  | nil => exact h
  | cons p l ih =>
    cases l with
    | nil => exact replyPacket_asked h
    | cons q l => exact ih (replyPacket_asked h)

theorem sendReply_asked {opcode : Nat} {r : Reply} : Asked src a (sendReply src opcode r s) := sendPackets_asked h

end
end

section
variable {r : Request} {a s t : State} {op : Nat}

theorem answer_asked (h : Asked r.src a s) {status : Nat} {result : List Byte} : Asked r.src a (answer r op status result s) :=
  sendReply_asked (storeReply_asked h)

theorem answerOnly_asked (h : Asked r.src a s) {status : Nat} {result : List Byte} :
    Asked r.src a (answerOnly r op status result s) := sendReply_asked h

theorem replay_asked (h : Asked r.src a s) : Asked r.src a (replay op r s) := by
  unfold replay
  split
  · exact sendReply_asked h
  · split
    · exact sendReply_asked h
    · exact answerOnly_asked h

theorem holdRequest_asked (h : Asked r.src a s) {i : Instr} : Asked r.src a (holdRequest i r s) := h.putQueue

/-- An opcode that only asks is done at once; it changes nothing beside the version of its queue. -/
def Asks (r : Request) (o : ScpOp) : Prop :=
  ∀ t, ∃ st res, o.body t = .done st res t ∨ ∃ v, o.body t = .done st res (setVer r.src v t)

theorem asks_nop : Asks r nopOp := fun _ => ⟨_, _, .inl rfl⟩
theorem asks_identify : Asks r identifyOp := fun _ => ⟨_, _, .inl rfl⟩
theorem asks_timeQuery : Asks r (timeQueryOp r) := fun _ => ⟨_, _, .inl rfl⟩

theorem asks_negotiate : Asks r (negotiateOp r) := by
  intro t
  by_cases none : (settled r).1 = 0
  · exact ⟨_, _, .inl (if_pos none)⟩
  · exact ⟨_, _, .inr ⟨_, if_neg none⟩⟩

theorem conclude_asked {o : ScpOp} (asks : Asks r o) (h : Asked r.src a s) :
    Asked r.src a (conclude op r (advance r.src r.seq) s (o.body s)) := by
  obtain ⟨st, res, same | ⟨v, settles⟩⟩ := asks s
  · rw [same]; exact answer_asked (advance_asked h)
  · rw [settles]; exact answer_asked (advance_asked (setVer_asked h))

/-- Wherever its sequence number stands, an asking request is answered, replayed or held (R377, R378, R382). -/
theorem serve_asked {i : Instr} {o : ScpOp} (asks : Asks r o) (h : Asked r.src a s) : Asked r.src a (serve i o r s) := by
  unfold serve
  dsimp only
  refine Asked.ite (.ite (.ite (.ite (.ite (answerOnly_asked h) (holdRequest_asked h)) (answerOnly_asked h)) (replay_asked h))
    (Asked.ite ?turn (holdRequest_asked h))) (replay_asked h)
  split
  · exact answer_asked (advance_asked h)
  · exact Asked.ite (.ite (conclude_asked asks h) (answerOnly_asked h)) (answer_asked (advance_asked h))

/-- An asking request whose ring access completes. -/
theorem scarab_askReach {i : Instr} {o : ScpOp} (asks : Asks r o) (canon : Canon s) (ring : r.ringOk = true) :
    AskReach r.src s (scarab i o r s) := by
  have served := (serve_asked (i := i) asks (readIn_asked canon ring)).toAskReach
  unfold scarab atFrontEnd
  split
  · exact .refl _ _
  · split
    · exact .dropped
    · split
      · next c n link =>
        have unread : Asked r.src s s := ⟨.refl _ _, canon.rings, fun _ _ _ e => by rw [link] at e; cases e⟩
        split
        · exact (answerOnly_asked unread).toAskReach
        · exact served
      · exact served
end

/-- A request that only asks, whose ring access completes, reaches its queue, its ring and the port of its reply alone. -/
theorem askCommand_reach {r : Request} {c : Instr} {s t : State} (canon : Canon s)
    (listed : c ∈ [.nop r, .identify r, .negotiate r, .timeQuery r]) (ring : r.ringOk = true) (ran : exec c s = .next t) :
    AskReach r.src s t := by
  simp only [List.mem_cons, List.not_mem_nil, or_false] at listed
  rcases listed with rfl | rfl | rfl | rfl <;> cases ran
  · exact scarab_askReach asks_nop canon ring
  · exact scarab_askReach asks_identify canon ring
  · exact scarab_askReach asks_negotiate canon ring
  · exact scarab_askReach asks_timeQuery canon ring

/-- Settles O60: what each kind of command reaches leaves the rest as it was. -/
theorem commandsStayInTheirUnit : Obligations.CommandsStayInTheirUnit := by
  unfold Obligations.CommandsStayInTheirUnit
  intro s t canon
  refine ⟨fun n slot c listed ran => ?port, fun f cyc c listed ran => ?sequencer, fun r c listed ring ran => ?asking⟩
  case port =>
    obtain ⟨⟨regs, ports, out, rfl⟩, port, rd⟩ := portCommand_reach listed ran
    exact ⟨⟨rfl, rfl, rfl, rfl, rfl, rfl⟩, ⟨rfl, rfl, rfl, rfl, rfl, rfl, rfl, rfl, rfl, rfl, rfl⟩, rfl, rfl, rfl, port, rd⟩
  case sequencer =>
    obtain ⟨-, ⟨regs, fields, cells, rfl⟩, field, tierN, store, otherCell, cell, rd⟩ := seqCommand_reach canon listed ran
    refine ⟨⟨rfl, rfl, rfl, rfl, rfl, rfl⟩, ⟨rfl, rfl, rfl, rfl, rfl, rfl, rfl, rfl, rfl, rfl, rfl⟩, rfl, rfl, rfl, rfl, field,
      tierN, store, otherCell, fun pos lt => ?_, fun off field_regs cell_regs => rd off ?_⟩
    · obtain ⟨sp, acc, vregs, active⟩ := cell pos lt
      exact ⟨sp, acc, vregs, active⟩
    · rintro (listed | ⟨pos, lt, status | fu⟩)
      · exact field_regs listed
      · exact (cell_regs pos lt).1 status
      · exact (cell_regs pos lt).2 fu
  case asking =>
    obtain ⟨⟨regs, queues, rings, ports, out, dropped, rfl⟩, kept⟩ := askCommand_reach canon listed ring ran
    exact ⟨⟨rfl, rfl, rfl, rfl, rfl, rfl⟩, kept, rfl, rfl, rfl, rfl, rfl, rfl, rfl⟩

end Sys2Proof.Machine

/-!
PROOFS. The statements of 06_wafer_mesh: the comparison of generations (O52), the placement opcodes (O6), injection and the
retry records (O29), hops and receptions (O30). An equation for each branch of a command's update says what it comes to where
its conditions hold, and the statements are read off these.
-/
namespace Sys2Proof.Machine

/-! ### The comparison of generations (R213) -/

section
variable {s : State} {part gen src srcPhys : Nat}

theorem get_MSH_GEN_GEN_lt (s : State) (part : Nat) : s.get (F.MSH_GEN_GEN part) < 256 := BitVec.isLt _

theorem genCheck_equal (equal : s.get (F.MSH_GEN_GEN part) = gen) : genCheck s part gen src srcPhys = 0 := if_pos equal

/-- Exactly 1 behind, counted modulo 256. -/
theorem one_behind_iff {own : Nat} (ownByte : own < 256) (genByte : gen < 256) :
    (own + 256 - gen) % 256 = 1 ↔ own = (gen + 1) % 256 := by omega

theorem genCheck_behind (genByte : gen < 256) (other : s.get (F.MSH_GEN_GEN part) ≠ gen)
    (behind : s.get (F.MSH_GEN_GEN part) = (gen + 1) % 256) (opened : s.fet < s.mesh.drainEnd) {l : Nat × Nat × Nat}
    (active : locate s src src = some l) (position : 72 * l.1 + l.2.2 = srcPhys) :
    genCheck s part gen src srcPhys = 1 := by
  have one : (s.get (F.MSH_GEN_GEN part) + 256 - gen) % 256 = 1 := (one_behind_iff (get_MSH_GEN_GEN_lt s part) genByte).mpr behind
  refine (if_neg other).trans (if_pos ?_)
  simp [one, opened, active, position]

/-- A GEN further off fails, and so does one that comes after the drain window or not from the active map's position. -/
theorem genCheck_fails (genByte : gen < 256) (other : s.get (F.MSH_GEN_GEN part) ≠ gen)
    (h : s.get (F.MSH_GEN_GEN part) ≠ (gen + 1) % 256 ∨ s.mesh.drainEnd ≤ s.fet ∨
      ∀ l, locate s src src = some l → 72 * l.1 + l.2.2 ≠ srcPhys) : genCheck s part gen src srcPhys = 2 := by
  refine (if_neg other).trans (if_neg ?_)
  rw [Bool.and_eq_true, Bool.and_eq_true, decide_eq_true_eq, decide_eq_true_eq,
    one_behind_iff (get_MSH_GEN_GEN_lt s part) genByte, Option.any_eq_true]
  rintro ⟨⟨behind, opened⟩, l, active, position⟩
  rcases h with further | closed | moved
  · exact further behind
  · exact Nat.not_lt.mpr closed opened
  · exact moved l active (beq_iff_eq.mp position)
end

section
variable {f node : Nat} {p : Packet} {s : State} (dst : p.dst = meshId s f node) (owner : p.part = ownerOf s f)
  (unquenched : quenchDrops s p = false)
include dst owner unquenched

/-- The checks before it passed, the comparison of generations decides. -/
theorem headerChecks_passes (gen : genCheck s p.part p.gen p.src p.srcPhys = 0) : headerChecks f node p s = (true, s) := by
  rw [owner] at gen
  simp [headerChecks, dst, owner, unquenched, gen]

theorem headerChecks_accepts (gen : genCheck s p.part p.gen p.src p.srcPhys = 1) :
    headerChecks f node p s = (true, s.count (F.MSH_FENCE_CNT_ACCEPTED f) 1) := by
  rw [owner] at gen
  simp [headerChecks, dst, owner, unquenched, gen]

theorem headerChecks_drops (gen : genCheck s p.part p.gen p.src p.srcPhys = 2) : (headerChecks f node p s).1 = false := by
  rw [owner] at gen
  simp [headerChecks, dst, owner, unquenched, gen]
end

/-- Settles O52, by what the comparison of R213 comes to. -/
theorem generationsAreCompared : Obligations.GenerationsAreCompared := by
  unfold Obligations.GenerationsAreCompared
  rintro f node p s own dst owner unquenched rfl genByte
  refine ⟨fun equal => headerChecks_passes dst owner unquenched (genCheck_equal equal),
    fun other behind opened => ⟨fun l active position => ?_, fun moved => ?_⟩, fun other off => ?_⟩
  · exact headerChecks_accepts dst owner unquenched (genCheck_behind genByte other behind opened active position)
  · exact headerChecks_drops dst owner unquenched (genCheck_fails genByte other (.inr (.inr moved)))
  · exact headerChecks_drops dst owner unquenched (genCheck_fails genByte other (off.imp_right .inl))

/-! ### MIGRATE and MAP_UPDATE (R212, R392) -/

section
variable {r : Request} {s t : State}

theorem migrate_refused (bad : migrateOk t (reqPart r) (pMask r 0) (pLe r 16 8) = false) : migrate r t = .done stBadParam [] t :=
  if_pos (by rw [bad]; rfl)

/-- The fields of a partition whose plan is not running are withdrawn without a stop: S 0. -/
theorem migrate_stopped (good : migrateOk t (reqPart r) (pMask r 0) (pLe r 16 8) = true) (stopped : partState t (reqPart r) ≠ 3) :
    migrate r t = .later (.migrate (reqPart r) (pMask r 0) 0) t := by
  simp only [migrate, good, stopped, Bool.not_true, Bool.false_eq_true, if_false]

/-- A running plan stops gracefully first. -/
theorem migrate_running (good : migrateOk t (reqPart r) (pMask r 0) (pLe r 16 8) = true) (running : partState t (reqPart r) = 3)
    {w : Work} {u : State} (stops : planStopGraceful (reqPart r) t = .later w u) :
    migrate r t = .later (.migrate (reqPart r) (pMask r 0) (pBoundary r 16)) u := by
  simp only [migrate, good, running, stops, Bool.not_true, Bool.false_eq_true, if_false, if_true]

theorem mapUpdateOp_busy_false (part : partBusy r t = false) (valid : fetInvalid t = false) (idle : mapBusy t r = false) :
    (mapUpdateOp r).busy t = false := by simp only [mapUpdateOp, part, valid, idle, Bool.or_self]

theorem mapUpdateOp_body (r : Request) (t : State) : (mapUpdateOp r).body t = mapUpdate r t := by simp only [mapUpdateOp]

theorem mapUpdate_refused (bad : mapOk t r = false) : mapUpdate r t = .done stBadParam [] t := by
  simp only [mapUpdate, bad, Bool.not_false, if_true]

/-- The reserves brought in are zeroed (`u`), the shadow copies filled (`v`); moving fields takes the serialisation of R351. -/
theorem mapUpdate_fills (good : mapOk t r = true) {u v : State}
    (hu : u = t.forEach (List.range (mapCells r).length) (fun i t =>
      match (mapCells r)[i]? with
      | some e => startZero (e.1 / 64) e.2 t
      | none => t))
    (hv : v = ({ u with mesh := { u.mesh with shadow := some {
        at_ := pLe r 0 8, part := reqPart r, l2p := mapCells r, fieldOk := (mapPass r).map (fun e => (e.1, e.2 == 1))
        owner := mapMoves r
        gens := ((mapCells r).map (fun e => ownerOf t (e.1 / 64)) ++ (mapMoves r).map (fun e => ownerOf t e.1)
          ++ (mapMoves r).map (·.2) ++ (mapPass r).map (fun e => ownerOf t e.1)).eraseDups } } } : State).set
        F.MSH_MAP_STATUS_PENDING 1) :
    mapUpdate r t = .later (.mapUpdate (reqPart r) (pLe r 0 8) (!(mapMoves r).isEmpty))
      (if (mapMoves r).isEmpty then v else setChanging true (reqPart r) v) := by
  subst hv hu
  simp only [mapUpdate, good, Bool.not_true, Bool.false_eq_true, if_false]
  cases (mapMoves r).isEmpty
  · rfl
  · rfl

theorem exec_migrate (h : ToScarab 0x40 (short r 24 || !pZero r 11 16 || !([1, 2].contains (maskFields (pMask r 0)).length)) r s)
    (idle : migrateBusy (reqPart r) (readIn r s) = false) (room : inflight (readIn r s) r.src < 64) :
    exec (.migrate r) s = .next (conclude 0x40 r (advance r.src r.seq) (readIn r s) (migrate r (readIn r s))) :=
  toScarab_next (o := migrateOp r) h idle (fun _ => room) rfl

theorem exec_mapUpdate (h : ToScarab 0x41 (mapBad r) r s) (part : partBusy r (readIn r s) = false)
    (valid : fetInvalid (readIn r s) = false) (idle : mapBusy (readIn r s) r = false) (room : inflight (readIn r s) r.src < 64) :
    exec (.mapUpdate r) s = .next (conclude 0x41 r (advance r.src r.seq) (readIn r s) (mapUpdate r (readIn r s))) :=
  toScarab_next (o := mapUpdateOp r) h (mapUpdateOp_busy_false part valid idle) (fun _ => room)
    (congrArg (conclude 0x41 r _ _) (mapUpdateOp_body r _))
end

/-- Settles O6: each opcode's own checks decide its answer, and the command protocol puts the answer into effect. -/
theorem placementOpcodesTakeEffect : Obligations.PlacementOpcodesTakeEffect := by
  unfold Obligations.PlacementOpcodesTakeEffect
  intro r s
  refine ⟨?migrate, ?refused, ?fills⟩
  case migrate =>
    intro h idle room
    rw [exec_migrate h idle room]
    refine ⟨fun bad => ?_, fun good stopped => ?_, fun w t good running stops => ?_⟩
    · rw [migrate_refused bad]; rfl
    · rw [migrate_stopped good stopped]; rfl
    · rw [migrate_running good running stops]; rfl
  case refused =>
    intro h part valid idle room bad
    rw [exec_mapUpdate h part valid idle room, mapUpdate_refused bad]; rfl
  case fills =>
    intro u v h part valid idle room good hu hv
    rw [exec_mapUpdate h part valid idle room, mapUpdate_fills good hu hv]; rfl

/-! ### PACKET_INJECT (R188, R191, R193, R197, R204) -/

/-- A network interface injects packet `p` in state `s`: it leaves as `q`, its header filled, and the queue without it is
state `u`. -/
structure Injects (f node : Nat) (s : State) (p q : Packet) (u : State) : Prop where
  next : nextOut (s.ni f node) = some p
  filled : q = fillHeader s f node p
  on : uncoreOn s f = true
  turn : yields f node s = false
  free : bufHeld s q.id (headBuf q) = false
  taken : ∃ t, t = s.setNi f node { s.ni f node with out := (s.ni f node).out.erase p } ∧
    u = { t with mesh := { t.mesh with nextId := if p.id = 0 then t.mesh.nextId + 1 else t.mesh.nextId } }

section
variable {f node : Nat} {errs : List FlitErr} {s u : State} {p q : Packet}

theorem packetInject_none (none : nextOut (s.ni f node) = none) : packetInject f node errs s = s := by
  simp only [packetInject, none]

theorem packetInject_waits (next : nextOut (s.ni f node) = some p) (waits : uncoreOn s f = false ∨ yields f node s = true ∨
    bufHeld s (fillHeader s f node p).id (headBuf (fillHeader s f node p)) = true) : packetInject f node errs s = s := by
  simp only [packetInject, next]
  refine if_pos ?_
  rcases waits with off | turn | held
  · simp [off]
  · simp [turn]
  · simp [held]

section
variable (h : Injects f node s p q u)
include h

theorem packetInject_unlocated (nowhere : locate u q.dst q.src = none) :
    packetInject f node errs s = unreachable f node q u := by
  obtain ⟨next, rfl, on, turn, free, t, rfl, rfl⟩ := h
  simp only [packetInject, next, on, turn, free, nowhere, Bool.not_true, Bool.or_self, Bool.false_eq_true, if_false]

variable {g lc pos : Nat} (located : locate u q.dst q.src = some (g, lc, pos))
include located

theorem packetInject_unrouted (unrouted : chooseRoute u q.part (q.x, q.y) (globalX g pos, globalY g pos) = none) :
    packetInject f node errs s = unreachable f node q u := by
  obtain ⟨next, rfl, on, turn, free, t, rfl, rfl⟩ := h
  simp only [packetInject, next, on, turn, free, located, unrouted, Bool.not_true, Bool.or_self, Bool.false_eq_true, if_false]

theorem packetInject_routed {r : Route} (routed : chooseRoute u q.part (q.x, q.y) (globalX g pos, globalY g pos) = some r) :
    packetInject f node errs s = putOnMesh f node
      { q with route := r.hops, order := r.order, exp := r.exp, dstX := globalX g pos, dstY := globalY g pos } errs u := by
  obtain ⟨next, rfl, on, turn, free, t, rfl, rfl⟩ := h
  simp only [packetInject, next, on, turn, free, located, routed, Bool.not_true, Bool.or_self, Bool.false_eq_true, if_false]
end
end

/-! ### Retry records (R204, R208) -/

section
variable {f node k : Nat} {s : State}

theorem retryBackoffExpiry_absent (absent : (s.ni f node).retry[k]? = none) : retryBackoffExpiry f node k s = s := by
  simp only [retryBackoffExpiry, absent]

theorem retryRecordLapse_absent (absent : (s.ni f node).retry[k]? = none) : retryRecordLapse f node k s = s := by
  simp only [retryRecordLapse, absent]

section
variable {r : RetryRec} (kept : (s.ni f node).retry[k]? = some r)
include kept

theorem retryBackoffExpiry_waits (h : r.waiting = false ∨ s.fet < afterCycles r.at_ r.backoff) :
    retryBackoffExpiry f node k s = s := by
  simp only [retryBackoffExpiry, kept]
  refine if_pos ?_
  rcases h with sent | early
  · simp [sent]
  · simp [early]

/-- The resend is a packet of its own (`u`), counted (`t`); a cell's NI begins to read its data anew. -/
theorem retryBackoffExpiry_resends (waiting : r.waiting = true) (past : afterCycles r.at_ r.backoff ≤ s.fet) {t u : State}
    (hu : u = s.setNi f node { s.ni f node with
      retry := (s.ni f node).retry.set k { r with pkt := { r.pkt with id := s.mesh.nextId }, waiting := false, at_ := s.fet }
      out := (s.ni f node).out ++ [{ r.pkt with id := s.mesh.nextId, refusals := r.refusals }]
      rereads := (s.ni f node).rereads ++ (if node < 72 then [⟨s.mesh.nextId, r.pkt.src0, r.len⟩] else []) })
    (ht : t = ({ u with mesh := { u.mesh with nextId := u.mesh.nextId + 1 } } : State).count (F.MSH_BUSY_CNT_RETRIED f) 1) :
    retryBackoffExpiry f node k s = if node < 72 then fillQueue (refillReads f node (t.fieldD f).cyc) t else t := by
  subst ht hu
  simp only [retryBackoffExpiry, kept, waiting, decide_eq_false (Nat.not_lt.mpr past), Bool.not_true, Bool.or_self,
    Bool.false_eq_true, if_false]

theorem retryRecordLapse_holds (h : r.waiting = true ∨ (s.ni f node).out.any (fun p => p.id == r.pkt.id) = true ∨
    s.fet < afterCycles r.at_ 2048) : retryRecordLapse f node k s = s := by
  simp only [retryRecordLapse, kept]
  refine if_pos ?_
  rcases h with waiting | queued | early
  · simp only [waiting, Bool.true_or]
  · simp only [queued, Bool.or_true, Bool.true_or]
  · simp only [early, decide_true, Bool.or_true]

theorem retryRecordLapse_lapses (sent : r.waiting = false) (gone : (s.ni f node).out.any (fun p => p.id == r.pkt.id) = false)
    (past : afterCycles r.at_ 2048 ≤ s.fet) :
    retryRecordLapse f node k s = s.setNi f node { s.ni f node with retry := (s.ni f node).retry.eraseIdx k } := by
  simp only [retryRecordLapse, kept, sent, gone, decide_eq_false (Nat.not_lt.mpr past), Bool.or_self, Bool.false_eq_true, if_false]
end
end

/-- Settles O29: the equations above, for an injection by what becomes of its packet, for a record by its time. -/
theorem packetsAreInjectedAndRetried : Obligations.PacketsAreInjectedAndRetried := by
  unfold Obligations.PacketsAreInjectedAndRetried
  intro f node s
  refine ⟨?none, ?waits, ?injects, ?record, ?absent⟩
  case none => exact fun errs none => congrArg Host.Outcome.next (packetInject_none none)
  case waits => exact fun p errs next waits => congrArg Host.Outcome.next (packetInject_waits next waits)
  case injects =>
    intro p q t u errs next filled on turn free ht hu
    have h : Injects f node s p q u := ⟨next, filled, on, turn, free, t, ht, hu⟩
    refine ⟨fun nowhere => congrArg Host.Outcome.next (packetInject_unlocated h nowhere), fun g lc pos located =>
      ⟨fun unrouted => congrArg Host.Outcome.next (packetInject_unrouted h located unrouted), fun r x v routed hx hv => ?_⟩⟩
    refine congrArg Host.Outcome.next ((packetInject_routed h located routed).trans ?_)
    subst hv hx
    rfl
  case record =>
    intro k r t u kept
    exact ⟨fun waits => congrArg Host.Outcome.next (retryBackoffExpiry_waits kept waits),
      fun waiting past hu ht => congrArg Host.Outcome.next (retryBackoffExpiry_resends kept waiting past hu ht),
      fun holds => congrArg Host.Outcome.next (retryRecordLapse_holds kept holds),
      fun sent gone past => congrArg Host.Outcome.next (retryRecordLapse_lapses kept sent gone past)⟩
  case absent =>
    exact fun k absent => ⟨congrArg Host.Outcome.next (retryBackoffExpiry_absent absent),
      congrArg Host.Outcome.next (retryRecordLapse_absent absent)⟩

/-! ### PACKET_HOP (R188, R189, R193, R202) -/

section
variable {s : State} {p : Packet} {h : Hop} {f g gpos : Nat}

theorem hopWaits_iff : hopWaits s p h f g gpos = true ↔ inputHeld s p h = true ∨ headWaits s p = true ∨
    stopWaits s h g gpos = true ∨ uncoreOn s f = false ∨ uncoreOn s g = false := by
  simp only [hopWaits, Bool.or_eq_true, Bool.not_eq_true', or_assoc]

theorem hopWaits_false (input : inputHeld s p h = false) (head : headWaits s p = false) (stop : stopWaits s h g gpos = false)
    (onHere : uncoreOn s f = true) (onThere : uncoreOn s g = true) : hopWaits s p h f g gpos = false := by
  simp only [hopWaits, input, head, stop, onHere, onThere, Bool.not_true, Bool.or_self]

theorem seamStops_iff : seamStops s p h = true ↔ s.flag F.MSH_MODE_MODE = true ∧ p.part ≠ 0 ∧ h.via = 0 ∧
    decide (p.x < 40) ≠ decide (h.x < 40) ∧ bitOf (s.get F.MSH_MODE_SEAM_ALLOW) p.part = 0 := by
  simp only [seamStops, Bool.and_eq_true, bne_iff_ne, beq_iff_eq, and_assoc]

theorem seamStops_false (crosses : s.flag F.MSH_MODE_MODE = false ∨ p.part = 0 ∨ h.via ≠ 0 ∨
    decide (p.x < 40) = decide (h.x < 40) ∨ bitOf (s.get F.MSH_MODE_SEAM_ALLOW) p.part ≠ 0) : seamStops s p h = false := by
  refine Bool.eq_false_iff.mpr (mt seamStops_iff.mp ?_)
  rintro ⟨mode, tenant, meshHop, seam, barred⟩
  rcases crosses with off | chitin | express | sameSide | allowed
  · exact Bool.false_ne_true (off.symm.trans mode)
  · exact tenant chitin
  · exact express meshHop
  · exact seam sameSide
  · exact allowed barred

variable {id pos : Nat} {rest : List Hop} {errs : List FlitErr} (found : s.mesh.packets.find? (fun p => p.id == id) = some p)
include found

theorem packetHop_ended (ended : p.route = []) : packetHop id errs s = s := by simp only [packetHop, found, ended]

variable (route : p.route = h :: rest) (here : routerAt p.x p.y = some (f, pos)) (there : routerAt h.x h.y = some (g, gpos))
include route here there

theorem packetHop_waits (waits : hopWaits s p h f g gpos = true) : packetHop id errs s = s := by
  simp only [packetHop, found, route, here, there, waits, if_true]

variable (moves : hopWaits s p h f g gpos = false)
include moves

theorem packetHop_stopped (stops : seamStops s p h = true) : packetHop id errs s = seamDrop f g p s := by
  simp only [packetHop, found, route, here, there, moves, stops, Bool.false_eq_true, if_false, if_true]

theorem packetHop_enters (crosses : seamStops s p h = false) : packetHop id errs s = enterRouter p h rest g gpos errs s := by
  simp only [packetHop, found, route, here, there, moves, crosses, Bool.false_eq_true, if_false]
end

/-! ### PACKET_RECEIVE and BUSY_RECEIVE (R205-R208, R213) -/

/-- A node's router is one of the mesh. -/
theorem routerAt_of_ejectNode {p : Packet} {n : Nat × Nat} (node : ejectNode p = some n) : ∃ r, routerAt p.x p.y = some r :=
  let ⟨r, router, _⟩ := Option.map_eq_some_iff.mp node
  ⟨r, router⟩

theorem ejectPacket_waits {p : Packet} {f : Nat} {s : State} (waits : headWaits s p = true ∨ uncoreOn s f = false) :
    ejectPacket p f s = none := by
  refine if_pos ?_
  rcases waits with held | off
  · rw [held, Bool.true_or]
  · rw [off, Bool.not_false, Bool.or_true]

/-- Packet `p` of the mesh stands at the end of its route and leaves it as `q`, its header whole, at a node of field `f`:
state `t`. -/
structure Arrives (id : Nat) (s : State) (p : Packet) (f node : Nat) (q : Packet) (t : State) : Prop where
  found : s.mesh.packets.find? (fun p => p.id == id) = some p
  ended : p.route = []
  at_ : ejectNode p = some (f, node)
  left : ejectPacket p f s = some (q, t)
  whole : q.injected = true

section
variable {id f node : Nat} {s t v : State} {p q : Packet}

section
variable (found : s.mesh.packets.find? (fun p => p.id == id) = some p) (at_ : ejectNode p = some (f, node))
  (waits : headWaits s p = true ∨ uncoreOn s f = false)
include found at_ waits

theorem packetReceive_waits : packetReceive id s = s := by
  obtain ⟨r, router⟩ := routerAt_of_ejectNode at_
  simp only [packetReceive, found, at_, router, ejectPacket_waits waits, ite_self]

theorem busyReceive_waits : busyReceive id s = s := by
  obtain ⟨r, router⟩ := routerAt_of_ejectNode at_
  simp only [busyReceive, found, at_, router, ejectPacket_waits waits, ite_self]
end

section
variable {ok : Bool} (h : Arrives id s p f node q t) (checked : headerChecks f node q t = (ok, v))
include h checked

theorem packetReceive_checked (plain : p.ctl ≠ 1) : packetReceive id s =
    if ok = true then
      if q.cls = 0 then takeControl f node v
      else if noContext v f node q = true then sendBusy f node q v else grantContext f node q v
    else v := by
  obtain ⟨found, ended, at_, left, whole⟩ := h
  obtain ⟨r, router⟩ := routerAt_of_ejectNode at_
  cases ok <;> simp [packetReceive, found, ended, plain, at_, router, left, whole, checked]

theorem busyReceive_checked (busy : p.ctl = 1) : busyReceive id s =
    if ok = true then refused f node (leAt q.body 0 16) (takeControl f node v) else v := by
  obtain ⟨found, ended, at_, left, whole⟩ := h
  obtain ⟨r, router⟩ := routerAt_of_ejectNode at_
  simp [busyReceive, found, ended, busy, at_, router, left, whole, checked]
end

theorem noContext_iff : noContext v f node q = true ↔ contextLimit node ≤ contextsHeld v f node + rivalsAhead v q (f, node) :=
  decide_eq_true_iff
end

/-! ### DRAIN_WINDOW_END (R213) -/

section
variable {s : State}

theorem drainWindowEnd_early (early : s.fet < s.mesh.drainEnd) : drainWindowEnd s = s := if_pos early

theorem drainWindowEnd_due (due : s.mesh.drainEnd ≤ s.fet) : drainWindowEnd s = nextMap (s.set F.MSH_MAP_STATUS_FENCE 0) :=
  if_neg (Nat.not_lt.mpr due)
end

/-- Settles O30: the equations above, for a hop by what it waits for, for an arrival by what the header checks make of it. -/
theorem packetsTravelAndArrive : Obligations.PacketsTravelAndArrive := by
  unfold Obligations.PacketsTravelAndArrive
  intro id s p found
  refine ⟨?hop, fun ended => ⟨fun errs => congrArg Host.Outcome.next (packetHop_ended found ended), ?arrival, ?waits⟩,
    fun early => congrArg Host.Outcome.next (drainWindowEnd_early early),
    fun due => congrArg Host.Outcome.next (drainWindowEnd_due due)⟩
  case hop =>
    intro errs h rest route f pos g gpos here there
    refine ⟨fun waits => congrArg Host.Outcome.next (packetHop_waits found route here there (hopWaits_iff.mpr waits)),
      fun input head stop onHere onThere => ?_⟩
    have moves : hopWaits s p h f g gpos = false := hopWaits_false input head stop onHere onThere
    refine ⟨fun mode tenant meshHop seam barred => congrArg Host.Outcome.next (packetHop_stopped found route here there moves
      (seamStops_iff.mpr ⟨mode, tenant, meshHop, seam, barred⟩)), fun t u crosses ht hu => ?_⟩
    subst hu ht
    exact congrArg Host.Outcome.next (packetHop_enters found route here there moves (seamStops_false crosses))
  case arrival =>
    intro f node c q t at_ left whole hc
    have h : Arrives id s p f node q t := ⟨found, ended, at_, left, whole⟩
    have checked {ok : Bool} (e : c.1 = ok) : headerChecks f node q t = (ok, c.2) := hc.symm.trans (Prod.ext e rfl)
    refine ⟨fun plain => ⟨fun drops => congrArg Host.Outcome.next ?_, fun ok control => congrArg Host.Outcome.next ?_,
      fun ok payload full => congrArg Host.Outcome.next ?_, fun ok payload room => congrArg Host.Outcome.next ?_⟩,
      fun busy => congrArg Host.Outcome.next (busyReceive_checked h (checked rfl) busy)⟩
    · rw [packetReceive_checked h (checked drops) plain, if_neg Bool.false_ne_true]
    · rw [packetReceive_checked h (checked ok) plain, if_pos rfl, if_pos control]
    · rw [packetReceive_checked h (checked ok) plain, if_pos rfl, if_neg payload, if_pos (noContext_iff.mpr full)]
    · rw [packetReceive_checked h (checked ok) plain, if_pos rfl, if_neg payload,
        if_neg (mt noContext_iff.mp (Nat.not_le.mpr room))]
  case waits =>
    exact fun f node at_ waits => ⟨congrArg Host.Outcome.next (packetReceive_waits found at_ waits),
      congrArg Host.Outcome.next (busyReceive_waits found at_ waits)⟩

end Sys2Proof.Machine

/-!
PROOFS. The statements of 07_weight_streaming: what registers, memories and Tier C read back (O59), the partition and key
opcodes (O2), the data opcodes (O5), mover descriptors (O31), checkpoints, scrubs and the journal (O32). An equation for each
branch of a command's update says what it comes to where its conditions hold, and the statements are read off these.
-/
namespace Sys2Proof.Machine

/-! ### Registers, memories and Tier C read back (O59) -/

section
variable {s : State} {f g : Fld} {v : Nat}

/-- A register field set reads as the low bits it has room for (R9). -/
theorem State.get_set_same (canon : Canon s) (order : f.lo ≤ f.hi) (room : f.hi ≤ 31) :
    (s.set f v).get f = v % 2 ^ f.width := by
  unfold State.get State.set
  rw [State.rd_wr_same canon]
  exact Word.field_withField _ _ _ _ order room

/-- Another field of the same register, that shares no bit with it, reads as before. -/
theorem State.get_set_apart (canon : Canon s) (order : f.lo ≤ f.hi) (same : g.reg = f.reg)
    (apart : g.hi < f.lo ∨ f.hi < g.lo) : (s.set f v).get g = s.get g := by
  unfold State.get State.set
  rw [same, State.rd_wr_same canon]
  exact Word.field_withField_other _ _ _ _ _ _ order apart

theorem State.set_canon (canon : Canon s) : Canon (s.set f v) := (State.set_keeps (Keeps.refl s)).canon canon
end

/-- Zeroing a range of a memory zeroes exactly that range (R117, R220). -/
theorem Mem.rd_clear {m : Mem} (wf : Mem.wf m = true) (lo hi c : Nat) :
    Mem.rd (Mem.clear m lo hi) c = if lo ≤ c ∧ c < hi then 0 else Mem.rd m c := by
  have kept : Mem.rd (Mem.clear m lo hi) c
      = if decide (c < lo) || decide (hi ≤ c) then AMap.get Mem.dflt m c else Mem.dflt c :=
    AMap.get_filter (fun c => decide (c < lo) || decide (hi ≤ c)) m wf c
  rw [kept]
  by_cases inside : lo ≤ c ∧ c < hi
  · rw [if_pos inside, if_neg (by simp only [Bool.or_eq_true, decide_eq_true_eq]; omega)]; rfl
  · rw [if_neg inside, if_pos (by simp only [Bool.or_eq_true, decide_eq_true_eq]; omega)]; rfl

/-! Bytes of words (R9). -/

@[simp] theorem leBytes_length (v n : Nat) : (leBytes v n).length = n := by
  induction n generalizing v with
  | zero => rfl
  | succ n ih => simp only [leBytes, List.length_cons, ih]

/-- Past the end of a first list the bytes are those of the second. -/
theorem leAt_append_right (k l : List Byte) (i n : Nat) : leAt (k ++ l) (k.length + i) n = leAt l i n := by
  induction n generalizing i with
  | zero => rfl
  | succ n ih => simp only [leAt, Nat.add_assoc, ih, List.getD_append_right, Nat.le_add_right, Nat.add_sub_cancel_left]

/-- The first bytes of a list that begins with the bytes of a number are the number's low bits. -/
theorem leAt_leBytes_append (v n : Nat) (l : List Byte) : leAt (leBytes v n ++ l) 0 n = v % 2 ^ (8 * n) := by
  induction n generalizing v with
  | zero => simp only [leAt, Nat.mul_zero, Nat.pow_zero, Nat.mod_one]
  | succ n ih =>
    have rest : leAt (leBytes v (n + 1) ++ l) 1 n = v / 256 % 2 ^ (8 * n) :=
      (leAt_append_right [BitVec.ofNat 8 v] (leBytes (v / 256) n ++ l) 0 n).trans (ih (v / 256))
    have first : ((leBytes v (n + 1) ++ l).getD 0 0).toNat = v % 256 := BitVec.toNat_ofNat v 8
    have split : 2 ^ (8 * (n + 1)) = 256 * 2 ^ (8 * n) := by rw [Nat.mul_succ, Nat.pow_add, Nat.mul_comm]
    rw [leAt, first, rest, split, Nat.mod_mul]

theorem accBytes_cons (w : PWord) (l : List PWord) : accBytes (w :: l) = leBytes w.w.toNat 4 ++ accBytes l := rfl

theorem accBytes_length (l : List PWord) : (accBytes l).length = 4 * l.length := by
  induction l with
  | nil => rfl
  | cons w l ih => rw [accBytes_cons, List.length_append, ih, leBytes_length, List.length_cons]; omega

/-- The four bytes of a word of an access. -/
theorem leAt_accBytes {l : List PWord} {i : Nat} (h : i < l.length) : leAt (accBytes l) (4 * i) 4 = l[i].w.toNat := by
  induction l generalizing i with
  | nil => cases h
  | cons w l ih =>
    rw [accBytes_cons]
    cases i with
    | zero => exact (leAt_leBytes_append _ 4 _).trans (Nat.mod_eq_of_lt w.w.isLt)
    | succ i =>
      have past : 4 * (i + 1) = (leBytes w.w.toNat 4).length + 4 * i := by rw [leBytes_length]; omega
      rw [past, leAt_append_right]
      exact ih (Nat.lt_of_succ_lt_succ h)

/-- An access of 64 words, none poisoned, is what its bytes read as. -/
theorem bytesAcc_accBytes {l : List PWord} (whole : l.length = 64) (clean : l.any (·.bad) = false) :
    bytesAcc (accBytes l) false = l := by
  refine List.ext_getElem (by simp [bytesAcc, whole]) fun i _ h => ?_
  have unpoisoned : l[i].bad = false := by
    simpa using List.any_eq_false.mp clean l[i] (List.getElem_mem h)
  simp only [bytesAcc, List.getElem_map, List.getElem_range, leAt_accBytes h, BitVec.ofNat_toNat, BitVec.setWidth_eq,
    ← unpoisoned]

/-! A unit of Tier C (R222, R228). -/

theorem setDel_not_contains (k : Nat) (l : List Nat) : (setDel k l).contains k = false := by
  simp [setDel]

/-- The Vault once a clean unit has been stored under a key. -/
def storedUnit (d : VaultState) (unit : Nat) (key l : List Byte) : VaultState :=
  { d with
    tierC := Mem.wrN d.tierC (256 * unit) l
    keyOfC := AMap.put (fun _ => []) d.keyOfC unit key
    tcBad := setDel unit d.tcBad
    tcEcc := setDel unit d.tcEcc
    met := setDel unit d.met }

/-- With no injection armed a clean access is stored as it is (R222, R253). -/
theorem tcWrite_clean {v unit p : Nat} {l : List PWord} {s : State} (clean : l.any (·.bad) = false)
    (unarmed : s.flag (F.VLT_CTRL_INJECT v) = false) :
    tcWrite v unit p l s = s.setVault v (storedUnit (s.vault v) unit ((tierCKey s v p).getD []) (accBytes l)) := by
  simp only [tcWrite, tcStore, clean, unarmed, Bool.false_and, Bool.false_eq_true, if_false, storedUnit]

/-- A unit reads as what was stored under the same key (R228). -/
theorem plainUnit_storedUnit {d : VaultState} {v unit : Nat} {key l : List Byte} (wfC : Mem.wf d.tierC = true)
    (wfKeys : AMap.wf (fun _ => []) d.keyOfC = true) (whole : l.length = 256) :
    plainUnit (storedUnit d unit key l) v unit key = l := by
  have same : AMap.get (fun _ => []) (storedUnit d unit key l).keyOfC unit = key := AMap.get_put_same _ _ _ wfKeys
  have bytes : Mem.rdN (storedUnit d unit key l).tierC (256 * unit) 256 = l := by
    have back := Mem.rdN_wrN l d.tierC (256 * unit) wfC
    rwa [whole] at back
  simp only [plainUnit, same, bytes, if_true]

/-- A unit with no error, that is not to be delivered poisoned, reads as its plaintext and changes nothing (R222). -/
theorem tcRead_clean {v unit p master : Nat} {s : State} (good : (s.vault v).tcEcc.contains unit = false)
    (clean : (s.vault v).tcBad.contains unit = false) (unmet : (s.vault v).met.contains unit = false) :
    tcRead v unit p 0 master s = ((bytesAcc (plainUnit (s.vault v) v unit ((tierCKey s v p).getD [])) false, false), s) := by
  have no_error : ((0 : Nat) == 2) = false := rfl
  simp only [tcRead, no_error, good, clean, unmet, Bool.or_self, Bool.false_eq_true, Nat.zero_ne_one, if_false]

/-- A whole unit, clean, written to Tier C reads back for the same partition, with no fault (R222, R228). -/
theorem tcRead_tcWrite {v unit p master : Nat} {l : List PWord} {s : State} (canon : Canon s)
    (wfC : Mem.wf (s.vault v).tierC = true) (wfKeys : AMap.wf (fun _ => []) (s.vault v).keyOfC = true) (whole : l.length = 64)
    (clean : l.any (·.bad) = false) (unarmed : s.flag (F.VLT_CTRL_INJECT v) = false) :
    tcRead v unit p 0 master (tcWrite v unit p l s) = ((l, false), tcWrite v unit p l s) := by
  have stored := tcWrite_clean (unit := unit) (p := p) clean unarmed
  have there : (tcWrite v unit p l s).vault v = storedUnit (s.vault v) unit ((tierCKey s v p).getD []) (accBytes l) := by
    rw [stored, State.setVault_same canon]
  have key : tierCKey (tcWrite v unit p l s) v p = tierCKey s v p := by rw [stored]; rfl
  have bytes : (accBytes l).length = 256 := by rw [accBytes_length, whole]
  rw [tcRead_clean (by rw [there]; exact setDel_not_contains ..) (by rw [there]; exact setDel_not_contains ..)
      (by rw [there]; exact setDel_not_contains ..),
    there, key, plainUnit_storedUnit wfC wfKeys bytes, bytesAcc_accBytes whole clean]

/-- Settles O59, by the laws of register words, of sparse memories and of a unit of Tier C. -/
theorem storedDataReadsBack : Obligations.StoredDataReadsBack := by
  unfold Obligations.StoredDataReadsBack
  refine ⟨?registers, ?bytes, ?zeroing, fun m k wfm wfk alike => AMap.ext m k wfm wfk alike, ?tierC⟩
  case registers =>
    intro s f g v off canon order room
    exact ⟨State.get_set_same canon order room, fun same _ _ apart => State.get_set_apart canon order same apart,
      State.rd_set_other canon f v off, State.set_canon canon, rfl⟩
  case bytes =>
    intro m a l c wf
    exact ⟨Mem.wf_wrN l a wf, Mem.rdN_wrN l m a wf, fun outside => Mem.rd_wrN_other l m a c outside wf⟩
  case zeroing =>
    intro m lo hi c wf
    exact ⟨Mem.wf_clear lo hi wf, Mem.rd_clear wf lo hi c⟩
  case tierC =>
    intro v unit p master l s canon wfC wfKeys _ whole clean unarmed
    exact tcRead_tcWrite canon wfC wfKeys whole clean unarmed

/-! ### PART_CREATE, PART_DESTROY, KEY_INSTALL (O2) -/

section
variable {r : Request} {s t : State}

/-- A check of PART_CREATE that fails is answered with its status (Table 11.3). -/
theorem partCreate_refused {st : Nat} (failed : createCheck t r = some st) (final : st ≠ stRetry) :
    partCreate r t = .done st [] t := by
  simp only [partCreate, failed, if_neg final]

/-- Its regions placed, the partition is granted its power, takes its fields and stages its share (R349): state `v`. -/
theorem partCreate_begins {u v : State} (checked : createCheck t r = none) (placed : placeRegions (reqPart r) r t = some u)
    (hv : v = stageShare (reqPart r) (pByte r 14) (ownFields (reqPart r) (pMask r 0) r
      (setChanging true (reqPart r) (setPartState
        (scaleBudgets (u.set (F.PRT_POWER_GRANTED (reqPart r)) (pLe r 12 2))) (reqPart r) 1)))) :
    partCreate r t =
      .later (.partCreate (reqPart r) (pMask r 0) ((v.part (reqPart r)).commit.map (·.c) |>.getD 0)) v := by
  subst hv
  simp only [partCreate, checked, placed]

/-- Partition 0 and a partition that does not exist cannot be destroyed. -/
theorem partDestroy_refused {p : Nat} (h : p = 0 ∨ partState t p = 0) : partDestroy p t = .done stBadParam [] t := if_pos h

theorem partDestroy_begins {p : Nat} (tenant : p ≠ 0) (present : partState t p ≠ 0) :
    partDestroy p t = .later (.partDestroy p) (setChanging true p (beginDestroy p t)) := if_neg (not_or.mpr ⟨tenant, present⟩)

theorem partDestroyOp_busy_false (free : changeBusy t = false) (settled : partChanging t (reqPart r) = false) :
    (partDestroyOp r).busy t = false := by simp only [partDestroyOp, free, settled, Bool.or_self]

theorem keyInstallOp_body_refused (equal : keysEqual r = true) : (keyInstallOp r).body t = .done stBadParam [] t :=
  if_pos equal

theorem keyInstallOp_body_installs (distinct : keysEqual r = false) :
    (keyInstallOp r).body t = .done stOk [] (installKeys (reqPart r) r t) :=
  if_neg (by rw [distinct]; exact Bool.false_ne_true)

/-! Each opcode in its turn. -/

theorem exec_partCreate (h : ToScarab 0x10 (createBad s r) r s) (free : changeBusy (readIn r s) = false)
    (room : inflight (readIn r s) r.src < 64) :
    exec (.partCreate r) s = .next (conclude 0x10 r (advance r.src r.seq) (readIn r s) (partCreate r (readIn r s))) :=
  toScarab_next (o := partCreateOp r s) h free (fun _ => room) rfl

theorem exec_partDestroy (h : ToScarab 0x11 false r s) (free : changeBusy (readIn r s) = false)
    (settled : partChanging (readIn r s) (reqPart r) = false) (room : inflight (readIn r s) r.src < 64) :
    exec (.partDestroy r) s
      = .next (conclude 0x11 r (advance r.src r.seq) (readIn r s) (partDestroy (reqPart r) (readIn r s))) :=
  toScarab_next (o := partDestroyOp r) h (partDestroyOp_busy_false free settled) (fun _ => room) rfl

theorem exec_keyInstall (h : ToScarab 0x18 (short r 164 || decide (8 ≤ pByte r 0) || !pZero r 1 4) r s)
    (free : keyBusy (reqPart r) (readIn r s) = false) :
    exec (.keyInstall r) s
      = .next (conclude 0x18 r (advance r.src r.seq) (readIn r s) ((keyInstallOp r).body (readIn r s))) :=
  toScarab_next (o := keyInstallOp r) h free nofun rfl
end

/-- Settles O2: each opcode's own checks decide its answer, and the command protocol puts the answer into effect. -/
theorem partitionOpcodesTakeEffect : Obligations.PartitionOpcodesTakeEffect := by
  unfold Obligations.PartitionOpcodesTakeEffect
  intro r s
  refine ⟨?create, ?refused, ?destroy, ?missing, ?install, ?equal⟩
  case create =>
    intro u h free room checked placed
    refine ⟨_, rfl, ?_⟩
    rw [exec_partCreate h free room, partCreate_begins checked placed rfl]; rfl
  case refused =>
    intro st h free room failed final
    rw [exec_partCreate h free room, partCreate_refused failed final]; rfl
  case destroy =>
    intro h free settled room tenant present
    rw [exec_partDestroy h free settled room, partDestroy_begins tenant present]; rfl
  case missing =>
    intro h free settled room missing
    rw [exec_partDestroy h free settled room, partDestroy_refused missing]; rfl
  case install =>
    intro h free distinct
    rw [exec_keyInstall h free, keyInstallOp_body_installs distinct]; rfl
  case equal =>
    intro h free equal
    rw [exec_keyInstall h free, keyInstallOp_body_refused equal]; rfl

/-! ### MOVE, QUEUE_CONFIG, CKPT_WRITE, CKPT_RESTORE (O5) -/

section
variable {r : Request} {data : List Byte} {s t : State}

/-! MOVE (R391). -/

theorem moveInto_refused {st : Nat} (failed : moveCheck t r = some st) : moveInto r data t = .done st [] t := by
  simp only [moveInto, failed]

/-- A source in the request or in host memory is read now. -/
theorem moveInto_reads {l : List Byte} {u : State} (checked : moveCheck t r = none) (outside : (dataRef r 16).kind ≠ 2)
    (fetched : fetchData r (dataRef r 16) data t = (some l, u)) :
    moveInto r data t = .later (.move (reqPart r) 0 (pByte r 1) (pByte r 2) (pLe r 8 8) l) u := by
  simp only [moveInto, checked, if_neg outside, fetched]

/-- A source in Tier C is named, and read when the transfer completes. -/
theorem moveInto_names (checked : moveCheck t r = none) (inTierC : (dataRef r 16).kind = 2) :
    moveInto r data t
      = .later (.move (reqPart r) 2 (pByte r 1) (pByte r 2) (pLe r 8 8) ((r.params.drop 16).take 16)) t := by
  simp only [moveInto, checked, if_pos inTierC]

theorem moveOut_refused {st : Nat} (failed : moveCheck t r = some st) : moveOut r t = .done st [] t := by
  simp only [moveOut, failed]

theorem moveOut_runs (checked : moveCheck t r = none) :
    moveOut r t = .later (.move (reqPart r) 1 (pByte r 1) (pByte r 2) (pLe r 8 8) ((r.params.drop 16).take 16)) t := by
  simp only [moveOut, checked]

/-! QUEUE_CONFIG (R238). -/

theorem queueConfig_sets (own : (maskFields (pMask r 0)).any (fun f => ownerOf t f != reqPart r) = false)
    (fits : (maskFields (pMask r 0)).any (fun f => decide (512 < depthSum t f (pByte r 11) (pLe r 14 2))) = false) :
    queueConfig r t = .done stOk [] (t.forEach (maskFields (pMask r 0)) (fun f t =>
      ((t.set (F.VLT_MQ_CFG_PRIO f (pByte r 11)) (pByte r 12)).set (F.VLT_MQ_CFG_OUT_LIMIT f (pByte r 11)) (pByte r 13)).set
        (F.VLT_MQ_CFG_DEPTH f (pByte r 11)) (pLe r 14 2))) := by
  simp only [queueConfig, own, fits, Bool.false_eq_true, if_false]

theorem queueConfigOp_busy_false (part : partBusy r t = false) (empty : queueHeld t r = false) :
    (queueConfigOp r).busy t = false := by simp only [queueConfigOp, part, empty, Bool.or_self]

/-! CKPT_WRITE and CKPT_RESTORE (R230, R233). -/

theorem ckptWriteOp_busy_false (part : partBusy r t = false) (valid : fetInvalid t = false)
    (idle : ckptBusy t (reqPart r) (ckptRegions r) = false) : (ckptWriteOp r).busy t = false := by
  simp only [ckptWriteOp, part, valid, idle, Bool.or_self]

theorem ckptWrite_refused (h : tooSoon t (pLe r 0 8) = true ∨ ckptRefused t (reqPart r) (ckptRegions r) = true) :
    ckptWrite r t = .done stBadParam [] t := by
  unfold ckptWrite
  exact if_pos (Bool.or_eq_true_iff.mpr h)

theorem ckptWriteOp_body (r : Request) (t : State) : (ckptWriteOp r).body t = ckptWrite r t := by simp only [ckptWriteOp]

/-- The checkpoint is armed in the slot that does not hold the newest complete one (R233). -/
theorem ckptWrite_arms (ahead : tooSoon t (pLe r 0 8) = false) (named : ckptRefused t (reqPart r) (ckptRegions r) = false)
    {slot : Nat} (hslot : slot = match newestCkpt t (reqPart r) with | some (k, _) => 1 - k | none => 0) :
    ckptWrite r t = .later (.ckptWrite (reqPart r)) (t.setPart (reqPart r) { t.part (reqPart r) with
      ckptAt := some (pBoundary r 0), ckptRegions := ckptRegions r, ckptSlot := slot }) := by
  subst hslot
  unfold ckptWrite
  exact if_neg (by rw [ahead, named]; exact Bool.false_ne_true)

/-- The slot that a CKPT_RESTORE names: the newest complete one, or one by its number. -/
def ckptSource (t : State) (r : Request) : Option Nat :=
  if pByte r 0 = 0 then (newestCkpt t (reqPart r)).map (·.1) else some (pByte r 0 - 1)

theorem ckptRestore_eq : ckptRestore r t = match ckptSource t r with
    | none => .done stBadParam [] t
    | some k => if (slotEpoch t (reqPart r) k).isNone then .done stBadParam [] t else .later (.ckptRestore (reqPart r) k) t := by
  unfold ckptRestore ckptSource
  cases pByte r 0 with
  | zero => rfl
  | succ k => rfl

theorem ckptRestore_runs {k : Nat} (source : ckptSource t r = some k) (held : (slotEpoch t (reqPart r) k).isSome = true) :
    ckptRestore r t = .later (.ckptRestore (reqPart r) k) t := by
  rw [ckptRestore_eq, source]
  exact if_neg (by rw [Option.isNone_eq_false_iff.mpr held]; exact Bool.false_ne_true)

theorem ckptRestore_refused (h : (ckptSource t r).any (fun k => (slotEpoch t (reqPart r) k).isSome) = false) :
    ckptRestore r t = .done stBadParam [] t := by
  rw [ckptRestore_eq]
  cases source : ckptSource t r with
  | none => rfl
  | some k =>
    rw [source] at h
    exact if_pos (by simpa using h)

theorem ckptRestoreOp_busy_false (state : partState t (reqPart r) = 2 ∨ partState t (reqPart r) = 4)
    (idle : ckptWriting t (reqPart r) = false) : (ckptRestoreOp r).busy t = false := by
  rcases state with e | e <;> simp [ckptRestoreOp, e, idle]

/-! Each opcode in its turn. -/

theorem exec_moveIntoTier (h : ToScarab 0x30 (moveBad 0 r) r s) (part : partBusy r (readIn r s) = false)
    (room : inflight (readIn r s) r.src < 64) :
    exec (.moveIntoTier r data) s
      = .next (conclude 0x30 r (advance r.src r.seq) (readIn r s) (moveInto r data (readIn r s))) :=
  toScarab_next (o := moveIntoTierOp r data) h part (fun _ => room) rfl

theorem exec_moveOutOfTier (h : ToScarab 0x30 (moveBad 1 r) r s) (part : partBusy r (readIn r s) = false)
    (room : inflight (readIn r s) r.src < 64) :
    exec (.moveOutOfTier r) s = .next (conclude 0x30 r (advance r.src r.seq) (readIn r s) (moveOut r (readIn r s))) :=
  toScarab_next (o := moveOutOfTierOp r) h part (fun _ => room) rfl

theorem exec_queueConfig (h : ToScarab 0x31 (queueBad r) r s) (part : partBusy r (readIn r s) = false)
    (empty : queueHeld (readIn r s) r = false) :
    exec (.queueConfig r) s = .next (conclude 0x31 r (advance r.src r.seq) (readIn r s) (queueConfig r (readIn r s))) :=
  toScarab_next (o := queueConfigOp r) h (queueConfigOp_busy_false part empty) nofun rfl

theorem exec_ckptWrite (h : ToScarab 0x38 (ckptBad r) r s) (part : partBusy r (readIn r s) = false)
    (valid : fetInvalid (readIn r s) = false) (idle : ckptBusy (readIn r s) (reqPart r) (ckptRegions r) = false)
    (room : inflight (readIn r s) r.src < 64) :
    exec (.ckptWrite r) s = .next (conclude 0x38 r (advance r.src r.seq) (readIn r s) (ckptWrite r (readIn r s))) :=
  toScarab_next (o := ckptWriteOp r) h (ckptWriteOp_busy_false part valid idle) (fun _ => room)
    (congrArg (conclude 0x38 r _ _) (ckptWriteOp_body r _))

theorem exec_ckptRestore (h : ToScarab 0x39 (short r 1 || decide (2 < pByte r 0)) r s)
    (state : partState (readIn r s) (reqPart r) = 2 ∨ partState (readIn r s) (reqPart r) = 4)
    (idle : ckptWriting (readIn r s) (reqPart r) = false) (room : inflight (readIn r s) r.src < 64) :
    exec (.ckptRestore r) s = .next (conclude 0x39 r (advance r.src r.seq) (readIn r s) (ckptRestore r (readIn r s))) :=
  toScarab_next (o := ckptRestoreOp r) h (ckptRestoreOp_busy_false state idle) (fun _ => room) rfl
end

/-- Settles O5: each opcode's own checks decide its answer, and the command protocol puts the answer into effect. -/
theorem dataOpcodesTakeEffect : Obligations.DataOpcodesTakeEffect := by
  unfold Obligations.DataOpcodesTakeEffect
  intro r data s
  refine ⟨?reads, ?names, ?outRefused, ?inRefused, ?out, ?queue, ?arms, ?ckptRefused, ?restore⟩
  case reads =>
    intro l u h part room checked outside fetched
    rw [exec_moveIntoTier h part room, moveInto_reads checked outside fetched]; rfl
  case names =>
    intro h part room checked inTierC
    rw [exec_moveIntoTier h part room, moveInto_names checked inTierC]; rfl
  case outRefused =>
    intro st h part room failed
    rw [exec_moveOutOfTier h part room, moveOut_refused failed]; rfl
  case inRefused =>
    intro st h part room failed
    rw [exec_moveIntoTier h part room, moveInto_refused failed]; rfl
  case out =>
    intro h part room checked
    rw [exec_moveOutOfTier h part room, moveOut_runs checked]; rfl
  case queue =>
    intro h part own fits empty
    rw [exec_queueConfig h part empty, queueConfig_sets own fits]; rfl
  case arms =>
    intro slot h part valid idle room ahead named hslot
    rw [exec_ckptWrite h part valid idle room, ckptWrite_arms ahead named hslot]; rfl
  case ckptRefused =>
    intro h part valid idle room refused
    rw [exec_ckptWrite h part valid idle room, ckptWrite_refused refused]; rfl
  case restore =>
    rintro _ h state idle room rfl
    refine ⟨fun k source held => ?_, fun missing => ?_⟩
    · rw [exec_ckptRestore h state idle room, ckptRestore_runs source held]; rfl
    · rw [exec_ckptRestore h state idle room, ckptRestore_refused missing]; rfl

/-! ### DESCRIPTOR_START (R237, R239) -/

section
variable {f q : Nat} {s : State} {e : Desc} {ahead : List Desc}

/-- What keeps a queue's oldest unstarted descriptor waiting: its movers do not run, OUT_LIMIT descriptors run ahead of it, or
it comes AFTER one that is not done (R239). -/
def startWaits (s : State) (f q : Nat) (e : Desc) (ahead : List Desc) : Bool :=
  !moversRun s f
    || decide (s.get (F.VLT_MQ_CFG_OUT_LIMIT f q) ≤ (ahead.filter (fun x => x.running && !descDone (s.fieldD f) x)).length)
    || (dAfter e.word && !ahead.all (descDone (s.fieldD f)))

theorem startWaits_iff : startWaits s f q e ahead = true ↔ moversRun s f = false ∨
    s.get (F.VLT_MQ_CFG_OUT_LIMIT f q) ≤ (ahead.filter (fun x => x.running && !descDone (s.fieldD f) x)).length ∨
    (dAfter e.word = true ∧ ahead.all (descDone (s.fieldD f)) = false) := by
  simp only [startWaits, Bool.or_eq_true, Bool.and_eq_true, Bool.not_eq_true', decide_eq_true_eq, or_assoc]

/-- The descriptor as it starts: it runs unless it is malformed, no access of any cell begun. -/
def startedDesc (e : Desc) : Desc :=
  { e with running := !descBad e.word, ended := descBad e.word
           started := List.replicate (dUnits e.word) 0, completed := List.replicate (dUnits e.word) 0 }

/-- The next unstarted descriptor of a queue counts its wait from now (R239). -/
def restartWait (f q : Nat) (t : State) : State :=
  match oldest (inQueue (t.fieldD f) q) with
  | some (m, _) => setDesc f { m with since := (t.fieldD f).cyc } t
  | none => t

theorem descriptorStart_none (none_left : oldest (inQueue (s.fieldD f) q) = none) : descriptorStart f q s = s := by
  simp only [descriptorStart, none_left]

theorem descriptorStart_waits (next : oldest (inQueue (s.fieldD f) q) = some (e, ahead))
    (waits : startWaits s f q e ahead = true) : descriptorStart f q s = s := by
  simp only [descriptorStart, next]
  exact if_pos waits

theorem descriptorStart_starts (next : oldest (inQueue (s.fieldD f) q) = some (e, ahead))
    (free : startWaits s f q e ahead = false) {u : State}
    (hu : u = restartWait f q (setDesc f (startedDesc e)
      (s.high (F.VLT_MQ_STATUS_HOLD_HW f q) (((s.fieldD f).cyc - e.since) / 64)))) :
    descriptorStart f q s = showQueue f q (if descBad e.word then malformed f q e.index u else u) := by
  subst hu
  simp only [descriptorStart, next]
  exact if_neg (Bool.eq_false_iff.mp free)
end

/-! ### MOVER_ACCESS_START (R227, R240) -/

section
variable {f branch : Nat} {s : State}

/-- No access may start on a branch: the movers do not run, the field's accesses in flight are all taken, or the branch has had
its access of this uncore cycle (R240). -/
theorem moverAccessStart_barred (h : moversRun s f = false ∨ 1536 ≤ (s.fieldD f).accs.length ∨
    AMap.get (fun _ => 0) (s.fieldD f).branchAt branch = uncoreCycle s + 1) : moverAccessStart f branch s = s := by
  refine if_pos ?_
  rcases h with stopped | full | taken
  · simp only [stopped, Bool.not_false, Bool.true_or]
  · simp only [full, decide_true, Bool.or_true, Bool.true_or]
  · simp only [taken, beq_self_eq_true, Bool.or_true]

/-- The first Tier C address of a descriptor's next access of a cell that is refused, with the reason (R227, R229). -/
def refusedAddr (s : State) (f i : Nat) (e : Desc) : Option (Nat × Nat) :=
  (tcAddrs e.word i (e.started.getD i 0)).findSome? (fun a =>
    if accessRefused s (vaultOf f) (ownerOf s f) a (a + 256) false = 0 then none
    else some (accessRefused s (vaultOf f) (ownerOf s f) a (a + 256) false, a))

theorem moverAccessStart_idle
    (none_ready : (serveOrder s f branch).findSome? (fun e => (nextCell s f branch e).map (fun i => (e, i))) = none) :
    moverAccessStart f branch s = s := by
  unfold moverAccessStart
  simp only [none_ready, ite_self]

variable (runs : moversRun s f = true) (room : (s.fieldD f).accs.length < 1536)
  (free : AMap.get (fun _ => 0) (s.fieldD f).branchAt branch ≠ uncoreCycle s + 1) {e : Desc} {i : Nat}
  (next : (serveOrder s f branch).findSome? (fun e => (nextCell s f branch e).map (fun i => (e, i))) = some (e, i))
include runs room free next

/-- A Tier C address of the access that a fence or a missing key refuses ends its descriptor (R227, R229). -/
theorem moverAccessStart_refused {r a : Nat} (bad : refusedAddr s f i e = some (r, a)) :
    moverAccessStart f branch s = refuseAccess f (vaultOf f) r a i e s := by
  unfold refusedAddr at bad
  simp only [moverAccessStart, runs, decide_eq_false (Nat.not_le.mpr room), beq_eq_false_iff_ne.mpr free, Bool.not_true,
    Bool.or_self, Bool.false_eq_true, if_false, next, bad]

theorem moverAccessStart_begins (good : refusedAddr s f i e = none) :
    moverAccessStart f branch s = beginAccess f branch i e (s.setField f { s.fieldD f with
      branchAt := AMap.put (fun _ => 0) (s.fieldD f).branchAt branch (uncoreCycle s + 1) }) := by
  unfold refusedAddr at good
  simp only [moverAccessStart, runs, decide_eq_false (Nat.not_le.mpr room), beq_eq_false_iff_ne.mpr free, Bool.not_true,
    Bool.or_self, Bool.false_eq_true, if_false, next, good]
end

/-! ### MOVER_ACCESS_COMPLETE (R221, R222, R224, R241) -/

section
variable {f id ecc : Nat} {s : State} {a : MoverAcc} (found : (s.fieldD f).accs.find? (fun a => a.id == id) = some a)
include found

/-- Every scratchpad write of the access has been committed: it is over. -/
theorem moverAccessComplete_committed (committed : a.stage = 3) : moverAccessComplete f id ecc s = finishAccess f a s := by
  simp only [moverAccessComplete, found]
  exact if_pos committed

/-- An access waits at its source's port or for its scratchpad writes, is held, or waits behind another, for a channel that
recalibrates, or for a request that reached its units before (R224, R241, R285, R436). -/
theorem moverAccessComplete_waits (uncommitted : a.stage ≠ 3) (h : a.stage ≠ 1 ∨ a.held = true ∨
    behindOther (s.fieldD f) a = true ∨ accBusy s f a = true ∨
      moverAhead s (vaultOf f) a.reached (accTierC a).contains = true) :
    moverAccessComplete f id ecc s = s := by
  simp only [moverAccessComplete, found]
  refine (if_neg uncommitted).trans (if_pos ?_)
  simpa only [Bool.or_eq_true, decide_eq_true_eq, or_assoc] using h

variable (atTier : a.stage = 1) (unheld : a.held = false) (first : behindOther (s.fieldD f) a = false)
  (calibrated : accBusy s f a = false) (front : moverAhead s (vaultOf f) a.reached (accTierC a).contains = false)
  {r : List PWord × State} (hr : r = (if dSrc a.word = 1 then (a.data, s) else tierRead f ecc a s))
include atTier unheld first calibrated front hr

/-- Its data goes to the scratchpads' ports (R240). -/
theorem moverAccessComplete_toScratch (scratch : toScratch a.word = true)
    (room : roomW s f (dstPos s f a.word (if a.cell = 64 then 0 else a.cell)) = true) :
    moverAccessComplete f id ecc s = queueWrites f a r.1 r.2 := by
  subst hr
  simp [moverAccessComplete, found, atTier, unheld, first, calibrated, front, scratch, room]

/-- Its data goes to a tier, and the access is over (R241). -/
theorem moverAccessComplete_toTier (tier : toScratch a.word = false) :
    moverAccessComplete f id ecc s = finishAccess f a (tierWrite f a r.1 r.2) := by
  subst hr
  simp [moverAccessComplete, found, atTier, unheld, first, calibrated, front, tier]
end

/-- Settles O31: the equations above, by what a descriptor or an access waits for. -/
theorem moversRunDescriptors : Obligations.MoversRunDescriptors := by
  unfold Obligations.MoversRunDescriptors
  intro f s
  refine ⟨fun q none_left => congrArg Host.Outcome.next (descriptorStart_none none_left), ?start,
    fun branch barred => congrArg Host.Outcome.next (moverAccessStart_barred barred), ?access,
    fun branch _ _ none_ready => congrArg Host.Outcome.next (moverAccessStart_idle none_ready), ?complete,
    fun q => rfl⟩
  case start =>
    rintro q e ahead n next rfl
    refine ⟨fun waits => congrArg Host.Outcome.next (descriptorStart_waits next (startWaits_iff.mpr waits)),
      fun t u runs below after ht hu => congrArg Host.Outcome.next (descriptorStart_starts next ?_ ?_)⟩
    · rw [← Bool.not_eq_true, startWaits_iff]
      rintro (stopped | full | ⟨isAfter, unfinished⟩)
      · exact Bool.false_ne_true (stopped.symm.trans runs)
      · exact Nat.not_le.mpr below full
      · exact Bool.false_ne_true (unfinished.symm.trans (after isAfter))
    · subst ht
      exact hu
  case access =>
    rintro branch e i bad runs room free next hbad
    exact ⟨fun r a refused => congrArg Host.Outcome.next
        (moverAccessStart_refused runs room free next (hbad.symm.trans refused)),
      fun good => congrArg Host.Outcome.next (moverAccessStart_begins runs room free next (hbad.symm.trans good))⟩
  case complete =>
    intro id ecc a found
    refine ⟨fun committed => congrArg Host.Outcome.next (moverAccessComplete_committed found committed),
      fun elsewhere => congrArg Host.Outcome.next (moverAccessComplete_waits found (by omega) (.inl (by omega))),
      fun atTier waits => congrArg Host.Outcome.next (moverAccessComplete_waits found (by omega) (.inr waits)),
      fun r atTier unheld first calibrated front hr => ⟨fun scratch room => congrArg Host.Outcome.next ?_,
        fun tier => congrArg Host.Outcome.next ?_⟩⟩
    · exact moverAccessComplete_toScratch found atTier unheld first calibrated front hr scratch room
    · exact moverAccessComplete_toTier found atTier unheld first calibrated front hr tier

/-! ### Patrol scrubs (R221) -/

section
variable {s : State} {v : Nat} {last : Fet}

theorem scrubDue_iff : scrubDue s v last = true ↔ last + s.get (F.VLT_SCRUB_CFG_PERIOD_H v) * 3600000000000 ≤ s.fet :=
  decide_eq_true_iff

variable {x : Nat} {corr unc : List Nat}

theorem patrolScrub_stack_early (stack : x < 88) (early : scrubDue s (vaultOf x) (s.fieldD x).scrubAt = false) :
    patrolScrub x corr unc s = s := by
  unfold patrolScrub
  exact (if_pos stack).trans (if_pos (by rw [early]; rfl))

/-- Once its period has passed a scrub of a Tier N stack counts what it corrected and marks what it could not. -/
theorem patrolScrub_stack_due (stack : x < 88) (due : scrubDue s (vaultOf x) (s.fieldD x).scrubAt = true) {bad good : List Nat}
    (hbad : bad = ((unc ++ (s.fieldD x).tnEcc).filter (fun u => decide (u < 2 ^ 26))).eraseDups)
    (hgood : good = (((corr.filter (fun u => decide (u < 2 ^ 26))).eraseDups).filter (fun u => !bad.contains u))) :
    patrolScrub x corr unc s = ((s.setField x { s.fieldD x with scrubAt := s.fet }).forEach good (tnCorrected x)).forEach bad
      (fun u t => tnUncorrectable x u 0 false t) := by
  subst hgood hbad
  unfold patrolScrub
  exact (if_pos stack).trans (if_neg (by rw [due]; exact Bool.false_ne_true))

theorem patrolScrub_vault_early (early : scrubDue s v (s.vault v).scrubAt = false) :
    patrolScrub (88 + v) corr unc s = s := by
  unfold patrolScrub
  rw [if_neg (by omega), Nat.add_sub_cancel_left]
  exact if_pos (by rw [early]; rfl)

/-- The same of a Vault's Tier C, each unit in the partition of its region. -/
theorem patrolScrub_vault_due (due : scrubDue s v (s.vault v).scrubAt = true) {bad good : List Nat}
    (hbad : bad = ((unc ++ (s.vault v).tcEcc).filter (fun u => decide (u < 2 ^ 30))).eraseDups)
    (hgood : good = (((corr.filter (fun u => decide (u < 2 ^ 30))).eraseDups).filter (fun u => !bad.contains u))) :
    patrolScrub (88 + v) corr unc s = ((s.setVault v { s.vault v with scrubAt := s.fet }).forEach good
        (fun u t => tcCorrected v u (regionPart t v u) 0 t)).forEach bad
      (fun u t => tcUncorrectable v u (regionPart t v u) 0 t) := by
  subst hgood hbad
  unfold patrolScrub
  rw [if_neg (by omega), Nat.add_sub_cancel_left]
  exact if_neg (by rw [due]; exact Bool.false_ne_true)
end

/-! ### CKPT_EPOCH (R230) -/

section
variable {s : State} {p : Nat}

theorem ckptEpoch_unarmed (unarmed : (s.part p).ckptAt = none) : ckptEpoch p s = s := by simp only [ckptEpoch, unarmed]

theorem ckptEpoch_early {e : Fet} (armed : (s.part p).ckptAt = some e) (early : s.fet < e) : ckptEpoch p s = s := by
  simp only [ckptEpoch, armed, if_pos early]

/-- A checkpoint as it stands at its epoch in one Vault: every segment of the regions named there is unsaved. -/
def ckptBegun (d : PartData) (p v : Nat) (e : Fet) (t : State) : CkptState :=
  { vault := v, part := p, slot := d.ckptSlot, epoch := e, pkey := d.keyP.getD []
    unsaved := (((d.ckptRegions.filter (fun r => r.1 == v)).map (fun r => regionSegs t v r.2)).flatten).foldl
      (fun l g => setAdd g l) [] }

theorem ckptEpoch_begins {e : Fet} (armed : (s.part p).ckptAt = some e) (due : e ≤ s.fet) :
    ckptEpoch p s = (dropSlot p (s.part p).ckptSlot (s.setPart p { s.part p with ckptAt := none })).forEach
      (((s.part p).ckptRegions.map (·.1)).eraseDups)
      (fun v t => showCkpt v (t.setVault v { t.vault v with ckpt := some (ckptBegun (s.part p) p v e t) })) := by
  simp only [ckptEpoch, armed, if_neg (Nat.not_lt.mpr due), ckptBegun]
end

/-! ### SEGMENT_SAVE (R230, R231) -/

/-- The segment saved next is the lowest of those unsaved and those in the reserve. -/
theorem nextSave_eq_argmin (k : CkptState) :
    nextSave k = (k.unsaved.map (fun g => (g, g)) ++ k.reserve).argmin Prod.fst := by
  refine congrArg (fun g => List.foldl g none _) (funext fun b => funext fun x => ?_)
  cases b with
  | none => rfl
  | some y => rfl

theorem nextSave_lowest {k : CkptState} {g place : Nat} (next : nextSave k = some (g, place)) :
    ((g, place) ∈ k.reserve ∨ (g ∈ k.unsaved ∧ place = g)) ∧ (∀ h ∈ k.unsaved, g ≤ h) ∧ (∀ x ∈ k.reserve, g ≤ x.1) := by
  rw [nextSave_eq_argmin] at next
  have least : ∀ x ∈ k.unsaved.map (fun g => (g, g)) ++ k.reserve, g ≤ x.1 := fun _ hx => List.le_of_mem_argmin hx next
  refine ⟨?_, fun h hh => least (h, h) (List.mem_append_left _ (List.mem_map_of_mem hh)),
    fun x hx => least x (List.mem_append_right _ hx)⟩
  rcases List.mem_append.mp (List.argmin_mem next) with unsaved | reserve
  · obtain ⟨h, hh, same⟩ := List.mem_map.mp unsaved
    obtain ⟨rfl, rfl⟩ := Prod.mk.inj same
    exact .inr ⟨hh, rfl⟩
  · exact .inl reserve

theorem nextSave_none {k : CkptState} (saved : k.unsaved = []) (empty : k.reserve = []) : nextSave k = none := by
  simp only [nextSave, saved, empty, List.map_nil, List.append_nil, List.foldl_nil]

section
variable {s : State} {v : Nat}

theorem segmentSave_idle (idle : (s.vault v).ckpt = none) : segmentSave v s = s := by simp only [segmentSave, idle]

variable {k : CkptState} (writing : (s.vault v).ckpt = some k)
include writing

theorem segmentSave_complete (saved : nextSave k = none) : segmentSave v s = s := by simp only [segmentSave, writing, saved]

variable {g place : Nat} (next : nextSave k = some (g, place))
include next

/-- The writer waits once the main input is lost, for a channel that recalibrates, and for mover requests that reached the
segment before (R39, R224, R436). -/
theorem segmentSave_waits (h : s.boot.inputLost = true ∨ vaultBusy s v = true ∨ moverBefore s v (4096 * place) 4096 = true) :
    segmentSave v s = s := by
  rcases h with lost | busy | before
  · simp [segmentSave, writing, next, lost]
  · simp [segmentSave, writing, next, busy]
  · simp [segmentSave, writing, next, before]

variable (powered : s.boot.inputLost = false) (calibrated : vaultBusy s v = false)
  (front : moverBefore s v (4096 * place) 4096 = false)
include powered calibrated front

/-- No Tier P region, or no Tier P key, at the flash that takes the segment (R226, R229). -/
theorem segmentSave_refused (refused : tierPRefused s (flashVault v g) k.part ≠ 0) :
    segmentSave v s = refusedTierP (flashVault v g) k.part (tierPRefused s (flashVault v g) k.part)
      (4096 * Config.slotPlace (flashVault v g) v k.part k.slot g) s := by
  simp [segmentSave, writing, next, powered, calibrated, front, refused]

variable (allowed : tierPRefused s (flashVault v g) k.part = 0)
include allowed

theorem segmentSave_noKey (absent : tierCKey s v k.part = none) :
    segmentSave v s = refusalFault v k.part 3 (segBytes * place) 0 s := by
  simp [segmentSave, writing, next, powered, calibrated, front, allowed, absent]

theorem segmentSave_saves {key : List Byte} (installed : tierCKey s v k.part = some key) :
    segmentSave v s = segErrors v k.part place (showCkpt v (intoFlash k (readSegment (s.vault v) v key g place)
      (s.setVault v { s.vault v with ckpt := some { k with
        unsaved := setDel g k.unsaved, reserve := k.reserve.filter (fun x => x.1 != g) } }))) := by
  simp only [segmentSave, writing, next, powered, calibrated, front, allowed, installed, Bool.or_self, Bool.false_eq_true,
    if_false, ne_eq, not_true_eq_false]
end

/-! ### COPY_ON_WRITE (R231) -/

section
variable {s : State} {v addr : Nat} {ok : Bool} {k : CkptState}

/-- Every segment of the reserve holds a copy. -/
theorem freeReserve_none (full : ∀ g ∈ reserveSegs s v k.part, ∃ x ∈ k.reserve, x.2 = g) : freeReserve s v k = none := by
  refine List.find?_eq_none.mpr fun g hg => ?_
  obtain ⟨x, hx, rfl⟩ := full g hg
  simpa using ⟨x.1, hx⟩

variable (writing : (s.vault v).ckpt = some k)
include writing

/-- A segment saved or copied already is written at once; a Vault that recalibrates, and mover requests that reached the
segment before, are waited for (R224, R436). -/
theorem copyOnWrite_skips (h : k.unsaved.contains (addr / segBytes) = false ∨ vaultBusy s v = true ∨
    moverBefore s v (4096 * (addr / segBytes)) 4096 = true) : copyOnWrite v addr ok s = s := by
  unfold copyOnWrite
  rw [writing]
  refine if_pos ?_
  rcases h with saved | busy | before
  · rw [saved]; rfl
  · rw [busy, Bool.or_true, Bool.true_or]
  · rw [before, Bool.or_true]

variable (unsaved : k.unsaved.contains (addr / segBytes) = true) (calibrated : vaultBusy s v = false)
  (front : moverBefore s v (4096 * (addr / segBytes)) 4096 = false)
include unsaved calibrated front

theorem copyOnWrite_full (full : freeReserve s v k = none) :
    copyOnWrite v addr ok s = s.count (F.VLT_COW_STATUS_UE_WAITS v) 1 := by
  simp only [copyOnWrite, writing, unsaved, calibrated, front, full, Bool.not_true, Bool.or_self, Bool.false_eq_true, if_false]

variable {place : Nat} (free : freeReserve s v k = some place)
include free

theorem copyOnWrite_reserveWaits (before : moverBefore s v (4096 * place) 4096 = true) : copyOnWrite v addr ok s = s := by
  simp only [copyOnWrite, writing, unsaved, calibrated, front, free, before, Bool.not_true, Bool.or_self, Bool.false_eq_true,
    if_false, if_true]

variable (clear : moverBefore s v (4096 * place) 4096 = false)
include clear

theorem copyOnWrite_copies {key : List Byte} (good : ok = true) (installed : tierCKey s v k.part = some key) :
    copyOnWrite v addr ok s = noteCopied v (addr / segBytes) place
      (segErrors v k.part (addr / segBytes) (copySegment v key (addr / segBytes) place s)) := by
  simp only [copyOnWrite, writing, unsaved, calibrated, front, free, clear, good, installed, Bool.not_true, Bool.or_self,
    Bool.false_eq_true, if_false]

/-- A copy that fails, or that the absent key refuses, ends the checkpoint (R229, Table 07.5). -/
theorem copyOnWrite_fails (h : ok = false ∨ tierCKey s v k.part = none) {t u : State}
    (ht : t = (if (tierCKey s v k.part).isNone = true then refusalFault v k.part 3 addr 0 s else s))
    (hu : u = raiseFault
      { tierEvent 0x0309 k.part (88 + v) 11 (tcChannel t v (addr / 256)) addr 0 with access := 2 } t) :
    copyOnWrite v addr ok s = endCkpt k.part 0x0400 [] u.fet u := by
  subst hu ht
  rcases h with rfl | absent
  · simp only [copyOnWrite, writing, unsaved, calibrated, front, free, clear, Bool.not_true, Bool.or_self, Bool.false_eq_true,
      if_false]
  · simp only [copyOnWrite, writing, unsaved, calibrated, front, free, clear, absent, Bool.not_true, Bool.or_self,
      Bool.false_eq_true, if_false]
end

/-! ### The completion record and the journal (R233, R234) -/

section
variable {s : State} {p : Nat} {vs : List Nat} {ok : Nat → Bool} (hvs : vs = ((s.part p).ckptRegions.map (·.1)).eraseDups)
  (hok : ok = (fun v => (s.vault v).ckpt.any (fun k => k.part == p && k.unsaved.isEmpty && k.reserve.isEmpty)))
include hvs hok

/-- Before its epoch, with no checkpoint, and until every segment is saved, there is nothing to record. -/
theorem ckptCompletionRecord_waits (h : (s.part p).ckptAt ≠ none ∨ vs = [] ∨ vs.all ok = false) :
    ckptCompletionRecord p s = s := by
  subst hok hvs
  unfold ckptCompletionRecord
  refine if_pos ?_
  rcases h with armed | none_named | unsaved
  · rw [Option.isSome_iff_ne_none.mpr armed]; rfl
  · rw [none_named]; simp
  · rw [unsaved]; simp

theorem ckptCompletionRecord_records (begun : (s.part p).ckptAt = none) (named : vs ≠ []) (saved : vs.all ok = true) {e : Fet}
    (he : e = ((s.vault (vs.headD 0)).ckpt.map (·.epoch)).getD 0) :
    ckptCompletionRecord p s = endCkpt p 0 (leBytes (s.part p).ckptSlot 8 ++
      leBytes (segBytes * ((s.part p).ckptRegions.map (fun r => (regionSegs s r.1 r.2).length)).sum) 8) e
      (s.journal (.completion p (s.part p).ckptSlot e)) := by
  subst he hok hvs
  unfold ckptCompletionRecord
  exact if_neg (by simp [begun, named, saved])
end

section
variable {s : State}

theorem journalStagingFlush_due (staged : (s.vault 0).staging ≠ [])
    (due : 131072 ≤ (s.vault 0).staging.length ∨ (s.vault 0).stagedAt + 10000000 ≤ s.fet) :
    journalStagingFlush s = flushJournal s := by
  refine if_pos ?_
  rw [Bool.and_eq_true, Bool.or_eq_true, decide_eq_true_eq, decide_eq_true_eq]
  exact ⟨by simpa using staged, due⟩

theorem journalStagingFlush_early (h : (s.vault 0).staging = [] ∨
    ((s.vault 0).staging.length < 131072 ∧ s.fet < (s.vault 0).stagedAt + 10000000)) : journalStagingFlush s = s := by
  refine if_neg ?_
  rw [Bool.and_eq_true, Bool.or_eq_true, decide_eq_true_eq, decide_eq_true_eq]
  rintro ⟨staged, due⟩
  rcases h with empty | ⟨small, early⟩
  · simp [empty] at staged
  · exact due.elim (Nat.not_le.mpr small) (Nat.not_le.mpr early)
end

/-- Settles O32: the equations above, by what each event finds. -/
theorem tierEventsTakeEffect : Obligations.TierEventsTakeEffect := by
  unfold Obligations.TierEventsTakeEffect
  intro s
  refine ⟨fun f => rfl, ?stack, ?vault, fun p unarmed => congrArg Host.Outcome.next (ckptEpoch_unarmed unarmed), ?epoch, ?save,
    fun v k writing saved empty => congrArg Host.Outcome.next (segmentSave_complete writing (nextSave_none saved empty)),
    fun k g place next => nextSave_lowest next, fun v idle => congrArg Host.Outcome.next (segmentSave_idle idle), ?copy, ?record,
    ?flush, ?unflushed⟩
  case stack =>
    intro x corr unc bad good stack
    refine ⟨fun early => congrArg Host.Outcome.next (patrolScrub_stack_early stack ?_),
      fun due hbad hgood => congrArg Host.Outcome.next (patrolScrub_stack_due stack (scrubDue_iff.mpr due) hbad hgood)⟩
    exact Bool.eq_false_iff.mpr (mt scrubDue_iff.mp (Nat.not_le.mpr early))
  case vault =>
    rintro ⟨x, hx⟩ v corr unc bad good rfl
    refine ⟨fun early => congrArg Host.Outcome.next (patrolScrub_vault_early ?_),
      fun due hbad hgood => congrArg Host.Outcome.next (patrolScrub_vault_due (scrubDue_iff.mpr due) hbad hgood)⟩
    exact Bool.eq_false_iff.mpr (mt scrubDue_iff.mp (Nat.not_le.mpr early))
  case epoch =>
    exact fun p e armed => ⟨fun early => congrArg Host.Outcome.next (ckptEpoch_early armed early),
      fun due => congrArg Host.Outcome.next (ckptEpoch_begins armed due)⟩
  case save =>
    rintro v k g place _ writing next rfl
    refine ⟨fun waits => congrArg Host.Outcome.next (segmentSave_waits writing next waits),
      fun powered calibrated front refused => congrArg Host.Outcome.next ?_,
      fun powered calibrated front allowed absent => congrArg Host.Outcome.next ?_,
      fun key powered calibrated front allowed installed => congrArg Host.Outcome.next ?_⟩
    · exact segmentSave_refused writing next powered calibrated front refused
    · exact segmentSave_noKey writing next powered calibrated front allowed absent
    · exact segmentSave_saves writing next powered calibrated front allowed installed
  case copy =>
    intro v addr ok k writing
    refine ⟨fun saved => congrArg Host.Outcome.next (copyOnWrite_skips writing (.inl saved)),
      fun waits => congrArg Host.Outcome.next (copyOnWrite_skips writing (.inr waits)),
      fun unsaved calibrated front full => congrArg Host.Outcome.next ?_,
      fun place t u unsaved calibrated front free => ⟨fun before => congrArg Host.Outcome.next ?_,
        fun key clear good installed => congrArg Host.Outcome.next ?_, fun clear fails ht hu => congrArg Host.Outcome.next ?_⟩⟩
    · exact copyOnWrite_full writing unsaved calibrated front (freeReserve_none full)
    · exact copyOnWrite_reserveWaits writing unsaved calibrated front free before
    · exact copyOnWrite_copies writing unsaved calibrated front free clear good installed
    · exact copyOnWrite_fails writing unsaved calibrated front free clear fails ht hu
  case record =>
    exact fun p vs ok hvs hok => ⟨fun waits => congrArg Host.Outcome.next (ckptCompletionRecord_waits hvs hok waits),
      fun e begun named saved he => congrArg Host.Outcome.next (ckptCompletionRecord_records hvs hok begun named saved he)⟩
  case flush =>
    exact fun staged due => congrArg Host.Outcome.next (journalStagingFlush_due staged due)
  case unflushed =>
    exact fun h => congrArg Host.Outcome.next (journalStagingFlush_early h)

end Sys2Proof.Machine

/-!
PROOFS. The statements of 08_gradients_and_update: Edge Reduction Units (O33), frames that come in (O38), the registers of
ERUs, Update Engines, ports, power and faults (O18). For each command an equation says what its update comes to where its
conditions hold; the statements are read off these.
-/
namespace Sys2Proof.Machine

/-! ### ERU_INPUT_ARRIVAL (R256, R262, R271, R339) -/

section
variable {n f : Nat} {fr : Frame} {s t : State}

/-- A scheduled frame delivered at its port is taken, and what its first flit claimed is given back. -/
theorem eruInput_frame {a : EruArrival} (whole : a.first = false) (h : Delivered n fr s t) (sched : scheduled fr = true) :
    eruInput n (.frame fr) a s = dropFrameClaim n fr (takeFrame n a.ecc a.early fr t) := by
  simp only [eruInput, whole, receiveFrame_delivered h, sched, if_true, Bool.false_eq_true, if_false]

/-- The first flit of a frame claims the buffers of its input at the entry that holds its tag. -/
theorem frameFirst_claims {m e c kind : Nat} (carried : stateCarries s n fr = true) (sched : scheduled fr = true)
    (here : isHere s fr = true) (entry : frameEntry s n fr = some (m, e, c)) (reduces : entryOp s m e ≠ 3)
    (part : fr.part = entryPart s m e) (gen : frameGenOk s fr = true) (hkind : kind = (redInput e c fr).kind)
    (inTime : inputLate s m e c kind = false) :
    frameFirst n fr s =
      claimInput m e c kind (frameLen fr) (rivalBufs s m (leAt fr.payload 18 1)) (linkBusy n fr) s := by
  subst hkind
  have other : (entryOp s m e == 3) = false := beq_eq_false_iff_ne.mpr reduces
  have same : (fr.part != entryPart s m e) = false := by rw [part, bne_self_eq_false]
  simp only [frameFirst, carried, sched, here, entry, other, same, gen, inTime, Bool.not_true, Bool.or_self,
    Bool.false_eq_true, if_false]

/-- No packet waits at the field's port sub-channel. -/
theorem eruInput_mesh_none {f : Fin 88} {a : EruArrival} (empty : (s.fieldD f).portIn = []) :
    eruInput n (.mesh f) a s = s := by
  simp only [eruInput, packetFirst, takePacket, empty, ite_self]

/-- No ERU of port n's die holds the tag. -/
theorem dieEntries_none {tag : Nat} (none : ∀ m, m / 8 = n / 8 → findEntry s m tag = none) :
    (List.range' (n / 8 * 8) 8).any (fun m => (findEntry s m tag).isSome) = false := by
  refine List.any_eq_false.mpr fun m hm => ?_
  have bounds := List.mem_range'_1.mp hm
  rw [none m (by omega)]
  exact Bool.false_ne_true

section
variable {p : Packet} {rest : List Packet} (waits : (s.fieldD f).portIn = p :: rest) (die : portDieOf f = n / 8)
  (own : p.src < 5632)
include waits die own

/-- A packet of the wafer that no ERU of the die has an entry for leaves as a data frame. -/
theorem originate_sends {coord dst addr : Nat} (data : p.data ≠ []) (fits : p.data.length ≤ 255)
    (none : ∀ m, m / 8 = n / 8 → findEntry s m p.tag = none)
    (hfr : fr = mkFrame s 0 p.part p.tag (8 * coord + 3) 3 (dataPayload dst addr p.data)) :
    originate n f coord dst addr s = sendFrame { fr with poison := p.data.any (fun l => l.any (·.bad)) }
      (s.setField f { s.fieldD f with portIn := rest }) := by
  subst hfr
  have some_data : p.data.isEmpty = false := by simpa using data
  simp only [originate, waits, die, own, bne_self_eq_false, decide_true, Bool.not_true,
    decide_eq_false (Nat.not_lt.mpr fits), some_data, dieEntries_none none, Bool.or_self, Bool.false_eq_true, if_false]

/-- A packet of the wafer goes to the entry that holds its tag. -/
theorem takePacket_local {ecc early e c : Nat} (entry : findEntry s n p.tag = some (e, c)) :
    takePacket n f ecc early s =
      takeLocal n e c f ecc early p (s.setField f { s.fieldD f with portIn := rest }) := by
  have tag : inputTag p = p.tag := if_pos own
  simp only [takePacket, waits, die, tag, entry, own, ne_eq, not_true_eq_false, false_and, decide_true, Bool.not_true,
    Bool.false_eq_true, if_false]
end
end

/-! ### Deadlines (R265, R268, R269) -/

section
variable {n e c k : Nat} {s t u v : State}

/-- Nothing holds back a deadline that is due. -/
theorem DeadlineDue.unguarded {r : Nat} (h : DeadlineDue n e c k r s) :
    (!entryOn s n e || entryOp s n e == 3 || decide (s.get (F.ERU_SCHED2_CHUNKS n e) < c) || !entryInStep s n e
      || decide (s.fet < slotFet s n e k) || acted s n e c r) = false := by
  simp only [h.on, beq_eq_false_iff_ne.mpr h.reduces, decide_eq_false (Nat.not_lt.mpr h.chunk), h.inStep,
    decide_eq_false (Nat.not_lt.mpr h.due), h.first, Bool.not_true, Bool.or_self]

/-- At D an entry takes what its window holds (R265): a quenched module sends an EMPTY frame, a scalar and a chunk are
reduced each in its way. -/
theorem eruDeadline_due (h : DeadlineDue n e c (deadlineSlot s n e c) 0 s) (ht : t = markActed n e c 0 s)
    (hu : u = setWindow n ((t.eru n).win.filter (fun w => !(w.entry == e && w.chunk == c && w.kind % 4 != 2))) t) :
    eruDeadline n e c s = if moduleQuenched u = true then quenchDeadline n e c u
      else if entryOp u n e = 2 then scalarDeadline n e c (winGet s n e c 0) (winGet s n e c 1) u
      else chunkDeadline n e c (winGet s n e c 0) (winGet s n e c 1) u := by
  subst hu ht
  exact if_neg (by rw [h.unguarded]; exact Bool.false_ne_true)

theorem eruDeadline_idle (h : s.fet < slotFet s n e (deadlineSlot s n e c) ∨ acted s n e c 0 = true ∨
    entryOn s n e = false) : eruDeadline n e c s = s := by
  refine if_pos ?_
  rcases h with early | done | off
  · simp [early]
  · simp [done]
  · simp [off]

theorem eruResultDeadline_none (none : resultSlot s n e c = none) : eruResultDeadline n e c s = s := by
  simp only [eruResultDeadline, none]

section
variable (slot : resultSlot s n e c = some k) (h : DeadlineDue n e c k 1 s) (runs : moduleQuenched s = false)
  (ht : t = markActed n e c 1 s)
  (hu : u = setWindow n ((t.eru n).win.filter (fun w => !(w.entry == e && w.chunk == c && w.kind % 4 == 2))) t)
include slot h runs ht hu

/-- No result came in time: CODE 1, RESULT_MISSING (R268). -/
theorem eruResultDeadline_missing (missing : winGet s n e c 2 = none) :
    eruResultDeadline n e c s = raiseFault (eruEvent 0x0409 n (entryPart u n e) (chunkTag u n e c))
      (eruErr n 1 (entryPart u n e) (chunkTag u n e c) u) := by
  subst hu ht
  simp only [eruResultDeadline, slot, h.unguarded, runs, missing, Bool.or_self, Bool.false_eq_true, if_false]

/-- A result is delivered to its Vault, then forwarded where the index is not the last to receive it (R269). -/
theorem eruResultDeadline_delivers {w : WinIn} (came : winGet s n e c 2 = some w)
    (hv : v = deliverResult n e (resultMsg u n e c w) u) :
    eruResultDeadline n e c s = if (!forwardsResult v n e c) = true then v
      else eruSend n (resultPort v n e) e c k
        (redFrame v n e c (resultDir v n e) w.mask w.count (if w.empty then 3 else 1) (w.e / 256 - 1) w.body) v := by
  subst hv hu ht
  simp only [eruResultDeadline, slot, h.unguarded, runs, came, Bool.or_self, Bool.false_eq_true, if_false]
end
end

/-! ### Verdicts and notices (R257, R266) -/

section
variable {n e c : Nat} {s t : State}

/-- At V the one verdict owed for a chunk goes to the cell that sent it. -/
theorem verdictTime_due {v : Verdict} (on : entryOn s n e = true) (inStep : entryInStep s n e = true)
    (due : slotFet s n e (verdictSlot s n e c) ≤ s.fet)
    (owed : (s.eru n).verdicts.filter (fun v => v.entry == e && v.chunk == c && !v.sent) = [v])
    (ht : t = s.setEru n { s.eru n with verdicts := (s.eru n).verdicts.map (fun v =>
      if v.entry = e ∧ v.chunk = c then { v with sent := true } else v) }) :
    verdictTime n e c s = t.setNi v.field 75 { t.ni v.field 75 with
      out := (t.ni v.field 75).out ++ [{ id := 0, part := v.part, dst := v.src, tag := v.tag, addr := v.addr, len := 1
                                         data := [List.replicate 64 { w := if v.abstained then 0xbf800000 else 0 }] }] } := by
  subst ht
  simp only [verdictTime, on, inStep, decide_eq_false (Nat.not_lt.mpr due), owed, List.foldl_cons, List.foldl_nil,
    Bool.not_true, Bool.or_self, Bool.false_eq_true, if_false]

theorem verdictTime_early (early : s.fet < slotFet s n e (verdictSlot s n e c)) : verdictTime n e c s = s :=
  if_pos (by simp [early])

theorem abstainNotice_delivered {fr : Frame} (h : Delivered n fr s t) (cls : fr.cls = 2) (kind : leAt fr.payload 0 1 = 3) :
    abstainNotice n fr s = noticeVerdict n fr.part fr.tag t :=
  (receiveFrame_delivered h _ _).trans (if_pos (by rw [cls, kind]; rfl))
end

/-! ### ERU_BUSY_RESEND (R271) -/

section
variable {n tag : Nat} {s t : State}

theorem resendDue_iff : resendDue s n tag = true ↔
    ∃ x ∈ (s.eru n).refused, x.1 = tag ∧ x.2.2 ≠ 0 ∧ x.2.2 ≤ s.fet := by
  simp only [resendDue, List.any_eq_true, Bool.and_eq_true, beq_iff_eq, bne_iff_ne, decide_eq_true_eq, and_assoc]

theorem eruBusyResend_idle (idle : resendDue s n tag = false) : eruBusyResend n tag s = s :=
  if_pos (by rw [idle]; rfl)

/-- A refused frame whose backoff is over goes out again from its replay copy, in a slot of its partition. -/
theorem eruBusyResend_due {fr : SchedFrame} (due : resendDue s n tag = true)
    (ht : t = s.setEru n { s.eru n with
      refused := (s.eru n).refused.map (fun x => if x.1 = tag then (x.1, x.2.1, 0) else x) })
    (copy : (s.eru n).sent.find? (fun x => x.fr.tag == tag) = some fr) :
    eruBusyResend n tag s =
      handFrame n (resendSlot t n fr.fr.part) fr.entry fr.chunk fr.fr (t.count (F.ERU_BUSY_CNT_RETRIED n) 1) := by
  subst ht
  simp only [eruBusyResend, due, copy, Bool.not_true, Bool.false_eq_true, if_false]
end

/-- Settles O33: the equations above, command by command. -/
theorem eruEventsTakeEffect : Obligations.EruEventsTakeEffect := by
  unfold Obligations.EruEventsTakeEffect
  intro n s
  refine ⟨?frame, ?first, ?noPacket, ?outbound, ?mesh, ?deadline, ?noDeadline, ?result, ?noResult, ?verdict, ?early, ?notice,
    ?noResend, ?resend⟩
  case frame => exact fun fr ecc early t h sched => congrArg Host.Outcome.next (eruInput_frame rfl h sched)
  case first =>
    exact fun fr ecc early m e c kind carried sched here entry reduces part gen hkind inTime =>
      congrArg Host.Outcome.next (frameFirst_claims carried sched here entry reduces part gen hkind inTime)
  case noPacket => exact fun f ecc early first empty => congrArg Host.Outcome.next (eruInput_mesh_none empty)
  case outbound =>
    exact fun f coord dst addr ecc early first p rest fr waits die own data fits none hfr =>
      congrArg Host.Outcome.next (originate_sends waits die own data fits none hfr)
  case mesh =>
    exact fun f ecc early p rest e c waits die own entry =>
      congrArg Host.Outcome.next (takePacket_local waits die own entry)
  case deadline =>
    intro e c t u h ht hu
    have acts := eruDeadline_due h ht hu
    refine ⟨fun quenched => congrArg Host.Outcome.next (acts.trans (if_pos quenched)),
      fun runs scalar => congrArg Host.Outcome.next (acts.trans ?_),
      fun runs chunk => congrArg Host.Outcome.next (acts.trans ?_)⟩
    · rw [if_neg (by rw [runs]; exact Bool.false_ne_true), if_pos scalar]
    · rw [if_neg (by rw [runs]; exact Bool.false_ne_true), if_neg chunk]
  case noDeadline => exact fun e c idle => congrArg Host.Outcome.next (eruDeadline_idle idle)
  case result =>
    intro e c k t u slot h runs ht hu
    refine ⟨fun missing => congrArg Host.Outcome.next (eruResultDeadline_missing slot h runs ht hu missing),
      fun w v came hv => ?_⟩
    have delivers := eruResultDeadline_delivers slot h runs ht hu came hv
    exact ⟨fun last => congrArg Host.Outcome.next (delivers.trans (if_pos (by rw [last]; rfl))),
      fun more => congrArg Host.Outcome.next (delivers.trans (if_neg (by rw [more]; exact Bool.false_ne_true)))⟩
  case noResult => exact fun e c none => congrArg Host.Outcome.next (eruResultDeadline_none none)
  case verdict =>
    exact fun e c v on inStep due owed =>
      ⟨_, rfl, congrArg Host.Outcome.next (verdictTime_due on inStep due owed rfl)⟩
  case early => exact fun e c early => congrArg Host.Outcome.next (verdictTime_early early)
  case notice => exact fun fr t h cls kind => congrArg Host.Outcome.next (abstainNotice_delivered h cls kind)
  case noResend =>
    intro tag idle
    refine congrArg Host.Outcome.next (eruBusyResend_idle (Bool.eq_false_iff.mpr fun due => ?_))
    obtain ⟨x, hx, same, begun, past⟩ := resendDue_iff.mp due
    exact (idle x hx same).elim begun (Nat.not_lt.mpr past)
  case resend =>
    exact fun tag fr t x hx same begun past ht copy =>
      congrArg Host.Outcome.next (eruBusyResend_due (resendDue_iff.mpr ⟨x, hx, same, begun, past⟩) ht copy)

/-! ### Frames delivered here (R271, R299, R302, R304) -/

section
variable {n : Nat} {fr : Frame} {s t u : State}

/-- The packet of its partition as which a data frame enters the wafer (R299). -/
def enteringPacket (fr : Frame) : Packet :=
  { id := 0, part := fr.part, gen := fr.gen, fromLink := true, dst := leAt fr.payload 0 2 % 8192, tag := fr.tag
    addr := leAt fr.payload 2 2 % 32768, len := leAt fr.payload 4 2 % 256
    data := (List.range (leAt fr.payload 4 2 % 256)).map (fun j =>
      bytesAcc ((fr.payload.drop (128 + 256 * j)).take 256) (bitOf (leAt fr.payload 8 32) j == 1)) }

/-- The field at whose port sub-channel a data frame enters, where there is one (R299). -/
def enteringField (t : State) (n : Nat) (fr : Frame) : Option Nat :=
  deliverField t n fr.part ((locate t (leAt fr.payload 0 2 % 8192) 0).map (·.1) |>.getD 0)

/-- A data frame enters the wafer where a field of its partition delivers it, else it is dropped: CODE 6, ROUTE. -/
theorem deliverData_eq : deliverData n fr t = (enteringField t n fr).elim
    (raiseFault (frameEvent 0x0405 n fr) (snlErr n 6 fr.part fr.tag (t.count (F.SNL_DROP_CNT1_ROUTE n) 1)))
    (fun g => t.setNi g 75 { t.ni g 75 with out := (t.ni g 75).out ++ [enteringPacket fr] }) := by
  simp only [deliverData, enteringField]
  cases locate t (leAt fr.payload 0 2 % 8192) 0 with
  | none =>
    simp only [Option.map_none, Option.getD_none]
    cases deliverField t n fr.part 0 <;> rfl
  | some x =>
    simp only [Option.map_some, Option.getD_some]
    cases deliverField t n fr.part x.1 <;> rfl

theorem dataFrame_delivered (h : Delivered n fr s t) (cls : fr.cls = 0) :
    receiveFrame n fr (fun g => g.cls == 0) (deliverData n fr) s = deliverData n fr t :=
  (receiveFrame_delivered h _ _).trans (if_pos (by rw [cls]; rfl))

/-- A BUSY frame of an ERU's frame begins its backoff (R271). -/
theorem eruRefused_sent {tag k : Nat} {x : SchedFrame} (sent : (t.eru n).sent.find? (fun x => x.fr.tag == tag) = some x)
    (hk : k = (((t.eru n).refused.find? (fun x => x.1 == tag)).map (·.2.1)).getD 0) :
    eruRefused n tag t = t.setEru n { t.eru n with
      refused := (t.eru n).refused.filter (fun x => x.1 != tag)
        ++ [(tag, k + 1, t.fet + cdiv (4 * (16 * 2 ^ min k 6 + leAt x.fr.payload 18 1 % 16)) 5)] } := by
  subst hk
  simp only [eruRefused, sent, backoffCycles]

theorem eruRefused_unsent {tag : Nat} (unsent : (t.eru n).sent.find? (fun x => x.fr.tag == tag) = none) :
    eruRefused n tag t = t := by
  simp only [eruRefused, unsent]

theorem busyFrame_delivered (h : Delivered n fr s t) (cls : fr.cls = 2) (kind : leAt fr.payload 0 1 = 4) :
    busyFrame n fr s = eruRefused n fr.tag t :=
  (receiveFrame_delivered h _ _).trans (if_pos (by rw [cls, kind]; rfl))

/-- A configuration digest is seen, and compared at equal epochs (R304). -/
theorem configDigestReceive_delivered {p : Nat} (h : Delivered n fr s t) (cls : fr.cls = 6) (kind : leAt fr.payload 0 1 = 1)
    (hp : p = leAt fr.payload 1 1 % 8)
    (hu : u = t.setPort n { t.port n with digestSeen := setAdd p (t.port n).digestSeen }) :
    configDigestReceive n fr s =
      if leAt fr.payload 4 2 ≠ cfgEpoch u p ∨ (fr.payload.drop 16).take 32 = cfgDigest u p then u
      else cfgMismatch n { fr with part := p } u := by
  subst hu hp
  exact (receiveFrame_delivered h _ _).trans (if_pos (by rw [cls, kind]; rfl))
end

/-! ### Frames for another module (R311, R312) -/

section
variable {n : Nat} {fr : Frame} {s t : State}

/-- A frame that every check at its tail passes is not spoilt (R312). -/
theorem cutThroughBad_good (kept : (s.port n).rxLost = false) (crc : crcGood fr = true)
    (auth : authPasses s n (AMap.get (fun _ => 0) (s.port n).authRx fr.part) fr = true) : cutThroughBad n fr s = s := by
  simp only [cutThroughBad, kept, crc, auth, Bool.not_true, Bool.or_self, Bool.not_false, Bool.or_true, Bool.true_or, if_true]

/-- A frame that passes its checks and is not for this module leaves by the port its route names (R311). -/
theorem receiveFrame_forwards {m : Nat} {dl : Bool} (carried : stateCarries s n fr = true)
    (link : (linkLayer n fr s).1 = true) (header : (headerOk n fr (linkLayer n fr s).2).1 = true)
    (ht : t = freeCredit n fr (headerOk n fr (linkLayer n fr s).2).2) (away : isHere t fr = false)
    (route : routeFrame t fr (some n) = some (m, dl)) (mine : Frame → Bool) (k : State → State) :
    receiveFrame n fr mine k s = enqueue m { fr with dl := dl } t := by
  subst ht
  simp only [receiveFrame, carried, link, header, away, route, Bool.not_true, Bool.false_eq_true, if_false]
end

/-- Settles O38: the equations above, frame by frame. -/
theorem framesAreDelivered : Obligations.FramesAreDelivered := by
  unfold Obligations.FramesAreDelivered
  intro n fr s
  refine ⟨?refused, ?data, ?busy, ?digest, ?forward⟩
  case refused =>
    exact fun h => ⟨congrArg Host.Outcome.next (receiveFrame_refused h _ _),
      congrArg Host.Outcome.next (receiveFrame_refused h _ _), congrArg Host.Outcome.next (receiveFrame_refused h _ _)⟩
  case data =>
    intro t h cls
    have delivered := (dataFrame_delivered h cls).trans deliverData_eq
    exact ⟨fun nowhere => congrArg Host.Outcome.next (delivered.trans (congrArg (Option.elim · _ _) nowhere)),
      fun g field => congrArg Host.Outcome.next (delivered.trans (congrArg (Option.elim · _ _) field))⟩
  case busy =>
    intro t h cls kind
    have delivered := busyFrame_delivered h cls kind
    exact ⟨fun x k sent hk => congrArg Host.Outcome.next (delivered.trans (eruRefused_sent sent hk)),
      fun unsent => congrArg Host.Outcome.next (delivered.trans (eruRefused_unsent unsent))⟩
  case digest =>
    intro t p u h cls kind hp hu
    have delivered := configDigestReceive_delivered h cls kind hp hu
    exact ⟨fun agrees => congrArg Host.Outcome.next (delivered.trans (if_pos agrees)),
      fun epoch differs => congrArg Host.Outcome.next (delivered.trans (if_neg (not_or.mpr ⟨not_not.mpr epoch, differs⟩)))⟩
  case forward =>
    intro t m dl kept crc auth carried link header ht away route
    refine congrArg Host.Outcome.next ((congrArg _ (cutThroughBad_good kept crc auth)).trans ?_)
    exact receiveFrame_forwards carried link header ht away route _ _

/-! ### Writes of registers whose load depends on no state (R274, R286, R288, R289, R318, R324, R407, R430, R489, R490) -/

/-- The windows whose registers load what is written to them, whatever the state. -/
def loadsAsWritten : Win → Bool
  | .chitin | .queue _ _ | .time => false
  | _ => true

theorem stateLoad_asWritten {reg r : Nat} {x : Win} {w : Word} {s : State} (win : winOf reg = (x, r))
    (loads : loadsAsWritten x = true) : stateLoad s reg w = w := by
  unfold stateLoad
  rw [win]
  split
  · next e => cases e; cases loads
  · next e => cases e; cases loads
  · rfl

/-- A register of these windows, but no schedule word and no group configuration, loads what is written to it, then sets
off the effect of its row. -/
theorem busWrite_asWritten {via : Path} {reg r : Nat} {x : Win} {w : Word} {s : State} (h : Lands via reg reg w s)
    (win : winOf reg = (x, r)) (loads : loadsAsWritten x = true) (noSched : ∀ n, x = .eru n → r < 0x800)
    (noGroup : ∀ u, x = .upd u → r < 0x8100) :
    busWrite via reg 4 w.toNat true s = writeEffect reg w (queueWas s reg) true (landed reg w s) := by
  have plain : writeHere via reg w true s = writePlain via reg w true s :=
    writeHere_plain h.accepted win (by rintro rfl; cases loads) noSched noGroup
  rw [busWrite_lands h plain, stateLoad_asWritten win loads]
  rfl

section
variable {via : Path} {n e k u g : Nat} {w : Word} {s t : State}

theorem winOf_eruSched (hn : n < 64) (he : e < 128) (hk : k < 4) :
    winOf (R.ERU_SCHED0 n e + 4 * k) = (.eru n, 0x800 + (16 * e + 4 * k)) := by
  have offset : R.ERU_SCHED0 n e + 4 * k = 0x140000 + 0x1000 * n + (0x800 + (16 * e + 4 * k)) := by unfold R.ERU_SCHED0; omega
  rw [offset]
  exact winOf_eru hn (by omega)

/-- A word of a schedule entry is taken by its ERU (R288). -/
theorem busWrite_eruSched (hn : n < 64) (he : e < 128) (hk : k < 4)
    (h : Lands via (R.ERU_SCHED0 n e + 4 * k) (R.ERU_SCHED0 n e + 4 * k) w s) :
    busWrite via (R.ERU_SCHED0 n e + 4 * k) 4 w.toNat true s =
      eruSchedSet n e k (w &&& accMask .rw (R.ERU_SCHED0 n e + 4 * k)) s := by
  have entry : (0x800 + (16 * e + 4 * k) - 0x800) / 16 = e := by omega
  have word : (0x800 + (16 * e + 4 * k)) / 4 % 4 = k := by omega
  rw [busWrite_arrives h.aligned h.up h.unlatched h.passed h.answered h.placed]
  simp only [writeHere, h.accepted, winOf_eruSched hn he hk, Nat.le_add_right, entry, word, Bool.false_eq_true, if_false, if_true]

theorem busWrite_eruCtrl (hn : n < 64) (h : Lands via (R.ERU_CTRL n) (R.ERU_CTRL n) w s) :
    busWrite via (R.ERU_CTRL n) 4 w.toNat true s =
      if w.getLsbD 1 = true then eruCntClear n (landed (R.ERU_CTRL n) w s) else landed (R.ERU_CTRL n) w s := by
  have win : winOf (R.ERU_CTRL n) = (.eru n, 0x4) := winOf_eru hn (by decide)
  rw [busWrite_asWritten h win rfl (fun _ _ => by decide) nofun, writeEffect, win]
  rfl

/-- The landed word is all that an injection register holds (R274). -/
theorem busWrite_eruInject (hn : n < 64) (h : Lands via (R.ERU_INJECT n) (R.ERU_INJECT n) w s) :
    busWrite via (R.ERU_INJECT n) 4 w.toNat true s = landed (R.ERU_INJECT n) w s := by
  have win : winOf (R.ERU_INJECT n) = (.eru n, 0x1c) := winOf_eru hn (by decide)
  rw [busWrite_asWritten h win rfl (fun _ _ => by decide) nofun, writeEffect, win]
  rfl

/-- A register of group `g` of an Update Engine, at offset `r` in the group's block. -/
theorem winOf_updGroup {r : Nat} (hu : u < 12) (hg : g < 16) (hr : r < 0x40) :
    winOf (0x200000 + 0x10000 * u + (0x8100 + r) + 64 * g) = (.upd u, 0x8100 + r + 64 * g) := by
  rw [Nat.add_assoc _ (0x8100 + r)]
  exact winOf_upd hu (by omega) (by omega)

/-- A group's configuration is taken by its Update Engine (R286). -/
theorem busWrite_updGCfg (hu : u < 12) (hg : g < 16) (h : Lands via (R.UPD_G_CFG u g) (R.UPD_G_CFG u g) w s) :
    busWrite via (R.UPD_G_CFG u g) 4 w.toNat true s = updGCfgSet u g (w &&& accMask .rw (R.UPD_G_CFG u g)) s := by
  have win : winOf (R.UPD_G_CFG u g) = (.upd u, 0x8100 + 64 * g) := winOf_updGroup hu hg (r := 0) (by decide)
  have config : 0x8100 ≤ 0x8100 + 64 * g ∧ 0x8100 + 64 * g < 0x8500 ∧ (0x8100 + 64 * g) % 0x40 = 0 := by omega
  have group : (0x8100 + 64 * g - 0x8100) / 0x40 = g := by omega
  rw [busWrite_arrives h.aligned h.up h.unlatched h.passed h.answered h.placed]
  simp only [writeHere, h.accepted, win, if_pos config, group, Bool.false_eq_true, if_false]

/-- The low 16 bits of a word, where a shape holds its columns. -/
theorem Word.field_low16 (w : Word) : Word.field w 15 0 = w.toNat % 2 ^ 16 := by
  simp [Word.field]

/-- A shape without columns is refused by a valid group of OPT 2 (R281). -/
theorem writeRefused_noColumns (hu : u < 12) (hg : g < 16) (on : grpOn s u g = true) (opt : grpOpt s u g = 2)
    (none : w.toNat % 2 ^ 16 = 0) : writeRefused s (R.UPD_G_SHAPE u g) w = true := by
  have win : winOf (R.UPD_G_SHAPE u g) = (.upd u, 0x810c + 64 * g) := winOf_updGroup hu hg (r := 0xc) (by decide)
  have group : (0x810c + 64 * g - 0x8100) / 0x40 = g := by omega
  have shape : 0x8100 ≤ 0x810c + 64 * g ∧ 0x810c + 64 * g < 0x8500 ∧ (0x810c + 64 * g) % 0x40 = 0xc := by omega
  have refused : noColumns s (R.UPD_G_SHAPE u g) w = true := by
    simp only [noColumns, win, group, decide_eq_true shape, on, opt, Word.field_low16, none, beq_self_eq_true, Bool.and_self]
  rw [writeRefused, refused, Bool.or_true, Bool.true_or]

/-- A write that its register refuses is discarded with a note, subcode 5. -/
theorem busWrite_refused {off reg : Nat} (aligned : off % 4 = 0) (up : pathUp s via = true)
    (unlatched : latchOnly s via = false) (passed : filtered s via true off = false) (answered : answers s off = true)
    (placed : place via off = some reg) (refused : writeRefused s reg w = true) :
    busWrite via off 4 w.toNat true s = regNote via true 5 reg s := by
  rw [busWrite_arrives aligned up unlatched passed answered placed, writeHere, refused]
  rfl

theorem busWrite_updCtrl (hu : u < 12) (h : Lands via (R.UPD_CTRL u) (R.UPD_CTRL u) w s) :
    busWrite via (R.UPD_CTRL u) 4 w.toNat true s =
      if w.getLsbD 0 = true then updCntClear u (landed (R.UPD_CTRL u) w s) else landed (R.UPD_CTRL u) w s := by
  have win : winOf (R.UPD_CTRL u) = (.upd u, 0x8004) := winOf_upd hu (by decide) (by decide)
  rw [busWrite_asWritten h win rfl nofun (fun _ _ => by decide), writeEffect, win]
  rfl

theorem busWrite_snlCtrl (hn : n < 64) (h : Lands via (R.SNL_CTRL n) (R.SNL_CTRL n) w s) :
    busWrite via (R.SNL_CTRL n) 4 w.toNat true s = snlCtrl n w (landed (R.SNL_CTRL n) w s) := by
  have win : winOf (R.SNL_CTRL n) = (.port n, 0x4) := winOf_port hn (by decide)
  rw [busWrite_asWritten h win rfl nofun nofun, writeEffect, win]
  rfl

theorem busWrite_snlInject (hn : n < 64) (h : Lands via (R.SNL_INJECT n) (R.SNL_INJECT n) w s) :
    busWrite via (R.SNL_INJECT n) 4 w.toNat true s = landed (R.SNL_INJECT n) w s := by
  have win : winOf (R.SNL_INJECT n) = (.port n, 0x58) := winOf_port hn (by decide)
  rw [busWrite_asWritten h win rfl nofun nofun, writeEffect, win]
  rfl

theorem busWrite_pwrCtrl (h : Lands via R.PWR_CTRL R.PWR_CTRL w s) :
    busWrite via R.PWR_CTRL 4 w.toNat true s = pwrCtrl w (landed R.PWR_CTRL w s) := by
  have win : winOf R.PWR_CTRL = (.power, 0x4) := by decide
  rw [busWrite_asWritten h win rfl nofun nofun, writeEffect, win]
  rfl

theorem busWrite_fltInject (h : Lands via R.FLT_INJECT R.FLT_INJECT w s) :
    busWrite via R.FLT_INJECT 4 w.toNat true s =
      if w.getLsbD 0 = true then fltInject R.FLT_INJECT (landed R.FLT_INJECT w s) else landed R.FLT_INJECT w s := by
  have win : winOf R.FLT_INJECT = (.faults, 0x20) := by decide
  rw [busWrite_asWritten h win rfl nofun nofun, writeEffect, win]
  rfl

theorem busWrite_fltCtrl (h : Lands via R.FLT_CTRL R.FLT_CTRL w s) :
    busWrite via R.FLT_CTRL 4 w.toNat true s =
      if w.getLsbD 1 = true then fltCntClear (landed R.FLT_CTRL w s) else landed R.FLT_CTRL w s := by
  have win : winOf R.FLT_CTRL = (.faults, 0x4) := by decide
  rw [busWrite_asWritten h win rfl nofun nofun, writeEffect, win]
  rfl

/-! What SNL_CTRL and PWR_CTRL set off, a bit at a time. -/

theorem snlCtrl_enable (noRetrain : w.getLsbD 2 = false) (noRetry : w.getLsbD 3 = false) :
    snlCtrl n w t = applyEn n t := by
  simp only [snlCtrl, noRetrain, noRetry, Bool.false_eq_true, if_false]

theorem snlCtrl_retry (noRetrain : w.getLsbD 2 = false) (retry : w.getLsbD 3 = true) :
    snlCtrl n w t = portRetry n (applyEn n t) := by
  simp only [snlCtrl, noRetrain, retry, Bool.false_eq_true, if_false, if_true]

theorem snlCtrl_retrain (retrain : w.getLsbD 2 = true) (noRetry : w.getLsbD 3 = false) :
    snlCtrl n w t = requestRetrain n (applyEn n t) := by
  simp only [snlCtrl, retrain, noRetry, Bool.false_eq_true, if_false, if_true]

theorem pwrCtrl_vminClear (vmin : w.getLsbD 1 = true) (keep : w.getLsbD 0 = false) : pwrCtrl w t = vminClear t := by
  simp only [pwrCtrl, vmin, keep, Bool.false_eq_true, if_false, if_true]

theorem pwrCtrl_cntClear (noVmin : w.getLsbD 1 = false) (clear : w.getLsbD 0 = true) :
    pwrCtrl w t = (t.wr R.PWR_RAMP_CNT 0).wr R.PWR_TOKEN_DEFER 0 := by
  simp only [pwrCtrl, noVmin, clear, Bool.false_eq_true, if_false, if_true]
end

/-- Settles O18: each write arrives at its register, and the bit that is set there has its effect. -/
theorem edgeAndPowerRegistersTakeEffect : Obligations.EdgeAndPowerRegistersTakeEffect := by
  unfold Obligations.EdgeAndPowerRegistersTakeEffect
  intro via n e k u g v s
  refine ⟨?sched, ?eruClear, ?eruInject, ?group, ?shape, ?updClear, ?port, ?portInject, ?power, ?faultInject, ?faultClear⟩
  case sched => exact fun h => congrArg Host.Outcome.next (busWrite_eruSched n.isLt e.isLt k.isLt h)
  case eruClear => exact fun h clear => congrArg Host.Outcome.next ((busWrite_eruCtrl n.isLt h).trans (if_pos clear))
  case eruInject => exact fun h => congrArg Host.Outcome.next (busWrite_eruInject n.isLt h)
  case group => exact fun h => congrArg Host.Outcome.next (busWrite_updGCfg u.isLt g.isLt h)
  case shape =>
    intro up unlatched passed answered placed on opt none
    have aligned : R.UPD_G_SHAPE u g % 4 = 0 := by unfold R.UPD_G_SHAPE; omega
    have narrow : (v.setWidth 64).setWidth 32 = v := by simp
    refine congrArg Host.Outcome.next ((busWrite_setWidth via _ (v.setWidth 64) true s).trans ?_)
    rw [narrow]
    exact busWrite_refused aligned up unlatched passed answered placed (writeRefused_noColumns u.isLt g.isLt on opt none)
  case updClear => exact fun h clear => congrArg Host.Outcome.next ((busWrite_updCtrl u.isLt h).trans (if_pos clear))
  case port =>
    intro h
    have write := busWrite_snlCtrl n.isLt h
    exact ⟨fun noRetrain noRetry => congrArg Host.Outcome.next (write.trans (snlCtrl_enable noRetrain noRetry)),
      fun noRetrain retry => congrArg Host.Outcome.next (write.trans (snlCtrl_retry noRetrain retry)),
      fun retrain noRetry => congrArg Host.Outcome.next (write.trans (snlCtrl_retrain retrain noRetry))⟩
  case portInject => exact fun h => congrArg Host.Outcome.next (busWrite_snlInject n.isLt h)
  case power =>
    intro h
    have write := busWrite_pwrCtrl h
    exact ⟨fun vmin keep => congrArg Host.Outcome.next (write.trans (pwrCtrl_vminClear vmin keep)),
      fun noVmin clear => congrArg Host.Outcome.next (write.trans (pwrCtrl_cntClear noVmin clear))⟩
  case faultInject => exact fun h arm => congrArg Host.Outcome.next ((busWrite_fltInject h).trans (if_pos arm))
  case faultClear => exact fun h clear => congrArg Host.Outcome.next ((busWrite_fltCtrl h).trans (if_pos clear))

end Sys2Proof.Machine

/-!
PROOFS. The statements of 09_synael_link: the checks of a request (O12), the states of a port (O35), negotiation (O36), what a
port sends and its link control words (O37), retrains, margins and rate changes (O39), the manager's role (O47). For each
command an equation says what its update comes to where its conditions hold; the statements are read off these.
-/
namespace Sys2Proof.Machine

/-! ### The order of the checks (R321, R382) -/

section
variable {s : State} {op st : Nat} {r : Request} {bad : Bool}

theorem noScpVersion_iff {src : Source} :
    noScpVersion s src = true ↔ ∃ c n, src = .snl c n ∧ s.get (F.SNL_NEG_SCP n) = 0 := by
  cases src with
  | snl c n => exact beq_iff_eq.trans ⟨fun h => ⟨c, n, rfl, h⟩, fun ⟨_, _, same, h⟩ => by cases same; exact h⟩
  | _ => exact ⟨nofun, nofun⟩

/-- Over a carrier that settled a version, the version check is of the request's own version. -/
theorem noScpVersion_settled {src : Source} (settled : ∀ c n, src = .snl c n → s.get (F.SNL_NEG_SCP n) ≠ 0) :
    noScpVersion s src = false :=
  Bool.eq_false_iff.mpr fun h => by
    obtain ⟨c, n, snl, unsettled⟩ := noScpVersion_iff.mp h
    exact settled c n snl unsettled

/-- A check at the head of a chain answers its status, or the rest of the chain answers. -/
theorem guard_eq_some_iff {p : Prop} [Decidable p] {a b : Nat} {rest : Option Nat} :
    (if p then some a else rest) = some b ↔ (p ∧ a = b) ∨ (¬ p ∧ rest = some b) := by
  rw [ite_eq_iff, Option.some.injEq]

/-- A check answers only where every earlier one passes. -/
theorem precheck_eq_some_iff : precheck s op r bad = some st ↔
    noScpVersion s r.src = true ∧ stVersion = st ∨ noScpVersion s r.src = false ∧
    ((op ≠ 0x02 ∧ r.version.toNat ≠ queueVer s r.src) ∧ stVersion = st ∨
      (op = 0x02 ∨ r.version.toNat = queueVer s r.src) ∧
    (opDefined op = false ∧ stBadOpcode = st ∨ opDefined op = true ∧
    (deniedBy s op r = true ∧ stDenied = st ∨ deniedBy s op r = false ∧
    ((headerBad r = true ∨ bad = true) ∧ stBadParam = st ∨ (headerBad r = false ∧ bad = false) ∧
    (quenchRefuses s op r = true ∧ stQuenched = st))))) := by
  simp only [precheck, guard_eq_some_iff, Bool.not_eq_true', Bool.not_eq_true, Bool.not_eq_false, Bool.or_eq_true, not_or,
    not_and_or, not_ne_iff, reduceCtorEq, and_false, or_false]
end

/-- Settles O12: the chain of checks, read at each status; the statuses differ. -/
theorem headerChecksStandInOrder : Obligations.HeaderChecksStandInOrder := by
  unfold Obligations.HeaderChecksStandInOrder
  intro s op r bad
  refine ⟨?version, fun settled => ?later⟩
  case version =>
    rw [precheck_eq_some_iff, ← noScpVersion_iff]
    cases noScpVersion s r.src <;> simp [stVersion, stBadOpcode, stDenied, stBadParam, stQuenched]
  case later =>
    refine ⟨?opcode, ?denied, ?param, ?quenched⟩
    all_goals
      rw [precheck_eq_some_iff, noScpVersion_settled settled]
      simp [stVersion, stBadOpcode, stDenied, stBadParam, stQuenched, and_assoc]

/-! ### The states of a port (R301, R314, R318, R320) -/

section
variable {n : Nat} {s : State}

theorem portUp_iff : portUp s n = true ↔ s.get (F.SNL_STATUS_STATE n) = 6 ∨ s.get (F.SNL_STATUS_STATE n) = 7 := by
  simp only [portUp, Bool.or_eq_true, beq_iff_eq]

section
variable (dark : s.get (F.SNL_STATUS_STATE n) = 1) (free : s.flag (F.SNL_CTRL_HOLD_DARK n) = false)
  (driven : s.boot.pinSafe = false)
include dark free driven

/-- A DARK port that nothing holds and whose pins drive may come up. -/
theorem mayComeUp : s.get (F.SNL_STATUS_STATE n) = 1 ∧ !s.flag (F.SNL_CTRL_HOLD_DARK n) ∧ !s.boot.pinSafe := by
  simp only [dark, free, driven, Bool.not_false, and_self]

theorem signalDetect_dark : signalDetect n s = toDetect n s := if_pos (mayComeUp dark free driven)

theorem wakeBurst_dark :
    wakeBurst n s = (s.setPort n { s.port n with bursts := (s.port n).bursts + 1 }).emit (.burst n) :=
  if_pos (mayComeUp dark free driven)
end

section
variable (kept : s.get (F.SNL_STATUS_STATE n) ≠ 1 ∨ s.flag (F.SNL_CTRL_HOLD_DARK n) = true ∨ s.boot.pinSafe = true)
include kept

theorem staysDown : ¬ (s.get (F.SNL_STATUS_STATE n) = 1 ∧ !s.flag (F.SNL_CTRL_HOLD_DARK n) ∧ !s.boot.pinSafe) := by
  rintro ⟨dark, free, driven⟩
  obtain other | held | safe := kept
  · exact other dark
  · rw [held] at free; cases free
  · rw [safe] at driven; cases driven

theorem signalDetect_kept : signalDetect n s = s := if_neg (staysDown kept)

theorem wakeBurst_kept : wakeBurst n s = s := if_neg (staysDown kept)
end

theorem blockLock_detect (detect : s.get (F.SNL_STATUS_STATE n) = 2) : blockLock n s = s.set (F.SNL_STATUS_STATE n) 3 :=
  if_pos detect

theorem blockLock_other (other : s.get (F.SNL_STATUS_STATE n) ≠ 2) : blockLock n s = s := if_neg other

theorem detectTimeout_due (detect : s.get (F.SNL_STATUS_STATE n) = 2) (due : (s.port n).detectSince + 50000000 ≤ s.fet) :
    detectTimeout n s = portTo n 1 s := if_pos ⟨detect, due⟩

theorem detectTimeout_other (other : s.get (F.SNL_STATUS_STATE n) ≠ 2) : detectTimeout n s = s := if_neg fun h => other h.1

theorem detectTimeout_early (early : s.fet < (s.port n).detectSince + 50000000) : detectTimeout n s = s :=
  if_neg fun h => Nat.not_le.mpr early h.2

theorem trainConverged_train (train : s.get (F.SNL_STATUS_STATE n) = 3) :
    trainConverged n s = s.set (F.SNL_STATUS_STATE n) 4 := if_pos train

theorem trainConverged_other (other : s.get (F.SNL_STATUS_STATE n) ≠ 3) : trainConverged n s = s := if_neg other

theorem partnerLost_up (up : s.get (F.SNL_STATUS_STATE n) = 6 ∨ s.get (F.SNL_STATUS_STATE n) = 7) :
    partnerLost n s = raiseFault (portEvent 0x0407 n) (snlErr n 10 0 0 (leaveLive n 1 s)) :=
  if_neg (by rw [portUp_iff.mpr up]; exact Bool.false_ne_true)

theorem partnerLost_down (standby : s.get (F.SNL_STATUS_STATE n) ≠ 6) (active : s.get (F.SNL_STATUS_STATE n) ≠ 7) :
    partnerLost n s = s := by
  refine if_pos ?_
  rw [Bool.eq_false_iff.mpr (mt portUp_iff.mp (not_or.mpr ⟨standby, active⟩)), Bool.not_false]

/-! The end of QUALIFY (R320). -/

/-- No codeword was lost and every lane kept within the limit of the port's rate. -/
def laneErrorsPass (s : State) (n : Nat) (errors : List Nat) (unc : Bool) : Bool :=
  !unc && errors.all (fun e => decide (e ≤ if s.flag (F.SNL_STATUS_REDUCED n) then 84000 else 112000))

theorem qualifyEnd_other {errors : List Nat} {unc : Bool} (other : s.get (F.SNL_STATUS_STATE n) ≠ 4) :
    qualifyEnd n errors unc s = s := if_pos other

section
variable {errors : List Nat} {unc : Bool} (qualify : s.get (F.SNL_STATUS_STATE n) = 4)
include qualify

theorem qualifyEnd_passed (passed : laneErrorsPass s n errors unc = true) :
    qualifyEnd n errors unc s = s.set (F.SNL_STATUS_STATE n) 5 :=
  (if_neg (not_not.mpr qualify)).trans (if_pos passed)

section
variable (failed : laneErrorsPass s n errors unc = false)
include failed

theorem qualifyEnd_eq_of_failed : qualifyEnd n errors unc s =
    if s.flag (F.SNL_STATUS_REDUCED n) then snlErr n 8 0 0 (portTo n 9 s)
    else if (s.port n).qualFails = 0 then
      (s.setPort n { s.port n with qualFails := (s.port n).qualFails + 1 }).set (F.SNL_STATUS_STATE n) 3
    else ((s.setPort n { s.port n with qualFails := (s.port n).qualFails + 1 }).set (F.SNL_STATUS_STATE n) 3).set
      (F.SNL_STATUS_REDUCED n) 1 :=
  (if_neg (not_not.mpr qualify)).trans (if_neg (Bool.eq_false_iff.mp failed))

theorem qualifyEnd_failed_reduced (reduced : s.flag (F.SNL_STATUS_REDUCED n) = true) :
    qualifyEnd n errors unc s = snlErr n 8 0 0 (portTo n 9 s) :=
  (qualifyEnd_eq_of_failed qualify failed).trans (if_pos reduced)

/-- A first failure at full rate trains again, a second one at reduced rate. -/
theorem qualifyEnd_failed_full {t : State} (full : s.flag (F.SNL_STATUS_REDUCED n) = false)
    (ht : t = (s.setPort n { s.port n with qualFails := (s.port n).qualFails + 1 }).set (F.SNL_STATUS_STATE n) 3) :
    qualifyEnd n errors unc s = if (s.port n).qualFails = 0 then t else t.set (F.SNL_STATUS_REDUCED n) 1 := by
  subst ht
  exact (qualifyEnd_eq_of_failed qualify failed).trans (if_neg (Bool.eq_false_iff.mp full))
end
end
end

/-- Settles O35: the equations above, transition by transition of Table 09.9. -/
theorem portStatesFollowTheTable : Obligations.PortStatesFollowTheTable := by
  unfold Obligations.PortStatesFollowTheTable
  rintro n s st rfl
  refine ⟨?signal, ?noSignal, ?lock, ?noDetect, ?dark, ?early, ?train, ?noTrain, ?qualify, ?lost, ?notUp⟩
  case signal =>
    intro dark free driven
    refine ⟨?_, congrArg Host.Outcome.next (wakeBurst_dark dark free driven)⟩
    rintro t rfl
    exact congrArg Host.Outcome.next (signalDetect_dark dark free driven)
  case noSignal =>
    exact fun kept => ⟨congrArg Host.Outcome.next (signalDetect_kept kept), congrArg Host.Outcome.next (wakeBurst_kept kept)⟩
  case lock => exact fun detect => congrArg Host.Outcome.next (blockLock_detect detect)
  case noDetect =>
    exact fun other => ⟨congrArg Host.Outcome.next (blockLock_other other),
      congrArg Host.Outcome.next (detectTimeout_other other)⟩
  case dark => exact fun detect due => congrArg Host.Outcome.next (detectTimeout_due detect due)
  case early => exact fun early => congrArg Host.Outcome.next (detectTimeout_early early)
  case train => exact fun train => congrArg Host.Outcome.next (trainConverged_train train)
  case noTrain => exact fun other => congrArg Host.Outcome.next (trainConverged_other other)
  case qualify =>
    rintro errors unc _ rfl
    exact ⟨fun other => congrArg Host.Outcome.next (qualifyEnd_other other),
      fun qualify passed => congrArg Host.Outcome.next (qualifyEnd_passed qualify passed),
      fun qualify failed reduced => congrArg Host.Outcome.next (qualifyEnd_failed_reduced qualify failed reduced),
      fun t qualify failed full ht => congrArg Host.Outcome.next (qualifyEnd_failed_full qualify failed full ht)⟩
  case lost => exact fun up => congrArg Host.Outcome.next (partnerLost_up up)
  case notUp => exact fun standby active => congrArg Host.Outcome.next (partnerLost_down standby active)

/-! ### Negotiation (R321, R322, R327) -/

section
variable {n : Nat} {g : Negotiation} {s : State}

theorem negotiateComplete_other (other : s.get (F.SNL_STATUS_STATE n) ≠ 5) : negotiateComplete n g s = s := if_pos other

section
variable (negotiate : s.get (F.SNL_STATUS_STATE n) = 5)
include negotiate

/-- Without a common SNL or version the port fails: CODE 9. -/
theorem negotiateComplete_failed (none : commonVersion (s.get (F.SNL_CAP0_SNL_MASK n)) g.snl = 0 ∨
    commonVersion (s.get (F.SNL_CAP0_VER_MASK n)) g.ver = 0) : negotiateComplete n g s = snlErr n 9 0 0 (portTo n 9 s) :=
  (if_neg (not_not.mpr negotiate)).trans (if_pos none)

/-- With a common SNL and version the port reaches STANDBY; another partner than the torus expects is recorded (R327). -/
theorem negotiateComplete_settled {a b c d x y : State} (snl : commonVersion (s.get (F.SNL_CAP0_SNL_MASK n)) g.snl ≠ 0)
    (ver : commonVersion (s.get (F.SNL_CAP0_VER_MASK n)) g.ver ≠ 0)
    (ha : a = (s.set (F.SNL_NEG_SNL n) (commonVersion (s.get (F.SNL_CAP0_SNL_MASK n)) g.snl)).set (F.SNL_NEG_VER n)
      (commonVersion (s.get (F.SNL_CAP0_VER_MASK n)) g.ver))
    (hb : b = a.set (F.SNL_NEG_SCP n) (commonVersion (a.get (F.SNL_CAP1_SCP_MASK n)) g.scp))
    (hc : c = b.set (F.SNL_NEG_FWI n) (commonVersion (b.get (F.SNL_CAP1_FWI_MASK n)) g.fwi))
    (hd : d = ((((((c.set (F.SNL_NEG_PLAN n) (commonVersion (c.get (F.SNL_CAP2_PLAN_MASK n)) g.plan)).set
      (F.SNL_PEER_PEER_PORT n) g.peerPort).set (F.SNL_PEER_PEER_COORD n) g.peerCoord).wr (R.TIM_PORT_ASYM n)
      (Config.portAsym n)).count (F.SNL_TRAIN_TRAINS n) 1).set (F.SNL_TRAIN_LAST_MS n) (min 65535 g.ms)))
    (hx : x = (capture n g.eq d).set (F.SNL_STATUS_STATE n) 6)
    (hy : y = x.setPort n { x.port n with lastGood := x.fet, qualFails := 0 }) :
    negotiateComplete n g s = if g.peerCoord = expectedPeer y n then y else (recordFault 0
      { portEvent 0x060b n with addr := 2 ^ 32 * g.peerCoord, master := 6 * 2 ^ 29 + 8 * ownCoord y, detail := [5] } y).2 := by
  subst hy hx hd hc hb ha
  exact (if_neg (not_not.mpr negotiate)).trans (if_neg (not_or.mpr ⟨snl, ver⟩))
end
end

/-- Settles O36: the equations above. -/
theorem negotiationSettlesThePort : Obligations.NegotiationSettlesThePort := by
  unfold Obligations.NegotiationSettlesThePort
  intro n g s
  refine ⟨?other, fun negotiate => ⟨?failed, ?settled⟩⟩
  case other => exact fun other => congrArg Host.Outcome.next (negotiateComplete_other other)
  case failed => exact fun none => congrArg Host.Outcome.next (negotiateComplete_failed negotiate none)
  case settled =>
    intro a b c d x snl ver ha hb hc hd hx
    have settled := negotiateComplete_settled negotiate snl ver ha hb hc hd hx rfl
    exact ⟨_, rfl, fun expected => congrArg Host.Outcome.next (settled.trans (if_pos expected)),
      fun other => congrArg Host.Outcome.next (settled.trans (if_neg other))⟩

/-! ### The block that leaves (R292) -/

section
variable (n : Nat) (l : List Byte) (s : State)

theorem frameArea_out : (frameArea n s).2.out = s.out := by
  unfold frameArea
  dsimp only
  split
  · rfl
  · split <;> rfl

theorem injectBlock_out : (injectBlock n l s).2.out = s.out := by
  unfold injectBlock
  dsimp only
  split <;> rfl

theorem prbsBytes_length (k x : Nat) : (prbsBytes k x).1.length = k := by
  induction k generalizing x with
  | zero => rfl
  | succ k ih => simp only [prbsBytes, List.length_cons, ih]

theorem frameArea_length : (frameArea n s).1.length = 800 := by
  unfold frameArea
  dsimp only
  split
  · simp only [prbsBytes_length]
  · split
    · rw [List.length_append, List.length_replicate, Nat.add_sub_cancel' (List.length_take_le 800 _)]
    · rw [List.length_replicate]

theorem takeLcw_length : (takeLcw n s).1.length = 16 := leBytes_length _ 16

/-- A block carries the bytes it is made of, then 80 bytes of parity. -/
theorem fecBlock_length : (fecBlock l).length = l.length + 80 := by
  simp only [fecBlock, List.length_append, List.length_map, List.length_range]

theorem fecBlock_take : (fecBlock l).take l.length = l := List.take_left

/-- An armed injection spoils parity bytes only. -/
theorem injectBlock_take : (injectBlock n l s).1.take 816 = l.take 816 := by
  unfold injectBlock
  dsimp only
  split
  · refine List.ext_getElem? fun i => ?_
    by_cases data : i < 816
    · have kept : ¬ 816 ≤ i := by omega
      simp only [List.getElem?_take_of_lt data, List.getElem?_map, List.getElem?_zipIdx, Option.map_map,
        Nat.zero_add]
      cases l[i]? with
      | none => rfl
      | some x => simp [kept]
    · simp only [List.getElem?_take_eq_none (Nat.not_lt.mp data)]
  · rfl

theorem injectBlock_length : (injectBlock n l s).1.length = l.length := by
  unfold injectBlock
  dsimp only
  split
  · rw [List.length_map, List.length_zipIdx]
  · rfl
end

/-- Where a selection of every sixteenth byte stands in a list whose first byte has number i. -/
theorem getElem?_everySixteenth (l : List Byte) (i j k : Nat) (hk : k < 16) :
    (((l.zipIdx i).filter (fun e => e.2 % 16 == k)).map (·.1))[j]? = l[(k + 16 - i % 16) % 16 + 16 * j]? := by
  induction l generalizing i j with
  | nil => rfl
  | cons x l ih =>
    rw [List.zipIdx_cons, List.filter_cons]
    by_cases here : i % 16 = k
    · have first : (k + 16 - i % 16) % 16 = 0 := by omega
      rw [if_pos (beq_iff_eq.mpr here), first]
      cases j with
      | zero => rfl
      | succ j =>
        rw [List.map_cons, List.getElem?_cons_succ, ih, show 0 + 16 * (j + 1) = 16 * j + 15 + 1 by omega,
          List.getElem?_cons_succ]
        congr 1
        omega
    · rw [if_neg (mt beq_iff_eq.mp here), ih,
        show (k + 16 - i % 16) % 16 + 16 * j = (k + 16 - (i + 1) % 16) % 16 + 16 * j + 1 by omega, List.getElem?_cons_succ]

/-- Byte b of a block crosses on lane b mod 16 (R292). -/
theorem stripe_lane (l : List Byte) (b : Nat) : ((stripe l)[b % 16]?.bind (fun k => k[b / 16]?)) = l[b]? := by
  have lane : b % 16 < 16 := Nat.mod_lt _ (by decide)
  have place : (b % 16 + 16 - 0 % 16) % 16 + 16 * (b / 16) = b := by omega
  rw [stripe, List.getElem?_map, List.getElem?_range lane, Option.map_some, Option.bind_some,
    getElem?_everySixteenth l 0 _ _ lane, place]

/-- What leaves with a block, and that nothing else does. -/
theorem sendBlock_out (n : Nat) (s : State) :
    ∃ l : List Byte, (sendBlock n s).out = s.out ++ [.block n (stripe l)] ∧ l.length = 896 ∧
      l.take 816 = (frameArea n s).1 ++ (takeLcw n (frameArea n s).2).1 := by
  obtain ⟨data, hdata⟩ : ∃ data, data = (frameArea n s).1 ++ (takeLcw n (frameArea n s).2).1 := ⟨_, rfl⟩
  have size : data.length = 816 := by rw [hdata, List.length_append, frameArea_length, takeLcw_length]
  refine ⟨(injectBlock n (fecBlock data) (takeLcw n (frameArea n s).2).2).1, ?_, ?_, ?_⟩
  · rw [hdata]
    exact congrArg (· ++ _) ((injectBlock_out n _ _).trans (frameArea_out n s))
  · rw [injectBlock_length, fecBlock_length, size]
  · rw [injectBlock_take, ← hdata, ← size, fecBlock_take]

/-! ### BLOCK_TRANSMIT (R292, R307, R308) -/

section
variable {n : Nat} {s : State}

theorem blockTransmit_idle (idle : s.get (F.SNL_STATUS_STATE n) < 2 ∨ 8 < s.get (F.SNL_STATUS_STATE n) ∨
    blockStart s n < (s.port n).nextBlock) : blockTransmit n s = s := if_pos idle

section
variable (due : (s.port n).nextBlock ≤ blockStart s n)
include due

/-- A port that trains sends a block without a choice of frame. -/
theorem blockTransmit_training (low : 2 ≤ s.get (F.SNL_STATUS_STATE n)) (high : s.get (F.SNL_STATUS_STATE n) ≤ 8)
    (standby : s.get (F.SNL_STATUS_STATE n) ≠ 6) (active : s.get (F.SNL_STATUS_STATE n) ≠ 7) :
    blockTransmit n s = sendBlock n s :=
  (if_neg (by omega)).trans (congrArg (sendBlock n) (if_neg (not_or.mpr ⟨standby, active⟩)))

theorem blockTransmit_up (up : s.get (F.SNL_STATUS_STATE n) = 6 ∨ s.get (F.SNL_STATUS_STATE n) = 7) :
    blockTransmit n s = sendBlock n (strictEarn n (chooseFrame n s)) :=
  (if_neg (by omega)).trans (congrArg (sendBlock n) (if_pos up))
end

/-- The scheduled frame due in the block under way, and the port without those that are past (R308). -/
theorem chooseFrame_eq {due : Option SchedFrame} {t : State} (hdue : due = (if blockNow s n = schedBlock s n then
      (s.port n).sched.find? (fun x => x.slot == s.fet / 256 && quenchCarries s x.fr) else none))
    (ht : t = s.setPort n { s.port n with sched := (s.port n).sched.filter (fun x =>
      !(decide (x.slot < s.fet / 256) || (x.slot == s.fet / 256 && decide (schedBlock s n ≤ blockNow s n)))) }) :
    chooseFrame n s = if blockStart t n < (s.port n).txFree then t
      else due.elim (sendUnscheduled n t) (fun x => beginFrame n x.fr t) := by
  subst ht
  cases due <;> simp only [chooseFrame, ← hdue, Option.elim]
end

/-! ### LCW_RECEIVE (R293, R294, R305, R306) -/

/-- What the link message of a control word sets off (R294, R323, R324). -/
def takeLinkMsg (n : Nat) (w : Lcw) (s : State) : State :=
  match w.btype with
  | 2 => if (s.port n).rateSlot.isSome then s else scheduleRate n w.slot s
  | 3 => retrainMsg n false w.slot s
  | 4 => retrainMsg n true w.slot s
  | _ => s

section
variable {n : Nat} {w : Lcw} {s t : State}

theorem lcwReceive_closed (closed : s.get (F.SNL_STATUS_STATE n) < 3 ∨ 8 < s.get (F.SNL_STATUS_STATE n)) :
    lcwReceive n w s = s := if_pos closed

section
variable (low : 3 ≤ s.get (F.SNL_STATUS_STATE n)) (high : s.get (F.SNL_STATUS_STATE n) ≤ 8)
  (ht : t = s.count (F.SNL_FEC_CNT_CORR n) (fecCorrected w))
include low high ht

/-- A block that is lost fails the frame it carries (R293). -/
theorem lcwReceive_lost (lost : fecLost w = true) : lcwReceive n w s =
    (t.setPort n { t.port n with rxLost := true }).count (F.SNL_FEC_UNCORR_BLOCKS n) 1 := by
  subst ht
  exact (if_neg (by omega)).trans (if_pos lost)

variable (whole : fecLost w = false)
include whole

theorem lcwReceive_training (standby : s.get (F.SNL_STATUS_STATE n) ≠ 6) (active : s.get (F.SNL_STATUS_STATE n) ≠ 7) :
    lcwReceive n w s = t := by
  subst ht
  exact (if_neg (by omega)).trans ((if_neg (Bool.eq_false_iff.mp whole)).trans (if_pos ⟨standby, active⟩))

/-- A control word acknowledges, returns credit, and on NAK replays what is left (R305, R306). -/
theorem lcwReceive_up {left again : List (Nat × Frame)} {u v : State}
    (up : s.get (F.SNL_STATUS_STATE n) = 6 ∨ s.get (F.SNL_STATUS_STATE n) = 7)
    (hleft : left = (t.port n).unacked.filter (fun e => decide (2048 ≤ (w.ackSeq + 4096 - e.1) % 4096)))
    (hagain : again = (t.port n).replaying.filter (fun e => left.any (fun x => x.1 == e.1)))
    (hu : u = t.setPort n { t.port n with
      rxLost := (t.port n).rxLost && !w.sof
      returned := AMap.put (fun _ => 0) (t.port n).returned (w.crSel % 16) (w.crCount % 4096)
      unacked := left, replaying := again
      failRun := if left.length < (t.port n).unacked.length then 0 else (t.port n).failRun })
    (hv : v = (if w.nak = true ∧ again = [] then replayFrom n u else u)) : lcwReceive n w s = takeLinkMsg n w v := by
  have replays : (w.nak = true ∧ again = []) ↔ (w.nak && again.isEmpty) = true := by simp
  simp only [replays] at hv
  subst hv hu hagain hleft ht
  refine (if_neg (by omega)).trans ((if_neg (Bool.eq_false_iff.mp whole)).trans ((if_neg (by omega)).trans rfl))
end

theorem takeLinkMsg_rate (rate : w.btype = 2) :
    takeLinkMsg n w s = if (s.port n).rateSlot.isSome then s else scheduleRate n w.slot s := by
  simp only [takeLinkMsg, rate]

theorem takeLinkMsg_propose (propose : w.btype = 3) : takeLinkMsg n w s = retrainMsg n false w.slot s := by
  simp only [takeLinkMsg, propose]

theorem takeLinkMsg_accept (accept : w.btype = 4) : takeLinkMsg n w s = retrainMsg n true w.slot s := by
  simp only [takeLinkMsg, accept]

theorem takeLinkMsg_none (noRate : w.btype ≠ 2) (noPropose : w.btype ≠ 3) (noAccept : w.btype ≠ 4) :
    takeLinkMsg n w s = s := by
  unfold takeLinkMsg
  split
  · next rate => exact absurd rate noRate
  · next propose => exact absurd propose noPropose
  · next accept => exact absurd accept noAccept
  · rfl
end

/-! ### Firefly and digest frames (R300, R304) -/

/-- The body of the digest frame of a partition (R304). -/
def digestBody (s : State) (p : Nat) : List Byte :=
  [1, BitVec.ofNat 8 p] ++ List.replicate 2 0 ++ leBytes (cfgEpoch s p) 2 ++ List.replicate 2 0 ++ leBytes s.fet 8
    ++ cfgDigest s p

/-- Intervals in a row in which a partition's digest has not come, this one counted (R304). -/
def digestMisses (d : PortState) (p : Nat) : Nat :=
  if d.digestSeen.contains p then 0 else AMap.get (fun _ => 0) d.digestMiss p + 1

section
variable {n : Nat} {s t : State}

theorem fireflySend_down (down : portUp s n = false) : fireflySend n s = s := if_pos (by rw [down, Bool.not_false])

theorem fireflySend_up (up : portUp s n = true) : fireflySend n s =
    enqueue n (mkFrame s 4 0 0 (8 * coordAlong s n 1) 0 (fireflyBytes s n))
      (s.setPort n { s.port n with fireflySeq := ((s.port n).fireflySeq + 1) % 65536, fireflyMark := s.log.events }) :=
  if_neg (by rw [up]; exact Bool.false_ne_true)

theorem configDigestSend_down (down : portUp s n = false) : configDigestSend n s = s :=
  if_pos (by rw [down, Bool.not_false])

/-- The digests of the port's partitions are queued; the third interval in a row without one is noted. -/
theorem configDigestSend_up (up : portUp s n = true)
    (ht : t = s.forEach (digestParts s n) (fun p t => enqueue n (mkFrame t 6 0 0 (8 * coordAlong t n 1) 0
      (digestBody t p ++ List.replicate (128 - (digestBody t p).length) 0)) t)) :
    configDigestSend n s = (t.setPort n { t.port n with
        digestSeen := []
        digestMiss := (digestParts s n).foldl (fun m p => AMap.put (fun _ => 0) m p (digestMisses (t.port n) p)) [] }).forEach
      ((digestParts s n).filter (fun p => digestMisses (t.port n) p == 3)) (fun p t => noteAt 5 p (100 + n / 8) 15 n t) := by
  subst ht
  exact if_neg (by rw [up]; exact Bool.false_ne_true)
end

/-- Settles O37: the equations above. -/
theorem portsTransmit : Obligations.PortsTransmit := by
  unfold Obligations.PortsTransmit
  intro n s
  refine ⟨?idle, ?training, sendBlock_out n s, fun l b _ => stripe_lane l b, ?chooses, ?closed, ?word, ?down,
    ?firefly, ?digest⟩
  case idle => exact fun idle => congrArg Host.Outcome.next (blockTransmit_idle idle)
  case training =>
    exact fun low high standby active due => congrArg Host.Outcome.next (blockTransmit_training due low high standby active)
  case chooses =>
    intro due t up begins hdue ht
    have chooses := (blockTransmit_up begins up).trans (congrArg (sendBlock n <| strictEarn n ·) (chooseFrame_eq hdue ht))
    refine ⟨fun held => ?_, fun x free some_due => ?_, fun free none_due => ?_⟩
    · exact congrArg Host.Outcome.next (chooses.trans (congrArg (sendBlock n <| strictEarn n ·) (if_pos held)))
    · rw [if_neg (Nat.not_lt.mpr free), some_due] at chooses
      exact congrArg Host.Outcome.next chooses
    · rw [if_neg (Nat.not_lt.mpr free), none_due] at chooses
      exact congrArg Host.Outcome.next chooses
  case closed => exact fun w closed => congrArg Host.Outcome.next (lcwReceive_closed closed)
  case word =>
    intro w t low high ht
    refine ⟨fun lost => congrArg Host.Outcome.next (lcwReceive_lost low high ht lost),
      fun whole standby active => congrArg Host.Outcome.next (lcwReceive_training low high ht whole standby active), ?_⟩
    intro left again u v whole up hleft hagain hu hv
    have takes := lcwReceive_up low high ht whole up hleft hagain hu hv
    exact ⟨fun noRate noPropose noAccept =>
        congrArg Host.Outcome.next (takes.trans (takeLinkMsg_none noRate noPropose noAccept)),
      fun propose => congrArg Host.Outcome.next (takes.trans (takeLinkMsg_propose propose)),
      fun accept => congrArg Host.Outcome.next (takes.trans (takeLinkMsg_accept accept)),
      fun rate => congrArg Host.Outcome.next (takes.trans (takeLinkMsg_rate rate))⟩
  case down =>
    exact fun down => ⟨congrArg Host.Outcome.next (fireflySend_down down),
      congrArg Host.Outcome.next (configDigestSend_down down)⟩
  case firefly => exact fun up => congrArg Host.Outcome.next (fireflySend_up up)
  case digest =>
    rintro t miss up ht rfl
    exact congrArg Host.Outcome.next (configDigestSend_up up ht)

/-! ### Retrains (R324) -/

section
variable {n slot : Nat} {s t : State}

theorem retrainMsg_other (accept : Bool) (other : s.get (F.SNL_STATUS_STATE n) ≠ 7) : retrainMsg n accept slot s = s :=
  if_pos other

/-- The acceptance that comes is of the window this end has proposed. -/
theorem acceptsProposal_iff : (s.flag (F.SNL_STATUS_RETRAIN_PEND n) && (s.port n).searchSince.isSome
      && (s.port n).proposed == slot) = true ↔
    s.flag (F.SNL_STATUS_RETRAIN_PEND n) = true ∧ (s.port n).searchSince ≠ none ∧ (s.port n).proposed = slot := by
  simp only [Bool.and_eq_true, beq_iff_eq, Option.isSome_iff_ne_none, and_assoc]

section
variable (active : s.get (F.SNL_STATUS_STATE n) = 7)
include active

theorem retrainMsg_eq_of_acceptance : retrainMsg n true slot s =
    if (s.flag (F.SNL_STATUS_RETRAIN_PEND n) && (s.port n).searchSince.isSome && (s.port n).proposed == slot) = true
      then agreeWindow n slot s else s :=
  (if_neg (not_not.mpr active)).trans (if_pos rfl)

theorem retrainMsg_accepted (pending : s.flag (F.SNL_STATUS_RETRAIN_PEND n) = true) (searches : (s.port n).searchSince ≠ none)
    (same : (s.port n).proposed = slot) : retrainMsg n true slot s = agreeWindow n slot s :=
  (retrainMsg_eq_of_acceptance active).trans (if_pos (acceptsProposal_iff.mpr ⟨pending, searches, same⟩))

theorem retrainMsg_stray (stray : s.flag (F.SNL_STATUS_RETRAIN_PEND n) = false ∨ (s.port n).searchSince = none ∨
    (s.port n).proposed ≠ slot) : retrainMsg n true slot s = s := by
  refine (retrainMsg_eq_of_acceptance active).trans (if_neg fun h => ?_)
  obtain ⟨pending, searches, same⟩ := acceptsProposal_iff.mp h
  obtain none | idle | other := stray
  · exact Bool.eq_false_iff.mp none pending
  · exact searches idle
  · exact other same

section
variable (ht : t = s.set (F.SNL_STATUS_RETRAIN_PEND n) 1)
include ht

theorem retrainMsg_eq_of_proposal : retrainMsg n false slot s =
    if (idleFrom (dueSlots t n) slot && decide (t.fet / 256 < slot)) = true then pushMsg n 4 slot (agreeWindow n slot t)
    else pushMsg n 3 (ownIdle t n (max slot (t.fet / 256 + 1))) (t.setPort n { s.port n with
      searchSince := some ((s.port n).searchSince.getD t.fet), proposed := ownIdle t n (max slot (t.fet / 256 + 1)) }) := by
  subst ht
  exact (if_neg (not_not.mpr active)).trans (if_neg Bool.false_ne_true)

/-- A proposed window in which this end is idle too is agreed, and the acceptance sent. -/
theorem retrainMsg_agrees (idle : idleFrom (dueSlots t n) slot = true) (ahead : t.fet / 256 < slot) :
    retrainMsg n false slot s = pushMsg n 4 slot (agreeWindow n slot t) :=
  (retrainMsg_eq_of_proposal active ht).trans (if_pos (Bool.and_eq_true_iff.mpr ⟨idle, decide_eq_true ahead⟩))

/-- Another window is answered with this end's next idle one. -/
theorem retrainMsg_proposes (busy : idleFrom (dueSlots t n) slot = false ∨ slot ≤ t.fet / 256) :
    retrainMsg n false slot s = pushMsg n 3 (ownIdle t n (max slot (t.fet / 256 + 1))) (t.setPort n { s.port n with
      searchSince := some ((s.port n).searchSince.getD t.fet), proposed := ownIdle t n (max slot (t.fet / 256 + 1)) }) :=
  (retrainMsg_eq_of_proposal active ht).trans (if_neg (Bool.eq_false_iff.mp (Bool.and_eq_false_iff.mpr
    (busy.imp_right fun past => decide_eq_false (Nat.not_lt.mpr past)))))
end
end

theorem retrainStart_begins {w : Nat} (hw : w = rdPair s (R.SNL_RETRAIN_LO n) (R.SNL_RETRAIN_HI n))
    (active : s.get (F.SNL_STATUS_STATE n) = 7) (agreed : w ≠ 0) (due : w ≤ s.fet) :
    retrainStart n s = leaveLive n 8 (wrPair s (R.SNL_RETRAIN_LO n) (R.SNL_RETRAIN_HI n) 0) := by
  subst hw
  exact if_pos ⟨active, agreed, due⟩

theorem retrainStart_waits {w : Nat} (hw : w = rdPair s (R.SNL_RETRAIN_LO n) (R.SNL_RETRAIN_HI n))
    (h : s.get (F.SNL_STATUS_STATE n) ≠ 7 ∨ w = 0 ∨ s.fet < w) : retrainStart n s = s := by
  subst hw
  refine if_neg fun ⟨active, agreed, due⟩ => ?_
  obtain other | none | early := h
  · exact other active
  · exact agreed none
  · exact Nat.not_le.mpr early due

section
variable {lost restored : Bool} {eq : List (List Nat)} {u v : State}

theorem retrainComplete_other (other : s.get (F.SNL_STATUS_STATE n) ≠ 8) : retrainComplete n lost restored eq s = s :=
  if_pos other

section
variable (retrains : s.get (F.SNL_STATUS_STATE n) = 8) (ht : t = s.set (F.SNL_STATUS_RETRAIN_PEND n) 0)
include retrains ht

theorem retrainComplete_lost (hu : u = leaveLive n 2 t) :
    retrainComplete n true restored eq s = u.setPort n { u.port n with detectSince := u.fet, qualFails := 0 } := by
  subst hu ht
  exact if_neg (not_not.mpr retrains)

/-- A retrain that keeps lock captures a new calibration, in ACTIVE; then the margin decides. -/
theorem retrainComplete_kept (hv : v = (t.count (F.SNL_TRAIN_RETRAINS n) 1).set (F.SNL_STATUS_STATE n) 7)
    (hu : u = capture n eq (v.set (F.SNL_STATUS_LIVE n) (bitOf v.boot.live n))) :
    retrainComplete n false restored eq s = if restored = true then
        if u.flag (F.SNL_STATUS_REDUCED n) = true ∧ (u.port n).stayReduced = false then proposeRate n u else u
      else retrainFailed n u := by
  have margin : (u.flag (F.SNL_STATUS_REDUCED n) = true ∧ (u.port n).stayReduced = false) ↔
      (u.flag (F.SNL_STATUS_REDUCED n) && !(u.port n).stayReduced) = true := by
    rw [Bool.and_eq_true, Bool.not_eq_true']
  simp only [margin]
  subst hu hv ht
  exact if_neg (not_not.mpr retrains)
end
end

theorem retrainTimeout_none (none : (s.port n).searchSince = none) : retrainTimeout n s = s := by
  simp only [retrainTimeout, none]

theorem retrainTimeout_search {since : Fet} (search : (s.port n).searchSince = some since) :
    retrainTimeout n s = if s.fet < since + 10000000000 then s
      else noteAt 5 0 (100 + n / 8) 15 n (s.setPort n { s.port n with searchSince := some s.fet }) := by
  simp only [retrainTimeout, search]
end

/-! ### Margin monitors (R322, R323) -/

section
variable {n : Nat} {s : State}

theorem armReady_iff : armReady s n = true ↔
    (s.port n).armDue = true ∨ ∃ t, s.power.firstPlan = some t ∧ t + 10000000000 ≤ s.fet := by
  simp only [armReady, Bool.or_eq_true, Option.any_eq_true, decide_eq_true_eq]

theorem marginArm_ready (up : portUp s n = true) (ready : armReady s n = true) :
    marginArm n s = s.set (F.SNL_STATUS_MARGIN_ARMED n) 1 := if_pos (Bool.and_eq_true_iff.mpr ⟨up, ready⟩)

theorem marginArm_waits (h : portUp s n = false ∨ armReady s n = false) : marginArm n s = s :=
  if_neg (Bool.eq_false_iff.mp (Bool.and_eq_false_iff.mpr h))

theorem marginWindow_off {lanes : List (Nat × Nat)} (h : s.flag (F.SNL_STATUS_MARGIN_ARMED n) = false ∨ portUp s n = false) :
    marginWindow n lanes s = s := by
  refine if_pos ?_
  rcases h with unarmed | down
  · rw [unarmed, Bool.not_false, Bool.true_or]
  · rw [down, Bool.not_false, Bool.or_true]

/-! What a window reads into SNL_MARGIN. -/

/-- The value that stands out is that of the list folded, whatever lane it is of. -/
theorem worstLane_value (l : List Nat) (better : Nat → Nat → Bool) :
    (worstLane l better).2 = l.foldl (fun a x => if better a x then x else a) (l.headD 0) := by
  have folded : ∀ (k : List Nat) (i : Nat) (b : Nat × Nat),
      ((k.zipIdx i).foldl (fun b e => if better b.2 e.1 then (e.2, e.1) else b) b).2 =
        k.foldl (fun a x => if better a x then x else a) b.2 := by
    intro k
    induction k with
    | nil => exact fun _ _ => rfl
    | cons x k ih =>
      intro i b
      rw [List.zipIdx_cons, List.foldl_cons, List.foldl_cons, ih, apply_ite Prod.snd]
  exact folded l 0 _

theorem worstLane_highest {l : List Nat} (some_lane : l ≠ []) :
    (worstLane l (fun a b => decide (a < b))).2 = l.foldl max 0 := by
  have larger : (fun a x : Nat => if decide (a < x) = true then x else a) = max := by
    funext a x; simp only [decide_eq_true_eq, max_def_lt]
  obtain ⟨x, l, rfl⟩ := List.exists_cons_of_ne_nil some_lane
  rw [worstLane_value, larger, List.headD_cons, List.foldl_cons, List.foldl_cons, Nat.max_self, Nat.zero_max]

theorem worstLane_lowest (l : List Nat) : (worstLane l (fun a b => decide (b < a))).2 = l.foldl min (l.headD 0) := by
  have smaller : (fun a x : Nat => if decide (x < a) = true then x else a) = min := by
    funext a x; simp only [decide_eq_true_eq, min_comm a x, min_def_lt]
  rw [worstLane_value, smaller]

/-- The samples of a window as the lane registers show them (R323). -/
def laneSamples (n : Nat) (l : List (Nat × Nat)) (s : State) : State :=
  l.zipIdx.foldl (fun s e =>
    (s.set (F.SNL_LANE_CORR n e.2) (min 65535 e.1.1)).set (F.SNL_LANE_EYE n e.2) (min 255 e.1.2)) s

/-- The lanes that stand out, each with its value, as SNL_MARGIN shows them (R323). -/
def showMargins (n : Nat) (hi lo : Nat × Nat) (s : State) : State :=
  (((s.set (F.SNL_MARGIN_BER_WORST n) (min 65535 hi.2)).set (F.SNL_MARGIN_LANE_BER n) hi.1).set
    (F.SNL_MARGIN_EYE_WORST n) (min 255 lo.2)).set (F.SNL_MARGIN_LANE_EYE n) lo.1

theorem laneSamples_canon {l : List (Nat × Nat)} (canon : Canon s) : Canon (laneSamples n l s) :=
  (Keeps.foldl (Keeps.refl s) fun _ _ h => State.set_keeps (State.set_keeps h)).canon canon

/-- A field of SNL_MARGIN set reads as the low bits it has room for, another one as before. -/
theorem margin_get_same {hi lo v : Nat} (canon : Canon s) (order : lo ≤ hi) (room : hi ≤ 31) :
    (s.set ⟨R.SNL_MARGIN n, hi, lo⟩ v).get ⟨R.SNL_MARGIN n, hi, lo⟩ = v % 2 ^ (hi + 1 - lo) :=
  State.get_set_same canon order room

theorem margin_get_apart {hi lo hi' lo' v : Nat} (canon : Canon s) (order : lo ≤ hi) (apart : hi' < lo ∨ hi < lo') :
    (s.set ⟨R.SNL_MARGIN n, hi, lo⟩ v).get ⟨R.SNL_MARGIN n, hi', lo'⟩ = s.get ⟨R.SNL_MARGIN n, hi', lo'⟩ :=
  State.get_set_apart canon order rfl apart

theorem showMargins_ber {hi lo : Nat × Nat} (canon : Canon s) :
    (showMargins n hi lo s).get (F.SNL_MARGIN_BER_WORST n) = min 65535 hi.2 := by
  have ber := State.set_canon (f := F.SNL_MARGIN_BER_WORST n) (v := min 65535 hi.2) canon
  have lane := State.set_canon (f := F.SNL_MARGIN_LANE_BER n) (v := hi.1) ber
  have eye := State.set_canon (f := F.SNL_MARGIN_EYE_WORST n) (v := min 255 lo.2) lane
  refine (margin_get_apart eye (by decide) (by decide)).trans ((margin_get_apart lane (by decide) (by decide)).trans
    ((margin_get_apart ber (by decide) (by decide)).trans ((margin_get_same canon (by decide) (by decide)).trans ?_)))
  exact Nat.mod_eq_of_lt (Nat.lt_of_le_of_lt (Nat.min_le_left _ _) (by decide))

theorem showMargins_eye {hi lo : Nat × Nat} (canon : Canon s) :
    (showMargins n hi lo s).get (F.SNL_MARGIN_EYE_WORST n) = min 255 lo.2 := by
  have lane := State.set_canon (f := F.SNL_MARGIN_LANE_BER n) (v := hi.1)
    (State.set_canon (f := F.SNL_MARGIN_BER_WORST n) (v := min 65535 hi.2) canon)
  have eye := State.set_canon (f := F.SNL_MARGIN_EYE_WORST n) (v := min 255 lo.2) lane
  refine (margin_get_apart eye (by decide) (by decide)).trans ((margin_get_same lane (by decide) (by decide)).trans ?_)
  exact Nat.mod_eq_of_lt (Nat.lt_of_le_of_lt (Nat.min_le_left _ _) (by decide))

theorem State.get_ite_of_eq {p : Prop} [Decidable p] {f : Fld} {t : State} (same : t.get f = s.get f) :
    (if p then t else s).get f = s.get f := by
  split
  · exact same
  · rfl

/-- Giving margin changes no register of the port but SNL_STATUS. -/
theorem proposeRate_get (f : Fld) : (proposeRate n s).get f = s.get f := by
  unfold proposeRate
  split <;> rfl

theorem requestRetrain_get {f : Fld} (other : f.reg ≠ R.SNL_STATUS n) : (requestRetrain n s).get f = s.get f := by
  unfold requestRetrain
  split
  · rfl
  · exact State.get_set_of_reg_ne other

theorem giveMargin_get {f : Fld} (other : f.reg ≠ R.SNL_STATUS n) : (giveMargin n s).get f = s.get f := by
  rw [giveMargin, requestRetrain_get other]
  split
  · rfl
  · exact proposeRate_get f

/-- SNL_MARGIN after a window shows the lanes that stand out. -/
theorem marginWindow_get {lanes : List (Nat × Nat)} {f : Fld} (margin : f.reg = R.SNL_MARGIN n)
    (armed : s.flag (F.SNL_STATUS_MARGIN_ARMED n) = true) (up : portUp s n = true) :
    (marginWindow n lanes s).get f = (showMargins n (worstLane ((lanes.take 16).map (·.1)) (fun a b => decide (a < b)))
      (worstLane ((lanes.take 16).map (·.2)) (fun a b => decide (b < a))) (laneSamples n (lanes.take 16) s)).get f := by
  have status : f.reg ≠ R.SNL_STATUS n := by rw [margin]; unfold R.SNL_MARGIN R.SNL_STATUS; omega
  have cal : f.reg ≠ R.SNL_CAL n := by rw [margin]; unfold R.SNL_MARGIN R.SNL_CAL; omega
  unfold marginWindow
  rw [if_neg (by rw [armed, up]; exact Bool.false_ne_true)]
  dsimp only
  rw [State.get_ite_of_eq (giveMargin_get status), State.get_ite_of_eq (State.get_set_of_reg_ne (f := F.SNL_CAL_STALE n) cal),
    State.setPort_get]
  rfl
end

/-! ### Rate changes (R323) -/

section
variable {n slot : Nat} {s t : State}

theorem rateProposal_taken (up : portUp s n = true) (none : (s.port n).rateSlot = none) :
    rateProposal n slot s = s.setPort n { s.port n with rateSlot := some slot } :=
  if_pos (by rw [up, none]; rfl)

theorem rateProposal_ignored (h : portUp s n = false ∨ (s.port n).rateSlot ≠ none) : rateProposal n slot s = s := by
  refine if_neg fun taken => ?_
  obtain ⟨up, none⟩ := Bool.and_eq_true_iff.mp taken
  exact h.elim (Bool.eq_false_iff.mp · up) (· (Option.isNone_iff_eq_none.mp none))

theorem rateChange_none (none : (s.port n).rateSlot = none) : rateChange n s = s := by
  simp only [rateChange, none]

theorem rateChange_eq {k : Nat} (agreed : (s.port n).rateSlot = some k)
    (ht : t = s.set (F.SNL_STATUS_REDUCED n) (1 - s.get (F.SNL_STATUS_REDUCED n))) :
    rateChange n s = if s.fet < 256 * k ∨ !portUp s n then s else t.setPort n { t.port n with
      rateSlot := none, txFrame := [], txSched := false, txFree := 768 * k + blockUnits t n * schedBlock t n } := by
  subst ht
  simp only [rateChange, agreed]
end

/-- Settles O39: the equations above. -/
theorem retrainsAndRatesChange : Obligations.RetrainsAndRatesChange := by
  unfold Obligations.RetrainsAndRatesChange
  intro n s
  refine ⟨?other, ?message, ?start, ?notRetrain, ?complete, ?noSearch, ?search, ?arm, ?unready, ?off, ?window, ?proposal,
    ?ignored, ?noRate, ?rate⟩
  case other => exact fun accept slot other => congrArg Host.Outcome.next (retrainMsg_other accept other)
  case message =>
    exact fun slot t active ht =>
      ⟨fun pending searches same => congrArg Host.Outcome.next (retrainMsg_accepted active pending searches same),
        fun stray => congrArg Host.Outcome.next (retrainMsg_stray active stray),
        fun idle ahead => congrArg Host.Outcome.next (retrainMsg_agrees active ht idle ahead),
        fun busy => congrArg Host.Outcome.next (retrainMsg_proposes active ht busy)⟩
  case start =>
    exact fun w hw => ⟨fun active agreed due => congrArg Host.Outcome.next (retrainStart_begins hw active agreed due),
      fun waits => congrArg Host.Outcome.next (retrainStart_waits hw waits)⟩
  case notRetrain => exact fun lost restored eq other => congrArg Host.Outcome.next (retrainComplete_other other)
  case complete =>
    intro restored eq t u v retrains ht
    refine ⟨fun hu => congrArg Host.Outcome.next (retrainComplete_lost retrains ht hu), fun hv hu => ?_⟩
    have kept := retrainComplete_kept (restored := restored) retrains ht hv hu
    exact ⟨fun low => congrArg Host.Outcome.next (kept.trans (if_neg (Bool.eq_false_iff.mp low))),
      fun good => congrArg Host.Outcome.next (kept.trans (if_pos good))⟩
  case noSearch => exact fun none => congrArg Host.Outcome.next (retrainTimeout_none none)
  case search =>
    exact fun t search => ⟨fun early => congrArg Host.Outcome.next ((retrainTimeout_search search).trans (if_pos early)),
      fun due => congrArg Host.Outcome.next ((retrainTimeout_search search).trans (if_neg (Nat.not_lt.mpr due)))⟩
  case arm => exact fun up ready => congrArg Host.Outcome.next (marginArm_ready up (armReady_iff.mpr ready))
  case unready =>
    refine fun unready => congrArg Host.Outcome.next (marginArm_waits (unready.imp_right fun ⟨noStep, noPlan⟩ => ?_))
    refine Bool.eq_false_iff.mpr (mt armReady_iff.mp (not_or.mpr ⟨Bool.eq_false_iff.mp noStep, ?_⟩))
    exact fun ⟨t, plan, due⟩ => Nat.not_le.mpr (noPlan t plan) due
  case off => exact fun lanes off => congrArg Host.Outcome.next (marginWindow_off off)
  case window =>
    intro lanes armed up
    refine ⟨_, rfl, fun canon some_lane few => ?_⟩
    have sampled := laneSamples_canon (n := n) (l := lanes) canon
    constructor
    · rw [marginWindow_get rfl armed up, List.take_of_length_le few, showMargins_ber sampled,
        worstLane_highest (mt List.map_eq_nil_iff.mp some_lane)]
    · rw [marginWindow_get rfl armed up, List.take_of_length_le few, showMargins_eye sampled, worstLane_lowest]
  case proposal => exact fun slot up none => congrArg Host.Outcome.next (rateProposal_taken up none)
  case ignored => exact fun slot h => congrArg Host.Outcome.next (rateProposal_ignored h)
  case noRate => exact fun none => congrArg Host.Outcome.next (rateChange_none none)
  case rate =>
    intro k t agreed
    have change := rateChange_eq agreed rfl
    refine ⟨fun waits => congrArg Host.Outcome.next (change.trans (if_pos ?_)), fun due up ht => ?_⟩
    · exact waits.imp_right fun down => by rw [down, Bool.not_false]
    · refine congrArg Host.Outcome.next ((rateChange_eq agreed ht).trans (if_neg ?_))
      exact not_or.mpr ⟨Nat.not_lt.mpr due, by rw [up]; exact Bool.false_ne_true⟩

/-! ### The standby's watch (R300, R504) -/

/-- A field set to what its register's reset value does not hold reads back, in any table. -/
theorem State.get_set_of_ne_reset {s : State} {f : Fld} {v : Nat} (order : f.lo ≤ f.hi) (room : f.hi ≤ 31)
    (fits : v < 2 ^ f.width) (changed : v ≠ Word.field (regDflt f.reg) f.hi f.lo) : (s.set f v).get f = v := by
  have written : Word.field (Word.withField (s.rd f.reg) f.hi f.lo v) f.hi f.lo = v :=
    (Word.field_withField _ _ _ _ order room).trans (Nat.mod_eq_of_lt fits)
  have kept : Word.withField (s.rd f.reg) f.hi f.lo v ≠ regDflt f.reg := fun same => changed (written.symm.trans (by rw [same]))
  exact (congrArg (Word.field · f.hi f.lo) (AMap.get_put_of_ne_dflt _ _ _ kept)).trans written

section
variable {s t u : State}

theorem fireflyReceive_delivered {n : Nat} {hdr : Frame} {fr : FireflyFrame} (h : Delivered n hdr s t) (cls : hdr.cls = 4) :
    fireflyReceive n hdr fr s = if watching t = true ∧ n < 32 ∧ fr.coord = t.get F.CHT_MGR_FOLLOW_COORD
      then fireflyHeard fr.txFet t else t := by
  have heard : (watching t = true ∧ n < 32 ∧ fr.coord = t.get F.CHT_MGR_FOLLOW_COORD) ↔
      (watching t && decide (n < 32) && fr.coord == t.get F.CHT_MGR_FOLLOW_COORD) = true := by
    simp only [Bool.and_eq_true, decide_eq_true_eq, beq_iff_eq, and_assoc]
  simp only [heard]
  exact (receiveFrame_delivered h _ _).trans (if_pos (beq_iff_eq.mpr cls))

theorem fireflyMiss_idle (h : watching s = false ∨ chitinRuns s = false ∨ missEarly s = true) : fireflyMiss s = s := by
  refine if_pos ?_
  obtain away | down | early := h
  · simp [away]
  · simp [down]
  · simp [early]

/-- The count of missed Fireflies reads back, for it is not 0. -/
theorem get_set_missed {n : Nat} (some_miss : 0 < n) (fits : n ≤ 255) :
    (s.set F.CHT_MGR_STATUS_MISSED n).get F.CHT_MGR_STATUS_MISSED = n := by
  have fresh : Word.field (regDflt F.CHT_MGR_STATUS_MISSED.reg) F.CHT_MGR_STATUS_MISSED.hi F.CHT_MGR_STATUS_MISSED.lo = 0 := by
    decide
  exact State.get_set_of_ne_reset (by decide) (by decide) (Nat.lt_of_le_of_lt fits (by decide)) (by rw [fresh]; omega)

/-- An overdue Firefly counts; the third in a row reads the manager's status. -/
theorem fireflyMiss_counts {n : Nat} (watches : watching s = true) (runs : chitinRuns s = true) (overdue : missEarly s = false)
    (hn : n = min 255 (s.get F.CHT_MGR_STATUS_MISSED + 1)) (hu : u = s.set F.CHT_MGR_STATUS_MISSED n)
    (ht : t = { u with mgr := { u.mgr with missDue := some (s.mgr.missDue.getD s.fet + 100000) } }) :
    fireflyMiss s = if n = 3 then
      t.emit (.memberRead (coordAxis (t.get F.CHT_MGR_FOLLOW_COORD) 0) R.CHT_MGR_STATUS) else t := by
  have counted : t.get F.CHT_MGR_STATUS_MISSED = n := by
    subst ht hu
    exact get_set_missed (by omega) (by omega)
  have counts : t = countMiss s := by subst ht hu hn; rfl
  rw [← counted, counts]
  exact if_neg (by rw [watches, runs, overdue]; exact Bool.false_ne_true)
end

/-! ### Takeover (R505) -/

section
variable {s : State} {reply : Option Nat} {members : List MemberReply}

theorem standbyTakeover_idle (h : watching s = false ∨ chitinRuns s = false ∨ s.get F.CHT_MGR_STATUS_MISSED < 3) :
    standbyTakeover reply members s = s := by
  refine if_pos ?_
  obtain away | down | few := h
  · simp [away]
  · simp [down]
  · simp [Nat.not_le.mpr few]

/-- After three misses the standby takes over, unless the manager answers that it acts. -/
theorem standbyTakeover_answered (watches : watching s = true) (runs : chitinRuns s = true)
    (missed : 3 ≤ s.get F.CHT_MGR_STATUS_MISSED) : standbyTakeover reply members s =
      if reply = some 1 then note 5 0 R.CHT_MGR_STATUS (s.set F.CHT_MGR_STATUS_MISSED 0) else takeOver members s :=
  if_neg (by rw [watches, runs, decide_eq_true missed]; exact Bool.false_ne_true)
end

/-! ### Yielding and handback (R492, R494, R506) -/

section
variable {s t : State}

section
variable {standby rival : Option Nat} {lost : Bool}

theorem managerYield_off (off : s.boot.powered = false) : managerYield standby rival lost s = s :=
  if_pos (by rw [off, Bool.not_false])

variable (powered : s.boot.powered = true)
include powered

theorem managerYield_manager (manager : s.get F.CHT_MGR_STATUS_ACT = 1) : managerYield standby rival lost s =
    if standby = some 4 ∨ rival.any (fun k => decide (k < s.get F.CHT_STRAP_SLOT_ID)) = true ∨ lost = true ∨
      s.boot.inputLost = true ∨ locked s = true then yieldRole s else s :=
  (if_neg (by rw [powered]; exact Bool.false_ne_true)).trans (if_pos manager)

theorem managerYield_standby (second : s.get F.CHT_MGR_STATUS_ACT = 2) : managerYield standby rival lost s =
    if rival.any (fun k => decide (k < s.get F.CHT_STRAP_SLOT_ID)) then yieldStandby s else s := by
  refine (if_neg (by rw [powered]; exact Bool.false_ne_true)).trans ((if_neg (by omega)).trans ?_)
  simp only [second, true_and]

theorem managerYield_other (notManager : s.get F.CHT_MGR_STATUS_ACT ≠ 1) (notStandby : s.get F.CHT_MGR_STATUS_ACT ≠ 2) :
    managerYield standby rival lost s = s :=
  (if_neg (by rw [powered]; exact Bool.false_ne_true)).trans ((if_neg notManager).trans (if_neg fun h => notStandby h.1))
end

/-- What HANDBACK does in a module that has taken over, where the strapped manager may act again (R506). -/
def handBackRole (members : List MemberReply) (s : State) : State :=
  endDrive ((setFollow s.mgr.strapped (s.forEach ((members.map (·.t.val)).filter (· != ownT s)) (fun k u =>
    u.emit (.memberWrite k R.CHT_MGR_FOLLOW (BitVec.ofNat 32 (2 ^ 31 + s.mgr.strapped)))))).set F.CHT_MGR_STATUS_ACT 2)

section
variable {via : Path} {w : Word} {act : Option Nat} {yc : Bool} {members : List MemberReply}
  (ht : t = busWrite via R.CHT_MGR_CTRL 4 w.toNat true s) (up : pathUp s via = true) (unlatched : latchOnly s via = false)
  (passed : filtered s via true R.CHT_MGR_CTRL = false)
include ht up unlatched passed

/-- A write of CHT_MGR_CTRL that arrives, and what its HANDBACK bit does in ACT 4. -/
theorem handback_arrives : handback via w act yc members s =
    if !(w.getLsbD 2 && t.get F.CHT_MGR_STATUS_ACT == 4) then t
    else if act = some 5 ∧ !yc then handBackRole members t else regNote via true 5 R.CHT_MGR_CTRL t := by
  subst ht
  exact if_neg (by rw [up, unlatched, passed]; exact Bool.false_ne_true)

theorem handback_none (h : w.getLsbD 2 = false ∨ t.get F.CHT_MGR_STATUS_ACT ≠ 4) : handback via w act yc members s = t := by
  refine (handback_arrives ht up unlatched passed).trans (if_pos ?_)
  obtain clear | other := h
  · rw [clear, Bool.false_and, Bool.not_false]
  · rw [beq_eq_false_iff_ne.mpr other, Bool.and_false, Bool.not_false]

variable (bit : w.getLsbD 2 = true) (acts : t.get F.CHT_MGR_STATUS_ACT = 4)
include bit acts

theorem handback_done (yielded : act = some 5) (free : yc = false) :
    handback via w act yc members s = handBackRole members t := by
  refine (handback_arrives ht up unlatched passed).trans ((if_neg ?_).trans (if_pos ⟨yielded, by rw [free, Bool.not_false]⟩))
  rw [bit, acts]
  decide

theorem handback_refused (h : act ≠ some 5 ∨ yc = true) :
    handback via w act yc members s = regNote via true 5 R.CHT_MGR_CTRL t := by
  refine (handback_arrives ht up unlatched passed).trans ((if_neg ?_).trans (if_neg fun ⟨yielded, free⟩ => ?_))
  · rw [bit, acts]
    decide
  · exact h.elim (· yielded) fun condition => by rw [condition] at free; cases free
end
end

/-! ### Management frames (R539) -/

section
variable {n : Nat} {fr : Frame} {s t : State}

/-- A request of a management frame is carried out for a module that may command this one, and denied to others. -/
theorem managementFrame_delivered (h : Delivered n fr s t) (cls : fr.cls = 7) (request : leAt fr.payload 0 1 < 128)
    (runs : chitinRuns t = true) : managementFrame n fr s = if snlAccepted t (fr.src / 8) = false then
        replyFrame n fr (mgmtReply (leAt fr.payload 0 1) (regCount fr.payload) stDenied (leAt fr.payload 4 4) []) t
      else replyFrame n fr (mgmtOperate (.snl (BitVec.ofNat 17 (fr.src / 8))) fr.payload t).1
        (mgmtOperate (.snl (BitVec.ofNat 17 (fr.src / 8))) fr.payload t).2 := by
  have mine : (fr.cls == 7 && decide (leAt fr.payload 0 1 < 128)) = true := by rw [cls, decide_eq_true request]; rfl
  refine (receiveFrame_delivered h _ _).trans ((if_pos mine).trans ?_)
  simp only [runs, Bool.not_true, Bool.false_eq_true, if_false, Bool.not_eq_true']
end

/-- A row's small operand and its number name the same. -/
theorem map_val_eq_some_iff {m : Nat} (o : Option (Fin m)) (k : Fin m) : o.map (·.val) = some k.val ↔ o = some k :=
  (Option.map_injective Fin.val_injective).eq_iff (b := some k)

/-- Settles O47: the equations above. -/
theorem managerRoleChanges : Obligations.ManagerRoleChanges := by
  unfold Obligations.ManagerRoleChanges
  intro s
  refine ⟨?firefly, ?idle, ?miss, ?takeover, ?noTakeover, ?yield, ?handback, ?frame⟩
  case firefly =>
    intro n hdr fr t h cls
    have delivered := fireflyReceive_delivered (fr := fr) h cls
    refine ⟨fun watches torus followed =>
        ⟨_, rfl, congrArg Host.Outcome.next (delivered.trans (if_pos ⟨watches, torus, followed⟩))⟩,
      fun unheard => congrArg Host.Outcome.next (delivered.trans (if_neg fun ⟨watches, torus, followed⟩ => ?_))⟩
    obtain away | edge | other := unheard
    · exact Bool.eq_false_iff.mp away watches
    · exact Nat.not_lt.mpr edge torus
    · exact other followed
  case idle => exact fun idle => congrArg Host.Outcome.next (fireflyMiss_idle idle)
  case miss =>
    intro n t u watches runs overdue hn hu ht
    have counts := fireflyMiss_counts watches runs overdue hn hu ht
    exact ⟨fun third => congrArg Host.Outcome.next (counts.trans (if_pos third)),
      fun other => congrArg Host.Outcome.next (counts.trans (if_neg other))⟩
  case takeover =>
    intro reply ms watches runs missed
    have answered := standbyTakeover_answered (reply := reply.map (·.val)) (members := ms) watches runs missed
    have one : reply.map (·.val) = some 1 ↔ reply = some 1 := map_val_eq_some_iff reply 1
    exact ⟨fun acts => congrArg Host.Outcome.next (answered.trans (if_pos (one.mpr acts))),
      fun silent => congrArg Host.Outcome.next (answered.trans (if_neg (mt one.mp silent)))⟩
  case noTakeover => exact fun reply ms idle => congrArg Host.Outcome.next (standbyTakeover_idle idle)
  case yield =>
    rintro standby rival lost beaten hbeaten
    have lower : (rival.map (·.val)).any (fun k => decide (k < s.get F.CHT_STRAP_SLOT_ID)) = beaten :=
      (Option.any_map ..).trans hbeaten.symm
    have four : standby.map (·.val) = some 4 ↔ standby = some 4 := map_val_eq_some_iff standby 4
    refine ⟨fun off => congrArg Host.Outcome.next (managerYield_off off), fun powered manager => ?_, fun powered second => ?_,
      fun powered notManager notStandby => congrArg Host.Outcome.next (managerYield_other powered notManager notStandby)⟩
    · have yields := managerYield_manager (standby := standby.map (·.val)) (rival := rival.map (·.val)) (lost := lost)
        powered manager
      simp only [lower, four] at yields
      refine ⟨fun condition => congrArg Host.Outcome.next (yields.trans (if_pos condition)),
        fun idle unbeaten linked input unlocked => congrArg Host.Outcome.next (yields.trans (if_neg ?_))⟩
      simp only [idle, unbeaten, linked, input, unlocked, Bool.false_eq_true, or_self, not_false_eq_true]
    · have yields := managerYield_standby (standby := standby.map (·.val)) (rival := rival.map (·.val)) (lost := lost)
        powered second
      rw [lower] at yields
      exact congrArg Host.Outcome.next yields
  case handback =>
    intro via w act yc ms t ht up unlatched passed
    have five : act.map (·.val) = some 5 ↔ act = some 5 := map_val_eq_some_iff act 5
    exact ⟨fun none => congrArg Host.Outcome.next (handback_none ht up unlatched passed none),
      fun bit acts yielded free =>
        congrArg Host.Outcome.next (handback_done ht up unlatched passed bit acts (five.mpr yielded) free),
      fun bit acts refused =>
        congrArg Host.Outcome.next (handback_refused ht up unlatched passed bit acts (refused.imp_left (mt five.mp)))⟩
  case frame =>
    intro n fr t h cls request runs
    have delivered := managementFrame_delivered h cls request runs
    exact ⟨fun denied => congrArg Host.Outcome.next (delivered.trans (if_pos denied)),
      fun accepted => congrArg Host.Outcome.next (delivered.trans (if_neg (by rw [accepted]; decide)))⟩

end Sys2Proof.Machine

/-!
PROOFS. The statements of 11_partitions: requests that a check refuses (O10), the configuration, envelope and sentinel opcodes
(O7), the end of a quench ramp (O40), the record of a fault and its reaction (O44), the management port and PCI Express (O48).
-/
namespace Sys2Proof.Machine

/-! ### Requests that a check refuses (R353, R375, R382, R383) -/

/-- An entry of the table of rows that Scarab serves, as `scarabRow` gives it. -/
theorem scarabRow_eq_some_iff {s : State} {i : Instr} {op : Nat} {bad : Bool} {r : Request} :
    scarabRow s i = some (op, bad, r) ↔ ∃ o, scarabOp s i = some (o, r) ∧ o.code = op ∧ o.bad = bad := by
  simp only [scarabRow, Option.map_eq_some_iff, Prod.exists, Prod.mk.injEq]
  constructor
  · rintro ⟨o, r', row, rfl, rfl, rfl⟩; exact ⟨o, row, rfl, rfl⟩
  · rintro ⟨o, row, rfl, rfl⟩; exact ⟨o, r, row, rfl, rfl, rfl⟩

/-- The same of the rows that Chitin's front end takes. -/
theorem chitinRow_eq_some_iff {i : Instr} {op : Nat} {bad : Bool} {r : Request} :
    chitinRow i = some (op, bad, r) ↔ ∃ o, chitinOp i = some (o, r) ∧ o.code = op ∧ o.bad = bad := by
  simp only [chitinRow, Option.map_eq_some_iff, Prod.exists, Prod.mk.injEq]
  constructor
  · rintro ⟨o, r', row, rfl, rfl, rfl⟩; exact ⟨o, row, rfl, rfl⟩
  · rintro ⟨o, row, rfl, rfl⟩; exact ⟨o, r, row, rfl, rfl, rfl⟩

/-- Settles O10: on both paths the checks answer before the opcode's own effect. -/
theorem refusedRequestsChangeNothing : Obligations.RefusedRequestsChangeNothing := by
  unfold Obligations.RefusedRequestsChangeNothing
  intro i s op bad r st refused
  constructor
  · intro row turn
    obtain ⟨o, entry, rfl, rfl⟩ := scarabRow_eq_some_iff.mp row
    rw [exec_scarab entry, scarab_refused turn refused]
  · intro row turn
    obtain ⟨o, entry, rfl, rfl⟩ := chitinRow_eq_some_iff.mp row
    rw [exec_chitin entry, chitin_refused turn refused]

/-! ### CFG_STAGE and CFG_COMMIT (R395, R397, R398) -/

section
variable {r : Request} {s t : State}

theorem cfgStageOp_busy_false (part : partBusy r t = false) (noCommit : commitPending t r = false) :
    (cfgStageOp r).busy t = false := by simp only [cfgStageOp, part, noCommit, Bool.or_self]

section
variable {base : List StageEntry} (hbase : base = (if pByte r 0 = 1 then [] else (t.part (reqPart r)).staging))
include hbase

/-- The entries of a CFG_STAGE, each one that may be staged over those before it, enter the staging area. -/
theorem cfgStage_stages {l : List StageEntry} {u : State}
    (fits : base.length + ((List.range (pLe r 2 2)).map (stageEntry r)).length ≤ 1024)
    (staged : stageAll t (reqPart r) (reqFn r != 0) base ((List.range (pLe r 2 2)).map (stageEntry r)) = some l)
    (hu : u = t.setPart (reqPart r) { t.part (reqPart r) with staging := l, staged := true }) :
    cfgStage r t = .done stOk (stageResult u (reqPart r)) u := by
  subst hbase hu
  simp only [cfgStage, if_neg (Nat.not_lt.mpr fits), staged]

theorem cfgStage_refused (h : 1024 < base.length + ((List.range (pLe r 2 2)).map (stageEntry r)).length ∨
    stageAll t (reqPart r) (reqFn r != 0) base ((List.range (pLe r 2 2)).map (stageEntry r)) = none) :
    cfgStage r t = .done stBadParam [] t := by
  subst hbase
  unfold cfgStage
  rcases h with full | barred
  · exact if_pos full
  · simp only [barred, ite_self]
end

theorem cfgCommitOp_busy_false (part : partBusy r t = false) (valid : fetInvalid t = false)
    (noCommit : commitPending t r = false) : (cfgCommitOp r).busy t = false := by
  simp only [cfgCommitOp, part, valid, noCommit, Bool.or_self]

theorem cfgCommit_pends (good : commitOk t r = true) : cfgCommit r t = .later (.cfgCommit (reqPart r) (pBoundary r 8))
    ((t.setPart (reqPart r) { t.part (reqPart r) with commit := some ⟨pBoundary r 8, stagedEpoch t (reqPart r),
      stagedDigest t (reqPart r) (t.part (reqPart r)).staging⟩ }).set (F.CHT_CFG_STATUS_PENDING (reqPart r)) 1) := by
  simp only [cfgCommit, good, Bool.not_true, Bool.false_eq_true, if_false]

theorem cfgCommit_refused (bad : commitOk t r = false) : cfgCommit r t = .done stBadParam [] t := by
  simp only [cfgCommit, bad, Bool.not_false, if_true]

/-! ### ENVELOPE_SET and SENTINEL_RUN (R358, R393, R415, R482) -/

section
variable {all : List Breakpoint}
  (hall : all = (breakpoints t).filter (fun b => decide (b.fet < ((envPoints r).headD ⟨0, 0, 0, 0⟩).fet)) ++ envPoints r)
include hall

/-- Breakpoints that rise, come far enough ahead, keep the limits of Table 12.10 and find room replace those from the first of
them on. -/
theorem envelopeSet_takes (rises : rising (envPoints r) = true) (ahead : tooSoon t (pLe r 8 8) = false)
    (within : (envPoints r).all pointOk = true) (fits : all.length ≤ 12) :
    envelopeSet r t = .done stOk [] (setBreakpoints all t) := by
  subst hall
  simp only [envelopeSet, rises, ahead, within, decide_eq_false (Nat.not_lt.mpr fits), Bool.not_true, Bool.or_self,
    Bool.false_eq_true, if_false]

theorem envelopeSet_refused (h : rising (envPoints r) = false ∨ tooSoon t (pLe r 8 8) = true ∨
    (envPoints r).all pointOk = false ∨ 12 < all.length) : envelopeSet r t = .done stBadParam [] t := by
  subst hall
  refine if_pos ?_
  rw [Bool.or_eq_true, Bool.or_eq_true, Bool.or_eq_true, Bool.not_eq_true', Bool.not_eq_true', decide_eq_true_eq, or_assoc,
    or_assoc]
  exact h
end

/-- A budget within the tenant pool, of a tenant that exists and is not being destroyed, is granted (R358). -/
theorem budgetSet_grants (present : partState t (pByte r 1) ≠ 0) (stays : partState t (pByte r 1) ≠ 5)
    (fits : grantedSum t - t.get (F.PRT_POWER_GRANTED (pByte r 1)) + pLe r 2 2 ≤ tenantPool t) :
    budgetSet r t = .done stOk [] (scaleBudgets (t.set (F.PRT_POWER_GRANTED (pByte r 1)) (pLe r 2 2))) :=
  if_neg (not_or.mpr ⟨present, not_or.mpr ⟨stays, Nat.not_lt.mpr fits⟩⟩)

theorem envelopeSetBudgetOp_busy_false (created : partState t (pByte r 1) ≠ 1) : (envelopeSetBudgetOp r).busy t = false :=
  beq_eq_false_iff_ne.mpr created

theorem sentinelRunOp_busy_false (part : partBusy r t = false) (idle : planStarted t (reqPart r) = false) :
    (sentinelRunOp r).busy t = false := by simp only [sentinelRunOp, part, idle, Bool.or_self]

/-- A run on the partition's own fields starts: no cell of them has checked a tile of it yet (R482). -/
theorem sentinelRun_starts (own : (maskFields (pMask r 0)).any (fun f => ownerOf t f != reqPart r) = false) :
    sentinelRun r t = .later (.sentinelRun (reqPart r) (pMask r 0) (pLe r 12 4) (t.rd R.FLT_LOG_HEAD).toNat)
      (t.forEach ((t.cells.map (·.1)).filter (fun k => (maskFields (pMask r 0)).contains (k / 72)))
        (fun k t => t.setCell (k / 72) (k % 72) { t.cell (k / 72) (k % 72) with runTiles := 0, tile := none })) := by
  simp only [sentinelRun, own, Bool.false_eq_true, if_false]

/-! Each opcode in its turn. -/

theorem exec_cfgStage (h : ToScarab 0x48 (stageBad r) r s) (part : partBusy r (readIn r s) = false)
    (noCommit : commitPending (readIn r s) r = false) :
    exec (.cfgStage r) s = .next (conclude 0x48 r (advance r.src r.seq) (readIn r s) (cfgStage r (readIn r s))) :=
  toScarab_next (o := cfgStageOp r) h (cfgStageOp_busy_false part noCommit) nofun rfl

theorem exec_cfgCommit (h : ToScarab 0x49 (short r 48 || !pZero r 2 8) r s) (part : partBusy r (readIn r s) = false)
    (valid : fetInvalid (readIn r s) = false) (noCommit : commitPending (readIn r s) r = false)
    (room : inflight (readIn r s) r.src < 64) :
    exec (.cfgCommit r) s = .next (conclude 0x49 r (advance r.src r.seq) (readIn r s) (cfgCommit r (readIn r s))) :=
  toScarab_next (o := cfgCommitOp r) h (cfgCommitOp_busy_false part valid noCommit) (fun _ => room) rfl

theorem exec_envelopeSet (h : ToScarab 0x50 (envBad r) r s) (valid : fetInvalid (readIn r s) = false) :
    exec (.envelopeSet r) s = .next (conclude 0x50 r (advance r.src r.seq) (readIn r s) (envelopeSet r (readIn r s))) :=
  toScarab_next (o := envelopeSetOp r) h valid nofun rfl

theorem exec_envelopeSetBudget
    (h : ToScarab 0x50 (short r 4 || pByte r 0 != 1 || pByte r 1 == 0 || decide (7 < pByte r 1)) r s)
    (created : partState (readIn r s) (pByte r 1) ≠ 1) :
    exec (.envelopeSetBudget r) s = .next (conclude 0x50 r (advance r.src r.seq) (readIn r s) (budgetSet r (readIn r s))) :=
  toScarab_next (o := envelopeSetBudgetOp r) h (envelopeSetBudgetOp_busy_false created) nofun rfl

theorem exec_sentinelRun (h : ToScarab 0x60 (short r 16 || pByte r 11 != 0 || pLe r 12 4 == 0) r s)
    (part : partBusy r (readIn r s) = false) (idle : planStarted (readIn r s) (reqPart r) = false)
    (room : inflight (readIn r s) r.src < 64) :
    exec (.sentinelRun r) s = .next (conclude 0x60 r (advance r.src r.seq) (readIn r s) (sentinelRun r (readIn r s))) :=
  toScarab_next (o := sentinelRunOp r) h (sentinelRunOp_busy_false part idle) (fun _ => room) rfl
end

/-- Settles O7: each opcode's own checks decide its answer, and the command protocol puts the answer into effect. -/
theorem configurationOpcodesTakeEffect : Obligations.ConfigurationOpcodesTakeEffect := by
  unfold Obligations.ConfigurationOpcodesTakeEffect
  intro r s
  refine ⟨?stage, ?stageRefused, ?commit, ?commitRefused, ?envelope, ?budget, ?sentinel⟩
  case stage =>
    intro base l h part noCommit hbase fits staged
    refine ⟨_, rfl, ?_⟩
    rw [exec_cfgStage h part noCommit, cfgStage_stages hbase fits staged rfl]; rfl
  case stageRefused =>
    intro base h part noCommit hbase refused
    rw [exec_cfgStage h part noCommit, cfgStage_refused hbase refused]; rfl
  case commit =>
    intro h part valid noCommit room good
    rw [exec_cfgCommit h part valid noCommit room, cfgCommit_pends good]; rfl
  case commitRefused =>
    intro h part valid noCommit room bad
    rw [exec_cfgCommit h part valid noCommit room, cfgCommit_refused bad]; rfl
  case envelope =>
    intro all h valid hall
    rw [exec_envelopeSet h valid]
    exact ⟨fun rises ahead within fits => by rw [envelopeSet_takes hall rises ahead within fits]; rfl,
      fun refused => by rw [envelopeSet_refused hall refused]; rfl⟩
  case budget =>
    intro h present created stays fits
    rw [exec_envelopeSetBudget h created, budgetSet_grants present stays fits]; rfl
  case sentinel =>
    intro h part idle room own
    rw [exec_sentinelRun h part idle room, sentinelRun_starts own]; rfl

/-! ### The end of a quench ramp that turns the module off (R421, R519) -/

section
variable {s : State}

theorem State.forEach_boot {g : Nat → State → State} (kept : ∀ k t, (g k t).boot = t.boot) (l : List Nat) (s : State) :
    (s.forEach l g).boot = s.boot := by
  induction l generalizing s with
  | nil => rfl
  | cons k l ih => exact (ih (g k s)).trans (kept k s)

theorem retain_boot (d : Nat) (s : State) : (retain d s).boot = s.boot := by
  simp only [retain, slewTo]
  split <;> rfl

theorem endJobs_boot (p : Work → Bool) (status : Nat) (result : List Byte) (s : State) :
    (endJobs p status result s).boot = s.boot := rfl

/-- The ramp of a scope is over: the clusters still ON are in RETENTION, the QUENCH commands of the scope are complete. -/
def rampOver (scope : Nat) (s : State) : State :=
  let s := s.forEach (scopeFields s scope) (fun f t =>
    t.forEach (List.range 8) (fun k u => if domState u (domOf f k) = 3 then retain (domOf f k) u else u))
  let s := { s with power := { s.power with ramps := s.power.ramps.filter (fun r => r.scope != scope) } }
  let s := if scope = 0 then s.set F.PWR_STATUS_RAMP_DOWN 0 else s
  endJobs (fun w => match w with | .quench q => q == scope | _ => false) stOk [] s

theorem rampOver_boot (scope : Nat) (s : State) : (rampOver scope s).boot = s.boot := by
  simp only [rampOver, endJobs_boot, apply_ite State.boot, State.set_boot, ite_self]
  refine State.forEach_boot (fun f t => State.forEach_boot (fun k u => ?_) _ t) _ s
  split
  · exact retain_boot _ u
  · rfl

theorem quenchReached_turnsOff {scope : Nat} (module : scope = 0) (ended : rampEnded s scope = true)
    (pending : s.boot.pwrOffPending = true) : quenchReached scope s = { powerDown (rampOver scope s) with
      boot := { (powerDown (rampOver scope s)).boot with pwrOffPending := false } } := by
  have off : scope = 0 ∧ (rampOver scope s).boot.pwrOffPending = true := ⟨module, by rw [rampOver_boot, pending]⟩
  exact (if_neg (by rw [ended]; exact Bool.false_ne_true)).trans (if_pos off)

theorem portOff_boot (n : Nat) (t : State) :
    (if t.get (F.SNL_STATUS_STATE n) == 0 then t else portTo n 0 t).boot = t.boot := by
  split <;> rfl

/-- With every regulator off the fault log is lost. -/
theorem powerOffAll_logLost (s : State) : (powerOffAll s).boot.logLost = true := by
  simp only [powerOffAll, State.forEach_boot portOff_boot]

theorem logLost_eq_of_update_eq {t u v : State} (h : ({ t with boot := { t.boot with pwrOffPending := false } } : State) =
    { u with boot := { v.boot with pwrOffPending := false } }) : t.boot.logLost = v.boot.logLost :=
  congrArg (·.boot.logLost) h

/-- What the statement comes to where QUENCH_REACHED turns the module off: all that Chitin records of its state but the pending
turn-off stands as before the power went, so that the fault log was lost already. -/
theorem logLost_of_powerWindowsActOnDraw (h : Obligations.PowerWindowsActOnDraw) (ended : rampEnded s 0 = true)
    (pending : s.boot.pwrOffPending = true) : s.boot.logLost = true := by
  obtain ⟨-, -, -, -, -, -, -, -, -, atEnd⟩ := h s
  obtain ⟨-, turnsOff⟩ := atEnd 0 _ _ _ (rampOver (0 : Fin 8).val s) ended rfl rfl rfl rfl
  obtain ⟨x, -, claimed⟩ := turnsOff rfl (by rw [rampOver_boot, pending])
  have reached := (quenchReached_turnsOff (scope := (0 : Fin 8).val) rfl ended pending).symm.trans (Host.Outcome.next.inj claimed)
  calc s.boot.logLost = (rampOver (0 : Fin 8).val s).boot.logLost := by rw [rampOver_boot]
    _ = (powerDown (rampOver (0 : Fin 8).val s)).boot.logLost := (logLost_eq_of_update_eq reached).symm
    _ = true := powerOffAll_logLost _
end

/-- The module's quench ramp stands at zero, and PWR_EN has gone: at its end the module turns off. -/
def rampAtZero : State := { State.reset with
  power := { State.reset.power with ramps := [{ scope := 0, slew := 50 }] }
  boot := { State.reset.boot with pwrOffPending := true } }

theorem rampAtZero_ended : rampEnded rampAtZero 0 = true := by decide

/-- Refutes O40: where QUENCH_REACHED turns the module off, the model marks the fault log as lost, and the statement has it as it
was before. -/
theorem not_powerWindowsActOnDraw : ¬ Obligations.PowerWindowsActOnDraw := by
  intro h
  have kept : rampAtZero.boot.logLost = false := rfl
  have lost : rampAtZero.boot.logLost = true := logLost_of_powerWindowsActOnDraw h rampAtZero_ended rfl
  exact Bool.false_ne_true (kept.symm.trans lost)

/-! ### A fault and its record (R457, R458, R461, R462) -/

section
variable {s u : State} {cls slew idx : Nat} {notice : Bool} {ev : FaultEvent}

/-- A class other than 1 and 2 neither charges lanes nor counts toward CORR_LIMIT: the event is recorded, and its class acts. -/
theorem raiseAs_plain (not1 : cls ≠ 1) (not2 : cls ≠ 2) : (raiseAs cls slew notice ev s).2 =
    react cls (recordFault cls ev s).1 slew notice ev (recordFault cls ev s).2 := by
  simp only [raiseAs, if_neg not1, if_neg not2]

/-- A class 2 event is charged to its lanes (R477). -/
theorem raiseAs_two {e : FaultEvent} (he : e = { ev with lanes := eventLanes s ev }) : (raiseAs 2 slew notice ev s).2 =
    react 2 (recordFault 2 e s).1 slew notice e (recordFault 2 e s).2 := by
  subst he; rfl

/-- A class 1 event counts toward CORR_LIMIT of its unit, and raises CORR_RATE where that is reached (R458). -/
theorem raiseAs_one {r : List CorrCount × Bool} {c : State} (hc : c = (recordFault 1 ev s).2)
    (hr : r = countCorr c.fet (c.get F.FLT_CORR_CFG_CORR_LIMIT) (ev.collector, ev.unitType, ev.inst) c.log.corr)
    (hu : u = { c with log := { c.log with corr := r.1 } }) : (raiseAs 1 slew notice ev s).2 =
      if r.2 then (recordFault 0 { ev with code := 0x060d, detail := [] } u).2 else u := by
  subst hu hr hc
  simp only [raiseAs, react, if_true, OfNat.one_ne_ofNat, if_false]

/-! ### FAULT_CAPTURE -/

theorem faultCapture_raises (own : ev.code ≠ 0x0609) (kept : ev.code ≠ 0x0305) :
    faultCapture ev s = raiseFault ev (tierReport ev s) := by
  unfold faultCapture
  rw [if_neg own, if_neg kept]

/-- Uncorrectable Tier P data ends the restore that read it (Table 07.5). -/
theorem faultCapture_restore (restore : ev.code = 0x0305) : faultCapture ev s =
    endJobs (fun w => match w with | .ckptRestore p _ => p == ev.part | _ => false) stFaulted []
      (raiseFault ev (tierReport ev s)) := by
  have own : ev.code ≠ 0x0609 := by rw [restore]; decide
  exact (if_pos restore).trans (congrArg _ (if_neg own))

theorem faultCapture_shared (shared : ev.code = 0x0609) : faultCapture ev s = sharedUnit ev s := by
  have kept : ev.code ≠ 0x0305 := by rw [shared]; decide
  unfold faultCapture
  rw [if_pos shared, if_neg kept]

/-- A unit that cannot be fenced off fails for the module (R363). -/
theorem sharedUnit_unfenced (none : usesShared s ev 0 = none) : sharedUnit ev s = raiseFault { ev with part := 0 } s :=
  if_pos (by rw [none]; rfl)

theorem sharedUnit_fenced (fenced : usesShared s ev 0 ≠ none) {uses others : List Nat}
    (huses : uses = (List.range 8).filter (fun p => p != 0 && partState s p != 0 && usesShared s ev p == some true))
    (hothers : others = (List.range 8).filter (fun p => (p == 0 || partState s p != 0) && !uses.contains p)) :
    sharedUnit ev s = (s.forEach uses (fun p t => (raiseAs 3 (rampLimit t) true { ev with part := p } t).2)).forEach others
      (fun p t => (raiseAs 0 (rampLimit t) true { ev with part := p } t).2) := by
  subst hothers huses
  exact if_neg (by rw [Option.isNone_iff_eq_none]; exact fenced)

/-! ### The record (R459, R461, R462) -/

section
variable (hu : u = countEvent cls ev s)
include hu

theorem recordFault_coalesces (again : u.log.recs.any (coalesces u.fet cls ev) = true) :
    recordFault cls ev s = (0, { u with log := { u.log with
      recs := editFirst (coalesces u.fet cls ev) (fun r => { r with repeats := min 65535 (r.repeats + 1) }) u.log.recs } }) := by
  subst hu
  exact if_pos again

variable (first : u.log.recs.any (coalesces u.fet cls ev) = false)
include first

theorem recordFault_drops (full : makeRoom cls u.log.recs = none) : recordFault cls ev s = (0, overflow u) := by
  subst hu
  simp only [recordFault, first, full, Bool.false_eq_true, if_false]

/-- A record that finds room takes its place: the records from there on move up, its collector captures it, and from class 3 on
Chitin's store and the journal keep a copy. -/
theorem recordFault_records {l : List FaultRec} {b h v w : State} {e : FaultEvent} {r : FaultRec}
    (room : makeRoom cls u.log.recs = some l) (hidx : idx = placeOf u ev)
    (hb : b = shiftFrom idx { u with log := { u.log with recs := l } })
    (he : e = { ev with link := if idx ≤ ev.link then ev.link + 1 else ev.link })
    (hr : r = { index := idx, cls := cls, ev := e, fet := b.fet, first := takesFirst b cls e,
                temp := (eventSensors b ev).1, volt := (eventSensors b ev).2 })
    (hh : h = captureFirst cls idx e b) (hv : v = h.wr R.FLT_LOG_HEAD (h.rd R.FLT_LOG_HEAD + 1))
    (hw : w = { v with log := { v.log with
      recs := v.log.recs.filter (fun x => decide (x.index < idx)) ++ r :: v.log.recs.filter (fun x => decide (idx < x.index)) } }) :
    recordFault cls ev s = (idx, if 3 ≤ cls then (keepInChitin r w).journal (.fault r) else w) := by
  subst hu hw hv hh hr he hb hidx
  simp only [recordFault, first, room, Bool.false_eq_true, if_false]
end

theorem overflow_again (noted : s.log.overflowed = true) : overflow s = s := if_pos noted

theorem overflow_first (fresh : s.log.overflowed = false) {w : State}
    (hw : w = countEvent 0 { code := 0x060c, collector := 108, unitType := 20, inst := 0 } s) :
    overflow s = { w with log := { w.log with overflowed := true } } := by
  subst hw
  exact if_neg (by rw [fresh]; exact Bool.false_ne_true)

/-! ### What a class does (R459, R468) -/

/-- A fault of class 3 quenches a tenant that is READY or RUNNING, and its notice goes out. -/
theorem react_three_quenches (live : partState s ev.part = 2 ∨ partState s ev.part = 3) (tenant : ev.part ≠ 0) :
    react 3 idx slew true ev s = quenchNotice ev.part idx (quenchPartition ev.part slew s) := by
  rcases live with ready | running
  · simp only [react, ready, if_neg tenant, if_true]
  · simp only [react, running, if_neg tenant, if_true]
end

/-- Settles O44: FAULT_CAPTURE is read off what raising a fault comes to for each class, and the record off the branches of
`recordFault`. -/
theorem faultsAreRecordedAndActedOn : Obligations.FaultsAreRecordedAndActedOn := by
  unfold Obligations.FaultsAreRecordedAndActedOn
  intro s
  refine ⟨?plain, ?two, ?one, ?shared, ?coalesces, ?record, ?quenches, ?four, ?five, ?injections⟩
  case plain =>
    rintro ev _ _ own not1 not2 rfl rfl
    have raised : raiseFault ev (tierReport ev s) = _ := raiseAs_plain not1 not2
    refine ⟨_, rfl, fun kept => ?_, fun restore => ?_⟩
    · exact congrArg Host.Outcome.next ((faultCapture_raises own kept).trans raised)
    · exact congrArg Host.Outcome.next ((faultCapture_restore restore).trans (congrArg _ raised))
  case two =>
    rintro ev _ e _ own cls rfl he rfl kept
    refine congrArg Host.Outcome.next ((faultCapture_raises own kept).trans ?_)
    rw [raiseFault, cls, raiseAs_two he]
  case one =>
    rintro ev _ c own cls kept rfl hc
    refine ⟨_, _, rfl, rfl, congrArg Host.Outcome.next ((faultCapture_raises own kept).trans ?_)⟩
    rw [raiseFault, cls, raiseAs_one hc rfl rfl]
  case shared =>
    intro ev uses others shared huses hothers
    exact ⟨fun none => congrArg Host.Outcome.next ((faultCapture_shared shared).trans (sharedUnit_unfenced none)),
      fun fenced => congrArg Host.Outcome.next ((faultCapture_shared shared).trans (sharedUnit_fenced fenced huses hothers))⟩
  case coalesces => exact fun cls ev u hu again => recordFault_coalesces hu again
  case record =>
    intro cls ev u hu first
    refine ⟨fun full noted => ?_, fun w full fresh hw => ?_, fun l idx b e r v h w => recordFault_records hu first⟩
    · rw [recordFault_drops hu first full, overflow_again noted]
    · rw [recordFault_drops hu first full, overflow_first fresh hw]
  case quenches => exact fun ev idx slew live tenant => react_three_quenches live tenant
  case four => exact fun ev idx slew => rfl
  case five => exact fun ev idx slew => rfl
  case injections => rfl

/-! ### The management port (R431, R525) -/

section
variable {s : State}

section
variable {ip : Word} {port : BitVec 16} {payload : List Byte}

theorem regDatagram_carried (up : pathUp s (.datagram ip port) = true) (whole : 16 ≤ payload.length)
    (request : leAt payload 0 1 < 128) :
    regDatagram ip port payload s = (mgmtOperate (.datagram ip port) payload s).2.emit
      (.datagram ip port.toNat (mgmtOperate (.datagram ip port) payload s).1) := by
  simp only [regDatagram, up, decide_eq_false (Nat.not_lt.mpr whole), decide_eq_false (Nat.not_le.mpr request), Bool.not_true,
    Bool.or_self, Bool.false_eq_true, if_false]

/-- A datagram that no path carries, that is too short for a request, or that is a reply, is not one to carry out. -/
theorem regDatagram_ignored (h : pathUp s (.datagram ip port) = false ∨ payload.length < 16 ∨ 128 ≤ leAt payload 0 1) :
    regDatagram ip port payload s = s := by
  refine if_pos ?_
  rw [Bool.or_eq_true, Bool.or_eq_true, Bool.not_eq_true', decide_eq_true_eq, decide_eq_true_eq, or_assoc]
  exact h
end

section
variable {icmp tagged : Bool} {addr : Word}

theorem arpIcmp_answered (runs : chitinRuns s = true) (own : addr = viewWord s .rackBus R.CHT_MGMT_BASE) :
    arpIcmp icmp addr false s = s.emit (.arpIcmp icmp addr) :=
  if_pos (by rw [runs, Bool.not_false, Bool.and_self, Bool.true_and, beq_iff_eq]; exact own)

theorem arpIcmp_ignored (h : chitinRuns s = false ∨ tagged = true ∨ addr ≠ viewWord s .rackBus R.CHT_MGMT_BASE) :
    arpIcmp icmp addr tagged s = s := by
  refine if_neg ?_
  rw [Bool.and_eq_true, Bool.and_eq_true, Bool.not_eq_true', beq_iff_eq]
  rintro ⟨⟨runs, untagged⟩, own⟩
  rcases h with off | tag | other
  · exact Bool.false_ne_true (off.symm.trans runs)
  · exact Bool.false_ne_true (untagged.symm.trans tag)
  · exact other own
end

/-! ### PERST (R527) -/

section
variable {ep : Nat}

theorem perstAssert_off (off : s.boot.powered = false) : perstAssert ep s = s := if_pos (by rw [off]; rfl)
theorem perstRelease_off (off : s.boot.powered = false) : perstRelease ep s = s := if_neg (by rw [off]; exact Bool.false_ne_true)

theorem perstAssert_powered (powered : s.boot.powered = true) :
    perstAssert ep s = (s.set (perstPin ep) 0).forEach (List.range 8) (fun q t => resetMsix ep q (disableQueue ep q t)) :=
  if_neg (by rw [powered]; exact Bool.false_ne_true)
theorem perstRelease_powered (powered : s.boot.powered = true) : perstRelease ep s = s.set (perstPin ep) 1 := if_pos powered
end
end

/-- Settles O48: each request is carried out where its conditions hold and changes nothing elsewhere. -/
theorem managementPortAndResetsAct : Obligations.ManagementPortAndResetsAct := by
  unfold Obligations.ManagementPortAndResetsAct
  intro s
  refine ⟨?datagram, ?noDatagram, ?answered, ?unanswered, ?off, ?perst, ?functionReset⟩
  case datagram => exact fun ip port payload up whole request => congrArg Host.Outcome.next (regDatagram_carried up whole request)
  case noDatagram => exact fun ip port payload h => congrArg Host.Outcome.next (regDatagram_ignored h)
  case answered => exact fun icmp addr runs own => congrArg Host.Outcome.next (arpIcmp_answered runs own)
  case unanswered => exact fun icmp addr tagged h => congrArg Host.Outcome.next (arpIcmp_ignored h)
  case off =>
    exact fun ep off => ⟨congrArg Host.Outcome.next (perstAssert_off off), congrArg Host.Outcome.next (perstRelease_off off)⟩
  case perst =>
    exact fun ep powered =>
      ⟨congrArg Host.Outcome.next (perstAssert_powered powered), congrArg Host.Outcome.next (perstRelease_powered powered)⟩
  case functionReset => exact fun ep fn => rfl

end Sys2Proof.Machine

/-!
PROOFS. The statements of 12_command_protocol: the opcodes that only ask (O1), the fault opcodes (O8), the opcodes of Chitin's
front end (O9), the sequence of requests and FENCE (O11), replies (O13), completions, failover and queue expiry (O14), the
queue registers (O15). An equation for each branch of a command's update says what it comes to where its conditions hold, and
the statements are read off these.
-/
namespace Sys2Proof.Machine

/-! ### The opcodes that only ask (O1) -/

section
variable {r : Request} {op : BitVec 8} {s t : State}

/-- No SCP version in common: VERSION, and nothing is settled (R386). -/
theorem negotiate_refused (none : (settled r).1 = 0) : negotiate r t = .done stVersion [] t := if_pos none

theorem negotiate_settles (common : (settled r).1 ≠ 0) : negotiate r t = .done stOk
    (leBytes (settled r).1 1 ++ leBytes (settled r).2.1 1 ++ leBytes (settled r).2.2 1 ++ [0])
    (setVer r.src (settled r).1 t) := if_neg common

/-- An opcode nothing defines fails the second check, whatever the rest of its request says (R382). -/
theorem precheck_undefined {opcode : Nat} {bad : Bool} (undefined : opDefined opcode = false)
    (scp : noScpVersion t r.src = false) (version : r.version.toNat = queueVer t r.src) :
    precheck t opcode r bad = some stBadOpcode :=
  precheck_eq_some_iff.mpr (.inr ⟨scp, .inr ⟨.inr version, .inl ⟨undefined, rfl⟩⟩⟩)

theorem exec_negotiate (h : ToScarab 0x02 (short r 8 || !pZero r 6 8) r s) :
    exec (.negotiate r) s = .next (conclude 0x02 r (advance r.src r.seq) (readIn r s) (negotiate r (readIn r s))) :=
  toScarab_next (o := negotiateOp r) h rfl nofun rfl

theorem scarabOp_badOpcodeRequest (undefined : opDefined op.toNat = false) :
    scarabOp s (.badOpcodeRequest r op) = some (badOpcodeOp op, r) :=
  if_neg (by rw [undefined]; exact Bool.false_ne_true)
end

/-- Settles O1: each opcode's own answer, which the command protocol puts into effect; an undefined opcode has none, a check
refuses it. -/
theorem askingOpcodesAnswer : Obligations.AskingOpcodesAnswer := by
  unfold Obligations.AskingOpcodesAnswer
  intro r op s
  refine ⟨?nop, ?identify, ?noVersion, ?version, ?time, ?partition, ?undefined⟩
  case nop => exact fun h => toScarab_next (o := nopOp) h rfl nofun rfl
  case identify => exact fun turn checks => scarabTurn_next (o := identifyOp) turn checks rfl rfl nofun rfl
  case noVersion => intro h none; rw [exec_negotiate h, negotiate_refused none]; rfl
  case version => intro h common; rw [exec_negotiate h, negotiate_settles common]; rfl
  case time => exact fun turn checks => scarabTurn_next (o := timeQueryOp r) turn checks rfl rfl nofun rfl
  case partition => exact fun h => toScarab_next (o := partQueryOp r) h rfl nofun rfl
  case undefined =>
    intro turn undefined scp version
    rw [exec_scarab (scarabOp_badOpcodeRequest undefined),
      scarab_refused (o := badOpcodeOp op) turn (precheck_undefined undefined scp version)]
    rfl

/-! ### FAULT_QUERY, FAULT_INJECT, FAULT_CLEAR (O8) -/

section
variable {r : Request} {s t : State}

/-! FAULT_QUERY (R465). -/

theorem faultQuery_summary (scope : pByte r 0 = 0) : faultQuery r t = .done stOk (faultSummary r t) t := by
  simp only [faultQuery, scope]

section
variable {k : Nat} (scope : pByte r 0 ≠ 0)
  (hk : k = (if pByte r 0 = 1 then pLe r 4 4 else lowestIndex ((visible r t).filter (fun x => !x.cleared))))
include scope hk

/-- A query of one record answers with the record it names, as read from where it is kept. -/
theorem faultQuery_found {x : FaultRec} (found : (visible r t).find? (fun y => y.index == k) = some x) :
    faultQuery r t = .done stOk (recordBytes x) (readStore x.index t) := by
  subst hk
  unfold faultQuery
  split
  · next summary => exact absurd summary scope
  · simp only [found]

theorem faultQuery_missing (missing : (visible r t).find? (fun y => y.index == k) = none) :
    faultQuery r t = .done stBadParam [] t := by
  subst hk
  unfold faultQuery
  split
  · next summary => exact absurd summary scope
  · simp only [missing]
end

/-! FAULT_INJECT (R393, R489). -/

theorem faultInject_now (register : injectReg (pLe r 0 4) = true) (now : pLe r 8 8 = 0) : faultInject r t =
    .done (injectWrite (pLe r 0 4) (BitVec.ofNat 32 (pLe r 4 4)) t).1 []
      (injectWrite (pLe r 0 4) (BitVec.ofNat 32 (pLe r 4 4)) t).2 := by
  simp only [faultInject, register, now, Bool.not_true, Bool.false_eq_true, if_false, if_true]

theorem faultInject_armed (register : injectReg (pLe r 0 4) = true) (due : pLe r 8 8 ≠ 0) : faultInject r t =
    .later (.inject (reqPart r) (pLe r 0 4) (pLe r 8 8))
      { t with injects := t.injects ++ [⟨reqPart r, pLe r 0 4, BitVec.ofNat 32 (pLe r 4 4), pLe r 8 8⟩] } := by
  simp only [faultInject, register, if_neg due, Bool.not_true, Bool.false_eq_true, if_false]

theorem faultInject_refused (other : injectReg (pLe r 0 4) = false) : faultInject r t = .done stBadParam [] t :=
  if_pos (by rw [other]; rfl)

theorem faultInjectOp_busy_false_of_now (now : pLe r 8 8 = 0) : (faultInjectOp r).busy t = false := by
  simp only [faultInjectOp, now, bne_self_eq_false, Bool.false_and]

theorem faultInjectOp_busy_false_of_valid (valid : fetInvalid t = false) : (faultInjectOp r).busy t = false := by
  simp only [faultInjectOp, valid, Bool.and_false]

/-- An injection at once is no asynchronous command. -/
theorem faultInjectOp_async_false_of_now (now : pLe r 8 8 = 0) : (faultInjectOp r).async = false := by
  simp only [faultInjectOp, now, bne_self_eq_false]

/-! FAULT_CLEAR (R466). -/

section
variable {x : FaultRec} (found : (visible r t).find? (fun y => y.index == pLe r 0 4) = some x)
include found

theorem faultClear_denied (barred : x.cls = 5 ∨ (x.cls = 4 ∧ reqFn r ≠ 0)) : faultClear r t = .done stDenied [] t := by
  simp only [faultClear, found, if_pos barred]

section
variable (noLock : x.cls ≠ 5) (physical : x.cls = 4 → reqFn r = 0)
include noLock physical

/-- A record that the requester may clear is cleared once its cause is gone, and not before. -/
theorem faultClear_permitted : faultClear r t =
    if causePresent t x then .done stFaulted [] t else .done stOk [] (clearRecord x t) := by
  have permitted : ¬ (x.cls = 5 ∨ (x.cls = 4 ∧ reqFn r ≠ 0)) := by
    rintro (locked | ⟨module, virtual⟩)
    · exact noLock locked
    · exact virtual (physical module)
  simp only [faultClear, found, if_neg permitted]

theorem faultClear_caused (present : causePresent t x = true) : faultClear r t = .done stFaulted [] t :=
  (faultClear_permitted found noLock physical).trans (if_pos present)

theorem faultClear_clears (gone : causePresent t x = false) : faultClear r t = .done stOk [] (clearRecord x t) :=
  (faultClear_permitted found noLock physical).trans (if_neg (by rw [gone]; exact Bool.false_ne_true))
end
end

/-! Each opcode in its turn. -/

theorem exec_faultQuery (turn : ScarabTurn r s)
    (checks : precheck (readIn r s) 0x58 r (short r 8 || decide (2 < pByte r 0) || !pZero r 1 4) = none) :
    exec (.faultQuery r) s = .next (conclude 0x58 r (advance r.src r.seq) (readIn r s) (faultQuery r (readIn r s))) :=
  scarabTurn_next (o := faultQueryOp r) turn checks rfl rfl nofun rfl

theorem exec_faultInject (h : ToScarab 0x59 (short r 16) r s) (free : (faultInjectOp r).busy (readIn r s) = false)
    (room : (faultInjectOp r).async = true → inflight (readIn r s) r.src < 64) :
    exec (.faultInject r) s = .next (conclude 0x59 r (advance r.src r.seq) (readIn r s) (faultInject r (readIn r s))) :=
  toScarab_next (o := faultInjectOp r) h free room rfl

/-- The same of an injection at once. -/
theorem exec_faultInject_now (h : ToScarab 0x59 (short r 16) r s) (now : pLe r 8 8 = 0) :
    exec (.faultInject r) s = .next (conclude 0x59 r (advance r.src r.seq) (readIn r s) (faultInject r (readIn r s))) :=
  exec_faultInject h (faultInjectOp_busy_false_of_now now)
    (fun async => absurd ((faultInjectOp_async_false_of_now now).symm.trans async) Bool.false_ne_true)

theorem exec_faultClear (h : ToScarab 0x5a (short r 4) r s) :
    exec (.faultClear r) s = .next (conclude 0x5a r (advance r.src r.seq) (readIn r s) (faultClear r (readIn r s))) :=
  toScarab_next (o := faultClearOp r) h rfl nofun rfl
end

/-- Settles O8: each opcode's own checks decide its answer, and the command protocol puts the answer into effect. -/
theorem faultOpcodesTakeEffect : Obligations.FaultOpcodesTakeEffect := by
  unfold Obligations.FaultOpcodesTakeEffect
  intro r s
  refine ⟨?summary, ?record, ?now, ?armed, ?noRegister, ?clear⟩
  case summary => intro turn checks scope; rw [exec_faultQuery turn checks, faultQuery_summary scope]; rfl
  case record =>
    intro k turn checks scope hk
    rw [exec_faultQuery turn checks]
    exact ⟨fun x found => by rw [faultQuery_found scope hk found]; rfl,
      fun missing => by rw [faultQuery_missing scope hk missing]; rfl⟩
  case now => intro h register now; rw [exec_faultInject_now h now, faultInject_now register now]; rfl
  case armed =>
    intro h register due valid room
    rw [exec_faultInject h (faultInjectOp_busy_false_of_valid valid) (fun _ => room), faultInject_armed register due]; rfl
  case noRegister => intro h other now; rw [exec_faultInject_now h now, faultInject_refused other]; rfl
  case clear =>
    intro x h found
    rw [exec_faultClear h]
    exact ⟨fun barred => by rw [faultClear_denied found barred]; rfl,
      fun noLock physical present => by rw [faultClear_caused found noLock physical present]; rfl,
      fun noLock physical gone => by rw [faultClear_clears found noLock physical gone]; rfl⟩

/-! ### QUENCH, POWER_DOMAIN, RESET (O9) -/

section
variable {r : Request} {s t : State}

/-! QUENCH (R394, R470). -/

theorem quenchPart_refused (noTenant : reqPart r = 0 ∨ partState t (reqPart r) = 0) :
    quenchPart r t = .done stBadParam [] t := if_pos noTenant

/-- A tenant in QUENCHED or DESTROYING is as quiet as a quench would leave it. -/
theorem quenchPart_quenched (tenant : reqPart r ≠ 0) (quiet : partState t (reqPart r) = 4 ∨ partState t (reqPart r) = 5) :
    quenchPart r t = .done stOk [] t := by
  have present : ¬ (reqPart r = 0 ∨ partState t (reqPart r) = 0) := by omega
  simp only [quenchPart, if_neg present, if_pos quiet]

theorem quenchPart_quenches (tenant : reqPart r ≠ 0) (live : partState t (reqPart r) = 2 ∨ partState t (reqPart r) = 3) :
    quenchPart r t =
      .silent (.quench (reqPart r)) (raiseAs 3 (quenchSlew r t) true (quenchEvent (reqPart r) r) t).2 := by
  have present : ¬ (reqPart r = 0 ∨ partState t (reqPart r) = 0) := by omega
  have awake : ¬ (partState t (reqPart r) = 4 ∨ partState t (reqPart r) = 5) := by omega
  simp only [quenchPart, if_neg present, if_neg awake]

theorem quenchAll_quenched (quiet : moduleQuenched t = true) : quenchAll r t = .done stOk [] t := if_pos quiet

theorem quenchAll_quenches (awake : moduleQuenched t = false) :
    quenchAll r t = .silent (.quench 0) (raiseAs 4 (quenchSlew r t) true (quenchEvent 0 r) t).2 :=
  if_neg (by rw [awake]; exact Bool.false_ne_true)

theorem quenchPartitionOp_busy_false (created : partState t (reqPart r) ≠ 1) : (quenchPartitionOp r).busy t = false :=
  beq_eq_false_iff_ne.mpr created

/-! POWER_DOMAIN on (R413, R414). -/

theorem turnOn_locked (lock : locked t = true) : turnOn r t = .done stFaulted [] t := if_pos lock

section
variable (unlocked : locked t = false)
include unlocked

theorem turnOn_on (on : domState t (domainOf r) = 3) :
    turnOn r t = .decided (.domainOn (domainOf r)) stOk (leBytes 0 4) t := by
  simp only [turnOn, unlocked, on, Bool.false_eq_true, if_false, if_true]

section
variable (notOn : domState t (domainOf r) ≠ 3)
include notOn

theorem turnOn_barred (barred : domState t (domainOf r) = 5 ∨ heldOff t (domainOf r) = true) :
    turnOn r t = .decided (.domainOn (domainOf r)) stFaulted [] t := by
  simp only [turnOn, unlocked, if_neg notOn, if_pos barred, Bool.false_eq_true, if_false]

/-- A domain that may turn on joins the wake already on its way, or asks for one. -/
theorem turnOn_later (notFailed : domState t (domainOf r) ≠ 5) (free : heldOff t (domainOf r) = false) :
    turnOn r t = .later (.domainOn (domainOf r)) (if waking t (domainOf r) then t else
      requestWake ⟨domainOf r, if domainOf r % 9 = 8 then 2 else if domState t (domainOf r) = 0 then 1 else 0, pByte r 4,
        ownerOf t (domainOf r / 9), t.fet⟩ t) := by
  have allowed : ¬ (domState t (domainOf r) = 5 ∨ heldOff t (domainOf r) = true) := by
    rw [free]; exact not_or.mpr ⟨notFailed, Bool.false_ne_true⟩
  simp only [turnOn, unlocked, if_neg notOn, if_neg allowed, Bool.false_eq_true, if_false]
  split <;> rfl
end
end

/-! RESET (R446, R449, R474). -/

theorem warmReinit_starts (unlocked : locked t = false) (cleared : uncleared4 t = false) (input : t.boot.inputLost = false)
    (started : 4 ≤ stepDone t) : warmReinit t = .later .warm (warmStart t) := by
  simp only [warmReinit, unlocked, cleared, input, decide_eq_false (Nat.not_lt.mpr started), Bool.or_self, Bool.false_eq_true,
    if_false]

theorem warmReinit_refused (h : locked t = true ∨ uncleared4 t = true ∨ t.boot.inputLost = true ∨ stepDone t < 4) :
    warmReinit t = .done stFaulted [] t := by
  refine if_pos ?_
  rw [Bool.or_eq_true, Bool.or_eq_true, Bool.or_eq_true, decide_eq_true_eq, or_assoc, or_assoc]
  exact h

theorem resetModule_locked (lock : locked t = true) : resetModule t = .done stFaulted [] t := if_pos lock

theorem resetModule_resets (unlocked : locked t = false) : resetModule t = .doneThen stOk moduleReset t :=
  if_neg (by rw [unlocked]; exact Bool.false_ne_true)

theorem resetPins_locked (lock : locked t = true) : resetPins t = .done stFaulted [] t := if_pos lock

theorem resetPins_safe (unlocked : locked t = false) : resetPins t = .done stOk [] (pinsSafe t) :=
  if_neg (by rw [unlocked]; exact Bool.false_ne_true)

/-! Each opcode in its turn. -/

theorem exec_quenchPartition (h : ToChitin 0x70 (quenchBad 0 r) r s) (created : partState (readIn r s) (reqPart r) ≠ 1) :
    exec (.quenchPartition r) s
      = .next (conclude 0x70 r (advance r.src r.seq) (readIn r s) (quenchPart r (readIn r s))) :=
  toChitin_next (o := quenchPartitionOp r) h (quenchPartitionOp_busy_false created) nofun rfl

theorem exec_quenchModule (h : ToChitin 0x70 (quenchBad 1 r) r s) :
    exec (.quenchModule r) s = .next (conclude 0x70 r (advance r.src r.seq) (readIn r s) (quenchAll r (readIn r s))) :=
  toChitin_next (o := quenchModuleOp r) h rfl nofun rfl

theorem exec_powerDomainOn (h : ToChitin 0x71 (domainBad 1 r) r s) (free : domainBusy r (readIn r s) = false)
    (room : inflight (readIn r s) r.src < 64) :
    exec (.powerDomainOn r) s = .next (conclude 0x71 r (advance r.src r.seq) (readIn r s) (turnOn r (readIn r s))) :=
  toChitin_next (o := powerDomainOnOp r) h free (fun _ => room) rfl

theorem exec_resetWarmReinit (h : ToChitin 0x7f (resetBad 0 r) r s)
    (idle : (readIn r s).flag F.CHT_STATUS_RUNNING = false) (room : inflight (readIn r s) r.src < 64) :
    exec (.resetWarmReinit r) s = .next (conclude 0x7f r (advance r.src r.seq) (readIn r s) (warmReinit (readIn r s))) :=
  toChitin_next (o := resetWarmReinitOp r) h idle (fun _ => room) rfl

theorem exec_resetModule (h : ToChitin 0x7f (resetBad 1 r) r s) :
    exec (.resetModule r) s = .next (conclude 0x7f r (advance r.src r.seq) (readIn r s) (resetModule (readIn r s))) :=
  toChitin_next (o := resetModuleOp r) h rfl nofun rfl

theorem exec_resetPinSafe (h : ToChitin 0x7f (resetBad 2 r) r s) :
    exec (.resetPinSafe r) s = .next (conclude 0x7f r (advance r.src r.seq) (readIn r s) (resetPins (readIn r s))) :=
  toChitin_next (o := resetPinSafeOp r) h rfl nofun rfl
end

/-- Settles O9: each opcode's own checks decide its answer, and the command protocol puts the answer into effect. -/
theorem chitinOpcodesTakeEffect : Obligations.ChitinOpcodesTakeEffect := by
  unfold Obligations.ChitinOpcodesTakeEffect
  intro r s
  refine ⟨?quench, ?quenched, ?noTenant, ?quenchAll, ?allQuenched, ?off, ?on, ?locked, ?moduleOff, ?warm, ?warmRefused, ?reset,
    ?pins⟩
  case quench =>
    intro h tenant live
    rw [exec_quenchPartition h (by omega), quenchPart_quenches tenant live]; rfl
  case quenched =>
    intro h tenant quiet
    rw [exec_quenchPartition h (by omega), quenchPart_quenched tenant quiet]; rfl
  case noTenant => intro h none created; rw [exec_quenchPartition h created, quenchPart_refused none]; rfl
  case quenchAll => intro h awake; rw [exec_quenchModule h, quenchAll_quenches awake]; rfl
  case allQuenched => intro h quiet; rw [exec_quenchModule h, quenchAll_quenched quiet]; rfl
  case off => exact fun h free => toChitin_next (o := powerDomainOffOp r) h free nofun rfl
  case on =>
    intro h free room unlocked
    rw [exec_powerDomainOn h free room]
    refine ⟨fun on => ?_, fun notOn barred => ?_, fun notOn notFailed allowed => ?_⟩
    · rw [turnOn_on unlocked on]; rfl
    · rw [turnOn_barred unlocked notOn barred]; rfl
    · rw [turnOn_later unlocked notOn notFailed allowed]
      exact ⟨fun wakes => by rw [if_pos wakes]; rfl,
        fun asleep => by rw [if_neg (by rw [asleep]; exact Bool.false_ne_true)]; rfl⟩
  case locked =>
    rintro c bad listed rfl h free lock
    simp only [List.mem_cons, List.not_mem_nil, or_false] at listed
    rcases listed with rfl | rfl | rfl
    · obtain ⟨unused, room⟩ := free rfl
      rw [exec_powerDomainOn h unused room, turnOn_locked lock]; rfl
    · rw [exec_resetModule h, resetModule_locked lock]; rfl
    · rw [exec_resetPinSafe h, resetPins_locked lock]; rfl
  case moduleOff => exact fun h idle => toChitin_next (o := powerDomainModuleOffOp r) h idle nofun rfl
  case warm =>
    intro h idle room unlocked cleared input started
    rw [exec_resetWarmReinit h idle room, warmReinit_starts unlocked cleared input started]; rfl
  case warmRefused => intro h idle room refused; rw [exec_resetWarmReinit h idle room, warmReinit_refused refused]; rfl
  case reset => intro h unlocked; rw [exec_resetModule h, resetModule_resets unlocked]; rfl
  case pins => intro h unlocked; rw [exec_resetPinSafe h, resetPins_safe unlocked]; rfl

/-! ### Sequence numbers and FENCE (O11) -/

section
variable {i : Instr} {o : ScpOp} {r : Request} {t : State} {n : Nat}

theorem mustWait_fenced (fence : r.flags &&& 2 ≠ 0) (earlier : unfinished t r.src ≠ 0) : mustWait r t = true := by
  simp only [mustWait, bne_iff_ne.mpr fence, bne_iff_ne.mpr earlier, Bool.and_self, Bool.or_true]

/-- One that waits already holds back every later one. -/
theorem mustWait_behind (held : (queueOf t r.src).held ≠ []) : mustWait r t = true := by
  simp only [mustWait, List.isEmpty_eq_false_iff.mpr held, Bool.not_false, Bool.true_or]

section
variable (fresh : (queueOf t r.src).consumed.contains r.seq = false) (hn : n = (queueNext t r.src - r.seq).toNat)
include fresh hn

theorem serve_waits (turn : n = 0) (waits : mustWait r t = true) : serve i o r t = holdRequest i r t := by
  simp only [serve, fresh, ← hn, turn, waits, Bool.false_eq_true, if_false, if_true]

theorem serve_duplicate (behind : 1 ≤ n) (kept : n ≤ 64) : serve i o r t = replay o.code r t := by
  simp only [serve, fresh, ← hn, if_neg (Nat.ne_of_gt behind), if_pos kept, Bool.false_eq_true, if_false]

theorem serve_forgotten (far : 64 < n) (behind : n < 2 ^ 31) : serve i o r t = answerOnly r o.code stBadParam [] t := by
  have past : ¬ n = 0 := by omega
  simp only [serve, fresh, ← hn, if_neg past, if_neg (Nat.not_le.mpr far), if_pos behind, Bool.false_eq_true, if_false]

/-- A request ahead of its turn waits behind one that waits already; else it is to come again. -/
theorem serve_ahead (ahead : 2 ^ 31 ≤ n) : serve i o r t = if !(queueOf t r.src).held.isEmpty then holdRequest i r t
    else answerOnly r o.code stRetry (leBytes (queueNext t r.src).toNat 4) t := by
  have notTurn : ¬ n = 0 := by omega
  have notKept : ¬ n ≤ 64 := by omega
  simp only [serve, fresh, ← hn, if_neg notTurn, if_neg notKept, if_neg (Nat.not_lt.mpr ahead), Bool.false_eq_true, if_false]

theorem serve_early (ahead : 2 ^ 31 ≤ n) (unheld : (queueOf t r.src).held = []) :
    serve i o r t = answerOnly r o.code stRetry (leBytes (queueNext t r.src).toNat 4) t :=
  (serve_ahead fresh hn ahead).trans (if_neg (by rw [unheld]; exact Bool.false_ne_true))

theorem serve_ahead_waits (ahead : 2 ^ 31 ≤ n) (held : (queueOf t r.src).held ≠ []) : serve i o r t = holdRequest i r t :=
  (serve_ahead fresh hn ahead).trans (if_pos (by rw [List.isEmpty_eq_false_iff.mpr held]; rfl))
end

/-- An admitted request is served as read. -/
theorem exec_admitted {s : State} {op : Nat} {bad : Bool} (row : scarabRow s i = some (op, bad, r)) (h : Admitted r s) :
    ∃ o : ScpOp, o.code = op ∧ exec i s = .next (serve i o r (readIn r s)) := by
  obtain ⟨o, entry, code, -⟩ := scarabRow_eq_some_iff.mp row
  exact ⟨o, code, (exec_scarab entry).trans (congrArg Host.Outcome.next h.passes)⟩
end

/-- Settles O11: how far a request lies behind its turn decides how it is served. -/
theorem sequenceAndFenceHold : Obligations.SequenceAndFenceHold := by
  unfold Obligations.SequenceAndFenceHold
  intro i s op bad r row admitted fresh n hn
  obtain ⟨o, rfl, served⟩ := exec_admitted row admitted
  rw [served]
  refine ⟨fun behind kept => ?duplicate, fun far behind => ?forgotten, fun ahead unheld => ?early,
    fun turn fence earlier => ?fenced, fun place held => ?held⟩
  case duplicate => rw [serve_duplicate fresh hn behind kept]
  case forgotten => rw [serve_forgotten fresh hn far behind]
  case early => rw [serve_early fresh hn ahead unheld]
  case fenced => rw [serve_waits fresh hn turn (mustWait_fenced fence earlier)]
  case held =>
    rcases place with turn | ahead
    · rw [serve_waits fresh hn turn (mustWait_behind held)]
    · rw [serve_ahead_waits fresh hn ahead held]

/-! ### The packets of a reply (O13) -/

theorem carrierLimit_pos (src : Source) : 0 < carrierLimit src := by cases src <;> exact Nat.succ_pos _

section
variable {n k : Nat} {l : List Byte}

/-- The pieces of a list, in order, are the list (R376). -/
theorem pieces_flatten : (pieces n l k).flatten = l := by
  induction k generalizing l with
  | zero => exact List.flatten_singleton
  | succ k ih =>
    unfold pieces
    split
    · exact List.flatten_singleton
    · rw [List.flatten_cons, ih, List.take_append_drop]

theorem pieces_ne_nil : pieces n l k ≠ [] := by
  cases k with
  | zero => exact List.cons_ne_nil _ _
  | succ k =>
    unfold pieces
    split <;> exact List.cons_ne_nil _ _

/-- No piece is longer than `n`, where the list can be cut often enough. -/
theorem pieces_length_le (pos : 0 < n) (fuel : l.length ≤ k) {p : List Byte} (mem : p ∈ pieces n l k) : p.length ≤ n := by
  induction k generalizing l with
  | zero =>
    obtain rfl := List.mem_singleton.mp mem
    omega
  | succ k ih =>
    unfold pieces at mem
    split at mem
    · next fits =>
      obtain rfl := List.mem_singleton.mp mem
      exact fits
    · rcases List.mem_cons.mp mem with rfl | later
      · exact List.length_take_le _ _
      · exact ih (by rw [List.length_drop]; omega) later
end

section
variable {src : Source} {op : Nat} {r : Reply} {t : State}

/-- The packets of a reply go out one after another, MORE in each that another follows. -/
theorem sendPackets_eq_foldl {l : List (List Byte)} {k m : Nat} (total : m = k + l.length) : sendPackets src op r l t =
    (l.zipIdx k).foldl (fun u x => replyPacket src op { r with result := x.1 } (x.2 + 1 != m) u) t := by
  induction l generalizing k t with
  | nil => rfl
  | cons p l ih =>
    rw [List.zipIdx_cons, List.foldl_cons]
    cases l with
    | nil =>
      have last : (k + 1 != m) = false := by rw [total]; exact bne_self_eq_false _
      rw [last]
      rfl
    | cons q l =>
      have more : (k + 1 != m) = true := by
        rw [bne_iff_ne, total, List.length_cons, List.length_cons]
        omega
      rw [more, ← ih (by rw [total, List.length_cons, List.length_cons]; omega)]
      rfl

theorem answer_eq_foldl {r : Request} {st : Nat} {res : List Byte} : answer r op st res t =
    (pieces (carrierLimit r.src) res res.length).zipIdx.foldl (fun u x => replyPacket r.src op
      { seq := r.seq, token := r.token, status := st, rfet := t.fet, result := x.1, part := reqPart r }
      (x.2 + 1 != (pieces (carrierLimit r.src) res res.length).length) u)
      (storeReply r.src { seq := r.seq, token := r.token, status := st, rfet := t.fet, result := res, part := reqPart r } t) :=
  sendPackets_eq_foldl (Nat.zero_add _).symm

theorem foldl_emit_out {α : Type} (g : α → Output) (l : List α) :
    (l.foldl (fun u x => u.emit (g x)) t).out = t.out ++ l.map g := by
  induction l generalizing t with
  | nil => exact (List.append_nil _).symm
  | cons a l ih => rw [List.foldl_cons, ih, List.map_cons, State.emit, List.append_assoc, List.singleton_append]
end

/-- Settles O13: a reply is cut into pieces, and each piece is a packet on the carrier of its request. -/
theorem repliesCarrySequenceAndToken : Obligations.RepliesCarrySequenceAndToken := by
  unfold Obligations.RepliesCarrySequenceAndToken
  intro r op st res t
  refine ⟨pieces (carrierLimit r.src) res res.length, pieces_flatten, pieces_ne_nil,
    fun p => pieces_length_le (carrierLimit_pos r.src) le_rfl, fun ip port mgmt => ?datagrams, fun c n u snl hu => ?frames⟩
  case datagrams =>
    rw [answer_eq_foldl, mgmt]
    exact foldl_emit_out _ _
  case frames =>
    rw [answer_eq_foldl, hu, snl]
    rfl

/-! ### Completions, failover, queue expiry (O14) -/

section
variable {src : Source} {seq : BitVec 32} {s : State}

/-- The completion of a command whose outcome is decided (R379). -/
theorem complete_decided {j : Job} {st : Nat} {res : List Byte} {fet : Fet}
    (found : s.jobs.find? (fun j => queueKey j.src == queueKey src && j.seq == seq) = some j) (fin : j.fin = some (st, res, fet))
    (free : holdsBack s j.work = false) : complete src seq s = postCompletion j st res fet (settleWork st j.work s) := by
  simp only [complete, found, fin, free, Bool.false_eq_true, if_false]

theorem complete_unknown (unknown : s.jobs.find? (fun j => queueKey j.src == queueKey src && j.seq == seq) = none) :
    complete src seq s = s := by
  simp only [complete, unknown]

section
variable {q : QueueData} (found : s.queues.find? (fun q => q.src == src) = some q)
include found

theorem queueExpiry_expired (silent : q.lastFet + 60000000000 ≤ s.fet) :
    queueExpiry src s = { s with queues := s.queues.filter (fun q => q.src != src) } := by
  simp only [queueExpiry, found, if_neg (Nat.not_lt.mpr silent)]

theorem queueExpiry_kept (heard : s.fet < q.lastFet + 60000000000) : queueExpiry src s = s := by
  simp only [queueExpiry, found, if_pos heard]
end
end

section
variable {f : Nat} {s : State}

theorem scarabFailover_out (out : inService s f = false) : scarabFailover f s = s := if_pos (by rw [out]; rfl)

/-- A field in service that fails: its Scarab's commands end, its loss is recorded, it is re-placed (R366, R352). -/
theorem scarabFailover_inService {rec : Nat} {t u : State} (serves : inService s f = true) (ht : t = handOver f s)
    (hu : raiseAs 3 (rampLimit t) true
      { code := 0x0606, part := ownerOf t f, collector := f, unitType := 20, detail := [1, 0] ++ leNats f 2 } t = (rec, u)) :
    scarabFailover f s = rePlace f rec u := by
  subst ht
  simp only [scarabFailover, serves, hu, Bool.not_true, Bool.false_eq_true, if_false]

/-- Another field in service takes the role of the system Scarab over: it goes on running (R366). -/
theorem handOver_succeeded {g : Nat} (system : systemField s = some f) (other : g ∈ serving s) (ne : g ≠ f) :
    handOver f s = endJobs (fun w => workPart s w == some 0
      || (ownerOf s f != 0 && leadField s (ownerOf s f) == some f && workPart s w == some (ownerOf s f))) stFaulted [] s := by
  have successor : (serving s).all (· == f) = false :=
    List.all_eq_false.mpr ⟨g, other, fun same => ne (beq_iff_eq.mp same)⟩
  unfold handOver
  simp only [system, beq_self_eq_true, Bool.true_and]
  exact if_neg (ne_true_of_eq_false successor)
end

/-- Settles O14: the equations above, event by event. -/
theorem protocolEventsTakeEffect : Obligations.ProtocolEventsTakeEffect := by
  unfold Obligations.ProtocolEventsTakeEffect
  refine ⟨?decided, ?unknown, ?out, ?fails, ?succeeded, ?expiry⟩
  case decided =>
    exact fun src seq j st res fet s found fin free =>
      congrArg (fun t => Host.Outcome.next (release src t)) (complete_decided found fin free)
  case unknown =>
    exact fun src seq s unknown => congrArg (fun t => Host.Outcome.next (release src t)) (complete_unknown unknown)
  case out => exact fun f s out => congrArg Host.Outcome.next (scarabFailover_out out)
  case fails => exact fun f rec s t u serves ht hu => congrArg Host.Outcome.next (scarabFailover_inService serves ht hu)
  case succeeded => exact fun f g s system other ne => handOver_succeeded system other ne
  case expiry =>
    exact fun ip port q s found =>
      ⟨fun silent => congrArg Host.Outcome.next (queueExpiry_expired found silent),
        fun heard => congrArg Host.Outcome.next (queueExpiry_kept found heard)⟩

/-! ### The queue registers (O15) -/

section
variable {via : Path} {e q reg r off : Nat} {w : Word} {ok : Bool} {s t : State}

theorem queueInUse_disabled (win : winOf reg = (.queue e q, r)) (disabled : s.flag (F.CHT_Q_CFG_EN e q) = false) :
    queueInUse s reg w = false := by
  simp only [queueInUse, win, disabled, Bool.false_and]

/-- A register of a queue page but its configuration, and that of a queue not enabled, loads what is written to it (R399). -/
theorem stateLoad_queue (win : winOf reg = (.queue e q, r)) (loads : r ≠ 0x10 ∨ s.flag (F.CHT_Q_CFG_EN e q) = false) :
    stateLoad s reg w = w := by
  unfold stateLoad
  rw [win]
  split
  · next same => cases same
  · next same =>
    cases same
    rcases loads with other | disabled
    · exact absurd rfl other
    · exact if_neg (by rw [queueInUse_disabled win disabled]; exact Bool.false_ne_true)
  · rfl

/-- A write to a queue page that lands: the register loads it, then sets off the effect of its row. -/
theorem pageWrite_lands (page : onEndpoint via e = true) (h : Lands via (0x8000 + 0x1000 * q + r) reg w s)
    (win : winOf reg = (.queue e q, r)) (loads : r ≠ 0x10 ∨ s.flag (F.CHT_Q_CFG_EN e q) = false) :
    pageWrite via e q r w ok s = queueEffect e q r (s.flag (F.CHT_Q_CFG_EN e q)) ok (landed reg w s) := by
  have plain : writeHere via reg w ok s = writePlain via reg w ok s := writeHere_plain h.accepted win nofun nofun nofun
  have was : queueWas s reg = s.flag (F.CHT_Q_CFG_EN e q) := by unfold queueWas; rw [win]
  rw [pageWrite, if_pos page, busWrite_lands h plain, stateLoad_queue win loads, was, writeEffect, win]
  rfl

/-! What the rows of a queue page set off. -/

theorem queueEffect_sqTail {was : Bool} : queueEffect e q 0x14 was ok t = if ok then t else ringFailed e q t := rfl

theorem queueEffect_cqHead {was : Bool} :
    queueEffect e q 0x1c was ok t = if ok then flushWaiting e q t else ringFailed e q t := rfl

theorem queueEffect_enables (enabled : t.flag (F.CHT_Q_CFG_EN e q) = true) :
    queueEffect e q 0x10 false ok t = enableQueue e q t := if_pos (by rw [enabled]; rfl)
end

/-- Settles O15: each write arrives at its register, and the row it lies in has its effect. -/
theorem queueRegistersTakeEffect : Obligations.QueueRegistersTakeEffect := by
  unfold Obligations.QueueRegistersTakeEffect
  intro via ep q v ok s page
  refine ⟨fun h => ?tail, fun h => ?head, fun h disabled enabled => ?enable⟩
  case tail =>
    have win : winOf (R.CHT_SQ_TAIL ep q) = (.queue ep q, 0x14) := winOf_queue ep.isLt q.isLt (by decide)
    exact congrArg Host.Outcome.next ((pageWrite_lands page h win (.inl (by decide))).trans queueEffect_sqTail)
  case head =>
    have win : winOf (R.CHT_CQ_HEAD ep q) = (.queue ep q, 0x1c) := winOf_queue ep.isLt q.isLt (by decide)
    exact congrArg Host.Outcome.next ((pageWrite_lands page h win (.inl (by decide))).trans queueEffect_cqHead)
  case enable =>
    have win : winOf (R.CHT_Q_CFG ep q) = (.queue ep q, 0x10) := winOf_queue ep.isLt q.isLt (by decide)
    have write := pageWrite_lands (ok := true) page h win (.inr disabled)
    rw [disabled] at write
    exact congrArg Host.Outcome.next (write.trans (queueEffect_enables enabled))

end Sys2Proof.Machine

/-!
PROOFS. Statements of 07_weight_streaming and 18_address_map and of the module as a whole: canonical tables (O56), the queue of
commands (O57).
-/
namespace Sys2Proof.Machine

/-! ### Steps (O56, O57) -/

/-- A step answers a next state: the command at the front leaves the queue and no other, nothing emitted is taken back, and
canonical tables stay canonical. -/
theorem step_completes (s : State) : ∃ t, step s = .next t ∧ Keeps { s with pending := s.pending.tail } t := by
  cases waiting : s.pending with
  | nil =>
    refine ⟨tick s, by simp only [step, waiting], ?_⟩
    have same : ({ s with pending := [] } : State) = s := by rw [← waiting]
    rw [List.tail_nil, same]
    exact tick_keeps (.refl s)
  | cons c rest =>
    obtain ⟨t, ran, kept⟩ := everyCommandCompletes c { s with pending := rest }
    exact ⟨t, by simp only [step, waiting, ran], kept⟩

/-- The queue of waiting commands is no table. -/
theorem Canon.with_pending {s : State} (h : Canon s) (l : List Instr) : Canon { s with pending := l } :=
  ⟨h.regs, h.rings, h.parts, h.cicada, h.fields, h.vaults, h.ports, h.cells, h.nis, h.erus⟩

/-- Settles O56: whatever the step is, it keeps what every command and every tick keeps. -/
theorem stepKeepsTablesCanonical : Obligations.StepKeepsTablesCanonical := by
  unfold Obligations.StepKeepsTablesCanonical
  intro s t canon ran
  obtain ⟨u, next, kept⟩ := step_completes s
  obtain rfl : u = t := Host.Outcome.next.inj (next.symm.trans ran)
  exact kept.canon (canon.with_pending _)

/-- Settles O57, by induction on the number of waiting commands: each step takes one off. -/
theorem queueOfCommandsDrains : Obligations.QueueOfCommandsDrains := by
  unfold Obligations.QueueOfCommandsDrains
  intro s
  generalize length : s.pending.length = n
  induction n generalizing s with
  | zero => exact ⟨s, rfl, List.length_eq_zero_iff.mp length, List.prefix_refl _, Nat.le_refl _, id⟩
  | succ n ih =>
    obtain ⟨u, next, kept⟩ := step_completes s
    have shorter : u.pending.length = n := by rw [kept.pending, List.length_tail, length, Nat.add_sub_cancel]
    obtain ⟨t, ran, empty, out, free, canon⟩ := ih u shorter
    exact ⟨t, by rw [run, next]; exact ran, empty, kept.out.trans out, Nat.le_trans kept.free free,
      fun h => canon (kept.canon (h.with_pending _))⟩

end Sys2Proof.Machine

/-!
PROOFS. Statements of 13_power_and_thermal on domains: a domain at its current limit (O53), admission, soft starts and voltage
samples (O41).
-/
namespace Sys2Proof.Machine

/-! ### The current limit (O53) -/

/-- Settles O53: the command asks for ON before anything else. -/
theorem currentLimitTurnsDomainOff : Obligations.CurrentLimitTurnsDomainOff := by
  unfold Obligations.CurrentLimitTurnsDomainOff
  intro d s
  refine ⟨?other, ?on⟩
  case other =>
    intro notOn
    exact congrArg Host.Outcome.next (if_pos notOn)
  case on =>
    rintro t u on rfl rfl
    exact congrArg Host.Outcome.next (if_neg (not_not_intro on))

/-! ### Admission (R412, R413) -/

/-- What every admission does before the domain wakes: the tokens are taken, the request leaves the queue and its partition was
the last served. -/
def takeTokens (w : WakeReq) (s : State) : State :=
  let t := s.set F.PWR_TOKEN_LEVEL (s.get F.PWR_TOKEN_LEVEL - tokenCost w.kind)
  { t with power := { t.power with
    wakeQ := t.power.wakeQ.erase w, lastServed := AMap.put (fun _ => 7) t.power.lastServed w.prio w.part } }

/-- What every admission records: the requests that still wait, and how long this one waited. -/
def recordDeferral (w : WakeReq) (s : State) (u : State) : State :=
  ((u.set F.PWR_TOKEN_QUEUED u.power.wakeQ.length).set F.PWR_TOKEN_DEFER_LAST_US (min 65535 ((s.fet - w.reqAt + 999) / 1000))).high
    F.PWR_TOKEN_DEFER_MAX_US ((s.fet - w.reqAt + 999) / 1000)

/-- What an admitted request starts: a wake of a cluster, a soft start, or the power of a stack. -/
def startAdmitted (w : WakeReq) (defer : Nat) (v : State) : State :=
  match w.kind with
  | 0 => clusterWake w.dom (deferOf v w.dom + defer) (setDefer w.dom 0 v)
  | 1 | 2 =>
    let x := setDefer w.dom defer v
    softStart w.dom (({ x with power := { x.power with
      prios := AMap.put (fun _ => 3) x.power.prios w.dom w.prio } } : State).set (F.PWR_DOM_STATUS_RETRIES w.dom) 0)
  | _ => { v with power := { v.power with poweredStacks := setAdd w.dom v.power.poweredStacks } }

section
variable {s : State} {w : WakeReq}

theorem tokenAdmission_none (empty : wakeHead s = none) : tokenAdmission s = s := by
  simp only [tokenAdmission, empty]

theorem tokenAdmission_short (head : wakeHead s = some w) (short : s.get F.PWR_TOKEN_LEVEL < tokenCost w.kind) :
    tokenAdmission s = s := by
  simp only [tokenAdmission, head]
  exact if_pos short

theorem tokenAdmission_admits (head : wakeHead s = some w) (held : tokenCost w.kind ≤ s.get F.PWR_TOKEN_LEVEL) :
    tokenAdmission s = startAdmitted w ((s.fet - w.reqAt + 999) / 1000) (recordDeferral w s (takeTokens w s)) := by
  simp only [tokenAdmission, head]
  exact if_neg (Nat.not_lt.mpr held)
end

section
variable {w : WakeReq} {defer : Nat} {v : State}

theorem startAdmitted_wake (kind : w.kind = 0) :
    startAdmitted w defer v = clusterWake w.dom (deferOf v w.dom + defer) (setDefer w.dom 0 v) := by
  simp only [startAdmitted, kind]

theorem startAdmitted_soft {x : State} (kind : w.kind = 1 ∨ w.kind = 2) (hx : x = setDefer w.dom defer v) :
    startAdmitted w defer v = softStart w.dom (({ x with power := { x.power with
      prios := AMap.put (fun _ => 3) x.power.prios w.dom w.prio } } : State).set (F.PWR_DOM_STATUS_RETRIES w.dom) 0) := by
  subst hx
  obtain one | two := kind
  · simp only [startAdmitted, one]
  · simp only [startAdmitted, two]

theorem startAdmitted_stack (kind : 3 ≤ w.kind) :
    startAdmitted w defer v = { v with power := { v.power with poweredStacks := setAdd w.dom v.power.poweredStacks } } := by
  obtain ⟨k, hk⟩ : ∃ k, w.kind = k + 3 := ⟨w.kind - 3, by omega⟩
  simp only [startAdmitted, hk]
end

/-! ### Soft starts (R409) -/

section
variable {s : State} {d : Nat}

/-- An uncore whose soft start succeeded is ON, and its field passable. -/
theorem softStarted_uncore {t u v w : State} (uncore : d % 9 = 8) (ht : t = s.set (F.PWR_DOM_STATUS_STATE d) 3)
    (hu : u = if 5 ≤ stepDone t then measureBranch (d / 9) t else t)
    (hv : v = if u.flag F.CHT_STATUS_RUNNING = true ∧ stepDone u = 3 then
      u.forEach ((List.range 8).filter (fun k => !clusterOut u (d / 9) k))
        (fun k t => requestWake ⟨domOf (d / 9) k, 1, 3, ownerOf t (d / 9), t.fet⟩ t) else u)
    (hw : w = if (v.fieldD (d / 9)).dirty = true then zeroField (d / 9) v else v) :
    softStarted d s = makePassable (d / 9) (setDefer d 0 (endDomainOn d stOk (deferOf w d) w)) := by
  have running : (u.flag F.CHT_STATUS_RUNNING = true ∧ stepDone u = 3) =
      ((u.flag F.CHT_STATUS_RUNNING && stepDone u == 3) = true) := by
    rw [Bool.and_eq_true, beq_iff_eq]
  simp only [running] at hv
  subst hw hv hu ht
  exact if_pos uncore

/-- A cluster whose soft start succeeded is GATED, and asks to be woken where a POWER_DOMAIN waits for it. -/
theorem softStarted_cluster {t : State} (cluster : d % 9 ≠ 8) (ht : t = s.set (F.PWR_DOM_STATUS_STATE d) 2) :
    softStarted d s = if hasJob t (fun w => match w with | .domainOn e => e == d | _ => false) then
      requestWake ⟨d, 0, AMap.get (fun _ => 3) t.power.prios d, ownerOf t (d / 9), t.fet⟩ t else setDefer d 0 t := by
  subst ht
  exact if_neg cluster

theorem softStartCheck_other {ok : Bool} (notSoft : domState s d ≠ 1) : softStartCheck d ok s = s := if_pos notSoft

variable (soft : domState s d = 1)
include soft

theorem softStartCheck_ok : softStartCheck d true s = softStarted d s :=
  (if_neg (not_not_intro soft)).trans (if_pos rfl)

theorem softStartCheck_again (few : s.get (F.PWR_DOM_STATUS_RETRIES d) < 3) :
    softStartCheck d false s = enter ⟨d, 0, 0, s.fet⟩ (holdAt d 0 (s.set (F.PWR_DOM_STATUS_STATE d) 0)) :=
  (if_neg (not_not_intro soft)).trans ((if_neg Bool.false_ne_true).trans (if_pos few))

/-- The third retry was the last: the domain is FAILED, and its field lost. -/
theorem softStartCheck_fails {t u : State} {rec : Nat} (many : 3 ≤ s.get (F.PWR_DOM_STATUS_RETRIES d))
    (ht : t = setDefer d 0 (endDomainOn d stFaulted 0
      ((holdAt d 0 (s.set (F.PWR_DOM_STATUS_STATE d) 5)).set F.PWR_ALARM_SOFT_FAIL 1)))
    (raised : raiseAs 3 (rampLimit t) true { code := 0x0502, part := ownerOf t (d / 9), collector := d / 9, unitType := 16
                                             inst := d % 9 } t = (rec, u)) :
    softStartCheck d false s = loseField (d / 9) rec u := by
  refine (if_neg (not_not_intro soft)).trans ((if_neg Bool.false_ne_true).trans ((if_neg (Nat.not_lt.mpr many)).trans ?_))
  subst ht
  dsimp only
  rw [raised]
end

/-! ### Voltage samples (R406, R407) -/

/-- The record of the lowest sample after a sample of a domain that is ON. -/
def keepLowest (d v : Nat) (t : State) : State :=
  if t.flag (F.PWR_DOM_VMIN_VALID d) = false ∨ v < t.get (F.PWR_DOM_VMIN_VMIN d) then
    wrPair ((t.set (F.PWR_DOM_VMIN_VALID d) 1).set (F.PWR_DOM_VMIN_VMIN d) v) (R.PWR_DOM_VMIN_FET_LO d) (R.PWR_DOM_VMIN_FET_HI d)
      ((t.set (F.PWR_DOM_VMIN_VALID d) 1).set (F.PWR_DOM_VMIN_VMIN d) v).fet
  else t

/-- What a droop does: its alarm, and the fault. -/
def droop (d : Nat) (inj : Bool) (u : State) : State :=
  let w := u.set F.PWR_ALARM_DROOP 1
  raiseFault { code := 0x0501, part := ownerOf w (d / 9), collector := d / 9, unitType := 16, inst := d % 9, access := 7
               injected := inj } w

section
variable {s t : State} {d v x : Nat} (hv : v = if (takeDroopInject d s).1 then x - 24 else x)
  (ht : t = (takeDroopInject d s).2.set (F.PWR_DOM_STATUS_VNOW d) v)
include hv ht

theorem voltageSample_off (off : domState t d ≠ 3) : voltageSample d x s = t := by
  subst ht hv
  exact if_pos off

theorem voltageSample_on (on : domState t d = 3) : voltageSample d x s =
    if v + 20 < (keepLowest d v t).get (F.PWR_DOM_CFG_VSET d) then droop d (takeDroopInject d s).1 (keepLowest d v t)
    else keepLowest d v t := by
  have lowest : (t.flag (F.PWR_DOM_VMIN_VALID d) = false ∨ v < t.get (F.PWR_DOM_VMIN_VMIN d)) =
      ((!t.flag (F.PWR_DOM_VMIN_VALID d) || decide (v < t.get (F.PWR_DOM_VMIN_VMIN d))) = true) := by
    rw [Bool.or_eq_true, Bool.not_eq_true', decide_eq_true_eq]
  simp only [keepLowest, lowest]
  subst ht hv
  exact if_neg (not_not_intro on)
end

/-- Settles O41: the equations above, one for each way that an admission, a soft start or a sample can go. -/
theorem domainsWakeAndTrip : Obligations.DomainsWakeAndTrip := by
  unfold Obligations.DomainsWakeAndTrip
  intro s
  refine ⟨?none, ?short, ?admitted, ?notSoft, ?soft, ?retry, ?noRetry, ?sample⟩
  case none => exact fun empty => congrArg Host.Outcome.next (tokenAdmission_none empty)
  case short => exact fun w head short => congrArg Host.Outcome.next (tokenAdmission_short head short)
  case admitted =>
    rintro w t u v head held rfl rfl rfl
    have admits := tokenAdmission_admits head held
    refine ⟨fun kind => ?_, fun x kind hx => ?_, fun kind => ?_⟩
    · exact congrArg Host.Outcome.next (admits.trans (startAdmitted_wake kind))
    · exact congrArg Host.Outcome.next (admits.trans (startAdmitted_soft kind hx))
    · exact congrArg Host.Outcome.next (admits.trans (startAdmitted_stack kind))
  case notSoft => exact fun d ok other => congrArg Host.Outcome.next (softStartCheck_other other)
  case soft =>
    intro d soft
    refine ⟨?uncore, ?cluster, ?again, ?fails⟩
    case uncore =>
      intro t u v w uncore ht hu hv hw
      exact congrArg Host.Outcome.next ((softStartCheck_ok soft).trans (softStarted_uncore uncore ht hu hv hw))
    case cluster =>
      intro t cluster ht
      exact congrArg Host.Outcome.next ((softStartCheck_ok soft).trans (softStarted_cluster cluster ht))
    case again =>
      rintro t few rfl
      exact congrArg Host.Outcome.next (softStartCheck_again soft few)
    case fails =>
      intro t rec u many ht raised
      exact congrArg Host.Outcome.next (softStartCheck_fails soft many ht raised)
  case retry => exact fun d due => congrArg Host.Outcome.next (if_pos due)
  case noRetry => exact fun d early => congrArg Host.Outcome.next (if_neg (by rw [early]; exact Bool.false_ne_true))
  case sample =>
    intro d x v t u hv ht
    refine ⟨fun off => congrArg Host.Outcome.next (voltageSample_off hv ht off), ?_⟩
    rintro on hu
    have sampled := voltageSample_on hv ht on
    rw [show keepLowest d v t = u from hu.symm] at sampled
    refine ⟨fun steady => ?_, fun drooped => ⟨_, rfl, ?_⟩⟩
    · exact congrArg Host.Outcome.next (sampled.trans (if_neg (Nat.not_lt.mpr steady)))
    · exact congrArg Host.Outcome.next (sampled.trans (if_pos drooped))

end Sys2Proof.Machine

/-!
PROOFS. Statements of 13_power_and_thermal on the inputs, the reserve and the cooling (O42).
-/
namespace Sys2Proof.Machine

/-! ### The busbar (R400) -/

section
variable {s : State}

theorem liftInput_held (held : ∀ e ∈ s.power.bandLeft, s.fet < e.2 + 10000000) : liftInput s = s := by
  have all : s.power.bandLeft.filter (fun e => decide (s.fet < e.2 + 10000000)) = s.power.bandLeft :=
    List.filter_eq_self.mpr fun e he => decide_eq_true (held e he)
  exact if_pos (beq_iff_eq.mpr all)

/-- The last condition left 10 ms ago, in full operation: the derating ends and MAIN_OK comes back. -/
theorem liftInput_last {e : Nat × Fet} {t : State} (last : s.power.bandLeft = [e]) (past : e.2 + 10000000 ≤ s.fet)
    (full : s.power.band = 0) (ht : t = { s with power := { s.power with bandLeft := [], uvLimit := 65535 } }) :
    liftInput s = (updateCeiling (t.set F.PWR_STATUS_UV_DERATE 0)).set F.PWR_STATUS_MAIN_OK 1 := by
  have none_left : s.power.bandLeft.filter (fun e => decide (s.fet < e.2 + 10000000)) = [] := by
    rw [last]
    exact List.filter_cons_of_neg (by simpa using past)
  have lifted : ([] == s.power.bandLeft) = false := by rw [last]; rfl
  have derates : bandHolds ({ s with power := { s.power with bandLeft := [] } } : State) 2 = false := by
    simp only [bandHolds, full, List.any_nil, Bool.or_false]; decide
  simp only [liftInput, none_left, lifted, derates, Bool.false_eq_true, if_false]
  subst ht
  exact if_pos ⟨full, trivial⟩
end

section
variable {v : Nat}

theorem vinBand_full (low : 4800 ≤ v) (high : v ≤ 6000) : vinBand v = 0 := by
  simp only [vinBand, show ¬ v < 4200 by omega, show ¬ v < 4400 by omega, show ¬ v < 4800 by omega, high, if_true, if_false]

theorem vinBand_high (low : 6000 < v) (high : v ≤ 6100) : vinBand v = 1 := by
  simp only [vinBand, show ¬ v < 4200 by omega, show ¬ v < 4400 by omega, show ¬ v < 4800 by omega,
    show ¬ v ≤ 6000 by omega, high, if_true, if_false]

theorem vinBand_derate (low : 4400 ≤ v) (high : v < 4800) : vinBand v = 2 := by
  simp only [vinBand, show ¬ v < 4200 by omega, show ¬ v < 4400 by omega, high, if_true, if_false]

theorem vinBand_low (low : 4200 ≤ v) (high : v < 4400) : vinBand v = 3 := by
  simp only [vinBand, show ¬ v < 4200 by omega, high, if_true, if_false]

theorem vinBand_lost (high : v < 4200) : vinBand v = 4 := if_pos high

theorem vinBand_quench (low : 6100 < v) (high : v ≤ 6400) : vinBand v = 5 := by
  simp only [vinBand, show ¬ v < 4200 by omega, show ¬ v < 4400 by omega, show ¬ v < 4800 by omega,
    show ¬ v ≤ 6000 by omega, show ¬ v ≤ 6100 by omega, high, if_true, if_false]

theorem vinBand_trip (low : 6400 < v) : vinBand v = 6 := by
  simp only [vinBand, show ¬ v < 4200 by omega, show ¬ v < 4400 by omega, show ¬ v < 4800 by omega,
    show ¬ v ≤ 6000 by omega, show ¬ v ≤ 6100 by omega, show ¬ v ≤ 6400 by omega, if_false]
end

section
variable {v : Nat} {s t : State} (ht : t = enterBand v (liftInput s))
include ht

theorem mainInput_full (band : vinBand v = 0) :
    mainInput v s = if t.power.bandLeft.isEmpty then t.set F.PWR_STATUS_MAIN_OK 1 else t := by
  simp only [mainInput, band, ht]

theorem mainInput_high (band : vinBand v = 1) : mainInput v s = noteAt 5 0 108 18 0 (t.set F.PWR_STATUS_MAIN_OK 0) := by
  simp only [mainInput, band, ht]

theorem mainInput_derate {u : State} (band : vinBand v = 2) (hu : u = noteAt 5 0 108 18 0
      (((t.set F.PWR_STATUS_MAIN_OK 0).set F.PWR_STATUS_UV_DERATE 1).set F.PWR_ALARM_UV_DERATE 1)) :
    mainInput v s = updateCeiling { u with power := { u.power with uvLimit := 365 * v / 1000 } } := by
  simp only [mainInput, band, hu, ht]

theorem mainInput_low (band : vinBand v = 3) :
    mainInput v s = raiseFault { code := 0x0506, unitType := 18, access := 7 } (t.set F.PWR_STATUS_MAIN_OK 0) := by
  simp only [mainInput, band, ht]

theorem mainInput_quench (band : vinBand v = 5) : mainInput v s = raiseFault { code := 0x0507, unitType := 18, access := 7 }
    ((t.set F.PWR_STATUS_MAIN_OK 0).set F.PWR_ALARM_OV_QUENCH 1) := by
  simp only [mainInput, band, ht]

theorem mainInput_trip (band : vinBand v = 6) :
    mainInput v s = raiseFault { code := 0x0508, unitType := 18, access := 7 } (t.set F.PWR_STATUS_MAIN_OK 0) := by
  simp only [mainInput, band, ht]

theorem mainInput_lost (band : vinBand v = 4) : mainInput v s = t.set F.PWR_STATUS_MAIN_OK 0 := by
  simp only [mainInput, band, ht]
end

/-! ### Converters (R402) -/

section
variable {s : State} {c : Nat}

theorem converterFault_down (down : converterOk s c = false) : converterFault c s = s :=
  if_pos (by rw [down, Bool.not_false])

theorem converterFault_healthy {n : Nat} {t u v : State} (healthy : converterOk s c = true)
    (hn : n = (dropConverter c s).get F.PWR_CONV1_N_OK - 1)
    (ht : t = ((dropConverter c s).set F.PWR_CONV1_N_OK n).set F.PWR_ALARM_CONV_FAIL 1)
    (hu : u = (raiseAs 1 (rampLimit t) true { code := 0x060b, unitType := 17, inst := c, detail := [5] } t).2)
    (hv : v = updateCeiling { u with power := { u.power with convLimit := n * 40 } }) :
    converterFault c s = if n < 30 then raiseFault { code := 0x050b, unitType := 17, inst := c } v else v := by
  subst hv hu ht hn
  exact if_neg (by rw [healthy]; exact Bool.false_ne_true)
end

/-! ### The reserve (R423-R427) -/

section
variable {s : State}

/-- C_CAL and VBANK are halves of one register: a reading of the voltage leaves the capacitance. -/
theorem get_cCal_set_vbank (canon : Canon s) (v : Nat) :
    (s.set F.PWR_HOLDUP_CAL_VBANK v).get F.PWR_HOLDUP_CAL_C_CAL = s.get F.PWR_HOLDUP_CAL_C_CAL :=
  State.get_set_apart canon (by decide) rfl (by decide)

theorem get_vbank_set_vbank (canon : Canon s) (v : BitVec 16) :
    (s.set F.PWR_HOLDUP_CAL_VBANK v.toNat).get F.PWR_HOLDUP_CAL_VBANK = v.toNat :=
  (State.get_set_same canon (by decide) (by decide)).trans (Nat.mod_eq_of_lt v.isLt)

/-- What `showEnergy` writes of two estimates and their lower. -/
def writeEnergies (ev eq : Nat) (s : State) : State :=
  ((s.set F.PWR_HOLDUP_EST_E_V (min 65535 ev)).set F.PWR_HOLDUP_EST_E_Q (min 65535 eq)).set F.PWR_HOLDUP_USABLE
    (min 65535 (min ev eq))

variable (canon : Canon s) (ev eq : Nat)
include canon

theorem writeEnergies_eV : (writeEnergies ev eq s).get F.PWR_HOLDUP_EST_E_V = min 65535 ev := by
  have fits : min 65535 ev < 2 ^ F.PWR_HOLDUP_EST_E_V.width := Nat.lt_of_le_of_lt (Nat.min_le_left ..) (by decide)
  calc (writeEnergies ev eq s).get F.PWR_HOLDUP_EST_E_V
    _ = ((s.set F.PWR_HOLDUP_EST_E_V (min 65535 ev)).set F.PWR_HOLDUP_EST_E_Q (min 65535 eq)).get F.PWR_HOLDUP_EST_E_V :=
      State.get_set_of_reg_ne (by decide)
    _ = (s.set F.PWR_HOLDUP_EST_E_V (min 65535 ev)).get F.PWR_HOLDUP_EST_E_V :=
      State.get_set_apart (State.set_canon canon) (by decide) (by decide) (by decide)
    _ = min 65535 ev % 2 ^ F.PWR_HOLDUP_EST_E_V.width := State.get_set_same canon (by decide) (by decide)
    _ = min 65535 ev := Nat.mod_eq_of_lt fits

theorem writeEnergies_eQ : (writeEnergies ev eq s).get F.PWR_HOLDUP_EST_E_Q = min 65535 eq := by
  have fits : min 65535 eq < 2 ^ F.PWR_HOLDUP_EST_E_Q.width := Nat.lt_of_le_of_lt (Nat.min_le_left ..) (by decide)
  calc (writeEnergies ev eq s).get F.PWR_HOLDUP_EST_E_Q
    _ = ((s.set F.PWR_HOLDUP_EST_E_V (min 65535 ev)).set F.PWR_HOLDUP_EST_E_Q (min 65535 eq)).get F.PWR_HOLDUP_EST_E_Q :=
      State.get_set_of_reg_ne (by decide)
    _ = min 65535 eq % 2 ^ F.PWR_HOLDUP_EST_E_Q.width :=
      State.get_set_same (State.set_canon canon) (by decide) (by decide)
    _ = min 65535 eq := Nat.mod_eq_of_lt fits

theorem writeEnergies_usable : (writeEnergies ev eq s).get F.PWR_HOLDUP_USABLE = min (min 65535 ev) (min 65535 eq) := by
  refine (State.get_set_same (State.set_canon (State.set_canon canon)) (by decide) (by decide)).trans ?_
  rw [Nat.mod_eq_of_lt (Nat.lt_of_le_of_lt (Nat.min_le_left ..) (by decide))]
  omega
end

theorem regs_showEnergy {s : State} {c v q : Nat} (hc : s.get F.PWR_HOLDUP_CAL_C_CAL = c)
    (hv : s.get F.PWR_HOLDUP_CAL_VBANK = v) (hq : s.power.charge = q) :
    (showEnergy s).regs = (writeEnergies (voltageEnergy c v) (coulombEnergy c q) s).regs := by
  simp only [showEnergy, writeEnergies, hc, hv, hq]

theorem State.get_of_regs {s t : State} (h : s.regs = t.regs) (f : Fld) : s.get f = t.get f := by
  simp only [State.get, State.rd, h]

theorem regs_writeEnergies {s t : State} (h : s.regs = t.regs) (ev eq : Nat) :
    (writeEnergies ev eq s).regs = (writeEnergies ev eq t).regs := by
  simp only [writeEnergies, State.set, State.wr, State.rd, h]

/-- A reading of the bank: the voltage is in the register, the charge is counted, and the estimates follow both. -/
theorem get_readBank {s : State} (canon : Canon s) (vb : BitVec 16) (dq : Int) (f : Fld) : (readBank vb.toNat dq s).get f =
    (writeEnergies (voltageEnergy (s.get F.PWR_HOLDUP_CAL_C_CAL) vb.toNat)
      (coulombEnergy (s.get F.PWR_HOLDUP_CAL_C_CAL) (s.power.charge + dq).toNat) (s.set F.PWR_HOLDUP_CAL_VBANK vb.toNat)).get f := by
  refine State.get_of_regs ((regs_showEnergy ?_ ?_ rfl).trans (regs_writeEnergies rfl _ _)) f
  · exact (State.get_of_regs rfl _).trans (get_cCal_set_vbank canon vb.toNat)
  · exact (State.get_of_regs rfl _).trans (get_vbank_set_vbank canon vb)

section
variable {s : State} {e : Nat}

theorem holdupState_supplied (st : s.get F.PWR_HOLDUP_STATE ≠ 4) : holdupState e s =
    if e < 500 then
      if s.get F.PWR_HOLDUP_STATE = 0 ∨ s.get F.PWR_HOLDUP_STATE = 3 then s
      else raiseFault { code := 0x050a, unitType := 18, inst := 2 }
        (flushJournal ((s.set F.PWR_HOLDUP_STATE 3).set F.PWR_ALARM_HOLDUP_EMPTY 1))
    else if 1200 ≤ e then s.set F.PWR_HOLDUP_STATE 1
    else if e < 1000 ∧ s.get F.PWR_HOLDUP_STATE = 1 then
      setCharger ((s.set F.PWR_HOLDUP_STATE 2).set F.PWR_ALARM_HOLDUP_LOW 1)
    else s := by
  unfold holdupState
  split
  next four => exact absurd four st
  next => rfl

theorem holdupState_alone (st : s.get F.PWR_HOLDUP_STATE = 4) : holdupState e s =
    if 500 ≤ e || s.flag F.PWR_STATUS_AUX_OK then s
    else if (commitStore s).get F.PWR_HOLDUP_CAL_VBANK ≤ 2400 then railLoss (commitStore s) else commitStore s := by
  simp only [holdupState, st]
end

section
variable {t : State} {vb ev eq : Nat} {dq : Int} {s : State} (ht : t = readBank vb dq s)
  (hv : ev = t.get F.PWR_HOLDUP_EST_E_V) (hq : eq = t.get F.PWR_HOLDUP_EST_E_Q)
include ht hv hq

/-- The estimates disagree (R425). -/
theorem estimatorDisagree_acts {u : State}
    (hu : u = (t.set F.PWR_ALARM_ESTIMATOR_DISAGREE 1).set F.PWR_HOLDUP_CAL_PENDING 1)
    (apart : (ev < 500 ∧ 500 ≤ eq) ∨ (eq < 500 ∧ 500 ≤ ev) ∨ (∃ a, t.power.apartSince = some a ∧ a + 1000000000 ≤ t.fet)) :
    estimatorDisagree vb dq s = holdupState (u.get F.PWR_HOLDUP_USABLE) u := by
  subst hu hv hq ht
  refine if_pos ?_
  obtain ⟨low, high⟩ | ⟨low, high⟩ | ⟨a, since, long⟩ := apart
  · exact .inl fun alike => absurd (alike.mp low) (Nat.not_lt.mpr high)
  · exact .inl fun alike => absurd (alike.mpr low) (Nat.not_lt.mpr high)
  · exact .inr (by rw [since, Option.any_some, decide_eq_true long])

theorem estimatorDisagree_agrees (alike : ev < 500 ↔ eq < 500)
    (young : ∀ a, t.power.apartSince = some a → t.fet < a + 1000000000) : estimatorDisagree vb dq s = t := by
  subst hv hq ht
  refine if_neg ?_
  rintro (sides | long)
  · exact sides (propext alike)
  · obtain ⟨a, since, old⟩ := (Option.any_eq_true _ _).mp long
    exact absurd (young a since) (Nat.not_lt.mpr (of_decide_eq_true old))
end

section
variable {s : State} {vb dq : Nat}

theorem holdupCalibration_low (h : vb < 4780 ∨ s.power.fullSince = none) : holdupCalibration vb dq s = s := by
  refine if_pos (h.imp_right fun empty => ?_)
  rw [empty]; rfl

variable {a : Fet} (full : s.power.fullSince = some a)
include full

theorem holdupCalibration_early (early : s.fet < a + 10000000000) : holdupCalibration vb dq s = s := by
  refine if_pos (.inr ?_)
  rw [full, Option.any_some, decide_eq_false (Nat.not_le.mpr early), Bool.not_false]

theorem holdupCalibration_runs {c : Nat} {t : State} (charged : 4780 ≤ vb) (long : a + 10000000000 ≤ s.fet)
    (hc : c = max 1 (min 65535 (dq / 800)))
    (ht : t = (s.set F.PWR_HOLDUP_CAL_C_CAL c).set F.PWR_HOLDUP_CAL_VBANK vb) :
    holdupCalibration vb dq s =
      (showEnergy { t with power := { t.power with charge := c * vb } }).set F.PWR_HOLDUP_CAL_PENDING 0 := by
  subst ht hc
  refine if_neg ?_
  rintro (low | young)
  · exact absurd low (Nat.not_lt.mpr charged)
  · rw [full, Option.any_some, decide_eq_true long] at young
    exact Bool.false_ne_true young
end

/-- Settles O42: the equations above, one for each row of Table 13.1 and each row of Table 13.5. -/
theorem inputsAndCoolingAct : Obligations.InputsAndCoolingAct := by
  unfold Obligations.InputsAndCoolingAct
  intro s
  refine ⟨?main, fun held => liftInput_held held, fun e t last past full ht => liftInput_last last past full ht, ?flush, rfl,
    fun c down => congrArg Host.Outcome.next (converterFault_down down), ?converter, ?change, ?estimates, ?state, ?disagree,
    ?calibration, ?thermal, fun _ => rfl, rfl, rfl⟩
  case main =>
    intro x v t hv ht
    subst hv
    refine ⟨fun low high empty => ?_, fun low high left => ?_, fun low high => ?_, fun low high => ⟨_, rfl, ?_⟩,
      fun low high => ?_, fun low high => ?_, fun low => ?_, fun lost => ?_, fun held => ?_, fun lost => ⟨_, rfl, _, rfl, ?_⟩⟩
    · exact congrArg Host.Outcome.next ((mainInput_full ht (vinBand_full low high)).trans (if_pos (List.isEmpty_iff.mpr empty)))
    · exact congrArg Host.Outcome.next
        ((mainInput_full ht (vinBand_full low high)).trans (if_neg fun empty => left (List.isEmpty_iff.mp empty)))
    · exact congrArg Host.Outcome.next (mainInput_high ht (vinBand_high low high))
    · exact congrArg Host.Outcome.next (mainInput_derate ht (vinBand_derate low high) rfl)
    · exact congrArg Host.Outcome.next (mainInput_low ht (vinBand_low low high))
    · exact congrArg Host.Outcome.next (mainInput_quench ht (vinBand_quench low high))
    · exact congrArg Host.Outcome.next (mainInput_trip ht (vinBand_trip low))
    · exact congrArg Host.Outcome.next (mainInput_lost ht (vinBand_lost lost))
    · exact congrArg Host.Outcome.next (if_pos held)
    · subst ht
      exact congrArg Host.Outcome.next (if_neg (Nat.not_le.mpr lost))
  case flush =>
    rintro l rfl
    rfl
  case converter =>
    intro c n t u v healthy hn ht hu hv
    have fails := converterFault_healthy healthy hn ht hu hv
    exact ⟨fun enough => congrArg Host.Outcome.next (fails.trans (if_neg (Nat.not_lt.mpr enough))),
      fun few => congrArg Host.Outcome.next (fails.trans (if_pos few))⟩
  case change =>
    rintro vb cur dq t rfl
    rfl
  case estimates =>
    rintro vb dq c q u canon hc hq rfl
    subst hc hq
    have canon' : Canon (s.set F.PWR_HOLDUP_CAL_VBANK vb.toNat) := State.set_canon canon
    have eV := (get_readBank canon vb dq _).trans (writeEnergies_eV canon' _ _)
    have eQ := (get_readBank canon vb dq _).trans (writeEnergies_eQ canon' _ _)
    have usable := (get_readBank canon vb dq _).trans (writeEnergies_usable canon' _ _)
    exact ⟨rfl, eV, eQ, usable.trans (congrArg₂ min eV.symm eQ.symm)⟩
  case state =>
    rintro e st rfl
    refine ⟨fun supplied high => ?_, fun full low high => ?_, fun st low => ?_, fun alone kept => ?_,
      fun alone low dark charged => ?_⟩
    · exact (holdupState_supplied supplied).trans ((if_neg (by omega)).trans (if_pos high))
    · exact (holdupState_supplied (by omega)).trans
        ((if_neg (by omega)).trans ((if_neg (by omega)).trans (if_pos ⟨high, full⟩)))
    · exact (holdupState_supplied (by omega)).trans ((if_pos low).trans (if_neg (by omega)))
    · exact (holdupState_alone alone).trans (if_pos (by rw [Bool.or_eq_true, decide_eq_true_eq]; exact kept))
    · refine (holdupState_alone alone).trans ((if_neg ?_).trans (if_neg (Nat.not_le.mpr charged)))
      rw [dark, decide_eq_false (Nat.not_le.mpr low)]
      exact Bool.false_ne_true
  case disagree =>
    intro vb dq t ev eq ht hv hq
    exact ⟨_, rfl, fun apart => congrArg Host.Outcome.next (estimatorDisagree_acts ht hv hq rfl apart),
      fun alike young => congrArg Host.Outcome.next (estimatorDisagree_agrees ht hv hq alike young)⟩
  case calibration =>
    intro vb dq c t hc ht
    exact ⟨fun low => congrArg Host.Outcome.next (holdupCalibration_low low),
      fun a full early => congrArg Host.Outcome.next (holdupCalibration_early full early),
      fun a full charged long => congrArg Host.Outcome.next (holdupCalibration_runs full charged long hc ht)⟩
  case thermal =>
    rintro rep temps all r t t' u u' v w x top rfl rfl rfl rfl rfl rfl rfl rfl rfl rfl rfl
    rfl

end Sys2Proof.Machine

/-!
PROOFS. Statements of 14_bring_up and of the pins of 17_connector_and_pins: power-up, steps, warm phases, reset and power
enable (O43).
-/
namespace Sys2Proof.Machine

/-! ### Power-up (R432, R434) -/

section
variable {s u : State} {pins : Pins} {lockstepOk measured : Bool}

theorem powerUp_powered (powered : s.boot.powered = true) : powerUp pins lockstepOk measured s = s := if_pos powered

variable (off : s.boot.powered = false)
  (hu : u = ((takeStraps pins.role pins.slotId (takePins pins { s with boot := { s.boot with
      powered := true, strapsFrozen := !(!pins.rstL), active := s.boot.defects, holdStart := s.fet } })).set
    F.CHT_RST_STATUS_HELD (if !pins.rstL then 1 else 0)).set F.CHT_STATUS_LOCKSTEP_OK (if lockstepOk then 1 else 0))
include off hu

theorem powerUp_selfCheckFails (fails : lockstepOk = false) : powerUp pins lockstepOk measured s =
    raiseFault { code := 0x0601, unitType := 19 } ((u.set F.CHT_STATUS_FAIL 1).set F.CHT_STATUS_FAIL_CODE 10) := by
  subst fails hu
  exact (if_neg (by rw [off]; exact Bool.false_ne_true)).trans (if_pos rfl)

theorem powerUp_measurementFails (passes : lockstepOk = true) (fails : measured = false) : powerUp pins lockstepOk measured s =
    raiseFault { code := 0x0602, unitType := 19 }
      (((u.set F.CHT_STATUS_FW_MEASURED 0).set F.CHT_STATUS_FAIL 1).set F.CHT_STATUS_FAIL_CODE 1) := by
  subst passes fails hu
  exact (if_neg (by rw [off]; exact Bool.false_ne_true)).trans ((if_neg Bool.false_ne_true).trans (if_pos rfl))

/-- Step 1 completes, and a module strapped as manager starts its drive where it drives by itself. -/
theorem powerUp_completes {v w : State} (passes : lockstepOk = true) (ok : measured = true)
    (hv : v = (loadMgr (loadSerial (loadTime (u.set F.CHT_STATUS_FW_MEASURED 1)))).set F.CHT_STATUS_STEP_DONE 1)
    (hw : w = v.set (F.CHT_BU_TIME_MS 0) (min 65535 (v.fet / 1000000))) : powerUp pins lockstepOk measured s =
      if w.get F.CHT_MGR_STATUS_ACT = 1 ∧ w.flag F.CHT_MGR_CFG_AUTO_DRIVE = true then startDrive w else w := by
  subst passes ok hw hv hu
  exact (if_neg (by rw [off]; exact Bool.false_ne_true)).trans
    ((if_neg Bool.false_ne_true).trans (if_neg Bool.false_ne_true))
end

/-! ### Steps and warm phases (R432, R447) -/

section
variable {s : State} {rep : StepReport}

theorem stepComplete_idle (idle : s.flag F.CHT_STATUS_RUNNING = false) : stepComplete rep s = s :=
  if_pos (by rw [idle, Bool.not_false])

variable (running : s.flag F.CHT_STATUS_RUNNING = true)
include running

theorem stepComplete_cold (cold : s.boot.warmPhase = 0) : stepComplete rep s = coldComplete rep s :=
  (if_neg (by rw [running]; exact Bool.false_ne_true)).trans (if_neg (not_not_intro cold))

theorem stepComplete_warm (warm : s.boot.warmPhase ≠ 0) : stepComplete rep s = warmComplete rep s :=
  (if_neg (by rw [running]; exact Bool.false_ne_true)).trans (if_pos warm)
end

section
variable {s t : State} {rep : StepReport} {r : Nat × State} {k : Nat}

theorem coldComplete_waits (waits : stepOver (stepDone s + 1) rep s = false) : coldComplete rep s = s :=
  if_pos (by rw [waits, Bool.not_false])

variable (hk : k = stepDone s + 1) (done : stepOver k rep s = true) (hr : r = stepEffect k rep s)
include hk done hr

theorem coldComplete_fails (fails : r.1 ≠ 0) : coldComplete rep s = failRun r.1 r.2 := by
  subst hr hk
  exact (if_neg (by rw [done]; exact Bool.false_ne_true)).trans (if_pos fails)

/-- A step that completes is recorded; the run ends there, or its next step starts. -/
theorem coldComplete_passes (passes : r.1 = 0)
    (ht : t = (r.2.set (F.CHT_BU_TIME_MS (k - 1)) (min 65535 rep.ms)).set F.CHT_STATUS_STEP_DONE k) :
    coldComplete rep s = if t.boot.abort || decide (t.boot.runTarget ≤ k) then
        { t.set F.CHT_STATUS_RUNNING 0 with boot := { t.boot with runTarget := 0, abort := false } }
      else startStep (k + 1) t := by
  subst ht hr hk
  exact (if_neg (by rw [done]; exact Bool.false_ne_true)).trans (if_neg (not_not_intro passes))
end

section
variable {s t : State} {rep : StepReport} {r : Nat × State} {ph code : Nat}

theorem warmComplete_waits (second : s.boot.warmPhase = 2) (waits : wakesOver s = false) : warmComplete rep s = s :=
  if_pos ⟨second, by rw [waits, Bool.not_false]⟩

variable (phase : s.boot.warmPhase = ph) (done : ph ≠ 2 ∨ wakesOver s = true)
  (ht : t = if 2 < ph then powerOut (rep.defects.foldl (fun t d => newDefect d t) s) else s) (hr : r = warmEffect ph rep t)
  (hcode : code = if r.1 = 0 ∧ 4 ≤ ph ∧ (serving r.2).length < r.2.get F.CHT_BU_CFG_MIN_FIELDS then 7 else r.1)
include phase done ht hr hcode

/-- A warm phase whose wakes are over ends the re-initialisation, or starts the next phase, or fails. -/
theorem warmComplete_over : warmComplete rep s =
    if code ≠ 0 then failRun code r.2
    else if ph < 6 then
      { r.2.set (F.CHT_BU_TIME_MS (ph - 1)) (min 65535 rep.ms) with boot := { r.2.boot with warmPhase := ph + 1 } }
    else endJobs (fun w => match w with | .warm => true | _ => false) stOk []
      { (r.2.set (F.CHT_BU_TIME_MS (ph - 1)) (min 65535 rep.ms)).set F.CHT_STATUS_RUNNING 0 with
        boot := { r.2.boot with warmPhase := 0 } } := by
  subst hcode hr ht phase
  refine if_neg fun ⟨second, waits⟩ => done.elim (· second) fun woken => ?_
  rw [woken] at waits
  exact Bool.false_ne_true waits
end

/-! ### RST_L and the straps (R433, R446, R517) -/

section
variable {s t u : State}

theorem rstAssert_held (held : s.flag F.CHT_RST_STATUS_HELD = true) : rstAssert s = s := if_pos held

section
variable (free : s.flag F.CHT_RST_STATUS_HELD = false)
  (ht : t = ((s.set F.CHT_RST_STATUS_HELD 1).set F.CHT_RST_STATUS_HOLD_MS 0).set F.CHT_PIN_STATUS_RST_L 0)
  (hu : u = { t with boot := { t.boot with holdStart := t.fet } })
include free ht hu

theorem rstAssert_masked (masked : u.flag F.CHT_RST_PIN_MASK_MASK = true) : rstAssert s = u := by
  subst hu ht
  exact (if_neg (by rw [free]; exact Bool.false_ne_true)).trans (if_pos masked)

theorem rstAssert_resets {v : State} (unmasked : u.flag F.CHT_RST_PIN_MASK_MASK = false)
    (hv : v = { u with boot := { u.boot with strapsFrozen := false } }) : rstAssert s =
      if 2 ≤ stepDone v ∨ v.flag F.CHT_STATUS_RUNNING = true then moduleReset (endRun 2 v) else v := by
  have resets : (2 ≤ stepDone v ∨ v.flag F.CHT_STATUS_RUNNING = true) =
      ((decide (2 ≤ stepDone v) || v.flag F.CHT_STATUS_RUNNING) = true) := by rw [Bool.or_eq_true, decide_eq_true_eq]
  simp only [resets]
  subst hv hu ht
  exact (if_neg (by rw [free]; exact Bool.false_ne_true)).trans (if_neg (by rw [unmasked]; exact Bool.false_ne_true))
end

theorem rstRelease_free (free : s.flag F.CHT_RST_STATUS_HELD = false) : rstRelease s = s := if_pos (by rw [free, Bool.not_false])

theorem rstRelease_held (held : s.flag F.CHT_RST_STATUS_HELD = true)
    (ht : t = (((s.set F.CHT_RST_STATUS_HOLD_MS (holdMs s)).set F.CHT_RST_STATUS_HELD 0).set F.CHT_RST_STATUS_RESET_STUCK 0).set
      F.CHT_PIN_STATUS_RST_L 1) :
    rstRelease s = { t with boot := { t.boot with strapsFrozen := true } } := by
  subst ht
  exact if_neg (by rw [held]; exact Bool.false_ne_true)

theorem resetStuck_long (held : s.flag F.CHT_RST_STATUS_HELD = true) (unmasked : s.flag F.CHT_RST_PIN_MASK_MASK = false)
    (unreported : s.flag F.CHT_RST_STATUS_RESET_STUCK = false) (long : 30000 ≤ holdMs s) :
    resetStuck s = noteAt 5 0 108 19 0 (s.set F.CHT_RST_STATUS_RESET_STUCK 1) :=
  if_pos (by rw [held, unmasked, unreported, decide_eq_true long]; rfl)

theorem resetStuck_none (h : s.flag F.CHT_RST_STATUS_HELD = false ∨ s.flag F.CHT_RST_PIN_MASK_MASK = true ∨
    s.flag F.CHT_RST_STATUS_RESET_STUCK = true ∨ holdMs s < 30000) : resetStuck s = s := by
  refine if_neg ?_
  obtain free | masked | reported | short := h
  · simp [free]
  · simp [masked]
  · simp [reported]
  · simp [short]

theorem strapSample_takes {role slot : Nat} (held : s.flag F.CHT_RST_STATUS_HELD = true)
    (unmasked : s.flag F.CHT_RST_PIN_MASK_MASK = false) (thawed : s.boot.strapsFrozen = false) :
    strapSample role slot s = takeStraps role slot s :=
  if_pos (by rw [held, unmasked, thawed]; rfl)

theorem strapSample_none {role slot : Nat} (h : s.flag F.CHT_RST_STATUS_HELD = false ∨
    s.flag F.CHT_RST_PIN_MASK_MASK = true ∨ s.boot.strapsFrozen = true) : strapSample role slot s = s := by
  refine if_neg ?_
  obtain free | masked | frozen := h
  · simp [free]
  · simp [masked]
  · simp [frozen]
end

/-! ### PWR_EN (R519) -/

section
variable {s t : State} {rstToo : Bool}
  (ht : t = if rstToo then rstAssert (s.set F.CHT_PIN_STATUS_PWR_EN 0) else s.set F.CHT_PIN_STATUS_PWR_EN 0)
include ht

theorem pwrEnDeassert_cold (running : t.flag F.CHT_STATUS_RUNNING = true) (cold : t.boot.warmPhase = 0) :
    pwrEnDeassert rstToo s = powerDown (failRun 3 t) := by
  subst ht
  exact if_pos (by rw [running, cold]; rfl)

section
variable (noRun : t.flag F.CHT_STATUS_RUNNING = false ∨ t.boot.warmPhase ≠ 0)
include noRun

theorem pwrEnDeassert_early (early : stepDone t < 2) : pwrEnDeassert rstToo s = t := by
  subst ht
  refine (if_neg ?_).trans (if_neg (Nat.not_le.mpr early))
  obtain idle | warm := noRun
  · simp [idle]
  · simp [warm]

/-- From step 2 on a module that has quenched powers off at once, one whose ramp is under way when the ramp ends, and another
quenches first. -/
theorem pwrEnDeassert_up (up : 2 ≤ stepDone t) : pwrEnDeassert rstToo s =
    if moduleQuenched t && !t.power.ramps.any (fun r => r.scope == 0) then powerDown t
    else if moduleQuenched t then { t with boot := { t.boot with pwrOffPending := true } }
    else raiseFault { code := 0x0604, access := 7 } { t with boot := { t.boot with pwrOffPending := true } } := by
  subst ht
  refine (if_neg ?_).trans (if_pos up)
  obtain idle | warm := noRun
  · simp [idle]
  · simp [warm]
end
end

/-- Settles O43: the equations above. -/
theorem bringUpRunsStepByStep : Obligations.BringUpRunsStepByStep := by
  unfold Obligations.BringUpRunsStepByStep
  intro s
  refine ⟨fun pins a b powered => congrArg Host.Outcome.next (powerUp_powered powered), ?powerUp,
    fun rep idle => congrArg Host.Outcome.next (stepComplete_idle idle), ?cold, ?waits, ?warm,
    fun held => congrArg Host.Outcome.next (rstAssert_held held), ?assert,
    fun free => congrArg Host.Outcome.next (rstRelease_free free),
    fun t held ht => congrArg Host.Outcome.next (rstRelease_held held ht),
    fun held unmasked unreported long => congrArg Host.Outcome.next (resetStuck_long held unmasked unreported long),
    fun h => congrArg Host.Outcome.next (resetStuck_none h),
    fun role slot => ⟨fun held unmasked thawed => congrArg Host.Outcome.next (strapSample_takes held unmasked thawed),
      fun h => congrArg Host.Outcome.next (strapSample_none h)⟩, ?pwrEn⟩
  case powerUp =>
    rintro pins a b t u v off rfl hu
    exact ⟨fun fails => congrArg Host.Outcome.next (powerUp_selfCheckFails off hu fails),
      fun passes fails => congrArg Host.Outcome.next (powerUp_measurementFails off hu passes fails),
      fun passes ok hv => ⟨_, rfl, congrArg Host.Outcome.next (powerUp_completes off hu passes ok hv rfl)⟩⟩
  case cold =>
    intro rep k r t running cold hk done hr ht
    have steps : stepComplete rep s = coldComplete rep s := stepComplete_cold running cold
    refine ⟨fun fails => ?_, fun passes ends => ?_, fun passes goes more => ?_⟩
    · exact congrArg Host.Outcome.next (steps.trans (coldComplete_fails hk done hr fails))
    · refine congrArg Host.Outcome.next (steps.trans ((coldComplete_passes hk done hr passes ht).trans (if_pos ?_)))
      rw [Bool.or_eq_true, decide_eq_true_eq]
      exact ends
    · refine congrArg Host.Outcome.next (steps.trans ((coldComplete_passes hk done hr passes ht).trans (if_neg ?_)))
      rw [goes, decide_eq_false (Nat.not_le.mpr more)]
      exact Bool.false_ne_true
  case waits =>
    rintro rep running (⟨cold, waits⟩ | ⟨second, waits⟩)
    · exact congrArg Host.Outcome.next ((stepComplete_cold running cold).trans (coldComplete_waits waits))
    · exact congrArg Host.Outcome.next
        ((stepComplete_warm running (by rw [second]; decide)).trans (warmComplete_waits second waits))
  case warm =>
    intro rep ph t r code running phase warm done ht hr hcode
    have ends : stepComplete rep s = _ :=
      (stepComplete_warm running (by rw [phase]; exact warm)).trans (warmComplete_over phase done ht hr hcode)
    refine ⟨fun fails => ?_, fun passes => ⟨_, rfl, fun more => ?_, fun last => ?_⟩⟩
    · exact congrArg Host.Outcome.next (ends.trans (if_pos fails))
    · exact congrArg Host.Outcome.next (ends.trans ((if_neg (not_not_intro passes)).trans (if_pos more)))
    · exact congrArg Host.Outcome.next (ends.trans ((if_neg (not_not_intro passes)).trans (if_neg (Nat.not_lt.mpr last))))
  case assert =>
    intro t u free ht hu
    exact ⟨fun masked => congrArg Host.Outcome.next (rstAssert_masked free ht hu masked),
      fun unmasked => ⟨_, rfl, congrArg Host.Outcome.next (rstAssert_resets free ht hu unmasked rfl)⟩⟩
  case pwrEn =>
    intro rstToo t ht
    refine ⟨fun running cold => congrArg Host.Outcome.next (pwrEnDeassert_cold ht running cold),
      fun noRun early => congrArg Host.Outcome.next (pwrEnDeassert_early ht noRun early), fun noRun up => ?_⟩
    have acts := pwrEnDeassert_up ht noRun up
    refine ⟨fun quenched done => ?_, fun u hu => ⟨fun quenched ramping => ?_, fun awake => ?_⟩⟩
    · exact congrArg Host.Outcome.next (acts.trans (if_pos (by rw [quenched, done]; rfl)))
    · rw [hu]
      exact congrArg Host.Outcome.next
        (acts.trans ((if_neg (by rw [quenched, ramping]; exact Bool.false_ne_true)).trans (if_pos quenched)))
    · have noQuench : ¬ moduleQuenched t = true := by rw [awake]; exact Bool.false_ne_true
      rw [hu]
      exact congrArg Host.Outcome.next (acts.trans ((if_neg (by rw [awake]; exact Bool.false_ne_true)).trans (if_neg noQuench)))

end Sys2Proof.Machine

/-!
PROOFS. Statements of 15_faults_and_silent_errors on what follows a class 2 fault: the rerun, the repeat checks, and the
notices of other modules (O45).
-/
namespace Sys2Proof.Machine

/-! ### Rerun and repeat checks (R477, R478) -/

section
variable {s t u : State} {p : Nat}

theorem rerunStart_early (early : rerunDue s p = false) : rerunStart p s = s := if_pos (by rw [early, Bool.not_false])

theorem rerunStart_due {recs : List FaultRec} {lanes : Nat} (due : rerunDue s p = true)
    (hrecs : recs = (s.part p).rerunRecs.filterMap (recordOf s)) (hlanes : lanes = recs.foldl (fun m r => m ||| r.ev.lanes) 0)
    (ht : t = recs.foldl (fun t r => rewriteUnit r (rewriteWord r t)) (s.forEach (partServing s p) repairField))
    (hu : u = markStep p (fun k => { k with lanes := lanes }) ((t.set (F.FLT_RERUN_LANES p) lanes).set (F.FLT_RERUN_EZERO p)
      (min 4095 ((partServing s p).map (fun f => (s.fieldD f).poison.length)).sum))) :
    rerunStart p s = u.setPart p { u.part p with rerun := true } := by
  subst hu ht hlanes hrecs
  exact if_neg (by rw [due]; exact Bool.false_ne_true)
end

section
variable {s t u : State} {idx : Nat} {again : Bool} {r : FaultRec} {x : Bool × State}

theorem repeatCheck_unknown (unknown : recordOf s idx = none) : repeatCheck idx again s =
    s.forEach ([1, 2, 3, 4, 5, 6, 7].filter (fun p => (s.part p).rerun)) (fun p t => endCheck p idx t) := by
  simp only [repeatCheck, unknown]

theorem repeatCheck_settled (found : recordOf s idx = some r) (settled : checkable s r = false) : repeatCheck idx again s = s := by
  simp only [repeatCheck, found]
  exact if_pos (by rw [settled, Bool.not_false])

/-- A check that ends classifies its record, acts on a permanent fault, and takes the record out of its rerun. -/
theorem repeatCheck_ends (found : recordOf s idx = some r) (checks : checkable s r = true)
    (ht : t = { s with log := { s.log with
      history := s.log.history.filter (fun x => x.part != r.ev.part || decide ((recurrence s r).step < x.step + 255))
        ++ [recurrence s r] } })
    (hx : x = reread r again t) (hu : u = markRecord r.ev.part idx (permanentNow x.2 r x.1) x.2) {v : State}
    (hv : v = endCheck r.ev.part idx (if permanentNow x.2 r x.1 then permanentAction r u else u)) :
    repeatCheck idx again s =
      if checksByTiles r.ev.code then sentinelResidue r.ev.collector r.ev.inst v else v := by
  subst hv hu hx ht
  simp only [repeatCheck, found]
  exact if_neg (by rw [checks]; exact Bool.false_ne_true)
end

/-! ### Notices (R471, R487) -/

section
variable {s t : State} {port : Fin 64} {hdr : Frame} {n : Notice}

/-- A notice that its frame delivers is handed to the Port die agent. -/
theorem noticeFrame_delivered (k : State → State) (delivered : Delivered port hdr s t) (cls : hdr.cls = 2) :
    noticeFrame port hdr k s = k t :=
  (receiveFrame_delivered delivered _ _).trans (if_pos (beq_iff_eq.mpr cls))

theorem quenchNoticeReceive_dropped (h : n.kind ≠ 0 ∨ noticePart n = false ∨ noticeSeen t n = true) :
    quenchNoticeReceive port n t = t := by
  refine if_pos ?_
  obtain other | system | seen := h
  · simp [other]
  · simp [system]
  · simp [seen]

theorem genNoticeReceive_dropped (h : n.kind ≠ 1 ∨ noticePart n = false ∨ noticeSeen t n = true) :
    genNoticeReceive port n t = t := by
  refine if_pos ?_
  obtain other | system | seen := h
  · simp [other]
  · simp [system]
  · simp [seen]

variable (tenant : noticePart n = true) (fresh : noticeSeen t n = false)
include tenant fresh

/-- A quench notice that is new quenches the tenant where it runs, without a notice of its own, and goes on. -/
theorem quenchNoticeReceive_new (kind : n.kind = 0) : quenchNoticeReceive port n t = forwardNotice port n
    (if partState t n.part = 2 ∨ partState t n.part = 3 then
      (raiseAs 3 (rampLimit t) false
        { code := 0x0605, part := n.part, collector := 100 + port.val / 8, unitType := 15, inst := port, access := 4
          master := 6 * 2 ^ 29 + 8 * n.origin, detail := leNats n.origin 3 ++ [0] ++ leNats n.index 4 } t).2
    else t) :=
  if_neg (by rw [kind, tenant, fresh]; decide)

/-- A generation notice that is new takes effect at its FET in a tenant that has quenched, is noted in one that runs, and
goes on. -/
theorem genNoticeReceive_new (kind : n.kind = 1) : genNoticeReceive port n t = forwardNotice port n
    (if partState t n.part = 4 then
      if n.fet ≤ t.fet then genApply (n.part, n.gen % 256, n.fet) t
      else { t with log := { t.log with genPending := t.log.genPending ++ [(n.part, n.gen % 256, n.fet)] } }
    else if partState t n.part = 3 then noteAt 5 n.part (100 + port.val / 8) 15 port t
    else t) :=
  if_neg (by rw [kind, tenant, fresh]; decide)
end

/-- Settles O45: the equations above. -/
theorem rerunsAndNoticesTakeEffect : Obligations.RerunsAndNoticesTakeEffect := by
  unfold Obligations.RerunsAndNoticesTakeEffect
  intro s
  refine ⟨fun p early => congrArg Host.Outcome.next (rerunStart_early early),
    fun p recs lanes t u due hrecs hlanes ht hu => congrArg Host.Outcome.next (rerunStart_due due hrecs hlanes ht hu),
    fun idx again r found settled => congrArg Host.Outcome.next (repeatCheck_settled found settled),
    fun idx again r t u x found checks ht hx hu =>
      ⟨_, rfl, congrArg Host.Outcome.next (repeatCheck_ends found checks ht hx hu rfl)⟩,
    fun idx again unknown => congrArg Host.Outcome.next (repeatCheck_unknown unknown), ?notices⟩
  intro port hdr n t delivered cls
  have quench : noticeFrame port hdr (quenchNoticeReceive port n) s = quenchNoticeReceive port n t :=
    noticeFrame_delivered _ delivered cls
  have gen : noticeFrame port hdr (genNoticeReceive port n) s = genNoticeReceive port n t :=
    noticeFrame_delivered _ delivered cls
  refine ⟨fun dropped => congrArg Host.Outcome.next (quench.trans (quenchNoticeReceive_dropped dropped)),
    fun kind tenant fresh => ?quenches,
    fun dropped => congrArg Host.Outcome.next (gen.trans (genNoticeReceive_dropped dropped)),
    fun kind tenant fresh => ?generation⟩
  case quenches =>
    have acts := quench.trans (quenchNoticeReceive_new (port := port) tenant fresh kind)
    refine ⟨fun notReady notRunning => ?_, fun live => ?_⟩
    · exact congrArg Host.Outcome.next (acts.trans (congrArg (forwardNotice port n) (if_neg (not_or.mpr ⟨notReady, notRunning⟩))))
    · exact congrArg Host.Outcome.next (acts.trans (congrArg (forwardNotice port n) (if_pos live)))
  case generation =>
    have acts := gen.trans (genNoticeReceive_new (port := port) tenant fresh kind)
    refine ⟨fun quenched come => ?_, fun quenched later => ?_, fun running => ?_, fun notRunning notQuenched => ?_⟩
    · exact congrArg Host.Outcome.next
        (acts.trans (congrArg (forwardNotice port n) ((if_pos quenched).trans (if_pos come))))
    · exact congrArg Host.Outcome.next
        (acts.trans (congrArg (forwardNotice port n) ((if_pos quenched).trans (if_neg (Nat.not_le.mpr later)))))
    · exact congrArg Host.Outcome.next
        (acts.trans (congrArg (forwardNotice port n) ((if_neg (by rw [running]; decide)).trans (if_pos running))))
    · exact congrArg Host.Outcome.next
        (acts.trans (congrArg (forwardNotice port n) ((if_neg notQuenched).trans (if_neg notRunning))))

end Sys2Proof.Machine

/-!
PROOFS. Statements of 16_manager_role on the drive: the GO that ends phase D4 (O46).
-/
namespace Sys2Proof.Machine

/-! ### The end of phase D4 (R497, O46) -/

section
variable {s : State} {l : List MemberReply} {expired : Bool}

/-- The end of phase D4: the model sends GO to the members that stand at STEP_DONE 6, and to no member beyond it. -/
theorem drivePhase_four (driving : s.flag F.CHT_MGR_STATUS_DRIVING = true) (manager : isManager s = true)
    (runs : chitinRuns s = true) (done : phaseOver (answered s l) expired s = true) (goes : s.mgr.abort = false)
    (four : s.mgr.phase = 4) : drivePhase l expired s = endD4 (answered s l) s := by
  refine (if_neg (by rw [driving, manager, runs]; decide)).trans ((if_neg (by rw [done]; decide)).trans
    ((if_neg (by rw [goes]; decide)).trans ?_))
  simp only [four]

/-- What the statement comes to for the end of phase D4: every member that goes on is sent GO. -/
theorem endD4_of_managerDrivesPollsAndProxies (h : Obligations.ManagerDrivesPollsAndProxies)
    (driving : s.flag F.CHT_MGR_STATUS_DRIVING = true) (manager : isManager s = true) (runs : chitinRuns s = true)
    (done : phaseOver (answered s l) expired s = true) (goes : s.mgr.abort = false) (four : s.mgr.phase = 4)
    {t : State} (ht : t = keepMembers (answered s l) s.mgr.driven (fun m => decide (6 ≤ memberStep m)) s) :
    endD4 (answered s l) s = toPhase 5 (sendGo 10 t.mgr.driven t) := by
  obtain ⟨-, drives, -⟩ := h s
  obtain ⟨-, -, ends⟩ := drives l expired driving manager runs
  obtain ⟨-, -, endsFour, -⟩ := ends done goes
  exact (drivePhase_four driving manager runs done goes four).symm.trans (Host.Outcome.next.inj (endsFour t four ht))
end

/-- An acting manager at position 0 of its ring in phase D4 of a drive, whose one member is at position 1. -/
def inPhaseFour : State :=
  (((({ State.reset with
    boot := { State.reset.boot with powered := true }
    mgr := { State.reset.mgr with phase := 4, driven := [1] } } : State).set F.CHT_MGR_STATUS_ACT 1).set
      F.CHT_MGR_STATUS_DRIVING 1).wr R.CHT_MGR_TMAP0 0x8000)

/-- The member answers that it stands at STEP_DONE 7, one step beyond the target of D4. -/
def beyondSix : MemberReply := { t := 1, chtStatus := 0x70000000 }

/-- Refutes O46: the member has passed STEP_DONE 6, so that the model sends it no GO; the statement sends one to every member that
goes on. -/
theorem not_managerDrivesPollsAndProxies : ¬ Obligations.ManagerDrivesPollsAndProxies := by
  intro h
  have sentBoth := congrArg (fun t => t.out.length) (endD4_of_managerDrivesPollsAndProxies h (s := inPhaseFour) (l := [beyondSix])
    (expired := true) (by decide) (by decide) (by decide) (by decide) (by decide) (by decide) rfl)
  have sentByModel : (endD4 (answered inPhaseFour [beyondSix]) inPhaseFour).out.length = 0 := by decide
  have sentByStatement : (toPhase 5 (sendGo 10 (keepMembers (answered inPhaseFour [beyondSix]) inPhaseFour.mgr.driven
    (fun m => decide (6 ≤ memberStep m)) inPhaseFour).mgr.driven (keepMembers (answered inPhaseFour [beyondSix])
      inPhaseFour.mgr.driven (fun m => decide (6 ≤ memberStep m)) inPhaseFour))).out.length = 1 := by decide
  exact absurd (sentByModel.symm.trans (sentBoth.trans sentByStatement)) (by decide)

end Sys2Proof.Machine

/-!
PROOFS. Statements of 17_connector_and_pins on the rack bus, boundary scan and Chitin's rail (O49), and what the latch serves in
lock (O50).
-/
namespace Sys2Proof.Machine

/-! ### The rack bus (R528-R530) -/

section
variable {s : State} {off v : Word}

section
variable (down : busUp s = false)
include down

theorem busRegRead_down : busRegRead off s = s := if_pos (by rw [down, Bool.not_false])
theorem busRegWrite_down {pec : Bool} : busRegWrite off v pec s = s := if_pos (by rw [down, Bool.not_false])
theorem busSummary_down : busSummary s = s := if_pos (by rw [down, Bool.not_false])
theorem busLastStatus_down : busLastStatus s = s := if_neg (by rw [down]; exact Bool.false_ne_true)
theorem alertResponse_down : alertResponse s = s := if_neg (by rw [down]; exact Bool.false_ne_true)
theorem smbusTimeout_down : smbusTimeout s = s := if_neg (by rw [down]; exact Bool.false_ne_true)
end

section
variable (up : busUp s = true)
include up

theorem busRegRead_unlocked (unlocked : locked s = false) : busRegRead off s = (readReg .rackBus off.toNat 4 s).2.2.emit
    (.rackStatus (readReg .rackBus off.toNat 4 s).2.1 (leBytes (readReg .rackBus off.toNat 4 s).1 4)) :=
  (if_neg (by rw [up]; exact Bool.false_ne_true)).trans (if_neg (by rw [unlocked]; exact Bool.false_ne_true))

theorem busRegRead_latched (lock : locked s = true) (served : latchReads off.toNat = true) : busRegRead off s =
    (readHere .rackBus off.toNat s).2.emit (.rackStatus 0 (leBytes (readHere .rackBus off.toNat s).1.toNat 4)) :=
  (if_neg (by rw [up]; exact Bool.false_ne_true)).trans ((if_pos lock).trans (if_pos served))

theorem busRegRead_refused (lock : locked s = true) (unserved : latchReads off.toNat = false) : busRegRead off s =
    ({ s with freeIdx := s.freeIdx + 1 } : State).emit (.rackStatus 1 (leBytes (Config.freeWord s.freeIdx).toNat 4)) :=
  (if_neg (by rw [up]; exact Bool.false_ne_true)).trans
    ((if_pos lock).trans (if_neg (by rw [unserved]; exact Bool.false_ne_true)))

theorem busRegWrite_badPec : busRegWrite off v false s = s.count F.CHT_SMB_CFG_PEC_ERRS 1 :=
  (if_neg (by rw [up]; exact Bool.false_ne_true)).trans (if_pos rfl)

theorem busRegWrite_locked (lock : locked s = true) :
    busRegWrite off v true s = { s with bus := { s.bus with lastStatus := 2 } } :=
  (if_neg (by rw [up]; exact Bool.false_ne_true)).trans ((if_neg Bool.false_ne_true).trans (if_pos lock))

theorem busRegWrite_unlocked {x : Nat × State} (unlocked : locked s = false)
    (hx : x = writeReg .rackBus off.toNat 4 v.toNat true s) :
    busRegWrite off v true s = { x.2 with bus := { x.2.bus with lastStatus := x.1 } } := by
  subst hx
  exact (if_neg (by rw [up]; exact Bool.false_ne_true)).trans
    ((if_neg Bool.false_ne_true).trans (if_neg (by rw [unlocked]; exact Bool.false_ne_true)))

theorem busSummary_up {data : Nat → List Byte}
    (hdata : data = fun off => leBytes (viewWord s .rackBus off &&& readMask off).toNat 4) :
    busSummary s = (s.set F.PWR_DRAW_PEAK 0).emit
      (.rackStatus 0 (data R.CHT_STATUS ++ data R.FLT_STATUS ++ data R.PWR_DRAW ++ data R.FLT_LOCK)) := by
  subst hdata
  exact if_neg (by rw [up]; exact Bool.false_ne_true)

theorem busLastStatus_up : busLastStatus s = s.emit (.rackStatus s.bus.lastStatus []) := if_pos up

theorem alertResponse_driven (unlocked : locked s = false) (enabled : s.flag F.CHT_SMB_CFG_ARA_EN = true)
    (driven : alertDriven s = true) : alertResponse s = s.emit (.ara (0x50 + s.get F.CHT_STRAP_SLOT_ID % 16)) :=
  if_pos (by rw [up, unlocked, enabled, driven]; rfl)

theorem smbusTimeout_up :
    smbusTimeout s = { s.count F.CHT_SMB_CFG_TIMEOUTS 1 with bus := { s.bus with lastStatus := 0 } } := if_pos up
end

theorem alertResponse_none (h : locked s = true ∨ s.flag F.CHT_SMB_CFG_ARA_EN = false ∨ alertDriven s = false) :
    alertResponse s = s := by
  refine if_neg ?_
  obtain lock | disabled | quiet := h
  · simp [lock]
  · simp [disabled]
  · simp [quiet]
end

/-! ### Boundary scan (R532) -/

section
variable {s : State} {ir : TapIr}

theorem tapLoad_none (h : s.boot.powered = false ∨ locked s = true) : tapLoad ir s = s := by
  refine if_pos ?_
  obtain off | lock := h
  · simp [off]
  · simp [lock]

variable (powered : s.boot.powered = true) (unlocked : locked s = false)
include powered unlocked

theorem tapLoad_bypass (drives : drivesPins ir = true) (up : chitinOnly s = false) :
    tapLoad ir s = note 5 0 0 { s with bus := { s.bus with tapIr := .bypass, tapDriving := false } } :=
  (if_neg (by rw [powered, unlocked]; decide)).trans (if_pos (by rw [drives, up]; rfl))

theorem tapLoad_loads (h : drivesPins ir = false ∨ chitinOnly s = true) : tapLoad ir s =
    ({ s with bus := { s.bus with tapIr := ir, tapDriving := drivesPins ir } } : State).emit
      (.tap ir (if ir = .idcode then some 0x0088a0b3 else none)) := by
  refine (if_neg (by rw [powered, unlocked]; decide)).trans (if_neg ?_)
  obtain quiet | only := h
  · simp [quiet]
  · simp [only]
end

/-! ### Chitin's rail (R474) -/

section
variable {α : Type} [DecidableEq α] {d : Nat → α} {f : α → α}

/-- Entries with keys above one leave it alone. -/
theorem AMap.get_foldl_put_above (l a : AMap α) {j k : Nat} (above : AMap.above k l = true) (below : j ≤ k) :
    AMap.get d (l.foldl (fun a e => AMap.put d a e.1 (f e.2)) a) j = AMap.get d a j := by
  induction l generalizing a with
  | nil => rfl
  | cons e l ih =>
    obtain ⟨i, v⟩ := e
    simp only [AMap.above, Bool.and_eq_true, decide_eq_true_eq] at above
    exact (ih _ above.2).trans (AMap.get_put_ne a i j (f v) (by omega))

/-- Every entry of a canonical table, put changed into another table. -/
theorem AMap.get_foldl_put (l a : AMap α) (wf : AMap.wf d l = true) (wfa : AMap.wf d a = true) (k : Nat) :
    AMap.get d (l.foldl (fun a e => AMap.put d a e.1 (f e.2)) a) k =
      if AMap.get d l k = d k then AMap.get d a k else f (AMap.get d l k) := by
  induction l generalizing a with
  | nil => exact (if_pos rfl).symm
  | cons e l ih =>
    obtain ⟨i, v⟩ := e
    simp only [AMap.wf, Bool.and_eq_true, decide_eq_true_eq] at wf
    obtain ⟨⟨stated, above⟩, rest⟩ := wf
    by_cases here : k = i
    · subst here
      have read : AMap.get d ((k, v) :: l) k = v := if_pos rfl
      rw [read, if_neg stated]
      exact (AMap.get_foldl_put_above l _ above (Nat.le_refl k)).trans (AMap.get_put_same a k (f v) wfa)
    · have read : AMap.get d ((i, v) :: l) k = AMap.get d l k := if_neg here
      rw [read, ← AMap.get_put_ne (d := d) a i k (f v) here]
      exact ih _ rest (AMap.wf_put _ _ wfa)

/-- A change of every entry that leaves what an unlisted key reads as is a change of what every key reads as. -/
theorem AMap.get_mapVals {m : AMap α} (wf : AMap.wf d m = true) {k : Nat} (unlisted : f (d k) = d k) :
    AMap.get d (AMap.mapVals d f m) k = f (AMap.get d m k) := by
  refine (AMap.get_foldl_put m [] wf rfl k).trans ?_
  split
  next default => rw [default, unlisted]; rfl
  next => rfl
end

/-- The loss of Chitin's rail keeps of each Vault what is in Tier P. -/
theorem vault_railLoss {s : State} (canon : Canon s) (v : Nat) : (railLoss s).vault v = keepTierP (s.vault v) :=
  AMap.get_mapVals canon.vaults rfl

/-- Settles O49: the equations above. -/
theorem rackBusTapAndRailLoss : Obligations.RackBusTapAndRailLoss := by
  unfold Obligations.RackBusTapAndRailLoss
  intro s
  refine ⟨?down, ?up, fun ir h => congrArg Host.Outcome.next (tapLoad_none h), ?tap, rfl, ?railLoss⟩
  case down =>
    intro down off v pec
    exact ⟨congrArg Host.Outcome.next (busRegRead_down down), congrArg Host.Outcome.next (busRegWrite_down down),
      congrArg Host.Outcome.next (busSummary_down down), congrArg Host.Outcome.next (busLastStatus_down down),
      congrArg Host.Outcome.next (alertResponse_down down), congrArg Host.Outcome.next (smbusTimeout_down down)⟩
  case up =>
    intro up
    exact ⟨fun off unlocked => congrArg Host.Outcome.next (busRegRead_unlocked up unlocked),
      fun off lock served => congrArg Host.Outcome.next (busRegRead_latched up lock served),
      fun off lock unserved => congrArg Host.Outcome.next (busRegRead_refused up lock unserved),
      fun off v => congrArg Host.Outcome.next (busRegWrite_badPec up),
      fun off v lock => congrArg Host.Outcome.next (busRegWrite_locked up lock),
      fun off v x unlocked hx => congrArg Host.Outcome.next (busRegWrite_unlocked up unlocked hx),
      fun v hv => congrArg Host.Outcome.next (busSummary_up up hv),
      congrArg Host.Outcome.next (busLastStatus_up up),
      fun unlocked enabled driven => congrArg Host.Outcome.next (alertResponse_driven up unlocked enabled driven),
      fun h => congrArg Host.Outcome.next (alertResponse_none h),
      congrArg Host.Outcome.next (smbusTimeout_up up)⟩
  case tap =>
    intro ir powered unlocked
    exact ⟨fun drives up => congrArg Host.Outcome.next (tapLoad_bypass powered unlocked drives up),
      fun h => congrArg Host.Outcome.next (tapLoad_loads powered unlocked h)⟩
  case railLoss =>
    refine ⟨railLoss s, rfl, rfl, rfl, rfl, rfl, rfl, rfl, rfl, rfl, rfl, rfl, rfl, fun canon v => ?_⟩
    rw [vault_railLoss canon v]
    exact ⟨rfl, rfl, rfl⟩

/-! ### The latch in lock (R531, O50) -/

/-- The registers that the latch serves in lock. -/
def latchRegs : List Nat :=
  [R.FLT_LOCK, R.CHT_STRAP, R.CHT_SERIAL 0, R.CHT_SERIAL 1, R.CHT_SERIAL 2, R.CHT_SERIAL 3, R.CHT_RST_STATUS]

theorem latchReads_iff (n : Nat) : latchReads n = true ↔ n ∈ latchRegs := by
  have same : List.Perm [0x34, 0xe0, 0xe4, 0xe8, 0xec, 0xc, 0x3001c] latchRegs := by decide
  exact List.contains_iff_mem.trans same.mem_iff

/-- None of them is a half of a pair, or a draw with a peak. -/
theorem latchRegs_plain : ∀ n ∈ latchRegs, pairLo n = none ∧ pairHi n = none ∧ drawPeak n = none := by decide

/-- A read of a register that is no half of a pair, and no draw with a peak, changes nothing (R545). -/
theorem readHere_plain {via : Path} {o : Nat} {s : State} (single : pairLo o = none) (alone : pairHi o = none)
    (noPeak : drawPeak o = none) : readHere via o s = (viewWord s via o &&& readMask o, s) := by
  simp only [readHere, single, alone, noPeak]

/-- Settles O50: the registers that the latch serves read without a side effect. -/
theorem latchServesTheRackBusInLock : Obligations.LatchServesTheRackBusInLock := by
  unfold Obligations.LatchServesTheRackBusInLock
  intro s up lock
  refine ⟨fun v hv => ⟨congrArg Host.Outcome.next (busSummary_up up hv), fun off served => ?_⟩, fun off unserved => ?_,
    fun off w => ⟨_, congrArg Host.Outcome.next (busRegWrite_locked up lock), rfl, ?_⟩⟩
  · obtain ⟨single, alone, noPeak⟩ := latchRegs_plain off.toNat served
    have read := busRegRead_latched up lock ((latchReads_iff off.toNat).mpr served)
    rw [readHere_plain single alone noPeak] at read
    subst hv
    exact congrArg Host.Outcome.next read
  · have refused : latchReads off.toNat = false :=
      Bool.eq_false_iff.mpr fun served => unserved ((latchReads_iff off.toNat).mp served)
    exact ⟨_, congrArg Host.Outcome.next (busRegRead_refused up lock refused)⟩
  · exact congrArg Host.Outcome.next (busLastStatus_up (s := { s with bus := { s.bus with lastStatus := 2 } }) up)

end Sys2Proof.Machine

/-!
PROOFS. Statements of 18_address_map: what a read changes (O51).
-/
namespace Sys2Proof.Machine

/-! ### Draws and pairs -/

/-- The fields that a read clears (R545). -/
def PeakField (f : Fld) : Prop := f = F.PWR_DRAW_PEAK ∨ ∃ p, p < 8 ∧ f = F.PRT_DRAW_PEAK p

/-- The last local offset that a row covers. -/
theorem RegRow.le_of_covers {r : RegRow} {o : Nat} (h : r.covers o = true) : o ≤ r.off + r.stride * (r.count - 1) := by
  simp only [RegRow.covers, Bool.and_eq_true, decide_eq_true_eq, beq_iff_eq] at h
  obtain ⟨⟨from_, whole⟩, inside⟩ := h
  have reached : o - r.off = r.stride * ((o - r.off) / r.stride) :=
    (Nat.mul_div_cancel' (Nat.dvd_of_mod_eq_zero whole)).symm
  have last : r.stride * ((o - r.off) / r.stride) ≤ r.stride * (r.count - 1) := Nat.mul_le_mul_left _ (by omega)
  omega

/-- The partitions' window ends with the last register of partition 7. -/
theorem prtRows_lt {r : Nat} (assigned : (rowAt prtRows r).isSome = true) : r < 0x300 := by
  obtain ⟨row, found⟩ := Option.isSome_iff_exists.mp assigned
  have ends : ∀ row ∈ prtRows, row.off + row.stride * (row.count - 1) < 0x300 := by decide
  have covers : row.covers r = true := List.find?_some (p := fun x : RegRow => x.covers r) found
  exact Nat.lt_of_le_of_lt (RegRow.le_of_covers covers) (ends row (List.mem_of_find?_eq_some found))

/-- Where a read clears a peak. -/
theorem drawPeak_some {o : Nat} {f : Fld} (peak : drawPeak o = some f) :
    (winOf o = (.power, 0x14) ∧ f = F.PWR_DRAW_PEAK) ∨
      ∃ r, winOf o = (.partitions, r) ∧ 0x100 ≤ r ∧ f = F.PRT_DRAW_PEAK ((r - 0x100) / 0x40) := by
  unfold drawPeak at peak
  split at peak
  next power => exact .inl ⟨power, (Option.some.inj peak).symm⟩
  next r partitions =>
    split at peak
    next row => exact .inr ⟨r, partitions, row.1, (Option.some.inj peak).symm⟩
    next => cases peak
  next => cases peak

theorem peakField_of_drawPeak {o : Nat} {f : Fld} (assigned : (regRow o).isSome = true) (peak : drawPeak o = some f) :
    PeakField f := by
  obtain ⟨-, rfl⟩ | ⟨r, window, low, rfl⟩ := drawPeak_some peak
  · exact .inl rfl
  · have high : r < 0x300 := by
      rw [regRow, window] at assigned
      exact prtRows_lt assigned
    exact .inr ⟨_, by omega, rfl⟩

/-- The lower half of a pair is no draw. -/
theorem drawPeak_of_pair {o : Nat} (pair : pairHi o ≠ none) : drawPeak o = none := by
  rw [Option.eq_none_iff_forall_ne_some]
  intro f peak
  obtain ⟨window, -⟩ | ⟨r, window, -⟩ := drawPeak_some peak
  · exact pair (by simp [pairHi, window])
  · exact pair (by simp [pairHi, window])

theorem drawPeak_pwrDraw : drawPeak R.PWR_DRAW = some F.PWR_DRAW_PEAK := by decide

theorem drawPeak_prtDraw {p : Nat} (hp : p < 8) : drawPeak (R.PRT_DRAW p) = some (F.PRT_DRAW_PEAK p) := by
  have all : ∀ p < 8, drawPeak (R.PRT_DRAW p) = some (F.PRT_DRAW_PEAK p) := by decide
  exact all p hp

theorem regRow_of_place {via : Path} {off o : Nat} (placed : place via off = some o) : (regRow o).isSome = true := by
  unfold place at placed
  split at placed
  · cases placed
  · dsimp only at placed
    split at placed
    · split at placed
      next assigned =>
        obtain rfl := Option.some.inj placed
        exact (Bool.and_eq_true_iff.mp assigned).1
      next => cases placed
    · cases placed

/-! ### Latches (R542) -/

/-- A latch set leaves every other latch: those of other requesters, and those of other pairs. -/
theorem latched_setLatch_other {s : State} {via via' : Path} {lo lo' : Nat} {hi : Word} (other : via' ≠ via ∨ lo' ≠ lo) :
    latched { s with latches := setLatch via lo hi s.latches } via' lo' = latched s via' lo' := by
  have apart : ∀ e : Path × Nat × Word, (e.1 == via' && e.2.1 == lo') = true → (e.1 == via && e.2.1 == lo) = false := by
    intro e named
    simp only [Bool.and_eq_true, beq_iff_eq] at named
    obtain ⟨rfl, rfl⟩ := named
    exact Bool.and_eq_false_iff.mpr (other.imp beq_eq_false_iff_ne.mpr beq_eq_false_iff_ne.mpr)
  have kept : (s.latches.filter (fun e => !(e.1 == via && e.2.1 == lo))).find? (fun e => e.1 == via' && e.2.1 == lo') =
      s.latches.find? (fun e => e.1 == via' && e.2.1 == lo') := by
    rw [List.find?_filter]
    refine congrArg (fun p => s.latches.find? p) (funext fun e => ?_)
    cases named : (e.1 == via' && e.2.1 == lo') with
    | false => simp only [Bool.false_eq_true, and_false, decide_false]
    | true => simp only [apart e named, Bool.not_false, and_self, decide_true]
  have unnamed : [(via, lo, hi)].find? (fun e => e.1 == via' && e.2.1 == lo') = none := by
    refine List.find?_eq_none.mpr fun e he named => ?_
    have same := apart e named
    rw [List.mem_singleton.mp he] at same
    simp only [beq_self_eq_true, Bool.and_self, Bool.true_eq_false] at same
  simp only [latched, setLatch, List.find?_append, kept, unnamed, Option.or_none]

/-! ### What a read of a register leaves -/

section
variable {via : Path} {o : Nat} {s : State}

theorem readHere_noPeak (noPeak : drawPeak o = none) : (readHere via o s).2.regs = s.regs := by
  simp only [readHere, noPeak]
  split <;> rfl

theorem readHere_peak {f : Fld} (peak : drawPeak o = some f) : (readHere via o s).2.regs = (s.set f 0).regs := by
  simp only [readHere, peak]
  split <;> rfl

theorem readHere_rest : ({ (readHere via o s).2 with regs := s.regs, latches := s.latches } : State) = s := by
  unfold readHere
  dsimp only
  split <;> split <;> rfl

theorem readHere_single (single : pairHi o = none) : (readHere via o s).2.latches = s.latches := by
  simp only [readHere, single]
  split <;> rfl

theorem readHere_pair {hi : Nat} (pair : pairHi o = some hi) :
    (readHere via o s).2.latches = setLatch via o (viewWord s via hi) s.latches := by
  simp only [readHere, pair]
  split <;> rfl

theorem latched_of_latches {t : State} (same : t.latches = s.latches) (lo : Nat) : latched t via lo = latched s via lo := by
  simp only [latched, same]

theorem readHere_latched {via' : Path} {lo : Nat} (other : via' ≠ via ∨ lo ≠ o) :
    latched (readHere via o s).2 via' lo = latched s via' lo := by
  cases pair : pairHi o with
  | none => exact latched_of_latches (readHere_single pair) lo
  | some hi => exact (latched_of_latches (readHere_pair pair) lo).trans (latched_setLatch_other other)
end

/-! ### What an aligned read of four bytes leaves -/

/-- A read that passes its filter changes what is emitted alone, or what a read of the register placed there changes. -/
theorem busRead_cases {via : Path} {off : Nat} {s : State} (aligned : off % 4 = 0) (passed : filtered s via false off = false) :
    (∃ l, busRead via off 4 s = { s with out := l }) ∨
      ∃ o l, place via off = some o ∧ busRead via off 4 s = { (readHere via o s).2 with out := l } := by
  unfold busRead
  split
  · exact .inl ⟨s.out, rfl⟩
  next carried =>
    split
    next lock =>
      have served : latchReads off = true := by
        by_contra unserved
        simp [lock, unserved] at carried
      obtain ⟨single, alone, noPeak⟩ := latchRegs_plain off ((latchReads_iff off).mp served)
      rw [readHere_plain single alone noPeak]
      exact .inl ⟨_, rfl⟩
    next =>
      rw [readReg_word aligned]
      cases answered : answers s off with
      | false =>
        have silent : accessRead via off s = (0xffffffff, 1, s) := by simp [accessRead, passed, answered]
        rw [silent]
        exact .inl ⟨_, rfl⟩
      | true =>
        cases placed : place via off with
        | none =>
          have unassigned : accessRead via off s = (0, 0, s) := by simp [accessRead, passed, answered, placed]
          rw [unassigned]
          exact .inl ⟨_, rfl⟩
        | some o =>
          rw [accessRead_placed passed answered placed]
          exact .inr ⟨o, _, rfl, rfl⟩

/-- What a read may change beside what is emitted: the latches of its requester, and one peak. -/
structure ReadReach (via : Path) (s t : State) : Prop where
  rest : ({ t with regs := s.regs, latches := s.latches, out := s.out } : State) = s
  others : ∀ via' lo, via' ≠ via → latched t via' lo = latched s via' lo
  regs : t.regs = s.regs ∨ ∃ f, PeakField f ∧ t.regs = (s.set f 0).regs

theorem busRead_reach {via : Path} {off : Nat} {s : State} (aligned : off % 4 = 0) (passed : filtered s via false off = false) :
    ReadReach via s (busRead via off 4 s) := by
  obtain ⟨l, same⟩ | ⟨o, l, placed, reads⟩ := busRead_cases aligned passed
  · rw [same]
    exact ⟨rfl, fun _ _ _ => rfl, .inl rfl⟩
  · rw [reads]
    refine ⟨?rest, fun via' lo other => readHere_latched (.inl other), ?regs⟩
    case rest => exact congrArg (fun t => ({ t with out := s.out } : State)) readHere_rest
    case regs =>
      cases peak : drawPeak o with
      | none => exact .inl (readHere_noPeak peak)
      | some f => exact .inr ⟨f, peakField_of_drawPeak (regRow_of_place placed) peak, readHere_peak peak⟩

/-- A read of the lower half of a pair changes no register, and no other latch. -/
theorem busRead_pair {via : Path} {off reg : Nat} {s : State} (aligned : off % 4 = 0)
    (passed : filtered s via false off = false) (placed : place via off = some reg) (pair : pairHi reg ≠ none) :
    (busRead via off 4 s).regs = s.regs ∧ ∀ lo, lo ≠ reg → latched (busRead via off 4 s) via lo = latched s via lo := by
  obtain ⟨l, same⟩ | ⟨o, l, there, reads⟩ := busRead_cases aligned passed
  · rw [same]
    exact ⟨rfl, fun _ _ => rfl⟩
  · obtain rfl : o = reg := Option.some.inj (there.symm.trans placed)
    rw [reads]
    exact ⟨readHere_noPeak (drawPeak_of_pair pair), fun lo other => readHere_latched (.inr other)⟩

/-- A read that reaches a draw clears its peak. -/
theorem busRead_clears {via : Path} {off reg : Nat} {f : Fld} {s : State} (canon : Canon s) (aligned : off % 4 = 0)
    (passed : filtered s via false off = false) (up : pathUp s via = true) (unlatched : latchOnly s via = false)
    (answered : answers s off = true) (placed : place via off = some reg) (peak : drawPeak reg = some f)
    (order : f.lo ≤ f.hi) (room : f.hi ≤ 31) : (busRead via off 4 s).get f = 0 := by
  rw [busRead_open up unlatched, readReg_word aligned, accessRead_placed passed answered placed]
  exact (State.get_of_regs (readHere_peak peak) f).trans ((State.get_set_same canon order room).trans (Nat.zero_mod _))

theorem State.rd_of_regs {s t : State} (h : s.regs = t.regs) (off : Nat) : s.rd off = t.rd off := by
  simp only [State.rd, h]

section
variable {via : Path} {s t : State} (reach : ReadReach via s t)
include reach

theorem ReadReach.rd_other {reg : Nat} (module : reg ≠ R.PWR_DRAW) (parts : ∀ p, p < 8 → reg ≠ R.PRT_DRAW p) :
    t.rd reg = s.rd reg := by
  obtain same | ⟨f, rfl | ⟨p, hp, rfl⟩, cleared⟩ := reach.regs
  · exact State.rd_of_regs same reg
  · exact (State.rd_of_regs cleared reg).trans (AMap.get_put_ne _ _ _ _ module)
  · exact (State.rd_of_regs cleared reg).trans (AMap.get_put_ne _ _ _ _ (parts p hp))

theorem ReadReach.rd_pwrDraw : t.rd R.PWR_DRAW = s.rd R.PWR_DRAW ∨ t.rd R.PWR_DRAW = (s.set F.PWR_DRAW_PEAK 0).rd R.PWR_DRAW := by
  obtain same | ⟨f, rfl | ⟨p, hp, rfl⟩, cleared⟩ := reach.regs
  · exact .inl (State.rd_of_regs same _)
  · exact .inr (State.rd_of_regs cleared _)
  · have apart : R.PWR_DRAW ≠ R.PRT_DRAW p := by unfold R.PWR_DRAW R.PRT_DRAW; omega
    exact .inl ((State.rd_of_regs cleared _).trans (AMap.get_put_ne _ _ _ _ apart))

theorem ReadReach.rd_prtDraw (p : Nat) : t.rd (R.PRT_DRAW p) = s.rd (R.PRT_DRAW p) ∨
    t.rd (R.PRT_DRAW p) = (s.set (F.PRT_DRAW_PEAK p) 0).rd (R.PRT_DRAW p) := by
  obtain same | ⟨f, rfl | ⟨q, hq, rfl⟩, cleared⟩ := reach.regs
  · exact .inl (State.rd_of_regs same _)
  · have apart : R.PRT_DRAW p ≠ R.PWR_DRAW := by unfold R.PWR_DRAW R.PRT_DRAW; omega
    exact .inl ((State.rd_of_regs cleared _).trans (AMap.get_put_ne _ _ _ _ apart))
  · by_cases e : p = q
    · subst e
      exact .inr (State.rd_of_regs cleared _)
    · have apart : R.PRT_DRAW p ≠ R.PRT_DRAW q := by unfold R.PRT_DRAW; omega
      exact .inl ((State.rd_of_regs cleared _).trans (AMap.get_put_ne _ _ _ _ apart))
end

/-! ### What an answer leaves of the partitions' registers -/

/-- The registers of the partitions' window read as before. -/
def KeepsPrt (s t : State) : Prop := ∀ off, 0x40000 ≤ off → off < 0x50000 → t.rd off = s.rd off

section
variable {a s t : State}

theorem KeepsPrt.refl (s : State) : KeepsPrt s s := fun _ _ _ => rfl

section
variable (h : KeepsPrt a s)
include h

/-- Registers are all that it speaks of. -/
theorem KeepsPrt.same (regs : t.regs = s.regs) : KeepsPrt a t :=
  fun off low high => (State.rd_of_regs regs off).trans (h off low high)

theorem KeepsPrt.log (l : LogState) : KeepsPrt a { s with log := l } := h.same rfl

theorem KeepsPrt.wr {off : Nat} {w : Word} (outside : off < 0x40000 ∨ 0x50000 ≤ off) : KeepsPrt a (s.wr off w) :=
  fun o low high => (AMap.get_put_ne _ _ _ _ (by omega)).trans (h o low high)

theorem KeepsPrt.set {f : Fld} {v : Nat} (outside : f.reg < 0x40000 ∨ 0x50000 ≤ f.reg) : KeepsPrt a (s.set f v) := h.wr outside

theorem KeepsPrt.ite {p : Prop} [Decidable p] (k : KeepsPrt a t) : KeepsPrt a (if p then t else s) := by
  split
  · exact k
  · exact h

theorem KeepsPrt.forEach {l : List Nat} {g : Nat → State → State} (k : ∀ e t, e ∈ l → KeepsPrt a t → KeepsPrt a (g e t)) :
    KeepsPrt a (s.forEach l g) := by
  induction l generalizing s with
  | nil => exact h
  | cons e l ih => exact ih (k e s List.mem_cons_self h) (fun x t hx => k x t (List.mem_cons_of_mem _ hx))

/-! The record of a note (R461, R462): class 0 captures nothing. -/

theorem countEvent_keepsPrt {ev : FaultEvent} (collector : ev.collector < 109) : KeepsPrt a (countEvent 0 ev s) := by
  refine KeepsPrt.log (s := s.count (F.FLT_C_CNT0_CLASS0 ev.collector) 1) (h.set (.inl ?_)) _
  simp only [F.FLT_C_CNT0_CLASS0, R.FLT_C_CNT0]
  omega

theorem shiftFrom_keepsPrt {k : Nat} : KeepsPrt a (shiftFrom k s) := by
  unfold shiftFrom
  refine KeepsPrt.ite (KeepsPrt.forEach (KeepsPrt.forEach ?journal ?parts) ?firsts) h
  case journal => exact h.same rfl
  case parts => exact fun p t _ ht => ht.same rfl
  case firsts =>
    intro c t hc ht
    have collector := List.mem_range.mp hc
    exact ht.wr (.inl (by unfold R.FLT_C_FIRST; omega))

theorem overflow_keepsPrt : KeepsPrt a (overflow s) := by
  unfold overflow
  split
  · exact h
  · refine KeepsPrt.log (countEvent_keepsPrt h ?_) _
    decide

theorem recordNote_keepsPrt {ev : FaultEvent} (collector : ev.collector < 109) : KeepsPrt a (recordFault 0 ev s).2 := by
  have counted := countEvent_keepsPrt h collector
  unfold recordFault
  generalize countEvent 0 ev s = c at counted ⊢
  dsimp only
  split
  · exact counted.log _
  · split
    · exact overflow_keepsPrt counted
    next l _ =>
      have shifted := shiftFrom_keepsPrt (k := placeOf c ev)
        (counted.log { c.log with recs := l })
      exact (shifted.wr (off := R.FLT_LOG_HEAD) (.inl (by decide))).log _

/-! Sequence numbers, replies kept and replies sent (R370, R372, R376, R377). -/

theorem setNext_keepsPrt {src : Source} {n : BitVec 32} : KeepsPrt a (setNext src n s) := by
  unfold setNext
  split
  next ep q fn => exact h.wr (by unfold R.CHT_Q_SEQ; omega)
  next => exact h.same rfl

theorem advance_keepsPrt {src : Source} {seq : BitVec 32} : KeepsPrt a (advance src seq s) := by
  unfold advance
  refine setNext_keepsPrt ?_
  split
  · exact h
  · exact h.same rfl

theorem ringFailed_keepsPrt {ep : Fin 2} {q : Fin 8} : KeepsPrt a (ringFailed ep q s) := by
  have stopped : KeepsPrt a (s.set (F.CHT_Q_STATUS_ERR ep q) 1) :=
    h.set (by simp only [F.CHT_Q_STATUS_ERR, R.CHT_Q_STATUS]; omega)
  exact recordNote_keepsPrt stopped (show 108 < 109 by decide)

theorem ringReply_keepsPrt {ep : Fin 2} {q : Fin 8} {src : Source} {opcode : Nat} {r : Reply} {more : Bool} :
    KeepsPrt a (ringReply ep q src opcode r more s) := by
  unfold ringReply
  dsimp only
  split
  · exact h
  · split
    · exact (h.same rfl).set (by simp only [F.CHT_Q_STATUS_CQ_FULL, R.CHT_Q_STATUS]; omega)
    · split
      · exact ringFailed_keepsPrt h
      · split
        · split
          · exact h.same rfl
          · exact h.same rfl
        · split
          · exact h.same rfl
          · exact h.same rfl

theorem sendFrame_keepsPrt {fr : Frame} : KeepsPrt a (sendFrame fr s) := by
  unfold sendFrame
  split
  next n dl _ =>
    unfold enqueue
    split
    · exact h.set (.inr (by simp only [F.SNL_DROP_CNT1_DARK, R.SNL_DROP_CNT1]; omega))
    · exact h.same rfl
  next => exact h

theorem replyPacket_keepsPrt {src : Source} {opcode : Nat} {r : Reply} {more : Bool} :
    KeepsPrt a (replyPacket src opcode r more s) := by
  unfold replyPacket
  split
  · exact ringReply_keepsPrt h
  · exact sendFrame_keepsPrt h
  · exact h.same rfl

theorem sendPackets_keepsPrt {src : Source} {opcode : Nat} {r : Reply} {l : List (List Byte)} :
    KeepsPrt a (sendPackets src opcode r l s) := by
  induction l generalizing s with
  | nil => exact h
  | cons p l ih =>
    cases l with
    | nil => exact replyPacket_keepsPrt h
    | cons q l => exact ih (replyPacket_keepsPrt h)

theorem replied_keepsPrt {op : Nat} {r : Request} {status : Nat} {result : List Byte} :
    KeepsPrt a (replied op r status result s) := by
  have stored : KeepsPrt a (storeReply r.src
      { seq := r.seq, token := r.token, status := status, rfet := (advance r.src r.seq s).fet, result := result, part := reqPart r }
      (advance r.src r.seq s)) := (advance_keepsPrt h).same rfl
  exact sendPackets_keepsPrt stored
end
end

/-- A reply leaves a field of the partitions' window. -/
theorem get_replied {op : Nat} {r : Request} {status : Nat} {result : List Byte} {s : State} {f : Fld} (low : 0x40000 ≤ f.reg)
    (high : f.reg < 0x50000) : (replied op r status result s).get f = s.get f :=
  congrArg (fun w => Word.field w f.hi f.lo) (replied_keepsPrt (KeepsPrt.refl s) f.reg low high)

/-- Settles O51: a read clears at most the peak of the draw it reads, SUMMARY that of the module, and PART_QUERY that of its
partition, which its reply leaves. -/
theorem readsChangeOnlyPeaksAndLatches : Obligations.ReadsChangeOnlyPeaksAndLatches := by
  unfold Obligations.ReadsChangeOnlyPeaksAndLatches
  intro s canon
  refine ⟨?reads, ?summary, ?query⟩
  case reads =>
    intro via off c t listed ran aligned passed
    have read : busRead via off 4 s = t := by
      simp only [List.mem_cons, List.not_mem_nil, or_false] at listed
      obtain rfl | rfl := listed
      · exact Host.Outcome.next.inj ran
      · exact Host.Outcome.next.inj ran
    subst read
    have reach := busRead_reach aligned passed
    exact ⟨fun reg => reach.rd_other, reach.rd_pwrDraw, fun p _ => reach.rd_prtDraw p, reach.rest, reach.others,
      fun reg => busRead_pair aligned passed, fun up unlatched answered =>
        ⟨fun placed => busRead_clears canon aligned passed up unlatched answered placed drawPeak_pwrDraw (by decide) (by decide),
         fun p hp placed => busRead_clears canon aligned passed up unlatched answered placed (drawPeak_prtDraw hp)
          (show 16 ≤ 31 by decide) (show 31 ≤ 31 by decide)⟩⟩
  case summary =>
    intro up
    exact ⟨_, congrArg Host.Outcome.next (busSummary_up up rfl),
      (State.get_set_same canon (f := F.PWR_DRAW_PEAK) (v := 0) (by decide) (by decide)).trans (Nat.zero_mod _)⟩
  case query =>
    intro r request
    obtain ⟨-, -, -, -, -, asks, -⟩ := askingOpcodesAnswer r 0 s
    have inPart : reqPart r < 8 := Nat.mod_lt _ (by decide)
    have canonIn : Canon (readIn r s) := (readIn_keeps (Keeps.refl s)).canon canon
    refine ⟨_, asks request, (get_replied ?low ?high).trans
      ((State.get_set_same canonIn (show 16 ≤ 31 by decide) (show 31 ≤ 31 by decide)).trans (Nat.zero_mod _))⟩
    case low => simp only [F.PRT_DRAW_PEAK, R.PRT_DRAW]; omega
    case high => simp only [F.PRT_DRAW_PEAK, R.PRT_DRAW]; omega

end Sys2Proof.Machine
